-- ==== Sys2Proof/Word.lean ====
section
/-! DEFINITION. The word types of the unit (R5, R9) and the plainest readings of them. -/

namespace Sys2Proof

/-- A byte is 8 bits. -/
abbrev Byte := BitVec 8

/-- A word, and every register, is 32 bits (R5). -/
abbrev Word := BitVec 32

/-- A doubleword, and every Dollith instruction word (R99), is 64 bits. -/
abbrev DWord := BitVec 64

end Sys2Proof
end

