-- ==== Sys2Proof/Syntax.lean ====
section
/-! DEFINITION. The commands: one constructor of `Instr` per row of the opcode table, with the operands each one carries.
An operand is what reaches the unit from outside at that step (the value a register write carries, a level on a ball, a
sample of a converter, a measured time); everything else a command needs is in the state. -/

namespace Sys2Proof

/-- The compute lanes (R14). -/
inductive Lane where
  | A | B | W
  deriving DecidableEq, Repr

/-- The drive lanes: the ones that own axes, pump ports, phase cells and a star (R14). -/
inductive DLane where
  | A | B
  deriving DecidableEq, Repr

/-- A drive lane as a lane. -/
def DLane.lane : DLane → Lane
  | .A => .A
  | .B => .B

/-- The four fault collectors (R353). -/
inductive Coll where
  | lane (l : Lane)
  | skink
  deriving DecidableEq, Repr

/-- The memories that report ECC errors (R74, R446, R452, R476). -/
inductive EccMem where
  | localMem
  | cache
  | coreSram
  | dram
  | mram
  | retention
  | canRam (k : Fin 4)
  deriving DecidableEq, Repr

/-- How a safe output's load side reads back (R539): low below 2.0 V, high above 6.0 V, neither between. -/
inductive Readback where
  | low | high | neither
  deriving DecidableEq, Repr

/-- An SCN frame as a receiver sees it (R384, R385): EtherType, header, the bytes that follow it, padding included, and whether the FCS
fits. `rsv` holds the reserved bits: bytes 4 and 5 [11:10], then bytes 7 and 8 [12:11], then bytes 12 and 13. -/
structure ScnFrame where
  eth : BitVec 16 := 0x88b5
  ver : Fin 16 := 1
  kind : Nat
  netid : BitVec 8
  cycle : BitVec 16
  mode : Fin 8
  mreqv : Bool
  slot : Nat           -- 1,023: a dynamic frame
  sender : BitVec 8
  mreq : Fin 8
  dynid : BitVec 8
  seq : BitVec 16
  len : Nat            -- LEN
  rsv : BitVec 20 := 0
  hcrc : BitVec 16
  body : List Byte
  fcsOk : Bool := true
  deriving DecidableEq, Repr

/-- A CAN frame as a controller receives it (R427). -/
structure CanFrame where
  id : BitVec 29
  ide : Bool
  rtr : Bool
  esi : Bool
  dlc : Fin 16
  brs : Bool
  fdf : Bool
  resRecessive : Bool  -- the res bit of an FD frame was recessive (R423)
  data : List Byte
  deriving DecidableEq, Repr

/-- A SENT frame as the receiver sees it (R179, R180): the calibration pulse in ns, the status nibble, the data nibbles and the CRC nibble
as decoded (a value above 15 is an undecodable nibble), and the pause pulse in ticks (0: none). -/
structure SentIn where
  calNs : Nat
  status : Nat
  nibbles : List Nat
  crc : Nat
  pauseTicks : Nat
  deriving DecidableEq, Repr

/-- Where an interrupt arrival comes from (R482). -/
inductive IcEdge where
  | edge       -- an edge of an edge source
  | onset      -- the synchronised level rises
  | deassert   -- the synchronised level falls
  deriving DecidableEq, Repr

/-- One constructor per row of the opcode table. -/
inductive Instr where
  -- Feeds, start, configuration and unit time base
  | feedStart (f : DLane)
  | feedValidLost (f : DLane)
  | feedsBelowReset
  | laneResetRelease (l : Lane) (rail : Fin 7) (vhibLow : Bool)
  | railFaultReset (l : Lane) (rail : Fin 7)
  | imageCheckDone (l : Lane) (accepted : Bool) (version : Fin 65) (keySlot : Fin 4) (cfgDigest : BitVec 256) (headerDigest : BitVec 256)
  | logScanDone (l : Lane)
  | startIncomplete
  | chorusTimeout
  | chorusCmpTestDone (pass : Bool)
  | startSweepDone (l : Lane) (failed : List (Fin 72))
  | cfgStartWrite (l : Lane) (v : Word)
  | cfgDataWrite (l : Lane) (v : Word)
  | digestWrite (l : Lane) (n : Fin 8) (v : Word)
  | cfgHashDone
  | regParityError
  -- the period that ends, as each lane measures it, in ns; the axes whose PWM counter is not at H (R18, R133)
  | beacon (periodA periodB periodW : Nat) (slipped : List (DLane × Fin 6))
  | wakePin (n : Fin 4)
  | rtcAlarm
  | hibFeedSample (belowA belowB : Bool)
  | vorLow
  | hibPowerOnReset
  | temperatureThreshold (l : Lane) (t : Int)
  | dramFillDone (l : Lane)
  | scrubRead (l : Lane)
  | memoryEccError (l : Lane) (m : EccMem) (addr : Nat) (uncorrectable : Bool)
  -- Input exchange and vector
  | inputRecordPost (l : Lane) (contacts : BitVec 32)
  | exchRecordReceive (l : Lane) (skinkClocks : Nat)
  | exchDeadline
  | exchAbsentRun (l : Lane)
  | vectorReady (l : Lane)
  | siViewDiff (l : Lane) (i : Fin 16)
  -- Loop-engine jobs
  | triggerFire (l : Lane) (src : Fin 64)
  | pendingTriggerStart (l : Lane) (src : Fin 64)
  | jobStallEnd (l : Lane) (j : Fin 256)
  | holdDone (l : Lane) (j : Fin 256)
  | jobEndComplete (l : Lane) (j : Fin 256)
  | jobBudgetExpiry (l : Lane) (j : Fin 256)
  | doorbellWrite (l : Lane) (v : Word)
  | cqHiRead (l : Lane)
  | laneTimerExpiry (l : Lane) (n : Fin 16)
  | machineTimer (l : Lane) (core : Fin 3)
  -- Dollith: slot j of lane l issues the fetched instruction word w, whose opcode and flags select this form (R99, R102)
  | nop (l : Lane) (j : Fin 256) (w : DWord)
  | end_ (l : Lane) (j : Fin 256) (w : DWord)
  | wait (l : Lane) (j : Fin 256) (w : DWord)
  | spawn (l : Lane) (j : Fin 256) (w : DWord)
  | spawnArg (l : Lane) (j : Fin 256) (w : DWord)
  | holdL (l : Lane) (j : Fin 256) (w : DWord)
  | holdO (l : Lane) (j : Fin 256) (w : DWord)
  | holdA (l : Lane) (j : Fin 256) (w : DWord)
  | timeJ (l : Lane) (j : Fin 256) (w : DWord)
  | timeL (l : Lane) (j : Fin 256) (w : DWord)
  | timeH (l : Lane) (j : Fin 256) (w : DWord)
  | brT (l : Lane) (j : Fin 256) (w : DWord)
  | brF (l : Lane) (j : Fin 256) (w : DWord)
  | jmp (l : Lane) (j : Fin 256) (w : DWord)
  | psetCc (l : Lane) (j : Fin 256) (w : DWord)
  | psetCcz (l : Lane) (j : Fin 256) (w : DWord)
  | psetaCc (l : Lane) (j : Fin 256) (w : DWord)
  | psetaCcu (l : Lane) (j : Fin 256) (w : DWord)
  | plog (l : Lane) (j : Fin 256) (w : DWord)
  | ldb (l : Lane) (j : Fin 256) (w : DWord)
  | stb (l : Lane) (j : Fin 256) (w : DWord)
  | lda (l : Lane) (j : Fin 256) (w : DWord)
  | sta (l : Lane) (j : Fin 256) (w : DWord)
  | aopAddi (l : Lane) (j : Fin 256) (w : DWord)
  | aopAdd (l : Lane) (j : Fin 256) (w : DWord)
  | aopSub (l : Lane) (j : Fin 256) (w : DWord)
  | aopSet (l : Lane) (j : Fin 256) (w : DWord)
  | aopAndi (l : Lane) (j : Fin 256) (w : DWord)
  | aopShl (l : Lane) (j : Fin 256) (w : DWord)
  | aopSar (l : Lane) (j : Fin 256) (w : DWord)
  | in_ (l : Lane) (j : Fin 256) (w : DWord)
  | out (l : Lane) (j : Fin 256) (w : DWord)
  | badd (l : Lane) (j : Fin 256) (w : DWord)
  | bsub (l : Lane) (j : Fin 256) (w : DWord)
  | bmul (l : Lane) (j : Fin 256) (w : DWord)
  | bmac (l : Lane) (j : Fin 256) (w : DWord)
  | bmsu (l : Lane) (j : Fin 256) (w : DWord)
  | bdot (l : Lane) (j : Fin 256) (w : DWord)
  | bsum (l : Lane) (j : Fin 256) (w : DWord)
  | bmaxr (l : Lane) (j : Fin 256) (w : DWord)
  | bneg (l : Lane) (j : Fin 256) (w : DWord)
  | babs (l : Lane) (j : Fin 256) (w : DWord)
  | bmin (l : Lane) (j : Fin 256) (w : DWord)
  | bmax (l : Lane) (j : Fin 256) (w : DWord)
  | bclamp (l : Lane) (j : Fin 256) (w : DWord)
  | blerp (l : Lane) (j : Fin 256) (w : DWord)
  | brcp (l : Lane) (j : Fin 256) (w : DWord)
  | brsq (l : Lane) (j : Fin 256) (w : DWord)
  | bnorm (l : Lane) (j : Fin 256) (w : DWord)
  | bexpE (l : Lane) (j : Fin 256) (w : DWord)
  | bexpC (l : Lane) (j : Fin 256) (w : DWord)
  | bexpS (l : Lane) (j : Fin 256) (w : DWord)
  | bperm (l : Lane) (j : Fin 256) (w : DWord)
  | bsplat (l : Lane) (j : Fin 256) (w : DWord)
  | bpick (l : Lane) (j : Fin 256) (w : DWord)
  | bins (l : Lane) (j : Fin 256) (w : DWord)
  | bsetc (l : Lane) (j : Fin 256) (w : DWord)
  | bsel (l : Lane) (j : Fin 256) (w : DWord)
  | bclarke (l : Lane) (j : Fin 256) (w : DWord)
  | bclarke2 (l : Lane) (j : Fin 256) (w : DWord)
  | bpark (l : Lane) (j : Fin 256) (w : DWord)
  | bipark (l : Lane) (j : Fin 256) (w : DWord)
  | bsvm (l : Lane) (j : Fin 256) (w : DWord)
  | bsincos (l : Lane) (j : Fin 256) (w : DWord)
  | batan2 (l : Lane) (j : Fin 256) (w : DWord)
  | tlu (l : Lane) (j : Fin 256) (w : DWord)
  | tluA (l : Lane) (j : Fin 256) (w : DWord)
  | bint (l : Lane) (j : Fin 256) (w : DWord)
  | bintLu (l : Lane) (j : Fin 256) (w : DWord)
  | bfixW (l : Lane) (j : Fin 256) (w : DWord)
  | bfixD (l : Lane) (j : Fin 256) (w : DWord)
  | bfltW (l : Lane) (j : Fin 256) (w : DWord)
  | bfltD (l : Lane) (j : Fin 256) (w : DWord)
  | bfltA (l : Lane) (j : Fin 256) (w : DWord)
  | bconst (l : Lane) (j : Fin 256) (w : DWord)
  -- Axes and drives: c is the PWM counter of R132; r the sinc3 outputs of phases u, v, w (R138); vbus in 2^-12 V
  | axisRecordApply (l : DLane) (n : Fin 6)
  -- n: an axis, or 6 + p for pump port p (R246); forming: the clock is the one in which the values in force were formed (R136)
  | pwmCompareEvent (l : DLane) (n : Fin 8) (ph : Fin 3) (rising : Bool) (c : Nat) (forming : Bool)
  -- vbus: the readings of VBUS0 and VBUS1 (R140)
  | driveUpdate (l : DLane) (n : Fin 6) (centre : Bool) (ru rv rw : Int) (vbus : Nat × Nat)
  -- uv: the magnitude of the shunt voltage in uV, with the counter at c in a half-period (R142)
  | peakTrip (l : DLane) (n : Fin 6) (ph : Fin 3) (rising : Bool) (c : Nat) (uv : Nat)
  | axOvercurrent (l : DLane) (n : Fin 6)
  | axSatLong (l : DLane) (n : Fin 6)
  | axSenseRange (l : DLane) (n : Fin 6)
  | axRecTimeout (l : DLane) (n : Fin 6)
  -- Position feedback: edges, levels and codes as the filters of R161 accept them; rested: Z has been inactive since the last index
  | quadEdge (l : DLane) (n : Fin 6) (both up : Bool) (clock : Nat)
  | indexPulse (l : DLane) (n : Fin 6) (ba : Fin 4) (rested : Bool)
  | fbIndexMissing (l : DLane) (n : Fin 6)
  | hallChange (l : DLane) (n : Fin 6) (code : Fin 8)
  | fbSamplePoint (l : DLane) (n : Fin 6) (atBeacon : Bool) (clock : Nat)
  | ssiReadDone (l : DLane) (n : Fin 6) (lineOk : Bool) (data : Word) (status : BitVec 4)
  | sentFrame (l : DLane) (n : Fin 6) (f : SentIn) (clock : Nat)
  | fbSerialLost (l : DLane) (n : Fin 6)
  | homeWrite (l : DLane) (n : Fin 6)
  | homecancelWrite (l : DLane) (n : Fin 6)
  | homeComplete (l : DLane) (n : Fin 6)
  | homeDrop (l : DLane) (n : Fin 6)
  | compareArm (l : DLane) (n : Fin 6) (j : Fin 8) (v : Word)
  | retentionCheckDone (l : DLane) (n : Fin 6)
  -- Profile generators
  | pgStep (l : DLane) (n : Fin 6)
  | pgMoveCmd (l : DLane) (n : Fin 6)
  | pgVelocityCmd (l : DLane) (n : Fin 6)
  | pgStopCmd (l : DLane) (n : Fin 6)
  | pgGearCmd (l : DLane) (n : Fin 6)
  | pgCancelCmd (l : DLane) (n : Fin 6)
  -- Live calibration: samples are sinc3 outputs at ratio CALOSR, oldest first
  | calStartDone (l : DLane) (n : Fin 6) (zero ref : List (List Int))
  | calRefDone (l : DLane) (n : Fin 6) (zero ref : List Int)
  | calConnect (l : DLane) (n : Fin 6)
  | calOverlapDone (l : DLane) (n : Fin 6) (rl ru : List Int)
  | calSwitch (l : DLane) (n : Fin 6)
  | bemfTrimBit (l : DLane) (p : Fin 2) (ph : Fin 3) (high : Bool)
  | calBemfStale (l : DLane) (p : Fin 2) (ph : Fin 3)
  -- Pump ports: t is a time in DRIVE clocks; epk the largest converter reading since the last crossing, in LSB
  | pumpRecordApply (l : DLane) (p : Fin 2)
  | pumpZcSample (l : DLane) (p : Fin 2) (ph : Fin 3) (high : Bool) (t : Nat) (epk : Nat) (vbus : Nat × Nat)
  | pumpCommutate (l : DLane) (p : Fin 2) (t : Nat)
  | pumpPiUpdate (l : DLane) (p : Fin 2) (vbus : Nat × Nat)
  | pumpIlimTrip (l : DLane) (p : Fin 2) (rising : Bool) (c : Nat) (uv : Nat)
  | ppIlimLong (l : DLane) (p : Fin 2)
  | ppBusHold (l : DLane) (p : Fin 2)
  | pumpCatchTimeout (l : DLane) (p : Fin 2)
  | pumpAlignEnd (l : DLane) (p : Fin 2) (t : Nat)
  | pumpStartTimeout (l : DLane) (p : Fin 2)
  | pumpCoastEnd (l : DLane) (p : Fin 2)
  | pumpBrakeEnd (l : DLane) (p : Fin 2)
  | ppRecTimeout (l : DLane) (p : Fin 2)
  | pumpStopped (l : DLane) (p : Fin 2)
  -- Phase cells: hs says which switch
  | cellShort (l : DLane) (c : Fin 24) (hs : Bool)
  | pcGateStuck (l : DLane) (c : Fin 24) (hs : Bool)
  | pcVgdUvlo (l : DLane)
  | cellUvlo (l : DLane) (c : Fin 24) (hs : Bool)
  | uvloRecover (l : DLane) (sw : Option (Fin 24 × Bool))
  | pcCpLimit (l : DLane)
  | edgeMeasure (l : DLane) (c : Fin 24) (hs : Bool) (ns : Nat)
  | pcAdaptLimit (l : DLane) (c : Fin 24)
  -- Comparison, vote, checkpoints, Axolotl, debug
  | cmpRecordArrive (l : DLane) (xFault yFault : Bool)
  | cmpWindowClose (tag : BitVec 16) (kind : Nat) (index : Nat) (xFault yFault : Bool)
  | cmpDlyFault
  | cmpInjNoRecord
  | voteRecordStore
  | targetedTestDone (l : DLane) (failed : List (Fin 72))
  | ckptGo (l : Lane) (v : Word)
  | ckptXfer (l : Lane) (v : Word)
  | ckptSignaturePost (l : Lane)
  | ckptDeadline
  | verdictWrite (l : Lane) (v : Word)
  | axolotlTimeout
  | xfermaxExpiry
  | debugHalt (l : Lane)
  | debugActivate (l : Lane)
  -- Skink: safe inputs and outputs, ramp, requests, safe data, hold regulator, unit state
  | siLevelAccept (i : Fin 16) (contactB closed : Bool)
  | siDiscrepancy (i : Fin 16)
  | soOffpulseStart (i : Fin 16)
  | soOffpulseEnd (i : Fin 16) (rb : Readback)
  | soReadbackCheck (i : Fin 16) (rb : Readback)
  | rampPeriod
  | holdRelease
  | stateReqPark
  | stateReqHibernate
  | stateReqAxolotl
  | stateReqRestart
  | stateReqStop
  | sdCopyRx (net : Fin 2) (slot : BitVec 10) (sender : BitVec 8) (seq : BitVec 16) (len : Nat) (crc : Word)
  | sdSingle (j : Fin 16)
  | sdTimeout (j : Fin 16)
  | cmdPathLost
  | holdRegPeriod
  | holdHallChange (h : Fin 2) (code : Fin 8)
  | standstillReached
  | speedCapExceeded (l : DLane) (n : Fin 6)
  | ssTimeout
  -- Fault collection
  | faultEventEntry
  | logWrite (l : Lane) (readBackOk : Bool)
  | collectorCheckFail (c : Coll)
  | fcPendAck (l : Lane) (i : Fin 16) (v : Word)
  | fcForceWrite (l : Lane) (i : Fin 16) (v : Word)
  | fcClassWrite (l : Lane) (i : Fin 64) (v : Word)
  | fcLogclr (l : Lane) (v : Word)
  | skfcAck (l : Lane) (v : Word)
  | skfcForce (l : Lane) (v : Word)
  -- Slotted Cycle Network: channel c of lane l; a star is named by its lane; times in ns
  | scnListenTimeout (l : Lane) (c : Fin 2)
  -- guardDev: the signalled cycle start less the guardian's own, in ns (R397)
  | scnCycleStart (l : Lane) (c : Fin 2) (guardDev : Int)
  | scnCycleEnd (l : Lane) (c : Fin 2)
  | scnSlotPrepare (l : Lane) (c : Fin 2) (slot : BitVec 10) (dynid : BitVec 8)
  -- at_: ns from the guardian's cycle start (R396)
  | scnTransmitStart (l : Lane) (c : Fin 2) (at_ : Nat)
  -- k: the number of the mini-slot that begins
  | scnMinislotBoundary (l : Lane) (c : Fin 2) (frameOnLine : Bool) (k : Nat)
  -- sfd: the SFD at the node, in ns from its cycle start
  | scnFrameRx (l : Lane) (c : Fin 2) (f : ScnFrame) (sfd : Int)
  -- sfd: the SFD at the star, in ns from its cycle start for a static frame, from m_j of R393 for a dynamic one
  | starFrameRx (n : DLane) (port : Fin 7) (f : ScnFrame) (sfd : Int)
  -- endAt: the arrival of the frame's last byte, in ns from the star's cycle start
  | starFrameEnd (n : DLane) (endAt : Int)
  | starCycleEnd (n : DLane)
  | starGrantLapse (n : DLane) (slot : BitVec 10)
  | starLinkLoss (n : DLane) (port : Fin 4)
  | starEnWrite (l : Lane) (v : Word)
  | guardianViolation (l : Lane) (c : Fin 2)
  | scnTxCommit (l : Lane) (c : Fin 2) (e : Fin 32) (v : Word)
  | scnTxDrop (l : Lane) (c : Fin 2) (e : Fin 32)
  | scnTxExpiry (l : Lane) (c : Fin 2) (e : Fin 32)
  | scnModeRequest (l : Lane) (c : Fin 2) (v : Word)
  | scnModeCancel (l : Lane) (c : Fin 2)
  | scnSlotTrigger (l : Lane) (n : Fin 16)
  | scnMissCounterRead (l : Lane) (c : Fin 2) (w : Fin 512)
  -- CAN FD: controller k of lane l
  -- sofAgo: ns from the sample point of the SOF to the sixth bit of the end-of-frame field (R437)
  | canRxFrame (l : Lane) (k : Fin 4) (f : CanFrame) (sofAgo : Nat)
  | canReintegrate (l : Lane) (k : Fin 4)
  | canTxCommit (l : Lane) (k : Fin 4) (e : Fin 32) (v : Word)
  | canTxCancel (l : Lane) (k : Fin 4) (e : Fin 32)
  -- meas: the delay to the received FDF-to-res edge, in CAN clocks (R422)
  | canTxStart (l : Lane) (k : Fin 4) (meas : Nat)
  | canTxSuccess (l : Lane) (k : Fin 4)
  | canTxError (l : Lane) (k : Fin 4) (ack : Bool) (dominantSeen : Bool)
  | canRecoverWrite (l : Lane) (k : Fin 4) (v : Word)
  | canRecoveryDone (l : Lane) (k : Fin 4)
  | canFifoRelease (l : Lane) (k : Fin 4) (q : Fin 2) (v : Word)
  | canTtRefSend (l : Lane) (k : Fin 4)
  | canTtWindowStart (l : Lane) (k : Fin 4) (col : Fin 32)
  | canTtRefLost (l : Lane) (k : Fin 4)
  -- Cores, DMA, event recorder
  | xfence (l : Lane) (core : Fin 3)
  | xfenceTimeout (l : Lane) (core : Fin 3)
  | dmaGo (l : Lane) (ch : Fin 16)
  | dmaStop (l : Lane) (ch : Fin 16)
  | dmaDescLoad (l : Lane) (ch : Fin 16)
  | dmaDescComplete (l : Lane) (ch : Fin 16)
  | dmaAbort (l : Lane) (ch : Fin 16) (written : Nat)
  | erRowCapture (l : Lane)
  | erRowSkipped (l : Lane)
  | erFreezeCmd (l : Lane)
  | erReleaseCmd (l : Lane) (v : Word)
  -- Interrupt controller
  | icArrival (l : Lane) (i : Fin 384) (e : IcEdge)
  | icSwset (l : Lane) (core : Fin 3) (hi : Bool) (v : Word)
  | icPresent (l : Lane) (core : Fin 3)
  | icTrapEntry (l : Lane) (core : Fin 3)
  | icEoi (l : Lane) (core : Fin 3) (v : Word)
  | icSrcRead (l : Lane) (core : Fin 3) (src : Fin 448)
  -- Latching reads
  | posLRead (l : Lane) (n : Fin 12)
  | sposLRead (l : DLane) (n : Fin 6)
  | rtcRead (l : Lane)
  | erraddrLRead (l : Lane)
  -- Self-test and crypto
  | bistSliceStart (l : Lane) (slice : Fin 72)
  -- keyOk: after slice 41, the identity key was unwrapped again (R501)
  | bistSliceEnd (l : Lane) (slice : Fin 72) (sigOk restoreOk keyOk : Bool)
  | bistSweepLate (l : Lane)
  | cryAttest (l : Lane)
  | cryInstall (l : Lane)
  | cryCommit (l : Lane)
  | cryAdvance (l : Lane)
  | cryCmdDone (l : Lane) (code : Fin 16) (signature : List Byte)
  -- Enables and other register writes
  | axEnWrite (l : DLane) (n : Fin 6) (v : Word)
  | fbEnWrite (l : DLane) (n : Fin 6) (v : Word)
  | pgEnWrite (l : DLane) (n : Fin 6) (v : Word)
  | ppEnWrite (l : DLane) (p : Fin 2) (v : Word)
  | calEnWrite (l : Lane) (v : Word)
  | xchEnWrite (l : Lane) (v : Word)
  | ckptEnWrite (l : Lane) (v : Word)
  | scnEnWrite (l : Lane) (c : Fin 2) (v : Word)
  | canEnWrite (l : Lane) (k : Fin 4) (v : Word)
  | erEnWrite (l : Lane) (v : Word)
  | bistEnWrite (l : Lane) (v : Word)
  | pcCfgWrite (l : DLane) (ofs : BitVec 12) (v : Word)
  | wakecfgWrite (l : Lane) (v : Word)
  -- size: the access has 2^size bytes, v its low word and hi its high word (R5)
  | registerWrite (l : Lane) (addr : BitVec 40) (v : Word) (size : Fin 4 := 2) (hi : Word := 0)
  -- Rows the table lists last
  | vorValid
  | wakeOneFeedTimeout
  | feedFallsBelowReset (f : DLane)
  | starLinkUp (n : DLane) (port : Fin 4)
  | canRxError (l : Lane) (k : Fin 4) (recAdd : Nat)
  | xfenceDone (l : Lane) (core : Fin 3)
  | skfcAgreeTimeout
  deriving DecidableEq, Repr

end Sys2Proof
end

