-- ==== Sys2Proof/Decode.lean ====
section
/-! DEFINITION. Table words. The rows of the opcode table carry no bits: the unit takes commands, not instruction words. -/

namespace Sys2Proof

/-- The command that a word of nbits bits spells by the opcode table: none, since the table gives no row any bits
(assumption 6). -/
def decodeTableWord (_nbits _w : Nat) : Option Instr := none

end Sys2Proof
end

