-- ==== Sys2Proof/Machine/Fam.lean ====
section
/-! DEFINITION. Sparse families: what the machine holds under a number (registers, bytes of memory, axes, job slots). A family
is a list of (number, value) pairs in one canonical form: numbers strictly rising, and no entry equal to the family's default. -/

namespace Sys2Proof.Machine

/-- The value a family holds at k; d gives what an unlisted number holds. -/
def famGet {α : Type} (d : Nat → α) : List (Nat × α) → Nat → α
  | [], k => d k
  | (a, v) :: t, k => if a = k then v else famGet d t k

/-- The family without an entry at k. -/
def famDel {α : Type} : List (Nat × α) → Nat → List (Nat × α)
  | [], _ => []
  | (a, v) :: t, k => if a = k then famDel t k else (a, v) :: famDel t k

/-- The family with an entry at k, in its place. -/
def famIns {α : Type} : List (Nat × α) → Nat → α → List (Nat × α)
  | [], k, v => [(k, v)]
  | (a, w) :: t, k, v =>
    if a < k then (a, w) :: famIns t k v else if a = k then (k, v) :: t else (k, v) :: (a, w) :: t

/-- The family with v at k: an entry in its place, or no entry where v is what an unlisted k holds. -/
def famSet {α : Type} [DecidableEq α] (d : Nat → α) : List (Nat × α) → Nat → α → List (Nat × α)
  | [], k, v => if v = d k then [] else [(k, v)]
  | (a, w) :: t, k, v =>
    if a < k then (a, w) :: famSet d t k v
    else if v = d k then famDel ((a, w) :: t) k
    else if a = k then (k, v) :: t else (k, v) :: (a, w) :: t

/-- The family without the entries whose number lies from lo to below hi. -/
def famClear {α : Type} : List (Nat × α) → Nat → Nat → List (Nat × α)
  | [], _, _ => []
  | (a, v) :: t, lo, hi => if lo ≤ a ∧ a < hi then famClear t lo hi else (a, v) :: famClear t lo hi

/-- Every number of the list lies above b, and the numbers rise strictly. -/
def famRising {α : Type} : Option Nat → List (Nat × α) → Bool
  | _, [] => true
  | none, (a, _) :: t => famRising (some a) t
  | some b, (a, _) :: t => decide (b < a) && famRising (some a) t

/-- No entry equals what its number holds unlisted. -/
def famTight {α : Type} [DecidableEq α] (d : Nat → α) : List (Nat × α) → Bool
  | [] => true
  | (a, v) :: t => decide (v ≠ d a) && famTight d t

/-- The canonical form of a family. -/
def famWf {α : Type} [DecidableEq α] (d : Nat → α) (l : List (Nat × α)) : Bool :=
  famRising none l && famTight d l

end Sys2Proof.Machine
end

