-- ==== Sys2Proof/Machine/Digest.lean ====
section
/-! DEFINITION. The check sums and digests the unit computes: CRC-32 (R315), CRC-32C, and SHA-256 (FIPS 180-4). -/

namespace Sys2Proof.Machine

open Sys2Proof

/-- One bit of a reflected CRC-32. -/
def crcBit (poly c : Word) : Word := if c.getLsbD 0 then (c >>> 1) ^^^ poly else c >>> 1

/-- One byte of a reflected CRC-32. -/
def crcByte (poly c : Word) (b : Byte) : Word :=
  let f := crcBit poly
  f (f (f (f (f (f (f (f (c ^^^ b.setWidth 32))))))))

/-- The CRC-32 of R315: reflected 0x04C1_1DB7, initial value and final XOR all ones. -/
def crc32 (bs : List Byte) : Word := bs.foldl (crcByte 0xedb88320) 0xffffffff ^^^ 0xffffffff

/-- CRC-32C: reflected 0x1EDC_6F41, initial value and final XOR all ones (R302, R343). -/
def crc32c (bs : List Byte) : Word := bs.foldl (crcByte 0x82f63b78) 0xffffffff ^^^ 0xffffffff

/-- Word i, from the left, of a number that packs n words. -/
def packedWord (n x i : Nat) : Word := BitVec.ofNat 32 (x / 2 ^ (32 * (n - 1 - i)))

/-- The round constants of SHA-256, K_0 leftmost: the first 32 bits of the fractional parts of the cube roots of the first 64
primes (R331). -/
def shaK : Nat :=
  [0x428a2f9871374491b5c0fbcfe9b5dba53956c25b59f111f1923f82a4ab1c5ed5,
   0xd807aa9812835b01243185be550c7dc372be5d7480deb1fe9bdc06a7c19bf174,
   0xe49b69c1efbe47860fc19dc6240ca1cc2de92c6f4a7484aa5cb0a9dc76f988da,
   0x983e5152a831c66db00327c8bf597fc7c6e00bf3d5a7914706ca635114292967,
   0x27b70a852e1b21384d2c6dfc53380d13650a7354766a0abb81c2c92e92722c85,
   0xa2bfe8a1a81a664bc24b8b70c76c51a3d192e819d6990624f40e3585106aa070,
   0x19a4c1161e376c082748774c34b0bcb5391c0cb34ed8aa4a5b9cca4f682e6ff3,
   0x748f82ee78a5636f84c878148cc7020890befffaa4506cebbef9a3f7c67178f2].foldl (fun x y => x * 2 ^ 256 + y) 0

/-- The chaining state of SHA-256. -/
structure ShaSt where
  a : Word
  b : Word
  c : Word
  d : Word
  e : Word
  f : Word
  g : Word
  h : Word
  deriving DecidableEq, Repr

/-- The initial hash value: the same of the square roots of the first eight primes. -/
def shaInit : ShaSt :=
  let h := packedWord 8 0x6a09e667bb67ae853c6ef372a54ff53a510e527f9b05688c1f83d9ab5be0cd19
  ⟨h 0, h 1, h 2, h 3, h 4, h 5, h 6, h 7⟩

/-- A rotation to the right. -/
def rotr (x : Word) (n : Nat) : Word := (x >>> n) ||| (x <<< (32 - n))

/-- The message schedule, newest word first, extended by n words. -/
def shaExt : Nat → List Word → List Word
  | 0, ws => ws
  | n + 1, ws =>
    let w2 := ws.getD 1 0
    let w15 := ws.getD 14 0
    let s0 := rotr w15 7 ^^^ rotr w15 18 ^^^ (w15 >>> 3)
    let s1 := rotr w2 17 ^^^ rotr w2 19 ^^^ (w2 >>> 10)
    shaExt n ((ws.getD 15 0 + s0 + ws.getD 6 0 + s1) :: ws)

/-- One round. -/
def shaRound (x : ShaSt) (k w : Word) : ShaSt :=
  let s1 := rotr x.e 6 ^^^ rotr x.e 11 ^^^ rotr x.e 25
  let t1 := x.h + s1 + ((x.e &&& x.f) ^^^ (~~~x.e &&& x.g)) + k + w
  let s0 := rotr x.a 2 ^^^ rotr x.a 13 ^^^ rotr x.a 22
  let t2 := s0 + ((x.a &&& x.b) ^^^ (x.a &&& x.c) ^^^ (x.b &&& x.c))
  ⟨t1 + t2, x.a, x.b, x.c, x.d + t1, x.e, x.f, x.g⟩

/-- One block of sixteen words. -/
def shaBlock (x : ShaSt) (ws : List Word) : ShaSt :=
  let all := (shaExt 48 ws.reverse).reverse
  let y := (all.zipIdx).foldl (fun z wi => shaRound z (packedWord 64 shaK wi.2) wi.1) x
  ⟨x.a + y.a, x.b + y.b, x.c + y.c, x.d + y.d, x.e + y.e, x.f + y.f, x.g + y.g, x.h + y.h⟩

/-- Big-endian words of a list of bytes. -/
def beWords : List Byte → List Word
  | a :: b :: c :: d :: t => (a ++ b ++ c ++ d : BitVec 32) :: beWords t
  | _ => []

/-- The blocks of a padded message, taken in turn; n bounds their number. -/
def shaBlocks : Nat → ShaSt → List Word → ShaSt
  | 0, x, _ => x
  | n + 1, x, ws => if ws.isEmpty then x else shaBlocks n (shaBlock x (ws.take 16)) (ws.drop 16)

/-- A number as n big-endian bytes. -/
def natBe (n x : Nat) : List Byte :=
  (List.range n).map (fun i => BitVec.ofNat 8 (x / 256 ^ (n - 1 - i)))

/-- SHA-256 of a list of bytes: the words H_0 to H_7. -/
def sha256 (bs : List Byte) : List Word :=
  let pad := (119 - bs.length % 64) % 64
  let msg := bs ++ [0x80] ++ List.replicate pad 0 ++ natBe 8 (8 * bs.length)
  let x := shaBlocks (msg.length / 64) shaInit (beWords msg)
  [x.a, x.b, x.c, x.d, x.e, x.f, x.g, x.h]

end Sys2Proof.Machine
end

