-- ==== Sys2Proof/Config.lean ====
section
/-! DEFINITION. What the specification leaves open. Each constant has no body: a claim holds whatever it is. -/

namespace Sys2Proof

/-- One bit that the specification leaves open, for the n-th time one is needed (assumption 4). -/
opaque Config.freeBit : Nat → Bool

/-- One number that the specification leaves open, for the n-th time one is needed (assumption 4). -/
opaque Config.freeNat : Nat → Nat

/-- How long the gate of a switch, numbered over both drive lanes, takes to be sensed off after its command went off at a time, in ns
(R271, assumption 135). -/
opaque Config.gateDelay : Nat → Nat → Nat

/-- The 128-bit device serial in the OTP fuses of lane n (R507). -/
opaque Config.deviceSerial : Nat → BitVec 128

end Sys2Proof
end

