-- ==== Sys2Proof/Machine/Fields.lean ====
section
/-! DEFINITION. The named fields of the registers: offset in the block, lowest bit and width, as the register tables of the
specification give them. A field of a repeated register is named at the first of them. -/

namespace Sys2Proof.Machine

/-- A field of a register of a block. -/
structure Fld where
  ofs : Nat
  lo : Nat
  w : Nat
  deriving DecidableEq, Repr

/-! Fields of the loop engine (chapter 03, Registers). -/
def LE.CTRL_EN : Fld := ⟨0, 0, 1⟩
def LE.STATUS_BUSY : Fld := ⟨4, 0, 9⟩
def LE.STATUS_PIPES : Fld := ⟨4, 9, 4⟩
def LE.STATUS_CQ_NE : Fld := ⟨4, 13, 1⟩
def LE.STATUS_CQ_FULL : Fld := ⟨4, 14, 1⟩
def LE.PEND_PEND : Fld := ⟨8, 0, 32⟩
def LE.LOST_LOST : Fld := ⟨0x10, 0, 16⟩
def LE.LOST_OVERRUN : Fld := ⟨0x10, 16, 16⟩
def LE.DOORBELL_RING : Fld := ⟨0x18, 0, 12⟩
def LE.CQ_LO_SLOT : Fld := ⟨0x20, 0, 8⟩
def LE.CQ_LO_DESC : Fld := ⟨0x20, 8, 8⟩
def LE.CQ_LO_TAG : Fld := ⟨0x20, 16, 16⟩
def LE.CQ_HI_CODE : Fld := ⟨0x24, 0, 8⟩
def LE.CQ_HI_OVF : Fld := ⟨0x24, 8, 1⟩
def LE.CQ_HI_VALID : Fld := ⟨0x24, 9, 1⟩
def LE.CQ_HI_FADDR : Fld := ⟨0x24, 12, 20⟩
def LE.SLOTBUSY_BUSY : Fld := ⟨0x40, 0, 32⟩
def LE.TRIGCFG_DESC : Fld := ⟨0x100, 0, 8⟩
def LE.TRIGCFG_NDESC : Fld := ⟨0x100, 8, 3⟩
def LE.TRIGCFG_EN : Fld := ⟨0x100, 15, 1⟩
def LE.TRIGCFG_DIV : Fld := ⟨0x100, 16, 8⟩
def LE.TRIGCFG_PHASE : Fld := ⟨0x100, 24, 8⟩
/-! Fields of axis n (R129, R159). -/
def AX.CTRL_EN : Fld := ⟨0, 0, 1⟩
def AX.PWMCFG_DIV : Fld := ⟨4, 0, 2⟩
def AX.PWMCFG_DBLUPD : Fld := ⟨4, 2, 1⟩
def AX.PWMCFG_DEADT : Fld := ⟨4, 8, 8⟩
def AX.PWMCFG_ADV : Fld := ⟨4, 16, 16⟩
def AX.SENSCFG_OSR : Fld := ⟨8, 0, 9⟩
def AX.SENSCFG_BUSSEL : Fld := ⟨8, 9, 1⟩
def AX.SENSCFG_RNGCNT : Fld := ⟨8, 12, 4⟩
def AX.ISCALE_ISCALE : Fld := ⟨0xc, 0, 24⟩
def AX.OCP_THR : Fld := ⟨0x10, 0, 8⟩
def AX.OCP_BLANK : Fld := ⟨0x10, 8, 8⟩
def AX.OCP_LIMIT : Fld := ⟨0x10, 16, 8⟩
def AX.KPD_K : Fld := ⟨0x14, 0, 18⟩
def AX.KPQ_K : Fld := ⟨0x18, 0, 18⟩
def AX.KID_K : Fld := ⟨0x1c, 0, 18⟩
def AX.KIQ_K : Fld := ⟨0x20, 0, 18⟩
def AX.ILIM_WIND : Fld := ⟨0x24, 0, 16⟩
def AX.ILIM_FULL : Fld := ⟨0x24, 16, 16⟩
def AX.COMM_SRC : Fld := ⟨0x28, 0, 2⟩
def AX.COMM_PP : Fld := ⟨0x28, 8, 6⟩
def AX.COMM_HALLTOL : Fld := ⟨0x28, 16, 8⟩
def AX.CPR_CPR : Fld := ⟨0x2c, 0, 32⟩
def AX.HALLOFS_HALLOFS : Fld := ⟨0x30, 0, 16⟩
def AX.HALLOFS_ELECOFS : Fld := ⟨0x30, 16, 16⟩
def AX.RECCFG_QI : Fld := ⟨0x34, 0, 8⟩
def AX.RECCFG_QV : Fld := ⟨0x34, 8, 8⟩
def AX.RECCFG_RTMO : Fld := ⟨0x34, 16, 8⟩
def AX.STATUS_ALIGN : Fld := ⟨0x40, 0, 2⟩
def AX.STATUS_SAT : Fld := ⟨0x40, 2, 1⟩
def AX.STATUS_HELD : Fld := ⟨0x40, 3, 1⟩
def AX.STATUS_MODE : Fld := ⟨0x40, 4, 3⟩
def AX.STATUS_SHARE : Fld := ⟨0x40, 8, 7⟩
def AX.STATUS_LASTTAG : Fld := ⟨0x40, 16, 16⟩
def AX.EVT_OCP : Fld := ⟨0x44, 0, 1⟩
def AX.EVT_STALE : Fld := ⟨0x44, 1, 1⟩
def AX.EVT_TMO : Fld := ⟨0x44, 2, 1⟩
def AX.EVT_MODE : Fld := ⟨0x44, 3, 1⟩
def AX.EVT_SAT_LONG : Fld := ⟨0x44, 4, 1⟩
def AX.EVT_RANGE : Fld := ⟨0x44, 5, 1⟩
def AX.EVT_ALIGN_FAIL : Fld := ⟨0x44, 6, 1⟩
def AX.EVT_LATE : Fld := ⟨0x44, 7, 1⟩
def AX.EVT_PWM_SYNC : Fld := ⟨0x44, 8, 1⟩
def AX.IMEAS_ID : Fld := ⟨0x48, 0, 16⟩
def AX.IMEAS_IQ : Fld := ⟨0x48, 16, 16⟩
def AX.VOUT_VD : Fld := ⟨0x4c, 0, 16⟩
def AX.VOUT_VQ : Fld := ⟨0x4c, 16, 16⟩
def AX.COUNT_STALE : Fld := ⟨0x50, 0, 16⟩
def AX.COUNT_OCP : Fld := ⟨0x50, 16, 16⟩
/-! Fields of feedback unit n (R196). -/
def FB.CTRL_EN : Fld := ⟨0, 0, 1⟩
def FB.CTRL_QUAD : Fld := ⟨0, 1, 1⟩
def FB.CTRL_HALL : Fld := ⟨0, 2, 1⟩
def FB.CTRL_SER : Fld := ⟨0, 3, 2⟩
def FB.CTRL_PSRC : Fld := ⟨0, 5, 1⟩
def FB.CTRL_DIR : Fld := ⟨0, 6, 1⟩
def FB.CTRL_SERABS : Fld := ⟨0, 7, 1⟩
def FB.FILT_QN : Fld := ⟨4, 0, 8⟩
def FB.FILT_ZN : Fld := ⟨4, 8, 8⟩
def FB.FILT_HN : Fld := ⟨4, 16, 8⟩
def FB.FILT_SN : Fld := ⟨4, 24, 8⟩
def FB.SSICFG_BITS : Fld := ⟨8, 0, 6⟩
def FB.SSICFG_GRAY : Fld := ⟨8, 6, 1⟩
def FB.SSICFG_STAT : Fld := ⟨8, 7, 3⟩
def FB.SSICFG_STATPOL : Fld := ⟨8, 10, 1⟩
def FB.SSICFG_CLKDIV : Fld := ⟨8, 11, 10⟩
def FB.SSICFG_DLY : Fld := ⟨8, 21, 8⟩
def FB.SSICFG_INIT : Fld := ⟨8, 29, 1⟩
def FB.SSICFG_LISTEN : Fld := ⟨8, 30, 1⟩
def FB.SENTCFG_TICK : Fld := ⟨0xc, 0, 9⟩
def FB.SENTCFG_NIB : Fld := ⟨0xc, 9, 3⟩
def FB.SENTCFG_PNIB : Fld := ⟨0xc, 12, 3⟩
def FB.SENTCFG_PAUSE : Fld := ⟨0xc, 15, 1⟩
def FB.SENTCFG_CRCLEG : Fld := ⟨0xc, 16, 1⟩
def FB.SENTCFG_INIT : Fld := ⟨0xc, 17, 1⟩
def FB.SOFTMIN_L_LO : Fld := ⟨0x10, 0, 32⟩
def FB.SOFTMIN_H_HI : Fld := ⟨0x14, 0, 8⟩
def FB.SOFTMAX_L_LO : Fld := ⟨0x18, 0, 32⟩
def FB.SOFTMAX_H_HI : Fld := ⟨0x1c, 0, 8⟩
def FB.IDXCFG_SLIPTOL : Fld := ⟨0x20, 0, 16⟩
def FB.IDXCFG_IDXEN : Fld := ⟨0x20, 16, 1⟩
def FB.IDXCFG_IDXGATE : Fld := ⟨0x20, 17, 1⟩
def FB.IDXCFG_IDXSTATE : Fld := ⟨0x20, 18, 2⟩
def FB.HOMEOFS_HOMEOFS : Fld := ⟨0x24, 0, 32⟩
def FB.SPDCFG_SPDWIN : Fld := ⟨0x28, 0, 4⟩
def FB.SPDCFG_SPDTMO : Fld := ⟨0x28, 4, 8⟩
def FB.SPDCFG_UNIT : Fld := ⟨0x28, 12, 1⟩
def FB.SPDCFG_SPDQ : Fld := ⟨0x28, 16, 5⟩
def FB.SERCHK_JUMPMAX : Fld := ⟨0x2c, 0, 32⟩
def FB.HOMECYC_HOMECYC : Fld := ⟨0x30, 0, 32⟩
def FB.CMD_HOME : Fld := ⟨0x34, 0, 1⟩
def FB.CMD_HOMECANCEL : Fld := ⟨0x34, 1, 1⟩
def FB.POS_L_POSL : Fld := ⟨0x40, 0, 32⟩
def FB.POS_H_POSH : Fld := ⟨0x44, 0, 8⟩
def FB.POS_H_EXCESS : Fld := ⟨0x44, 16, 16⟩
def FB.SPEED_VALUE : Fld := ⟨0x48, 0, 32⟩
def FB.STATUS_POSQ : Fld := ⟨0x4c, 0, 2⟩
def FB.STATUS_HALL : Fld := ⟨0x4c, 2, 3⟩
def FB.STATUS_IDXREF : Fld := ⟨0x4c, 5, 1⟩
def FB.STATUS_HOMEARM : Fld := ⟨0x4c, 6, 1⟩
def FB.STATUS_SERVALID : Fld := ⟨0x4c, 7, 1⟩
def FB.STATUS_SERAGE : Fld := ⟨0x4c, 16, 16⟩
def FB.SLIP_LAST : Fld := ⟨0x50, 0, 16⟩
def FB.SLIP_CORR : Fld := ⟨0x50, 16, 16⟩
def FB.SERRAW_V : Fld := ⟨0x54, 0, 32⟩
def FB.SENTMSG_DATA : Fld := ⟨0x58, 0, 16⟩
def FB.SENTMSG_ID : Fld := ⟨0x58, 16, 8⟩
def FB.SENTMSG_KIND : Fld := ⟨0x58, 24, 2⟩
def FB.EVT_QUAD_ILL : Fld := ⟨0x5c, 0, 1⟩
def FB.EVT_HALL_ILL : Fld := ⟨0x5c, 1, 1⟩
def FB.EVT_HALL_SKIP : Fld := ⟨0x5c, 2, 1⟩
def FB.EVT_SLIP_CORR : Fld := ⟨0x5c, 3, 1⟩
def FB.EVT_SLIP_BIG : Fld := ⟨0x5c, 4, 1⟩
def FB.EVT_IDX_MISS : Fld := ⟨0x5c, 5, 1⟩
def FB.EVT_SOFT : Fld := ⟨0x5c, 6, 1⟩
def FB.EVT_EXCESS_FULL : Fld := ⟨0x5c, 7, 1⟩
def FB.EVT_SER_ERR : Fld := ⟨0x5c, 8, 1⟩
def FB.EVT_SER_JUMP : Fld := ⟨0x5c, 9, 1⟩
def FB.EVT_SER_LOST : Fld := ⟨0x5c, 10, 1⟩
def FB.EVT_HOMED : Fld := ⟨0x5c, 11, 1⟩
def FB.EVT_HOME_REFUSED : Fld := ⟨0x5c, 12, 1⟩
def FB.EVT_SENT_MSG : Fld := ⟨0x5c, 13, 1⟩
def FB.EVT_CMP : Fld := ⟨0x5c, 16, 8⟩
def FB.ERRCNT_QUAD : Fld := ⟨0x60, 0, 8⟩
def FB.ERRCNT_HALL : Fld := ⟨0x60, 8, 8⟩
def FB.ERRCNT_SER : Fld := ⟨0x60, 16, 8⟩
def FB.ERRCNT_SLIP : Fld := ⟨0x60, 24, 8⟩
def FB.CMP_L_VLO : Fld := ⟨0x100, 0, 32⟩
def FB.CMP_H_VHI : Fld := ⟨0x104, 0, 8⟩
def FB.CMP_CFG_DIR : Fld := ⟨0x108, 0, 2⟩
def FB.CMP_CFG_REPEAT : Fld := ⟨0x108, 2, 1⟩
def FB.CMP_CFG_ARM : Fld := ⟨0x108, 3, 1⟩
def FB.CMP_CFG_BEHIND_AT_ARM : Fld := ⟨0x108, 4, 1⟩
def FB.CMP_CFG_FIRED : Fld := ⟨0x108, 5, 1⟩
def FB.CMP_CFG_FIRES : Fld := ⟨0x108, 16, 16⟩
def FB.CMP_STEP_STEP : Fld := ⟨0x10c, 0, 32⟩
/-! Fields of profile generator n (R223). -/
def PG.CTRL_EN : Fld := ⟨0, 0, 1⟩
def PG.CTRL_SHAPE : Fld := ⟨0, 1, 1⟩
def PG.CTRL_MASTER : Fld := ⟨0, 2, 3⟩
def PG.CTRL_FSTOP : Fld := ⟨0, 5, 1⟩
def PG.CTRL_AQ : Fld := ⟨0, 8, 5⟩
def PG.VLIM_LIM : Fld := ⟨4, 0, 32⟩
def PG.ALIM_LIM : Fld := ⟨8, 0, 32⟩
def PG.DLIMAX_LIM : Fld := ⟨0xc, 0, 32⟩
def PG.JLIM_LIM : Fld := ⟨0x10, 0, 32⟩
def PG.TGT_L_TLO : Fld := ⟨0x20, 0, 32⟩
def PG.TGT_H_THI : Fld := ⟨0x24, 0, 8⟩
def PG.TVEL_TVEL : Fld := ⟨0x28, 0, 32⟩
def PG.VMAX_VAL : Fld := ⟨0x2c, 0, 32⟩
def PG.AMAX_VAL : Fld := ⟨0x30, 0, 32⟩
def PG.DMAX_VAL : Fld := ⟨0x34, 0, 32⟩
def PG.JMAX_VAL : Fld := ⟨0x38, 0, 32⟩
def PG.CMDCYC_CMDCYC : Fld := ⟨0x3c, 0, 32⟩
def PG.CMD_OP : Fld := ⟨0x40, 0, 3⟩
def PG.GEARCFG_NBP : Fld := ⟨0x44, 0, 5⟩
def PG.GEARCFG_ENGTOL : Fld := ⟨0x44, 16, 16⟩
def PG.SPOS_L_SLO : Fld := ⟨0x60, 0, 32⟩
def PG.SPOS_H_SHI : Fld := ⟨0x64, 0, 8⟩
def PG.SVEL_SVEL : Fld := ⟨0x68, 0, 32⟩
def PG.STATUS_MODE : Fld := ⟨0x6c, 0, 3⟩
def PG.STATUS_PEND : Fld := ⟨0x6c, 3, 1⟩
def PG.STATUS_DONE : Fld := ⟨0x6c, 4, 1⟩
def PG.STATUS_CLAMP : Fld := ⟨0x6c, 5, 1⟩
def PG.STATUS_FSTOPACT : Fld := ⟨0x6c, 6, 1⟩
def PG.STATUS_MHOLD : Fld := ⟨0x6c, 7, 1⟩
def PG.STATUS_LASTOP : Fld := ⟨0x6c, 8, 3⟩
def PG.EVT_CMD_REFUSED : Fld := ⟨0x70, 0, 1⟩
def PG.EVT_PAR_CLAMPED : Fld := ⟨0x70, 1, 1⟩
def PG.EVT_TGT_CLAMPED : Fld := ⟨0x70, 2, 1⟩
def PG.EVT_LIMSTOP : Fld := ⟨0x70, 3, 1⟩
def PG.EVT_LIM_OVERRUN : Fld := ⟨0x70, 4, 1⟩
def PG.EVT_FSTOP : Fld := ⟨0x70, 5, 1⟩
def PG.EVT_GEAR_REFUSED : Fld := ⟨0x70, 6, 1⟩
def PG.EVT_MASTER_LOST : Fld := ⟨0x70, 7, 1⟩
def PG.EVT_GEAR_SPEED : Fld := ⟨0x70, 8, 1⟩
def PG.EVT_GEAR_CLAMP : Fld := ⟨0x70, 9, 1⟩
def PG.EVT_DONE : Fld := ⟨0x70, 10, 1⟩
def PG.EVT_RET_MISMATCH : Fld := ⟨0x70, 11, 1⟩
def PG.GR_NUM_NUM : Fld := ⟨0x100, 0, 24⟩
def PG.GR_DEN_DEN : Fld := ⟨0x104, 0, 24⟩
def PG.GBP_L_BLO : Fld := ⟨0x118, 0, 32⟩
def PG.GBP_H_BHI : Fld := ⟨0x11c, 0, 8⟩
/-! Fields of live calibration (R245). -/
def CAL.CTRL_EN : Fld := ⟨0, 0, 1⟩
def CAL.CTRL_PPEN : Fld := ⟨0, 1, 1⟩
def CAL.CTRL_OSCEN : Fld := ⟨0, 2, 1⟩
def CAL.CTRL_STEPCYC : Fld := ⟨0, 4, 12⟩
def CAL.CTRL_CALPHASE : Fld := ⟨0, 16, 12⟩
def CAL.CTRL_OVLCYC : Fld := ⟨0, 28, 4⟩
def CAL.CFG_CALOSR : Fld := ⟨4, 0, 9⟩
def CAL.CFG_SETTLE : Fld := ⟨4, 12, 4⟩
def CAL.CFG_NREF : Fld := ⟨4, 16, 8⟩
def CAL.CFG_OVL : Fld := ⟨4, 24, 8⟩
def CAL.TOL_GTOL : Fld := ⟨8, 0, 8⟩
def CAL.TOL_MINSPAN : Fld := ⟨8, 8, 8⟩
def CAL.TOL_OTOL : Fld := ⟨8, 16, 16⟩
def CAL.DRIFT_ODRIFT : Fld := ⟨0xc, 0, 16⟩
def CAL.DRIFT_GDRIFT : Fld := ⟨0xc, 16, 16⟩
def CAL.PPCFG_TRIMWIN : Fld := ⟨0x10, 0, 8⟩
def CAL.PPCFG_TRIMAGE : Fld := ⟨0x10, 8, 8⟩
def CAL.PPCFG_BDRIFT : Fld := ⟨0x10, 16, 8⟩
def CAL.OSCCFG_OSCLIM : Fld := ⟨0x14, 0, 16⟩
def CAL.OSCCFG_SLEW : Fld := ⟨0x14, 16, 16⟩
def CAL.EPOCH_EPOCH : Fld := ⟨0x20, 0, 32⟩
def CAL.OSCTRIM_TRIM : Fld := ⟨0x24, 0, 32⟩
def CAL.EVT_CANCEL : Fld := ⟨0x28, 0, 1⟩
def CAL.EVT_STUCK : Fld := ⟨0x28, 1, 1⟩
def CAL.EVT_REF_FAIL : Fld := ⟨0x28, 2, 1⟩
def CAL.EVT_DRIFT : Fld := ⟨0x28, 3, 1⟩
def CAL.EVT_SPAN_LOW : Fld := ⟨0x28, 4, 1⟩
def CAL.EVT_BEMF_STALE : Fld := ⟨0x28, 5, 1⟩
def CAL.EVT_BEMF_DRIFT : Fld := ⟨0x28, 6, 1⟩
def CAL.EVT_OSC_RANGE : Fld := ⟨0x28, 7, 1⟩
def CAL.CANCEL_MISMATCH : Fld := ⟨0x2c, 0, 16⟩
def CAL.CANCEL_SHORT : Fld := ⟨0x2c, 16, 16⟩
def CAL.MAP_U : Fld := ⟨0x40, 0, 2⟩
def CAL.MAP_V : Fld := ⟨0x40, 2, 2⟩
def CAL.MAP_W : Fld := ⟨0x40, 4, 2⟩
def CAL.MAP_SPARE : Fld := ⟨0x40, 6, 2⟩
def CAL.MAP_NEXT : Fld := ⟨0x40, 8, 2⟩
def CAL.MAP_PHASE : Fld := ⟨0x40, 10, 3⟩
def CAL.MAP_SPAN_LOW : Fld := ⟨0x40, 15, 1⟩
def CAL.MAP_CANCELRUN : Fld := ⟨0x40, 16, 4⟩
def CAL.COEFU_OFS : Fld := ⟨0x44, 0, 16⟩
def CAL.COEFU_GAIN : Fld := ⟨0x44, 16, 16⟩
def CAL.COEFV_OFS : Fld := ⟨0x48, 0, 16⟩
def CAL.COEFV_GAIN : Fld := ⟨0x48, 16, 16⟩
def CAL.COEFW_OFS : Fld := ⟨0x4c, 0, 16⟩
def CAL.COEFW_GAIN : Fld := ⟨0x4c, 16, 16⟩
def CAL.REF_OFS : Fld := ⟨0x100, 0, 16⟩
def CAL.REF_GAIN : Fld := ⟨0x100, 16, 16⟩
def CAL.TRIM_U : Fld := ⟨0x1c0, 0, 8⟩
def CAL.TRIM_V : Fld := ⟨0x1c0, 8, 8⟩
def CAL.TRIM_W : Fld := ⟨0x1c0, 16, 8⟩
def CAL.TRIM_STALE : Fld := ⟨0x1c0, 24, 3⟩
/-! Fields of pump port p (R268). -/
def PP.CTRL_EN : Fld := ⟨0, 0, 1⟩
def PP.PWMCFG_DIV : Fld := ⟨4, 0, 2⟩
def PP.PWMCFG_SFILT : Fld := ⟨4, 2, 2⟩
def PP.PWMCFG_DEADT : Fld := ⟨4, 8, 8⟩
def PP.PWMCFG_ADV : Fld := ⟨4, 16, 7⟩
def PP.PWMCFG_SBLANK : Fld := ⟨4, 24, 8⟩
def PP.MOTOR_PP : Fld := ⟨8, 0, 6⟩
def PP.MOTOR_KE : Fld := ⟨8, 16, 16⟩
def PP.KP_K : Fld := ⟨0xc, 0, 18⟩
def PP.KI_K : Fld := ⟨0x10, 0, 18⟩
def PP.START_ALIGNDUTY : Fld := ⟨0x14, 0, 8⟩
def PP.START_ALIGNT : Fld := ⟨0x14, 8, 8⟩
def PP.START_RAMPT : Fld := ⟨0x14, 16, 8⟩
def PP.START_CATCHT : Fld := ⟨0x14, 24, 8⟩
def PP.SPDLIM_MAXSPD : Fld := ⟨0x18, 0, 16⟩
def PP.SPDLIM_STARTSPD : Fld := ⟨0x18, 16, 16⟩
def PP.STOP_STOPSPD : Fld := ⟨0x1c, 0, 16⟩
def PP.STOP_BRAKET : Fld := ⟨0x1c, 16, 8⟩
def PP.ILIM_THR : Fld := ⟨0x20, 0, 8⟩
def PP.ILIM_BLANK : Fld := ⟨0x20, 8, 8⟩
def PP.BUS_VBUSMAX : Fld := ⟨0x24, 0, 16⟩
def PP.BUS_HYST : Fld := ⟨0x24, 16, 8⟩
def PP.BUS_BUSSEL : Fld := ⟨0x24, 24, 1⟩
def PP.RECCFG_QP : Fld := ⟨0x28, 0, 8⟩
def PP.RECCFG_RTMO : Fld := ⟨0x28, 8, 8⟩
def PP.STATUS_STATE : Fld := ⟨0x40, 0, 3⟩
def PP.STATUS_STEP : Fld := ⟨0x40, 3, 3⟩
def PP.STATUS_DIR : Fld := ⟨0x40, 6, 1⟩
def PP.STATUS_SENSE : Fld := ⟨0x40, 7, 1⟩
def PP.STATUS_TRIES : Fld := ⟨0x40, 8, 2⟩
def PP.STATUS_BUSHOLD : Fld := ⟨0x40, 10, 1⟩
def PP.STATUS_STOPPED : Fld := ⟨0x40, 11, 1⟩
def PP.STATUS_DUTY : Fld := ⟨0x40, 16, 16⟩
def PP.SPEED_SPEED : Fld := ⟨0x44, 0, 32⟩
def PP.KEMEAS_KE : Fld := ⟨0x48, 0, 16⟩
def PP.KEMEAS_RATIO : Fld := ⟨0x48, 16, 16⟩
def PP.EVT_MISS : Fld := ⟨0x4c, 0, 1⟩
def PP.EVT_LOST : Fld := ⟨0x4c, 1, 1⟩
def PP.EVT_KE : Fld := ⟨0x4c, 2, 1⟩
def PP.EVT_START_FAIL : Fld := ⟨0x4c, 3, 1⟩
def PP.EVT_MODE : Fld := ⟨0x4c, 4, 1⟩
def PP.EVT_TMO : Fld := ⟨0x4c, 5, 1⟩
def PP.EVT_ILIM : Fld := ⟨0x4c, 6, 1⟩
def PP.EVT_BUSHOLD : Fld := ⟨0x4c, 7, 1⟩
def PP.EVT_REVERSED : Fld := ⟨0x4c, 8, 1⟩
def PP.EVT_CATCH_OK : Fld := ⟨0x4c, 9, 1⟩
def PP.COUNT_ILIM : Fld := ⟨0x50, 0, 16⟩
def PP.COUNT_MISS : Fld := ⟨0x50, 16, 16⟩
/-! Fields of the phase cells (R290). -/
def PC.SUPCFG_VGDUV : Fld := ⟨0, 0, 8⟩
def PC.SUPCFG_CELLUV : Fld := ⟨0, 8, 8⟩
def PC.SUPCFG_HYST : Fld := ⟨0, 16, 4⟩
def PC.SUPCFG_UVFILT : Fld := ⟨0, 20, 4⟩
def PC.SUPCFG_GOFFTMO : Fld := ⟨0, 24, 8⟩
def PC.SUPSTAT_VGD : Fld := ⟨4, 0, 12⟩
def PC.SUPSTAT_VGDUV : Fld := ⟨4, 12, 1⟩
def PC.SUPSTAT_CPLIM : Fld := ⟨4, 13, 1⟩
def PC.SUPSTAT_CPOK : Fld := ⟨4, 14, 1⟩
def PC.SUPSTAT_VCP : Fld := ⟨4, 16, 16⟩
def PC.EVT_VGD_UVLO : Fld := ⟨8, 0, 1⟩
def PC.EVT_CP_LIMIT : Fld := ⟨8, 1, 1⟩
def PC.EVT_CFG_INVALID : Fld := ⟨8, 2, 1⟩
def PC.COUNT_VGDUV : Fld := ⟨0xc, 0, 16⟩
def PC.COUNT_CPLIM : Fld := ⟨0xc, 16, 16⟩
def PC.CELL_CFG_DIDT : Fld := ⟨0x100, 0, 7⟩
def PC.CELL_CFG_LS : Fld := ⟨0x100, 8, 8⟩
def PC.CELL_CFG_DIDTFILT : Fld := ⟨0x100, 16, 4⟩
def PC.CELL_CFG_ADAPT : Fld := ⟨0x100, 24, 1⟩
def PC.CELL_CFG_TBAND : Fld := ⟨0x100, 28, 4⟩
def PC.CELL_GATE_CODEMIN : Fld := ⟨0x104, 0, 5⟩
def PC.CELL_GATE_CODEMAX : Fld := ⟨0x104, 8, 5⟩
def PC.CELL_GATE_INITCODE : Fld := ⟨0x104, 16, 5⟩
def PC.CELL_GATE_TTARGET : Fld := ⟨0x104, 24, 8⟩
def PC.CELL_STATUS_HSCODE : Fld := ⟨0x108, 0, 5⟩
def PC.CELL_STATUS_LSCODE : Fld := ⟨0x108, 8, 5⟩
def PC.CELL_STATUS_HSON : Fld := ⟨0x108, 16, 1⟩
def PC.CELL_STATUS_LSON : Fld := ⟨0x108, 17, 1⟩
def PC.CELL_STATUS_HSUV : Fld := ⟨0x108, 18, 1⟩
def PC.CELL_STATUS_LSUV : Fld := ⟨0x108, 19, 1⟩
def PC.CELL_STATUS_SHORT : Fld := ⟨0x108, 20, 1⟩
def PC.CELL_STATUS_STUCK : Fld := ⟨0x108, 21, 1⟩
def PC.CELL_STATUS_SRC : Fld := ⟨0x108, 22, 2⟩
def PC.CELL_STATUS_ATLIM : Fld := ⟨0x108, 24, 1⟩
def PC.CELL_TRANS_RISE : Fld := ⟨0x10c, 0, 8⟩
def PC.CELL_TRANS_FALL : Fld := ⟨0x10c, 8, 8⟩
def PC.CELL_COUNT_INTERLOCK : Fld := ⟨0x110, 0, 16⟩
def PC.CELL_COUNT_UVLO : Fld := ⟨0x110, 16, 8⟩
def PC.CELL_COUNT_SHORT : Fld := ⟨0x110, 24, 8⟩
def PC.CELL_EVT_INTERLOCK : Fld := ⟨0x114, 0, 1⟩
def PC.CELL_EVT_SHORT : Fld := ⟨0x114, 1, 1⟩
def PC.CELL_EVT_HSUV : Fld := ⟨0x114, 2, 1⟩
def PC.CELL_EVT_LSUV : Fld := ⟨0x114, 3, 1⟩
def PC.CELL_EVT_STUCK : Fld := ⟨0x114, 4, 1⟩
def PC.CELL_EVT_ATLIM : Fld := ⟨0x114, 5, 1⟩
/-! Fields of the input exchange (R327). -/
def XCH.CTRL_EN : Fld := ⟨0, 0, 1⟩
def XCH.CTRL_POSTDLY : Fld := ⟨0, 4, 12⟩
def XCH.CTRL_NETMAX : Fld := ⟨0, 16, 8⟩
def XCH.STATUS_LASTTAG : Fld := ⟨4, 0, 16⟩
def XCH.STATUS_LASTBEATS : Fld := ⟨4, 16, 6⟩
def XCH.STATUS_NETLOST : Fld := ⟨4, 24, 8⟩
/-! Fields of the checkpoint engine (R327). -/
def CKPT.CTRL_EN : Fld := ⟨0, 0, 1⟩
def CKPT.CMD_TAG : Fld := ⟨4, 0, 16⟩
def CKPT.CMD_GO : Fld := ⟨4, 16, 1⟩
def CKPT.CMD_XFER : Fld := ⟨4, 17, 1⟩
def CKPT.STATUS_BUSY : Fld := ⟨8, 0, 1⟩
def CKPT.STATUS_REFUSED : Fld := ⟨8, 1, 1⟩
def CKPT.STATUS_LASTTAG : Fld := ⟨8, 16, 16⟩
def CKPT.SIG_SIG : Fld := ⟨0xc, 0, 32⟩
def CKPT.VERDICT_TAG : Fld := ⟨0x10, 0, 16⟩
def CKPT.VERDICT_CODE : Fld := ⟨0x10, 16, 2⟩
def CKPT.RGN_BASE_BASE : Fld := ⟨0x40, 0, 32⟩
def CKPT.RGN_SIZE_SIZE : Fld := ⟨0x44, 0, 32⟩
/-! Fields of the comparator as the lanes see it (R327). -/
def CMPS.STATUS_MODE : Fld := ⟨0, 0, 2⟩
def CMPS.STATUS_FROZEN : Fld := ⟨0, 2, 1⟩
def CMPS.STATUS_XFER : Fld := ⟨0, 3, 1⟩
def CMPS.STATUS_BROKEN : Fld := ⟨0, 4, 2⟩
def CMPS.STATUS_WBROKEN : Fld := ⟨0, 6, 1⟩
def CMPS.STATUS_INJBIT : Fld := ⟨0, 8, 8⟩
def CMPS.STATUS_INJPASS : Fld := ⟨0, 16, 16⟩
def CMPS.LASTMIS_TAG : Fld := ⟨4, 0, 16⟩
def CMPS.LASTMIS_KIND : Fld := ⟨4, 16, 4⟩
def CMPS.LASTMIS_INDEX : Fld := ⟨4, 20, 8⟩
def CMPS.LASTMIS_DECIDED : Fld := ⟨4, 28, 2⟩
def CMPS.COUNT_LATE : Fld := ⟨8, 0, 10⟩
def CMPS.COUNT_STALE : Fld := ⟨8, 10, 10⟩
def CMPS.COUNT_VBLOST : Fld := ⟨8, 20, 12⟩
def CMPS.SIGA_SIG : Fld := ⟨0x10, 0, 32⟩
def CMPS.SIGB_SIG : Fld := ⟨0x14, 0, 32⟩
def CMPS.SIGW_SIG : Fld := ⟨0x18, 0, 32⟩
def CMPS.SIGTAG_TAG : Fld := ⟨0x1c, 0, 16⟩
/-! Fields of Skink (R352). -/
def SK.STATE_STATE : Fld := ⟨0, 0, 4⟩
def SK.STATE_LOCKED : Fld := ⟨0, 4, 1⟩
def SK.STATE_CFGOK : Fld := ⟨0, 5, 1⟩
def SK.STATE_STANDSTILL : Fld := ⟨0, 6, 1⟩
def SK.STATE_HOLDACT : Fld := ⟨0, 7, 1⟩
def SK.STATE_RAMPDONE : Fld := ⟨0, 8, 1⟩
def SK.STATE_CMDPATH : Fld := ⟨0, 9, 1⟩
def SK.CYCLE_COUNT : Fld := ⟨4, 0, 32⟩
def SK.CAPS_TQCAP : Fld := ⟨8, 0, 7⟩
def SK.CAPS_SPDCAP : Fld := ⟨8, 8, 7⟩
def SK.SHARE0_SH0 : Fld := ⟨0xc, 0, 7⟩
def SK.SHARE0_SH1 : Fld := ⟨0xc, 8, 7⟩
def SK.SHARE0_SH2 : Fld := ⟨0xc, 16, 7⟩
def SK.SHARE0_SH3 : Fld := ⟨0xc, 24, 7⟩
def SK.SHARE1_SH0 : Fld := ⟨0x10, 0, 7⟩
def SK.SHARE1_SH1 : Fld := ⟨0x10, 8, 7⟩
def SK.SI_STATE : Fld := ⟨0x14, 0, 16⟩
def SK.SI_LATCH : Fld := ⟨0x14, 16, 16⟩
def SK.SIRAW_CONTACTS : Fld := ⟨0x18, 0, 32⟩
def SK.SO_LEVEL : Fld := ⟨0x1c, 0, 16⟩
def SK.SO_FAILED : Fld := ⟨0x1c, 16, 16⟩
def SK.SORB_RB : Fld := ⟨0x20, 0, 16⟩
def SK.SD_ALIVE : Fld := ⟨0x24, 0, 16⟩
def SK.SD_SINGLE : Fld := ⟨0x24, 16, 1⟩
def SK.HOLD_E0 : Fld := ⟨0x28, 0, 8⟩
def SK.HOLD_E1 : Fld := ⟨0x28, 8, 8⟩
def SK.HOLD_LANE0 : Fld := ⟨0x28, 16, 1⟩
def SK.HOLD_LANE1 : Fld := ⟨0x28, 17, 1⟩
def SK.CFGCTRL_START : Fld := ⟨0x40, 0, 1⟩
def SK.CFGDATA_DATA : Fld := ⟨0x44, 0, 32⟩
def SK.CFGSTAT_RESULT : Fld := ⟨0x48, 0, 2⟩
def SK.CFGSTAT_WORDS : Fld := ⟨0x48, 2, 7⟩
def SK.DIGEST_H : Fld := ⟨0x60, 0, 32⟩
def SK.CFGDIG_H : Fld := ⟨0x80, 0, 32⟩
def SK.CFG_WORD : Fld := ⟨0x400, 0, 32⟩
/-! Fields of the lane collector (R376). -/
def FC.CTRL_IRQC0 : Fld := ⟨0, 0, 1⟩
def FC.STATUS_LOGREADY : Fld := ⟨4, 0, 1⟩
def FC.STATUS_FROZENFULL : Fld := ⟨4, 1, 1⟩
def FC.STATUS_WRAPPED : Fld := ⟨4, 2, 1⟩
def FC.STATUS_REGFAULT : Fld := ⟨4, 3, 1⟩
def FC.STATUS_QUEUE : Fld := ⟨4, 8, 7⟩
def FC.STATUS_LOGLOST : Fld := ⟨4, 16, 16⟩
def FC.LOGHEAD_HEAD : Fld := ⟨8, 0, 13⟩
def FC.LOGSEQ_SEQ : Fld := ⟨0xc, 0, 32⟩
def FC.LOGCLR_CLEAR : Fld := ⟨0x10, 0, 1⟩
def FC.SRCSEL_SRC : Fld := ⟨0x14, 0, 9⟩
def FC.SRCINFO_CLASS : Fld := ⟨0x18, 0, 3⟩
def FC.SRCINFO_PEND : Fld := ⟨0x18, 3, 1⟩
def FC.SRCINFO_FIXED : Fld := ⟨0x18, 4, 1⟩
def FC.SRCINFO_INST : Fld := ⟨0x18, 8, 8⟩
def FC.SRCINFO_REPEAT : Fld := ⟨0x18, 16, 16⟩
def FC.SUMMARY_C1 : Fld := ⟨0x1c, 0, 8⟩
def FC.SUMMARY_C2 : Fld := ⟨0x1c, 8, 8⟩
def FC.SUMMARY_C3 : Fld := ⟨0x1c, 16, 8⟩
def FC.SUMMARY_C4 : Fld := ⟨0x1c, 24, 8⟩
def FC.PEND_PEND : Fld := ⟨0x40, 0, 32⟩
def FC.FORCE_FORCE : Fld := ⟨0x80, 0, 32⟩
def FC.CLASS_CLASS0 : Fld := ⟨0x100, 0, 4⟩
def FC.CLASS_CLASS1 : Fld := ⟨0x100, 4, 4⟩
def FC.CLASS_CLASS2 : Fld := ⟨0x100, 8, 4⟩
def FC.CLASS_CLASS3 : Fld := ⟨0x100, 12, 4⟩
def FC.CLASS_CLASS4 : Fld := ⟨0x100, 16, 4⟩
def FC.CLASS_CLASS5 : Fld := ⟨0x100, 20, 4⟩
def FC.CLASS_CLASS6 : Fld := ⟨0x100, 24, 4⟩
def FC.CLASS_CLASS7 : Fld := ⟨0x100, 28, 4⟩
/-! Fields of Skink's collector (R377). -/
def SKFC.PEND_PEND : Fld := ⟨0, 0, 32⟩
def SKFC.STATUS_OPEN : Fld := ⟨0x10, 0, 7⟩
def SKFC.STATUS_OVF : Fld := ⟨0x10, 7, 1⟩
def SKFC.STATUS_TOP : Fld := ⟨0x10, 8, 3⟩
def SKFC.STATUS_AGREE : Fld := ⟨0x10, 11, 1⟩
def SKFC.ACK_EVID : Fld := ⟨0x14, 0, 16⟩
def SKFC.FORCE_SRC : Fld := ⟨0x18, 0, 7⟩
def SKFC.TABSEL_SLOT : Fld := ⟨0x1c, 0, 6⟩
def SKFC.TABENT_EVID : Fld := ⟨0x20, 0, 16⟩
def SKFC.TABENT_COLL : Fld := ⟨0x20, 16, 2⟩
def SKFC.TABENT_SRC : Fld := ⟨0x20, 18, 9⟩
def SKFC.TABENT_CLASS : Fld := ⟨0x20, 27, 3⟩
def SKFC.TABENT_ESC : Fld := ⟨0x20, 30, 1⟩
def SKFC.TABENT_VALID : Fld := ⟨0x20, 31, 1⟩
/-! Fields of an SCN channel bank (R418). -/
def SCN.CTRL_EN : Fld := ⟨0, 0, 1⟩
def SCN.CTRL_SYNCN : Fld := ⟨0, 1, 1⟩
def SCN.CTRL_CSN : Fld := ⟨0, 2, 1⟩
def SCN.CTRL_CSRANK : Fld := ⟨0, 3, 4⟩
def SCN.CTRL_MFOLLOW : Fld := ⟨0, 7, 1⟩
def SCN.CTRL_GUARDEN : Fld := ⟨0, 8, 1⟩
def SCN.CTRL_SYNCSLOT : Fld := ⟨0, 16, 10⟩
def SCN.IDS_NETID : Fld := ⟨4, 0, 8⟩
def SCN.IDS_SENDER : Fld := ⟨4, 8, 8⟩
def SCN.IDS_USENDER : Fld := ⟨4, 16, 8⟩
def SCN.DLY_RXDLY : Fld := ⟨8, 0, 16⟩
def SCN.STATUS_STATE : Fld := ⟨0xc, 0, 3⟩
def SCN.STATUS_MODE : Fld := ⟨0xc, 4, 3⟩
def SCN.STATUS_MREQV : Fld := ⟨0xc, 7, 1⟩
def SCN.STATUS_MREQ : Fld := ⟨0xc, 8, 3⟩
def SCN.STATUS_NSYNC : Fld := ⟨0xc, 12, 4⟩
def SCN.STATUS_CYCLE : Fld := ⟨0xc, 16, 16⟩
def SCN.MODEREQ_MODE : Fld := ⟨0x10, 0, 3⟩
def SCN.MODEREQ_REQ : Fld := ⟨0x10, 3, 1⟩
def SCN.MODEREQ_CANCEL : Fld := ⟨0x10, 4, 1⟩
def SCN.OFFSET_VAL : Fld := ⟨0x14, 0, 32⟩
def SCN.RATE_VAL : Fld := ⟨0x18, 0, 32⟩
def SCN.EVT_SYNC_LOST : Fld := ⟨0x1c, 0, 1⟩
def SCN.EVT_CS_FAIL : Fld := ⟨0x1c, 1, 1⟩
def SCN.EVT_BACKOFF : Fld := ⟨0x1c, 2, 1⟩
def SCN.EVT_MODE_SW : Fld := ⟨0x1c, 3, 1⟩
def SCN.EVT_MODE_NOAGREE : Fld := ⟨0x1c, 4, 1⟩
def SCN.EVT_TXREF : Fld := ⟨0x1c, 5, 1⟩
def SCN.EVT_TXEXP : Fld := ⟨0x1c, 6, 1⟩
def SCN.EVT_GUARD : Fld := ⟨0x1c, 7, 1⟩
def SCN.COUNT_HDR : Fld := ⟨0x20, 0, 16⟩
def SCN.COUNT_TXEMPTY : Fld := ⟨0x20, 16, 16⟩
def SCN.MODE0_CYCLEN : Fld := ⟨0x100, 0, 18⟩
def SCN.MODE0_VALID : Fld := ⟨0x100, 31, 1⟩
def SCN.MODE1_NSLOT : Fld := ⟨0x104, 0, 10⟩
def SCN.MODE1_SLOTLEN : Fld := ⟨0x104, 16, 12⟩
def SCN.MODE2_NMINI : Fld := ⟨0x108, 0, 10⟩
def SCN.MODE2_MINILEN : Fld := ⟨0x108, 16, 7⟩
def SCN.MODE3_ACTOFS : Fld := ⟨0x10c, 0, 8⟩
def SCN.MODE3_GUARD : Fld := ⟨0x10c, 8, 8⟩
def SCN.MODE3_STATSLOT : Fld := ⟨0x10c, 16, 10⟩
def SCN.MODE4_OFSLIM : Fld := ⟨0x110, 0, 16⟩
def SCN.SYNC_SLOT : Fld := ⟨0x200, 0, 10⟩
def SCN.SYNC_EN : Fld := ⟨0x200, 15, 1⟩
def SCN.SYNC_RXDLY : Fld := ⟨0x200, 16, 16⟩
def SCN.TX0_SLOT : Fld := ⟨0x400, 0, 10⟩
def SCN.TX0_DYNID : Fld := ⟨0x400, 10, 8⟩
def SCN.TX0_MODEMASK : Fld := ⟨0x400, 24, 8⟩
def SCN.TX1_PTR : Fld := ⟨0x404, 0, 14⟩
def SCN.TX1_LEN : Fld := ⟨0x404, 16, 11⟩
def SCN.TX2_SEQ : Fld := ⟨0x408, 0, 16⟩
def SCN.TX2_TAG : Fld := ⟨0x408, 16, 16⟩
def SCN.TX3_COMMIT : Fld := ⟨0x40c, 0, 1⟩
def SCN.TX3_UNITOUT : Fld := ⟨0x40c, 1, 1⟩
def SCN.TX3_SAFETY : Fld := ⟨0x40c, 2, 1⟩
def SCN.TX3_WITNESS : Fld := ⟨0x40c, 3, 1⟩
def SCN.TX3_REPEAT : Fld := ⟨0x40c, 4, 1⟩
def SCN.TX3_AUTOSEQ : Fld := ⟨0x40c, 5, 1⟩
def SCN.TX3_DROP : Fld := ⟨0x40c, 6, 1⟩
def SCN.TX3_LIFE : Fld := ⟨0x40c, 8, 8⟩
def SCN.TX3_STATE : Fld := ⟨0x40c, 16, 4⟩
def SCN.RX0_SLOT : Fld := ⟨0x800, 0, 10⟩
def SCN.RX0_DYNID : Fld := ⟨0x800, 10, 8⟩
def SCN.RX0_MODEMASK : Fld := ⟨0x800, 24, 8⟩
def SCN.RX1_PTR : Fld := ⟨0x804, 0, 14⟩
def SCN.RX1_SIZE : Fld := ⟨0x804, 16, 11⟩
def SCN.RX1_CYCREL : Fld := ⟨0x804, 28, 1⟩
def SCN.RX1_SENDCHK : Fld := ⟨0x804, 29, 1⟩
def SCN.RX1_EN : Fld := ⟨0x804, 30, 1⟩
def SCN.RX2_SENDER : Fld := ⟨0x808, 0, 8⟩
def SCN.RX3_CUR : Fld := ⟨0x80c, 0, 1⟩
def SCN.RX3_NEW : Fld := ⟨0x80c, 1, 1⟩
def SCN.RX3_OVERLONG : Fld := ⟨0x80c, 2, 1⟩
def SCN.RX3_CYCLE : Fld := ⟨0x80c, 16, 16⟩
def SCN.MISS_LOW : Fld := ⟨0x1000, 0, 16⟩
def SCN.MISS_HIGH : Fld := ⟨0x1000, 16, 16⟩
def SCN.MISSLAST_LOW : Fld := ⟨0x17fc, 0, 16⟩
def SCN.GMASK_MASK : Fld := ⟨0x1800, 0, 32⟩
/-! Fields of the lane-wide SCN registers (R418). -/
def SCNG.TRIG_SLOT : Fld := ⟨0x4000, 0, 10⟩
def SCNG.TRIG_CH : Fld := ⟨0x4000, 12, 1⟩
def SCNG.TRIG_EN : Fld := ⟨0x4000, 15, 1⟩
def SCNG.GLOBAL_CYCSRC : Fld := ⟨0x4040, 0, 1⟩
def SCNG.GLOBAL_RATESRC : Fld := ⟨0x4040, 1, 1⟩
/-! Fields of the star (R418). -/
def STAR.CTRL_EN : Fld := ⟨0x6000, 0, 1⟩
def STAR.CTRL_OPMODE : Fld := ⟨0x6000, 1, 1⟩
def STAR.STATUS_ENFORCE : Fld := ⟨0x6004, 0, 1⟩
def STAR.STATUS_MODE : Fld := ⟨0x6004, 1, 3⟩
def STAR.STATUS_NSYNC : Fld := ⟨0x6004, 4, 4⟩
def STAR.STATUS_CYCLE : Fld := ⟨0x6004, 16, 16⟩
def STAR.PORT_PDLY : Fld := ⟨0x6010, 0, 16⟩
def STAR.PORT_MS : Fld := ⟨0x6010, 16, 1⟩
def STAR.PORT_PEN : Fld := ⟨0x6010, 17, 1⟩
def STAR.PORT_LINK : Fld := ⟨0x6010, 18, 1⟩
def STAR.DROP_OOS : Fld := ⟨0x6030, 0, 16⟩
def STAR.DROP_OVR : Fld := ⟨0x6030, 16, 8⟩
def STAR.DROP_HDR : Fld := ⟨0x6030, 24, 8⟩
def STAR.CLAIM_SLOT : Fld := ⟨0x6050, 0, 10⟩
def STAR.CLAIM_PORT : Fld := ⟨0x6050, 12, 3⟩
def STAR.CLAIM_VALID : Fld := ⟨0x6050, 15, 1⟩
def STAR.CLAIM_GRANTS : Fld := ⟨0x6050, 16, 16⟩
def STAR.SLOTMAP_OWNERS : Fld := ⟨0x8000, 0, 32⟩
def STAR.DYNMAP_OWNERS : Fld := ⟨0xa000, 0, 32⟩
/-! Fields of the SCN staging and store memories (R418). -/
def SCNM.TXSTAGE_WORD : Fld := ⟨0x20000, 0, 32⟩
def SCNM.TXSTAGE1_WORD : Fld := ⟨0x30000, 0, 32⟩
def SCNM.RXSTORE_WORD : Fld := ⟨0x40000, 0, 32⟩
def SCNM.RXSTORE1_WORD : Fld := ⟨0x50000, 0, 32⟩
/-! Fields of CAN controller k (R419, R448). -/
def CAN.CTRL_EN : Fld := ⟨0, 0, 1⟩
def CAN.CTRL_FD : Fld := ⟨0, 1, 1⟩
def CAN.CTRL_SWITCH : Fld := ⟨0, 2, 1⟩
def CAN.CTRL_LOOP : Fld := ⟨0, 3, 2⟩
def CAN.CTRL_RESTRICT : Fld := ⟨0, 5, 1⟩
def CAN.CTRL_RESERR : Fld := ⟨0, 6, 1⟩
def CAN.CTRL_UOMODE : Fld := ⟨0, 7, 1⟩
def CAN.CTRL_TTMODE : Fld := ⟨0, 8, 2⟩
def CAN.ARBTIME_PRE : Fld := ⟨4, 0, 8⟩
def CAN.ARBTIME_SEG1 : Fld := ⟨4, 8, 8⟩
def CAN.ARBTIME_SEG2 : Fld := ⟨4, 16, 7⟩
def CAN.ARBTIME_JUMP : Fld := ⟨4, 23, 7⟩
def CAN.DATTIME_DPRE : Fld := ⟨8, 0, 5⟩
def CAN.DATTIME_DSEG1 : Fld := ⟨8, 8, 5⟩
def CAN.DATTIME_DSEG2 : Fld := ⟨8, 16, 4⟩
def CAN.DATTIME_DJUMP : Fld := ⟨8, 24, 4⟩
def CAN.DELAYCOMP_EN : Fld := ⟨0xc, 0, 1⟩
def CAN.DELAYCOMP_SSPOFS : Fld := ⟨0xc, 8, 7⟩
def CAN.DELAYCOMP_MINDLY : Fld := ⟨0xc, 16, 7⟩
def CAN.DELAYCOMP_MEAS : Fld := ⟨0xc, 24, 7⟩
def CAN.RXCFG_LISTLEN : Fld := ⟨0x10, 0, 10⟩
def CAN.RXCFG_DEFAULT : Fld := ⟨0x10, 10, 2⟩
def CAN.RXCFG_NOREMOTE : Fld := ⟨0x10, 12, 1⟩
def CAN.RXCFG_STORESZ : Fld := ⟨0x10, 13, 3⟩
def CAN.RXCFG_OVW0 : Fld := ⟨0x10, 16, 1⟩
def CAN.RXCFG_OVW1 : Fld := ⟨0x10, 17, 1⟩
def CAN.TXCFG_RETRY : Fld := ⟨0x14, 0, 4⟩
def CAN.TTCFG_NCYC : Fld := ⟨0x18, 0, 3⟩
def CAN.TTCFG_NCOL : Fld := ⟨0x18, 8, 5⟩
def CAN.TTCFG_BCLEN : Fld := ⟨0x18, 16, 16⟩
def CAN.TTREF_REFID : Fld := ⟨0x1c, 0, 29⟩
def CAN.TTREF_IDE : Fld := ⟨0x1c, 29, 1⟩
def CAN.STATUS_ERRSTATE : Fld := ⟨0x40, 0, 2⟩
def CAN.STATUS_NOPART : Fld := ⟨0x40, 3, 1⟩
def CAN.STATUS_STOPPED : Fld := ⟨0x40, 4, 1⟩
def CAN.STATUS_TEC : Fld := ⟨0x40, 8, 8⟩
def CAN.STATUS_REC : Fld := ⟨0x40, 16, 8⟩
def CAN.STATUS_ACKRUN : Fld := ⟨0x40, 24, 8⟩
def CAN.TTSTAT_CYCCNT : Fld := ⟨0x44, 0, 6⟩
def CAN.TTSTAT_SYNCED : Fld := ⟨0x44, 6, 1⟩
def CAN.TTSTAT_MASTER : Fld := ⟨0x44, 7, 1⟩
def CAN.TTSTAT_CYCTIME : Fld := ⟨0x44, 16, 16⟩
def CAN.EVT_ERR_PASSIVE : Fld := ⟨0x48, 0, 1⟩
def CAN.EVT_BUS_OFF : Fld := ⟨0x48, 1, 1⟩
def CAN.EVT_NO_PARTNER : Fld := ⟨0x48, 2, 1⟩
def CAN.EVT_Q0_LOST : Fld := ⟨0x48, 3, 1⟩
def CAN.EVT_Q1_LOST : Fld := ⟨0x48, 4, 1⟩
def CAN.EVT_BUFOVW : Fld := ⟨0x48, 5, 1⟩
def CAN.EVT_TX_REFUSED : Fld := ⟨0x48, 6, 1⟩
def CAN.EVT_TX_FAILED : Fld := ⟨0x48, 7, 1⟩
def CAN.EVT_CANCEL_LATE : Fld := ⟨0x48, 8, 1⟩
def CAN.EVT_TT_REF_LOST : Fld := ⟨0x48, 9, 1⟩
def CAN.EVT_TT_WINDOW : Fld := ⟨0x48, 10, 1⟩
def CAN.EVT_PROTO_EXC : Fld := ⟨0x48, 11, 1⟩
def CAN.EVT_Q0_NEW : Fld := ⟨0x48, 12, 1⟩
def CAN.EVT_Q1_NEW : Fld := ⟨0x48, 13, 1⟩
def CAN.EVT_BUFNEW : Fld := ⟨0x48, 14, 1⟩
def CAN.EVT_TX_DONE : Fld := ⟨0x48, 15, 1⟩
def CAN.COUNT_ERRORS : Fld := ⟨0x4c, 0, 16⟩
def CAN.COUNT_BUFOVW : Fld := ⟨0x4c, 16, 16⟩
def CAN.QSTAT_HEAD : Fld := ⟨0x50, 0, 6⟩
def CAN.QSTAT_NEXT : Fld := ⟨0x50, 8, 6⟩
def CAN.QSTAT_COUNT : Fld := ⟨0x50, 16, 7⟩
def CAN.QSTAT_FULL : Fld := ⟨0x50, 23, 1⟩
def CAN.QSTAT_DROPPED : Fld := ⟨0x50, 24, 8⟩
def CAN.QREL_RELEASE : Fld := ⟨0x58, 0, 7⟩
def CAN.BUFNEW_NEW : Fld := ⟨0x60, 0, 32⟩
def CAN.TSNOW_TS : Fld := ⟨0x68, 0, 32⟩
def CAN.RECOVER_RECOVER : Fld := ⟨0x6c, 0, 1⟩
/-! Fields of a TX element (R433), from its own base. -/
def CANTX.ID : Fld := ⟨0, 0, 29⟩
def CANTX.IDE : Fld := ⟨0, 29, 1⟩
def CANTX.RTR : Fld := ⟨0, 30, 1⟩
def CANTX.DLC : Fld := ⟨4, 0, 4⟩
def CANTX.BRS : Fld := ⟨4, 4, 1⟩
def CANTX.FDF : Fld := ⟨4, 5, 1⟩
def CANTX.UNITOUT : Fld := ⟨4, 6, 1⟩
def CANTX.SAFETY : Fld := ⟨4, 7, 1⟩
def CANTX.WITNESS : Fld := ⟨4, 8, 1⟩
def CANTX.TAG : Fld := ⟨4, 16, 16⟩
def CANTX.STATE : Fld := ⟨8, 4, 4⟩
def CANTX.CANCEL_LATE : Fld := ⟨8, 8, 1⟩
def CANTX.ATTEMPTS : Fld := ⟨8, 12, 4⟩
def CANTX.TS : Fld := ⟨12, 0, 32⟩
def CAN.FILTER_WORD : Fld := ⟨0x2000, 0, 32⟩
def CAN.FIFO0_WORD : Fld := ⟨0x4000, 0, 32⟩
def CAN.FIFO1_WORD : Fld := ⟨0x5400, 0, 32⟩
def CAN.RXBUF_WORD : Fld := ⟨0x6800, 0, 32⟩
def CAN.TXBUF_WORD : Fld := ⟨0x7c00, 0, 32⟩
def CAN.MARK_WORD : Fld := ⟨0x8800, 0, 32⟩
def CAN.MATRIX_WORD : Fld := ⟨0x9000, 0, 32⟩
/-! Fields of the DMA channels (R477). -/
def DMA.EVT_DONE : Fld := ⟨0, 0, 16⟩
def DMA.EVT_ERR : Fld := ⟨0, 16, 16⟩
def DMA.DESC_L_ADDR : Fld := ⟨0x100, 0, 32⟩
def DMA.DESC_H_ADDR : Fld := ⟨0x104, 0, 8⟩
def DMA.CMD_GO : Fld := ⟨0x108, 0, 1⟩
def DMA.CMD_STOP : Fld := ⟨0x108, 1, 1⟩
def DMA.STATUS_STATE : Fld := ⟨0x10c, 0, 2⟩
def DMA.STATUS_REFUSED : Fld := ⟨0x10c, 2, 1⟩
def DMA.STATUS_CODE : Fld := ⟨0x10c, 4, 4⟩
def DMA.STATUS_DONE : Fld := ⟨0x10c, 8, 24⟩
/-! Fields of the memory controller (R478). -/
def MEMC.CTRL_SCRUBINT : Fld := ⟨0, 0, 8⟩
def MEMC.STATUS_INITDONE : Fld := ⟨4, 0, 1⟩
def MEMC.STATUS_WMARK : Fld := ⟨4, 16, 16⟩
def MEMC.ERRADDR_L_ADDR : Fld := ⟨8, 0, 32⟩
def MEMC.ERRADDR_H_ADDRH : Fld := ⟨0xc, 0, 8⟩
def MEMC.ERRADDR_H_MEM : Fld := ⟨0xc, 8, 3⟩
def MEMC.ERRADDR_H_UNCORR : Fld := ⟨0xc, 11, 1⟩
def MEMC.COUNT_CORR : Fld := ⟨0x10, 0, 24⟩
def MEMC.COUNT_UNCORR : Fld := ⟨0x10, 24, 8⟩
/-! Fields of the event recorder (R479). -/
def ER.CTRL_EN : Fld := ⟨0, 0, 1⟩
def ER.CTRL_NCHC : Fld := ⟨0, 1, 3⟩
def ER.CTRL_FRZCLASS : Fld := ⟨0, 4, 4⟩
def ER.CTRL_CAPDLY : Fld := ⟨0, 16, 16⟩
def ER.POST_POST : Fld := ⟨4, 0, 20⟩
def ER.CMD_FREEZE : Fld := ⟨8, 0, 1⟩
def ER.CMD_RELEASE : Fld := ⟨8, 8, 8⟩
def ER.STATUS_FROZEN : Fld := ⟨0xc, 0, 8⟩
def ER.STATUS_PENDING : Fld := ⟨0xc, 8, 1⟩
def ER.WPTR_L_ADDR : Fld := ⟨0x10, 0, 32⟩
def ER.WPTR_H_ADDR : Fld := ⟨0x14, 0, 8⟩
def ER.COUNT_SKIP : Fld := ⟨0x18, 0, 16⟩
def ER.COUNT_FRZLOST : Fld := ⟨0x18, 16, 16⟩
def ER.FRZ_L_ADDR : Fld := ⟨0x40, 0, 32⟩
def ER.FRZ_H_ADDR : Fld := ⟨0x44, 0, 8⟩
def ER.FRZ_CYC_CYCLE : Fld := ⟨0x48, 0, 32⟩
def ER.FRZ_SRC_SRC : Fld := ⟨0x4c, 0, 9⟩
def ER.FRZ_SRC_COLL : Fld := ⟨0x4c, 9, 3⟩
def ER.FRZ_SRC_SW : Fld := ⟨0x4c, 12, 1⟩
def ER.CH0_ADDR : Fld := ⟨0x100, 0, 32⟩
def ER.CH_ADDR : Fld := ⟨0x104, 0, 32⟩
/-! Fields of an interrupt controller bank (R492). -/
def IC.STACK_INSERV : Fld := ⟨0, 0, 16⟩
def IC.STACK_LATEMASK : Fld := ⟨0, 16, 16⟩
def IC.EOI_PRIO : Fld := ⟨4, 0, 4⟩
def IC.SWSET_SET : Fld := ⟨0x10, 0, 32⟩
def IC.SUMMARY_WORD : Fld := ⟨0x20, 0, 14⟩
def IC.PEND_PEND : Fld := ⟨0x40, 0, 32⟩
def IC.MASK_MASK : Fld := ⟨0x80, 0, 32⟩
def IC.SRC_COUNT : Fld := ⟨0x400, 0, 8⟩
def IC.SRC_LEVEL : Fld := ⟨0x400, 8, 1⟩
def IC.SRC_TYPE : Fld := ⟨0x400, 9, 1⟩
def IC.SRC_PRIO : Fld := ⟨0x400, 16, 4⟩
/-! Fields of the shared routing registers (R492). -/
def ICS.ROUTE_TARGET : Fld := ⟨0x8000, 0, 2⟩
/-! Fields of the self-test controller (R510). -/
def BIST.CTRL_EN : Fld := ⟨0, 0, 1⟩
def BIST.CTRL_SLOTINT : Fld := ⟨0, 8, 8⟩
def BIST.STATUS_SLICE : Fld := ⟨4, 0, 7⟩
def BIST.STATUS_ACTIVE : Fld := ⟨4, 7, 1⟩
def BIST.STATUS_SET : Fld := ⟨4, 8, 2⟩
def BIST.STATUS_SWEEPS : Fld := ⟨4, 16, 16⟩
def BIST.FAIL_FAIL : Fld := ⟨8, 0, 32⟩
def BIST.COUNT_DEFER : Fld := ⟨0x14, 0, 16⟩
/-! Fields of the crypto block (R510). -/
def CRY.CMD_OP : Fld := ⟨0, 0, 3⟩
def CRY.ARG_L_ADDR : Fld := ⟨4, 0, 32⟩
def CRY.ARG_H_ADDR : Fld := ⟨8, 0, 8⟩
def CRY.STATUS_STATE : Fld := ⟨0xc, 0, 2⟩
def CRY.STATUS_CODE : Fld := ⟨0xc, 4, 4⟩
def CRY.STATUS_KEYOK : Fld := ⟨0xc, 8, 1⟩
def CRY.STATUS_DEBUGSEEN : Fld := ⟨0xc, 9, 1⟩
def CRY.BOOTINFO_BANK : Fld := ⟨0x10, 0, 1⟩
def CRY.BOOTINFO_TRIAL : Fld := ⟨0x10, 1, 1⟩
def CRY.BOOTINFO_TRIES : Fld := ⟨0x10, 2, 2⟩
def CRY.BOOTINFO_FALLBACK : Fld := ⟨0x10, 4, 1⟩
def CRY.BOOTINFO_ROLLBACK : Fld := ⟨0x10, 8, 7⟩
def CRY.BOOTINFO_VERSION : Fld := ⟨0x10, 16, 7⟩
def CRY.BOOTINFO_KEYSLOT : Fld := ⟨0x10, 24, 2⟩
/-! Fields of power and clock (R526). -/
def PWR.STATUS_SRKEPT : Fld := ⟨0, 0, 1⟩
def PWR.STATUS_FEEDA : Fld := ⟨0, 1, 1⟩
def PWR.STATUS_FEEDB : Fld := ⟨0, 2, 1⟩
def PWR.STATUS_VORSRC : Fld := ⟨0, 3, 1⟩
def PWR.RSTCAUSE_RAIL : Fld := ⟨4, 0, 3⟩
def PWR.RSTCAUSE_FEED : Fld := ⟨4, 3, 1⟩
def PWR.RSTCAUSE_SKINK : Fld := ⟨4, 4, 1⟩
def PWR.TEMP_DIE : Fld := ⟨8, 0, 12⟩
/-! Fields of the hibernate domain (R526). -/
def HIB.STATUS_VHIBLOSS : Fld := ⟨0x100, 0, 1⟩
def HIB.STATUS_SLEEP : Fld := ⟨0x100, 1, 2⟩
def HIB.STATUS_CAUSE : Fld := ⟨0x100, 3, 6⟩
def HIB.STATUS_VHIBLOW : Fld := ⟨0x100, 9, 1⟩
def HIB.WAKECFG_EN : Fld := ⟨0x104, 0, 4⟩
def HIB.WAKECFG_MODE : Fld := ⟨0x104, 4, 8⟩
def HIB.WAKECFG_ALARMEN : Fld := ⟨0x104, 12, 1⟩
def HIB.WAKECFG_SIWAKE : Fld := ⟨0x104, 13, 1⟩
def HIB.RTC_SEC : Fld := ⟨0x108, 0, 32⟩
def HIB.RTCSUB_SUB : Fld := ⟨0x10c, 0, 15⟩
def HIB.ALARM_SEC : Fld := ⟨0x110, 0, 32⟩

end Sys2Proof.Machine
end

