-- ==== Sys2Proof/Machine/RegMap.lean ====
section
/-! DEFINITION. The register map: for each block, its registers with their offsets and, per field, the access code, the LK
mark and the reset value, as the register tables of the specification give them (R7, R456, R457). -/

namespace Sys2Proof.Machine

/-- The access codes of R7. -/
inductive Acc where
  | rw | ro | w1c | wo | rc
  deriving DecidableEq, Repr

/-- One field of a register: its lowest bit, width, access code, whether it is LK, and its reset value. -/
structure FieldRow where
  lo : Nat
  w : Nat
  acc : Acc
  lk : Bool
  reset : Nat
  deriving DecidableEq, Repr

/-- One register, or `count` equal registers `stride` bytes apart. -/
structure RegRow where
  ofs : Nat
  stride : Nat
  count : Nat
  fields : List FieldRow
  deriving DecidableEq, Repr

/-- The register rows of the loop engine (chapter 03, Registers). -/
def rowsLE : List RegRow := [
  ⟨0, 4, 1, [⟨0, 1, .rw, true, 0⟩]⟩,
  ⟨4, 4, 1, [⟨0, 9, .ro, false, 0⟩, ⟨9, 4, .ro, false, 8⟩, ⟨13, 1, .ro, false, 0⟩, ⟨14, 1, .ro, false, 0⟩]⟩,
  ⟨8, 4, 2, [⟨0, 32, .ro, false, 0⟩]⟩,
  ⟨0x10, 4, 1, [⟨0, 16, .rc, false, 0⟩, ⟨16, 16, .rc, false, 0⟩]⟩,
  ⟨0x18, 4, 1, [⟨0, 12, .wo, false, 0⟩]⟩,
  ⟨0x20, 4, 1, [⟨0, 8, .ro, false, 0⟩, ⟨8, 8, .ro, false, 0⟩, ⟨16, 16, .ro, false, 0⟩]⟩,
  ⟨0x24, 4, 1, [⟨0, 8, .rc, false, 0⟩, ⟨8, 1, .rc, false, 0⟩, ⟨9, 1, .rc, false, 0⟩, ⟨12, 20, .rc, false, 0⟩]⟩,
  ⟨0x40, 4, 8, [⟨0, 32, .ro, false, 0⟩]⟩,
  ⟨0x100, 4, 64, [⟨0, 8, .rw, true, 0⟩, ⟨8, 3, .rw, true, 0⟩, ⟨15, 1, .rw, true, 0⟩, ⟨16, 8, .rw, true, 0⟩, ⟨24, 8, .rw, true, 0⟩]⟩]
/-- The register rows of axis n (R129, R159), part 1. -/
def rowsAXa : List RegRow := [
  ⟨0, 4, 1, [⟨0, 1, .rw, true, 0⟩]⟩,
  ⟨4, 4, 1, [⟨0, 2, .rw, true, 0⟩, ⟨2, 1, .rw, true, 1⟩, ⟨8, 8, .rw, true, 0x28⟩, ⟨16, 16, .rw, true, 0⟩]⟩,
  ⟨8, 4, 1, [⟨0, 9, .rw, true, 0x20⟩, ⟨9, 1, .rw, true, 0⟩, ⟨12, 4, .rw, true, 4⟩]⟩,
  ⟨0xc, 4, 1, [⟨0, 24, .rw, true, 0⟩]⟩,
  ⟨0x10, 4, 1, [⟨0, 8, .rw, true, 0xff⟩, ⟨8, 8, .rw, true, 0x3c⟩, ⟨16, 8, .rw, true, 4⟩]⟩,
  ⟨0x14, 4, 1, [⟨0, 18, .rw, true, 0⟩]⟩,
  ⟨0x18, 4, 1, [⟨0, 18, .rw, true, 0⟩]⟩,
  ⟨0x1c, 4, 1, [⟨0, 18, .rw, true, 0⟩]⟩,
  ⟨0x20, 4, 1, [⟨0, 18, .rw, true, 0⟩]⟩,
  ⟨0x24, 4, 1, [⟨0, 16, .rw, true, 0⟩, ⟨16, 16, .rw, true, 0⟩]⟩,
  ⟨0x28, 4, 1, [⟨0, 2, .rw, true, 0⟩, ⟨8, 6, .rw, true, 0⟩, ⟨16, 8, .rw, true, 8⟩]⟩,
  ⟨0x2c, 4, 1, [⟨0, 32, .rw, true, 0⟩]⟩]
/-- The register rows of axis n (R129, R159), part 2. -/
def rowsAXb : List RegRow := [
  ⟨0x30, 4, 1, [⟨0, 16, .rw, true, 0⟩, ⟨16, 16, .rw, true, 0⟩]⟩,
  ⟨0x34, 4, 1, [⟨0, 8, .rw, true, 0x10⟩, ⟨8, 8, .rw, true, 0x10⟩, ⟨16, 8, .rw, true, 8⟩]⟩,
  ⟨0x40, 4, 1, [⟨0, 2, .ro, false, 0⟩, ⟨2, 1, .ro, false, 0⟩, ⟨3, 1, .ro, false, 0⟩, ⟨4, 3, .ro, false, 0⟩, ⟨8, 7, .ro, false, 0⟩, ⟨16, 16, .ro, false, 0⟩]⟩,
  ⟨0x44, 4, 1, [⟨0, 1, .w1c, false, 0⟩, ⟨1, 1, .w1c, false, 0⟩, ⟨2, 1, .w1c, false, 0⟩, ⟨3, 1, .w1c, false, 0⟩, ⟨4, 1, .w1c, false, 0⟩, ⟨5, 1, .w1c, false, 0⟩, ⟨6, 1, .w1c, false, 0⟩, ⟨7, 1, .w1c, false, 0⟩, ⟨8, 1, .w1c, false, 0⟩]⟩,
  ⟨0x48, 4, 1, [⟨0, 16, .ro, false, 0⟩, ⟨16, 16, .ro, false, 0⟩]⟩,
  ⟨0x4c, 4, 1, [⟨0, 16, .ro, false, 0⟩, ⟨16, 16, .ro, false, 0⟩]⟩,
  ⟨0x50, 4, 1, [⟨0, 16, .rc, false, 0⟩, ⟨16, 16, .rc, false, 0⟩]⟩]
/-- The register rows of axis n (R129, R159). -/
def rowsAX : List RegRow := rowsAXa ++ rowsAXb
/-- The register rows of feedback unit n (R196), part 1. -/
def rowsFBa : List RegRow := [
  ⟨0, 4, 1, [⟨0, 1, .rw, true, 0⟩, ⟨1, 1, .rw, true, 0⟩, ⟨2, 1, .rw, true, 0⟩, ⟨3, 2, .rw, true, 0⟩, ⟨5, 1, .rw, true, 0⟩, ⟨6, 1, .rw, true, 0⟩, ⟨7, 1, .rw, true, 0⟩]⟩,
  ⟨4, 4, 1, [⟨0, 8, .rw, true, 2⟩, ⟨8, 8, .rw, true, 2⟩, ⟨16, 8, .rw, true, 0x14⟩, ⟨24, 8, .rw, true, 2⟩]⟩,
  ⟨8, 4, 1, [⟨0, 6, .rw, true, 0⟩, ⟨6, 1, .rw, true, 0⟩, ⟨7, 3, .rw, true, 0⟩, ⟨10, 1, .rw, true, 1⟩, ⟨11, 10, .rw, true, 0x14⟩, ⟨21, 8, .rw, true, 0⟩, ⟨29, 1, .rw, true, 0⟩, ⟨30, 1, .rw, true, 0⟩]⟩,
  ⟨0xc, 4, 1, [⟨0, 9, .rw, true, 0xc⟩, ⟨9, 3, .rw, true, 6⟩, ⟨12, 3, .rw, true, 4⟩, ⟨15, 1, .rw, true, 0⟩, ⟨16, 1, .rw, true, 0⟩, ⟨17, 1, .rw, true, 0⟩]⟩,
  ⟨0x10, 4, 1, [⟨0, 32, .rw, true, 0⟩]⟩,
  ⟨0x14, 4, 1, [⟨0, 8, .rw, true, 0x80⟩]⟩,
  ⟨0x18, 4, 1, [⟨0, 32, .rw, true, 0xffffffff⟩]⟩,
  ⟨0x1c, 4, 1, [⟨0, 8, .rw, true, 0x7f⟩]⟩,
  ⟨0x20, 4, 1, [⟨0, 16, .rw, true, 4⟩, ⟨16, 1, .rw, true, 0⟩, ⟨17, 1, .rw, true, 1⟩, ⟨18, 2, .rw, true, 3⟩]⟩,
  ⟨0x24, 4, 1, [⟨0, 32, .rw, true, 0⟩]⟩,
  ⟨0x28, 4, 1, [⟨0, 4, .rw, true, 4⟩, ⟨4, 8, .rw, true, 0x28⟩, ⟨12, 1, .rw, true, 1⟩, ⟨16, 5, .rw, true, 0x10⟩]⟩,
  ⟨0x2c, 4, 1, [⟨0, 32, .rw, true, 0⟩]⟩]
/-- The register rows of feedback unit n (R196), part 2. -/
def rowsFBb : List RegRow := [
  ⟨0x30, 4, 1, [⟨0, 32, .rw, false, 0⟩]⟩,
  ⟨0x34, 4, 1, [⟨0, 1, .wo, false, 0⟩, ⟨1, 1, .wo, false, 0⟩]⟩,
  ⟨0x40, 4, 1, [⟨0, 32, .ro, false, 0⟩]⟩,
  ⟨0x44, 4, 1, [⟨0, 8, .ro, false, 0⟩, ⟨16, 16, .ro, false, 0⟩]⟩,
  ⟨0x48, 4, 1, [⟨0, 32, .ro, false, 0⟩]⟩,
  ⟨0x4c, 4, 1, [⟨0, 2, .ro, false, 0⟩, ⟨2, 3, .ro, false, 0⟩, ⟨5, 1, .ro, false, 0⟩, ⟨6, 1, .ro, false, 0⟩, ⟨7, 1, .ro, false, 0⟩, ⟨16, 16, .ro, false, 0⟩]⟩,
  ⟨0x50, 4, 1, [⟨0, 16, .ro, false, 0⟩, ⟨16, 16, .rc, false, 0⟩]⟩,
  ⟨0x54, 4, 1, [⟨0, 32, .ro, false, 0⟩]⟩,
  ⟨0x58, 4, 1, [⟨0, 16, .ro, false, 0⟩, ⟨16, 8, .ro, false, 0⟩, ⟨24, 2, .ro, false, 0⟩]⟩,
  ⟨0x5c, 4, 1, [⟨0, 1, .w1c, false, 0⟩, ⟨1, 1, .w1c, false, 0⟩, ⟨2, 1, .w1c, false, 0⟩, ⟨3, 1, .w1c, false, 0⟩, ⟨4, 1, .w1c, false, 0⟩, ⟨5, 1, .w1c, false, 0⟩, ⟨6, 1, .w1c, false, 0⟩, ⟨7, 1, .w1c, false, 0⟩, ⟨8, 1, .w1c, false, 0⟩, ⟨9, 1, .w1c, false, 0⟩, ⟨10, 1, .w1c, false, 0⟩, ⟨11, 1, .w1c, false, 0⟩, ⟨12, 1, .w1c, false, 0⟩, ⟨13, 1, .w1c, false, 0⟩, ⟨16, 8, .w1c, false, 0⟩]⟩,
  ⟨0x60, 4, 1, [⟨0, 8, .rc, false, 0⟩, ⟨8, 8, .rc, false, 0⟩, ⟨16, 8, .rc, false, 0⟩, ⟨24, 8, .rc, false, 0⟩]⟩,
  ⟨0x100, 16, 8, [⟨0, 32, .rw, false, 0⟩]⟩]
/-- The register rows of feedback unit n (R196), part 3. -/
def rowsFBc : List RegRow := [
  ⟨0x104, 16, 8, [⟨0, 8, .rw, false, 0⟩]⟩,
  ⟨0x108, 16, 8, [⟨0, 2, .rw, false, 0⟩, ⟨2, 1, .rw, false, 0⟩, ⟨3, 1, .rw, false, 0⟩, ⟨4, 1, .ro, false, 0⟩, ⟨5, 1, .w1c, false, 0⟩, ⟨16, 16, .ro, false, 0⟩]⟩,
  ⟨0x10c, 16, 8, [⟨0, 32, .rw, false, 0⟩]⟩]
/-- The register rows of feedback unit n (R196). -/
def rowsFB : List RegRow := rowsFBa ++ rowsFBb ++ rowsFBc
/-- The register rows of profile generator n (R223), part 1. -/
def rowsPGa : List RegRow := [
  ⟨0, 4, 1, [⟨0, 1, .rw, true, 0⟩, ⟨1, 1, .rw, true, 0⟩, ⟨2, 3, .rw, true, 4⟩, ⟨5, 1, .rw, true, 1⟩, ⟨8, 5, .rw, true, 8⟩]⟩,
  ⟨4, 4, 1, [⟨0, 32, .rw, true, 0⟩]⟩,
  ⟨8, 4, 1, [⟨0, 32, .rw, true, 0⟩]⟩,
  ⟨0xc, 4, 1, [⟨0, 32, .rw, true, 0⟩]⟩,
  ⟨0x10, 4, 1, [⟨0, 32, .rw, true, 0⟩]⟩,
  ⟨0x20, 4, 1, [⟨0, 32, .rw, false, 0⟩]⟩,
  ⟨0x24, 4, 1, [⟨0, 8, .rw, false, 0⟩]⟩,
  ⟨0x28, 4, 1, [⟨0, 32, .rw, false, 0⟩]⟩,
  ⟨0x2c, 4, 1, [⟨0, 32, .rw, false, 0⟩]⟩,
  ⟨0x30, 4, 1, [⟨0, 32, .rw, false, 0⟩]⟩,
  ⟨0x34, 4, 1, [⟨0, 32, .rw, false, 0⟩]⟩,
  ⟨0x38, 4, 1, [⟨0, 32, .rw, false, 0⟩]⟩]
/-- The register rows of profile generator n (R223), part 2. -/
def rowsPGb : List RegRow := [
  ⟨0x3c, 4, 1, [⟨0, 32, .rw, false, 0⟩]⟩,
  ⟨0x40, 4, 1, [⟨0, 3, .wo, false, 0⟩]⟩,
  ⟨0x44, 4, 1, [⟨0, 5, .rw, false, 0⟩, ⟨16, 16, .rw, false, 2⟩]⟩,
  ⟨0x60, 4, 1, [⟨0, 32, .ro, false, 0⟩]⟩,
  ⟨0x64, 4, 1, [⟨0, 8, .ro, false, 0⟩]⟩,
  ⟨0x68, 4, 1, [⟨0, 32, .ro, false, 0⟩]⟩,
  ⟨0x6c, 4, 1, [⟨0, 3, .ro, false, 0⟩, ⟨3, 1, .ro, false, 0⟩, ⟨4, 1, .ro, false, 0⟩, ⟨5, 1, .ro, false, 0⟩, ⟨6, 1, .ro, false, 0⟩, ⟨7, 1, .ro, false, 0⟩, ⟨8, 3, .ro, false, 0⟩]⟩,
  ⟨0x70, 4, 1, [⟨0, 1, .w1c, false, 0⟩, ⟨1, 1, .w1c, false, 0⟩, ⟨2, 1, .w1c, false, 0⟩, ⟨3, 1, .w1c, false, 0⟩, ⟨4, 1, .w1c, false, 0⟩, ⟨5, 1, .w1c, false, 0⟩, ⟨6, 1, .w1c, false, 0⟩, ⟨7, 1, .w1c, false, 0⟩, ⟨8, 1, .w1c, false, 0⟩, ⟨9, 1, .w1c, false, 0⟩, ⟨10, 1, .w1c, false, 0⟩, ⟨11, 1, .w1c, false, 0⟩]⟩,
  ⟨0x100, 16, 17, [⟨0, 24, .rw, false, 0⟩]⟩,
  ⟨0x104, 16, 17, [⟨0, 24, .rw, false, 1⟩]⟩,
  ⟨0x118, 16, 16, [⟨0, 32, .rw, false, 0⟩]⟩,
  ⟨0x11c, 16, 16, [⟨0, 8, .rw, false, 0⟩]⟩]
/-- The register rows of profile generator n (R223). -/
def rowsPG : List RegRow := rowsPGa ++ rowsPGb
/-- The register rows of live calibration (R245), part 1. -/
def rowsCALa : List RegRow := [
  ⟨0, 4, 1, [⟨0, 1, .rw, true, 0⟩, ⟨1, 1, .rw, true, 0⟩, ⟨2, 1, .rw, true, 0⟩, ⟨4, 12, .rw, true, 0x14⟩, ⟨16, 12, .rw, true, 0⟩, ⟨28, 4, .rw, true, 4⟩]⟩,
  ⟨4, 4, 1, [⟨0, 9, .rw, true, 0x20⟩, ⟨12, 4, .rw, true, 8⟩, ⟨16, 8, .rw, true, 0x10⟩, ⟨24, 8, .rw, true, 0x40⟩]⟩,
  ⟨8, 4, 1, [⟨0, 8, .rw, true, 0x32⟩, ⟨8, 8, .rw, true, 8⟩, ⟨16, 16, .rw, true, 0x400⟩]⟩,
  ⟨0xc, 4, 1, [⟨0, 16, .rw, true, 0x1000⟩, ⟨16, 16, .rw, true, 0xc8⟩]⟩,
  ⟨0x10, 4, 1, [⟨0, 8, .rw, true, 0x64⟩, ⟨8, 8, .rw, true, 0x64⟩, ⟨16, 8, .rw, true, 0x18⟩]⟩,
  ⟨0x14, 4, 1, [⟨0, 16, .rw, true, 0x64⟩, ⟨16, 16, .rw, true, 0x32⟩]⟩,
  ⟨0x20, 4, 1, [⟨0, 32, .ro, false, 0⟩]⟩,
  ⟨0x24, 4, 1, [⟨0, 32, .ro, false, 0⟩]⟩,
  ⟨0x28, 4, 1, [⟨0, 1, .w1c, false, 0⟩, ⟨1, 1, .w1c, false, 0⟩, ⟨2, 1, .w1c, false, 0⟩, ⟨3, 1, .w1c, false, 0⟩, ⟨4, 1, .w1c, false, 0⟩, ⟨5, 1, .w1c, false, 0⟩, ⟨6, 1, .w1c, false, 0⟩, ⟨7, 1, .w1c, false, 0⟩]⟩,
  ⟨0x2c, 4, 1, [⟨0, 16, .rc, false, 0⟩, ⟨16, 16, .rc, false, 0⟩]⟩,
  ⟨0x40, 16, 6, [⟨0, 2, .ro, false, 0⟩, ⟨2, 2, .ro, false, 1⟩, ⟨4, 2, .ro, false, 2⟩, ⟨6, 2, .ro, false, 3⟩, ⟨8, 2, .ro, false, 0⟩, ⟨10, 3, .ro, false, 0⟩, ⟨15, 1, .ro, false, 0⟩, ⟨16, 4, .ro, false, 0⟩]⟩,
  ⟨0x44, 16, 6, [⟨0, 16, .ro, false, 0⟩, ⟨16, 16, .ro, false, 0⟩]⟩]
/-- The register rows of live calibration (R245), part 2. -/
def rowsCALb : List RegRow := [
  ⟨0x48, 16, 6, [⟨0, 16, .ro, false, 0⟩, ⟨16, 16, .ro, false, 0⟩]⟩,
  ⟨0x4c, 16, 6, [⟨0, 16, .ro, false, 0⟩, ⟨16, 16, .ro, false, 0⟩]⟩,
  ⟨0x100, 4, 24, [⟨0, 16, .ro, false, 0⟩, ⟨16, 16, .ro, false, 0⟩]⟩,
  ⟨0x1c0, 4, 2, [⟨0, 8, .ro, false, 0⟩, ⟨8, 8, .ro, false, 0⟩, ⟨16, 8, .ro, false, 0⟩, ⟨24, 3, .ro, false, 0⟩]⟩]
/-- The register rows of live calibration (R245). -/
def rowsCAL : List RegRow := rowsCALa ++ rowsCALb
/-- The register rows of pump port p (R268), part 1. -/
def rowsPPa : List RegRow := [
  ⟨0, 4, 1, [⟨0, 1, .rw, true, 0⟩]⟩,
  ⟨4, 4, 1, [⟨0, 2, .rw, true, 0⟩, ⟨2, 2, .rw, true, 1⟩, ⟨8, 8, .rw, true, 0x28⟩, ⟨16, 7, .rw, true, 0⟩, ⟨24, 8, .rw, true, 0x32⟩]⟩,
  ⟨8, 4, 1, [⟨0, 6, .rw, true, 0⟩, ⟨16, 16, .rw, true, 0⟩]⟩,
  ⟨0xc, 4, 1, [⟨0, 18, .rw, true, 0⟩]⟩,
  ⟨0x10, 4, 1, [⟨0, 18, .rw, true, 0⟩]⟩,
  ⟨0x14, 4, 1, [⟨0, 8, .rw, true, 0x14⟩, ⟨8, 8, .rw, true, 0x32⟩, ⟨16, 8, .rw, true, 0x32⟩, ⟨24, 8, .rw, true, 0x64⟩]⟩,
  ⟨0x18, 4, 1, [⟨0, 16, .rw, true, 0⟩, ⟨16, 16, .rw, true, 0⟩]⟩,
  ⟨0x1c, 4, 1, [⟨0, 16, .rw, true, 0x64⟩, ⟨16, 8, .rw, true, 0x32⟩]⟩,
  ⟨0x20, 4, 1, [⟨0, 8, .rw, true, 0xff⟩, ⟨8, 8, .rw, true, 0x3c⟩]⟩,
  ⟨0x24, 4, 1, [⟨0, 16, .rw, true, 0xffff⟩, ⟨16, 8, .rw, true, 0x10⟩, ⟨24, 1, .rw, true, 0⟩]⟩,
  ⟨0x28, 4, 1, [⟨0, 8, .rw, true, 4⟩, ⟨8, 8, .rw, true, 8⟩]⟩,
  ⟨0x40, 4, 1, [⟨0, 3, .ro, false, 0⟩, ⟨3, 3, .ro, false, 0⟩, ⟨6, 1, .ro, false, 0⟩, ⟨7, 1, .ro, false, 0⟩, ⟨8, 2, .ro, false, 0⟩, ⟨10, 1, .ro, false, 0⟩, ⟨11, 1, .ro, false, 1⟩, ⟨16, 16, .ro, false, 0⟩]⟩]
/-- The register rows of pump port p (R268), part 2. -/
def rowsPPb : List RegRow := [
  ⟨0x44, 4, 1, [⟨0, 32, .ro, false, 0⟩]⟩,
  ⟨0x48, 4, 1, [⟨0, 16, .ro, false, 0⟩, ⟨16, 16, .ro, false, 0⟩]⟩,
  ⟨0x4c, 4, 1, [⟨0, 1, .w1c, false, 0⟩, ⟨1, 1, .w1c, false, 0⟩, ⟨2, 1, .w1c, false, 0⟩, ⟨3, 1, .w1c, false, 0⟩, ⟨4, 1, .w1c, false, 0⟩, ⟨5, 1, .w1c, false, 0⟩, ⟨6, 1, .w1c, false, 0⟩, ⟨7, 1, .w1c, false, 0⟩, ⟨8, 1, .w1c, false, 0⟩, ⟨9, 1, .w1c, false, 0⟩]⟩,
  ⟨0x50, 4, 1, [⟨0, 16, .rc, false, 0⟩, ⟨16, 16, .rc, false, 0⟩]⟩]
/-- The register rows of pump port p (R268). -/
def rowsPP : List RegRow := rowsPPa ++ rowsPPb
/-- The register rows of the phase cells (R290). -/
def rowsPC : List RegRow := [
  ⟨0, 4, 1, [⟨0, 8, .rw, true, 0x5a⟩, ⟨8, 8, .rw, true, 0x50⟩, ⟨16, 4, .rw, true, 5⟩, ⟨20, 4, .rw, true, 2⟩, ⟨24, 8, .rw, true, 0x64⟩]⟩,
  ⟨4, 4, 1, [⟨0, 12, .ro, false, 0⟩, ⟨12, 1, .ro, false, 1⟩, ⟨13, 1, .ro, false, 0⟩, ⟨14, 1, .ro, false, 0⟩, ⟨16, 16, .ro, false, 0⟩]⟩,
  ⟨8, 4, 1, [⟨0, 1, .w1c, false, 0⟩, ⟨1, 1, .w1c, false, 0⟩, ⟨2, 1, .w1c, false, 0⟩]⟩,
  ⟨0xc, 4, 1, [⟨0, 16, .rc, false, 0⟩, ⟨16, 16, .rc, false, 0⟩]⟩,
  ⟨0x100, 32, 24, [⟨0, 7, .rw, true, 0x32⟩, ⟨8, 8, .rw, true, 0x28⟩, ⟨16, 4, .rw, true, 4⟩, ⟨24, 1, .rw, true, 1⟩, ⟨28, 4, .rw, true, 4⟩]⟩,
  ⟨0x104, 32, 24, [⟨0, 5, .rw, true, 0⟩, ⟨8, 5, .rw, true, 0x1f⟩, ⟨16, 5, .rw, true, 0x10⟩, ⟨24, 8, .rw, true, 0x28⟩]⟩,
  ⟨0x108, 32, 24, [⟨0, 5, .ro, false, 0x10⟩, ⟨8, 5, .ro, false, 0x10⟩, ⟨16, 1, .ro, false, 0⟩, ⟨17, 1, .ro, false, 0⟩, ⟨18, 1, .ro, false, 0⟩, ⟨19, 1, .ro, false, 0⟩, ⟨20, 1, .ro, false, 0⟩, ⟨21, 1, .ro, false, 0⟩, ⟨22, 2, .ro, false, 0⟩, ⟨24, 1, .ro, false, 0⟩]⟩,
  ⟨0x10c, 32, 24, [⟨0, 8, .ro, false, 0⟩, ⟨8, 8, .ro, false, 0⟩]⟩,
  ⟨0x110, 32, 24, [⟨0, 16, .rc, false, 0⟩, ⟨16, 8, .rc, false, 0⟩, ⟨24, 8, .rc, false, 0⟩]⟩,
  ⟨0x114, 32, 24, [⟨0, 1, .w1c, false, 0⟩, ⟨1, 1, .w1c, false, 0⟩, ⟨2, 1, .w1c, false, 0⟩, ⟨3, 1, .w1c, false, 0⟩, ⟨4, 1, .w1c, false, 0⟩, ⟨5, 1, .w1c, false, 0⟩]⟩]
/-- The register rows of the input exchange (R327). -/
def rowsXCH : List RegRow := [
  ⟨0, 4, 1, [⟨0, 1, .rw, true, 0⟩, ⟨4, 12, .rw, true, 0xfa⟩, ⟨16, 8, .rw, true, 0⟩]⟩,
  ⟨4, 4, 1, [⟨0, 16, .ro, false, 0⟩, ⟨16, 6, .ro, false, 0⟩, ⟨24, 8, .rc, false, 0⟩]⟩]
/-- The register rows of the checkpoint engine (R327). -/
def rowsCKPT : List RegRow := [
  ⟨0, 4, 1, [⟨0, 1, .rw, true, 0⟩]⟩,
  ⟨4, 4, 1, [⟨0, 16, .wo, false, 0⟩, ⟨16, 1, .wo, false, 0⟩, ⟨17, 1, .wo, false, 0⟩]⟩,
  ⟨8, 4, 1, [⟨0, 1, .ro, false, 0⟩, ⟨1, 1, .w1c, false, 0⟩, ⟨16, 16, .ro, false, 0⟩]⟩,
  ⟨0xc, 4, 1, [⟨0, 32, .ro, false, 0⟩]⟩,
  ⟨0x10, 4, 1, [⟨0, 16, .wo, false, 0⟩, ⟨16, 2, .wo, false, 0⟩]⟩,
  ⟨0x40, 8, 8, [⟨0, 32, .rw, true, 0⟩]⟩,
  ⟨0x44, 8, 8, [⟨0, 32, .rw, true, 0⟩]⟩]
/-- The register rows of the comparator as the lanes see it (R327). -/
def rowsCMPS : List RegRow := [
  ⟨0, 4, 1, [⟨0, 2, .ro, false, 0⟩, ⟨2, 1, .ro, false, 0⟩, ⟨3, 1, .ro, false, 0⟩, ⟨4, 2, .ro, false, 0⟩, ⟨6, 1, .ro, false, 0⟩, ⟨8, 8, .ro, false, 0⟩, ⟨16, 16, .ro, false, 0⟩]⟩,
  ⟨4, 4, 1, [⟨0, 16, .ro, false, 0⟩, ⟨16, 4, .ro, false, 0⟩, ⟨20, 8, .ro, false, 0⟩, ⟨28, 2, .ro, false, 0⟩]⟩,
  ⟨8, 4, 1, [⟨0, 10, .ro, false, 0⟩, ⟨10, 10, .ro, false, 0⟩, ⟨20, 12, .ro, false, 0⟩]⟩,
  ⟨0x10, 4, 1, [⟨0, 32, .ro, false, 0⟩]⟩,
  ⟨0x14, 4, 1, [⟨0, 32, .ro, false, 0⟩]⟩,
  ⟨0x18, 4, 1, [⟨0, 32, .ro, false, 0⟩]⟩,
  ⟨0x1c, 4, 1, [⟨0, 16, .ro, false, 0⟩]⟩]
/-- The register rows of Skink (R352), part 1. -/
def rowsSKa : List RegRow := [
  ⟨0, 4, 1, [⟨0, 4, .ro, false, 3⟩, ⟨4, 1, .ro, false, 0⟩, ⟨5, 1, .ro, false, 0⟩, ⟨6, 1, .ro, false, 0⟩, ⟨7, 1, .ro, false, 0⟩, ⟨8, 1, .ro, false, 0⟩, ⟨9, 1, .ro, false, 0⟩]⟩,
  ⟨4, 4, 1, [⟨0, 32, .ro, false, 0⟩]⟩,
  ⟨8, 4, 1, [⟨0, 7, .ro, false, 0x64⟩, ⟨8, 7, .ro, false, 0x64⟩]⟩,
  ⟨0xc, 4, 1, [⟨0, 7, .ro, false, 0x32⟩, ⟨8, 7, .ro, false, 0x32⟩, ⟨16, 7, .ro, false, 0x32⟩, ⟨24, 7, .ro, false, 0x32⟩]⟩,
  ⟨0x10, 4, 1, [⟨0, 7, .ro, false, 0x32⟩, ⟨8, 7, .ro, false, 0x32⟩]⟩,
  ⟨0x14, 4, 1, [⟨0, 16, .ro, false, 0⟩, ⟨16, 16, .ro, false, 0⟩]⟩,
  ⟨0x18, 4, 1, [⟨0, 32, .ro, false, 0⟩]⟩,
  ⟨0x1c, 4, 1, [⟨0, 16, .ro, false, 0⟩, ⟨16, 16, .ro, false, 0⟩]⟩,
  ⟨0x20, 4, 1, [⟨0, 16, .ro, false, 0⟩]⟩,
  ⟨0x24, 4, 1, [⟨0, 16, .ro, false, 0⟩, ⟨16, 1, .ro, false, 0⟩]⟩,
  ⟨0x28, 4, 1, [⟨0, 8, .ro, false, 0⟩, ⟨8, 8, .ro, false, 0⟩, ⟨16, 1, .ro, false, 0⟩, ⟨17, 1, .ro, false, 0⟩]⟩,
  ⟨0x40, 4, 1, [⟨0, 1, .wo, false, 0⟩]⟩]
/-- The register rows of Skink (R352), part 2. -/
def rowsSKb : List RegRow := [
  ⟨0x44, 4, 1, [⟨0, 32, .wo, false, 0⟩]⟩,
  ⟨0x48, 4, 1, [⟨0, 2, .ro, false, 0⟩, ⟨2, 7, .ro, false, 0⟩]⟩,
  ⟨0x60, 4, 8, [⟨0, 32, .rw, false, 0⟩]⟩,
  ⟨0x80, 4, 8, [⟨0, 32, .ro, false, 0⟩]⟩,
  ⟨0x400, 4, 128, [⟨0, 32, .ro, false, 0⟩]⟩]
/-- The register rows of Skink (R352). -/
def rowsSK : List RegRow := rowsSKa ++ rowsSKb
/-- The register rows of the lane collector (R376). -/
def rowsFC : List RegRow := [
  ⟨0, 4, 1, [⟨0, 1, .rw, false, 0⟩]⟩,
  ⟨4, 4, 1, [⟨0, 1, .ro, false, 0⟩, ⟨1, 1, .ro, false, 0⟩, ⟨2, 1, .ro, false, 0⟩, ⟨3, 1, .ro, false, 0⟩, ⟨8, 7, .ro, false, 0⟩, ⟨16, 16, .rc, false, 0⟩]⟩,
  ⟨8, 4, 1, [⟨0, 13, .ro, false, 0⟩]⟩,
  ⟨0xc, 4, 1, [⟨0, 32, .ro, false, 0⟩]⟩,
  ⟨0x10, 4, 1, [⟨0, 1, .wo, false, 0⟩]⟩,
  ⟨0x14, 4, 1, [⟨0, 9, .rw, false, 0⟩]⟩,
  ⟨0x18, 4, 1, [⟨0, 3, .ro, false, 0⟩, ⟨3, 1, .ro, false, 0⟩, ⟨4, 1, .ro, false, 0⟩, ⟨8, 8, .ro, false, 0⟩, ⟨16, 16, .ro, false, 0⟩]⟩,
  ⟨0x1c, 4, 1, [⟨0, 8, .ro, false, 0⟩, ⟨8, 8, .ro, false, 0⟩, ⟨16, 8, .ro, false, 0⟩, ⟨24, 8, .ro, false, 0⟩]⟩,
  ⟨0x40, 4, 16, [⟨0, 32, .w1c, false, 0⟩]⟩,
  ⟨0x80, 4, 16, [⟨0, 32, .wo, false, 0⟩]⟩,
  ⟨0x100, 4, 64, [⟨0, 4, .rw, true, 0⟩, ⟨4, 4, .rw, true, 0⟩, ⟨8, 4, .rw, true, 0⟩, ⟨12, 4, .rw, true, 0⟩, ⟨16, 4, .rw, true, 0⟩, ⟨20, 4, .rw, true, 0⟩, ⟨24, 4, .rw, true, 0⟩, ⟨28, 4, .rw, true, 0⟩]⟩]
/-- The register rows of Skink's collector (R377). -/
def rowsSKFC : List RegRow := [
  ⟨0, 4, 4, [⟨0, 32, .ro, false, 0⟩]⟩,
  ⟨0x10, 4, 1, [⟨0, 7, .ro, false, 0⟩, ⟨7, 1, .ro, false, 0⟩, ⟨8, 3, .ro, false, 0⟩, ⟨11, 1, .ro, false, 0⟩]⟩,
  ⟨0x14, 4, 1, [⟨0, 16, .wo, false, 0⟩]⟩,
  ⟨0x18, 4, 1, [⟨0, 7, .wo, false, 0⟩]⟩,
  ⟨0x1c, 4, 1, [⟨0, 6, .rw, false, 0⟩]⟩,
  ⟨0x20, 4, 1, [⟨0, 16, .ro, false, 0⟩, ⟨16, 2, .ro, false, 0⟩, ⟨18, 9, .ro, false, 0⟩, ⟨27, 3, .ro, false, 0⟩, ⟨30, 1, .ro, false, 0⟩, ⟨31, 1, .ro, false, 0⟩]⟩]
/-- The register rows of an SCN channel bank (R418), part 1. -/
def rowsSCNa : List RegRow := [
  ⟨0, 4, 1, [⟨0, 1, .rw, true, 0⟩, ⟨1, 1, .rw, true, 0⟩, ⟨2, 1, .rw, true, 0⟩, ⟨3, 4, .rw, true, 0⟩, ⟨7, 1, .rw, true, 0⟩, ⟨8, 1, .rw, true, 0⟩, ⟨16, 10, .rw, true, 0⟩]⟩,
  ⟨4, 4, 1, [⟨0, 8, .rw, true, 0⟩, ⟨8, 8, .rw, true, 0⟩, ⟨16, 8, .rw, true, 0⟩]⟩,
  ⟨8, 4, 1, [⟨0, 16, .rw, true, 0x190⟩]⟩,
  ⟨0xc, 4, 1, [⟨0, 3, .ro, false, 0⟩, ⟨4, 3, .ro, false, 0⟩, ⟨7, 1, .ro, false, 0⟩, ⟨8, 3, .ro, false, 0⟩, ⟨12, 4, .ro, false, 0⟩, ⟨16, 16, .ro, false, 0⟩]⟩,
  ⟨0x10, 4, 1, [⟨0, 3, .wo, false, 0⟩, ⟨3, 1, .wo, false, 0⟩, ⟨4, 1, .wo, false, 0⟩]⟩,
  ⟨0x14, 4, 1, [⟨0, 32, .ro, false, 0⟩]⟩,
  ⟨0x18, 4, 1, [⟨0, 32, .ro, false, 0⟩]⟩,
  ⟨0x1c, 4, 1, [⟨0, 1, .w1c, false, 0⟩, ⟨1, 1, .w1c, false, 0⟩, ⟨2, 1, .w1c, false, 0⟩, ⟨3, 1, .w1c, false, 0⟩, ⟨4, 1, .w1c, false, 0⟩, ⟨5, 1, .w1c, false, 0⟩, ⟨6, 1, .w1c, false, 0⟩, ⟨7, 1, .w1c, false, 0⟩]⟩,
  ⟨0x20, 4, 1, [⟨0, 16, .rc, false, 0⟩, ⟨16, 16, .rc, false, 0⟩]⟩,
  ⟨0x100, 32, 8, [⟨0, 18, .rw, true, 0⟩, ⟨31, 1, .rw, true, 0⟩]⟩,
  ⟨0x104, 32, 8, [⟨0, 10, .rw, true, 0⟩, ⟨16, 12, .rw, true, 0⟩]⟩,
  ⟨0x108, 32, 8, [⟨0, 10, .rw, true, 0⟩, ⟨16, 7, .rw, true, 0⟩]⟩]
/-- The register rows of an SCN channel bank (R418), part 2. -/
def rowsSCNb : List RegRow := [
  ⟨0x10c, 32, 8, [⟨0, 8, .rw, true, 0⟩, ⟨8, 8, .rw, true, 0⟩, ⟨16, 10, .rw, true, 0⟩]⟩,
  ⟨0x110, 32, 8, [⟨0, 16, .rw, true, 0⟩]⟩,
  ⟨0x200, 4, 15, [⟨0, 10, .rw, true, 0⟩, ⟨15, 1, .rw, true, 0⟩, ⟨16, 16, .rw, true, 0⟩]⟩,
  ⟨0x400, 16, 32, [⟨0, 10, .rw, false, 0⟩, ⟨10, 8, .rw, false, 0⟩, ⟨24, 8, .rw, false, 0⟩]⟩,
  ⟨0x404, 16, 32, [⟨0, 14, .rw, false, 0⟩, ⟨16, 11, .rw, false, 0⟩]⟩,
  ⟨0x408, 16, 32, [⟨0, 16, .rw, false, 0⟩, ⟨16, 16, .rw, false, 0⟩]⟩,
  ⟨0x40c, 16, 32, [⟨0, 1, .wo, false, 0⟩, ⟨1, 1, .rw, false, 0⟩, ⟨2, 1, .rw, false, 0⟩, ⟨3, 1, .rw, false, 0⟩, ⟨4, 1, .rw, false, 0⟩, ⟨5, 1, .rw, false, 0⟩, ⟨6, 1, .wo, false, 0⟩, ⟨8, 8, .rw, false, 0⟩, ⟨16, 4, .ro, false, 0⟩]⟩,
  ⟨0x800, 16, 64, [⟨0, 10, .rw, false, 0⟩, ⟨10, 8, .rw, false, 0⟩, ⟨24, 8, .rw, false, 0⟩]⟩,
  ⟨0x804, 16, 64, [⟨0, 14, .rw, false, 0⟩, ⟨16, 11, .rw, false, 0⟩, ⟨28, 1, .rw, false, 0⟩, ⟨29, 1, .rw, false, 0⟩, ⟨30, 1, .rw, false, 0⟩]⟩,
  ⟨0x808, 16, 64, [⟨0, 8, .rw, false, 0⟩]⟩,
  ⟨0x80c, 16, 64, [⟨0, 1, .ro, false, 0⟩, ⟨1, 1, .w1c, false, 0⟩, ⟨2, 1, .ro, false, 0⟩, ⟨16, 16, .ro, false, 0⟩]⟩,
  ⟨0x1000, 4, 511, [⟨0, 16, .rc, false, 0⟩, ⟨16, 16, .rc, false, 0⟩]⟩]
/-- The register rows of an SCN channel bank (R418), part 3. -/
def rowsSCNc : List RegRow := [
  ⟨0x17fc, 4, 1, [⟨0, 16, .rc, false, 0⟩]⟩,
  ⟨0x1800, 4, 256, [⟨0, 32, .rw, true, 0⟩]⟩]
/-- The register rows of an SCN channel bank (R418). -/
def rowsSCN : List RegRow := rowsSCNa ++ rowsSCNb ++ rowsSCNc
/-- The register rows of the lane-wide SCN registers (R418). -/
def rowsSCNG : List RegRow := [
  ⟨0x4000, 4, 16, [⟨0, 10, .rw, true, 0⟩, ⟨12, 1, .rw, true, 0⟩, ⟨15, 1, .rw, true, 0⟩]⟩,
  ⟨0x4040, 4, 1, [⟨0, 1, .rw, true, 0⟩, ⟨1, 1, .rw, true, 0⟩]⟩]
/-- The register rows of the star (R418). -/
def rowsSTAR : List RegRow := [
  ⟨0x6000, 4, 1, [⟨0, 1, .rw, true, 0⟩, ⟨1, 1, .rw, true, 0⟩]⟩,
  ⟨0x6004, 4, 1, [⟨0, 1, .ro, false, 0⟩, ⟨1, 3, .ro, false, 0⟩, ⟨4, 4, .ro, false, 0⟩, ⟨16, 16, .ro, false, 0⟩]⟩,
  ⟨0x6010, 4, 7, [⟨0, 16, .rw, true, 0⟩, ⟨16, 1, .rw, true, 0⟩, ⟨17, 1, .rw, true, 0⟩, ⟨18, 1, .ro, false, 0⟩]⟩,
  ⟨0x6030, 4, 7, [⟨0, 16, .rc, false, 0⟩, ⟨16, 8, .rc, false, 0⟩, ⟨24, 8, .rc, false, 0⟩]⟩,
  ⟨0x6050, 4, 1, [⟨0, 10, .ro, false, 0⟩, ⟨12, 3, .ro, false, 0⟩, ⟨15, 1, .ro, false, 0⟩, ⟨16, 16, .ro, false, 0⟩]⟩,
  ⟨0x8000, 4, 2048, [⟨0, 4, .rw, true, 0⟩, ⟨8, 4, .rw, true, 0⟩, ⟨16, 4, .rw, true, 0⟩, ⟨24, 4, .rw, true, 0⟩]⟩,
  ⟨0xa000, 4, 512, [⟨0, 4, .rw, true, 0⟩, ⟨8, 4, .rw, true, 0⟩, ⟨16, 4, .rw, true, 0⟩, ⟨24, 4, .rw, true, 0⟩]⟩]
/-- The register rows of the SCN staging and store memories (R418). -/
def rowsSCNM : List RegRow := [
  ⟨0x20000, 4, 4096, [⟨0, 32, .rw, false, 0⟩]⟩,
  ⟨0x30000, 4, 4096, [⟨0, 32, .rw, false, 0⟩]⟩,
  ⟨0x40000, 4, 4096, [⟨0, 32, .rw, false, 0⟩]⟩,
  ⟨0x50000, 4, 4096, [⟨0, 32, .rw, false, 0⟩]⟩]
/-- The register rows of CAN controller k (R419, R448), part 1. -/
def rowsCANa : List RegRow := [
  ⟨0, 4, 1, [⟨0, 1, .rw, true, 0⟩, ⟨1, 1, .rw, true, 0⟩, ⟨2, 1, .rw, true, 0⟩, ⟨3, 2, .rw, true, 0⟩, ⟨5, 1, .rw, true, 0⟩, ⟨6, 1, .rw, true, 0⟩, ⟨7, 1, .rw, true, 0⟩, ⟨8, 2, .rw, true, 0⟩]⟩,
  ⟨4, 4, 1, [⟨0, 8, .rw, true, 0⟩, ⟨8, 8, .rw, true, 0x7e⟩, ⟨16, 7, .rw, true, 0x1f⟩, ⟨23, 7, .rw, true, 0x1f⟩]⟩,
  ⟨8, 4, 1, [⟨0, 5, .rw, true, 0⟩, ⟨8, 5, .rw, true, 0x1e⟩, ⟨16, 4, .rw, true, 7⟩, ⟨24, 4, .rw, true, 7⟩]⟩,
  ⟨0xc, 4, 1, [⟨0, 1, .rw, true, 0⟩, ⟨8, 7, .rw, true, 0x20⟩, ⟨16, 7, .rw, true, 0⟩, ⟨24, 7, .ro, false, 0⟩]⟩,
  ⟨0x10, 4, 1, [⟨0, 10, .rw, true, 0⟩, ⟨10, 2, .rw, true, 0⟩, ⟨12, 1, .rw, true, 1⟩, ⟨13, 3, .rw, true, 7⟩, ⟨16, 1, .rw, true, 0⟩, ⟨17, 1, .rw, true, 0⟩]⟩,
  ⟨0x14, 4, 1, [⟨0, 4, .rw, true, 0⟩]⟩,
  ⟨0x18, 4, 1, [⟨0, 3, .rw, true, 0⟩, ⟨8, 5, .rw, true, 0⟩, ⟨16, 16, .rw, true, 0⟩]⟩,
  ⟨0x1c, 4, 1, [⟨0, 29, .rw, true, 0⟩, ⟨29, 1, .rw, true, 0⟩]⟩,
  ⟨0x40, 4, 1, [⟨0, 2, .ro, false, 0⟩, ⟨3, 1, .ro, false, 0⟩, ⟨4, 1, .ro, false, 0⟩, ⟨8, 8, .ro, false, 0⟩, ⟨16, 8, .ro, false, 0⟩, ⟨24, 8, .ro, false, 0⟩]⟩,
  ⟨0x44, 4, 1, [⟨0, 6, .ro, false, 0⟩, ⟨6, 1, .ro, false, 0⟩, ⟨7, 1, .ro, false, 0⟩, ⟨16, 16, .ro, false, 0⟩]⟩,
  ⟨0x48, 4, 1, [⟨0, 1, .w1c, false, 0⟩, ⟨1, 1, .w1c, false, 0⟩, ⟨2, 1, .w1c, false, 0⟩, ⟨3, 1, .w1c, false, 0⟩, ⟨4, 1, .w1c, false, 0⟩, ⟨5, 1, .w1c, false, 0⟩, ⟨6, 1, .w1c, false, 0⟩, ⟨7, 1, .w1c, false, 0⟩, ⟨8, 1, .w1c, false, 0⟩, ⟨9, 1, .w1c, false, 0⟩, ⟨10, 1, .w1c, false, 0⟩, ⟨11, 1, .w1c, false, 0⟩, ⟨12, 1, .w1c, false, 0⟩, ⟨13, 1, .w1c, false, 0⟩, ⟨14, 1, .w1c, false, 0⟩, ⟨15, 1, .w1c, false, 0⟩]⟩,
  ⟨0x4c, 4, 1, [⟨0, 16, .rc, false, 0⟩, ⟨16, 16, .rc, false, 0⟩]⟩]
/-- The register rows of CAN controller k (R419, R448), part 2. -/
def rowsCANb : List RegRow := [
  ⟨0x50, 4, 2, [⟨0, 6, .ro, false, 0⟩, ⟨8, 6, .ro, false, 0⟩, ⟨16, 7, .ro, false, 0⟩, ⟨23, 1, .ro, false, 0⟩, ⟨24, 8, .rc, false, 0⟩]⟩,
  ⟨0x58, 4, 2, [⟨0, 7, .wo, false, 0⟩]⟩,
  ⟨0x60, 4, 2, [⟨0, 32, .w1c, false, 0⟩]⟩,
  ⟨0x68, 4, 1, [⟨0, 32, .ro, false, 0⟩]⟩,
  ⟨0x6c, 4, 1, [⟨0, 1, .wo, false, 0⟩]⟩,
  ⟨0x2000, 16, 512, [⟨0, 2, .rw, true, 0⟩, ⟨2, 1, .rw, true, 0⟩, ⟨3, 2, .rw, true, 0⟩, ⟨5, 6, .rw, true, 0⟩, ⟨11, 1, .rw, true, 0⟩]⟩,
  ⟨0x2004, 16, 512, [⟨0, 29, .rw, true, 0⟩]⟩,
  ⟨0x2008, 16, 512, [⟨0, 29, .rw, true, 0⟩]⟩,
  ⟨0x4000, 4, 1280, [⟨0, 32, .rw, false, 0⟩]⟩,
  ⟨0x5400, 4, 1280, [⟨0, 32, .rw, false, 0⟩]⟩,
  ⟨0x6800, 4, 1280, [⟨0, 32, .rw, false, 0⟩]⟩,
  ⟨0x7c00, 4, 640, [⟨0, 32, .rw, false, 0⟩]⟩,
  ⟨0x8800, 4, 32, [⟨0, 16, .rw, true, 0⟩]⟩,
  ⟨0x9000, 4, 2048, [⟨0, 2, .rw, true, 0⟩, ⟨2, 5, .rw, true, 0⟩]⟩]
/-- The register rows of CAN controller k (R419, R448). -/
def rowsCAN : List RegRow := rowsCANa ++ rowsCANb
/-- The register rows of the DMA channels (R477). -/
def rowsDMA : List RegRow := [
  ⟨0, 4, 1, [⟨0, 16, .w1c, false, 0⟩, ⟨16, 16, .w1c, false, 0⟩]⟩,
  ⟨0x100, 32, 16, [⟨0, 32, .rw, false, 0⟩]⟩,
  ⟨0x104, 32, 16, [⟨0, 8, .rw, false, 0⟩]⟩,
  ⟨0x108, 32, 16, [⟨0, 1, .wo, false, 0⟩, ⟨1, 1, .wo, false, 0⟩]⟩,
  ⟨0x10c, 32, 16, [⟨0, 2, .ro, false, 0⟩, ⟨2, 1, .w1c, false, 0⟩, ⟨4, 4, .ro, false, 0⟩, ⟨8, 24, .ro, false, 0⟩]⟩]
/-- The register rows of the memory controller (R478). -/
def rowsMEMC : List RegRow := [
  ⟨0, 4, 1, [⟨0, 8, .rw, false, 4⟩]⟩,
  ⟨4, 4, 1, [⟨0, 1, .ro, false, 0⟩, ⟨16, 16, .ro, false, 0⟩]⟩,
  ⟨8, 4, 1, [⟨0, 32, .ro, false, 0⟩]⟩,
  ⟨0xc, 4, 1, [⟨0, 8, .ro, false, 0⟩, ⟨8, 3, .ro, false, 0⟩, ⟨11, 1, .ro, false, 0⟩]⟩,
  ⟨0x10, 4, 1, [⟨0, 24, .rc, false, 0⟩, ⟨24, 8, .rc, false, 0⟩]⟩]
/-- The register rows of the event recorder (R479), part 1. -/
def rowsERa : List RegRow := [
  ⟨0, 4, 1, [⟨0, 1, .rw, true, 0⟩, ⟨1, 3, .rw, true, 4⟩, ⟨4, 4, .rw, true, 3⟩, ⟨16, 16, .rw, true, 0x7d0⟩]⟩,
  ⟨4, 4, 1, [⟨0, 20, .rw, true, 0x10000⟩]⟩,
  ⟨8, 4, 1, [⟨0, 1, .wo, false, 0⟩, ⟨8, 8, .wo, false, 0⟩]⟩,
  ⟨0xc, 4, 1, [⟨0, 8, .ro, false, 0⟩, ⟨8, 1, .ro, false, 0⟩]⟩,
  ⟨0x10, 4, 1, [⟨0, 32, .ro, false, 0⟩]⟩,
  ⟨0x14, 4, 1, [⟨0, 8, .ro, false, 0⟩]⟩,
  ⟨0x18, 4, 1, [⟨0, 16, .rc, false, 0⟩, ⟨16, 16, .rc, false, 0⟩]⟩,
  ⟨0x40, 16, 8, [⟨0, 32, .ro, false, 0⟩]⟩,
  ⟨0x44, 16, 8, [⟨0, 8, .ro, false, 0⟩]⟩,
  ⟨0x48, 16, 8, [⟨0, 32, .ro, false, 0⟩]⟩,
  ⟨0x4c, 16, 8, [⟨0, 9, .ro, false, 0⟩, ⟨9, 3, .ro, false, 0⟩, ⟨12, 1, .ro, false, 0⟩]⟩,
  ⟨0x100, 4, 1, [⟨0, 32, .ro, false, 0⟩]⟩]
/-- The register rows of the event recorder (R479), part 2. -/
def rowsERb : List RegRow := [
  ⟨0x104, 4, 127, [⟨0, 32, .rw, true, 0⟩]⟩]
/-- The register rows of the event recorder (R479). -/
def rowsER : List RegRow := rowsERa ++ rowsERb
/-- The register rows of an interrupt controller bank (R492). -/
def rowsIC : List RegRow := [
  ⟨0, 4, 1, [⟨0, 16, .ro, false, 0⟩, ⟨16, 16, .ro, false, 0⟩]⟩,
  ⟨4, 4, 1, [⟨0, 4, .wo, false, 0⟩]⟩,
  ⟨0x10, 4, 2, [⟨0, 32, .wo, false, 0⟩]⟩,
  ⟨0x20, 4, 1, [⟨0, 14, .ro, false, 0⟩]⟩,
  ⟨0x40, 4, 14, [⟨0, 32, .ro, false, 0⟩]⟩,
  ⟨0x80, 4, 14, [⟨0, 32, .rw, false, 0xffffffff⟩]⟩,
  ⟨0x400, 4, 448, [⟨0, 8, .rc, false, 0⟩, ⟨8, 1, .ro, false, 0⟩, ⟨9, 1, .ro, false, 0⟩, ⟨16, 4, .rw, false, 0⟩]⟩]
/-- The register rows of the shared routing registers (R492). -/
def rowsICS : List RegRow := [
  ⟨0x8000, 4, 384, [⟨0, 2, .rw, true, 0⟩]⟩]
/-- The register rows of the self-test controller (R510). -/
def rowsBIST : List RegRow := [
  ⟨0, 4, 1, [⟨0, 1, .rw, true, 0⟩, ⟨8, 8, .rw, true, 2⟩]⟩,
  ⟨4, 4, 1, [⟨0, 7, .ro, false, 0⟩, ⟨7, 1, .ro, false, 0⟩, ⟨8, 2, .ro, false, 0⟩, ⟨16, 16, .ro, false, 0⟩]⟩,
  ⟨8, 4, 3, [⟨0, 32, .ro, false, 0⟩]⟩,
  ⟨0x14, 4, 1, [⟨0, 16, .rc, false, 0⟩]⟩]
/-- The register rows of the crypto block (R510). -/
def rowsCRY : List RegRow := [
  ⟨0, 4, 1, [⟨0, 3, .wo, false, 0⟩]⟩,
  ⟨4, 4, 1, [⟨0, 32, .rw, false, 0⟩]⟩,
  ⟨8, 4, 1, [⟨0, 8, .rw, false, 0⟩]⟩,
  ⟨0xc, 4, 1, [⟨0, 2, .ro, false, 0⟩, ⟨4, 4, .ro, false, 0⟩, ⟨8, 1, .ro, false, 0⟩, ⟨9, 1, .ro, false, 0⟩]⟩,
  ⟨0x10, 4, 1, [⟨0, 1, .ro, false, 0⟩, ⟨1, 1, .ro, false, 0⟩, ⟨2, 2, .ro, false, 0⟩, ⟨4, 1, .ro, false, 0⟩, ⟨8, 7, .ro, false, 0⟩, ⟨16, 7, .ro, false, 0⟩, ⟨24, 2, .ro, false, 0⟩]⟩]
/-- The register rows of power and clock (R526). -/
def rowsPWR : List RegRow := [
  ⟨0, 4, 1, [⟨0, 1, .ro, false, 0⟩, ⟨1, 1, .ro, false, 0⟩, ⟨2, 1, .ro, false, 0⟩, ⟨3, 1, .ro, false, 0⟩]⟩,
  ⟨4, 4, 1, [⟨0, 3, .rc, false, 0⟩, ⟨3, 1, .rc, false, 0⟩, ⟨4, 1, .rc, false, 0⟩]⟩,
  ⟨8, 4, 1, [⟨0, 12, .ro, false, 0⟩]⟩]
/-- The register rows of the hibernate domain (R526). -/
def rowsHIB : List RegRow := [
  ⟨0x100, 4, 1, [⟨0, 1, .ro, false, 1⟩, ⟨1, 2, .ro, false, 0⟩, ⟨3, 6, .ro, false, 0⟩, ⟨9, 1, .ro, false, 0⟩]⟩,
  ⟨0x104, 4, 1, [⟨0, 4, .rw, false, 0⟩, ⟨4, 8, .rw, false, 0⟩, ⟨12, 1, .rw, false, 0⟩, ⟨13, 1, .rw, false, 0⟩]⟩,
  ⟨0x108, 4, 1, [⟨0, 32, .rw, false, 0⟩]⟩,
  ⟨0x10c, 4, 1, [⟨0, 15, .ro, false, 0⟩]⟩,
  ⟨0x110, 4, 1, [⟨0, 32, .rw, false, 0⟩]⟩]

/-- The row of a block's table that a register offset belongs to. -/
def findRow : List RegRow → Nat → Option RegRow
  | [], _ => none
  | r :: rest, o =>
    if r.ofs ≤ o && (o - r.ofs) % r.stride == 0 && (o - r.ofs) / r.stride < r.count then some r else findRow rest o

/-- The number of a lane's register home: 0, 1, 2 for A, B, W; 3 for the registers that all lanes share. -/
def sharedHome : Nat := 3

/-- The block of an address in lane l's map, as its base and rows (R455 to R457). A home of 3 reaches the shared blocks only. -/
def blockOf (l a : Nat) : Option (Nat × List RegRow) :=
  if a < 0x21100000 then none
  else if a < 0x21101000 then some (0x21100000, rowsLE)
  else if a < 0x40100000 then none
  else if a < 0x40106000 then if l < 2 then some (a - a % 0x1000, rowsAX) else none
  else if a < 0x40140000 then none
  else if a < 0x40146000 then if l < 2 then some (a - a % 0x1000, rowsPG) else none
  else if a < 0x40180000 then none
  else if a < 0x40182000 then if l < 2 then some (a - a % 0x1000, rowsPP) else none
  else if a < 0x40200000 then none
  else if a < 0x40206000 then some (a - a % 0x1000, rowsFB)
  else if a < 0x4020c000 then if l = 2 then some (a - a % 0x1000, rowsFB) else none
  else if a < 0x40300000 then none
  else if a < 0x40304000 then some (a - a % 0x2000, rowsSCN)
  else if a < 0x40306000 then some (0x40300000, rowsSCNG)
  else if a < 0x40310000 then some (0x40300000, if l < 2 then rowsSTAR else [])
  else if a < 0x40360000 then some (0x40300000, rowsSCNM)
  else if a < 0x40400000 then none
  else if a < 0x40420000 then some (a - a % 0x10000, rowsCAN)
  else if a < 0x40440000 then if l < 2 then some (a - a % 0x10000, rowsCAN) else none
  else if a < 0x40500000 then none
  else if a < 0x40503000 then some (a - a % 0x1000, rowsIC)
  else if a < 0x40510000 then some (0x40500000, rowsICS)
  else if a < 0x40600000 then none
  else if a < 0x40610000 then some (0x40600000, rowsFC)
  else if a < 0x40700000 then none
  else if a < 0x40710000 then some (0x40700000, rowsBIST)
  else if a < 0x40800000 then none
  else if a < 0x40810000 then some (0x40800000, rowsCAL)
  else if a < 0x40900000 then none
  else if a < 0x40910000 then some (0x40900000, rowsPWR ++ rowsHIB)
  else if a < 0x40a00000 then none
  else if a < 0x40a10000 then if l < 2 then some (0x40a00000, rowsPC) else none
  else if a < 0x40b00000 then none
  else if a < 0x40b10000 then some (0x40b00000, rowsDMA)
  else if a < 0x40c00000 then none
  else if a < 0x40c10000 then some (0x40c00000, rowsCRY)
  else if a < 0x40d00000 then none
  else if a < 0x40d10000 then some (0x40d00000, rowsMEMC)
  else if a < 0x40e00000 then none
  else if a < 0x40e10000 then some (0x40e00000, rowsER)
  else if a < 0x50000000 then none
  else if a < 0x50010000 then some (0x50000000, rowsSK)
  else if a < 0x50020000 then some (0x50010000, rowsXCH)
  else if a < 0x50030000 then some (0x50020000, rowsCKPT)
  else if a < 0x50040000 then some (0x50030000, rowsCMPS)
  else if a < 0x50050000 then some (0x50040000, rowsSKFC)
  else none

/-- The row of an address in lane l's map. -/
def rowAt (l a : Nat) : Option RegRow :=
  match blockOf l a with
  | none => none
  | some (base, rows) => findRow rows (a - base)

/-- The home of a register as lane l addresses it: the shared home for Skink's views and the hibernate registers (R352, R377,
R327, R526), lane l's own otherwise (SK.DIGESTn and SKFC.TABSEL are held per lane). -/
def homeOf (l a : Nat) : Nat :=
  if 0x40900100 ≤ a && a < 0x40900114 then sharedHome
  else if 0x50000060 ≤ a && a < 0x50000080 then l
  else if 0x50000000 ≤ a && a < 0x50010000 then sharedHome
  else if 0x50030000 ≤ a && a < 0x50040000 then sharedHome
  else if 0x50040000 ≤ a && a < 0x50050000 then if a = 0x5004001c then l else sharedHome
  else l

/-- The key of the register at address a of home h: its place in the register store. -/
def key (h a : Nat) : Nat := a + h * 2 ^ 40

/-- The reset word of a row: each field at its reset value, every other bit 0 (R6). -/
def rowReset (r : RegRow) : Word :=
  BitVec.ofNat 32 (r.fields.foldl (fun acc f => acc + f.reset * 2 ^ f.lo) 0)

/-- What a register reads as while nothing has written it: its reset value. -/
def regDefault (k : Nat) : Word :=
  match rowAt (k / 2 ^ 40) (k % 2 ^ 40) with
  | none => 0
  | some r => rowReset r

end Sys2Proof.Machine
end

