-- ==== Sys2Proof/Machine/State.lean ====
section
/-! DEFINITION. The state of the unit: the registers, the memories, and what each block holds besides them. Plain data. -/

namespace Sys2Proof.Machine

/-- Why the machine stops. No command of this unit stops it: the specification gives every row of the table an effect. -/
inductive Fault where
  /-- Never raised: the specification names no condition that stops the unit. Safe. -/
  | none
  deriving DecidableEq, Repr

/-- Why a command has no meaning in this model. -/
inductive Refusal where
  /-- Raised by a dispatch arm whose command has no meaning yet. Safe. -/
  | notModelled (mnemonic : String)
  deriving DecidableEq, Repr

/-- The states of the unit (R36). -/
inductive UState where
  | off | hibernate | park | tadpole | chorus | service | singleA | singleB | noWitness | cmpDegraded | axolotl
  | safeStop | safeHold | bench
  deriving DecidableEq, Repr

/-- An event of a fault source on its way to Skink (R353, R356). `res` is coded as R372; `inst` is 255 where the source has
no instance; `restoring` marks a fault of the lane being restored (R64). -/
structure Event where
  coll : Coll
  src : Nat
  inst : Nat := 255
  res : Nat := 0
  forced : Bool := false
  restoring : Bool := false
  detail : Nat := 0
  cycle : Nat := 0
  time : Nat := 0
  before : UState := .off
  deriving DecidableEq, Repr

/-- What a collector keeps of one source: `cls` is the effective class of its pending event (0: none pending), `reps` the
REPEAT count, `res` the resources its reactions were applied to, `logged` the lane unit time of its last log entry (R360,
R361, R374). -/
structure Pend where
  cls : Nat := 0
  reps : Nat := 0
  inst : Nat := 0
  evid : Nat := 0
  res : List (Nat × Nat) := []
  logged : Option Nat := none
  deriving DecidableEq, Repr

/-- An event waiting to be logged (R369, R371). -/
structure LogItem where
  ev : Event
  cfg : Nat
  cls : Nat
  esc : Bool
  removed : Bool
  after : UState
  evid : Nat
  time : Nat
  deriving DecidableEq, Repr

/-- An open entry of the unit event table (R362). -/
structure TabEntry where
  evid : Nat
  coll : Coll
  src : Nat
  cls : Nat
  esc : Bool
  deriving DecidableEq, Repr

/-- An output-bus record: KIND, INDEX, TAG, word 1 (never compared) and words 2 to 7 (R89, R302). -/
structure OutRec where
  kind : Nat
  index : Nat
  tag : Nat
  word1 : Nat := 0
  pay : List Word
  deriving DecidableEq, Repr

/-- Where a record came from: the transmit element of a frame record, for the release of R303 and R408. -/
structure BusRec where
  r : OutRec
  elem : Option Nat := none
  deriving DecidableEq, Repr

/-- A record that waits for its partner in the comparator (R298). -/
structure CmpPend where
  lane : DLane
  n : Nat
  b : BusRec
  at_ : Nat := 0                 -- the model time at which the key's window opened
  deriving DecidableEq, Repr

/-- How many records of a key each drive lane has sent (R297). -/
structure CmpSeen where
  kind : Nat
  index : Nat
  tag : Nat
  nA : Nat := 0
  nB : Nat := 0
  deriving DecidableEq, Repr

/-- A key whose window has closed, or been abandoned, with one record in it (R299, R304). -/
structure CmpClosed where
  kind : Nat
  index : Nat
  tag : Nat
  n : Nat
  deriving DecidableEq, Repr

/-- What a pending decision of R49 or R307 is about. -/
inductive Verdict where
  | mismatch | missing | disagree
  deriving DecidableEq, Repr

/-- A mismatched, missing or disputed pair that waits for W's record (R49, R307). -/
structure Decision where
  what : Verdict
  kind : Nat
  index : Nat
  tag : Nat
  n : Nat
  recA : Option OutRec
  recB : Option OutRec
  at_ : Nat := 0                 -- the model time at which the key's window opened
  deriving DecidableEq, Repr

/-- The in-service comparator test that is due (R308). -/
structure InjDue where
  cycle : Nat
  deriving DecidableEq, Repr

/-- An open checkpoint (R317, R551). -/
structure CkptOpen where
  cycle : Nat
  sigA : Option Word := none
  sigB : Option Word := none
  sigW : Option Word := none
  done : Bool := false
  deriving DecidableEq, Repr

/-- The phases of Axolotl (R320). -/
inductive AxoPhase where
  | restart | config | transfer | joined
  deriving DecidableEq, Repr

/-- An Axolotl attempt: the lane restored, the Degraded kind held before, its phase, the checkpoint beacon c, the beacon j,
the equal checkpoints so far, and the two transfer signatures (R320 to R322). -/
structure Axo where
  lane : Lane
  held : UState
  at_ : Nat := 0                 -- the model time of the entry
  phase : AxoPhase := .restart
  digestOk : Bool := false
  c : Nat := 0
  j : Nat := 0
  passed : Bool := false
  xferDone : Bool := false
  passes : Nat := 0
  sigSurvivor : Option Word := none
  sigThird : Option Word := none
  ended : Bool := false
  deriving DecidableEq, Repr

/-- The switch-over hold of R47: beacons left until beacon d + 2, the motor or port whose record was decided, and the lane
removed, once decided. -/
structure Hold where
  left : Nat
  removed : Option DLane := none
  deriving DecidableEq, Repr

/-- An output held under R301 until the next matching pair of its KIND and INDEX. -/
structure HeldOut where
  kind : Nat
  index : Nat
  deriving DecidableEq, Repr

/-- A safe input: the accepted level of each contact (closed is true), the evaluated state, whether the contacts disagree, the
latch of R334 and whether its release waits for the contacts, and per lane the running and the raised difference of R336. -/
structure SafeIn where
  a : Bool := false
  b : Bool := false
  state : Bool := false
  disagree : Option Nat := none  -- since when the contacts disagree (R334)
  discRaised : Bool := false     -- this disagreement has been raised
  latch : Bool := false
  release : Bool := false
  diff : List (Lane × Nat) := []
  diffRaised : List Lane := []
  deriving DecidableEq, Repr

/-- A safe output: the requested level, the level Skink drives, whether an off-pulse test runs, and R338's failure. -/
structure SafeOut where
  req : Bool := false
  on : Bool := false
  inTest : Bool := false
  failed : Bool := false
  rb : Bool := false
  deriving DecidableEq, Repr

/-- One copy of a safe-data frame, and the model time of its arrival (R343). -/
structure SdCopy where
  seq : Nat
  len : Nat
  crc : Word
  at_ : Nat
  deriving DecidableEq, Repr

/-- A safe-data entry: the pending copies of NETA and of NETB, oldest first, s_last, and whether the entry is alive. -/
structure SafeData where
  copyA : List SdCopy := []
  copyB : List SdCopy := []
  last : Option Nat := none
  alive : Bool := false
  deriving DecidableEq, Repr

/-- One position-hold regulator (R347, R348). -/
structure HoldReg where
  engaged : Bool := false
  lane : DLane := .A
  e : Int := 0
  sector : Option Nat := none
  off : Bool := false
  deviated : Bool := false
  fall : Option Nat := none      -- the end of the high side's on time in this period
  deriving DecidableEq, Repr

/-- A state request that has been agreed and waits for its beacon (R342). -/
structure StateReq where
  req : Nat
  lane : Nat
  deriving DecidableEq, Repr

/-- A STATE_REQ record of one lane, for the states without comparison (R342). -/
structure LooseReq where
  lane : DLane
  r : OutRec
  at_ : Nat
  deriving DecidableEq, Repr

/-- An SKFC write that waits for the other drive lane (R363): ACK or FORCE, the value, the lane that wrote it, and when. -/
structure AgreeWait where
  force : Bool
  value : Nat
  lane : Lane
  at_ : Nat
  deriving DecidableEq, Repr

/-- Skink's sequencer, supplies and configuration (chapters 02, 12, 19). -/
structure Skink where
  st : UState := .off
  locked : Bool := false
  feedA : Bool := false          -- FEED_A valid (R514)
  feedB : Bool := false
  aboveA : Bool := false         -- FEED_A above its reset threshold
  aboveB : Bool := false
  vor : Bool := false            -- VOR valid
  keepOff : Bool := false        -- the KEEPOFF output of the hibernate domain
  cycle : Nat := 0               -- the unit-cycle counter (R328)
  beaconAt : Nat := 0            -- the model time of the last beacon
  t : Nat := 50                  -- the unit cycle in force, in microseconds (R328)
  tNew : Option Nat := none      -- a T accepted that the next beacon brings in
  loading : Bool := false        -- START has been written (R331)
  words : List Word := []        -- the words received, newest first
  cfg : List Word := []          -- the accepted block; empty: none accepted
  cfgDig : List Word := []       -- its digest
  cfgResult : Nat := 0           -- SK.CFGSTAT.RESULT
  dlyX : Nat := 0                -- X.DLY and Y.DLY (R306)
  dlyY : Nat := 0
  up : List (Nat × Nat) := []    -- time 0 of R516 for each lane
  relAt : Option Nat := none     -- the first release of a lane in this Tadpole (R40)
  chorusAt : Nat := 0            -- the entry to Chorus, to Safe Stop, and the wake from Hibernate (R40)
  stopAt : Nat := 0
  wakeAt : Nat := 0
  waitBoth : Bool := false       -- after a wake from Hibernate, until both feeds are valid or 500 ms have passed (R40)
  leftOut : Option DLane := none -- the drive lane left in reset by that time-out
  cfgOk : Bool := false          -- configuration digest agreement passed in this Chorus
  cmpOk : Bool := false          -- the comparator tests of R309 passed in this Chorus
  removed : List Lane := []
  byFeed : Bool := false         -- the Degraded kind was entered through a lost feed (R345)
  hold : Option Hold := none
  capTq : Nat := 100
  capSpd : Nat := 100
  capNext : Option (Nat × Nat) := none
  shared : Bool := false                -- shares have been published since the lanes' start (R150, R159)
  share : List (Nat × Nat) := []        -- lane A's share of motor m, where it differs from 50
  shareNext : List (Nat × Nat) := []    -- shares that the next beacon brings in
  stillRun : Bool := false       -- every condition of R38 held in the last vector, and since when
  stillAt : Nat := 0
  still : Bool := false          -- standstill (R38)
  speeding : List ((Nat × Nat) × Nat) := []   -- axes above the bound of R45 in the last vector, (lane, motor), and since when
  speedRaised : List (Nat × Nat) := []  -- axes whose present run has raised SPEED_CAP_EXCEEDED
  req : Option StateReq := none
  axo : Option Axo := none
  targeted : Option (Lane × Nat × Nat) := none   -- the targeted test that runs: lane, KIND (16: checkpoint), INDEX
  cmdMon : Bool := false         -- monitoring of the command path has started (R346)
  canAlive : List (Nat × Nat) := []  -- per CANALIVE bit, the cycle of the STATE_REQ that last set it
  deriving DecidableEq, Repr

/-- The unit event table and the agreed acknowledgements (R362, R363). -/
structure Table where
  open_ : List TabEntry := []
  evidNext : Nat := 1
  ovf : Bool := false
  waits : List AgreeWait := []
  deriving DecidableEq, Repr

/-- Skink's safe inputs, outputs, data, ramp and hold regulators (R333 to R348). -/
structure Safety where
  si : List (Nat × SafeIn) := []
  so : List (Nat × SafeOut) := []
  sd : List (Nat × SafeData) := []
  rampOn : Bool := false
  rampJ : Nat := 0
  rampAt : Nat := 0              -- the model time at which period rampJ began
  rampDone : Bool := false
  regs : List (Nat × HoldReg) := []
  hall : List (Nat × Nat) := []  -- per hold motor, the Hall code at Skink's receivers
  parkOff : Bool := false        -- the park output's readback has confirmed it off (R53)
  parkAt : Nat := 0              -- when it was confirmed, or Safe Hold was entered with PARKEN 0 (R53)
  parkBad : Bool := false        -- it has failed in this Safe Hold: no release until restart or Off (R53)
  deriving DecidableEq, Repr

/-- A reception that enters a network section (R294): its head and payload. -/
structure NetEntry where
  src : Nat
  seq : Nat
  w1 : Nat
  pay : List Byte
  deriving DecidableEq, Repr

/-- The input exchange (R23 to R25, R296). -/
structure Exchange where
  recA : Option (List Byte) := none
  recB : Option (List Byte) := none
  recW : Option (List Byte) := none
  posted : List (Nat × List Byte) := []   -- records posted and on their way to Skink
  published : Bool := false
  stAt : UState := .off              -- the state at the beacon (R295)
  net : List (Nat × List NetEntry) := []  -- per lane, receptions for its next record, and confirmations it had no copy of
  netLost : List (Nat × Nat) := []
  absRun : List (Nat × Nat) := []    -- per lane, consecutive vectors without its record
  absRaised : List Lane := []
  vec : List Byte := []              -- the vector last published
  vecCycle : Nat := 0
  old : List Byte := []              -- the vector published before it
  oldCycle : Nat := 0
  deriving DecidableEq, Repr

/-- The comparator, the vote buffer and the checkpoints (R297 to R317). Copies X and Y hold the same pending records; the
commands that make them decide say whether a copy's own result is faulty. -/
structure Comparator where
  stopped : Bool := false            -- a decision that removes a lane has stopped the comparison (R304)
  pend : List CmpPend := []
  seen : List CmpSeen := []
  closed : List CmpClosed := []
  held : List HeldOut := []
  decisions : List Decision := []
  votes : List OutRec := []
  frozen : Bool := false
  rearm : Bool := false              -- unfrozen; W's records are stored again from the next beacon (R311)
  inj : Option InjDue := none
  injM : Nat := 0
  loose : List LooseReq := []        -- SO_REQ and STATE_REQ records where records are not compared (R36, R342)
  ckpts : List CkptOpen := []
  verdict : Option Nat := none       -- the checkpoint tag whose verdict W has given (R319)
  deriving DecidableEq, Repr

/-- The states of a TAP controller (R543, IEEE 1149.1). -/
inductive TapCtl where
  | testLogicReset | runTestIdle
  | selectDr | captureDr | shiftDr | exit1Dr | pauseDr | exit2Dr | updateDr
  | selectIr | captureIr | shiftIr | exit1Ir | pauseIr | exit2Ir | updateIr
  deriving DecidableEq, Repr

/-- A lane's test access port (R543): the controller, the instruction in force and the one being shifted, the bypass bit, and the
boundary-scan chain with its update stage. Test-Logic-Reset selects BYPASS. -/
structure TapSt where
  ctl : TapCtl := .testLogicReset
  ir : Nat := 31
  irShift : List Bool := []
  byp : Bool := false
  chain : List Bool := []
  update : List Bool := []
  deriving DecidableEq, Repr

/-- A lane besides its blocks (R14, R512, R516). -/
structure LaneSt where
  reset : Bool := true           -- held in reset
  rails : Bool := false          -- every rail lies in its window (R512)
  enMem : Bool := false
  enRun : Bool := false
  broken : Bool := false         -- marked BROKEN (R313)
  attempts : Nat := 0            -- failed Axolotl attempts since both feeds were cycled (R55)
  verified : Bool := false       -- a verified image reported (R504)
  swept : Bool := false          -- the start sweep passed (R499)
  locked : Bool := false         -- LK fields are read-only (R7)
  debugSeen : Bool := false      -- R508
  active : Nat := 0              -- the boot record: ACTIVE, TRIAL, TRIES (R505)
  trial : Bool := false
  tries : Nat := 0
  rollback : Nat := 0            -- the OTP rollback counter
  bootPref : Nat := 0            -- the bank the record prefers at this boot, and the banks refused so far
  bootBad : Nat := 0
  cfgSha : List Word := []       -- what Tadpole keeps of the booted image: configuration and header digests (R504, R507)
  headSha : List Word := []
  ckOp : Nat := 0                -- the checkpoint engine: 0 idle, 1 GO, 2 XFER, and the tag
  ckTag : Nat := 0
  digestAll : Bool := false      -- every digest word has been written since the lane's reset or the entry to Chorus
  halted : Bool := false         -- a debug halt in force (R325)
  diverged : Bool := false       -- R325
  vgdUp : Bool := false          -- VGD is above its UVLO threshold (R277)
  vgdHeld : Bool := false        -- a VGD UVLO has not been acknowledged (R277)
  benchOff : List Nat := []      -- events that keep this lane's cells off in Bench (R359): collector * 512 + source
  unitTime : Nat := 0            -- the lane unit time in units of 2^-40 ns (R243)
  beaconCycle : Nat := 0         -- the unit-cycle counter as latched at the last beacon
  digest : Nat := 0              -- which digest words have been written (R331)
  fence : List Nat := []         -- cores that wait in XFENCE (R467)
  fenceAt : List (Nat × Nat) := []       -- the model time at which each began to wait, until its timeout has been raised
  user : List Nat := []          -- cores in U mode; the others are in M mode (R450)
  tap : TapSt := {}
  mtip : List Nat := []          -- cores whose machine timer interrupt is pending (R453)
  timecmp : List (Nat × Nat) := []       -- a core's mtimecmp, where it is not 2^64 - 1, and its mxctl, where it is not 3 (R453)
  mxctl : List (Nat × Nat) := []
  resv : List (Nat × Nat) := []          -- the load reservation a core holds: the number of its 64 bytes (R451)
  stores : List (Nat × List Byte) := []  -- the cores' stores to memory that no other agent sees yet, oldest first (R465)
  scrub : Nat := 0               -- where the scrubber stands above the DRAM base (R462)
  bistNext : Nat := 0            -- the slice that the sweep comes to next (R498)
  bistSlot : Option Nat := none  -- the slot of lane unit time that the last slice used, and where the sweep began, unless reported late
  sweepAt : Option Nat := none
  bistClean : Bool := false      -- every slice of this sweep has passed, and a full sweep has since reset (R507)
  bistFull : Bool := false
  cryOp : Nat := 0               -- the crypto command that runs; 0: none (R506)
  errH : Nat := 0                -- what the next read of ERRADDR_L latches (R478)
  deriving DecidableEq, Repr

/-- A collector: what it keeps per source, whether its own check has failed, and the events waiting to be logged (R353 to
R375). -/
structure Collector where
  pend : List (Nat × Pend) := []
  fault : Bool := false
  queue : List LogItem := []
  deriving DecidableEq, Repr

/-- A phase cell besides its registers. Per switch: the command in force, the time from which its turn-on counts, and the time at
which its command last went off (R271 to R273); the sum and number of the edge times measured since the last beacon, the
consecutive beacons at which the law of R284 met a limit, and whether 0x0E7 has been raised since the code last moved (R283 to
R285). -/
structure CellSt where
  cmdH : Bool := false
  cmdL : Bool := false
  upH : Nat := 0
  upL : Nat := 0
  downH : Option Nat := none
  downL : Option Nat := none
  sumH : Nat := 0
  numH : Nat := 0
  sumL : Nat := 0
  numL : Nat := 0
  limH : Nat := 0
  limL : Nat := 0
  atH : Bool := false
  atL : Bool := false
  deriving DecidableEq, Repr

/-- A lane's output bus: the records on their way to the drives and to Skink (R19). The first 32 of `skQ` are on the bus; what stands
behind them are frame records whose writer, the staging, waits for room (R20). -/
structure BusSt where
  drvQ : List OutRec := []
  skQ : List BusRec := []
  deriving DecidableEq, Repr

/-- The PWM counter and the compare values of an axis or a port (R132 to R136): the half of the period, C as last seen, and the DRIVE
clocks counted up to there (whole periods without an event are not in them). Per phase: whether it follows CMP, mode OFF not having
reached it; its high-side state; CMP; and the clock of its last switching edge (R142). `cmpOld` and `offOld` are CMP and whether the
phases were to go off before the last forming. A port has one high-side state, the first (R248). -/
structure Pwm where
  rising : Bool := false
  c : Nat := 0
  clk : Nat := 0
  live : List Bool := [false, false, false]
  hs : List Bool := [false, false, false]
  cmpV : List Nat := [0, 0, 0]
  cmpOld : List Nat := [0, 0, 0]
  offOld : Bool := true
  edges : List (Option Nat) := [none, none, none]
  deriving DecidableEq, Repr

/-- The drive of an axis besides its registers (R132 to R157). Currents and voltages are in units of 2^-64 A or V, angles in 2^-24
turn, speeds in 2^-64 turn per second, `vbus` in 2^-12 V. `theta` is the angle as it stands; (`thS`, `omS`) the angle and the speed
at the last sample point, and (`thU`, `omU`) those of the last update (R144, R145). -/
structure AxisSt where
  pwm : Pwm := {}
  used : Option OutRec := none       -- the record in force
  kept : Option OutRec := none       -- the record kept while none is applied (R141, R151)
  tagOk : Bool := false              -- the last applied tag is not void (R552)
  intD : Int := 0
  intQ : Int := 0
  iu : Int := 0
  iv : Int := 0
  iw : Int := 0
  theta : Int := 0
  thS : Int := 0
  omS : Int := 0
  thU : Int := 0
  omU : Int := 0
  vbus : Nat := 0
  busLow : Bool := true              -- the selected bus voltage is below 4.0 V (R141)
  busBad : Bool := false             -- the bus input is invalid (R140)
  since : Nat := 0                   -- beacons since a record was applied (R152)
  satRun : Nat := 0
  rngRun : List Nat := [0, 0, 0]     -- per phase, consecutive windows out of the linear range (R138)
  tripped : Bool := false            -- tripped in this half-period (R142)
  ocpRun : Nat := 0                  -- consecutive half-periods with a trip
  ocOff : Bool := false              -- kept off under R143
  ce : Int := 0                      -- C_e and k_e of the aligning edge (R153)
  ke : Nat := 0
  base : Option Int := none          -- a restored angle, in place of HALLOFS and the edge's (R218)
  ret : Option (Int × Int) := none   -- a restored angle and the position it belongs to, until EN (R218)
  serial : Int := 0                  -- the last serial angle, 2^-24 turn
  missed : Nat := 0                  -- consecutive missing serial reads (R157)
  samples : List (List Nat) := []    -- the entries of the last beacon-centred update: value, Q, PROV (R140)
  queue : List (List Nat) := []      -- the axis sample queue: the entries of the last update of either kind (R140, assumption 25)
  upd : Nat := 0                     -- the updates since the last beacon, and the time of the last one (R139)
  updAt : Nat := 0
  deriving DecidableEq, Repr

/-- What a feedback unit keeps of one sample point (R183, R187): the last edge at or before it as count and DRIVE clock, t, the
sample's own clock, whether its serial read was valid, and whether an illegal transition fell in the interval before it. -/
structure FbSample where
  edge : Option (Int × Nat) := none
  t : Int := 0
  clock : Nat := 0
  serOk : Bool := false
  ill : Bool := false
  deriving DecidableEq, Repr

/-- A valid SENT frame: its position value, the DRIVE clock at which its calibration pulse began, and the serial position. -/
structure SentSt where
  v : Nat
  clock : Nat
  pos : Int
  deriving DecidableEq, Repr

/-- A feedback unit besides its registers (chapter 06). The excess is t - pos. `homeSt`: 0 none, 1 armed for HOMECYC, 2 due or waiting for the index. -/
structure FbSt where
  t : Int := 0                       -- the true position (R164)
  pos : Int := 0                     -- the counter: t between the soft limits, as they were at the last change of t
  nc : Int := 0                      -- the accepted edges, up less down, since EN (R187)
  full : Bool := false               -- the condition of R164 holds
  homeSt : Nat := 0
  homeDue : Bool := false
  travel : Nat := 0
  idxRef : Int := 0
  idxAny : Bool := false             -- an index has been accepted since EN (R169)
  tIdx : Int := 0
  missRaised : Bool := false         -- 0x049 since the last index (R171)
  hall : Option Nat := none          -- the accepted Hall code
  vPrev : Option Nat := none         -- the last valid serial value
  ser : Int := 0                     -- the serial position
  missed : Nat := 0                  -- consecutive reads that were not valid (R175)
  lostRaised : Bool := false
  reading : Bool := false            -- an SSI read is in progress
  smpB : Bool := false               -- the last sample point was a beacon's
  calPrev : Option Nat := none       -- the previous SENT calibration pulse in ns (R180)
  frames : List SentSt := []         -- the last two valid SENT frames, newest first
  stat : List Nat := []              -- the status nibbles of the last 18 frames in a row that were valid, newest first (R179)
  edge : Option (Int × Nat) := none
  ill : Bool := false
  hist : List FbSample := []         -- newest first, at most 17
  spdNum : Int := 0                  -- the last speed, exact, in counts per second
  spdDen : Nat := 1
  spdVal : Int := 0                  -- the speed entry
  spdProv : Nat := 3
  cmpAt : List (Nat × Int) := []     -- V of the compare units that were armed (R189)
  cmpFired : Nat := 0                -- fired since the last beacon's latch (R185)
  idxSeen : Bool := false
  latT : Int := 0                    -- the beacon's latch: t, the counter, the status word, the speed entry (R184, R185)
  latPos : Int := 0
  latStatus : Nat := 0
  latSpd : Int := 0
  latProv : Nat := 3
  retPend : Bool := false            -- the retention check of R218 runs
  hall1 : Option Nat := none         -- the first Hall code and the first serial value since EN (R218)
  ser1 : Option Nat := none
  deriving DecidableEq, Repr

/-- Live calibration of an axis besides its registers (R226 to R240). `conn` is the time of CONNECT; `at_` that of the
start, of REF0 or of CONNECT, from which the phase's samples count; `cand` the coefficient that the overlap estimate has confirmed;
`cancel` the reason of a cancelled step (1 MISMATCH, 2 RANGE, 3 SHORT); `switched` the modulator released by SWITCH; `handed` the phase whose handover the last beacon completed; `settle` the time until which every
sample is tagged not valid. -/
structure CalSt where
  inStep : Bool := false
  at_ : Nat := 0
  refDone : Bool := false
  conn : Nat := 0
  cand : Option Word := none
  cancel : Nat := 0
  switched : Option Nat := none
  handed : Option Nat := none
  renew : Bool := false              -- REF0 starts at the update instant of the present beacon's window
  lastCancel : Bool := false
  settle : Option Nat := none
  first : List (Nat × Word) := []    -- per modulator, its first reference after the start calibration (R240)
  deriving DecidableEq, Repr

/-- A piece of a plan: its duration in seconds, the acceleration at its start and the jerk (R205). -/
structure Seg where
  dur : Rat
  a : Rat
  j : Rat := 0
  deriving DecidableEq, Repr

/-- A profile generator besides its registers (R197 to R215). The state after the last step is (p, v, a), and `pPrev` the
position a step before. The plan starts at (p0, v0) and has run for `t` seconds; its first `turn` pieces are the stop of R207.
`cmd` is the pending operation and its step. -/
structure PgSt where
  p : Rat := 0
  v : Rat := 0
  a : Rat := 0
  pPrev : Rat := 0
  p0 : Rat := 0
  v0 : Rat := 0
  segs : List Seg := []
  t : Rat := 0
  turn : Nat := 0
  op : Nat := 0
  goal : Rat := 0
  vmax : Rat := 0
  amax : Rat := 0
  dmax : Rat := 0
  jmax : Rat := 0
  veff : Rat := 0
  cmd : Option (Nat × Nat) := none
  fstop : Bool := false
  breaks : List Int := []            -- the gear table in force, M0, M and P0 (R212, R213)
  ratios : List Rat := []
  m0 : Int := 0
  m : Int := 0
  gp0 : Rat := 0
  mheld : Nat := 0
  fast : Bool := false
  accel : Rat := 0                   -- the profile speed and acceleration of the last step
  speed : Rat := 0
  lat : List Nat := [0, 0, 0, 0]     -- the entries of the input record (R199)
  deriving DecidableEq, Repr

/-- The trim of one BEMF comparator (R241, R242): the bits decided so far and their number, a result that waits for the next
floating interval, and the first code since the port was enabled. -/
structure TrimSt where
  n : Nat := 0
  v : Nat := 0
  res : Option Int := none
  first : Option Int := none
  deriving DecidableEq, Repr

/-- A phase's comparator against the virtual neutral: its accepted level, and the samples of the other level (R247, R256). -/
structure NeutralSt where
  level : Option Bool := none
  run : Nat := 0
  t : Nat := 0
  deriving DecidableEq, Repr

/-- A pump port besides its registers (chapter 09). Speeds and rates are in units of 2^-64 rpm and rpm/s, `int` and `duty` in
units of 2^-64, `dlim` in 2^-16, times in DRIVE clocks. -/
structure PpSt where
  pwm : Pwm := {}
  sref : Int := 0
  acc : Int := 0
  dec : Int := 0
  dlim : Nat := 0
  tagOk : Bool := false
  tag : Nat := 0
  kept : Option OutRec := none
  since : Nat := 0
  ref : Int := 0
  int : Int := 0
  duty : Int := 0
  iv1 : Nat := 0                     -- the last two intervals between accepted crossings (R250)
  iv2 : Nat := 0
  zc : Option Nat := none            -- the last accepted crossing
  com : Nat := 0                     -- the last commutation
  run : Nat := 0                     -- samples on the expected side, and the first of them (R249)
  first : Nat := 0
  got : Bool := false                -- a crossing was accepted in this step
  misses : Nat := 0
  good : Nat := 0                    -- consecutive accepted crossings
  neutral : List (Nat × NeutralSt) := []
  crossed : Option Nat := none       -- the last crossing in catch-spin, as a step of forward rotation
  fwd : Nat := 0                     -- crossings in a row in ascending and in descending order
  bwd : Nat := 0
  seen : Nat := 0
  sync : Option Bool := none         -- synchronised; true: in reverse
  kchk : Bool := false
  retry : Bool := false              -- tries to re-acquire a lost rotor are counted (R258)
  fails : Nat := 0                   -- the starts, or those tries, that have failed
  coast : Bool := false
  ramp : Int := 0                    -- the forced speed
  hits : Nat := 0                    -- consecutive crossings on the schedule
  tripped : Bool := false
  ilimRun : Nat := 0
  ilimRaised : Bool := false
  holdRun : Nat := 0                 -- PWM periods in a row in which the ramp was held (R254)
  holdRaised : Bool := false
  busLow : Bool := true
  vbus : Nat := 0
  trims : List (Nat × TrimSt) := []
  lat : List Nat := [0, 0, 0]        -- the entries of the input record (R262)
  deriving DecidableEq, Repr

/-- A block of block-floating numbers: count, exponent, and a mantissa for each of the eight positions (R66). -/
structure Blk where
  n : Nat := 8
  e : Int := -128
  m : List Int := [0, 0, 0, 0, 0, 0, 0, 0]
  deriving DecidableEq, Repr

/-- The states of a job slot (R85). A stall waits for the output bus, for visible stores (HOLD.L), for the records (HOLD.O) or for
both (HOLD.A). -/
inductive JobState where
  | free | running | stallOut | holdL | holdO | holdA | waiting | ending | faulted
  deriving DecidableEq, Repr

/-- What a job has written and no other agent sees yet (R92): bytes of local memory, or a record of the mirror. -/
inductive Fly where
  | store (a : Nat) (b : List Byte)
  | mirror (r : OutRec)
  deriving DecidableEq, Repr

/-- A job slot (R76, R82). `vec` is the cycle of the job vector, `trigT` the time of the trigger and `startT` that of the start;
`src` is the source of the trigger, `wait` the one a WAIT names and `waitT` its time; `timeH` is the latch of TIME.L; `fly` holds
what is not visible yet, oldest first, `out` a record that the bus has not taken. -/
structure Job where
  st : JobState := .free
  desc : Nat := 0
  prio : Nat := 0
  notify : Bool := false
  ovfRaise : Bool := false
  budget : Nat := 0
  pc : Nat := 0
  v : List (Nat × Blk) := []
  p : List Bool := [false, false, false, false, false, false, false, false]
  a : List Word := [0, 0, 0, 0, 0, 0, 0, 0]
  ovf : Bool := false
  tag : Nat := 0
  vec : Nat := 0
  src : Nat := 0
  trigT : Nat := 0
  startT : Nat := 0
  wait : Nat := 0
  waitT : Nat := 0
  timeH : Word := 0
  fly : List Fly := []
  out : Option OutRec := none
  code : Nat := 0
  faddr : Nat := 0
  deriving DecidableEq, Repr

/-- An entry of the completion queue (R97). -/
structure CqEntry where
  slot : Nat
  desc : Nat
  tag : Nat
  code : Nat
  ovf : Bool
  faddr : Nat
  deriving DecidableEq, Repr

/-- A firing in its pending latch: its time, and the descriptors it is to start (R80). -/
structure HeldFire where
  t : Nat
  descs : List Nat
  deriving DecidableEq, Repr

/-- A loop engine besides its registers and slots: the pending latches, the event numbers of R78, the completion queue, the
cycle of the vector in each ring buffer, of the one most recently published and of the one last readable, the tags of the mirror that are not void (R90, R552), and the local
memory granules that hold an uncorrectable error (R74). -/
structure LeSt where
  pend : List (Nat × HeldFire) := []
  evn : List (Nat × Nat) := []
  cq : List CqEntry := []
  ring : List (Nat × Nat) := []
  newest : Option Nat := none
  ready : Option Nat := none
  mirror : List (Nat × Nat) := []
  bad : List Nat := []
  deriving DecidableEq, Repr

/-- A frame that an SCN channel has prepared, and the TX entry it comes from (R410). -/
structure ScnPrep where
  f : ScnFrame
  entry : Option Nat := none
  deriving DecidableEq, Repr

/-- An SCN channel besides its registers (chapter 14). Deviations are (slot, ns). -/
structure ScnSt where
  t0 : Nat := 0                      -- the model time from which the listen timer runs (R398)
  cs : Nat := 0                      -- cycles since the start of COLDSTART (R399)
  first : Bool := true               -- the first cycle in INTEGRATE, or in SYNC (R397, R400)
  saw : Bool := false                -- a sync frame of another node within OFSLIM in this cycle
  pair : Nat := 0                    -- such cycles in a row, from cycle 2 on (R399)
  others : Nat := 0                  -- sync frames of other nodes in this cycle
  silent : Nat := 0                  -- cycles in a row without one (R401)
  devs : List (Nat × Int) := []
  devsPrev : List (Nat × Int) := []
  ofsPrev : Int := 0
  reqs : List (Nat × Option Nat) := []      -- per sync slot, the request carried in this cycle and in the last (R405)
  reqsPrev : List (Nat × Option Nat) := []
  next : Option Nat := none          -- a request to carry from the next cycle
  carried : Nat := 0                 -- cycles it has been carried
  got : List Nat := []               -- static slots in which a frame was accepted in this cycle (R412)
  mini : Option Nat := none          -- the mini-slot counter (R391)
  prep : Option ScnPrep := none
  line : Option ScnFrame := none     -- the frame last put on the line
  cut : Bool := false                -- the transmitter is off until acknowledgement (R397)
  blocked : Bool := false            -- it is off for this cycle
  lives : List (Nat × Nat) := []     -- cycles each READY entry has waited (R408)
  statSeq : Nat := 0                 -- SEQ of the unit status frame (R382)
  sd : List NetEntry := []           -- frames accepted in safe-data slots (R343), newest first
  deriving DecidableEq, Repr

/-- A star besides its registers (R378, R392 to R395, R405, R407). -/
structure StarSt where
  timed : Bool := false              -- its time is set from a sync frame
  fwd : Option Nat := none           -- the port whose frame is being forwarded
  line : Option ScnFrame := none     -- the frame last forwarded
  good : Nat := 0
  bad : Nat := 0
  devs : List (Nat × Int) := []      -- valid sync frames of this cycle
  reqs : List (Nat × Option Nat) := []
  reqsPrev : List (Nat × Option Nat) := []
  claims : List (Nat × Nat) := []    -- slots claimed in this cycle, and by which port
  grants : List (Nat × Nat × Nat) := []     -- slot, port, cycles in a row without a frame
  used : List Nat := []              -- granted slots in which a frame was forwarded in this cycle
  unit : Nat := 0                    -- the transmitting lane that Skink names at each beacon (R381)
  deriving DecidableEq, Repr

/-- A CAN controller besides its registers (chapter 15). `act` is the ACTIVE element, `ref` the cycle count of a reference message
that it is sending. -/
structure CanSt where
  act : Option Nat := none
  once : Bool := false               -- sent at an EXCLUSIVE window's start: never repeated (R439)
  ref : Option Nat := none
  join : Bool := false               -- waits for 11 recessive bits (R423, R445)
  refAt : Nat := 0                   -- the lane unit time at the SOF of the last valid reference message, or at EN before one (R438)
  sof : Nat := 0                     -- and at that of the frame it is sending
  refLost : Bool := false            -- the reference message has been reported missing, and none has come since (R440)
  dropRx : Bool := false             -- the next reception or window is abandoned (R446)
  dropWin : Bool := false
  deriving DecidableEq, Repr

/-- A DMA descriptor that a channel has loaded: its address and fields, the data read for it, and whether its writes are visible
(R468, R470). -/
structure DmaDesc where
  at_ : Nat
  src : Nat
  dst : Nat
  len : Nat
  ord : Bool
  trig : Bool
  irq : Bool
  last : Bool
  data : Option (List Byte) := none
  wrote : Bool := false
  deriving DecidableEq, Repr

/-- A DMA channel besides its registers: the descriptor to load next, those in flight, oldest first, and a STOP that waits for
outstanding writes (R470, R471). -/
structure DmaSt where
  next : Option Nat := none
  fly : List DmaDesc := []
  stop : Bool := false
  deriving DecidableEq, Repr

/-- The event recorder besides its registers: the pending trigger, the cycle of the last row, and where that row ended (R473,
R474). -/
structure ErSt where
  cyc : Nat := 0
  src : Nat := 0
  coll : Nat := 0
  sw : Bool := false
  row : Option Nat := none           -- the last cycle whose row has been written or skipped (R473)
  last : Option Nat := none
  ended : Nat := 0
  deriving DecidableEq, Repr

/-- A presentation in force: its priority, the sources that its edge counted at that priority, and whether a mask write after the
edge has set the mask of one of them (R487, R488). -/
structure IcPres where
  p : Nat
  cand : List Nat
  late : Bool := false
  deriving DecidableEq, Repr

/-- An interrupt controller besides its registers. A private source b of core c has the number 64 c + b here, and a shared source
i the number 192 + i: the arrivals that each holds, those that have lost one since their count was last below 255, the asserted
levels by i, and the presentation in force of each core (R480 to R488). -/
structure IcSt where
  count : List (Nat × Nat) := []
  lost : List Nat := []
  levels : List Nat := []
  due : List Nat := []               -- the edge sources whose edge has come, one entry an edge (R481)
  pres : List (Nat × IcPres) := []
  deriving DecidableEq, Repr

/-- The state of the unit. -/
structure State where
  pending : List Instr := []               -- the commands that wait, first in first out
  now : Nat := 0                           -- nanoseconds of model time
  free : Nat := 0                          -- how many free values have been taken (the model's own)
  readData : Word := 0                     -- what the last read command returned
  rtcAt : Nat := 0                         -- the model time at which the RTC held the seconds of HIB.RTC (R517)
  regs : List (Nat × Word) := []           -- the registers that differ from their reset values
  mem : List Host.Cell := []               -- the bytes of memory that differ from 0
  evq : List Event := []                   -- fault events on their way to Skink
  sk : Skink := {}
  tab : Table := {}
  sf : Safety := {}
  xc : Exchange := {}
  cmp : Comparator := {}
  lanes : List (Nat × LaneSt) := []
  colls : List (Nat × Collector) := []
  cells : List (Nat × CellSt) := []
  buses : List (Nat × BusSt) := []
  axes : List (Nat × AxisSt) := []
  fbs : List (Nat × FbSt) := []
  fired : List (Nat × List Nat) := []      -- per lane, the trigger sources whose event has come (R77)
  cals : List (Nat × CalSt) := []
  pgs : List (Nat × PgSt) := []
  pps : List (Nat × PpSt) := []
  les : List (Nat × LeSt) := []
  jobs : List (Nat × Job) := []
  scns : List (Nat × ScnSt) := []
  stars : List (Nat × StarSt) := []
  cans : List (Nat × CanSt) := []
  dmas : List (Nat × DmaSt) := []
  ers : List (Nat × ErSt) := []
  ics : List (Nat × IcSt) := []
  deriving DecidableEq, Repr

/-- The unit before its first feed, with a freshly powered hibernate domain (assumption 1). -/
def State.reset : State := {}

end Sys2Proof.Machine
end

