-- ==== Sys2Proof/Machine/Ops.lean ====
section
/-! DEFINITION. The named operations over the state: registers and their fields, bytes of memory, lanes, free values, and the
raising of fault events. -/

namespace Sys2Proof.Machine

open Sys2Proof

/-! Lanes and their numbers -/

/-- The number of a lane: 0 A, 1 B, 2 W (R292, R457). -/
def laneNo : Lane → Nat
  | .A => 0
  | .B => 1
  | .W => 2

/-- The number of a drive lane. -/
def dno : DLane → Nat
  | .A => 0
  | .B => 1

/-- The other drive lane. -/
def otherD : DLane → DLane
  | .A => .B
  | .B => .A

/-- The lane of a number. -/
def laneOf : Nat → Lane
  | 0 => .A
  | 1 => .B
  | _ => .W

/-- A lane as a drive lane. -/
def asDrive : Lane → Option DLane
  | .A => some .A
  | .B => some .B
  | .W => none

/-- The number of a collector: 0 A, 1 B, 2 W, 3 Skink (R371). -/
def collNo : Coll → Nat
  | .lane l => laneNo l
  | .skink => 3

/-! Registers -/

/-- The word of a register. -/
def State.reg (s : State) (k : Nat) : Word := famGet regDefault s.regs k

/-- The state with a register set. -/
def State.setReg (s : State) (k : Nat) (v : Word) : State := { s with regs := famSet regDefault s.regs k v }

/-- A field of the register block based at b, as a number. -/
def State.fg (s : State) (b : Nat) (f : Fld) : Nat := (s.reg (b + f.ofs)).toNat / 2 ^ f.lo % 2 ^ f.w

/-- A word with one field replaced. -/
def setBits (v : Word) (lo w n : Nat) : Word :=
  BitVec.ofNat 32 (v.toNat - v.toNat / 2 ^ lo % 2 ^ w * 2 ^ lo + n % 2 ^ w * 2 ^ lo)

/-- The state with a field of the register block based at b set to n, modulo the field's width. -/
def State.fs (s : State) (b : Nat) (f : Fld) (n : Nat) : State :=
  s.setReg (b + f.ofs) (setBits (s.reg (b + f.ofs)) f.lo f.w n)

/-- A one-bit field as a truth value. -/
def State.fb (s : State) (b : Nat) (f : Fld) : Bool := s.fg b f != 0

/-- A number of w bits read as two's complement. -/
def signed (w n : Nat) : Int := if n < 2 ^ (w - 1) then n else (n : Int) - 2 ^ w

/-- An integer as w bits of two's complement. -/
def unsigned (w : Nat) (i : Int) : Nat := (i % 2 ^ w).toNat

/-- An integer held between two bounds. -/
def clampI (lo hi x : Int) : Int := if x < lo then lo else if hi < x then hi else x

/-- A field read as two's complement. -/
def State.fi (s : State) (b : Nat) (f : Fld) : Int := signed f.w (s.fg b f)

/-- The state with a field set from an integer, modulo its width. -/
def State.fsi (s : State) (b : Nat) (f : Fld) (i : Int) : State := s.fs b f (unsigned f.w i)

/-- The state with a field set from an integer, saturated to the field's signed range. -/
def State.fsSat (s : State) (b : Nat) (f : Fld) (i : Int) : State :=
  s.fsi b f (clampI (-(2 ^ (f.w - 1))) (2 ^ (f.w - 1) - 1) i)

/-- A counter field one higher, saturating at its top value. -/
def State.fInc (s : State) (b : Nat) (f : Fld) : State :=
  if s.fg b f + 1 < 2 ^ f.w then s.fs b f (s.fg b f + 1) else s.fs b f (2 ^ f.w - 1)

/-- A 64-bit pair of registers, the low word first. -/
def State.fg64 (s : State) (b : Nat) (l h : Fld) : Nat := s.fg b l + s.fg b h * 2 ^ l.w

/-- The word of a row after a write: RW fields take the written bits, LK ones only while unlocked; a 1 clears a W1C bit; every
other field keeps its bits (R7). -/
def rowWrite (r : RegRow) (locked : Bool) (old v : Word) : Word :=
  r.fields.foldl (fun acc f =>
    let new := v.toNat / 2 ^ f.lo % 2 ^ f.w
    let was := old.toNat / 2 ^ f.lo % 2 ^ f.w
    match f.acc with
    | .rw => if f.lk && locked then acc else setBits acc f.lo f.w new
    | .w1c => setBits acc f.lo f.w (Nat.bitwise (fun a b => a && !b) was new)
    | .ro | .wo | .rc => acc) old

/-- The word of a row after a read: RC fields are 0, the others unchanged (R7). -/
def rowAfterRead (r : RegRow) (old : Word) : Word :=
  r.fields.foldl (fun acc f => if f.acc = .rc then setBits acc f.lo f.w 0 else acc) old

/-- What a read of a row's word returns: WO fields and reserved bits read 0 (R6, R7). -/
def rowRead (r : RegRow) (w : Word) : Word :=
  r.fields.foldl (fun acc f => if f.acc = .wo then acc else setBits acc f.lo f.w (w.toNat / 2 ^ f.lo % 2 ^ f.w)) 0

/-- The state after the plain write of a register by lane l. -/
def State.rowPut (s : State) (l : Lane) (locked : Bool) (a : Nat) (v : Word) : State :=
  match rowAt (laneNo l) a with
  | none => s
  | some r =>
    let k := key (homeOf (laneNo l) a) a
    s.setReg k (rowWrite r locked (s.reg k) v)

/-! The bases of the blocks (R456, R457) -/

/-- The base of axis n. -/
def axB (l : DLane) (n : Nat) : Nat := key (dno l) (0x40100000 + 0x1000 * n)
/-- The base of profile generator n. -/
def pgB (l : DLane) (n : Nat) : Nat := key (dno l) (0x40140000 + 0x1000 * n)
/-- The base of pump port p. -/
def ppB (l : DLane) (p : Nat) : Nat := key (dno l) (0x40180000 + 0x1000 * p)
/-- The base of feedback unit n. -/
def fbB (l : Lane) (n : Nat) : Nat := key (laneNo l) (0x40200000 + 0x1000 * n)
/-- The base of SCN channel c. -/
def scnB (l : Lane) (c : Nat) : Nat := key (laneNo l) (0x40300000 + 0x2000 * c)
/-- The base of the lane-wide SCN registers, the star, the staging and the store. -/
def scnG (l : Lane) : Nat := key (laneNo l) 0x40300000
/-- The base of CAN controller k. -/
def canB (l : Lane) (k : Nat) : Nat := key (laneNo l) (0x40400000 + 0x10000 * k)
/-- The base of core c's interrupt bank. -/
def icB (l : Lane) (c : Nat) : Nat := key (laneNo l) (0x40500000 + 0x1000 * c)
/-- The base of the shared routing registers. -/
def icsB (l : Lane) : Nat := key (laneNo l) 0x40500000
/-- The base of the collector. -/
def fcB (l : Lane) : Nat := key (laneNo l) 0x40600000
/-- The base of the self-test controller. -/
def bistB (l : Lane) : Nat := key (laneNo l) 0x40700000
/-- The base of the calibration block. -/
def calB (l : Lane) : Nat := key (laneNo l) 0x40800000
/-- The base of the power and clock block. -/
def pwrB (l : Lane) : Nat := key (laneNo l) 0x40900000
/-- The base of the shared hibernate registers. -/
def hibB : Nat := key sharedHome 0x40900000
/-- The base of the phase-cell block. -/
def pcB (l : DLane) : Nat := key (dno l) 0x40a00000
/-- The base of the DMA block. -/
def dmaB (l : Lane) : Nat := key (laneNo l) 0x40b00000
/-- The base of the crypto block. -/
def cryB (l : Lane) : Nat := key (laneNo l) 0x40c00000
/-- The base of the memory controller. -/
def memcB (l : Lane) : Nat := key (laneNo l) 0x40d00000
/-- The base of the event recorder. -/
def erB (l : Lane) : Nat := key (laneNo l) 0x40e00000
/-- The base of the loop-engine registers. -/
def leB (l : Lane) : Nat := key (laneNo l) 0x21100000
/-- The base of Skink's view, shared by all lanes. -/
def skB : Nat := key sharedHome 0x50000000
/-- The base of Skink's view as lane l holds its own digest there. -/
def skOwnB (l : Lane) : Nat := key (laneNo l) 0x50000000
/-- The base of the exchange registers. -/
def xchB (l : Lane) : Nat := key (laneNo l) 0x50010000
/-- The base of the checkpoint engine. -/
def ckptB (l : Lane) : Nat := key (laneNo l) 0x50020000
/-- The base of the comparator's view, shared by all lanes. -/
def cmpB : Nat := key sharedHome 0x50030000

/-! Memory: bytes under the key of their lane and address -/

/-- What a byte of memory that nothing has written reads as (assumption 2). -/
def memDefault (_ : Nat) : Byte := 0

/-- The byte of lane l at address a. -/
def State.rd8 (s : State) (l a : Nat) : Byte := famGet memDefault s.mem (key l a)

/-- The state with the byte of lane l at address a written. -/
def State.wr8 (s : State) (l a : Nat) (v : Byte) : State := { s with mem := famSet memDefault s.mem (key l a) v }

/-- n bytes from address a up. -/
def State.rdBytes (s : State) (l a : Nat) : Nat → List Byte
  | 0 => []
  | n + 1 => s.rd8 l a :: s.rdBytes l (a + 1) n

/-- The state with bytes written from address a up. -/
def State.wrBytes (s : State) (l a : Nat) : List Byte → State
  | [] => s
  | b :: bs => (s.wr8 l a b).wrBytes l (a + 1) bs

/-- Little-endian bytes as a number (R9). -/
def leNat : List Byte → Nat
  | [] => 0
  | b :: bs => b.toNat + 256 * leNat bs

/-- A number as n little-endian bytes. -/
def natLe : Nat → Nat → List Byte
  | 0, _ => []
  | n + 1, x => BitVec.ofNat 8 x :: natLe n (x / 256)

/-- The 32-bit word at an address. -/
def State.rd32 (s : State) (l a : Nat) : Word := BitVec.ofNat 32 (leNat (s.rdBytes l a 4))

/-- The state with a 32-bit word written. -/
def State.wr32 (s : State) (l a : Nat) (v : Word) : State := s.wrBytes l a (natLe 4 v.toNat)

/-! Lanes, collectors, free values -/

/-- A lane's state. -/
def State.lane (s : State) (l : Lane) : LaneSt := famGet (fun _ => {}) s.lanes (laneNo l)

/-- The state with a lane's state replaced. -/
def State.setLane (s : State) (l : Lane) (x : LaneSt) : State :=
  { s with lanes := famSet (fun _ => {}) s.lanes (laneNo l) x }

/-- A collector. -/
def State.coll (s : State) (c : Coll) : Collector := famGet (fun _ => {}) s.colls (collNo c)

/-- The state with a collector replaced. -/
def State.setColl (s : State) (c : Coll) (x : Collector) : State :=
  { s with colls := famSet (fun _ => {}) s.colls (collNo c) x }

/-- What a collector keeps of a source. -/
def Collector.src (c : Collector) (i : Nat) : Pend := famGet (fun _ => {}) c.pend i

/-- The collector with what it keeps of a source replaced. -/
def Collector.setSrc (c : Collector) (i : Nat) (p : Pend) : Collector :=
  { c with pend := famSet (fun _ => {}) c.pend i p }

/-- The next free bit, and the state that has taken it. -/
def State.takeBit (s : State) : Bool × State := (Config.freeBit s.free, { s with free := s.free + 1 })

/-- The next free number, and the state that has taken it. -/
def State.takeNat (s : State) : Nat × State := (Config.freeNat s.free, { s with free := s.free + 1 })

/-- The lane unit time in nanoseconds, 64 bits (R243, R549). -/
def State.utime (s : State) (l : Lane) : Nat := (s.lane l).unitTime / 2 ^ 40 % 2 ^ 64

/-- The 16-bit cycle tag of the unit-cycle counter. -/
def State.tag (s : State) : Nat := s.sk.cycle % 2 ^ 16

/-- The number under which a lane's block i is held. -/
def lk (l i : Nat) : Nat := l * 256 + i

/-- A round of n / d to the nearest integer, ties to even. -/
def roundDiv (n : Int) (d : Nat) : Int :=
  let q := n / (d : Int)
  let r := 2 * (n - q * d)
  if r < d then q else if (d : Int) < r then q + 1 else if q % 2 = 0 then q else q + 1

/-- A phase cell. -/
def State.cell (s : State) (l : DLane) (c : Nat) : CellSt := famGet (fun _ => {}) s.cells (lk (dno l) c)
/-- The state with a phase cell replaced. -/
def State.setCell (s : State) (l : DLane) (c : Nat) (x : CellSt) : State :=
  { s with cells := famSet (fun _ => {}) s.cells (lk (dno l) c) x }
/-- An axis. -/
def State.axis (s : State) (l : DLane) (n : Nat) : AxisSt := famGet (fun _ => {}) s.axes (lk (dno l) n)
/-- The state with an axis replaced. -/
def State.setAxis (s : State) (l : DLane) (n : Nat) (x : AxisSt) : State :=
  { s with axes := famSet (fun _ => {}) s.axes (lk (dno l) n) x }

/-- A feedback unit. -/
def State.fbu (s : State) (l : DLane) (n : Nat) : FbSt := famGet (fun _ => {}) s.fbs (lk (dno l) n)
/-- The state with a feedback unit replaced. -/
def State.setFbu (s : State) (l : DLane) (n : Nat) (x : FbSt) : State :=
  { s with fbs := famSet (fun _ => {}) s.fbs (lk (dno l) n) x }
/-- Live calibration of an axis. -/
def State.calx (s : State) (l : DLane) (n : Nat) : CalSt := famGet (fun _ => {}) s.cals (lk (dno l) n)
/-- The state with live calibration of an axis replaced. -/
def State.setCal (s : State) (l : DLane) (n : Nat) (x : CalSt) : State :=
  { s with cals := famSet (fun _ => {}) s.cals (lk (dno l) n) x }
/-- A profile generator. -/
def State.pg (s : State) (l : DLane) (n : Nat) : PgSt := famGet (fun _ => {}) s.pgs (lk (dno l) n)
/-- The state with a profile generator replaced. -/
def State.setPg (s : State) (l : DLane) (n : Nat) (x : PgSt) : State :=
  { s with pgs := famSet (fun _ => {}) s.pgs (lk (dno l) n) x }
/-- A pump port. -/
def State.pp (s : State) (l : DLane) (p : Nat) : PpSt := famGet (fun _ => {}) s.pps (lk (dno l) p)
/-- The state with a pump port replaced. -/
def State.setPp (s : State) (l : DLane) (p : Nat) (x : PpSt) : State :=
  { s with pps := famSet (fun _ => {}) s.pps (lk (dno l) p) x }
/-- A loop engine. -/
def State.le (s : State) (l : Lane) : LeSt := famGet (fun _ => {}) s.les (laneNo l)
/-- The state with a loop engine replaced. -/
def State.setLe (s : State) (l : Lane) (x : LeSt) : State := { s with les := famSet (fun _ => {}) s.les (laneNo l) x }
/-- A job slot. -/
def State.job (s : State) (l : Lane) (j : Nat) : Job := famGet (fun _ => {}) s.jobs (lk (laneNo l) j)
/-- The state with a job slot replaced. -/
def State.setJob (s : State) (l : Lane) (j : Nat) (x : Job) : State :=
  { s with jobs := famSet (fun _ => {}) s.jobs (lk (laneNo l) j) x }
/-- An SCN channel. -/
def State.scn (s : State) (l : Lane) (c : Nat) : ScnSt := famGet (fun _ => {}) s.scns (lk (laneNo l) c)
/-- The state with an SCN channel replaced. -/
def State.setScn (s : State) (l : Lane) (c : Nat) (x : ScnSt) : State :=
  { s with scns := famSet (fun _ => {}) s.scns (lk (laneNo l) c) x }
/-- d nanoseconds have passed since the model time t. -/
def State.past (s : State) (t d : Nat) : Bool := decide (t + d ≤ s.now)
/-- A star. -/
def State.star (s : State) (l : DLane) : StarSt := famGet (fun _ => {}) s.stars (dno l)
/-- The state with a star replaced. -/
def State.setStar (s : State) (l : DLane) (x : StarSt) : State := { s with stars := famSet (fun _ => {}) s.stars (dno l) x }
/-- A write of n bytes at an address clears the reservations it meets (R451). -/
def State.breakResv (s : State) (l : Lane) (a n : Nat) : State :=
  let x := s.lane l
  if x.resv = [] then s
  else s.setLane l { x with resv := x.resv.filter fun r => decide (a + n ≤ r.2 * 64) || decide (r.2 * 64 + 64 ≤ a) }

/-- Bytes become visible at an address of lane l's memories. A 64-bit granule of local memory written whole no longer holds an
uncorrectable error (R74). -/
def State.memPut (s : State) (l : Lane) (a : Nat) (bs : List Byte) : State :=
  let s := (s.wrBytes (laneNo l) a bs).breakResv l a bs.length
  let e := s.le l
  if e.bad = [] ∨ a < 0x21000000 ∨ 0x21100000 ≤ a then s
  else
    let ofs := a - 0x21000000
    s.setLe l { e with bad := e.bad.filter (fun g => g * 8 < ofs || ofs + bs.length < g * 8 + 8) }

/-- Two ranges of bytes, by base and length, meet. -/
def rangesMeet (a m b n : Nat) : Bool := decide (a < b + n ∧ b < a + m)

/-- At most one of the cores' stores of lane l becomes visible to the other agents, which one being open; never before an older
store to the same bytes (R465). -/
def State.storesDrift (s : State) (l : Lane) : State :=
  let q := (s.lane l).stores
  if q = [] then s
  else
    let (k, s) := s.takeNat
    let i := k % (q.length + 1)
    match q[i]? with
    | none => s
    | some (a, bs) =>
      if (q.take i).any (fun e => rangesMeet e.1 e.2.length a bs.length) then s
      else (s.setLane l { s.lane l with stores := q.take i ++ q.drop (i + 1) }).memPut l a bs

/-- How many transactions of the cores and the DMA channels of lane l are outstanding on its fabric (R21). -/
def State.outstanding (s : State) (l : Lane) : Nat :=
  s.dmas.foldl (fun n p => if p.1 / 256 = laneNo l then n + p.2.fly.length else n) (s.lane l).stores.length

/-- A lane whose cores and DMA channels have 128 transactions outstanding: the agent that issues another one stalls until one
completes, which one being open, but never before an older store to the same bytes (R21). -/
def State.storeRoom (s : State) (l : Lane) : State :=
  let q := (s.lane l).stores
  if q = [] ∨ s.outstanding l < 128 then s
  else
    let (k, s) := s.takeNat
    let i := k % q.length
    let (a, bs) := q.getD i (0, [])
    let i := if (q.take i).any (fun e => rangesMeet e.1 e.2.length a bs.length) then 0 else i
    let (a, bs) := q.getD i (0, [])
    (s.setLane l { s.lane l with stores := q.take i ++ q.drop (i + 1) }).memPut l a bs

/-- A CAN controller. -/
def State.can (s : State) (l : Lane) (k : Nat) : CanSt := famGet (fun _ => {}) s.cans (lk (laneNo l) k)
/-- The state with a CAN controller replaced. -/
def State.setCan (s : State) (l : Lane) (k : Nat) (x : CanSt) : State :=
  { s with cans := famSet (fun _ => {}) s.cans (lk (laneNo l) k) x }
/-- A DMA channel. -/
def State.dma (s : State) (l : Lane) (n : Nat) : DmaSt := famGet (fun _ => {}) s.dmas (lk (laneNo l) n)
/-- The state with a DMA channel replaced. -/
def State.setDma (s : State) (l : Lane) (n : Nat) (x : DmaSt) : State :=
  { s with dmas := famSet (fun _ => {}) s.dmas (lk (laneNo l) n) x }
/-- An event recorder. -/
def State.er (s : State) (l : Lane) : ErSt := famGet (fun _ => {}) s.ers (laneNo l)
/-- The state with an event recorder replaced. -/
def State.setEr (s : State) (l : Lane) (x : ErSt) : State := { s with ers := famSet (fun _ => {}) s.ers (laneNo l) x }
/-- An interrupt controller. -/
def State.ic (s : State) (l : Lane) : IcSt := famGet (fun _ => {}) s.ics (laneNo l)
/-- The state with an interrupt controller replaced. -/
def State.setIc (s : State) (l : Lane) (x : IcSt) : State := { s with ics := famSet (fun _ => {}) s.ics (laneNo l) x }
/-- The event of trigger source i has come in lane l (R77). -/
def State.trig (s : State) (l : Lane) (i : Nat) : State :=
  let f := famGet (fun _ => ([] : List Nat)) s.fired (laneNo l)
  if (s.lane l).reset then s
  else { s with fired := famSet (fun _ => ([] : List Nat)) s.fired (laneNo l) (f ++ [i]) }

/-- Slice n of lane l is in its window (R498). -/
def State.bistIn (s : State) (l : Lane) (n : Nat) : Bool := s.fb (bistB l) BIST.STATUS_ACTIVE && s.fg (bistB l) BIST.STATUS_SLICE == n

/-! States of the unit -/

/-- The code of a state (R36). -/
def UState.code : UState → Nat
  | .off => 0
  | .hibernate => 1
  | .park => 2
  | .tadpole => 3
  | .chorus => 4
  | .service => 5
  | .singleA => 6
  | .singleB => 7
  | .noWitness => 8
  | .cmpDegraded => 9
  | .axolotl => 10
  | .safeStop => 11
  | .safeHold => 12
  | .bench => 13

/-- The four Degraded kinds. -/
def UState.degraded : UState → Bool
  | .singleA | .singleB | .noWitness | .cmpDegraded => true
  | _ => false

/-- Service, Degraded, Axolotl and Bench: the states in which the unit drives (R24). -/
def UState.active : UState → Bool
  | .service | .singleA | .singleB | .noWitness | .cmpDegraded | .axolotl | .bench => true
  | _ => false

/-- A lane runs: it is powered and not held in reset. -/
def State.running (s : State) (l : Lane) : Bool := !(s.lane l).reset

/-- Edge source i of lane l's interrupt controller has an edge (R481). -/
def State.icEdge (s : State) (l : Lane) (i : Nat) : State :=
  if s.running l then s.setIc l { s.ic l with due := (s.ic l).due ++ [i] } else s

/-- A drive lane has been removed, or the lane has. -/
def State.isRemoved (s : State) (l : Lane) : Bool := s.sk.removed.contains l

/-! Raising events -/

/-- The default classes of the lane sources: 0 to 4 for C0 to C4 (R355, R98, R158, R194, R221, R244, R265, R288, R326, R416, R448, R476, R491, R509, R525, R548). -/
def laneClasses : List (Nat × Nat) := [
  (0x0, 3), (0x1, 1), (0x2, 1), (0x10, 1), (0x14, 2), (0x15, 2), (0x16, 1), (0x17, 1),
  (0x18, 1), (0x19, 1), (0x1a, 1), (0x20, 1), (0x21, 1), (0x22, 2), (0x23, 0), (0x24, 1),
  (0x25, 1), (0x40, 1), (0x41, 2), (0x42, 2), (0x43, 1), (0x44, 2), (0x45, 1), (0x46, 1),
  (0x47, 1), (0x48, 2), (0x49, 1), (0x4a, 1), (0x4b, 1), (0x80, 2), (0x81, 2), (0x82, 2),
  (0x83, 1), (0x84, 0), (0x85, 2), (0xa0, 2), (0xa1, 2), (0xa2, 2), (0xa3, 2), (0xa4, 1),
  (0xa5, 2), (0xa6, 1), (0xa7, 1), (0xb0, 1), (0xb1, 2), (0xb2, 1), (0xb3, 2), (0xb4, 1),
  (0xb5, 1), (0xb6, 1), (0xb7, 1), (0xb8, 1), (0xc0, 2), (0xc1, 1), (0xc2, 2), (0xc3, 2),
  (0xc4, 1), (0xc5, 1), (0xc6, 1), (0xc7, 1), (0xd0, 2), (0xd1, 2), (0xd2, 2), (0xd3, 2),
  (0xd4, 2), (0xd5, 1), (0xd6, 1), (0xd7, 0), (0xd8, 1), (0xe0, 1), (0xe1, 2), (0xe2, 2),
  (0xe3, 2), (0xe4, 2), (0xe5, 1), (0xe6, 2), (0xe7, 1), (0xe8, 1), (0x100, 1), (0x101, 0),
  (0x102, 0), (0x103, 2), (0x104, 0), (0x105, 2), (0x106, 0), (0x107, 2), (0x108, 1), (0x109, 2),
  (0x110, 1), (0x111, 1), (0x118, 0), (0x119, 1), (0x11a, 1), (0x140, 1), (0x141, 0), (0x150, 2),
  (0x151, 2), (0x152, 0), (0x153, 1), (0x154, 1), (0x160, 1), (0x161, 3), (0x162, 1), (0x163, 2),
  (0x164, 2), (0x180, 1), (0x181, 2), (0x182, 1), (0x183, 1), (0x184, 1), (0x185, 1), (0x186, 0),
  (0x187, 0), (0x188, 1), (0x189, 2), (0x18a, 1), (0x18b, 2), (0x18c, 0), (0x1c0, 1), (0x1c1, 2),
  (0x1c2, 1), (0x1c3, 1), (0x1c4, 1), (0x1c5, 1), (0x1c6, 2), (0x1c7, 1), (0x1c8, 0), (0x1c9, 0),
  (0x1ca, 2), (0x1e0, 1)]

/-- The default classes of Skink's sources (R355, R326, R351, R45, R150). -/
def skinkClasses : List (Nat × Nat) := [
  (0x0, 3), (0x10, 3), (0x11, 3), (0x12, 3), (0x13, 1), (0x20, 1), (0x21, 1), (0x22, 1),
  (0x23, 3), (0x24, 2), (0x30, 2), (0x31, 2), (0x32, 2), (0x33, 3), (0x34, 3), (0x35, 3),
  (0x36, 2), (0x37, 2), (0x38, 2), (0x39, 2), (0x3a, 2), (0x3b, 1), (0x3c, 1), (0x40, 2),
  (0x41, 2), (0x44, 3), (0x45, 1), (0x46, 1), (0x47, 1), (0x48, 1), (0x50, 3), (0x51, 1),
  (0x52, 1), (0x53, 1), (0x54, 1), (0x55, 2), (0x58, 2), (0x59, 3), (0x5a, 1), (0x5b, 3),
  (0x5c, 2), (0x60, 3), (0x61, 3), (0x62, 1)]

/-- The class of a source in a table of classes; none where no table lists the source (R353). -/
def classIn : List (Nat × Nat) → Nat → Option Nat
  | [], _ => none
  | (i, c) :: t, k => if i = k then some c else classIn t k

/-- The default class of a source; none for a reserved id. -/
def defaultClass : Coll → Nat → Option Nat
  | .lane _, k => classIn laneClasses k
  | .skink, k => classIn skinkClasses k

/-- A source whose class is fixed (R355, R332). -/
def fixedClass : Coll → Nat → Bool
  | .lane _, k => k == 0
  | .skink, k => k == 0 || k == 0x11

/-- An event takes its place among those on their way to Skink, with the cycle, the time and the state at its detection. A
reserved source raises nothing (R353), nor does a collector of a lane in reset. -/
def State.raise (s : State) (e : Event) : State :=
  match defaultClass e.coll e.src with
  | none => s
  | some _ =>
    match e.coll with
    | .lane l => if (s.lane l).reset then s else { s with evq := s.evq ++ [{ e with cycle := s.sk.cycle, time := s.now, before := s.sk.st }] }
    | .skink => { s with evq := s.evq ++ [{ e with cycle := s.sk.cycle, time := s.now, before := s.sk.st }] }

/-- The resource code of a lane (R372). -/
def resLane (l : Lane) : Nat := laneNo l + 1

/-- A lane source is raised naming its lane. -/
def State.raiseL (s : State) (l : Lane) (src inst : Nat) (detail : Nat := 0) : State :=
  s.raise { coll := .lane l, src := src, inst := inst, res := resLane l, detail := detail }

/-- A lane source is raised naming another resource. -/
def State.raiseR (s : State) (l : Lane) (src inst res : Nat) (detail : Nat := 0) : State :=
  s.raise { coll := .lane l, src := src, inst := inst, res := res, detail := detail }

/-- A Skink source is raised. -/
def State.raiseS (s : State) (src : Nat) (inst : Nat := 255) (res : Nat := 0) (detail : Nat := 0) : State :=
  s.raise { coll := .skink, src := src, inst := inst, res := res, detail := detail }

/-- Tag t is older than L (R29). -/
def older (t l : Nat) : Bool := let d := (l + 65536 - t % 65536) % 65536; 1 ≤ d && d ≤ 32767

end Sys2Proof.Machine
end

