-- ==== Sys2Proof/Machine/Sense.lean ====
section
/-! DEFINITION. What a lane senses of an axis: its true position, its counter, and the electrical angle (R153, R154, R164). -/

namespace Sys2Proof.Machine

open Sys2Proof

/-- The base of feedback unit n of a drive lane. -/
def fuB (l : DLane) (n : Nat) : Nat := fbB l.lane n

/-- The soft limits (R164). -/
def State.softMin (s : State) (b : Nat) : Int := signed 40 (s.fg b FB.SOFTMIN_L_LO + s.fg b FB.SOFTMIN_H_HI * 2 ^ 32)
def State.softMax (s : State) (b : Nat) : Int := signed 40 (s.fg b FB.SOFTMAX_L_LO + s.fg b FB.SOFTMAX_H_HI * 2 ^ 32)

/-- The counter of a true position: t held between the soft limits (R164). -/
def State.counterOf (s : State) (b : Nat) (t : Int) : Int := clampI (s.softMin b) (s.softMax b) t

/-- t with its excess held at ±32,767 (R164). -/
def State.holdExcess (s : State) (b : Nat) (t : Int) : Int :=
  let c := s.counterOf b t
  c + clampI (-32767) 32767 (t - c)

/-- The sector of a Hall code (R154). -/
def hallSector : Nat → Option Nat
  | 5 => some 0
  | 1 => some 1
  | 3 => some 2
  | 2 => some 3
  | 6 => some 4
  | 4 => some 5
  | _ => none

/-- Sector b is next to sector a: some true forward, some false backward. -/
def hallStep (a b : Nat) : Option Bool :=
  if b = (a + 1) % 6 then some true else if a = (b + 1) % 6 then some false else none

/-- 2^24: the parts of a turn in which an angle is kept (R153). -/
def turn : Int := 2 ^ 24

/-- HALLOFS in parts of a turn. -/
def State.hallOfs (s : State) (l : DLane) (n : Nat) : Int := s.fg (axB l n) AX.HALLOFS_HALLOFS * 2 ^ 8

/-- Pole pairs times num/den counts over counts per revolution, in parts of a turn. -/
def State.elecOfQ (s : State) (l : DLane) (n : Nat) (num : Int) (den : Nat) : Int :=
  let cpr := s.fg (axB l n) AX.CPR_CPR
  if cpr = 0 ∨ den = 0 then 0 else roundDiv (num * s.fg (axB l n) AX.COMM_PP * turn) (den * cpr)

/-- Pole pairs times counts over counts per revolution, in parts of a turn. -/
def State.elecOf (s : State) (l : DLane) (n : Nat) (counts : Int) : Int := s.elecOfQ l n counts 1

/-- The angle after alignment (R153, SRC 0). -/
def State.quadAngle (s : State) (l : DLane) (n : Nat) (t : Int) : Int :=
  let x := s.axis l n
  (x.base.getD (s.hallOfs l n + roundDiv (x.ke * turn) 6) + s.elecOf l n (t - x.ce)) % turn

/-- The centre of Hall sector k. -/
def State.sectorMid (s : State) (l : DLane) (n k : Nat) : Int := (s.hallOfs l n + roundDiv ((2 * k + 1 : Nat) * turn) 12) % turn

/-- The angle of the serial position num/den (R153, SRC 1). -/
def State.serialAngle (s : State) (l : DLane) (n : Nat) (num : Int) (den : Nat) : Int :=
  (s.elecOfQ l n num den + s.fg (axB l n) AX.HALLOFS_ELECOFS * 2 ^ 8) % turn

/-- AXn.COMM.SRC, 3 taken as 2. -/
def State.commSrc (s : State) (l : DLane) (n : Nat) : Nat := min 2 (s.fg (axB l n) AX.COMM_SRC)

end Sys2Proof.Machine
end

