-- ==== Sys2Proof/Machine/SkCfg.lean ====
section
/-! DEFINITION. Skink's configuration block: its fields, its range check, and what Skink takes from it (R330, R331). -/

namespace Sys2Proof.Machine

open Sys2Proof

/-- Bits [hi:lo] of the word at a byte offset of a block. -/
def blkField (b : List Word) (ofs hi lo : Nat) : Nat := (b.getD (ofs / 4) 0).toNat / 2 ^ lo % 2 ^ (hi - lo + 1)

/-- A field of the accepted block; every field reads 0 before a block is accepted. -/
def State.cfgF (s : State) (ofs hi lo : Nat) : Nat := blkField s.sk.cfg ofs hi lo

/-- A number between two bounds, both included. -/
def within (x lo hi : Nat) : Bool := lo ≤ x && x ≤ hi

/-- K, the cycles between two checkpoints: floor(10,000 / T) (R34). -/
def ckptK (t : Nat) : Nat := 10000 / t

/-- INJINDEX is valid for INJKIND (R89, R302, R330). -/
def injOk (kind index : Nat) : Bool :=
  (kind == 1 && index < 6) || (kind == 2 && index < 2) || (kind == 3 && index < 16) || (kind == 4 && index == 0) ||
  (kind == 8 && index < 2) || (kind == 9 && index < 4)

/-- The ranges of the fields up to offset 0x01F. -/
def cfgRangeA (b : List Word) : Bool :=
  let f := blkField b
  let t := f 4 7 0
  f 0 31 0 == 1 && within t 25 200 && within (f 4 21 16) 1 50 && within (f 4 30 24) 1 120 &&
  within (f 8 6 0) 10 100 && within (f 8 14 8) 10 100 && within (f 8 22 16) 10 100 && within (f 8 30 24) 10 100 &&
  within (f 0xc 6 0) 10 100 && within (f 0xc 14 8) 10 100 && within (f 0xc 20 16) 1 25 && within (f 0xc 29 24) 0 50 &&
  within (f 0x10 2 0) 0 5 && within (f 0x10 6 4) 0 5 &&
  within (f 0x14 8 0) 24 378 && injOk (f 0x14 15 12) (f 0x14 23 16) &&
  within (f 0x18 15 0) 2 (ckptK t - 1) && within (f 0x18 23 16) 4 200 && within (f 0x1c 15 0) 20 65535

/-- The ranges of the fields of the motors, the safe inputs and the safe outputs. -/
def cfgRangeB (b : List Word) : Bool :=
  let f := blkField b
  let mn := f 0xc 29 24
  (List.range 6).all (fun m =>
    let o := 0x20 + 4 * m
    within (f o 6 0) mn (100 - mn) && within (f o 18 16) 0 5 && within (f o 23 20) 1 15) &&
  (List.range 16).all (fun i =>
    let o := 0x40 + 4 * i
    within (f o 1 0) 0 2 && within (f o 3 2) 0 2 && within (f o 13 4) 1 1000) &&
  (List.range 16).all (fun i =>
    let o := 0x80 + 4 * i
    within (f o 11 2) 10 1000 && within (f o 20 12) 50 500 && within (f o 28 21) 1 150)

/-- The ranges of the remaining fields: the ramp, safe data and the class codes. -/
def cfgRangeC (b : List Word) : Bool :=
  let f := blkField b
  within (f 0xc0 7 0) 0 100 && within (f 0xc0 23 8) 10 10000 && within (f 0xc0 31 24) 5 100 &&
  within (f 0xc4 4 0) 0 16 && within (f 0xc4 15 8) 1 255 && within (f 0xc4 23 16) 2 255 &&
  (List.range 16).all (fun j => within (f (0xd0 + 8 * j) 9 0) 0 1022) &&
  (List.range 128).all (fun s => within (f (0x150 + s / 8 * 4) (s % 8 * 4 + 3) (s % 8 * 4)) 0 5)

/-- Every field of the block lies in its range (R330, R331). -/
def cfgInRange (b : List Word) : Bool := cfgRangeA b && cfgRangeB b && cfgRangeC b

/-! The fields of the accepted block -/

def State.cfgT (s : State) : Nat := s.cfgF 4 7 0
def State.cfgBench (s : State) : Bool := s.cfgF 4 8 8 == 1
def State.cfgSsTimeout (s : State) : Nat := s.cfgF 4 30 24
def State.cfgStill (s : State) : Nat := s.cfgF 4 21 16
def State.cfgSglTq (s : State) : Nat := s.cfgF 8 6 0
def State.cfgSglSpd (s : State) : Nat := s.cfgF 8 14 8
def State.cfgNwTq (s : State) : Nat := s.cfgF 8 22 16
def State.cfgNwSpd (s : State) : Nat := s.cfgF 8 30 24
def State.cfgCdTq (s : State) : Nat := s.cfgF 0xc 6 0
def State.cfgCdSpd (s : State) : Nat := s.cfgF 0xc 14 8
def State.cfgBenchSpd (s : State) : Nat := s.cfgF 0xc 20 16
def State.cfgShareMin (s : State) : Nat := s.cfgF 0xc 29 24
/-- The motor of hold regulator h, and whether it is enabled. -/
def State.cfgHoldMotor (s : State) (h : Nat) : Nat := s.cfgF 0x10 (4 * h + 2) (4 * h)
def State.cfgHoldEn (s : State) (h : Nat) : Bool := s.cfgF 0x10 (4 * h + 3) (4 * h + 3) == 1
def State.cfgHoldLane (s : State) : DLane := if s.cfgF 0x10 8 8 == 1 then .B else .A
def State.cfgParkSo (s : State) : Nat := s.cfgF 0x10 15 12
def State.cfgParkEn (s : State) : Bool := s.cfgF 0x10 16 16 == 1
def State.cfgAlign (s : State) : Nat := s.cfgF 0x14 8 0
def State.cfgInjKind (s : State) : Nat := s.cfgF 0x14 15 12
def State.cfgInjIndex (s : State) : Nat := s.cfgF 0x14 23 16
def State.cfgSigdl (s : State) : Nat := s.cfgF 0x18 15 0
def State.cfgXferMax (s : State) : Nat := s.cfgF 0x18 23 16
def State.cfgCmdTmo (s : State) : Nat := s.cfgF 0x1c 15 0
def State.cfgShare (s : State) (m : Nat) : Nat := s.cfgF (0x20 + 4 * m) 6 0
def State.cfgHoldDuty (s : State) (m : Nat) : Nat := s.cfgF (0x20 + 4 * m) 15 8
def State.cfgStepOfs (s : State) (m : Nat) : Nat := s.cfgF (0x20 + 4 * m) 18 16
def State.cfgHoldTol (s : State) (m : Nat) : Nat := s.cfgF (0x20 + 4 * m) 23 20
def State.cfgSiMode (s : State) (i : Nat) : Nat := s.cfgF (0x40 + 4 * i) 1 0
def State.cfgSiDisc (s : State) (i : Nat) : Nat := s.cfgF (0x40 + 4 * i) 13 4
def State.cfgSiRole (s : State) (i : Nat) : Nat := s.cfgF (0x40 + 4 * i) 3 2
def State.cfgSoEn (s : State) (i : Nat) : Bool := s.cfgF (0x80 + 4 * i) 0 0 == 1
def State.cfgSoRamp (s : State) (i : Nat) : Bool := s.cfgF (0x80 + 4 * i) 1 1 == 1
def State.cfgRampStart (s : State) : Nat := s.cfgF 0xc0 7 0
def State.cfgRampTime (s : State) : Nat := s.cfgF 0xc0 23 8
def State.cfgRampPer (s : State) : Nat := s.cfgF 0xc0 31 24
def State.cfgSdn (s : State) : Nat := s.cfgF 0xc4 4 0
/-- SDWIN in nanoseconds. -/
def State.cfgSdWin (s : State) : Nat := 10000 * s.cfgF 0xc4 15 8
def State.cfgSdSlot (s : State) (j : Nat) : Nat := s.cfgF (0xd0 + 8 * j) 9 0
def State.cfgSdSender (s : State) (j : Nat) : Nat := s.cfgF (0xd0 + 8 * j) 23 16
def State.cfgSdCmd (s : State) (j : Nat) : Bool := s.cfgF (0xd0 + 8 * j) 24 24 == 1
def State.cfgMaxSpd (s : State) (m : Nat) : Nat := s.cfgF (0x190 + 4 * m) 31 0

/-- The configured class code of a Skink source (R357). -/
def State.cfgClass (s : State) (i : Nat) : Nat := s.cfgF (0x150 + i / 8 * 4) (i % 8 * 4 + 3) (i % 8 * 4)

/-- The class code field of a lane source (R357). -/
def State.laneClassCode (s : State) (l : Lane) (i : Nat) : Nat :=
  s.fg (fcB l) ⟨0x100 + i / 8 * 4, i % 8 * 4, 4⟩

/-- The class in force of a source: its fixed class, or its field's, or its default (R355, R357). -/
def State.classNow (s : State) (c : Coll) (i : Nat) : Nat :=
  let dflt := (defaultClass c i).getD 0
  if fixedClass c i then dflt
  else
    let code := match c with
      | .lane l => s.laneClassCode l i
      | .skink => s.cfgClass i
    if 1 ≤ code && code ≤ 5 then code - 1 else dflt

/-! Safe inputs (R333, R334) -/

def State.si (s : State) (i : Nat) : SafeIn := famGet (fun _ => {}) s.sf.si i
def State.setSi (s : State) (i : Nat) (x : SafeIn) : State :=
  { s with sf := { s.sf with si := famSet (fun _ => {}) s.sf.si i x } }

/-- The level of contact b that is healthy: closed for an equivalent input, open for an antivalent one (R330). -/
def healthyB (mode : Nat) (b : Bool) : Bool := b == (mode == 1)

/-- The evaluated state of an input (R333, R334). -/
def SafeIn.eval (x : SafeIn) (mode : Nat) : Bool := mode != 0 && x.a && healthyB mode x.b && !x.latch

/-- An input whose contacts disagree from now on, go on disagreeing, or agree (R334). -/
def SafeIn.judge (x : SafeIn) (mode now : Nat) : SafeIn :=
  let off := mode != 0 && (x.a != healthyB mode x.b)
  { x with disagree := if off then some (x.disagree.getD now) else none, discRaised := off && x.discRaised }

/-- The inputs are evaluated under the modes of a configuration block that has just been accepted. -/
def State.siStart (s : State) : State :=
  (List.range 16).foldl (fun s i =>
    let x := (s.si i).judge (s.cfgSiMode i) s.now
    s.setSi i { x with state := x.eval (s.cfgSiMode i) }) s

/-- The share of motor m that Skink publishes, in per cent of lane A (R150). -/
def State.shareOf (s : State) (m : Nat) : Nat := famGet (fun _ => 50) s.sk.share m

/-- The state with Skink's part replaced. -/
def State.setSk (s : State) (k : Skink) : State := { s with sk := k }

/-- The lane's feed is valid; lane W draws from either. -/
def State.feedOf (s : State) : Lane → Bool
  | .A => s.sk.feedA
  | .B => s.sk.feedB
  | .W => s.sk.feedA || s.sk.feedB

/-- The lane's cell logic is powered (R52). -/
def State.cellLogic (s : State) (l : DLane) : Bool := s.feedOf l.lane && (s.lane l.lane).rails

/-- Lanes of a Degraded kind: the drive lane that it has removed. -/
def UState.lost : UState → Option DLane
  | .singleA => some .B
  | .singleB => some .A
  | _ => none

/-- The state whose rules the unit follows: in Axolotl, the Degraded kind held before (R43, R64). -/
def State.kind (s : State) : UState :=
  match s.sk.axo with
  | some x => if s.sk.st = .axolotl then x.held else s.sk.st
  | none => s.sk.st

end Sys2Proof.Machine
end

