-- ==== Sys2Proof/Machine/Retain.lean ====
section
/-! DEFINITION. The axis retention area, as Park and Hibernate write it (R41, R216, R217). -/

namespace Sys2Proof.Machine

open Sys2Proof

/-- The base of the axis retention area (R216). -/
def retBase : Nat := 0x30000000

/-- CRC-32 over AXn offsets 0x000 to 0x034 and FBn offsets 0x000 to 0x02C, with `ctrl` as AXn.CTRL (R216). -/
def State.cfgCrc (s : State) (l : DLane) (n : Nat) (ctrl : Word) : Word :=
  crc32 (natLe 4 ctrl.toNat ++ (List.range 13).flatMap (fun i => natLe 4 (s.reg (axB l n + 4 * (i + 1))).toNat) ++
    (List.range 12).flatMap (fun i => natLe 4 (s.reg (fuB l n + 4 * i)).toNat))

/-- The 32 bytes of axis n's entry (R216, R217). -/
def State.retEntry (s : State) (l : DLane) (n : Nat) : List Byte :=
  let a := axB l n
  let b := fuB l n
  let x := s.fbu l n
  let ok := s.running l.lane && s.fb a AX.CTRL_EN && s.fg b FB.STATUS_POSQ == 1 &&
    (s.fg a AX.COMM_SRC != 0 || s.fg a AX.STATUS_ALIGN == 2)
  if !ok then List.replicate 32 0
  else
    let c := x.pos
    let th := if s.commSrc l n = 0 then s.quadAngle l n x.t else (s.axis l n).theta
    let idx := s.fg b FB.STATUS_IDXREF
    natLe 5 (unsigned 40 c) ++ natLe 2 (unsigned 16 (x.t - c)) ++ natLe 1 (1 + 2 * idx + 4 * (x.hall.getD 0)) ++
    natLe 3 (unsigned 24 th) ++ natLe 1 0 ++ natLe 5 (unsigned 40 x.idxRef) ++ natLe 3 0 ++ natLe 4 (x.vPrev.getD 0) ++
    natLe 4 (s.cfgCrc l n (s.reg a)).toNat ++ natLe 4 0

/-- The CRC of the area from its bytes 0x000 to 0x01B and 0x020 to 0x0DF. -/
def State.retCrc (s : State) (l : Nat) : Word := crc32 (s.rdBytes l retBase 28 ++ s.rdBytes l (retBase + 32) 192)

/-- One drive lane's power and clock block writes the area, the CRC last; STATE is z. -/
def State.retLane (s : State) (l : DLane) (z : Nat) : State :=
  if !(s.lane l.lane).rails then s
  else
    let k := dno l
    let s := s.wrBytes k retBase (natLe 4 1 ++ natLe 4 s.sk.cycle ++ natLe 1 z ++ List.replicate 19 0)
    let es := (List.range 6).flatMap (fun n => s.retEntry l n)
    let s := s.wrBytes k (retBase + 32) (es ++ List.replicate 32 0)
    s.wrBytes k (retBase + 28) (natLe 4 (s.retCrc k).toNat)

/-- Both drive lanes write, and VHIBLOSS is cleared (R41, R518). -/
def State.retWrite (s : State) (z : Nat) : State :=
  ((s.retLane .A z).retLane .B z).fs hibB HIB.STATUS_VHIBLOSS 0

end Sys2Proof.Machine
end

