-- ==== Sys2Proof/Machine/Net.lean ====
section
/-! DEFINITION. What the nodes of the networks share: their elements' states, their records to Skink, and stopping them. -/

namespace Sys2Proof.Machine

open Sys2Proof

/-- The base of TX entry e of an SCN channel. -/
def scnTx (l : Lane) (c e : Nat) : Nat := scnB l c + 16 * e

/-- The resource of a channel's network (R372). -/
def resNet (c : Nat) : Nat := 0x30 + c

/-- The lane that transmits unit outputs on a network: A on NETA and B on NETB, or the survivor on both (R381). -/
def State.netTx (s : State) (c : Nat) : DLane :=
  let d := if c = 0 then DLane.A else DLane.B
  if s.isRemoved d.lane then otherD d else d

/-- The channel leaves what it was doing and listens in mode 0, with a fresh timer (R398). -/
def State.scnListen (s : State) (l : Lane) (c : Nat) : State :=
  let b := scnB l c
  let x := s.scn l c
  let s := ((s.fs b SCN.STATUS_STATE 1).fs b SCN.STATUS_MODE 0).fs b SCN.STATUS_MREQV 0
  s.setScn l c { t0 := s.now, lives := x.lives, statSeq := x.statSeq, cut := x.cut, sd := x.sd, line := x.line }

/-- Skink's frame record of a staged frame (R302): payload words 6 and 7 hold the first eight bytes. -/
def frameRec (kind index tag w2 len : Nat) (safety : Bool) (p : List Byte) : OutRec :=
  { kind := kind, index := index, tag := tag, word1 := 0xff * 2 ^ 16
    pay := [BitVec.ofNat 32 w2, BitVec.ofNat 32 (len + if safety then 2 ^ 16 else 0), crc32c p, 0,
            BitVec.ofNat 32 (leNat (p.take 4)), BitVec.ofNat 32 (leNat ((p.drop 4).take 4))] }

/-- A record goes on a lane's bus to Skink. -/
def State.toSkink (s : State) (l : Lane) (b : BusRec) : State :=
  let q := famGet (fun _ => ({} : BusSt)) s.buses (laneNo l)
  { s with buses := famSet (fun _ => ({} : BusSt)) s.buses (laneNo l) { q with skQ := q.skQ ++ [b] } }

/-- The state of TX entry e. -/
def State.txState (s : State) (l : Lane) (c e : Nat) : Nat := s.fg (scnTx l c e) SCN.TX3_STATE

/-- TX entry e takes a state; its LIFE starts anew. -/
def State.setTx (s : State) (l : Lane) (c e st : Nat) : State :=
  let x := s.scn l c
  (s.fs (scnTx l c e) SCN.TX3_STATE st).setScn l c { x with lives := famSet (fun _ => 0) x.lives e 0 }

/-- A reception enters the lane's next network section. -/
def State.netAdd (s : State) (l : Lane) (e : NetEntry) : State :=
  let q := famGet (fun _ => ([] : List NetEntry)) s.xc.net (laneNo l)
  { s with xc := { s.xc with net := famSet (fun _ => ([] : List NetEntry)) s.xc.net (laneNo l) (q ++ [e]) } }

/-! CAN controllers -/

/-- The resource of CAN controller k (R372). -/
def resCan (k : Nat) : Nat := 0x20 + k

/-- The base of TX element e of a CAN controller. -/
def canTx (l : Lane) (k e : Nat) : Nat := canB l k + 0x7c00 + 80 * e

/-- The state of a TX element (R433). -/
def State.canState (s : State) (l : Lane) (k e : Nat) : Nat := s.fg (canTx l k e) CANTX.STATE

/-- A TX element takes a state. -/
def State.setCanTx (s : State) (l : Lane) (k e st : Nat) : State := s.fs (canTx l k e) CANTX.STATE st

/-- Lane l transmits the unit outputs of its controller k: always on separate buses; on a shared bus, lane A or the survivor (R436). -/
def State.canTxLane (s : State) (l : Lane) (k : Nat) : Bool := !s.fb (canB l k) CAN.CTRL_UOMODE || l == .A || s.isRemoved .A

/-! The release of staged frames (R32, R303, R381, R408, R436) -/

/-- The word that an element's record carries in its word 2, without what the mode in force adds (R302). -/
def State.elemKey (s : State) (l : Lane) (kind c e : Nat) : Nat × Nat :=
  if kind = 8 then (s.fg (scnTx l c e) SCN.TX0_SLOT, s.fg (scnTx l c e) SCN.TX2_SEQ)
  else (s.fg (canTx l c e) CANTX.ID, s.fg (canTx l c e) CANTX.IDE)

/-- The same of a record. -/
def OutRec.elemKey (r : OutRec) : Nat × Nat :=
  let w := (r.pay.getD 0 0).toNat
  if r.kind = 8 then (w % 2 ^ 10, w / 2 ^ 16) else (w % 2 ^ 29, w / 2 ^ 29 % 2)

/-- A TX element is STAGED with a record's tag. -/
def State.stagedAs (s : State) (l : Lane) (r : OutRec) (e : Nat) : Bool :=
  (if r.kind = 8 then s.txState l r.index e == 1 && s.fg (scnTx l r.index e) SCN.TX2_TAG == r.tag
   else s.canState l r.index e == 1 && s.fg (canTx l r.index e) CANTX.TAG == r.tag) &&
  s.elemKey l r.kind r.index e == r.elemKey

/-- The STAGED element of a frame record: the one that sent it, or the first that could have. -/
def State.stagedElem (s : State) (l : Lane) (b : BusRec) : Option Nat :=
  match b.elem with
  | some e => if s.stagedAs l b.r e then some e else none
  | none => (List.range 32).find? (s.stagedAs l b.r)

/-- The element of a frame record leaves STAGED: released to READY or SUPPRESSED, or DISCARDED. -/
def State.frameOut (s : State) (l : Lane) (b : BusRec) (ok : Bool) : State :=
  match s.stagedElem l b with
  | none => s
  | some e =>
    if b.r.kind = 8 then s.setTx l b.r.index e (if !ok then 7 else if l = (s.netTx b.r.index).lane then 2 else 6)
    else s.setCanTx l b.r.index e (if !ok then 8 else if s.canTxLane l b.r.index then 2 else 7)

/-- A matched frame is released (R303). -/
def State.releaseElem (s : State) (l : Lane) (b : BusRec) : State := s.frameOut l b true

/-- A frame whose pair fails is discarded (R32). -/
def State.discardElem (s : State) (l : Lane) (b : BusRec) : State := s.frameOut l b false

/-- Every staged frame of a removed lane is discarded (R47). -/
def State.dropStaged (s : State) (l : Lane) : State :=
  let f := fun (s : State) c => (List.range 32).foldl (fun s e => if s.txState l c e = 1 then s.setTx l c e 7 else s) s
  let g := fun (s : State) k => (List.range 32).foldl (fun s e => if s.canState l k e = 1 then s.setCanTx l k e 8 else s) s
  g (g (g (g (f (f s 0) 1) 0) 1) 2) 3

/-! Stopping and releasing (R60, R364, R416, R445) -/

/-- A channel goes to OFF; a frame on the line completes (R415, R416). -/
def State.stopNet (s : State) (l : Lane) (c : Nat) : State :=
  if s.fg (scnB l c) SCN.STATUS_STATE = 0 then s else (s.scnListen l c).fs (scnB l c) SCN.STATUS_STATE 0

/-- A CAN controller stops: it drives its bus recessive, and its elements keep their states (R445). -/
def State.stopCan (s : State) (l : Lane) (k : Nat) : State := s.fs (canB l k) CAN.STATUS_STOPPED 1

/-- A C2 event of lane l that names a resource is pending. -/
def State.resPending (s : State) (l : Lane) (r : Nat) : Bool :=
  (s.coll (.lane l)).pend.any fun (p : Nat × Pend) => decide (2 ≤ p.2.cls) && p.2.res.any (fun x => x.1 == r)

/-- A channel that nothing keeps in OFF any more starts over in LISTEN (R398, R416). -/
def State.netResume (s : State) (l : Lane) (c : Nat) : State :=
  if s.fb (scnB l c) SCN.CTRL_EN && s.fg (scnB l c) SCN.STATUS_STATE == 0 && !s.resPending l (resNet c) then s.scnListen l c else s

/-- A stopped controller that nothing stops any more waits for 11 recessive bits (R445). -/
def State.canResume (s : State) (l : Lane) (k : Nat) : State :=
  if s.fb (canB l k) CAN.STATUS_STOPPED && !s.resPending l (resCan k) then
    (s.fs (canB l k) CAN.STATUS_STOPPED 0).setCan l k { s.can l k with join := true }
  else s

end Sys2Proof.Machine
end

