-- ==== Sys2Proof/Machine/Stop.lean ====
section
/-! DEFINITION. Turning things off: gates, resources named by an event, and what an acknowledgement releases. -/

namespace Sys2Proof.Machine

open Sys2Proof

/-- The base of cell c in the phase-cell block. -/
def cellB (l : DLane) (c : Nat) : Nat := pcB l + 32 * c

/-- The resource that a source of cell c names: the lane, or the port that owns the cell (R269, R356). -/
def cellRes (l : DLane) (c : Nat) : Nat := if c < 18 then resLane l.lane else 0x10 + (c - 18) / 3

/-- Both switches of a cell are commanded on (R273). -/
def CellSt.both (x : CellSt) : Bool := x.cmdH && x.cmdL

/-- A cell's commands at time t, from a source that has changed or not. A turn-on counts from its command, from the end of a both-on
command, or from the change of source; a change of source and a both-on command turn both gates off (R271 to R273). -/
def CellSt.command (x : CellSt) (t : Nat) (changed hs ls : Bool) : CellSt :=
  let up := fun (was now other : Bool) (since : Nat) => if now && (!was || changed || (x.both && !other)) then t else since
  let down := fun (was now other : Bool) (since : Option Nat) =>
    if was && (!now || changed || (other && !x.both)) then some t else since
  { x with
    cmdH := hs, cmdL := ls, upH := up x.cmdH hs ls x.upH, upL := up x.cmdL ls hs x.upL
    downH := down x.cmdH hs ls x.downH, downL := down x.cmdL ls hs x.downL }

/-- A source commands the two switches of a cell (R271 to R273): the onset of a both-on command is counted. Which gates are on
follows from the commands and R271 (`gateOn`). -/
def State.cellCmd (s : State) (l : DLane) (c src : Nat) (hs ls : Bool) : State :=
  let b := cellB l c
  let x := s.cell l c
  let s := if hs && ls && !x.both then
      ((s.fInc b PC.CELL_COUNT_INTERLOCK).fs b PC.CELL_EVT_INTERLOCK 1).raiseR l.lane 0xe0 c (cellRes l c)
    else s
  let changed := s.fg b PC.CELL_STATUS_SRC != src
  (s.setCell l c (x.command s.now changed hs ls)).fs b PC.CELL_STATUS_SRC src

/-- CMP and whether the phases follow it, as they were before the clock that forms new values (R136). -/
def Pwm.snap (p : Pwm) (follows : Bool) : Pwm := { p with cmpOld := p.cmpV, offOld := !follows }

/-- Both gates of a cell go off by command of its source. -/
def State.cellFloat (s : State) (l : DLane) (c : Nat) : State :=
  s.cellCmd l c (s.fg (cellB l c) PC.CELL_STATUS_SRC) false false

/-- The gates of n cells from cell c up are commanded off. -/
def State.cellsFloat (s : State) (l : DLane) (c : Nat) : Nat → State
  | 0 => s
  | n + 1 => (s.cellFloat l c).cellsFloat l (c + 1) n

/-- The cells of an axis go from the position-hold regulator back to their owner, where it is enabled (R272). -/
def State.cellsBack (s : State) (l : DLane) (m : Nat) : State :=
  let src := if s.fb (axB l m) AX.CTRL_EN then 1 else 0
  (List.range 3).foldl (fun s i =>
    if s.fg (cellB l (3 * m + i)) PC.CELL_STATUS_SRC = 2 then s.cellCmd l (3 * m + i) src false false else s) s

/-- The bit of a slice in BIST.FAIL is set (R502, R510). -/
def State.sliceFailQuiet (s : State) (l : Lane) (n : Nat) : State :=
  let k := bistB l + 8 + 4 * (n / 32)
  s.setReg k (s.reg k ||| BitVec.ofNat 32 (2 ^ (n % 32)))

/-- STATUS.STATE (R268). -/
def State.ppState (s : State) (l : DLane) (p : Nat) : Nat := s.fg (ppB l p) PP.STATUS_STATE

/-- The PWM phase and the low phase of a step (R248). -/
def stepPhases : Nat → Nat × Nat
  | 0 => (0, 1)
  | 1 => (0, 2)
  | 2 => (1, 2)
  | 3 => (1, 0)
  | 4 => (2, 0)
  | _ => (2, 1)

/-- The floating phase of a step (R248). -/
def stepFloat (st : Nat) : Nat := let q := stepPhases st; 3 - q.1 - q.2

/-- The port switches its PWM phase: ALIGN, RAMP, RUN and REVERSE, but while it coasts. -/
def State.ppSwitches (s : State) (l : DLane) (p : Nat) : Bool :=
  decide (2 ≤ s.ppState l p ∧ s.ppState l p ≤ 5) && !(s.pp l p).coast

/-- Phase ph floats: that of the step, or every phase while the port has its cells off (R248, R254, R256). -/
def State.ppFloats (s : State) (l : DLane) (p ph : Nat) : Bool :=
  (s.pp l p).busLow ||
  if s.ppSwitches l p then ph == stepFloat (s.fg (ppB l p) PP.STATUS_STEP) else s.ppState l p != 6

/-- The trim that waits for a phase takes effect as its floating interval begins, unless PPEN is 0 (R241, R242). -/
def State.trimApply (s : State) (l : DLane) (p ph : Nat) : State :=
  let x := s.pp l p
  let t := famGet (fun _ => ({} : TrimSt)) x.trims ph
  let b := calB l.lane
  match (if s.fb b CAL.CTRL_PPEN then t.res else none) with
  | none => s
  | some c =>
    let f := if ph = 0 then CAL.TRIM_U else if ph = 1 then CAL.TRIM_V else CAL.TRIM_W
    let first := t.first.getD c
    let s := s.setPp l p { x with trims := famSet (fun _ => ({} : TrimSt)) x.trims ph { t with res := none, first := some first } }
    let s := s.fsi (b + 4 * p) f c
    if s.fg b CAL.PPCFG_BDRIFT < (c - first).natAbs then
      (s.fs b CAL.EVT_BEMF_DRIFT 1).raiseR l.lane 0xc5 p (0x10 + p) ph
    else s

/-- The trims that wait take effect for the phases that float now and did not in state `old`. -/
def State.ppTrims (s old : State) (l : DLane) (p : Nat) : State :=
  (List.range 3).foldl (fun s ph => if !old.ppFloats l p ph && s.ppFloats l p ph then s.trimApply l p ph else s) s

/-- What a port knows of its motor ends (R256, R261, R266). -/
def PpSt.rest (x : PpSt) : PpSt :=
  { x with
    ref := 0, int := 0, duty := 0, iv1 := 0, iv2 := 0, zc := none, run := 0, got := false, misses := 0, good := 0, neutral := [],
    crossed := none, fwd := 0, bwd := 0, seen := 0, sync := none, kchk := false, retry := false, fails := 0, coast := false
    tripped := false, ilimRun := 0, ilimRaised := false, holdRun := 0, holdRaised := false }

/-- The registers of a port that comes to rest in a state. -/
def State.portState (s : State) (l : DLane) (p st : Nat) : State :=
  let b := ppB l p
  (((s.fs b PP.STATUS_STATE st).fs b PP.STATUS_DUTY 0).fs b PP.STATUS_BUSHOLD 0).fs b PP.SPEED_SPEED 0

/-- Port p's cells go off, and it enters a state from which only a RUN record starts it: OFF (0) or FAULT (7) (R261, R266). -/
def State.portRest (s : State) (l : DLane) (p st : Nat) : State :=
  let x := (s.pp l p).rest
  let pwm := { x.pwm with live := [false, false, false], hs := [false, false, false] }
  (((s.cellsFloat l (18 + 3 * p) 3).portState l p st).setPp l p { x with pwm := pwm }).ppTrims s l p

/-- Port p enters OFF as mode OFF does: its cells go off at their phases' next compare opportunities (R135, R260). -/
def State.portOff (s : State) (l : DLane) (p : Nat) : State :=
  let x := (s.pp l p).rest
  ((s.portState l p 0).setPp l p { x with pwm := x.pwm.snap (s.ppSwitches l p) }).ppTrims s l p

/-- Port p enters OFF, unless it is in FAULT (R261). -/
def State.portToOff (s : State) (l : DLane) (p : Nat) : State :=
  if !s.fb (ppB l p) PP.CTRL_EN || s.ppState l p == 7 then s.cellsFloat l (18 + 3 * p) 3 else s.portRest l p 0

/-- Port p enters FAULT (R60, R266). -/
def State.stopPort (s : State) (l : DLane) (p : Nat) : State := s.portRest l p 7

/-- Every port is in OFF: Safe Stop and Safe Hold (R261). -/
def State.portsOff (s : State) : State :=
  (((s.portToOff .A 0).portToOff .A 1).portToOff .B 0).portToOff .B 1

/-! Memory that a power-up clears, and the recorder's triggers -/

/-- The base and the end of DRAM, and the base of the recorder's ring in it (R455, R463). -/
def dramBase : Nat := 0x100000000
def dramEnd : Nat := 0x300000000
def ringBase : Nat := 0x180000000

/-- DRAM at a lane's release (R461): zeros to be filled in after Off or Hibernate, kept where its supply was kept. -/
def State.dramStart (s : State) (l : Lane) (kept : Bool) : State :=
  if kept then s.fs (memcB l) MEMC.STATUS_INITDONE 1
  else { s with mem := famClear s.mem (key (laneNo l) dramBase) (key (laneNo l) dramEnd) }

/-- The first frozen-window slot that is free. -/
def State.erSlot (s : State) (l : Lane) : Option Nat :=
  (List.range 8).find? fun n => s.fg (erB l) ER.STATUS_FROZEN / 2 ^ n % 2 == 0

/-- 256 MB. -/
def erWindow : Nat := 2 ^ 28

/-- The pending freeze completes: the window ends with the last row written (R474). -/
def State.erFrozen (s : State) (l : Lane) : State :=
  let b := erB l
  let x := s.er l
  match s.erSlot l with
  | none => s.fs b ER.STATUS_PENDING 0
  | some n =>
    let size := dramEnd - ringBase
    let start := ringBase + (x.ended - ringBase + size - erWindow) % size
    let k := b + 16 * n
    let s := ((s.fs k ER.FRZ_L_ADDR start).fs k ER.FRZ_H_ADDR (start / 2 ^ 32)).fs k ER.FRZ_CYC_CYCLE x.cyc
    let s := ((s.fs k ER.FRZ_SRC_SRC x.src).fs k ER.FRZ_SRC_COLL x.coll).fs k ER.FRZ_SRC_SW (if x.sw then 1 else 0)
    (s.fs b ER.STATUS_FROZEN (s.fg b ER.STATUS_FROZEN ||| 2 ^ n)).fs b ER.STATUS_PENDING 0

/-- The pending freeze completes once row k + POST has been written (R474). -/
def State.erCheck (s : State) (l : Lane) : State :=
  let b := erB l
  let x := s.er l
  match x.last with
  | some c =>
    if s.fb b ER.STATUS_PENDING && decide (s.fg b ER.POST_POST ≤ (c + 2 ^ 32 - x.cyc) % 2 ^ 32) &&
        decide ((c + 2 ^ 32 - x.cyc) % 2 ^ 32 < 2 ^ 31) then s.erFrozen l
    else s
  | none => s

/-- A freeze is triggered while the recorder runs: absorbed, lost, or pending (R474). -/
def State.erTrigger (s : State) (l : Lane) (src coll : Nat) (sw : Bool) : State :=
  let b := erB l
  if !s.fb b ER.CTRL_EN || s.fb b ER.STATUS_PENDING then s
  else if (s.erSlot l).isNone then (s.fInc b ER.COUNT_FRZLOST).raiseL l 0x118 255
  else
    let x := s.er l
    ((s.setEr l { x with cyc := s.sk.cycle, src := src, coll := coll, sw := sw }).fs b ER.STATUS_PENDING 1).erCheck l

/-- An event is logged by lane l at an effective class (R474). -/
def State.erLogged (s : State) (l : Lane) (it : LogItem) : State :=
  let c := s.fg (erB l) ER.CTRL_FRZCLASS
  if c ≠ 0 ∧ c ≤ it.cls + 1 then s.erTrigger l it.ev.src (collNo it.ev.coll) false else s

/-! Resets and acknowledgements -/

/-- The ranges of the registers that lane l's star reads: its own, and the mode descriptors and sync entries of the channel on its
network (R378, R392). -/
def starRanges (l : Nat) : List (Nat × Nat) :=
  let c := 0x40300000 + 0x2000 * l
  [(c + 0x100, c + 0x240), (0x40306000, 0x40310000)]

/-- A list of registers without those of the given ranges of lane l. -/
def clearRanges (l : Nat) (rs : List (Nat × Nat)) (m : List (Nat × Word)) : List (Nat × Word) :=
  rs.foldl (fun m r => famClear m (key l r.1) (key l r.2)) m

/-- The ranges that a reset of lane l clears: all but those of its star, which keeps its state, and RSTCAUSE (R378, R516). -/
def resetRanges (l : Nat) : List (Nat × Nat) :=
  match l with
  | 2 => [(0, 0x40900004), (0x40900008, 2 ^ 40)]
  | _ =>
    let c := 0x40300000 + 0x2000 * l
    [(0, c + 0x100), (c + 0x240, 0x40306000), (0x40310000, 0x40900004), (0x40900008, 2 ^ 40)]

/-- The blocks of lane l lose their state: registers, and what each block holds besides them. -/
def State.laneClear (s : State) (l : Nat) : State :=
  let lo := lk l 0
  let hi := lk l 256
  { s with
    regs := clearRanges l (resetRanges l) s.regs
    cells := famClear s.cells lo hi
    axes := famClear s.axes lo hi
    fbs := famClear s.fbs lo hi
    cals := famClear s.cals lo hi
    pgs := famClear s.pgs lo hi
    pps := famClear s.pps lo hi
    scns := famClear s.scns lo hi
    jobs := famClear s.jobs lo hi
    cans := famClear s.cans lo hi
    dmas := famClear s.dmas lo hi
    fired := famDel s.fired l
    buses := famDel s.buses l
    les := famDel s.les l
    ers := famDel s.ers l
    ics := famDel s.ics l
    xc := { s.xc with net := famDel s.xc.net l, netLost := famDel s.xc.netLost l } }

/-- A drive lane's star loses its supply (R378). -/
def State.starReset (s : State) (l : DLane) : State :=
  { s with regs := clearRanges (dno l) (starRanges (dno l)) s.regs, stars := famDel s.stars (dno l) }

/-- The axes of a drive lane whose overcurrent has been acknowledged may drive again (R143). -/
def State.ocRelease (s : State) (l : DLane) : State :=
  (List.range 6).foldl (fun s n => s.setAxis l n { s.axis l n with ocOff := false }) s

/-- A latch of the cells of a drive lane is cleared (R274, R280). -/
def State.cellRelease (s : State) (l : DLane) (f : Fld) : State :=
  (List.range 24).foldl (fun s c => s.fs (cellB l c) f 0) s

/-- A port in FAULT enters OFF with TRIES at 0 once no C2 event of it is pending (R266). -/
def State.portRelease (s : State) (l : DLane) (p : Nat) : State :=
  if s.ppState l p == 7 && !s.resPending l.lane (0x10 + p) then
    (s.portRest l p 0).fs (ppB l p) PP.STATUS_TRIES 0
  else s

/-- What an acknowledgement of lane l's source releases (R361): the blocks that the source has stopped restart as their chapters
say, where no other pending event stops them (R143, R266, R274, R280, R397, R416, R445). -/
def State.releaseLane (s : State) (l : Lane) (src : Nat) : State :=
  let s := match asDrive l with
    | none => s
    | some d =>
      let s := if src = 0xa0 then s.ocRelease d
        else if src = 0xe4 then s.setLane d.lane { s.lane d.lane with vgdHeld := false }
        else if src = 0xe1 then s.cellRelease d PC.CELL_STATUS_SHORT
        else if src = 0xe6 then s.cellRelease d PC.CELL_STATUS_STUCK else s
      (s.portRelease d 0).portRelease d 1
  let uncut := fun (s : State) c => s.setScn l c { s.scn l c with cut := false }
  let s := if src = 0x189 then uncut (uncut s 0) 1 else s
  let s := (s.netResume l 0).netResume l 1
  (List.range 4).foldl (fun s k => s.canResume l k) s

/-- The reception of a slot, a sender and a sequence number that a channel of lane l has accepted in a safe-data slot. -/
def State.sdHeld (s : State) (l : Lane) (c slot sender q : Nat) : Option NetEntry :=
  (s.scn l c).sd.find? fun e => e.seq == q && e.w1 % 2 ^ 10 == slot && e.w1 / 2 ^ 16 % 2 ^ 8 == sender

/-- Entry j is confirmed with sequence number q: lane l's section takes its own reception of the NETA copy, else of the NETB copy;
with neither, NETLOST counts the pair. `n` is 2 for a pair, or the network of the one copy that confirms (R343, R345). -/
def State.sdNet (s : State) (l j q n : Nat) : State :=
  let ln := laneOf l
  let slot := s.cfgSdSlot j
  let snd := s.cfgSdSender j
  let a := if n = 1 then none else s.sdHeld ln 0 slot snd q
  let b := if n = 0 then none else s.sdHeld ln 1 slot snd q
  if (s.lane ln).reset then s
  else
    match a.orElse (fun _ => b) with
    | some e => s.netAdd ln e
    | none =>
      { s with xc := { s.xc with netLost := famSet (fun _ => 0) s.xc.netLost l (famGet (fun _ => 0) s.xc.netLost l + 1) } }

end Sys2Proof.Machine
end

