-- ==== Sys2Proof/Machine/Unit.lean ====
section
/-! DEFINITION. The state sequencer: lane resets, and what each state does on entry (chapters 02, 12, 19). -/

namespace Sys2Proof.Machine

open Sys2Proof

/-- What outlives a reset of a lane: its supplies, BROKEN and the failed attempts, DEBUGSEEN, the boot record and OTP. -/
def LaneSt.afterReset (x : LaneSt) : LaneSt :=
  { rails := x.rails, enMem := x.enMem, enRun := x.enRun, vgdUp := x.vgdUp, broken := x.broken, attempts := x.attempts,
    debugSeen := x.debugSeen, active := x.active, trial := x.trial, tries := x.tries, rollback := x.rollback }

/-- A running drive lane is about to be lost as the source of six taps of lane W, where W runs (R193). -/
def State.tapsLost (s : State) (l : Lane) : State :=
  match asDrive l with
  | some d =>
    if s.running l && s.running .W then (List.range 6).foldl (fun s n => s.raiseL .W 0x4b (6 * dno d + n)) s else s
  | none => s

/-- Lane l is held in reset: its gates are off (R271) and its blocks lose their state. Its memories, its log and its star keep theirs
(R65, R378). -/
def State.holdReset (s : State) (l : Lane) : State :=
  let s := ((s.tapsLost l).laneClear (laneNo l)).setColl (.lane l) {}
  let s := { s with xc := { s.xc with posted := s.xc.posted.filter (fun p => p.1 != laneNo l) } }
  s.setLane l (s.lane l).afterReset

/-- Lane l is held in reset by Skink: PWR.RSTCAUSE.SKINK is set. -/
def State.skinkReset (s : State) (l : Lane) : State := (s.holdReset l).fs (pwrB l) PWR.RSTCAUSE_SKINK 1

/-- The entries of lane l's collector are closed: its lane is reset under R40 (R362). -/
def State.closeLane (s : State) (l : Lane) : State :=
  { s with tab := { s.tab with open_ := s.tab.open_.filter (fun e => e.coll != .lane l) } }

/-- Every open window is abandoned, and its records are late from then on (R304). -/
def Comparator.abandon (c : Comparator) : Comparator :=
  { c with pend := [], decisions := [], closed := c.closed ++ c.pend.map (fun p => ⟨p.b.r.kind, p.b.r.index, p.b.r.tag, p.n⟩) }

/-- The comparison stops (R304). -/
def State.cmpStop (s : State) : State :=
  { s with cmp := { s.cmp.abandon with loose := [], ckpts := [], stopped := false, inj := none } }

/-- The state with the state code replaced. -/
def State.setSt (s : State) (u : UState) : State := { s with sk := { s.sk with st := u } }

/-- Skink's outputs on leaving the states that drive: every safe output off. -/
def State.soAllOff (s : State) : State :=
  { s with sf := { s.sf with so := s.sf.so.map (fun (p : Nat × SafeOut) => (p.1, { p.2 with on := false, inTest := false, req := false })) } }

/-- The position-hold regulators are released: their cells go back to their owners (R272). -/
def State.holdsOff (s : State) : State :=
  let t := s.sf.regs.foldl (fun s p => if p.2.engaged then s.cellsBack p.2.lane (s.cfgHoldMotor p.1) else s) s
  { t with sf := { t.sf with regs := [] } }

/-- A lane's gate supply is above UVLO (R52). -/
def State.vgdOk (s : State) (l : DLane) : Bool := (s.lane l.lane).vgdUp

/-- The lane whose cells serve the position-hold regulator: HOLD_LANE where it meets R52, else the other where that does. -/
def State.holdLaneNow (s : State) : Option DLane :=
  let l := s.cfgHoldLane
  if s.cellLogic l && s.vgdOk l then some l
  else if s.cellLogic (otherD l) && s.vgdOk (otherD l) then some (otherD l) else none

/-- Hold regulator h engages, where its motor is enabled and a lane can serve it (R51, R52): the source of the motor's cells changes, and
both gates of each go off (R272). -/
def State.engage (s : State) (h : Nat) : State :=
  if s.cfgHoldEn h then
    match s.holdLaneNow with
    | some l =>
      let s := { s with sf := { s.sf with regs := famIns s.sf.regs h { engaged := true, lane := l } } }
      (List.range 3).foldl (fun s i => s.cellCmd l (3 * s.cfgHoldMotor h + i) 2 false false) s
    | none => s
  else s

/-- On-time of ramp period j in percent of a period, times RAMPTIME: RAMPSTART + (100 - RAMPSTART) j RAMPPER / RAMPTIME,
at most 100 (R340). -/
def State.rampDuty (s : State) (j : Nat) : Nat :=
  min (100 * s.cfgRampTime) (s.cfgRampStart * s.cfgRampTime + (100 - s.cfgRampStart) * j * s.cfgRampPer)

/-- Period j of the ramp runs at full duty. -/
def State.rampFull (s : State) (j : Nat) : Bool := s.rampDuty j == 100 * s.cfgRampTime

/-- An Axolotl attempt ends without being counted: the restored lane is held in reset (R64). -/
def State.axoDrop (s : State) : State :=
  match s.sk.axo with
  | some x => ({ s with sk := { s.sk with axo := none } }).skinkReset x.lane
  | none => s

/-- Safe Stop (R51): every gate off, the switch-over and the comparison ended (R304, R350), regulators and ramp engaged. -/
def State.enterSafeStop (s : State) : State :=
  let s := (s.axoDrop.portsOff).cmpStop
  let s := s.setSk { s.sk with st := .safeStop, stopAt := s.now, hold := none, req := none, targeted := none, capNext := none, shareNext := [] }
  let s := { s with cmp := { s.cmp with held := [] } }
  let s := { s with sf := { s.sf with
      regs := [], rampOn := true, rampJ := 0, rampAt := s.now, rampDone := s.rampFull 0, parkOff := false,
      so := s.sf.so.map (fun (p : Nat × SafeOut) => (p.1, { p.2 with
        on := p.2.on && s.cfgParkEn && p.1 == s.cfgParkSo && !p.2.failed && !s.cfgSoRamp p.1, inTest := false })) } }
  let s := (s.engage 0).engage 1
  if (s.cfgHoldEn 0 || s.cfgHoldEn 1) && s.holdLaneNow.isNone then s.raiseS 0x45 else s

/-- The LK fields of every lane become read-only: the unit has left Chorus (R7). -/
def State.lockAll (s : State) : State :=
  let f := fun (s : State) l => s.setLane l { s.lane l with locked := true }
  f (f (f s .A) .B) .W

/-- Safe Hold (R53): the safe outputs off; regulators that hold go on until their release. From Chorus, the LK fields of every lane
lock (R7). -/
def State.enterSafeHold (s : State) : State :=
  let s := if s.sk.st = .chorus then s.lockAll else s
  let s := (s.axoDrop.portsOff).cmpStop
  let s := if s.sk.st = .safeStop then s else s.holdsOff
  let s := s.setSk { s.sk with st := .safeHold, hold := none, req := none, targeted := none, capNext := none, shareNext := [] }
  let s := s.soAllOff
  { s with sf := { s.sf with rampOn := false, parkOff := false, parkAt := s.now, parkBad := false } }

/-- Safe Stop ends once standstill holds and the brake ramp is complete (R40, R53). -/
def State.stopDone (s : State) : State :=
  if s.sk.st = .safeStop ∧ s.sk.still ∧ s.sf.rampDone then s.enterSafeHold else s

/-- The lanes' resets on a start: every lane of the unit is held in reset, and every entry of the lanes is closed. -/
def State.resetAll (s : State) : State :=
  let s := ((s.holdReset .W).holdReset .A).holdReset .B
  ((s.closeLane .A).closeLane .B).closeLane .W

/-- Tadpole (R40, R362): the lanes are in reset until LANE_RESET_RELEASE; OVF is cleared. -/
def State.enterTadpole (s : State) : State :=
  let s := (s.resetAll).cmpStop
  let k := s.sk
  let s := s.setSk { k with
    st := .tadpole, relAt := none, waitBoth := false, leftOut := none, cfgOk := false, cmpOk := false, removed := [], byFeed := false, hold := none, capTq := 100, capSpd := 100,
    capNext := none, shared := false, share := [], shareNext := [], stillRun := false, still := false, speeding := [], speedRaised := [],
    req := none, axo := none, targeted := none, cmdMon := false, canAlive := [] }
  let s := s.soAllOff.holdsOff
  { s with
    tab := { s.tab with ovf := false, waits := [] }
    sf := { s.sf with rampOn := false, rampDone := false, parkOff := false, parkBad := false }
    xc := { s.xc with absRun := [], absRaised := [] }
    cmp := { s.cmp with held := [], votes := [], frozen := false, rearm := false, verdict := none } }

/-- Chorus, at the third report (R40): every check is still to pass. -/
def State.enterChorus (s : State) : State :=
  let s := s.setSk { s.sk with st := .chorus, chorusAt := s.now, cfgOk := false, cmpOk := false }
  let f := fun (s : State) l => s.setLane l { s.lane l with swept := false }
  { f (f (f s .A) .B) .W with cmp := { s.cmp with injM := 0 } }

/-- Service or Bench, once every Chorus check has passed (R40): the LK fields are locked, and the shares and caps of the state follow
at the next beacon, at which alone they change (R150, R329). -/
def State.leaveChorus (s : State) : State :=
  let s := s.lockAll
  let sh := (List.range 6).map fun m => (m, s.cfgShare m)
  if s.cfgBench then s.setSk { s.sk with st := .bench, shareNext := sh, capNext := some (100, s.cfgBenchSpd) }
  else s.setSk { s.sk with st := .service, shareNext := sh, capNext := some (100, 100) }

/-- Every Chorus check has passed. -/
def State.chorusAll (s : State) : Bool :=
  s.sk.cfgOk && s.sk.cmpOk && (s.lane .A).swept && (s.lane .B).swept && (s.lane .W).swept

/-- Chorus ends when the last of its checks passes. -/
def State.chorusCheck (s : State) : State :=
  if s.sk.st = .chorus ∧ s.chorusAll then s.leaveChorus else s

/-- What Skink keeps through a loss of its supply: nothing but the levels of the feeds, KEEPOFF, which the hibernate domain
drives, and LOCKED, which only the loss of both feeds clears (R37). -/
def Skink.afterReset (k : Skink) : Skink :=
  { locked := k.locked, feedA := k.feedA, feedB := k.feedB, aboveA := k.aboveA, aboveB := k.aboveB, vor := k.vor, keepOff := k.keepOff }

/-- Skink loses its supply: its registers, tables and stores are as after its reset, and no event is on its way (R328, R362). -/
def State.skinkOff (s : State) : State :=
  { s with
    sk := s.sk.afterReset, tab := {}, sf := {}, xc := {}, cmp := {}, evq := []
    colls := famDel s.colls 3
    regs := famClear s.regs (key sharedHome 0x50000000) (key sharedHome 0x50050000) }

/-- A lane's supplies go down, with its enables. -/
def State.lanePowerOff (s : State) (l : Lane) (mem : Bool) : State :=
  let x := s.lane l
  s.setLane l { x with rails := false, vgdUp := false, enRun := false, enMem := x.enMem && !mem }

/-- Off (R40, R54): both feeds are below their reset thresholds. BROKEN, the failed attempts, LOCKED and DEBUGSEEN end here
(R37, R55, R313, R508). -/
def State.enterOff (s : State) : State :=
  let s := s.resetAll
  let f := fun (s : State) l =>
    (s.lanePowerOff l true).setLane l { (s.lanePowerOff l true).lane l with broken := false, attempts := 0, debugSeen := false }
  let s := (f (f (f s .A) .B) .W).skinkOff
  s.setSk { s.sk with st := .off, locked := false, feedA := false, feedB := false, aboveA := false, aboveB := false, vor := false, keepOff := false }

/-- A drive lane's removal or W's (R50): its gates are off (R271); it is held in reset, unless its targeted test runs first (R312). -/
def State.removeLane (s : State) (l : Lane) (tested : Bool) : State :=
  let s := (s.dropStaged l).setSk { s.sk with removed := if s.sk.removed.contains l then s.sk.removed else l :: s.sk.removed }
  if tested then s else s.skinkReset l

/-- How many cycles have begun since cycle c. -/
def State.cyclesSince (s : State) (c : Nat) : Nat := (s.sk.cycle + 2 ^ 32 - c % 2 ^ 32) % 2 ^ 32

/-- Degraded Single (R40, R47): lane l is removed; the share and the caps step at beacon d + 2, where d is the cycle of the
detection, and a request that waits is ignored. -/
def State.enterSingle (s : State) (l : DLane) (d : Nat) (byFeed : Bool) (test : Option (Nat × Nat)) : State :=
  let st : UState := match l with
    | .A => .singleB
    | .B => .singleA
  let left := match s.sk.hold with
    | some h => h.left
    | none => max 1 (2 - s.cyclesSince d)
  let s := (s.removeLane l.lane test.isSome).cmpStop
  s.setSk { s.sk with
    st := st, byFeed := byFeed, req := none, hold := some { left := left, removed := some l }
    targeted := test.map (fun t => (l.lane, t.1, t.2)) }

/-- Degraded No-witness (R40): lane W is removed; the caps follow at the next beacon. -/
def State.enterNoWitness (s : State) : State :=
  let s := s.removeLane .W false
  s.setSk { s.sk with st := .noWitness, byFeed := false, capNext := some (s.cfgNwTq, s.cfgNwSpd) }

/-- Degraded Comparator-degraded (R40, R319): the comparison is off; the caps follow at the next beacon, and every share keeps its
value (R150). -/
def State.enterCmpDegraded (s : State) : State :=
  let s := s.cmpStop
  let s := { s with cmp := { s.cmp with held := [] } }
  s.setSk { s.sk with st := .cmpDegraded, byFeed := false, hold := none, shareNext := [], capNext := some (s.cfgCdTq, s.cfgCdSpd) }

/-- An Axolotl attempt fails (R324): 0x03C, the restored lane held in reset, the Degraded kind held before. -/
def State.axoFail (s : State) : State :=
  match s.sk.axo with
  | some x =>
    if s.sk.st = .axolotl then
      let s := s.raiseS 0x3c 255 (resLane x.lane)
      let s := (s.setSk { s.sk with st := x.held, axo := none, hold := none }).skinkReset x.lane
      s.setLane x.lane { s.lane x.lane with attempts := (s.lane x.lane).attempts + 1 }
    else s
  | none => s

/-- Park or Hibernate (R520): cells and outputs off, retention written, DRAM in self-refresh, cores stopped, rails down. -/
def State.goDown (s : State) (z : Nat) : State :=
  let s := (s.soAllOff).retWrite z
  let s := ((s.holdReset .W).holdReset .A).holdReset .B
  (s.cmpStop).holdsOff

/-- Park (R520). -/
def State.enterPark (s : State) : State :=
  let s := (((s.goDown 2).fs hibB HIB.STATUS_SLEEP 2).fs hibB HIB.STATUS_CAUSE 0)
  let s := ((s.lanePowerOff .A false).lanePowerOff .B false).lanePowerOff .W false
  s.setSk { s.sk with st := .park, req := none, hold := none, targeted := none }

/-- Hibernate (R520): KEEPOFF goes high, VOR collapses and Skink stops. -/
def State.enterHibernate (s : State) : State :=
  let s := (((s.goDown 1).fs hibB HIB.STATUS_SLEEP 1).fs hibB HIB.STATUS_CAUSE 0)
  let s := (((s.lanePowerOff .A true).lanePowerOff .B true).lanePowerOff .W true).skinkOff
  s.setSk { s.sk with st := .hibernate, vor := false, keepOff := true }

/-- The present clock is time 0 of R516 for the lanes of these numbers. -/
def State.lanesUp (s : State) (ls : List Nat) : State :=
  s.setSk { s.sk with up := ls.foldl (fun up l => famIns up l s.now) s.sk.up }

/-- A wake event of the hibernate domain (R521): CAUSE records it; Park starts the lanes, Hibernate sets KEEPOFF low. -/
def State.wake (s : State) (cause : Nat) : State :=
  let s1 := s.fs hibB HIB.STATUS_CAUSE (s.fg hibB HIB.STATUS_CAUSE ||| 2 ^ cause)
  if s.sk.st = .park then s1.enterTadpole.lanesUp [0, 1, 2]
  else if s.sk.st = .hibernate then s1.setSk { s1.sk with keepOff := false, waitBoth := true, wakeAt := s.now }
  else s

end Sys2Proof.Machine
end

