-- ==== Sys2Proof/Machine/Faults.lean ====
section
/-! DEFINITION. Fault collection and reaction (chapter 13, R60 to R64). -/

namespace Sys2Proof.Machine

open Sys2Proof

/-! The order of entry -/

/-- The order of collectors within one Skink clock: Skink, A, B, W (R366). -/
def collOrder : Coll → Nat
  | .skink => 0
  | .lane l => laneNo l + 1

/-- Event x is entered before event y of the same clock (R366). -/
def Event.before_ (x y : Event) : Bool :=
  collOrder x.coll < collOrder y.coll || (collOrder x.coll == collOrder y.coll && x.src < y.src)

/-- The event to enter next among those of time t, x being the best so far. -/
def bestEvent (t : Nat) : Event → List Event → Event
  | x, [] => x
  | x, y :: q => if y.time = t ∧ y.before_ x then bestEvent t y q else bestEvent t x q

/-- The next event to enter and those that stay. -/
def pickEvent : List Event → Option (Event × List Event)
  | [] => none
  | x :: q => let e := bestEvent x.time x q; some (e, (x :: q).erase e)

/-! The class of an event -/

/-- The drive lane that a resource stands for: a lane, its feed or its gate supply (R60, R372). -/
def resDrive (r : Nat) : Option DLane :=
  if r = 1 ∨ r = 4 ∨ r = 6 then some .A else if r = 2 ∨ r = 5 ∨ r = 7 then some .B else none

/-- The resource has a Degraded kind: a lane, feed, gate supply, W or the comparator. -/
def resMoves (r : Nat) : Bool := 1 ≤ r && r ≤ 8

/-- The lane that a resource stands for. -/
def resLaneOf (r : Nat) : Option Lane :=
  match resDrive r with
  | some d => some d.lane
  | none => if r = 3 then some .W else none

/-- The resource has been removed already (R61). -/
def State.resRemoved (s : State) (r : Nat) : Bool :=
  (match resLaneOf r with
   | some l => s.isRemoved l
   | none => false) || (r == 8 && s.kind == .cmpDegraded)

/-- The resource is the lane that Axolotl restores, or belongs to it (R64). -/
def State.resRestoring (s : State) (r : Nat) : Bool :=
  match s.sk.axo with
  | some x => s.sk.st == .axolotl && resLaneOf r == some x.lane
  | none => false

/-- A source of the chapter on comparison and vote (R326). -/
def cmpChapter : Coll → Nat → Bool
  | .lane _, i => 0x18 ≤ i && i ≤ 0x1a
  | .skink, i => 0x20 ≤ i && i ≤ 0x3c

/-- The class of an event from a sound collector, before removal and escalation: the class in force, C1 in Bench for the sources of
R326, and C3 for a Skink source of C2 that names no resource (R356). -/
def State.classSound (s : State) (e : Event) : Nat :=
  let c := s.classNow e.coll e.src
  if s.sk.st = .bench ∧ cmpChapter e.coll e.src ∧ (c = 2 ∨ c = 3) then 1
  else if e.coll = .skink ∧ c = 2 ∧ e.res = 0 then 3
  else c

/-- R367 raises the event to C3: its collector has failed its check. -/
def State.raisedToC3 (s : State) (e : Event) : Bool := (s.coll e.coll).fault && decide (s.classSound e < 3)

/-- The class of an event before removal and escalation. -/
def State.classOf (s : State) (e : Event) : Nat := if s.raisedToC3 e then 3 else s.classSound e

/-! Reactions -/

/-- The resource stops, without a change of state (R60). -/
def State.stopRes (s : State) (c : Coll) (r : Nat) : State :=
  match c with
  | .lane l =>
    if 0x10 ≤ r ∧ r < 0x12 then
      match asDrive l with
      | some d => s.stopPort d (r - 0x10)
      | none => s
    else if 0x20 ≤ r ∧ r < 0x24 then s.stopCan l (r - 0x20)
    else if r = 0x30 ∨ r = 0x31 then s.stopNet l (r - 0x30)
    else s
  | .skink => s

/-- The code that marks a source in a lane's list of what keeps its cells off in Bench (R359). -/
def benchCode (c : Coll) (i : Nat) : Nat := collNo c * 512 + i

/-- A lane's cells go off in Bench until the event is acknowledged (R359). -/
def State.benchLaneOff (s : State) (d : DLane) (code : Nat) : State :=
  let x := s.lane d.lane
  s.setLane d.lane { x with benchOff := if x.benchOff.contains code then x.benchOff else code :: x.benchOff }

/-- Safe Stop from the states that drive, Safe Hold from the others in which Skink runs (R40, R42). -/
def State.stopUnit (s : State) : State :=
  match s.sk.st with
  | .service | .singleA | .singleB | .noWitness | .cmpDegraded | .axolotl | .bench => s.enterSafeStop
  | .tadpole | .chorus | .park => s.enterSafeHold
  | .safeStop | .safeHold | .off | .hibernate => s

/-- The targeted test that a decision calls for (R312, R500): the KIND and INDEX of the last mismatch, or 16 for a checkpoint
difference. -/
def State.testFor (s : State) (e : Event) : Option (Nat × Nat) :=
  if e.coll = .skink ∧ (e.src = 0x30 ∨ e.src = 0x31) ∧ ¬ e.forced then
    some (s.fg cmpB CMPS.LASTMIS_KIND, s.fg cmpB CMPS.LASTMIS_INDEX)
  else if e.coll = .skink ∧ e.src = 0x39 ∧ ¬ e.forced then some (16, 0)
  else none

/-- A C2 event in Service that names a resource with a Degraded kind (R60). -/
def State.degrade (s : State) (e : Event) : State :=
  match resDrive e.res with
  | some d => s.enterSingle d e.cycle (e.coll == .skink && (e.src == 0x40 || e.src == 0x41)) (s.testFor e)
  | none => if e.res = 3 then s.enterNoWitness else s.enterCmpDegraded

/-- The reaction to a C2 event outside Bench. -/
def State.react2 (s : State) (e : Event) : State :=
  if resMoves e.res then
    match s.sk.st with
    | .service => s.degrade e
    | .singleA | .singleB | .noWitness | .cmpDegraded | .axolotl => s.enterSafeStop
    | .tadpole | .chorus | .park => s.enterSafeHold
    | _ => s
  else s.stopRes e.coll e.res

/-- The reaction to a C2 or C3 event in Bench (R359). -/
def State.reactBench (s : State) (e : Event) (cls : Nat) : State :=
  if fixedClass e.coll e.src || s.raisedToC3 e then s.enterSafeStop
  else
    match resDrive e.res with
    | some d => s.benchLaneOff d (benchCode e.coll e.src)
    | none =>
      if cls = 3 ∧ ¬ (0x10 ≤ e.res ∧ e.res < 0x12) then
        (s.benchLaneOff .A (benchCode e.coll e.src)).benchLaneOff .B (benchCode e.coll e.src)
      else s.stopRes e.coll e.res

/-- The reaction of a class (R358, R60). -/
def State.react (s : State) (e : Event) (cls : Nat) : State :=
  if cls ≤ 1 then s
  else if cls = 4 then (s.stopUnit).setSk { s.stopUnit.sk with locked := true }
  else if s.sk.st = .bench then s.reactBench e cls
  else if cls = 2 then s.react2 e
  else s.stopUnit

/-! The unit event table and the log -/

/-- The next EVID after n: it skips 0 (R362). -/
def evidAfter (n : Nat) : Nat := if n ≥ 65535 then 1 else n + 1

/-- An open entry of the same class from another source escalates an event (R365). -/
def State.escalates (s : State) (e : Event) (c : Nat) : Bool :=
  s.tab.open_.any (fun t => t.cls == c && (t.coll != e.coll || t.src != e.src))

/-- An event waits to be logged in lane l, or is counted lost where 64 wait (R369). A lane in reset logs nothing. -/
def State.queueLog (s : State) (l : Lane) (it : LogItem) : State :=
  if (s.lane l).reset then s
  else
    let c := s.coll (.lane l)
    if c.queue.length < 64 then s.setColl (.lane l) { c with queue := c.queue ++ [it] }
    else s.fInc (fcB l) FC.STATUS_LOGLOST

/-- An event goes to the logs that hold it: its own lane's, or all three for Skink's (R369). -/
def State.logEvent (s : State) (it : LogItem) : State :=
  match it.ev.coll with
  | .lane l => s.queueLog l it
  | .skink => ((s.queueLog .A it).queueLog .B it).queueLog .W it

/-- Some lane will log an event of a collector. -/
def State.willLog (s : State) (c : Coll) : Bool :=
  let open_ := fun l => s.running l && decide ((s.coll (.lane l)).queue.length < 64)
  match c with
  | .lane l => open_ l
  | .skink => open_ .A || open_ .B || open_ .W

/-- The lane unit time by which a collector's 1 ms of R374 is judged: its lane's, or lane A's for Skink's. -/
def State.collTime (s : State) : Coll → Nat
  | .lane l => s.utime l
  | .skink => s.now

/-- What an acknowledgement of a source releases (R361). -/
def State.release (s : State) (c : Coll) (i : Nat) : State :=
  let f := fun (s : State) l =>
    let x := s.lane l
    s.setLane l { x with benchOff := x.benchOff.erase (benchCode c i) }
  let s := f (f s .A) .B
  match c with
  | .lane l => s.releaseLane l i
  | .skink =>
    if i = 0x5c then
      { s with sf := { s.sf with so := s.sf.so.map (fun (p : Nat × SafeOut) => (p.1, { p.2 with failed := false })) } }
    else if i = 0x58 then
      { s with sf := { s.sf with si := s.sf.si.map (fun (p : Nat × SafeIn) =>
          (p.1, if p.2.latch then
                  if !p.2.a && (p.2.b == (s.cfgSiMode p.1 == 2)) then { p.2 with latch := false, release := false }
                  else { p.2 with release := true }
                else p.2)) } }
    else if i = 0x30 ∨ i = 0x31 ∨ i = 0x32 ∨ i = 0x33 then
      if s.cmp.frozen then { s with cmp := { s.cmp with frozen := false, votes := [], rearm := true } } else s
    else s

/-- A C0 event is logged, or counted where its source was logged less than 1 ms ago (R374). One that no lane will log is acknowledged at
once (assumption 143). -/
def State.note (s : State) (e : Event) (it : LogItem) : State :=
  let c := s.coll e.coll
  let p := c.src e.src
  let t := s.collTime e.coll
  let soon : Bool := match p.logged with
    | some t0 => decide (t < t0 + 1000000)
    | none => false
  if soon then
    (s.setColl e.coll (c.setSrc e.src { p with reps := min 65535 (p.reps + 1), inst := e.inst })).release e.coll e.src
  else
    let takes := s.willLog e.coll
    let s := (s.setColl e.coll (c.setSrc e.src { p with logged := some t, inst := e.inst })).logEvent it
    if takes then s else s.release e.coll e.src

/-- The collector of an event is running: Skink, or a lane out of reset. -/
def State.collRuns (s : State) : Coll → Bool
  | .skink => true
  | .lane l => !(s.lane l).reset

/-- An event whose source has no pending event is entered, classed and logged, and its reaction is carried out (R358 to R374). -/
def State.enterFresh (s : State) (e : Event) (cfg c : Nat) (removed : Bool) : State :=
  if c = 0 then s.note e { ev := e, cfg := cfg, cls := 0, esc := false, removed := removed, after := s.sk.st, evid := 0, time := 0 }
  else
    let full := decide (64 ≤ s.tab.open_.length)
    let esc := decide (c ≤ 3) && (full || s.escalates e c)
    let cls := if esc then c + 1 else c
    let evid := if full then 0 else s.tab.evidNext
    let t := s.tab
    let s := { s with tab :=
      if full then { t with ovf := true }
      else { t with open_ := t.open_ ++ [({ evid := evid, coll := e.coll, src := e.src, cls := cls, esc := esc } : TabEntry)], evidNext := evidAfter t.evidNext } }
    let k := s.coll e.coll
    let s := if s.collRuns e.coll then
      s.setColl e.coll (k.setSrc e.src { k.src e.src with
        cls := cls, reps := 0, inst := e.inst, evid := evid, res := [(e.res, e.inst)], logged := some (s.collTime e.coll) })
      else s
    let s2 := s.react e cls
    s2.logEvent { ev := e, cfg := cfg, cls := cls, esc := esc, removed := false, after := s2.sk.st, evid := evid, time := 0 }

/-- A further event of a source that is pending: its reaction and its count only (R360). -/
def State.repeatOf (s : State) (e : Event) (c : Nat) : State :=
  let k := s.coll e.coll
  let p := k.src e.src
  let s := s.setColl e.coll (k.setSrc e.src { p with
    reps := min 65535 (p.reps + 1), inst := e.inst, res := if p.res.contains (e.res, e.inst) then p.res else p.res ++ [(e.res, e.inst)] })
  s.react e c

/-- An event is entered (R358). -/
def State.enter (s : State) (e : Event) : State :=
  let cfg := s.classNow e.coll e.src
  let c := s.classOf e
  if s.resRestoring e.res ∧ 2 ≤ c then (s.enterFresh e cfg 0 true).axoFail
  else if (e.restoring ∨ s.resRemoved e.res) ∧ ¬ (s.coll e.coll).fault then s.enterFresh e cfg 0 true
  else if ((s.coll e.coll).src e.src).cls ≠ 0 then s.repeatOf e c
  else s.enterFresh e cfg c false

/-- FAULT_EVENT_ENTRY (R358): the next event is entered. -/
def execFaultEventEntry (s : State) : Host.Outcome State Fault Refusal :=
  match pickEvent s.evq with
  | none => .next s
  | some (e, q) => .next (({ s with evq := q }).enter e)

/-! The log in MRAM (R369 to R375) -/

/-- The address of log entry i (R369). -/
def logAddr (i : Nat) : Nat := 0x13fc0000 + 32 * i

/-- The index written after index i: the ring runs from 1,024 to 8,191 (R370). -/
def logNext (i : Nat) : Nat := if i + 1 < 8192 then i + 1 else 1024

/-- Words 0 to 6 of a log entry (R371). -/
def logWords (it : LogItem) (seq time : Nat) : List Nat :=
  let e := it.ev
  [seq, time % 2 ^ 32, time / 2 ^ 32, e.cycle,
   e.src + collNo e.coll * 2 ^ 9 + it.cfg * 2 ^ 12 + it.cls * 2 ^ 15 + (if it.esc then 2 ^ 18 else 0) +
     (if e.forced then 2 ^ 19 else 0) + (if it.removed then 2 ^ 20 else 0) + e.inst * 2 ^ 24,
   e.res + e.before.code * 2 ^ 8 + it.after.code * 2 ^ 12 + it.evid * 2 ^ 16, e.detail]

/-- The 32 bytes of a log entry, its CRC last. -/
def logBytes (it : LogItem) (seq time : Nat) : List Byte :=
  let bs := (logWords it seq time).flatMap (natLe 4)
  bs ++ natLe 4 (crc32 bs).toNat

/-- Bytes that the specification leaves open, from address a up. -/
def State.freeBytes (s : State) (l a : Nat) : Nat → State
  | 0 => s
  | n + 1 =>
    let (x, s) := s.takeNat
    (s.wr8 l a (BitVec.ofNat 8 x)).freeBytes l (a + 1) n

/-- The log's position after an entry at index i, which is valid or not. -/
def State.logStep (s : State) (l : Lane) (i : Nat) (valid : Bool) : State :=
  let b := fcB l
  let s := (s.fs b FC.LOGHEAD_HEAD (logNext i)).fs b FC.LOGSEQ_SEQ (s.fg b FC.LOGSEQ_SEQ + 1)
  let s := if i = 1023 ∧ valid then s.fs b FC.STATUS_FROZENFULL 1 else s
  if i = 1024 ∧ 1025 ≤ s.fg b FC.LOGSEQ_SEQ - 1 then s.fs b FC.STATUS_WRAPPED 1 else s

/-- LOG_WRITE (R369, R375): the first waiting event is written at the head of the log. Read back wrong, the entry's bytes are
open; it is written again at the next index and 0x001 is raised. A C0 event is acknowledged here (R361). -/
def execLogWrite (l : Lane) (ok : Bool) (s : State) : Host.Outcome State Fault Refusal :=
  let c := s.coll (.lane l)
  match c.queue with
  | [] => .next s
  | it :: q =>
    if (s.lane l).reset || !s.fb (fcB l) FC.STATUS_LOGREADY then .next s
    else
      let s := s.setColl (.lane l) { c with queue := q }
      let put := fun (s : State) =>
        let i := s.fg (fcB l) FC.LOGHEAD_HEAD
        (s.wrBytes (laneNo l) (logAddr i) (logBytes it (s.fg (fcB l) FC.LOGSEQ_SEQ) (s.utime l))).logStep l i true
      let s := if ok then put s
        else
          let i := s.fg (fcB l) FC.LOGHEAD_HEAD
          (put ((s.freeBytes (laneNo l) (logAddr i) 32).logStep l i false)).raiseL l 0x1 255
      let s := s.erLogged l it
      .next (if it.cls = 0 then s.release it.ev.coll it.ev.src else s)

/-- Entry i of lane l's log carries a correct CRC. -/
def State.logOk (s : State) (l i : Nat) : Bool :=
  let bs := s.rdBytes l (logAddr i) 32
  leNat (bs.drop 28) == (crc32 (bs.take 28)).toNat

/-- SEQ of entry i. -/
def State.logSeq (s : State) (l i : Nat) : Nat := leNat (s.rdBytes l (logAddr i) 4)

/-- Entry j follows entry i in the log (R373). -/
def State.logFollows (s : State) (l i j : Nat) : Bool := s.logOk l j && s.logSeq l j == (s.logSeq l i + 1) % 2 ^ 32

/-- The last entry written, from entry i on, within n entries. -/
def State.logLast (s : State) (l : Nat) : Nat → Nat → Nat
  | 0, i => i
  | n + 1, i => if s.logFollows l i (logNext i) then s.logLast l n (logNext i) else i

/-- Where writing resumes: the index and SEQ of the next entry (R373). The frozen region is searched first; once the ring has
been overwritten its entries no longer follow entry 1,023, and the ring is searched by itself. -/
def State.logResume (s : State) (l : Nat) : Nat × Nat :=
  if !s.logOk l 0 then (0, 0)
  else
    let i := s.logLast l 8191 0
    let i := if i = 1023 then
        if s.logOk l 1024 then s.logLast l 7167 1024 else if s.logOk l 8191 then 8191 else 1023
      else i
    (logNext i, (s.logSeq l i + 1) % 2 ^ 32)

/-- LOG_SCAN_DONE (R373): the collector finds the last entry, and LOGREADY reads 1. -/
def execLogScanDone (l : Lane) (s : State) : Host.Outcome State Fault Refusal :=
  if (s.lane l).reset then .next s
  else
    let n := laneNo l
    let r := s.logResume n
    let b := fcB l
    let s1 := ((s.fs b FC.LOGHEAD_HEAD r.1).fs b FC.LOGSEQ_SEQ r.2).fs b FC.STATUS_LOGREADY 1
    let s1 := s1.fs b FC.STATUS_FROZENFULL (if s.logOk n 1023 then 1 else 0)
    .next (s1.fs b FC.STATUS_WRAPPED
      (if s.logOk n 1023 && s.logOk n 1024 && !s.logFollows n 1023 1024 then 1 else 0))

/-! Acknowledgement, forcing and classes -/

/-- Pending source i of lane l is acknowledged (R361). -/
def State.ackLane (s : State) (l : Lane) (i : Nat) : State :=
  let c := s.coll (.lane l)
  let p := c.src i
  if p.cls = 0 then s
  else
    let s := s.setColl (.lane l) (c.setSrc i { p with cls := 0, reps := 0, res := [], evid := 0 })
    let s := { s with tab := { s.tab with open_ := s.tab.open_.filter (fun t => t.evid != p.evid || t.coll != Coll.lane l) } }
    s.release (.lane l) i

/-- The numbers of the bits of v that are set, among the lowest n, ascending. -/
def bitsOf (n : Nat) (v : Word) : List Nat := (List.range n).filter (fun b => v.getLsbD b)

/-- FC_PEND_ACK (R361): every pending source whose bit is written 1 is acknowledged. -/
def execFcPendAck (l : Lane) (i : Fin 16) (v : Word) (s : State) : Host.Outcome State Fault Refusal :=
  .next (if (s.lane l).reset then s else (bitsOf 32 v).foldl (fun s b => s.ackLane l (32 * i.val + b)) s)

/-- The resource that a forced lane source names: its lane, the lane's gate supply for 0x0E4, or none for the sources that name a
port, a path or a controller by their instance (R356). -/
def forcedRes (l : Lane) (i : Nat) : Nat :=
  if i = 0xe4 ∧ l ≠ .W then 6 + laneNo l
  else if (0xd0 ≤ i ∧ i ≤ 0xd8) ∨ i = 0x181 ∨ i = 0x189 ∨ i = 0x18b ∨ (0x1c0 ≤ i ∧ i ≤ 0x1ca) then 0 else resLane l

/-- FC_FORCE_WRITE (R368): every source whose bit is written 1 raises one forced event with instance 0xFF. -/
def execFcForceWrite (l : Lane) (i : Fin 16) (v : Word) (s : State) : Host.Outcome State Fault Refusal :=
  .next ((bitsOf 32 v).foldl
    (fun s b => s.raise { coll := .lane l, src := 32 * i.val + b, res := forcedRes l (32 * i.val + b), forced := true }) s)

/-- FC_CLASS_WRITE (R357): the eight codes of FC.CLASSi are set, or the write is refused where one is above 5. Read-only once
the unit has left Chorus. -/
def execFcClassWrite (l : Lane) (i : Fin 64) (v : Word) (s : State) : Host.Outcome State Fault Refusal :=
  .next (
    if (s.lane l).reset || (s.lane l).locked then s
    else if (List.range 8).all (fun j => decide (v.toNat / 16 ^ j % 16 ≤ 5)) then s.setReg (fcB l + 0x100 + 4 * i.val) v
    else s.raiseL l 0x2 255)

/-- FC_LOGCLR (R370): in Bench, every entry is erased to 0 and SEQ is 0. -/
def execFcLogclr (l : Lane) (v : Word) (s : State) : Host.Outcome State Fault Refusal :=
  .next (
    if v.getLsbD 0 && s.sk.st == .bench && !(s.lane l).reset then
      let b := fcB l
      let s := { s with mem := famClear s.mem (key (laneNo l) 0x13fc0000) (key (laneNo l) 0x14000000) }
      (((s.fs b FC.LOGHEAD_HEAD 0).fs b FC.LOGSEQ_SEQ 0).fs b FC.STATUS_FROZENFULL 0).fs b FC.STATUS_WRAPPED 0
    else s)

/-- The drive lanes whose SKFC writes must agree: running, not removed, not BROKEN (R363). -/
def State.ackLanes (s : State) : List Lane :=
  [Lane.A, Lane.B].filter (fun l => s.running l && !s.isRemoved l && !(s.lane l).broken)

/-- The resource that a forced Skink source names: the lane, feed, W or comparator that its table fixes, or none (R326, R355,
R356). -/
def skForcedRes (i : Nat) : Nat :=
  if 0x20 ≤ i ∧ i ≤ 0x22 then i - 0x1f
  else if i = 0x32 ∨ i = 0x36 ∨ i = 0x37 then 8
  else if i = 0x38 then 3
  else if i = 0x40 ∨ i = 0x41 then i - 0x3c
  else 0

/-- An agreed SKFC write takes effect: a Skink source is raised, the pending event of one is acknowledged, or the entry of a lane
source is closed and no more (R363). -/
def State.skfcAct (s : State) (force : Bool) (v : Nat) : State :=
  if force then s.raise { coll := .skink, src := v, res := skForcedRes v, forced := true }
  else
    match s.tab.open_.find? (fun t => t.evid == v) with
    | none => s
    | some t =>
      let s := { s with tab := { s.tab with open_ := s.tab.open_.filter (fun u => u.evid != v) } }
      if t.coll = .skink then
        let c := s.coll .skink
        (s.setColl .skink (c.setSrc t.src { c.src t.src with cls := 0, reps := 0, res := [], evid := 0 })).release t.coll t.src
      else s

/-- A write of SKFC.ACK or SKFC.FORCE by lane l (R363). -/
def State.skfcWrite (s : State) (l : Lane) (force : Bool) (v : Nat) : State :=
  if l = .W ∨ (s.lane l).reset ∨ s.isRemoved l ∨ (s.lane l).broken then s
  else
    let w := s.tab.waits
    let others := s.ackLanes.filter (fun x => x != l)
    if s.sk.st = .bench ∨ others.all (fun x => w.any (fun a => a.force == force && a.value == v && a.lane == x)) then
      ({ s with tab := { s.tab with waits := w.filter (fun a => !(a.force == force && a.value == v)) } }).skfcAct force v
    else if w.any (fun a => a.force == force && a.value == v && a.lane == l) then s
    else { s with tab := { s.tab with waits := w ++ [⟨force, v, l, s.now⟩] } }

/-- SKFC_ACK (R363). -/
def execSkfcAck (l : Lane) (v : Word) (s : State) : Host.Outcome State Fault Refusal :=
  .next (s.skfcWrite l false (v.toNat % 2 ^ 16))

/-- SKFC_FORCE (R363, R368). -/
def execSkfcForce (l : Lane) (v : Word) (s : State) : Host.Outcome State Fault Refusal :=
  .next (s.skfcWrite l true (v.toNat % 2 ^ 7))

/-- SKFC_AGREE_TIMEOUT (R363): the oldest waiting write has waited 1 ms, and takes no effect. -/
def execSkfcAgreeTimeout (s : State) : Host.Outcome State Fault Refusal :=
  match s.tab.waits with
  | [] => .next s
  | a :: w =>
    .next (
      if s.past a.at_ (10 ^ 6) then
        { s with tab := { s.tab with waits := w.filter (fun x => !(x.force == a.force && x.value == a.value)) } }
      else s)

/-- COLLECTOR_CHECK_FAIL (R367): the collector's events are at least C3 from now on, and its own fault is raised. -/
def execCollectorCheckFail (c : Coll) (s : State) : Host.Outcome State Fault Refusal :=
  match c with
  | .lane l =>
    .next (if (s.lane l).reset then s
      else ((s.setColl c { s.coll c with fault := true }).fs (fcB l) FC.STATUS_REGFAULT 1).raiseL l 0x0 255)
  | .skink => .next ((s.setColl c { s.coll c with fault := true }).raiseS 0x0)

end Sys2Proof.Machine
end

