-- ==== Sys2Proof/Machine/Cell.lean ====
section
/-! DEFINITION. The phase cells: when a gate may be on, and what a cell detects (chapter 10). -/

namespace Sys2Proof.Machine

open Sys2Proof

/-- The owner of cell c is enabled (R270). -/
def State.ownerEn (s : State) (l : DLane) (c : Nat) : Bool :=
  if c < 18 then s.fb (axB l (c / 3)) AX.CTRL_EN else s.fb (ppB l ((c - 18) / 3)) PP.CTRL_EN

/-- The hold regulator that drives the cells of axis m in lane l, if any: in Safe Stop and Safe Hold alone (R51, R53). -/
def State.holdOf (s : State) (l : DLane) (m : Nat) : Option Nat :=
  let on := fun h =>
    let r := famGet (fun _ => ({} : HoldReg)) s.sf.regs h
    (s.sk.st == .safeStop || s.sk.st == .safeHold) && r.engaged && r.lane == l && s.cfgHoldMotor h == m
  if on 0 then some 0 else if on 1 then some 1 else none

/-- The position-hold regulator drives cell c. -/
def State.heldCell (s : State) (l : DLane) (c : Nat) : Bool := c < 18 && (s.holdOf l (c / 3)).isSome

/-- The cell is enabled: its owner is, or the regulator drives it (R270). -/
def State.cellEn (s : State) (l : DLane) (c : Nat) : Bool :=
  (s.running l.lane && s.ownerEn l c) || s.heldCell l c

/-- The unit's state lets lane l drive cells of its own (R36, R50, R58, R60). -/
def State.laneDrives (s : State) (l : DLane) : Bool :=
  s.running l.lane && !s.isRemoved l.lane && !(s.lane l.lane).halted && (s.lane l.lane).benchOff.isEmpty && s.sk.st.active

/-- The axis's CTRL.EN in a running lane. -/
def State.axOn (s : State) (l : DLane) (n : Nat) : Bool := s.running l.lane && s.fb (axB l n) AX.CTRL_EN

/-- The port's CTRL.EN in a running lane. -/
def State.ppOn (s : State) (l : DLane) (p : Nat) : Bool := s.running l.lane && s.fb (ppB l p) PP.CTRL_EN

/-- A fault reaction holds the cells of axis n, or its own state keeps them off (R31, R141 to R143, R155). -/
def State.axisBlocked (s : State) (l : DLane) (n : Nat) : Bool :=
  let x := s.axis l n
  x.tripped || x.ocOff || x.busLow || s.fg (axB l n) AX.STATUS_ALIGN == 0 || s.cmp.held.contains ⟨1, n⟩

/-- Nothing keeps the cells of the axis off (R271, condition 7). -/
def State.axDrives (s : State) (l : DLane) (n : Nat) : Bool := s.axOn l n && s.laneDrives l && !s.axisBlocked l n

/-- Nothing keeps the cells of the port off. -/
def State.ppDrives (s : State) (l : DLane) (p : Nat) : Bool := s.ppOn l p && s.laneDrives l && !(s.pp l p).busLow

/-- Nothing keeps the source of cell c from switching it: the regulator, but for a peak trip (R142, R347), or the owner. -/
def State.cellFree (s : State) (l : DLane) (c : Nat) : Bool :=
  if s.heldCell l c then !(s.axis l (c / 3)).tripped
  else if c < 18 then s.axDrives l (c / 3) else s.ppDrives l ((c - 18) / 3)

/-- A short is latched in a cell of the owner of cell c (R280). -/
def State.ownerShort (s : State) (l : DLane) (c : Nat) : Bool :=
  let b := c / 3 * 3
  s.fb (cellB l b) PC.CELL_STATUS_SHORT || s.fb (cellB l (b + 1)) PC.CELL_STATUS_SHORT || s.fb (cellB l (b + 2)) PC.CELL_STATUS_SHORT

/-- Nothing of the cell or the lane's gate supply holds the switch off (R271, conditions 5 and 6; R274, R277, R278). -/
def State.cellOk (s : State) (l : DLane) (c : Nat) (hs : Bool) : Bool :=
  let b := cellB l c
  s.cellLogic l && s.vgdOk l && !(s.lane l.lane).vgdHeld && !s.ownerShort l c &&
  !s.fb b PC.CELL_STATUS_STUCK && !(if hs then s.fb b PC.CELL_STATUS_HSUV else s.fb b PC.CELL_STATUS_LSUV)

/-- The switch is commanded on and held off by nothing but the waits of conditions 3 and 4 of R271: it is on or turning on. -/
def State.gateTurns (s : State) (l : DLane) (c : Nat) (hs : Bool) : Bool :=
  let x := s.cell l c
  (if hs then x.cmdH && !x.cmdL else x.cmdL && !x.cmdH) && s.cellOk l c hs && s.cellFree l c

/-- DEADT of the owner of cell c, in ns. -/
def State.deadTime (s : State) (l : DLane) (c : Nat) : Nat :=
  5 * (if c < 18 then s.fg (axB l (c / 3)) AX.PWMCFG_DEADT else s.fg (ppB l ((c - 18) / 3)) PP.PWMCFG_DEADT)

/-- The gate of a switch that was last commanded off at a time has been sensed off (R271, condition 4). The delay is free. -/
def State.sensedOff (s : State) (l : DLane) (c : Nat) (hs : Bool) : Bool :=
  let x := s.cell l c
  match (if hs then x.downH else x.downL) with
  | none => true
  | some t => decide (t + Config.gateDelay (lk (dno l) (2 * c + (if hs then 0 else 1))) t ≤ s.now)

/-- The switch is on: every condition of R271 holds. -/
def State.gateOn (s : State) (l : DLane) (c : Nat) (hs : Bool) : Bool :=
  let x := s.cell l c
  s.gateTurns l c hs && decide ((if hs then x.upH else x.upL) + s.deadTime l c ≤ s.now) && s.sensedOff l c (!hs)

/-- CELL_SHORT (R280): a switch that is on or turning on has shorted; the short is latched, which holds the owner's gates off, and
0x0E1 raised. -/
def execCellShort (l : DLane) (c : Fin 24) (hs : Bool) (s : State) : Host.Outcome State Fault Refusal :=
  let b := cellB l c.val
  if !(s.cellEn l c.val && s.gateTurns l c.val hs) then .next s
  else
    let s := ((s.fs b PC.CELL_STATUS_SHORT 1).fs b PC.CELL_EVT_SHORT 1).fInc b PC.CELL_COUNT_SHORT
    .next (s.raiseR l.lane 0xe1 c.val (cellRes l c.val))

/-- PC_GATE_STUCK (R274): a switch commanded off is not sensed off in time; the cell keeps both gates off. -/
def execPcGateStuck (l : DLane) (c : Fin 24) (hs : Bool) (s : State) : Host.Outcome State Fault Refusal :=
  let b := cellB l c.val
  if !s.cellEn l c.val || s.gateTurns l c.val hs then .next s
  else
    let s := (s.fs b PC.CELL_STATUS_STUCK 1).fs b PC.CELL_EVT_STUCK 1
    .next (s.raiseR l.lane 0xe6 c.val (cellRes l c.val))

/-- PC_VGD_UVLO (R277): every cell of the lane is off until the supply is back and 0x0E4, which names the lane's gate supply, has been
acknowledged. -/
def execPcVgdUvlo (l : DLane) (s : State) : Host.Outcome State Fault Refusal :=
  if !(s.lane l.lane).vgdUp then .next s
  else
    let s := s.setLane l.lane { s.lane l.lane with vgdUp := false, vgdHeld := s.running l.lane }
    if !s.running l.lane then .next s
    else
      let b := pcB l
      let s := (s.fs b PC.EVT_VGD_UVLO 1).fInc b PC.COUNT_VGDUV
      .next (s.raiseR l.lane 0xe4 255 (6 + dno l))

/-- CELL_UVLO (R278): the switch that the low supply feeds is held off. -/
def execCellUvlo (l : DLane) (c : Fin 24) (hs : Bool) (s : State) : Host.Outcome State Fault Refusal :=
  if !s.cellEn l c.val then .next s
  else
    let b := cellB l c.val
    let s := s.fInc b PC.CELL_COUNT_UVLO
    if hs then
      .next (((s.fs b PC.CELL_STATUS_HSUV 1).fs b PC.CELL_EVT_HSUV 1).raiseR l.lane 0xe2 c.val (cellRes l c.val))
    else
      .next (((s.fs b PC.CELL_STATUS_LSUV 1).fs b PC.CELL_EVT_LSUV 1).raiseR l.lane 0xe3 c.val (cellRes l c.val))

/-- UVLO_RECOVER (R277, R278): a cell's supply, or VGD where none is named, is above its threshold and hysteresis again. -/
def execUvloRecover (l : DLane) (sw : Option (Fin 24 × Bool)) (s : State) : Host.Outcome State Fault Refusal :=
  match sw with
  | some (c, hs) =>
    .next (if s.running l.lane then
        s.fs (cellB l c.val) (if hs then PC.CELL_STATUS_HSUV else PC.CELL_STATUS_LSUV) 0
      else s)
  | none =>
    if !(s.lane l.lane).rails then .next s
    else
      .next (s.setLane l.lane { s.lane l.lane with vgdUp := true })

/-- PC_CP_LIMIT (R275): the pump has been in limit for 1 ms. No row tells when it leaves its limit: SUPSTAT.CPLIM is free
(assumption 14). -/
def execPcCpLimit (l : DLane) (s : State) : Host.Outcome State Fault Refusal :=
  if !s.running l.lane then .next s
  else
    let b := pcB l
    .next (((s.fs b PC.EVT_CP_LIMIT 1).fInc b PC.COUNT_CPLIM).raiseL l.lane 0xe5 255)

/-- EDGE_MEASURE (R283): the edge of a switch whose turn-on has started is stored, saturated at 255 ns. The edge itself says that the
waits of R271 are over. -/
def execEdgeMeasure (l : DLane) (c : Fin 24) (hs : Bool) (ns : Nat) (s : State) : Host.Outcome State Fault Refusal :=
  let b := cellB l c.val
  if !(s.cellEn l c.val && s.gateTurns l c.val hs && s.running l.lane) then .next s
  else
    let t := min 255 ns
    let x := s.cell l c.val
    .next (
      if hs then (s.fs b PC.CELL_TRANS_RISE t).setCell l c.val { x with sumH := x.sumH + t, numH := x.numH + 1 }
      else (s.fs b PC.CELL_TRANS_FALL t).setCell l c.val { x with sumL := x.sumL + t, numL := x.numL + 1 })

/-- The law of R284 for one switch: the new code, and whether the law would pass a limit. -/
def gateLaw (code lo hi target band sum num : Nat) : Nat × Bool :=
  if num = 0 then (code, false)
  else
    let m := (roundDiv sum num).toNat
    if target + band < m then (min (code + 1) hi, decide (hi ≤ code))
    else if m + band < target then (max (code - 1) lo, decide (code ≤ lo))
    else (code, false)

/-- The gate codes of cell c at a beacon, from the edges measured since the last (R284, R285). -/
def State.cellBeacon (s : State) (l : DLane) (c : Nat) : State :=
  let b := cellB l c
  let x := s.cell l c
  let clear : CellSt := { x with sumH := 0, numH := 0, sumL := 0, numL := 0 }
  if !(s.running l.lane && s.fb b PC.CELL_CFG_ADAPT) then s.setCell l c { clear with limH := 0, limL := 0 }
  else
    let law := gateLaw
    let g := fun f => s.fg b f
    let h := law (g PC.CELL_STATUS_HSCODE) (g PC.CELL_GATE_CODEMIN) (g PC.CELL_GATE_CODEMAX) (g PC.CELL_GATE_TTARGET)
      (g PC.CELL_CFG_TBAND) x.sumH x.numH
    let w := law (g PC.CELL_STATUS_LSCODE) (g PC.CELL_GATE_CODEMIN) (g PC.CELL_GATE_CODEMAX) (g PC.CELL_GATE_TTARGET)
      (g PC.CELL_CFG_TBAND) x.sumL x.numL
    let atH := x.atH && h.1 == g PC.CELL_STATUS_HSCODE
    let atL := x.atL && w.1 == g PC.CELL_STATUS_LSCODE
    let s := (s.fs b PC.CELL_STATUS_HSCODE h.1).fs b PC.CELL_STATUS_LSCODE w.1
    let s := s.fs b PC.CELL_STATUS_ATLIM (if atH || atL then 1 else 0)
    s.setCell l c { clear with
      limH := if h.2 then x.limH + 1 else 0, limL := if w.2 then x.limL + 1 else 0, atH := atH, atL := atL }

/-- PC_ADAPT_LIMIT (R285): the law has met a limit at 64 consecutive beacons for a code; once until that code moves. -/
def execPcAdaptLimit (l : DLane) (c : Fin 24) (s : State) : Host.Outcome State Fault Refusal :=
  let b := cellB l c.val
  let x := s.cell l c.val
  let dueH := decide (64 ≤ x.limH) && !x.atH
  let dueL := decide (64 ≤ x.limL) && !x.atL
  if !(dueH || dueL) || !s.cellEn l c.val || !s.running l.lane then .next s
  else
    let s := s.setCell l c.val { x with atH := x.atH || dueH, atL := x.atL || dueL }
    .next (((s.fs b PC.CELL_STATUS_ATLIM 1).fs b PC.CELL_EVT_ATLIM 1).raiseR l.lane 0xe7 c.val (cellRes l c.val))

/-- A word for PC.SUPCFG, PC.CELLc_CFG or PC.CELLc_GATE keeps every range and condition of R289. -/
def pcCfgOk (ofs : Nat) (v : Word) : Bool :=
  let f := fun lo w => v.toNat / 2 ^ lo % 2 ^ w
  if ofs = 0 then within (f 0 8) 80 120 && within (f 8 8) 60 100 && within (f 16 4) 1 15 && within (f 20 4) 1 15
  else if ofs % 32 = 0 then
    within (f 0 7) 1 100 && within (f 8 8) 1 255 && within (f 16 4) 1 15 && within (f 28 4) 1 15 &&
    within (f 8 8 * f 0 7) 50 2400
  else f 0 5 ≤ f 8 5 && within (f 24 8) 10 250

/-- The offset is that of a configuration register of the block. -/
def pcCfgAt (ofs : Nat) : Bool :=
  ofs == 0 || (0x100 ≤ ofs && ofs < 0x400 && (ofs % 32 == 0 || ofs % 32 == 4))

/-- PC_CFG_WRITE (R289): the write is applied, or refused with 0x0E8. Read-only once the unit has left Chorus. -/
def execPcCfgWrite (l : DLane) (ofs : BitVec 12) (v : Word) (s : State) : Host.Outcome State Fault Refusal :=
  if !s.running l.lane || !pcCfgAt ofs.toNat || (s.lane l.lane).locked then .next s
  else if pcCfgOk ofs.toNat v then .next (s.rowPut l.lane false (0x40a00000 + ofs.toNat) v)
  else .next ((s.fs (pcB l) PC.EVT_CFG_INVALID 1).raiseL l.lane 0xe8 255)

end Sys2Proof.Machine
end

