-- ==== Sys2Proof/Machine/Angle.lean ====
section
/-! DEFINITION. The electrical angle of an axis, and its alignment to the Hall edges (R153 to R157). -/

namespace Sys2Proof.Machine

open Sys2Proof

/-- The axis's alignment state is set; NONE keeps its cells off (R155, `axisBlocked`). -/
def State.setAlign (s : State) (l : DLane) (n a : Nat) : State := s.fs (axB l n) AX.STATUS_ALIGN a

/-- The electrical speed in units of 2^-64 turn per second: counts per second times PP / CPR (R187). -/
def State.elecSpeed (s : State) (l : DLane) (n : Nat) (num : Int) (den : Nat) : Int :=
  let cpr := s.fg (axB l n) AX.CPR_CPR
  if cpr = 0 ∨ den = 0 then 0 else roundDiv (num * s.fg (axB l n) AX.COMM_PP * 2 ^ 64) (den * cpr)

/-- The axis takes its speed at the last sample point (R187). -/
def State.sampleSpeed (s : State) (l : DLane) (n : Nat) : State :=
  let f := s.fbu l n
  s.setAxis l n { s.axis l n with omS := s.elecSpeed l n f.spdNum f.spdDen }

/-- The axis takes its angle and speed at a sample point, t being the position there; the update of the window centred on it uses them
(R144, R153). With SRC = 1, `p` is the serial position there as a fraction; an SSI read has yet to give it. -/
def State.sampleAngle (s : State) (l : DLane) (n : Nat) (t : Int) (p : Option (Int × Nat)) : State :=
  let x := s.axis l n
  let sec := ((s.fbu l n).hall.bind hallSector)
  let th := match s.commSrc l n with
    | 0 => if s.fg (axB l n) AX.STATUS_ALIGN = 2 then s.quadAngle l n t else (sec.map (s.sectorMid l n)).getD x.theta
    | 1 => (p.map fun q => s.serialAngle l n q.1 q.2).getD x.theta
    | _ => (sec.map (s.sectorMid l n)).getD x.theta
  (s.setAxis l n { x with theta := th, thS := th }).sampleSpeed l n

/-- The distance of two angles, at most half a turn. -/
def angleDist (a b : Int) : Int :=
  let d := (a - b) % turn
  if d * 2 ≤ turn then d else turn - d

/-- A Hall edge whose angle θ misses by more than HALLTOL fails the check (R156). -/
def State.hallCheck (s : State) (l : DLane) (n : Nat) (th edge : Int) : State :=
  if (s.fg (axB l n) AX.COMM_HALLTOL : Int) * 2 ^ 16 < angleDist th edge then
    (s.fs (axB l n) AX.EVT_ALIGN_FAIL 1).raiseL l.lane 0xa3 n
  else s

/-- The angle of the edge between two adjacent sectors, entering sector k (R155). -/
def State.hallEdge (s : State) (l : DLane) (n k : Nat) (fwd : Bool) : Int :=
  (s.hallOfs l n + roundDiv ((if fwd then k else (k + 1) % 6) * turn) 6) % turn

/-- The accepted Hall code goes from `old` to `code`, with the position at t (R155, R156). -/
def State.axisHall (s : State) (l : DLane) (n : Nat) (old : Option Nat) (code : Nat) (t : Int) : State :=
  let b := axB l n
  let al := s.fg b AX.STATUS_ALIGN
  match s.commSrc l n with
  | 0 =>
    match hallSector code with
    | none => if al = 2 then s else s.setAlign l n 0
    | some k =>
      if al = 0 then s.setAlign l n 1
      else
        match (old.bind hallSector).bind (fun j => hallStep j k) with
        | none => s
        | some fwd =>
          let edge := s.hallEdge l n k fwd
          if al = 1 then
            (s.setAxis l n { s.axis l n with ce := t, ke := if fwd then k else (k + 1) % 6, base := none, theta := edge }).setAlign l n 2
          else s.hallCheck l n (s.quadAngle l n t) edge
  | 1 =>
    if al ≠ 2 then s
    else
      match (hallSector code).bind fun k => ((old.bind hallSector).bind fun j => hallStep j k).map fun fwd => s.hallEdge l n k fwd with
      | some edge => s.hallCheck l n (s.axis l n).theta edge
      | none => s
  | _ => s.setAlign l n (if (hallSector code).isSome then 1 else 0)

/-- A serial read has been judged (R155, R157): a valid one aligns the axis, and the third in a row that is missing returns it to
NONE. -/
def State.axisRead (s : State) (l : DLane) (n : Nat) (valid : Bool) : State :=
  if s.commSrc l n ≠ 1 then s
  else
    let x := s.axis l n
    if valid then (s.setAxis l n { x with missed := 0 }).setAlign l n 2
    else
      let s := s.setAxis l n { x with missed := x.missed + 1 }
      if x.missed < 2 then s else s.setAlign l n 0

/-- The angle that an SSI read gives at its sample point: that of position p, or, where the read was missing, the last angle advanced by
the speed over `ns` nanoseconds (R153, R157). -/
def State.axisSsi (s : State) (l : DLane) (n : Nat) (p : Option Int) (ns : Nat) : State :=
  if s.commSrc l n ≠ 1 then s
  else
    let x := s.axis l n
    let th := match p with
      | some p => s.serialAngle l n p 1
      | none => (x.serial + roundDiv (x.omS * ns * turn) (2 ^ 64 * 10 ^ 9)) % turn
    s.setAxis l n { x with serial := th, theta := th, thS := th }

end Sys2Proof.Machine
end

