-- ==== Sys2Proof/Machine/Skink.lean ====
section
/-! DEFINITION. Skink's safe inputs and outputs, brake ramp, requests, safe data and position hold (chapter 12). -/

namespace Sys2Proof.Machine

open Sys2Proof

/-- Skink is powered (R40, R520). -/
def State.skinkOn (s : State) : Bool := s.sk.st != .off && s.sk.st != .hibernate

/-! Safe inputs (R333 to R336) -/

/-- SI_LEVEL_ACCEPT (R333 to R335, R521): a contact's level is accepted. -/
def execSiLevelAccept (i : Fin 16) (contactB closed : Bool) (s : State) : Host.Outcome State Fault Refusal :=
  if !s.skinkOn then .next s
  else
    let m := s.cfgSiMode i.val
    let x := s.si i.val
    let x := (if contactB then { x with b := closed } else { x with a := closed }).judge m s.now
    let x := if x.release && !x.a && !healthyB m x.b then { x with latch := false, release := false } else x
    let x := { x with state := x.eval m }
    let was := (s.si i.val).state
    let s := s.setSi i.val x
    let s := if was ∧ ¬ x.state ∧ s.cfgSiRole i.val = 1 ∧ s.sk.st.active then
        s.raiseS 0x59 i.val (0x50 + i.val)
      else s
    .next (
      if was ≠ x.state ∧ s.sk.st = .park ∧ s.fb hibB HIB.WAKECFG_SIWAKE then s.wake 5 else s)

/-- SI_DISCREPANCY (R334): the contacts have disagreed for SI_DISC; the state is latched at 0. -/
def execSiDiscrepancy (i : Fin 16) (s : State) : Host.Outcome State Fault Refusal :=
  let x := s.si i.val
  match x.disagree with
  | some t =>
    if s.skinkOn && s.cfgSiMode i.val != 0 && !x.discRaised && s.past t (s.cfgSiDisc i.val * 10 ^ 6) then
      let x := { x with discRaised := true, latch := true, state := false, release := false }
      .next ((s.setSi i.val x).raiseS 0x58 i.val (0x50 + i.val))
    else .next s
  | none => .next s

/-- SI_VIEW_DIFF (R336): a difference between a lane's view and Skink's has lasted SI_DISC. -/
def execSiViewDiff (l : Lane) (i : Fin 16) (s : State) : Host.Outcome State Fault Refusal :=
  let x := s.si i.val
  match x.diff.lookup l with
  | some t =>
    if s.skinkOn && !x.diffRaised.contains l && s.past t (s.cfgSiDisc i.val * 10 ^ 6) then
      .next ((s.setSi i.val { x with diffRaised := l :: x.diffRaised }).raiseS 0x5a i.val (resLane l))
    else .next s
  | none => .next s

/-! Safe outputs and the ramp (R337 to R340) -/

def State.so (s : State) (i : Nat) : SafeOut := famGet (fun _ => {}) s.sf.so i
def State.setSo (s : State) (i : Nat) (x : SafeOut) : State :=
  { s with sf := { s.sf with so := famSet (fun _ => {}) s.sf.so i x } }

/-- The ramp pattern is in its on part at the present time (R340). -/
def State.rampHigh (s : State) : Bool :=
  s.sf.rampDone ||
  decide ((s.now - s.sf.rampAt) * 100 * s.cfgRampTime < s.rampDuty s.sf.rampJ * s.cfgRampPer * 1000000)

/-- Output i follows the ramp pattern (R337, R340). -/
def State.ramping (s : State) (i : Nat) : Bool := s.sk.st == .safeStop && s.sf.rampOn && s.cfgSoRamp i

/-- The level that Skink commands on output i (R337, R338). -/
def State.soLevel (s : State) (i : Nat) : Bool :=
  let x := s.so i
  s.cfgSoEn i && !x.failed && !x.inTest && (if s.ramping i then s.rampHigh else x.on)

/-- A request for output i takes effect (R337): a change of level ends an off-pulse test (R339); a failed output ignores it. -/
def State.soApply (s : State) (i : Nat) (on : Bool) : State :=
  let x := s.so i
  if !s.cfgSoEn i || x.failed then s
  else s.setSo i { x with req := on, on := on, inTest := x.inTest && x.on == on }

/-- A readback check of output i fails (R338). In Safe Hold, the park output's failure keeps the regulator holding (R53). -/
def State.soFail (s : State) (i : Nat) : State :=
  let s := if s.sk.st = .safeHold ∧ s.cfgParkEn ∧ i = s.cfgParkSo ∧ ¬ s.sf.parkOff then { s with sf := { s.sf with parkBad := true } } else s
  (s.setSo i { s.so i with failed := true, inTest := false, on := false }).raiseS 0x5c i (0x60 + i)

/-- What the readback register shows after a check: between the thresholds, its bit is open (R539). -/
def State.soRb (s : State) (i : Nat) (rb : Readback) : State :=
  match rb with
  | .low => s.setSo i { s.so i with rb := false }
  | .high => s.setSo i { s.so i with rb := true }
  | .neither =>
    let (b, s) := s.takeBit
    s.setSo i { s.so i with rb := b }

/-- SO_OFFPULSE_START (R338, R340, R350): an off-pulse test of an output that is on begins; none runs on an output while its ramp goes
on. -/
def execSoOffpulseStart (i : Fin 16) (s : State) : Host.Outcome State Fault Refusal :=
  let x := s.so i.val
  let open_ := s.sk.st.active || (s.sk.st == .safeStop && !(s.ramping i.val && !s.sf.rampDone))
  if open_ && s.soLevel i.val then .next (s.setSo i.val { x with inTest := true }) else .next s

/-- SO_OFFPULSE_END (R338): the readback must be low; the output is on again. -/
def execSoOffpulseEnd (i : Fin 16) (rb : Readback) (s : State) : Host.Outcome State Fault Refusal :=
  let x := s.so i.val
  if !x.inTest then .next s
  else
    let s := (s.setSo i.val { x with inTest := false }).soRb i.val rb
    .next (if rb = .low then s else s.soFail i.val)

/-- SO_READBACK_CHECK (R338, R340, R53): the readback must match the commanded level. During the ramp the check falls at the end
of an on part or an off part. The park output's confirmed off level in Safe Hold is what R53 waits for. -/
def execSoReadbackCheck (i : Fin 16) (rb : Readback) (s : State) : Host.Outcome State Fault Refusal :=
  let x := s.so i.val
  if !s.skinkOn || !s.cfgSoEn i.val || x.inTest || x.failed || s.sk.st == .park || s.sk.st == .tadpole then .next s
  else
    let want : Readback := if s.soLevel i.val then .high else .low
    let s := s.soRb i.val rb
    if rb ≠ want then .next (s.soFail i.val)
    else if s.sk.st = .safeHold ∧ s.cfgParkEn ∧ i.val = s.cfgParkSo ∧ ¬ s.sf.parkBad then
      .next (if s.sf.parkOff then s else { s with sf := { s.sf with parkOff := true, parkAt := s.now } })
    else .next s

/-- RAMP_PERIOD (R340): the next period starts; the ramp is complete at the first whose duty is 100 %. Where period 0 is that one
already, the ramp is complete as it starts. -/
def execRampPeriod (s : State) : Host.Outcome State Fault Refusal :=
  if s.sk.st = .safeStop ∧ s.sf.rampDone then .next s.stopDone
  else if s.sk.st = .safeStop ∧ s.sf.rampOn then
    let j := s.sf.rampJ + 1
    let s := { s with sf := { s.sf with rampJ := j, rampAt := s.now, rampDone := s.rampFull j } }
    .next s.stopDone
  else .next s

/-- HOLD_RELEASE (R53): the regulator is released, and every cell is off. -/
def execHoldRelease (s : State) : Host.Outcome State Fault Refusal :=
  if s.sk.st = .safeHold ∧ (¬ s.cfgParkEn ∨ s.sf.parkOff) ∧ s.past s.sf.parkAt (500 * 10 ^ 6) then .next s.holdsOff else .next s

/-- SS_TIMEOUT (R40): Safe Stop ends, with SKINK.0x062 where standstill or the ramp is missing. -/
def execSsTimeout (s : State) : Host.Outcome State Fault Refusal :=
  .next (
    if s.sk.st ≠ .safeStop ∨ ¬ s.past s.sk.stopAt (s.cfgSsTimeout * 10 ^ 9) then s
    else if s.sk.still ∧ s.sf.rampDone then s.enterSafeHold
    else (s.raiseS 0x62).enterSafeHold)

/-- STANDSTILL_REACHED (R38, R40): the conditions have held for 200 ms. -/
def execStandstillReached (s : State) : Host.Outcome State Fault Refusal :=
  if s.sk.stillRun ∧ s.skinkOn ∧ s.past s.sk.stillAt (200 * 10 ^ 6) then .next ((s.setSk { s.sk with still := true }).stopDone) else .next s

/-- SPEED_CAP_EXCEEDED (R45): the run of an axis above its bound has lasted 100 ms. The instance is 6 for lane B plus the axis. -/
def execSpeedCapExceeded (l : DLane) (n : Fin 6) (s : State) : Host.Outcome State Fault Refusal :=
  let k := (dno l, n.val)
  match s.sk.speeding.lookup k with
  | some t =>
    if s.skinkOn && !s.sk.speedRaised.contains k && s.past t (100 * 10 ^ 6) then
      .next ((s.setSk { s.sk with speedRaised := k :: s.sk.speedRaised }).raiseS 0x44 (6 * dno l + n.val))
    else .next s
  | none => .next s

/-! Requests (R341, R342) -/

/-- An SO_REQ record acts (R341): a non-zero reserved bit refuses it. -/
def State.soReq (s : State) (r : OutRec) : State :=
  let w2 := r.pay.getD 0 0
  if w2.toNat < 2 ∧ (r.pay.drop 1).all (fun w => w == 0) then s.soApply r.index (w2.getLsbD 0)
  else s.raiseS 0x13

/-- A STATE_REQ record acts (R342): CANALIVE bits of running, non-removed drive lanes are noted, and its request waits for the
next beacon. -/
def State.stateReq (s : State) (r : OutRec) : State :=
  let w2 := (r.pay.getD 0 0).toNat
  let w3 := (r.pay.getD 1 0).toNat
  let req := w2 % 16
  if 64 ≤ w2 ∨ 256 ≤ w3 ∨ ¬ (r.pay.drop 2).all (fun w => w == 0) ∨ 6 ≤ req then s.raiseS 0x13
  else
    let live := (List.range 8).filter (fun c => w3.testBit c &&
      (let l : Lane := if c < 4 then .A else .B
       s.running l && !s.isRemoved l))
    let ca := live.foldl (fun f c => famIns f c s.sk.cycle) s.sk.canAlive
    s.setSk { s.sk with canAlive := ca, req := if req = 0 then s.sk.req else some ⟨req, w2 / 16 % 4⟩ }

/-- The request that waits is taken. -/
def State.reqDone (s : State) : State := s.setSk { s.sk with req := none }

/-- A request of code n waits. -/
def State.reqIs (s : State) (n : Nat) : Bool :=
  match s.sk.req with
  | some q => q.req == n
  | none => false

/-- Every pump port is stopped (R39, R263). -/
def State.pumpsStopped (s : State) : Bool :=
  [DLane.A, DLane.B].all (fun l => (List.range 2).all (fun p =>
    !s.running l.lane || !s.fb (ppB l p) PP.CTRL_EN || s.fb (ppB l p) PP.STATUS_STOPPED))

/-- Service or a Degraded kind. -/
def UState.serves : UState → Bool
  | .service | .singleA | .singleB | .noWitness | .cmpDegraded => true
  | _ => false

/-- STATE_REQ_PARK (R39, R40, R520): at standstill with the pumps stopped, in Service or Degraded. -/
def execStateReqPark (s : State) : Host.Outcome State Fault Refusal :=
  if !s.reqIs 1 then .next s
  else if s.sk.st.serves && s.sk.still && s.pumpsStopped then .next s.reqDone.enterPark
  else .next (s.reqDone.raiseS 0x13)

/-- STATE_REQ_HIBERNATE (R39, R40, R520): also from Safe Hold. -/
def execStateReqHibernate (s : State) : Host.Outcome State Fault Refusal :=
  if !s.reqIs 2 then .next s
  else if (s.sk.st.serves || s.sk.st == .safeHold) && s.sk.still && s.pumpsStopped then .next s.reqDone.enterHibernate
  else .next (s.reqDone.raiseS 0x13)

/-- STATE_REQ_AXOLOTL (R55): the lane named is the one removed, powered, not BROKEN, with fewer than 3 failed attempts. A targeted
test of that lane that still runs ends with its reset; the survivor's goes on. -/
def execStateReqAxolotl (s : State) : Host.Outcome State Fault Refusal :=
  match s.sk.req with
  | some q =>
    if q.req ≠ 3 then .next s
    else
      let l := laneOf q.lane
      let k := s.sk.st
      if (k = .singleA ∨ k = .singleB ∨ k = .noWitness) ∧ s.sk.still ∧ q.lane < 3 ∧ s.isRemoved l ∧ s.feedOf l ∧ ¬ (s.lane l).broken ∧ (s.lane l).attempts < 3 then
        let s := (s.holdReset l).setSk { s.sk with
          st := .axolotl, req := none, axo := some { lane := l, held := k, at_ := s.now }
          targeted := s.sk.targeted.filter fun t => t.1 != l }
        let c := s.cmp
        .next (if c.frozen then { s with cmp := { c with frozen := false, votes := [], rearm := true } } else s)
      else .next (s.reqDone.raiseS 0x13)
  | none => .next s

/-- STATE_REQ_RESTART (R40, R335, R342): Safe Hold with LOCKED clear, or Bench, goes to Tadpole, unless a stop or start-interlock
input reads 0. -/
def execStateReqRestart (s : State) : Host.Outcome State Fault Refusal :=
  if !s.reqIs 4 then .next s
  else
    let bar := (List.range 16).any (fun i =>
      (s.cfgSiRole i == 1 || s.cfgSiRole i == 2) && s.cfgSiMode i != 0 && !(s.si i).state)
    if (s.sk.st = .safeHold ∨ s.sk.st = .bench) ∧ ¬ s.sk.locked ∧ ¬ bar then .next s.reqDone.enterTadpole
    else .next (s.reqDone.raiseS 0x13)

/-- STATE_REQ_STOP (R342): SKINK.0x05B. -/
def execStateReqStop (s : State) : Host.Outcome State Fault Refusal :=
  if s.reqIs 5 then .next (s.reqDone.raiseS 0x5b) else .next s

/-! Safe data (R343 to R346) -/

def State.sde (s : State) (j : Nat) : SafeData := famGet (fun _ => {}) s.sf.sd j
def State.setSde (s : State) (j : Nat) (x : SafeData) : State :=
  { s with sf := { s.sf with sd := famSet (fun _ => {}) s.sf.sd j x } }

/-- The entries that a slot and a sender select (R343). -/
def State.sdFor (s : State) (slot sender : Nat) : List Nat :=
  (List.range (min 16 s.cfgSdn)).filter (fun j => s.cfgSdSlot j == slot && s.cfgSdSender j == sender)

/-- A single copy confirms: the unit is in a Degraded kind entered through a lost feed (R345). -/
def State.sdSingleMode (s : State) : Bool := s.sk.byFeed && s.kind.lost.isSome

/-- A sequence number advances on the last confirmed one, or there is none (R343, R552). -/
def seqAdvances (last : Option Nat) (q : Nat) : Bool :=
  match last with
  | none => true
  | some p => let d := (q + 65536 - p) % 65536; 1 ≤ d && d ≤ 32767

/-- Entry j confirms sequence number q: a pending copy of that number is paired. -/
def State.sdConfirm (s : State) (j q : Nat) (net : Nat) (single : Bool) : State :=
  let x := s.sde j
  let s := s.setSde j { x with
    copyA := x.copyA.filter (·.seq != q), copyB := x.copyB.filter (·.seq != q), last := some q, alive := true }
  let n := if single then net else 2
  ((s.sdNet 0 j q n).sdNet 1 j q n).sdNet 2 j q n

/-- Entry j receives a copy on a network (R343 to R345). -/
def State.sdCopy (s : State) (j net q len : Nat) (crc : Word) : State :=
  let x := s.sde j
  let own := if net = 0 then x.copyA else x.copyB
  let other := if net = 0 then x.copyB else x.copyA
  let c : SdCopy := { seq := q, len := len, crc := crc, at_ := s.now }
  if own.any (·.seq == q) then s
  else if 64 < len then s.raiseS 0x54 j (0x40 + j)
  else if !seqAdvances x.last q then s.raiseS 0x53 j (0x40 + j)
  else if s.sdSingleMode then s.sdConfirm j q net true
  else
    match other.find? fun y => y.seq == q && decide (s.now ≤ y.at_ + s.cfgSdWin) with
    | some y =>
      if y.len = len ∧ y.crc = crc then s.sdConfirm j q net false
      else (s.setSde j { x with copyA := x.copyA.erase y, copyB := x.copyB.erase y }).raiseS 0x51 j (0x40 + j)
    | none => s.setSde j (if net = 0 then { x with copyA := x.copyA ++ [c] } else { x with copyB := x.copyB ++ [c] })

/-- SD_COPY_RX (R343): a star passes a copy to Skink. -/
def execSdCopyRx (net : Fin 2) (slot : BitVec 10) (sender : BitVec 8) (seq : BitVec 16) (len : Nat) (crc : Word) (s : State) :
    Host.Outcome State Fault Refusal :=
  if !s.skinkOn then .next s
  else .next ((s.sdFor slot.toNat sender.toNat).foldl (fun s j => s.sdCopy j net.val seq.toNat len crc) s)

/-- SD_SINGLE (R344): no second copy within SDWIN of a pending one, which is dropped. -/
def execSdSingle (j : Fin 16) (s : State) : Host.Outcome State Fault Refusal :=
  let x := s.sde j.val
  match (x.copyA ++ x.copyB).find? fun y => decide (y.at_ + s.cfgSdWin < s.now) with
  | some y =>
    if s.skinkOn && decide (j.val < s.cfgSdn) then
      .next ((s.setSde j.val { x with copyA := x.copyA.erase y, copyB := x.copyB.erase y }).raiseS 0x52 j.val (0x40 + j.val))
    else .next s
  | none => .next s

/-- SD_TIMEOUT (R344, R552): the entry is dead until its next confirmation, and s_last is void. -/
def execSdTimeout (j : Fin 16) (s : State) : Host.Outcome State Fault Refusal :=
  if s.skinkOn && decide (j.val < s.cfgSdn) then
    .next ((s.setSde j.val { s.sde j.val with alive := false, last := none }).raiseS 0x55 j.val (0x40 + j.val))
  else .next s

/-- A command path is alive (R346). -/
def State.cmdAlive (s : State) : Bool :=
  (List.range 16).any (fun j => decide (j < s.cfgSdn) && s.cfgSdCmd j && (s.sde j).alive) ||
  s.sk.canAlive.any (fun p =>
    (let l : Lane := if p.1 < 4 then .A else .B
     s.running l && !s.isRemoved l) && decide ((s.sk.cycle + 2 ^ 32 - p.2) % 2 ^ 32 ≤ s.cfgCmdTmo))

/-- CMD_PATH_LOST (R346): monitoring has started, and no path is alive at a beacon. -/
def execCmdPathLost (s : State) : Host.Outcome State Fault Refusal :=
  if s.sk.cmdMon ∧ s.sk.st.active ∧ ¬ s.cmdAlive then .next (s.raiseS 0x50) else .next s

/-! Position hold (R347, R348) -/

def State.holdReg (s : State) (h : Nat) : HoldReg := famGet (fun _ => {}) s.sf.regs h
def State.setHold (s : State) (h : Nat) (x : HoldReg) : State :=
  { s with sf := { s.sf with regs := famSet (fun _ => {}) s.sf.regs h x } }

/-- The step that the regulator commands at sector error e (R347). -/
def State.holdStepOf (s : State) (h : Nat) : Nat :=
  let x := s.holdReg h
  ((x.sector.getD 0) + s.cfgStepOfs (s.cfgHoldMotor h) + (if 0 < x.e then 3 else 0)) % 6

/-- The on time of the PWM phase's high side in a period of 50,000 ns (R347). -/
def State.holdOn (s : State) (h : Nat) : Nat :=
  50000 * s.cfgHoldDuty (s.cfgHoldMotor h) * min (s.holdReg h).e.natAbs 3 / (256 * 3)

/-- The three cells of motor m as the regulator commands them at the start of a period, at sector error e (R347). -/
def State.holdCells (s : State) (h : Nat) : State :=
  let x := s.holdReg h
  let m := s.cfgHoldMotor h
  let l := x.lane
  if x.off then (List.range 3).foldl (fun s i => s.cellCmd l (3 * m + i) 2 false false) s
  else if x.e = 0 then (List.range 3).foldl (fun s i => s.cellCmd l (3 * m + i) 2 false true) s
  else
    let pl := stepPhases (s.holdStepOf h)
    let hi := s.holdOn h != 0
    let s := s.setHold h { x with fall := if hi then some (s.now + s.holdOn h) else none }
    (List.range 3).foldl (fun s i =>
      s.cellCmd l (3 * m + i) 2 (i == pl.1 && hi) (i == pl.2 || (i == pl.1 && !hi))) s

/-- The on time of regulator h's PWM phase ends within the period (R347). -/
def State.holdFall (s : State) (h : Nat) : State :=
  let x := s.holdReg h
  match x.fall with
  | some t =>
    if s.now < t then s
    else
      let s := s.setHold h { x with fall := none }
      if x.engaged && !x.off then s.cellCmd x.lane (3 * s.cfgHoldMotor h + (stepPhases (s.holdStepOf h)).1) 2 false true else s
  | none => s

/-- Regulator h keeps its lane, moves to the other, or ends with 0x045 (R348). -/
def State.holdMove (s : State) (h : Nat) : State :=
  let x := s.holdReg h
  let m := s.cfgHoldMotor h
  if s.cellLogic x.lane && s.vgdOk x.lane then s
  else
    let s := s.cellsBack x.lane m
    let o := otherD x.lane
    if s.cellLogic o && s.vgdOk o then s.setHold h { x with lane := o, sector := none, fall := none }
    else (s.setHold h {}).raiseS 0x45

/-- A trip of the peak comparators on cells that no PWM counter serves ends with the regulator's period (R142, R347). -/
def State.holdTripEnd (s : State) (l : DLane) (m : Nat) : State :=
  if s.running l.lane && s.fb (axB l m) AX.CTRL_EN then s else s.setAxis l m { s.axis l m with tripped := false }

/-- One regulator in one period. -/
def State.holdPeriod (s : State) (h : Nat) : State :=
  if !(s.holdReg h).engaged then s
  else
    let s := s.holdMove h
    if (s.holdReg h).engaged then (s.holdTripEnd (s.holdReg h).lane (s.cfgHoldMotor h)).holdCells h else s

/-- HOLD_REG_PERIOD (R347): the cells of each hold motor are commanded from its sector error. -/
def execHoldRegPeriod (s : State) : Host.Outcome State Fault Refusal := .next ((s.holdPeriod 0).holdPeriod 1)

/-- HOLD_HALL_CHANGE (R347, R348): a Hall change at Skink's receivers updates e, or stops the hold on an illegal code or a skip. -/
def execHoldHallChange (h : Fin 2) (code : Fin 8) (s : State) : Host.Outcome State Fault Refusal :=
  if !s.skinkOn then .next s
  else
    let old := famGet (fun _ => 0) s.sf.hall h.val
    let s := { s with sf := { s.sf with hall := famSet (fun _ => 0) s.sf.hall h.val code.val } }
    let x := s.holdReg h.val
    let m := s.cfgHoldMotor h.val
    let bad := fun (s : State) =>
      ((s.setHold h.val { x with off := true }).cellsFloat x.lane (3 * m) 3).raiseS 0x48 m
    if !x.engaged || x.off || old = code.val then .next s
    else
      match hallSector code.val with
      | none => .next (bad s)
      | some k =>
        match (x.sector.orElse (fun _ => hallSector old)) with
        | none => .next (s.setHold h.val { x with sector := some k })
        | some j =>
          match hallStep j k with
          | none => .next (bad s)
          | some fwd =>
            let e := if fwd then x.e + 1 else x.e - 1
            let dev := decide (s.cfgHoldTol m < e.natAbs) && !x.deviated
            let s := s.setHold h.val { x with e := e, sector := some k, deviated := x.deviated || dev }
            .next (if dev then s.raiseS 0x47 m else s)

end Sys2Proof.Machine
end

