-- ==== Sys2Proof/Machine/Clock.lean ====
section
/-! DEFINITION. The clocks: model time, the unit time of each lane (R243), and what time alone does. -/

namespace Sys2Proof.Machine

open Sys2Proof

/-- What one nanosecond adds to a lane's unit time, in units of 2^-40 ns: 2^40, corrected by the oscillator trim where the
calibration block's OSCEN is set (R242, R243). A lane in reset keeps its time. -/
def State.nsUnits (s : State) (l : Lane) : Nat :=
  if s.fb (calB l) CAL.CTRL_OSCEN then (2 ^ 40 + s.fi (calB l) CAL.OSCTRIM_TRIM).toNat else 2 ^ 40

/-- A lane's unit time one nanosecond later. -/
def State.tickLane (s : State) (l : Lane) : State :=
  if (s.lane l).reset then s
  else s.setLane l { s.lane l with unitTime := (s.lane l).unitTime + s.nsUnits l }

/-- One nanosecond passes: model time and the unit time of each lane go on, stores of the cores may become visible (R465), and the hold
regulators' high sides go off at their time (R347). -/
def State.tick (s : State) : State :=
  let s := ((({ s with now := s.now + 1 }).tickLane .A).tickLane .B).tickLane .W
  let s := ((s.storesDrift .A).storesDrift .B).storesDrift .W
  (s.holdFall 0).holdFall 1

end Sys2Proof.Machine
end

