-- ==== Sys2Proof/Machine/Compare.lean ====
section
/-! DEFINITION. The comparator, the vote, the checkpoints and Axolotl (chapter 11). -/

namespace Sys2Proof.Machine

open Sys2Proof

/-- The state with the comparator replaced. -/
def State.setCmp (s : State) (c : Comparator) : State := { s with cmp := c }

/-- Record comparison runs (R304): in Service, No-witness and Bench; in Axolotl while A and B both drive, or after the join. -/
def State.comparing (s : State) : Bool :=
  !s.cmp.stopped &&
  (match s.sk.st with
   | .service | .noWitness | .bench => true
   | .axolotl =>
     (match s.sk.axo with
      | some x => x.held == .noWitness || x.phase == .joined
      | none => false)
   | _ => false)

/-- How many cycles a tag lies behind the unit-cycle counter, modulo 65,536. -/
def State.tagAge (s : State) (t : Nat) : Nat := (s.tag + 65536 - t % 65536) % 65536

/-- A record is stale: its tag is 64 or more cycles old, by the arithmetic of R29 (R299). -/
def State.cmpStale (s : State) (t : Nat) : Bool := 64 ≤ s.tagAge t && s.tagAge t ≤ 32767

/-- The number of the next record of a key from a lane. -/
def State.keyCount (s : State) (l : DLane) (r : OutRec) : Nat :=
  match s.cmp.seen.find? (fun k => k.kind == r.kind && k.index == r.index && k.tag == r.tag) with
  | some k => if l = .A then k.nA else k.nB
  | none => 0

/-- The count of a key's records from a lane goes up. -/
def State.keyNext (s : State) (l : DLane) (r : OutRec) : State :=
  let old := (s.cmp.seen.find? (fun k => k.kind == r.kind && k.index == r.index && k.tag == r.tag)).getD ⟨r.kind, r.index, r.tag, 0, 0⟩
  let new := if l = .A then { old with nA := old.nA + 1 } else { old with nB := old.nB + 1 }
  s.setCmp { s.cmp with seen := new :: s.cmp.seen.erase old }

/-- Words 0 and 2 to 7 of two records agree (R297). -/
def OutRec.same (x y : OutRec) : Bool := x.kind == y.kind && x.index == y.index && x.tag == y.tag && x.pay == y.pay

/-- A record with bit j inverted (R297): bit j of word 0 for j below 32, then of words 2 to 7. -/
def OutRec.flip (r : OutRec) (j : Nat) : OutRec :=
  if j < 32 then
    let w := Nat.xor (r.kind + r.index * 2 ^ 8 + r.tag * 2 ^ 16) (2 ^ j)
    { r with kind := w % 2 ^ 4 + (w / 2 ^ 4 % 2 ^ 4) * 2 ^ 16, index := w / 2 ^ 8 % 2 ^ 8, tag := w / 2 ^ 16 }
  else
    let i := (j - 32) / 32
    { r with pay := r.pay.set i (r.pay.getD i 0 ^^^ BitVec.ofNat 32 (2 ^ ((j - 32) % 32))) }

/-! The outputs a record names (R301) -/

/-- A safety frame record (R302). -/
def OutRec.safety (r : OutRec) : Bool := (r.kind == 8 || r.kind == 9) && (r.pay.getD 1 0).getLsbD 16

/-- The output of a record is held off (R301). -/
def State.holdOutput (s : State) (r : OutRec) : State :=
  let mark := fun (s : State) =>
    s.setCmp { s.cmp with held := if s.cmp.held.contains ⟨r.kind, r.index⟩ then s.cmp.held else ⟨r.kind, r.index⟩ :: s.cmp.held }
  if r.kind = 1 then mark s
  else if r.kind = 2 then ((mark s).portToOff .A r.index).portToOff .B r.index
  else if r.kind = 3 ∨ r.kind = 4 then mark s
  else s

/-- The held output of a KIND and INDEX acts again from a matching pair (R301). -/
def State.unholdOutput (s : State) (r : OutRec) : State :=
  s.setCmp { s.cmp with held := s.cmp.held.erase ⟨r.kind, r.index⟩ }

/-- Skink follows SHARE_REQ in this state (R150). -/
def State.followsShare (s : State) : Bool := s.kind == .service || s.kind == .noWitness

/-- A matching AXIS pair's SHARE_REQ becomes the share at the next beacon, if it lies in range (R150). -/
def State.shareReq (s : State) (r : OutRec) : State :=
  if !s.followsShare then s
  else
    let q := min 100 ((r.pay.getD 4 0).toNat % 128)
    if within q s.cfgShareMin (100 - s.cfgShareMin) then
      s.setSk { s.sk with shareNext := famIns s.sk.shareNext r.index q }
    else s.raiseS 0x46 r.index

/-- A record acts: a matched pair's, or the survivor's (R30, R301, R303, R337, R342). Requests wait out a switch-over (R47). -/
def State.recordActs (s : State) (r : OutRec) : State :=
  if r.kind = 1 then s.shareReq r
  else if r.kind = 3 then if s.sk.hold.isSome then s else s.soReq r
  else if r.kind = 4 then if s.sk.hold.isSome then s else s.stateReq r
  else s

/-! Decisions (R49, R307, R310, R311) -/

/-- W's nth record of a key in the vote buffer (R310). -/
def State.voteRec (s : State) (kind index tag n : Nat) : Option OutRec :=
  (s.cmp.votes.filter (fun r => r.kind == kind && r.index == index && r.tag == tag))[n]?

/-- The last mismatch register: its key and what was decided. -/
def State.noteMis (s : State) (kind index tag dec : Nat) : State :=
  (((s.fs cmpB CMPS.LASTMIS_TAG tag).fs cmpB CMPS.LASTMIS_KIND kind).fs cmpB CMPS.LASTMIS_INDEX index).fs cmpB CMPS.LASTMIS_DECIDED dec

/-- The vote buffer freezes (R311). -/
def State.freezeVotes (s : State) : State := s.setCmp { s.cmp with frozen := true }

/-- The decision goes against lane d: the comparison stops where that removes the lane (R49, R50, R304, R323). -/
def State.decideAgainst (s : State) (src : Nat) (d : DLane) (dis : Bool) (x : Decision) : State :=
  let s := (s.freezeVotes).noteMis x.kind x.index x.tag (dno d + 1)
  let removes := s.sk.st == .service && s.classNow .skink src == 2
  let s := if removes then s.setCmp { s.cmp.abandon with stopped := true } else s
  let s := if s.sk.st = .service ∧ ¬ removes then s.setSk { s.sk with hold := none } else s
  let s := s.raiseS src x.index (resLane d.lane)
  if dis then s.raiseS 0x32 255 (resLane d.lane) else s

/-- No decision is possible (R49). -/
def State.undecided (s : State) (x : Decision) : State :=
  ((s.freezeVotes).noteMis x.kind x.index x.tag 3).raiseS 0x33

/-- The staged copies of a disputed safety frame are released, or discarded (R301, R303, R307). -/
def State.voteFrames (s : State) (x : Decision) (ok : Bool) : State :=
  let f := fun (s : State) (l : Lane) (r : Option OutRec) => match r with
    | some r => if r.safety then s.frameOut l { r := r } ok else s
    | none => s
  f (f s .A x.recA) .B x.recB

/-- A decision is made with W's record, or without one (R49, R307). -/
def State.decideVote (s : State) (x : Decision) (w : Option OutRec) : State :=
  let eq := fun (r : Option OutRec) => match r, w with
    | some r, some w => r.same w
    | _, _ => false
  match x.what with
  | .disagree =>
    let s := s.voteFrames x (eq x.recA && eq x.recB)
    if eq x.recA && eq x.recB then s.raiseS 0x32 255 8
    else if eq x.recA then ((((x.recB.map s.holdOutput).getD s)).decideAgainst 0x30 .B true x)
    else if eq x.recB then ((((x.recA.map s.holdOutput).getD s)).decideAgainst 0x30 .A true x)
    else (s.raiseS 0x32).undecided x
  | .mismatch =>
    if eq x.recA then s.decideAgainst 0x30 .B false x
    else if eq x.recB then s.decideAgainst 0x30 .A false x
    else s.undecided x
  | .missing =>
    if eq x.recA then s.decideAgainst 0x31 .B false x
    else if eq x.recB then s.decideAgainst 0x31 .A false x
    else s.undecided x

/-- A pair needs a decision: with W's record at hand it is made at once; in No-witness W is absent; else it waits for W's record
until the window of the key closes. -/
def State.askVote (s : State) (x : Decision) (final : Bool) : State :=
  let w := if s.kind = .noWitness then none else s.voteRec x.kind x.index x.tag x.n
  if w.isSome ∨ final ∨ s.kind = .noWitness then s.decideVote x w
  else s.setCmp { s.cmp with decisions := s.cmp.decisions ++ [x] }

/-- A pair is mismatched or missing in both copies (R31, R301, R47): its output is held, and in Service every other drive holds
until the decision, and a request that waits is ignored. In Axolotl after the join of a drive lane no survivor output is held (R323). -/
def State.detect (s : State) (x : Decision) (r : OutRec) (final : Bool) : State :=
  let s := s.noteMis x.kind x.index x.tag 0
  let joined : Bool := match s.sk.axo with
    | some a => s.sk.st == .axolotl && a.phase == .joined && a.lane != .W
    | none => false
  let s := if joined then s else s.holdOutput r
  let src := if x.what = .missing then 0x31 else 0x30
  let s := if s.sk.st = .service ∧ s.sk.hold = none ∧ s.classNow .skink src = 2 then
      s.setSk { s.sk with hold := some { left := 2 }, req := none } else s
  s.askVote x final

/-! Injection (R308) -/

/-- The designated pair of a due test is given its three shadow comparisons. A copy whose result logic is at fault in this
comparison reports the opposite of each. -/
def State.injectTest (s : State) (a b : OutRec) (xFault yFault : Bool) : State :=
  match s.cmp.inj with
  | none => s
  | some d =>
    if a.kind = s.cfgInjKind ∧ a.index = s.cfgInjIndex ∧ a.tag = d.cycle % 65536 then
      let j := s.cmp.injM % 224
      let want := [a.same (b.flip j), a.same b, false]
      let report := fun (f : Bool) => want.map (fun r => r != f)
      let pass := report xFault == want && report yFault == want
      let s := s.setCmp { s.cmp with inj := none, injM := s.cmp.injM + 1 }
      let s := s.fs cmpB CMPS.STATUS_INJBIT j
      if pass then s.fInc cmpB CMPS.STATUS_INJPASS else s.raiseS 0x36 255 8
    else s

/-- Cycles from cycle k to the present one, by the arithmetic of the 32-bit counter. -/
def State.cyclesPast (s : State) (k : Nat) : Nat := (s.sk.cycle + 2 ^ 32 - k) % 2 ^ 32

/-- CMP_INJ_NO_RECORD (R308): no designated pair has arrived by 1,000 cycles after the test fell due. -/
def execCmpInjNoRecord (s : State) : Host.Outcome State Fault Refusal :=
  match s.cmp.inj with
  | none => .next s
  | some d => .next (if s.cyclesPast d.cycle < 1000 then s else (s.setCmp { s.cmp with inj := none }).raiseS 0x3b)

/-- CMP_DLY_FAULT (R306): after acceptance, the copies' delay registers or timers differ. -/
def execCmpDlyFault (s : State) : Host.Outcome State Fault Refusal :=
  .next (if s.sk.cfg = [] then s else s.raiseS 0x37 255 8)

/-! Records (R297 to R303) -/

/-- A pair is complete: both copies compare it (R307). -/
def State.comparePair (s : State) (n at_ : Nat) (a b : BusRec) (xFault yFault : Bool) : State :=
  let eq := a.r.same b.r
  let x := eq != xFault
  let y := eq != yFault
  let s := s.injectTest a.r b.r xFault yFault
  let d : Decision := { what := .mismatch, kind := a.r.kind, index := a.r.index, tag := a.r.tag, n := n, recA := some a.r, recB := some b.r,
                        at_ := at_ }
  if x && y then
    let s := (s.unholdOutput a.r).recordActs a.r
    if a.r.safety then (s.releaseElem .A a).releaseElem .B b else s
  else if !x && !y then
    let s := if a.r.safety then (s.discardElem .A a).discardElem .B b else s
    s.detect d a.r false
  else s.askVote { d with what := .disagree } false

/-- A record arrives while comparison runs. -/
def State.cmpArrive (s : State) (l : DLane) (b : BusRec) (xFault yFault : Bool) : State :=
  if s.cmpStale b.r.tag then s.fInc cmpB CMPS.COUNT_STALE
  else
    let n := s.keyCount l b.r
    let s := s.keyNext l b.r
    let key : CmpClosed := ⟨b.r.kind, b.r.index, b.r.tag, n⟩
    if s.cmp.closed.contains key then
      let s := if b.r.safety then s.discardElem l.lane b else s
      s.fInc cmpB CMPS.COUNT_LATE
    else
      match s.cmp.pend.find? (fun p => p.lane != l && p.n == n && p.b.r.kind == b.r.kind && p.b.r.index == b.r.index && p.b.r.tag == b.r.tag) with
      | some p =>
        let s := s.setCmp { s.cmp with pend := s.cmp.pend.erase p }
        if l = .A then s.comparePair n p.at_ b p.b xFault yFault else s.comparePair n p.at_ p.b b xFault yFault
      | none =>
        if 64 ≤ s.cmp.pend.length then s.raiseS 0x34
        else s.setCmp { s.cmp with pend := s.cmp.pend ++ [⟨l, n, b, s.now⟩] }

/-- ALIGNWIN in nanoseconds. -/
def State.alignNs (s : State) : Nat := (if s.sk.cfg = [] then 192 else s.cfgAlign) * 1000 / 48

/-- The running drive lanes that are not BROKEN. -/
def State.soundLanes (s : State) : List DLane :=
  [DLane.A, DLane.B].filter (fun d => s.running d.lane && !(s.lane d.lane).broken)

/-- A request record that still waits for an equal one: a STATE_REQ for ALIGNWIN (R342), an SO_REQ for as long as its tag is not
stale (R36). -/
def State.looseWaits (s : State) (x : LooseReq) : Bool :=
  if x.r.kind = 3 then !s.cmpStale x.r.tag else decide (s.now ≤ x.at_ + s.alignNs)

/-- A request record where records are not compared (R36, R342): it acts once every sound drive lane has posted an equal one with
the same tag. During a switch-over none acts (R47). -/
def State.looseArrive (s : State) (l : DLane) (r : OutRec) : State :=
  let fresh := s.cmp.loose.filter (fun x => s.looseWaits x && x.lane != l)
  let others := s.soundLanes.filter (fun d => d != l)
  let agrees := others.all (fun d => fresh.any (fun x => x.lane == d && x.r.same r))
  if s.sk.hold.isSome then s
  else if agrees then
    let s := s.setCmp { s.cmp with loose := fresh.filter (fun x => !x.r.same r) }
    if r.kind = 4 then s.stateReq r else if s.sk.st = .cmpDegraded then s.soReq r else s
  else s.setCmp { s.cmp with loose := fresh ++ s.cmp.loose.filter (fun x => s.looseWaits x && x.lane == l) ++ [⟨l, r, s.now⟩] }

/-- The drive lane whose records act without comparison: the survivor of a Single kind (R304). -/
def State.soleLane (s : State) : Option DLane :=
  if s.sk.st = .singleA ∨ (s.sk.st = .axolotl ∧ s.kind = .singleA) then some .A
  else if s.sk.st = .singleB ∨ (s.sk.st = .axolotl ∧ s.kind = .singleB) then some .B
  else none

/-- CMP_RECORD_ARRIVE (R298, R304): the next record of lane l's bus reaches Skink. Where comparison has stopped, the partner of an
abandoned record is late. -/
def execCmpRecordArrive (l : DLane) (xFault yFault : Bool) (s : State) : Host.Outcome State Fault Refusal :=
  let bus := famGet (fun _ => ({} : BusSt)) s.buses (dno l)
  match bus.skQ with
  | [] => .next s
  | b :: q =>
    let s := { s with buses := famSet (fun _ => ({} : BusSt)) s.buses (dno l) { bus with skQ := q } }
    if s.comparing then .next (s.cmpArrive l b xFault yFault)
    else
      match s.soleLane with
      | some d =>
        if d = l then
          let s := s.recordActs b.r
          .next (if b.r.safety then s.releaseElem l.lane b else s)
        else .next s
      | none =>
        let n := s.keyCount l b.r
        let s := s.keyNext l b.r
        if s.cmp.closed.contains ⟨b.r.kind, b.r.index, b.r.tag, n⟩ then .next (s.fInc cmpB CMPS.COUNT_LATE)
        else if b.r.kind = 4 ∨ b.r.kind = 3 then .next (s.looseArrive l b.r)
        else if b.r.safety ∧ s.sk.st = .cmpDegraded then .next (s.releaseElem l.lane b)
        else .next s

/-- The window that opened at `at_` has lasted ALIGNWIN (R298). -/
def State.windowOver (s : State) (at_ : Nat) : Bool := decide (at_ + s.alignNs ≤ s.now)

/-- CMP_WINDOW_CLOSE (R31, R298, R307): the window of a key closes, ALIGNWIN after it opened. A record that still waits has no partner; a decision that still
waits is made without W's record. -/
def execCmpWindowClose (tag : BitVec 16) (kind index : Nat) (xFault yFault : Bool) (s : State) : Host.Outcome State Fault Refusal :=
  match s.cmp.pend.find? (fun p => p.b.r.kind == kind && p.b.r.index == index && p.b.r.tag == tag.toNat && s.windowOver p.at_) with
  | some p =>
    let s := s.setCmp { s.cmp with pend := s.cmp.pend.erase p, closed := ⟨kind, index, tag.toNat, p.n⟩ :: s.cmp.closed }
    let d : Decision := { what := .missing, kind := kind, index := index, tag := tag.toNat, n := p.n,
                          recA := if p.lane = .A then some p.b.r else none, recB := if p.lane = .B then some p.b.r else none
                          at_ := p.at_ }
    if !xFault && !yFault then
      let s := if p.b.r.safety then s.discardElem p.lane.lane p.b else s
      .next (s.detect d p.b.r false)
    else if xFault && yFault then .next s
    else .next (s.askVote { d with what := .disagree } true)
  | none =>
    match s.cmp.decisions.find? (fun d => d.kind == kind && d.index == index && d.tag == tag.toNat && s.windowOver d.at_) with
    | some d => .next ((s.setCmp { s.cmp with decisions := s.cmp.decisions.erase d }).askVote d true)
    | none => .next s

/-- VOTE_RECORD_STORE (R310): W's next record enters its slot, or is counted lost; a decision that waits for it is made. -/
def execVoteRecordStore (s : State) : Host.Outcome State Fault Refusal :=
  let bus := famGet (fun _ => ({} : BusSt)) s.buses 2
  match bus.skQ with
  | [] => .next s
  | b :: q =>
    let s := { s with buses := famSet (fun _ => ({} : BusSt)) s.buses 2 { bus with skQ := q } }
    if s.cmp.frozen ∨ s.cmp.rearm ∨ s.isRemoved .W ∨ 64 ≤ s.tagAge b.r.tag then .next s
    else
      let slot := b.r.tag % 64
      if 32 ≤ (s.cmp.votes.filter (fun r => r.tag % 64 == slot)).length then .next (s.fInc cmpB CMPS.COUNT_VBLOST)
      else
        let s := s.setCmp { s.cmp with votes := s.cmp.votes ++ [b.r] }
        match s.cmp.decisions.find? (fun d => (s.voteRec d.kind d.index d.tag d.n).isSome) with
        | some d => .next ((s.setCmp { s.cmp with decisions := s.cmp.decisions.erase d }).askVote d true)
        | none => .next s

/-- The targeted slices of a cause, by the record's KIND and INDEX; 16 for a checkpoint difference (R500). -/
def targetSlices (kind index : Nat) : List Nat :=
  match kind with
  | 1 => List.range 18 ++ [42, 43, 45 + index]
  | 2 => List.range 18 ++ [42, 43, 51 + index]
  | 8 => (List.range 31).drop 18 ++ [59 + index, 61]
  | 9 => (List.range 31).drop 18 ++ [54 + index, 58]
  | 16 => (List.range 35).drop 18 ++ [44]
  | _ => List.range 18 ++ [42, 43]

/-- TARGETED_TEST_DONE (R312, R500): the removed lane's test marks it BROKEN or hands over to the survivor; the lane is then held
in reset. A failure in the survivor raises its BIST source. -/
def execTargetedTestDone (l : DLane) (failed : List (Fin 72)) (s : State) : Host.Outcome State Fault Refusal :=
  match s.sk.targeted with
  | none => .next s
  | some (t, kind, index) =>
    let failed := failed.filter fun i => (targetSlices kind index).contains i.val
    if t ≠ l.lane then .next s
    else if s.isRemoved l.lane then
      let bad := !failed.isEmpty
      let s := failed.foldl (fun s i => s.sliceFailQuiet l.lane i.val) s
      let s := s.setLane l.lane { s.lane l.lane with broken := (s.lane l.lane).broken || bad }
      let s := s.skinkReset l.lane
      .next (s.setSk { s.sk with targeted := if bad then none else some ((otherD l).lane, kind, index) })
    else
      let b := bistB l.lane
      let s := (s.setSk { s.sk with targeted := none }).fs b BIST.STATUS_SET 3
      let s := s.fs b BIST.STATUS_SLICE ((targetSlices kind index).getLastD 0)
      .next (failed.foldl (fun s i => (s.sliceFailQuiet l.lane i.val).raiseL l.lane 0x150 i.val) s)

/-! Checkpoints (R314 to R319) -/

/-- Range n of lane l's declared-state region: base and size (R314). -/
def State.region (s : State) (l : Lane) (n : Nat) : Nat × Nat :=
  (s.fg (ckptB l + 8 * n) CKPT.RGN_BASE_BASE * 256, s.fg (ckptB l + 8 * n) CKPT.RGN_SIZE_SIZE)

/-- A range lies wholly in core SRAM, the local-memory window or DRAM (R314, R455). -/
def inRegionMem (b n : Nat) : Bool :=
  (0x20000000 ≤ b && b + n ≤ 0x20200000) || (0x21000000 ≤ b && b + n ≤ 0x21100000) || (0x100000000 ≤ b && b + n ≤ 0x300000000)

/-- The ranges keep every condition of R314. -/
def State.regionOk (s : State) (l : Lane) : Bool :=
  let rs := (List.range 8).map (s.region l)
  let used := rs.filter (fun r => r.2 != 0)
  used.all (fun r => r.2 % 256 == 0 && inRegionMem r.1 r.2) &&
  decide ((rs.map (fun r => r.2)).sum ≤ 512 * 1024) &&
  (List.range 8).all (fun i => (List.range 8).all (fun j =>
    i == j ||
    (let a := rs.getD i (0, 0)
     let b := rs.getD j (0, 0)
     a.2 == 0 || b.2 == 0 || decide (a.1 + a.2 ≤ b.1) || decide (b.1 + b.2 ≤ a.1))))

/-- The bytes of the region, range by range, ascending (R315). -/
def State.regionBytes (s : State) (l : Lane) : List Byte :=
  (List.range 8).flatMap (fun n => s.rdBytes (laneNo l) (s.region l n).1 (s.region l n).2)

/-- The survivor of an attempt: A where A and B both survive (R321). -/
def Axo.survivor (x : Axo) : Lane := if x.lane = .A then .B else .A

/-- The third lane of an attempt: neither the survivor nor the lane restored. -/
def Axo.third (x : Axo) : Lane := match x.lane with
  | .A => .W
  | .B => .W
  | .W => .B

/-- TRANSFER is in progress (R320). -/
def State.inTransfer (s : State) : Bool :=
  match s.sk.axo with
  | some x => s.sk.st == .axolotl && x.phase == .transfer
  | none => false

/-- CKPT_GO (R316): a signature is started, or the write is ignored and REFUSED set. -/
def execCkptGo (l : Lane) (v : Word) (s : State) : Host.Outcome State Fault Refusal :=
  if !s.running l || !v.getLsbD 16 then .next s
  else
    let b := ckptB l
    if s.fb b CKPT.STATUS_BUSY || !s.fb b CKPT.CTRL_EN then .next (s.fs b CKPT.STATUS_REFUSED 1)
    else .next ((s.setLane l { s.lane l with ckOp := 1, ckTag := v.toNat % 65536 }).fs b CKPT.STATUS_BUSY 1)

/-- CKPT_XFER (R321): in TRANSFER, the survivor starts the copy of its region; elsewhere the write is ignored and REFUSED set
(R327). -/
def execCkptXfer (l : Lane) (v : Word) (s : State) : Host.Outcome State Fault Refusal :=
  if !s.running l || !v.getLsbD 17 then .next s
  else
    let b := ckptB l
    if s.fb b CKPT.STATUS_BUSY || !s.fb b CKPT.CTRL_EN then .next (s.fs b CKPT.STATUS_REFUSED 1)
    else
      match s.sk.axo with
      | some x =>
        if s.inTransfer ∧ x.survivor = l then
          .next ((s.setLane l { s.lane l with ckOp := 2, ckTag := v.toNat % 65536 }).fs b CKPT.STATUS_BUSY 1)
        else .next (s.fs b CKPT.STATUS_REFUSED 1)
      | none => .next (s.fs b CKPT.STATUS_REFUSED 1)

/-- The region of lane a is copied byte for byte into lane b, range by range (R321). -/
def State.copyRegion (s : State) (a b : Lane) : State :=
  (List.range 8).foldl (fun s n =>
    s.wrBytes (laneNo b) (s.region a n).1 (s.rdBytes (laneNo a) (s.region a n).1 (s.region a n).2)) s

/-- A signature of a checkpoint. -/
def CkptOpen.sig (k : CkptOpen) : Lane → Option Word
  | .A => k.sigA
  | .B => k.sigB
  | .W => k.sigW
def CkptOpen.put (k : CkptOpen) (l : Lane) (w : Word) : CkptOpen :=
  match l with
  | .A => { k with sigA := some w }
  | .B => { k with sigB := some w }
  | .W => { k with sigW := some w }

/-- The lane whose join makes its signatures count again (R317). -/
def State.joinedLane (s : State) (l : Lane) : Bool :=
  match s.sk.axo with
  | some x => s.sk.st == .axolotl && x.lane == l && x.phase == .joined
  | none => false

/-- A signature is expected from lane l (R317). -/
def State.sigExpected (s : State) (l : Lane) : Bool := s.running l && (!s.isRemoved l || s.joinedLane l)

/-- The signature registers show a checkpoint. -/
def State.showSigs (s : State) (k : CkptOpen) : State :=
  let s := (s.fs cmpB CMPS.SIGA_SIG (k.sigA.getD 0).toNat).fs cmpB CMPS.SIGB_SIG (k.sigB.getD 0).toNat
  (s.fs cmpB CMPS.SIGW_SIG (k.sigW.getD 0).toNat).fs cmpB CMPS.SIGTAG_TAG (k.cycle % 65536)

/-- The attempt's re-vote passes or fails at a joined checkpoint (R320, R324, R56). -/
def State.revote (s : State) (k : CkptOpen) : State :=
  match s.sk.axo with
  | some x =>
    if s.sk.st = .axolotl ∧ x.phase = .joined then
      match k.sigA, k.sigB, k.sigW with
      | some a, some b, some w =>
        if a = b ∧ b = w then
          s.setSk { s.sk with axo := some { x with passes := x.passes + 1, passed := x.passed || 3 ≤ x.passes + 1 } }
        else
          let mine := (k.sig x.lane).getD 0
          let other := (k.sig x.survivor).getD 0
          if mine = other then s.setSk { s.sk with axo := some { x with passes := 0 } } else s.axoFail
      | _, _, _ => if (k.sig x.lane).isNone then s.axoFail else s.setSk { s.sk with axo := some { x with passes := 0 } }
    else s
  | none => s

/-- The signatures present are compared by the table of R317. -/
def State.sigOutcome (s : State) (k : CkptOpen) : State :=
  let present := [Lane.A, Lane.B, Lane.W].filterMap (fun l => (k.sig l).map (fun w => (l, w)))
  match present with
  | [(_, a), (_, b), (_, w)] =>
    if a = b ∧ b = w then s
    else if a = b then s.raiseS 0x38 255 3
    else if w = a then s.raiseS 0x39 255 2
    else if w = b then s.raiseS 0x39 255 1
    else s.raiseS 0x33
  | [(_, x), (_, y)] => if x = y then s else s.raiseS 0x33
  | _ => s

/-- Checkpoint k is compared: at once when every expected signature is present, else at its deadline, where each missing one
raises CKPT_LATE (R317). -/
def State.sigCompare (s : State) (k : CkptOpen) (due : Bool) : State :=
  let missing := [Lane.A, Lane.B, Lane.W].filter (fun l => s.sigExpected l && (k.sig l).isNone)
  if s.sk.st = .cmpDegraded then s
  else if missing.isEmpty ∨ due then
    let s := s.setCmp { s.cmp with ckpts := s.cmp.ckpts.map (fun x => if x.cycle = k.cycle then { x with done := true } else x) }
    let s := s.showSigs k
    let s := missing.foldl (fun s l => s.raiseS 0x3a 255 (resLane l)) s
    (s.sigOutcome k).revote k
  else s

/-- TRANSFER's two signatures are judged once both are present (R321, R324). -/
def State.transferJudge (s : State) : State :=
  match s.sk.axo with
  | some x =>
    match x.sigSurvivor, x.sigThird with
    | some a, some b => if a = b then s.setSk { s.sk with axo := some { x with xferDone := true } } else s.axoFail
    | _, _ => s
  | none => s

/-- A signature joins its open checkpoint; for one already compared, or none, it is not kept. -/
def State.sigArrive (s : State) (l : Lane) (tag : Nat) (sig : Word) : State :=
  match s.cmp.ckpts.find? (fun k => k.cycle % 65536 == tag && !k.done) with
  | none => s
  | some k =>
    let k := k.put l sig
    let s := s.setCmp { s.cmp with ckpts := s.cmp.ckpts.map (fun y => if y.cycle = k.cycle then k else y) }
    let s := if s.sk.st = .cmpDegraded then s.showSigs k else s
    s.sigCompare k false

/-- CKPT_SIGNATURE_POST (R315, R317, R321): the engine's last read returns; tag and signature go to Skink. -/
def execCkptSignaturePost (l : Lane) (s : State) : Host.Outcome State Fault Refusal :=
  let b := ckptB l
  let x := s.lane l
  if x.reset || !s.fb b CKPT.STATUS_BUSY || s.bistIn l 44 then .next s
  else
    let sig := crc32 (s.regionBytes l)
    let s := (s.setLane l { x with ckOp := 0 }).fs b CKPT.STATUS_BUSY 0
    let s := (s.fs b CKPT.STATUS_LASTTAG x.ckTag).fs b CKPT.SIG_SIG sig.toNat
    match s.sk.axo with
    | some a =>
      if s.inTransfer ∧ x.ckTag = a.c % 65536 then
        if x.ckOp = 2 then
          let s := s.copyRegion l a.lane
          .next (s.setSk { s.sk with axo := some { a with sigSurvivor := some sig } }).transferJudge
        else if a.third = l then .next (s.setSk { s.sk with axo := some { a with sigThird := some sig } }).transferJudge
        else .next s
      else .next (s.sigArrive l x.ckTag sig)
    | none => .next (s.sigArrive l x.ckTag sig)

/-- CKPT_DEADLINE (R317, R319): beacon k + SIGDL of the oldest open checkpoint. In Comparator-degraded a missing verdict raises
CKPT_LATE naming W. -/
def execCkptDeadline (s : State) : Host.Outcome State Fault Refusal :=
  match s.cmp.ckpts with
  | [] => .next s
  | k :: rest =>
    if s.cyclesPast k.cycle < s.cfgSigdl then .next s
    else if s.sk.st = .cmpDegraded then
      let got := s.cmp.verdict == some (k.cycle % 65536)
      let s := s.setCmp { s.cmp with ckpts := rest }
      .next (if got then s else s.raiseS 0x3a 255 3)
    else
      let s := if k.done then s else s.sigCompare k true
      .next (s.setCmp { s.cmp with ckpts := s.cmp.ckpts.filter (fun x => x.cycle != k.cycle) })

/-- VERDICT_WRITE (R319): in Comparator-degraded, W's verdict on the open checkpoint. -/
def execVerdictWrite (l : Lane) (v : Word) (s : State) : Host.Outcome State Fault Refusal :=
  if l ≠ .W ∨ !s.running .W ∨ s.sk.st ≠ .cmpDegraded then .next s
  else
    let tag := v.toNat % 65536
    let code := v.toNat / 65536 % 4
    match s.cmp.ckpts with
    | [] => .next (s.raiseS 0x3a 255 3)
    | k :: _ =>
      if tag ≠ k.cycle % 65536 then .next (s.raiseS 0x3a 255 3)
      else
        let s := s.setCmp { s.cmp with verdict := some tag }
        .next (
          if code = 0 then s else if code = 1 then s.raiseS 0x39 255 1 else if code = 2 then s.raiseS 0x39 255 2 else s.raiseS 0x33)

/-- CKPT_EN_WRITE (R314): the engine is enabled, or refused with 0x01A. -/
def execCkptEnWrite (l : Lane) (v : Word) (s : State) : Host.Outcome State Fault Refusal :=
  if !s.running l || (s.lane l).locked then .next s
  else if v.getLsbD 0 && !s.regionOk l then .next (s.raiseL l 0x1a 255)
  else .next (s.fs (ckptB l) CKPT.CTRL_EN v.toNat)

/-! Axolotl and debug (R320 to R325) -/

/-- AXOLOTL_TIMEOUT (R324): 1 s has passed. -/
def execAxolotlTimeout (s : State) : Host.Outcome State Fault Refusal :=
  match s.sk.axo with
  | some x => .next (if s.sk.st = .axolotl ∧ x.at_ + 10 ^ 9 ≤ s.now then s.axoFail else s)
  | none => .next s

/-- XFERMAX_EXPIRY (R324): TRANSFER lasts beyond beacon c + XFERMAX. -/
def execXfermaxExpiry (s : State) : Host.Outcome State Fault Refusal :=
  match s.sk.axo with
  | some x => .next (if s.inTransfer ∧ s.cfgXferMax ≤ s.cyclesPast x.c then s.axoFail else s)
  | none => .next s

/-- DEBUG_HALT (R58, R325): 0x035; in Bench the cells of a halted drive lane are off (R271). No rule says how a halt ends and no row resumes
a lane, so the lane stays halted until its reset (model's choice, assumption 121). -/
def execDebugHalt (l : Lane) (s : State) : Host.Outcome State Fault Refusal :=
  if !s.running l then .next s
  else
    let s := s.setLane l { s.lane l with halted := s.sk.st == .bench, diverged := true }
    .next (s.raiseS 0x35 255 (resLane l))

/-- DEBUG_ACTIVATE (R508): DEBUGSEEN is set. -/
def execDebugActivate (l : Lane) (s : State) : Host.Outcome State Fault Refusal :=
  if !s.running l then .next s else .next (s.setLane l { s.lane l with debugSeen := true })

end Sys2Proof.Machine
end

