-- ==== Sys2Proof/Machine/Feedback.lean ====
section
/-! DEFINITION. The feedback units (chapter 06). -/

namespace Sys2Proof.Machine

open Sys2Proof

/-- The unit is enabled in a running lane. -/
def State.fbOn (s : State) (l : DLane) (n : Nat) : Bool := s.running l.lane && s.fb (fuB l n) FB.CTRL_EN

/-- POSQ goes from VALID to DOUBTFUL (R166). -/
def State.doubt (s : State) (b : Nat) : State :=
  if s.fg b FB.STATUS_POSQ = 1 then s.fs b FB.STATUS_POSQ 2 else s

/-! Compare units -/

/-- The move from p to q crosses V in a direction that DIR selects (R189). -/
def crosses (dir : Nat) (p q v : Int) : Bool :=
  ((dir == 1 || dir == 3) && p < v && v ≤ q) || ((dir == 2 || dir == 3) && v < p && q ≤ v)

/-- Compare unit j fires, and again under each new V that the same move has passed; n bounds the fires (R191). -/
def State.cmpFire (s : State) (l : DLane) (u j : Nat) (p q : Int) : Nat → State
  | 0 => s
  | n + 1 =>
    let b := fuB l u
    let k := b + 16 * j
    let x := s.fbu l u
    let v := famGet (fun _ => (0 : Int)) x.cmpAt j
    if s.fb k FB.CMP_CFG_ARM && crosses (s.fg k FB.CMP_CFG_DIR) p q v then
      let s := s.fs b FB.EVT_CMP (s.fg b FB.EVT_CMP ||| 2 ^ j)
      let s := ((s.fs k FB.CMP_CFG_FIRED 1).fInc k FB.CMP_CFG_FIRES).trig l.lane (8 + u)
      let s := s.setFbu l u { s.fbu l u with cmpFired := (s.fbu l u).cmpFired ||| 2 ^ j }
      if s.fb k FB.CMP_CFG_REPEAT then
        let step := s.fi k FB.CMP_STEP_STEP
        let s := s.setFbu l u { s.fbu l u with cmpAt := famSet (fun _ => (0 : Int)) (s.fbu l u).cmpAt j (v + step) }
        if step = 0 then s else s.cmpFire l u j p q n
      else s.fs k FB.CMP_CFG_ARM 0
    else s

/-- Every compare unit sees the counter move from p to q. -/
def State.cmpMove (s : State) (l : DLane) (u : Nat) (p q : Int) : State :=
  if p = q then s else (List.range 8).foldl (fun s j => s.cmpFire l u j p q ((q - p).natAbs + 1)) s

/-- The position becomes t (R164, R165): the counter is t between the soft limits, the excess what lies beyond, held at ±32,767. -/
def State.moveTo (s : State) (l : DLane) (u : Nat) (t : Int) : State :=
  let b := fuB l u
  let x := s.fbu l u
  let c := s.counterOf b t
  let held := s.holdExcess b t
  let past := decide (32767 < (t - c).natAbs)
  let s := s.setFbu l u { x with t := held, pos := c, full := past || (x.full && decide ((held - c).natAbs = 32767)) }
  let s := if x.t = x.pos ∧ held ≠ c then (s.fs b FB.EVT_SOFT 1).raiseL l.lane 0x43 u else s
  let s := if past && !x.full then ((s.doubt b).fs b FB.EVT_EXCESS_FULL 1).raiseL l.lane 0x44 u else s
  s.cmpMove l u x.pos c

/-- Accepted travel counts towards a home that waits (R168). -/
def State.addTravel (s : State) (l : DLane) (u n : Nat) : State :=
  let x := s.fbu l u
  if x.homeSt = 2 then s.setFbu l u { x with travel := x.travel + n } else s

/-- QUAD_EDGE (R162): one accepted edge counts a step; edges of A and B in one clock count nothing. -/
def execQuadEdge (l : DLane) (n : Fin 6) (both up : Bool) (clock : Nat) (s : State) : Host.Outcome State Fault Refusal :=
  let b := fuB l n.val
  if !s.fbOn l n.val || !s.fb b FB.CTRL_QUAD then .next s
  else if both then
    let s := (((s.doubt b).fInc b FB.ERRCNT_QUAD).fs b FB.EVT_QUAD_ILL 1).raiseL l.lane 0x40 n.val
    .next (s.setFbu l n.val { s.fbu l n.val with ill := true })
  else if s.fb b FB.CTRL_PSRC then .next s
  else
    let d : Int := if up = s.fb b FB.CTRL_DIR then -1 else 1
    let s := (s.moveTo l n.val ((s.fbu l n.val).t + d)).addTravel l n.val 1
    let c := (s.fbu l n.val).nc + d
    .next (s.setFbu l n.val { s.fbu l n.val with nc := c, edge := some (c, clock) })

/-- The slip of an index at count c (R170): (c - IDXREF) mod CPR, taken to the nearer side. -/
def slipOf (c ref : Int) (cpr : Nat) : Int :=
  let r := (c - ref) % (cpr : Int)
  if (cpr : Int) ≤ 2 * r then r - cpr else r

/-- INDEX_PULSE (R168 to R170): the index sets the reference, completes a home that waits, or corrects or flags a slip. Z is accepted
only if it has been inactive since the last accepted index. -/
def execIndexPulse (l : DLane) (n : Fin 6) (ba : Fin 4) (rested : Bool) (s : State) : Host.Outcome State Fault Refusal :=
  let b := fuB l n.val
  let x := s.fbu l n.val
  if !s.fbOn l n.val || !s.fb b FB.CTRL_QUAD || !s.fb b FB.IDXCFG_IDXEN || (x.idxAny && !rested) ||
      (s.fb b FB.IDXCFG_IDXGATE && s.fg b FB.IDXCFG_IDXSTATE != ba.val) then .next s
  else
    let x := { x with idxSeen := true, idxAny := true, missRaised := false }
    if x.homeSt = 2 ∧ ¬ s.fb b FB.CTRL_PSRC then .next (s.setFbu l n.val { x with homeDue := true, tIdx := x.t })
    else if ¬ s.fb b FB.STATUS_IDXREF then
      if x.homeSt = 0 then .next ((s.setFbu l n.val { x with idxRef := x.t, tIdx := x.t }).fs b FB.STATUS_IDXREF 1)
      else .next (s.setFbu l n.val { x with tIdx := x.t })
    else
      let cpr := s.fg (axB l n.val) AX.CPR_CPR
      let sl := if cpr = 0 then 0 else slipOf x.pos x.idxRef cpr
      let s := s.setFbu l n.val { x with tIdx := x.t }
      if sl = 0 then .next s
      else
        let s := s.fsSat b FB.SLIP_LAST sl
        if sl.natAbs ≤ s.fg b FB.IDXCFG_SLIPTOL then
          let s := (s.fInc b FB.SLIP_CORR).fs b FB.EVT_SLIP_CORR 1
          .next (s.moveTo l n.val ((s.fbu l n.val).t - sl))
        else .next ((((s.doubt b).fInc b FB.ERRCNT_SLIP).fs b FB.EVT_SLIP_BIG 1).raiseL l.lane 0x42 n.val)

/-- FB_INDEX_MISSING (R171): the travel since the last index exceeds CPR + SLIPTOL. -/
def execFbIndexMissing (l : DLane) (n : Fin 6) (s : State) : Host.Outcome State Fault Refusal :=
  let b := fuB l n.val
  let x := s.fbu l n.val
  if s.fbOn l n.val && s.fb b FB.STATUS_IDXREF && !x.missRaised &&
      s.fg (axB l n.val) AX.CPR_CPR + s.fg b FB.IDXCFG_SLIPTOL < (x.t - x.tIdx).natAbs then
    .next (((s.setFbu l n.val { x with missRaised := true }).fs b FB.EVT_IDX_MISS 1).raiseL l.lane 0x49 n.val)
  else .next s

/-- A Hall code is accepted (R173). -/
def State.hallTo (s : State) (l : DLane) (n : Nat) (code : Nat) : State :=
  let b := fuB l n
  let x := s.fbu l n
  if x.hall = some code then s
  else
    let s := (s.setFbu l n { x with hall := some code, hall1 := x.hall1.orElse (fun _ => some code) }).fs b FB.STATUS_HALL code
    let s := match hallSector code, x.hall.bind hallSector with
      | none, _ => ((s.fInc b FB.ERRCNT_HALL).fs b FB.EVT_HALL_ILL 1).raiseL l.lane 0x41 n
      | some k, some j => if (hallStep j k).isSome then s else (s.fs b FB.EVT_HALL_SKIP 1).raiseL l.lane 0x47 n
      | some _, none => s
    s.axisHall l n x.hall code (s.fbu l n).t

/-- HALL_CHANGE (R173). -/
def execHallChange (l : DLane) (n : Fin 6) (code : Fin 8) (s : State) : Host.Outcome State Fault Refusal :=
  .next (if s.fbOn l n.val && s.fb (fuB l n.val) FB.CTRL_HALL then s.hallTo l n.val code.val else s)

/-! Speed and the sample point -/

/-- The DRIVE clocks from one sample point to the next (R132, R183). -/
def State.sampleClocks (s : State) (l : DLane) (n : Nat) : Nat :=
  let h := 100 * s.sk.t / 2 ^ s.fg (axB l n) AX.PWMCFG_DIV
  if s.fb (axB l n) AX.PWMCFG_DBLUPD then h else 2 * h

/-- The window SPDWIN, 0 meaning 16. -/
def State.spdWin (s : State) (b : Nat) : Nat := if s.fg b FB.SPDCFG_SPDWIN = 0 then 16 else s.fg b FB.SPDCFG_SPDWIN

/-- The smaller of a magnitude num/den and 10^9/(5 d) counts per second, d in DRIVE clocks, with num's sign (R187). -/
def slower (num : Int) (den d : Nat) : Int × Nat :=
  if d = 0 ∨ num.natAbs * d * 5 ≤ 10 ^ 9 * den then (num, den)
  else (if num < 0 then -(10 ^ 9) else if num = 0 then 0 else 10 ^ 9, 5 * d)

/-- The exact speed at sample point p, against the sample a window before it (R187). -/
def State.speedAt (s : State) (l : DLane) (n : Nat) (p : FbSample) (old : Option FbSample) : Int × Nat :=
  let b := fuB l n
  let x := s.fbu l n
  let per := s.sampleClocks l n
  if s.fb b FB.CTRL_PSRC then
    if s.fg b FB.CTRL_SER = 2 then
      match x.frames with
      | f :: g :: _ => if f.clock ≤ g.clock then (0, 1) else ((f.pos - g.pos) * 10 ^ 9, 5 * (f.clock - g.clock))
      | _ => (0, 1)
    else
      match old with
      | some o => if per = 0 then (0, 1) else ((p.t - o.t) * 10 ^ 9, s.spdWin b * per * 5)
      | none => (0, 1)
  else
    let tmo := if s.fg b FB.SPDCFG_SPDTMO = 0 then 256 else s.fg b FB.SPDCFG_SPDTMO
    match p.edge with
    | none => (0, 1)
    | some (c1, t1) =>
      if tmo * per < p.clock - t1 then (0, 1)
      else
        match old.bind (fun o => o.edge) with
        | none => slower x.spdNum x.spdDen (p.clock - t1)
        | some (c0, t0) =>
          if c1 = c0 ∨ t1 ≤ t0 then slower x.spdNum x.spdDen (p.clock - t1)
          else ((c1 - c0) * 10 ^ 9, (t1 - t0) * 5)

/-- 2π in units of 2^-128. -/
def twoPi128 : Int := 2138057168129933495719360746323741566601

/-- A speed rounded once at binary point q, in counts/s or rad/s, saturated at 32 bits (R187). -/
def State.speedValueQ (s : State) (l : DLane) (n q : Nat) (num : Int) (den : Nat) : Int :=
  let b := fuB l n
  let cpr := s.fg (axB l n) AX.CPR_CPR
  let v := if s.fb b FB.SPDCFG_UNIT then
      if cpr = 0 then 0 else roundDiv (num * 2 ^ q * twoPi128) (den * cpr * 2 ^ 128)
    else roundDiv (num * 2 ^ q) den
  clampI (-(2 ^ 31)) (2 ^ 31 - 1) v

/-- The VALUE of the speed entry: the speed rounded once at SPDQ (R187). -/
def State.speedValue (s : State) (l : DLane) (n : Nat) (num : Int) (den : Nat) : Int :=
  s.speedValueQ l n (s.fg (fuB l n) FB.SPDCFG_SPDQ) num den

/-- The age of the serial read in microseconds: 0 for SSI (R182, R185). -/
def State.serAge (s : State) (l : DLane) (n : Nat) (clock : Nat) : Nat :=
  if s.fg (fuB l n) FB.CTRL_SER = 2 then
    match (s.fbu l n).frames with
    | f :: _ => min 65535 ((clock - f.clock) / 200)
    | [] => 65535
  else 0

/-- The speed entry of the newest sample of the history: not valid after an illegal transition in its window, or where a serial read at
either end of it is not valid or there is none (R187, R188). -/
def State.fbSpeed (s : State) (l : DLane) (n : Nat) : State :=
  let b := fuB l n
  let x := s.fbu l n
  match x.hist with
  | [] => s
  | p :: _ =>
    let old := x.hist[s.spdWin b]?
    let v := s.speedAt l n p old
    let win := x.hist.take (s.spdWin b)
    let bad := win.any (fun o => o.ill) ||
      (s.fg b FB.CTRL_SER != 0 && (!p.serOk || !((old.map (fun o => o.serOk)).getD false)))
    let val := s.speedValue l n v.1 v.2
    let s := s.setFbu l n { x with spdNum := v.1, spdDen := v.2, spdVal := val, spdProv := if bad then 3 else 0 }
    s.fsi b FB.SPEED_VALUE val

/-- The status word of R185 from the unit as it stands; `ok` says whether the serial read of the sample point is valid. -/
def State.fbStatusWord (s : State) (l : DLane) (n : Nat) (ok : Bool) (clock : Nat) : Nat :=
  let b := fuB l n
  let x := s.fbu l n
  unsigned 16 (x.t - x.pos) + s.fg b FB.STATUS_POSQ * 2 ^ 16 + (x.hall.getD 0) * 2 ^ 18 +
  (if x.idxSeen then 2 ^ 21 else 0) + (if ok then 2 ^ 22 else 0) + x.cmpFired * 2 ^ 24 +
  s.fg b FB.SLIP_LAST * 2 ^ 32 + s.serAge l n clock * 2 ^ 48

/-- The position of the latest valid SENT frame, advanced by the speed times its age at a clock, as a fraction (R182). -/
def State.sentPos (s : State) (l : DLane) (n : Nat) (clock : Nat) : Option (Int × Nat) :=
  let x := s.fbu l n
  (if s.fg (fuB l n) FB.CTRL_SER = 2 then x.frames.head? else none).map fun f =>
    (f.pos * (x.spdDen * 10 ^ 6 : Nat) + x.spdNum * s.serAge l n clock, x.spdDen * 10 ^ 6)

/-- FB_SAMPLE_POINT (R168, R182 to R187): the unit latches, computes its speed, arms a home at its beacon, and starts an SSI read, which
completes what the latch holds of it; a listening unit starts none (R177). -/
def execFbSamplePoint (l : DLane) (n : Fin 6) (atBeacon : Bool) (clock : Nat) (s : State) : Host.Outcome State Fault Refusal :=
  let b := fuB l n.val
  if !s.fbOn l n.val then .next s
  else
    let x := s.fbu l n.val
    let ssi := s.fg b FB.CTRL_SER == 1
    let ok := s.fg b FB.CTRL_SER == 2 && !x.frames.isEmpty
    let smp : FbSample := { edge := x.edge, t := x.t, clock := clock, serOk := ok, ill := x.ill }
    let s := s.setFbu l n.val { x with
      hist := (smp :: x.hist).take 17, ill := false, reading := ssi && !s.fb b FB.SSICFG_LISTEN, smpB := atBeacon }
    let s := if ssi && s.fb b FB.CTRL_PSRC then s else s.fbSpeed l n.val
    let s := s.fs b FB.STATUS_SERAGE (s.serAge l n.val clock)
    let s := (s.sampleAngle l n.val x.t (s.sentPos l n.val clock)).trig .W ((if l = .A then 2 else 8) + n.val)
    if !atBeacon then .next s
    else
      let y := s.fbu l n.val
      let s := s.setFbu l n.val { y with
        latT := y.t, latPos := y.pos, latStatus := s.fbStatusWord l n.val ok clock, latSpd := y.spdVal, latProv := y.spdProv
        idxSeen := false, cmpFired := 0 }
      let y := s.fbu l n.val
      if y.homeSt = 1 ∧ s.sk.cycle = s.fg b FB.HOMECYC_HOMECYC then
        let idx := !s.fb b FB.CTRL_PSRC && s.fb b FB.IDXCFG_IDXEN
        .next (s.setFbu l n.val { y with homeSt := 2, travel := 0, homeDue := !idx })
      else .next s

/-! Serial reads -/

/-- A read is not valid (R175): its event, its count and its source, for a failed check or a jump. -/
def State.serBad (s : State) (l : DLane) (n : Nat) (jump : Bool) : State :=
  let b := fuB l n
  let s := if jump then (s.fs b FB.EVT_SER_JUMP 1).raiseL l.lane 0x46 n
    else ((s.fInc b FB.ERRCNT_SER).fs b FB.EVT_SER_ERR 1).raiseL l.lane 0x45 n
  let s := (s.setFbu l n { s.fbu l n with missed := (s.fbu l n).missed + 1 }).fs b FB.STATUS_SERVALID 0
  s.axisRead l n false

/-- A read of the value v of w bits has passed its line checks (R174, R175). While the retention check runs, POSQ stays LOST (R218). -/
def State.serValue (s : State) (l : DLane) (n : Nat) (v w : Nat) (init : Bool) : State :=
  let b := fuB l n
  let x := s.fbu l n
  let d0 : Int := match x.vPrev with
    | none => 0
    | some p => signed w (unsigned w ((v : Int) - p))
  let d := if s.fb b FB.CTRL_DIR then -d0 else d0
  let jm := s.fg b FB.SERCHK_JUMPMAX
  if x.vPrev.isSome ∧ jm ≠ 0 ∧ jm * (1 + x.missed) < d.natAbs then s.serBad l n true
  else
    let first : Int := if init then signed w v else v
    let ser := if x.vPrev.isSome then x.ser + d else first
    let fresh := x.vPrev.isNone
    let s := s.setFbu l n { x with vPrev := some v, ser1 := x.ser1.orElse (fun _ => some v), ser := ser, missed := 0, lostRaised := false }
    let s := (s.fs b FB.SERRAW_V v).fs b FB.STATUS_SERVALID 1
    let s := if fresh ∧ s.fb b FB.CTRL_SERABS ∧ s.fg b FB.STATUS_POSQ = 0 ∧ ¬ x.retPend then s.fs b FB.STATUS_POSQ 1 else s
    let s := if fresh then s.moveTo l n first
      else (if s.fb b FB.CTRL_PSRC then s.moveTo l n ((s.fbu l n).t + d) else s).addTravel l n d.natAbs
    s.axisRead l n true

/-- The value of a Gray code of w bits. -/
def grayVal (v : Nat) : Nat → Nat
  | 0 => v
  | n + 1 => Nat.xor v (grayVal v n / 2)

/-- The read of the last sample point has ended; `old` is the unit before it. What the read changed of t and of POSQ belongs to the
sample, and to the beacon's latch where the point is a beacon's; a home or a count since does not (R172, R183 to R185). -/
def State.ssiSample (s : State) (l : DLane) (n : Nat) (old : FbSt) (posq : Nat) : State :=
  let b := fuB l n
  let y := s.fbu l n
  let ok := s.fb b FB.STATUS_SERVALID
  match y.hist with
  | [] => s
  | p :: rest =>
    let t := if old.vPrev.isNone && ok then y.t else p.t + (y.t - old.t)
    let s := s.setFbu l n { y with hist := { p with serOk := ok, t := t } :: rest }
    let s := (s.fbSpeed l n).sampleSpeed l n
    let y := s.fbu l n
    if !y.smpB then s
    else
      let c := s.counterOf b t
      let q := if s.fg b FB.STATUS_POSQ = posq then y.latStatus / 2 ^ 16 % 4 else s.fg b FB.STATUS_POSQ
      let st := y.latStatus / 2 ^ 23 * 2 ^ 23 + (if ok then 2 ^ 22 else 0) + y.latStatus / 2 ^ 18 % 16 * 2 ^ 18 + q * 2 ^ 16 +
        unsigned 16 (s.holdExcess b t - c)
      s.setFbu l n { y with latT := s.holdExcess b t, latPos := c, latStatus := st, latSpd := y.spdVal, latProv := y.spdProv }

/-- SSI_READ_DONE (R174 to R177): the read that the last sample point began, or that the edges on a listening unit's clock ball make, is
judged, and that point's entries follow it. -/
def execSsiReadDone (l : DLane) (n : Fin 6) (lineOk : Bool) (data : Word) (status : BitVec 4) (s : State) :
    Host.Outcome State Fault Refusal :=
  let b := fuB l n.val
  let x := s.fbu l n.val
  if !s.fbOn l n.val || s.fg b FB.CTRL_SER != 1 || !(x.reading || s.fb b FB.SSICFG_LISTEN) then .next s
  else
    let w := s.fg b FB.SSICFG_BITS
    let pol := s.fb b FB.SSICFG_STATPOL
    let bad := (List.range (min 4 (s.fg b FB.SSICFG_STAT))).any (fun i => status.getLsbD i == pol)
    let posq := s.fg b FB.STATUS_POSQ
    let s := s.setFbu l n.val { x with reading := false }
    let raw := data.toNat % 2 ^ w
    let v := if s.fb b FB.SSICFG_GRAY then grayVal raw w else raw
    let s := if !lineOk || bad then s.serBad l n.val false else s.serValue l n.val v w (s.fb b FB.SSICFG_INIT)
    let p := if s.fb b FB.STATUS_SERVALID then some (s.fbu l n.val).ser else none
    .next ((s.axisSsi l n.val p (5 * s.sampleClocks l n.val)).ssiSample l n.val x posq)

/-! SENT (R179 to R181). The CRCs and the layout of the serial messages are those of SAE J2716, which the specification names and does
not print (assumption 138). -/

/-- The number that nibbles spell, most significant first. -/
def nibbleVal (ns : List Nat) : Nat := ns.foldl (fun a x => a * 16 + x) 0

/-- The number that bits spell, most significant first. -/
def bitsVal (bs : List Bool) : Nat := bs.foldl (fun a b => 2 * a + if b then 1 else 0) 0

/-- k steps of a division by a polynomial of degree w. -/
def crcShift (w poly c : Nat) : Nat → Nat
  | 0 => c
  | k + 1 => crcShift w poly (if 2 ^ w ≤ 2 * c then Nat.xor (2 * c) poly else 2 * c) k

/-- The CRC of groups of w bits: each follows a step of the register; `ext` extends the message by w zeros. -/
def sentCrc (w poly seed : Nat) (ext : Bool) (gs : List Nat) : Nat :=
  let c := gs.foldl (fun c g => Nat.xor g (crcShift w poly c w)) seed
  if ext then crcShift w poly c w else c

/-- The CRC-4 of nibbles: the recommended method extends the message by a zero nibble, the legacy one does not. -/
def sentCrc4 (legacy : Bool) (ns : List Nat) : Nat := sentCrc 4 0x1d 5 (!legacy) ns

/-- A short serial message in 16 status nibbles, oldest first: kind, ID and data. -/
def sentShort (legacy : Bool) (h : List Nat) : Option (Nat × Nat × Nat) :=
  let v := bitsVal (h.map fun x => x.testBit 2)
  let id := v / 2 ^ 12
  let d := v / 2 ^ 4 % 2 ^ 8
  if h.map (fun x => x.testBit 3) = true :: List.replicate 15 false ∧ sentCrc4 legacy [id, d / 16, d % 16] = v % 16 then
    some (1, id, d)
  else none

/-- An enhanced serial message in 18 status nibbles, oldest first. -/
def sentEnhanced (h : List Nat) : Option (Nat × Nat × Nat) :=
  let b3 := h.map fun x => x.testBit 3
  let b2 := h.map fun x => x.testBit 2
  let at3 := fun i => b3.getD (i - 1) false
  let d := bitsVal (b2.drop 6)
  let grp := fun i => bitsVal ((List.range 3).flatMap fun j => [b2.getD (i + j) false, b3.getD (i + j) false])
  let hi := bitsVal ((b3.drop 8).take 4)
  let lo := bitsVal ((b3.drop 13).take 4)
  if h.length = 18 ∧ b3.take 6 = List.replicate 6 true ∧ !at3 7 ∧ !at3 13 ∧ !at3 18 ∧
      sentCrc 6 0x59 21 true [grp 6, grp 9, grp 12, grp 15] = bitsVal (b2.take 6) then
    some (if at3 8 then (3, hi, lo * 2 ^ 12 + d) else (2, hi * 16 + lo, d))
  else none

/-- The serial message that the newest status nibble completes. -/
def sentMessage (legacy : Bool) (stat : List Nat) : Option (Nat × Nat × Nat) :=
  (sentShort legacy (stat.take 16).reverse).orElse fun _ => sentEnhanced stat.reverse

/-- The frame passes every check of R180; `prev` is the calibration pulse before it. -/
def State.sentOk (s : State) (b : Nat) (prev : Option Nat) (f : SentIn) : Bool :=
  let nominal := 56 * 250 * s.fg b FB.SENTCFG_TICK
  let stepOk := match prev with
    | none => true
    | some c => decide (64 * (f.calNs - c) ≤ c ∧ 64 * (c - f.calNs) ≤ c)
  decide (80 * nominal ≤ 100 * f.calNs ∧ 100 * f.calNs ≤ 120 * nominal) && stepOk &&
  f.nibbles.length == s.fg b FB.SENTCFG_NIB && (f.status :: f.crc :: f.nibbles).all (fun v => decide (v < 16)) &&
  f.crc == sentCrc4 (s.fb b FB.SENTCFG_CRCLEG) f.nibbles &&
  (!s.fb b FB.SENTCFG_PAUSE || within f.pauseTicks 12 768)

/-- SENT_FRAME (R179 to R182): the frame is validated; a valid one gives the serial value, and a message it completes is stored. The
angle follows at the next sample point. -/
def execSentFrame (l : DLane) (n : Fin 6) (f : SentIn) (clock : Nat) (s : State) : Host.Outcome State Fault Refusal :=
  let b := fuB l n.val
  if !s.fbOn l n.val || s.fg b FB.CTRL_SER != 2 then .next s
  else
    let x := s.fbu l n.val
    let ok := s.sentOk b x.calPrev f
    let stat := if ok then (f.status :: x.stat).take 18 else []
    let s := s.setFbu l n.val { x with calPrev := some f.calNs, stat := stat }
    if !ok then .next (s.serBad l n.val false)
    else
      let s := match sentMessage (s.fb b FB.SENTCFG_CRCLEG) stat with
        | none => s
        | some (k, id, d) =>
          (((s.fs b FB.SENTMSG_DATA d).fs b FB.SENTMSG_ID id).fs b FB.SENTMSG_KIND k).fs b FB.EVT_SENT_MSG 1
      let pn := s.fg b FB.SENTCFG_PNIB
      let s := s.serValue l n.val (nibbleVal (f.nibbles.take pn)) (4 * pn) (s.fb b FB.SENTCFG_INIT)
      let y := s.fbu l n.val
      .next (if s.fb b FB.STATUS_SERVALID then
          s.setFbu l n.val { y with frames := (({ v := nibbleVal (f.nibbles.take pn), clock := clock, pos := y.ser } : SentSt) :: y.frames).take 2 }
        else s)

/-- FB_SERIAL_LOST (R175): the third consecutive read that is not valid. -/
def execFbSerialLost (l : DLane) (n : Fin 6) (s : State) : Host.Outcome State Fault Refusal :=
  let b := fuB l n.val
  let x := s.fbu l n.val
  if s.fbOn l n.val && 3 ≤ x.missed && !x.lostRaised then
    .next ((((s.setFbu l n.val { x with lostRaised := true }).doubt b).fs b FB.EVT_SER_LOST 1).raiseL l.lane 0x48 n.val)
  else .next s

/-! Homing and compare units -/

/-- HOME_WRITE (R167): a home is armed for HOMECYC, or refused; the unit need not be enabled. -/
def execHomeWrite (l : DLane) (n : Fin 6) (s : State) : Host.Outcome State Fault Refusal :=
  let b := fuB l n.val
  if !s.running l.lane then .next s
  else
    let d := (s.fg b FB.HOMECYC_HOMECYC + 2 ^ 32 - s.sk.cycle % 2 ^ 32) % 2 ^ 32
    if d = 0 ∨ 2 ^ 31 ≤ d then .next (s.fs b FB.EVT_HOME_REFUSED 1)
    else .next ((s.setFbu l n.val { s.fbu l n.val with homeSt := 1, homeDue := false, travel := 0 }).fs b FB.STATUS_HOMEARM 1)

/-- HOMECANCEL_WRITE (R167): a home that has not completed is disarmed. -/
def execHomecancelWrite (l : DLane) (n : Fin 6) (s : State) : Host.Outcome State Fault Refusal :=
  .next (if s.running l.lane then
      (s.setFbu l n.val { s.fbu l n.val with homeSt := 0, homeDue := false }).fs (fuB l n.val) FB.STATUS_HOMEARM 0
    else s)

/-- Every compare unit is disarmed. -/
def State.disarmAll (s : State) (l : DLane) (u : Nat) : State :=
  (List.range 8).foldl (fun s j => s.fs (fuB l u + 16 * j) FB.CMP_CFG_ARM 0) s

/-- HOME_COMPLETE (R168): t and the index reference are HOMEOFS, POSQ is VALID, and every compare unit is disarmed. -/
def execHomeComplete (l : DLane) (n : Fin 6) (s : State) : Host.Outcome State Fault Refusal :=
  let b := fuB l n.val
  let x := s.fbu l n.val
  if !(s.fbOn l n.val && x.homeSt == 2 && x.homeDue) then .next s
  else
    let ofs := s.fi b FB.HOMEOFS_HOMEOFS
    let s := s.disarmAll l n.val
    let s := s.setFbu l n.val { s.fbu l n.val with homeSt := 0, homeDue := false }
    let s := s.moveTo l n.val ofs
    let s := s.setFbu l n.val { s.fbu l n.val with idxRef := ofs, tIdx := ofs }
    .next ((((s.fs b FB.STATUS_HOMEARM 0).fs b FB.STATUS_POSQ 1).fs b FB.EVT_HOMED 1).fs b FB.STATUS_IDXREF 1)

/-- HOME_DROP (R168): the travel has reached twice CPR before the home completed. -/
def execHomeDrop (l : DLane) (n : Fin 6) (s : State) : Host.Outcome State Fault Refusal :=
  let x := s.fbu l n.val
  .next (if s.fbOn l n.val && x.homeSt == 2 && 2 * s.fg (axB l n.val) AX.CPR_CPR ≤ x.travel then
      (s.setFbu l n.val { x with homeSt := 0, homeDue := false }).fs (fuB l n.val) FB.STATUS_HOMEARM 0
    else s)

/-- COMPARE_ARM (R189, R190): a write of CMPj_CFG sets DIR and REPEAT, clears FIRED where it writes 1, and with ARM 1 arms unit j
with the value of CMPj_L and CMPj_H. With ARM 0 the unit is disarmed. -/
def execCompareArm (l : DLane) (n : Fin 6) (j : Fin 8) (v : Word) (s : State) : Host.Outcome State Fault Refusal :=
  if !s.running l.lane then .next s
  else
    let b := fuB l n.val
    let k := b + 16 * j.val
    let dir := v.toNat % 4
    let s := (s.fs k FB.CMP_CFG_DIR dir).fs k FB.CMP_CFG_REPEAT (v.toNat / 4)
    let s := if v.getLsbD 5 then s.fs k FB.CMP_CFG_FIRED 0 else s
    if !v.getLsbD 3 then .next (s.fs k FB.CMP_CFG_ARM 0)
    else
      let at_ := signed 40 (s.fg k FB.CMP_L_VLO + s.fg k FB.CMP_H_VHI * 2 ^ 32)
      let x := s.fbu l n.val
      let c := x.pos
      let behind := (dir == 1 && decide (at_ ≤ c)) || (dir == 2 && decide (c ≤ at_)) ||
        (dir == 3 && (decide (at_ = c) || decide (0 < x.spdNum ∧ at_ < c) || decide (x.spdNum < 0 ∧ c < at_)))
      let s := s.setFbu l n.val { x with cmpAt := famSet (fun _ => (0 : Int)) x.cmpAt j.val at_ }
      .next (((s.fs k FB.CMP_CFG_ARM 1).fs k FB.CMP_CFG_BEHIND_AT_ARM (if behind then 1 else 0)).fs k FB.CMP_CFG_FIRES 0)

/-- POS_L_READ (R196): the low word of the counter is returned, and POS_H and the excess are latched. A tap of lane W reads its
source (R192). -/
def execPosLRead (l : Lane) (n : Fin 12) (s : State) : Host.Outcome State Fault Refusal :=
  let src : Option (DLane × Nat) := match l with
    | .A => if n.val < 6 then some (.A, n.val) else none
    | .B => if n.val < 6 then some (.B, n.val) else none
    | .W => if n.val < 6 then some (.A, n.val) else some (.B, n.val - 6)
  if !s.running l then .next s
  else
    match src with
    | none => .next { s with readData := 0 }
    | some (d, u) =>
      if !s.running d.lane then .next { s with readData := 0 }
      else
        let b := fuB d u
        let x := s.fbu d u
        let c := x.pos
        let s := { s with readData := BitVec.ofNat 32 (unsigned 32 c) }
        if l = .W then .next s
        else .next ((s.fsi b FB.POS_H_POSH (c / 2 ^ 32)).fsi b FB.POS_H_EXCESS (x.t - c))

end Sys2Proof.Machine
end

