-- ==== Sys2Proof/Machine/Pwm.lean ====
section
/-! DEFINITION. The PWM counters of axes and pump ports: halves of the period, the gates of a phase, and the compare events (R132 to
R136, R142, R246, R248). -/

namespace Sys2Proof.Machine

open Sys2Proof

/-- The half-period H of axis n in DRIVE clocks (R132). -/
def State.halfClocks (s : State) (l : DLane) (n : Nat) : Nat := 100 * s.sk.t / 2 ^ s.fg (axB l n) AX.PWMCFG_DIV

/-- The half-period of the port's PWM in DRIVE clocks (R132, R246). -/
def State.ppHalf (s : State) (l : DLane) (p : Nat) : Nat := 100 * s.sk.t / 2 ^ s.fg (ppB l p) PP.PWMCFG_DIV

/-- C stands at c in a rising half (0 to H - 1), or in a falling one (H down to 1) (R132). -/
def pwmCount (h : Nat) (rising : Bool) (c : Nat) : Bool := if rising then decide (c < h) else decide (1 ≤ c ∧ c ≤ h)

/-- The clocks from the period boundary to C = c in a half. -/
def pwmPos (h : Nat) (rising : Bool) (c : Nat) : Nat := if rising then c else 2 * h - c

/-- A half-period has begun since the counter was last seen: the other half, or the same one of a later period. -/
def Pwm.turned (p : Pwm) (rising : Bool) (c : Nat) : Bool :=
  p.rising != rising || (if rising then decide (c < p.c) else decide (p.c < c))

/-- The counter is seen at c in a half: it has counted on from where it was seen last. -/
def Pwm.moveTo (p : Pwm) (h : Nat) (rising : Bool) (c : Nat) : Pwm :=
  { p with
    rising := rising, c := c
    clk := p.clk + (pwmPos h rising c + 2 * h - pwmPos h p.rising p.c % (2 * h)) % (2 * h) }

/-- The compare opportunity of a phase is met at c: C ≥ CMP in a rising half, C < CMP in a falling one (R134). -/
def pwmHit (rising : Bool) (c cmp : Nat) : Bool := if rising then decide (cmp ≤ c) else decide (c < cmp)

/-- The count at which the edge of a half-period comes where CMP was in force in time (R134). -/
def pwmNatural (h : Nat) (rising : Bool) (cmp : Nat) : Nat := if rising then cmp else min (cmp - 1) h

/-! The phases of an axis (R134, R135, R148) -/

/-- The share of the lane's own winding, in percent (R150). -/
def State.ownShare (s : State) (l : DLane) (n : Nat) : Nat :=
  match l with
  | .A => s.shareOf n
  | .B => 100 - s.shareOf n

/-- The mode in force lets the phases follow CMP: neither OFF, nor VOLTAGE with a share of 0 (R148). -/
def State.axFollows (s : State) (l : DLane) (n : Nat) : Bool :=
  let m := s.fg (axB l n) AX.STATUS_MODE
  m != 0 && !(m == 2 && s.ownShare l n == 0)

/-- The drive commands the gates of phase ph: the high side by its state and the low side as its complement, both off where the phase
does not follow CMP or a trip holds it. A change is a switching edge (R134, R135, R142). -/
def State.axGate (s : State) (l : DLane) (n ph : Nat) : State :=
  let c := 3 * n + ph
  if s.heldCell l c then s
  else
    let x := s.axis l n
    let on := x.pwm.live.getD ph false && !x.tripped
    let hi := on && x.pwm.hs.getD ph false
    let lo := on && !x.pwm.hs.getD ph false
    let y := s.cell l c
    let s := if y.cmdH = hi ∧ y.cmdL = lo then s
      else s.setAxis l n { x with pwm := { x.pwm with edges := x.pwm.edges.set ph (some x.pwm.clk) } }
    s.cellCmd l c 1 hi lo

/-- The three phases of an axis. -/
def State.axGates (s : State) (l : DLane) (n : Nat) : State := ((s.axGate l n 0).axGate l n 1).axGate l n 2

/-- The counter of an axis is seen at c in a half. Where a half-period has begun, a trip of the one before ends and the gates follow CMP
again; a half-period without a trip ends the run of R143. -/
def State.axTurn (s : State) (l : DLane) (n : Nat) (rising : Bool) (c : Nat) : State :=
  let x := s.axis l n
  let new := x.pwm.turned rising c
  let y := { x with pwm := x.pwm.moveTo (s.halfClocks l n) rising c }
  if !new then s.setAxis l n y
  else
    let s := s.setAxis l n { y with tripped := false, ocpRun := if x.tripped && x.pwm.rising != rising then x.ocpRun else 0 }
    if x.tripped then s.axGates l n else s

/-- New compare values are formed: the phases follow them, unless the mode in force has them off (R135, R136). -/
def State.putCmp (s : State) (l : DLane) (n : Nat) (v : List Nat) : State :=
  let x := s.axis l n
  if s.axFollows l n then
    (s.setAxis l n { x with pwm := { x.pwm with cmpV := v, live := [true, true, true] } }).axGates l n
  else s.setAxis l n { x with pwm := { x.pwm with cmpV := v } }

/-- The values in force before a forming clock are kept (R136). -/
def State.axSnap (s : State) (l : DLane) (n : Nat) : State :=
  s.setAxis l n { s.axis l n with pwm := (s.axis l n).pwm.snap (s.axFollows l n) }

/-- A phase of an axis meets a compare opportunity at c (R134 to R136). With OFF in force both gates go off at the crossing, or at the
next period centre or boundary. Else the owed edge of the half-period is taken; one whose CMP lay behind the counter is late. -/
def State.axCompare (s : State) (l : DLane) (n ph : Nat) (rising : Bool) (c : Nat) (forming : Bool) : State :=
  let s := s.axTurn l n rising c
  let x := s.axis l n
  let h := s.halfClocks l n
  let cmp := (if forming then x.pwm.cmpOld else x.pwm.cmpV).getD ph 0
  let follows := if forming then !x.pwm.offOld else s.axFollows l n
  let hit := pwmHit rising c cmp
  let put := fun (s : State) (v on : Bool) =>
    s.setAxis l n { x with pwm := { x.pwm with live := x.pwm.live.set ph v, hs := x.pwm.hs.set ph on } }
  if !follows then
    if hit ∨ c = 0 ∨ c = h then (put s false false).axGate l n ph else s
  else if !hit || x.pwm.hs.getD ph false == rising || x.tripped then s
  else
    let s := if c = pwmNatural h rising cmp then s else s.fs (axB l n) AX.EVT_LATE 1
    (put s (x.pwm.live.getD ph false) rising).axGate l n ph

/-! The phases of a pump port (R248, R254, R255) -/

/-- What the port commands of phase i: the step's pattern while it switches, every low side in BRAKE, nothing otherwise. A trip holds
the PWM phase's high side off and its low side on. -/
def State.ppCommand (s : State) (l : DLane) (p i : Nat) : Bool × Bool :=
  if s.ppSwitches l p then
    let q := stepPhases (s.fg (ppB l p) PP.STATUS_STEP)
    let x := s.pp l p
    let hi := x.pwm.hs.getD 0 false && !x.tripped
    (i == q.1 && hi, i == q.2 || (i == q.1 && !hi))
  else (false, s.ppState l p == 6)

/-- The port commands the gates of phase i. A change is a switching edge. -/
def State.ppGate (s : State) (l : DLane) (p i : Nat) : State :=
  let c := 18 + 3 * p + i
  let q := s.ppCommand l p i
  let x := s.pp l p
  let y := s.cell l c
  let s := if y.cmdH = q.1 ∧ y.cmdL = q.2 then s
    else s.setPp l p { x with pwm := { x.pwm with live := x.pwm.live.set i (q.1 || q.2), edges := x.pwm.edges.set i (some x.pwm.clk) } }
  s.cellCmd l c 1 q.1 q.2

/-- The port's cells follow its state. -/
def State.ppGates (s : State) (l : DLane) (p : Nat) : State := ((s.ppGate l p 0).ppGate l p 1).ppGate l p 2

/-- The duty in force becomes CMP: round((1 - d)(H + 1)), ties to even (R135, R253). The values in force before are kept (R136). -/
def State.ppForm (s : State) (l : DLane) (p : Nat) : State :=
  let x := s.pp l p
  let v := (roundDiv ((2 ^ 64 - x.duty) * (s.ppHalf l p + 1)) (2 ^ 64)).toNat
  s.setPp l p { x with pwm := { x.pwm.snap (s.ppSwitches l p) with cmpV := [v, v, v] } }

/-- Every cell of the port is off, and its comparators are on the virtual neutral (R247). -/
def State.ppAllOff (s : State) (l : DLane) (p : Nat) : Bool :=
  !s.ppDrives l p || (List.range 3).all fun i => !(s.cell l (18 + 3 * p + i)).cmdH && !(s.cell l (18 + 3 * p + i)).cmdL

/-- The counter of a port is seen at c in a half. A trip ends where a rising half begins; a period without one ends the run of R255. -/
def State.ppTurn (s : State) (l : DLane) (p : Nat) (rising : Bool) (c : Nat) : State :=
  let x := s.pp l p
  let new := x.pwm.turned rising c && (rising || !x.pwm.rising)
  let y := { x with pwm := x.pwm.moveTo (s.ppHalf l p) rising c }
  if !new then s.setPp l p y
  else
    let s := s.setPp l p { y with
      tripped := false, ilimRun := if x.tripped then x.ilimRun + 1 else 0, ilimRaised := x.ilimRaised && x.tripped }
    if x.tripped then s.ppGates l p else s

/-- A phase of a port meets a compare opportunity at c: the PWM phase takes the owed edge; with the port in OFF, a phase still switched
goes off, as R135 states for mode OFF (R248, R260). In the clock in which OFF is formed nothing goes off yet (R136). -/
def State.ppCompare (s : State) (l : DLane) (p ph : Nat) (rising : Bool) (c : Nat) (forming : Bool) : State :=
  let s := s.ppTurn l p rising c
  let x := s.pp l p
  let cmp := (if forming then x.pwm.cmpOld else x.pwm.cmpV).getD 0 0
  let hit := pwmHit rising c cmp
  if s.ppSwitches l p then
    if !hit || x.pwm.hs.getD 0 false == rising || x.tripped then s
    else (s.setPp l p { x with pwm := { x.pwm with hs := x.pwm.hs.set 0 rising } }).ppGates l p
  else if s.ppState l p = 0 ∧ x.pwm.live.getD ph false ∧ ¬ (forming ∧ ¬ x.pwm.offOld) ∧ (hit ∨ c = 0 ∨ c = s.ppHalf l p) then s.ppGate l p ph
  else s

/-- PWM_COMPARE_EVENT (R134 to R136, R141 to R143, R246, R248): the counter of an axis or a port, at c in a half-period, meets the
compare value of a phase. -/
def execPwmCompareEvent (l : DLane) (n : Fin 8) (ph : Fin 3) (rising : Bool) (c : Nat) (forming : Bool) (s : State) :
    Host.Outcome State Fault Refusal :=
  if n.val < 6 then
    .next (if s.axOn l n.val && pwmCount (s.halfClocks l n.val) rising c then s.axCompare l n.val ph.val rising c forming else s)
  else
    let p := n.val - 6
    .next (if s.ppOn l p && pwmCount (s.ppHalf l p) rising c then s.ppCompare l p ph.val rising c forming else s)

end Sys2Proof.Machine
end

