-- ==== Sys2Proof/Machine/Trig.lean ====
section
/-! DEFINITION. Sines, cosines and square roots in fixed point, for the transforms of the drives and of Dollith (R115, R144). -/

namespace Sys2Proof.Machine

open Sys2Proof

/-- 2π in units of 2^-192. -/
def twoPi192 : Int := 39440193395453077124792266728456537782926901730380179465120

/-- The terms of the Taylor series of cosine (k even) or sine (k odd) from x^k / k! on, in units of 2^-160: `sq` is x squared,
`term` the present term. -/
def taylor (sq : Int) : Nat → Nat → Int → Int → Int
  | 0, _, _, acc => acc
  | n + 1, k, term, acc =>
    let next := -(term * sq / 2 ^ 160) / ((k + 1) * (k + 2) : Nat)
    taylor sq n (k + 2) next (acc + term)

/-- Cosine and sine of x radians, 0 ≤ x ≤ π/2, all in units of 2^-160. -/
def cosSinRad (x : Int) : Int × Int :=
  let sq := x * x / 2 ^ 160
  (taylor sq 40 0 (2 ^ 160) 0, taylor sq 40 1 x 0)

/-- Cosine and sine of a / 2^k turn, in units of 2^-160; exact at the quarter turns. -/
def cosSin (a : Int) (k : Nat) : Int × Int :=
  let m : Int := a % 2 ^ k
  let quad := (4 * m) / 2 ^ k
  let r := 4 * m - quad * 2 ^ k            -- the rest, in units of 2^-(k+2) turn
  let x := r * twoPi192 / 2 ^ (k + 2 + 32)
  let (c, s) := if r = 0 then ((2 : Int) ^ 160, (0 : Int)) else cosSinRad x
  if quad = 0 then (c, s) else if quad = 1 then (-s, c) else if quad = 2 then (-c, -s) else (s, -c)

/-- The square root of 3 in units of 2^-160. -/
def sqrt3 : Int := Nat.sqrt (3 * 2 ^ 320)

end Sys2Proof.Machine
end

