-- ==== Sys2Proof/Machine/Axis.lean ====
section
/-! DEFINITION. The servo axes and their drives: records, current sensing, the current PI and the peak comparators (chapter 05). -/

namespace Sys2Proof.Machine

open Sys2Proof

/-- The drives hold: a switch-over (R47, R151) or TRANSFER (R320). -/
def State.drvHeld (s : State) : Bool := s.sk.hold.isSome || s.inTransfer

/-! Transforms and the current PI (R115, R116, R144) -/

/-- Clarke and Park of three phase currents at angle th, in 2^-24 turn. -/
def park3 (u v w th : Int) : Int × Int :=
  let a := roundDiv (2 * u - v - w) 3
  let b := roundDiv ((v - w) * 2 ^ 160) sqrt3.toNat
  let (c, s) := cosSin th 24
  (roundDiv (a * c + b * s) (2 ^ 160), roundDiv (b * c - a * s) (2 ^ 160))

/-- The inverse Park transform at angle a / 2^64 turn. -/
def ipark64 (d q a : Int) : Int × Int :=
  let (c, s) := cosSin a 64
  (roundDiv (d * c - q * s) (2 ^ 160), roundDiv (d * s + q * c) (2 ^ 160))

/-- The phase voltages of a vector (R116). -/
def svmPhases (a b : Int) : List Int :=
  let k := roundDiv (b * sqrt3) (2 ^ 161)
  let h := roundDiv a 2
  [a, -h + k, -h - k]

/-- The largest and the smallest of the phase voltages. -/
def svmMax (vs : List Int) : Int := vs.foldl max (vs.headD 0)
def svmMin (vs : List Int) : Int := vs.foldl min (vs.headD 0)

/-- The vector is scaled at bus voltage b0 (R116). -/
def svmScales (a b b0 : Int) : Bool :=
  decide (b0 ≤ 0) || decide (b0 < svmMax (svmPhases a b) - svmMin (svmPhases a b))

/-- The compare value of each phase: round((1 - d)(H + 1)), ties to even, of the duties of R116 (R135). -/
def svmCmp (a b b0 : Int) (h : Nat) : List Nat :=
  let vs := svmPhases a b
  let span := svmMax vs - svmMin vs
  let den := if b0 < span then span else b0
  if b0 ≤ 0 then List.replicate 3 (roundDiv (h + 1) 2).toNat
  else vs.map (fun v => (roundDiv ((den - (2 * v - svmMax vs - svmMin vs)) * (h + 1)) (2 * den).toNat).toNat)

/-- A field of a record's payload: word i, scaled by 2^-q into units of 2^-64, q a signed byte. -/
def recVal (r : OutRec) (i q : Nat) : Int :=
  let v := (r.pay.getD i 0).toInt
  let e := 64 - signed 8 q
  if 0 ≤ e then v * 2 ^ e.toNat else roundDiv v (2 ^ (-e).toNat)

/-- An unsigned field of a record's payload, scaled as `recVal` scales a signed one. -/
def recRate (r : OutRec) (i q : Nat) : Int :=
  let v : Int := (r.pay.getD i 0).toNat
  let e := 64 - signed 8 q
  if 0 ≤ e then v * 2 ^ e.toNat else roundDiv v (2 ^ (-e).toNat)

/-- MODE of an AXIS record (R147). -/
def recMode (r : OutRec) : Nat := (r.pay.getD 4 0).toNat / 2 ^ 8 % 8

/-- The mode in which a record is applied: VOLTAGE outside Bench and the reserved modes are taken as OFF (R148). -/
def State.modeOf (s : State) (r : OutRec) : Nat :=
  let m := recMode r
  if 4 ≤ m ∨ (m = 2 ∧ s.sk.st ≠ .bench) then 0 else m

/-- The winding references (id_w, iq_w) of R149, in 2^-64 A; MAXSPD is in units of 2^-8 (R330). -/
def State.refsOf (s : State) (l : DLane) (n : Nat) (r : OutRec) : Int × Int :=
  let b := axB l n
  let qi := s.fg b AX.RECCFG_QI
  let full := roundDiv ((s.fg b AX.ILIM_FULL : Int) * s.sk.capTq * 2 ^ 60) 100
  let wind := (s.fg b AX.ILIM_WIND : Int) * 2 ^ 60
  let iq := clampI (-full) full (recVal r 0 qi)
  let id := clampI (-full) full (recVal r 1 qi)
  let speed := (s.fbu l n).spdVal
  let bound := s.sk.capSpd * s.cfgMaxSpd n * 2 ^ s.fg (fuB l n) FB.SPDCFG_SPDQ
  let runaway := s.cfgMaxSpd n ≠ 0 ∧ bound < speed.natAbs * 100 * 2 ^ 8 ∧ iq.sign = speed.sign
  let iq := if runaway then 0 else iq
  let f := s.ownShare l n
  let den := if s.sk.st = .bench then 400 else 100
  (clampI (-wind) wind (roundDiv (f * id) den), clampI (-wind) wind (roundDiv (f * iq) den))

/-- The advanced angle of the last update in 2^-64 turn (R144, R145). -/
def State.advAngle (s : State) (l : DLane) (n : Nat) : Int :=
  let x := s.axis l n
  x.thU * 2 ^ 40 + roundDiv (x.omU * (s.fg (axB l n) AX.PWMCFG_ADV * 5 : Nat)) (10 ^ 9)

/-- The voltage (v_d, v_q) is applied: VOUT shows it, and CMP is formed (R135, R144). -/
def State.putVolts (s : State) (l : DLane) (n : Nat) (vd vq : Int) : State :=
  let b := axB l n
  let x := s.axis l n
  let v := ipark64 vd vq (s.advAngle l n)
  let s := (s.fsSat b AX.VOUT_VD (roundDiv vd (2 ^ 56))).fsSat b AX.VOUT_VQ (roundDiv vq (2 ^ 56))
  s.putCmp l n (svmCmp v.1 v.2 (x.vbus * 2 ^ 52) (s.halfClocks l n))

/-- One evaluation of R144 for the record in force; `upd` at an update instant, where alone the integrators and the run of
saturated updates move: the voltage is the same evaluation between them (R145, assumption 24), at the angle, speed and currents of
the last update. -/
def State.evalPi (s : State) (l : DLane) (n : Nat) (r : OutRec) (upd : Bool) : State :=
  let b := axB l n
  let x := s.axis l n
  let vb : Int := x.vbus * 2 ^ 52
  let m := park3 x.iu x.iv x.iw x.thU
  let w := s.refsOf l n r
  let ed := w.1 - m.1
  let eq := w.2 - m.2
  let k := fun (f : Fld) (e : Int) (p : Nat) => roundDiv (s.fg b f * e) (2 ^ p)
  let qv := s.fg b AX.RECCFG_QV
  let nd := clampI (-vb) vb (x.intD + k AX.KID_K ed 20)
  let nq := clampI (-vb) vb (x.intQ + k AX.KIQ_K eq 20)
  let pd := k AX.KPD_K ed 14 + recVal r 2 qv
  let pq := k AX.KPQ_K eq 14 + recVal r 3 qv
  let v := ipark64 (pd + nd) (pq + nq) (s.advAngle l n)
  let sat := svmScales v.1 v.2 vb
  let s := s.fs b AX.STATUS_SAT (if sat then 1 else 0)
  let s := if upd then
      s.setAxis l n { x with
        satRun := if sat then min 65 (x.satRun + 1) else 0
        intD := if sat then x.intD else nd, intQ := if sat then x.intQ else nq }
    else s
  if sat then s.putVolts l n (pd + x.intD) (pq + x.intQ) else s.putVolts l n (pd + nd) (pq + nq)

/-- The record in force acts on CMP (R144, R148). In OFF and SHORT, VOUT keeps the last voltage (model's choice, assumption 131). While
the mode is not CURRENT, or no update is evaluated, the run of saturated updates stands (model's choice, assumption 130). -/
def State.actRec (s : State) (l : DLane) (n : Nat) (r : OutRec) (upd : Bool) : State :=
  let b := axB l n
  match s.fg b AX.STATUS_MODE with
  | 1 => s.evalPi l n r upd
  | 2 =>
    let qv := s.fg b AX.RECCFG_QV
    s.putVolts l n (recVal r 2 qv) (recVal r 3 qv)
  | 3 => s.putCmp l n (List.replicate 3 (s.halfClocks l n + 1))
  | _ => s

/-! Records (R28, R29, R141, R151) -/

/-- A record of an axis is discarded under R29. -/
def State.axStale (s : State) (l : DLane) (n : Nat) : State :=
  (((s.fInc (axB l n) AX.COUNT_STALE).fs (axB l n) AX.EVT_STALE 1).raiseL l.lane 0x17 n)

/-- A record is applied; its effect on CMP is still to come. -/
def State.takeRec (s : State) (l : DLane) (n : Nat) (r : OutRec) : State :=
  let b := axB l n
  let m := s.modeOf r
  let bad := 4 ≤ recMode r || (recMode r == 2 && s.sk.st != .bench)
  let s := (s.fs b AX.STATUS_MODE m).fs b AX.STATUS_LASTTAG r.tag
  let x := s.axis l n
  let x := { x with used := some r, kept := none, tagOk := true, since := 0 }
  let s := s.setAxis l n (if m = 1 then x else { x with intD := 0, intQ := 0 })
  if bad then (s.fs b AX.EVT_MODE 1).raiseL l.lane 0xa2 n else s

/-- The kept record, if any, is applied. -/
def State.takeKept (s : State) (l : DLane) (n : Nat) : State :=
  match (s.axis l n).kept with
  | some r => s.takeRec l n r
  | none => s

/-- A hold has ended: every axis of the lane applies the record it kept (R48, R151). -/
def State.axKept (s : State) (l : DLane) (n : Nat) : State :=
  match (s.axis l n).kept with
  | some r => if s.axOn l n ∧ ¬ (s.axis l n).busLow then ((s.axSnap l n).takeRec l n r).actRec l n r false else s
  | none => s

/-- The first record of a kind and index among those on their way, and the others. -/
def takeFirst (kind index : Nat) (q : List OutRec) : Option (OutRec × List OutRec) :=
  match q with
  | [] => none
  | r :: t =>
    if r.kind = kind ∧ r.index = index then some (r, t)
    else (takeFirst kind index t).map (fun p => (p.1, r :: p.2))

/-- AXIS_RECORD_APPLY (R28, R29, R131, R141, R145, R151): the next record of the axis becomes readable in its drive. While the bus is low
the drive discards and counts every record but the newest. -/
def execAxisRecordApply (l : DLane) (n : Fin 6) (s : State) : Host.Outcome State Fault Refusal :=
  let bus := famGet (fun _ => ({} : BusSt)) s.buses (dno l)
  match takeFirst 1 n.val bus.drvQ with
  | none => .next s
  | some (r, q) =>
    let s := { s with buses := famSet (fun _ => ({} : BusSt)) s.buses (dno l) { bus with drvQ := q } }
    let x := s.axis l n.val
    if !s.axOn l n.val then .next s
    else if x.tagOk && older r.tag (s.fg (axB l n.val) AX.STATUS_LASTTAG) then .next (s.axStale l n.val)
    else if s.drvHeld || x.busLow then
      match x.kept with
      | some k =>
        if older r.tag k.tag then .next (s.axStale l n.val)
        else
          let s := s.setAxis l n.val { x with kept := some r }
          .next (if x.busLow then s.axStale l n.val else s)
      | none => .next (s.setAxis l n.val { x with kept := some r })
    else .next (((s.axSnap l n.val).takeRec l n.val r).actRec l n.val r false)

/-! The update instant (R138 to R144) -/

/-- The coefficient of the modulator that serves phase ph. -/
def calCoef (l : DLane) (n ph : Nat) : Nat := calB l.lane + 16 * n + 4 * ph

/-- The calibrated current of a phase in 2^-64 A (R138). -/
def State.phaseCurrent (s : State) (l : DLane) (n ph : Nat) (r : Int) : Int :=
  let c := calCoef l n ph
  let o3 : Int := (s.fg (axB l n) AX.SENSCFG_OSR : Int) ^ 3
  roundDiv ((r * 2 ^ 22 - s.fi c CAL.COEFU_OFS * o3) * (2 ^ 18 + s.fi c CAL.COEFU_GAIN) * s.fg (axB l n) AX.ISCALE_ISCALE * 2 ^ 16)
    o3.toNat

/-- The window of this update opened, `now` being its update instant (R137, R139). -/
def State.windowOpen (s : State) (l : DLane) (n : Nat) : Nat := s.now - (150 * s.fg (axB l n) AX.SENSCFG_OSR + 40)

/-- The provenance of phase ph at this update, that of the window centred on the beacon or another (R226, R234). -/
def State.provOf (s : State) (l : DLane) (n ph : Nat) (atB : Bool) : Nat :=
  let c := s.calx l n
  let p := s.fg (calB l.lane + 16 * n) CAL.MAP_PHASE
  let unsettled := match c.settle with
    | some t => decide (s.windowOpen l n < t)
    | none => false
  if p == 1 || unsettled then 3
  else if atB ∧ c.handed = some ph then 2
  else if (p = 5 ∨ p = 6) ∧ s.fg (calB l.lane + 16 * n) CAL.MAP_NEXT = ph ∧ c.conn ≤ s.windowOpen l n ∧ ¬ (atB ∧ c.renew) then 1
  else 0

/-- The handover that the beacon completed takes effect at the update of its window: the released modulator is the spare, and
the next step's REF0 starts (R227, R233). -/
def State.calUpdate (s : State) (l : DLane) (n : Nat) (atB : Bool) : State :=
  let c := s.calx l n
  if !atB then s
  else
    let b := calB l.lane + 16 * n
    let s := match c.switched with
      | some m => if c.handed.isSome then s.fs b CAL.MAP_SPARE m else s
      | none => s
    let s := if c.renew then s.fs b CAL.MAP_PHASE 2 else s
    s.setCal l n { s.calx l n with
      handed := none, renew := false
      switched := if c.handed.isSome then none else c.switched
      inStep := c.inStep || c.renew, refDone := c.refDone && !c.renew, at_ := if c.renew then s.now else c.at_ }

/-- A value in 2^-64 units as a sample VALUE at binary point 12 (R140). -/
def sampleVal (x : Int) : Nat := unsigned 32 (clampI (-(2 ^ 31)) (2 ^ 31 - 1) (roundDiv x (2 ^ 52)))

/-- The runs of windows out of the linear range, per phase, after a window with sinc3 outputs `rs` (R138). -/
def rangeRuns (o3 cnt : Nat) (runs : List Nat) (rs : List Int) : List Nat :=
  (List.range 3).map fun i =>
    if 250 * o3 < 320 * (rs.getD i 0).natAbs then min (cnt + 1) (runs.getD i 0 + 1) else 0

/-- RNGCNT, 0 meaning 16. -/
def State.rngCnt (s : State) (l : DLane) (n : Nat) : Nat :=
  if s.fg (axB l n) AX.SENSCFG_RNGCNT = 0 then 16 else s.fg (axB l n) AX.SENSCFG_RNGCNT

/-- The update's instant in the period (R137, R139): half a window and 40 ns after the centre or the boundary. -/
def State.updateCount (s : State) (l : DLane) (n : Nat) (centre : Bool) : Nat :=
  let h := s.halfClocks l n
  let d := min (15 * s.fg (axB l n) AX.SENSCFG_OSR + 8) (h - 1)
  if centre then h - d else d

/-- What an update measures: currents, the selected bus voltage, and the angle and speed at the window's centre (R138 to R140, R144). -/
def State.sense (s : State) (l : DLane) (n : Nat) (rs : List Int) (vbus : Nat) : State :=
  let x := s.axis l n
  let cur := fun ph => s.phaseCurrent l n ph (rs.getD ph 0)
  s.setAxis l n { x with
    iu := cur 0, iv := cur 1, iw := cur 2, thU := x.thS, omU := x.omS, vbus := vbus, busLow := decide (vbus < 4 * 2 ^ 12)
    busBad := vbus == 0 || decide (75 * 2 ^ 12 ≤ vbus)
    rngRun := rangeRuns (s.fg (axB l n) AX.SENSCFG_OSR ^ 3) (s.rngCnt l n) x.rngRun rs }

/-- DRIVE_UPDATE (R138 to R141, R144, R146): the sinc3 outputs of the live phases and the bus voltage make one update; a kept
record is applied once the bus is back. -/
def execDriveUpdate (l : DLane) (n : Fin 6) (centre : Bool) (ru rv rw : Int) (vbus : Nat × Nat) (s : State) :
    Host.Outcome State Fault Refusal :=
  let b := axB l n.val
  if !s.axOn l n.val || (!centre && !s.fb b AX.PWMCFG_DBLUPD) then .next s
  else
    let s := ((s.axTurn l n.val (!centre) (s.updateCount l n.val centre)).axSnap l n.val)
    let s := s.sense l n.val [ru, rv, rw] (if s.fb b AX.SENSCFG_BUSSEL then vbus.2 else vbus.1)
    let x := s.axis l n.val
    let s := if x.busLow || s.drvHeld then s else s.takeKept l n.val
    let m := park3 x.iu x.iv x.iw x.thU
    let s := (s.fsSat b AX.IMEAS_ID (roundDiv m.1 (2 ^ 60))).fsSat b AX.IMEAS_IQ (roundDiv m.2 (2 ^ 60))
    let atB := centre && x.upd == 0
    let pv := [s.provOf l n.val 0 atB, s.provOf l n.val 1 atB, s.provOf l n.val 2 atB]
    let pm := pv.foldl max 0
    let smp := [[sampleVal x.iu, 12, pv.getD 0 0], [sampleVal x.iv, 12, pv.getD 1 0], [sampleVal x.iw, 12, pv.getD 2 0],
                [sampleVal m.1, 12, pm], [sampleVal m.2, 12, pm], [x.vbus, 12, if x.busBad then 3 else 0]]
    let s := s.setAxis l n.val { s.axis l n.val with
      queue := smp, samples := if atB then smp else (s.axis l n.val).samples, upd := x.upd + 1, updAt := s.now }
    let s := s.calUpdate l n.val atB
    let s := match (s.axis l n.val).used with
      | some r => if x.busLow then s else s.actRec l n.val r true
      | none => s
    .next (s.trig l.lane (2 + n.val))

/-! Faults of the drive -/

/-- A blanking interval of phase ph runs at clock t of the axis's counter (R142). -/
def State.blanked (s : State) (l : DLane) (n ph t : Nat) : Bool :=
  match ((s.axis l n).pwm.edges.getD ph none) with
  | none => false
  | some e => decide (t < e + s.fg (axB l n) AX.OCP_BLANK)

/-- PEAK_TRIP (R142): the shunt voltage of a phase is above the threshold in a clock in which no blanking interval runs; all six gates
go off until the next half-period. Another phase's trip in a half-period that has tripped already is no further trip (model's choice,
assumption 129). -/
def execPeakTrip (l : DLane) (n : Fin 6) (ph : Fin 3) (rising : Bool) (c uv : Nat) (s : State) : Host.Outcome State Fault Refusal :=
  let b := axB l n.val
  if !s.cellEn l (3 * n.val) then .next s
  else
    let s := if s.axOn l n.val && pwmCount (s.halfClocks l n.val) rising c then s.axTurn l n.val rising c else s
    let x := s.axis l n.val
    if x.tripped || decide (uv ≤ s.fg b AX.OCP_THR * 1250) || s.blanked l n.val ph.val x.pwm.clk then .next s
    else
      let s := s.setAxis l n.val { x with
        tripped := true, ocpRun := x.ocpRun + 1, pwm := { x.pwm with hs := [false, false, false] } }
      let s := s.axGates l n.val
      .next (if s.running l.lane then (s.fs b AX.EVT_OCP 1).fInc b AX.COUNT_OCP else s)

/-- AX_OVERCURRENT (R143): trips in LIMIT consecutive half-periods keep the cells off. -/
def execAxOvercurrent (l : DLane) (n : Fin 6) (s : State) : Host.Outcome State Fault Refusal :=
  let x := s.axis l n.val
  if !s.axOn l n.val || x.ocOff || decide (x.ocpRun < max 1 (s.fg (axB l n.val) AX.OCP_LIMIT)) then .next s
  else .next ((s.setAxis l n.val { x with ocOff := true }).raiseL l.lane 0xa0 n.val)

/-- AX_SAT_LONG (R144): the 64th consecutive saturated update. -/
def execAxSatLong (l : DLane) (n : Fin 6) (s : State) : Host.Outcome State Fault Refusal :=
  if s.axOn l n.val && (s.axis l n.val).satRun == 64 then
    .next ((s.fs (axB l n.val) AX.EVT_SAT_LONG 1).raiseL l.lane 0xa4 n.val)
  else .next s

/-- AX_SENSE_RANGE (R138): a phase out of the linear range in RNGCNT consecutive windows. -/
def execAxSenseRange (l : DLane) (n : Fin 6) (s : State) : Host.Outcome State Fault Refusal :=
  if s.axOn l n.val && (s.axis l n.val).rngRun.contains (s.rngCnt l n.val) then
    .next ((s.fs (axB l n.val) AX.EVT_RANGE 1).raiseL l.lane 0xa5 n.val)
  else .next s

/-- AX_REC_TIMEOUT (R152): the count of beacons without a record has reached RTMO. -/
def execAxRecTimeout (l : DLane) (n : Fin 6) (s : State) : Host.Outcome State Fault Refusal :=
  let b := axB l n.val
  let lim := s.fg b AX.RECCFG_RTMO
  if s.axOn l n.val && lim != 0 && (s.axis l n.val).since == lim then
    .next ((s.fs b AX.EVT_TMO 1).raiseL l.lane 0xa1 n.val)
  else .next s

/-! The enable (R131, R155, R226) -/

/-- None of the conditions of R131 holds. -/
def State.axCfgOk (s : State) (l : DLane) (n : Nat) : Bool :=
  let g := fun f => s.fg (axB l n) f
  let h := s.halfClocks l n
  let upd := if g AX.PWMCFG_DBLUPD = 1 then 5 * h else 10 * h
  g AX.COMM_PP != 0 && g AX.CPR_CPR != 0 && g AX.ISCALE_ISCALE != 0 && g AX.ILIM_WIND != 0 && g AX.ILIM_FULL != 0 &&
  within (g AX.SENSCFG_OSR) 8 256 && decide (25 * 2 ^ g AX.PWMCFG_DIV ≤ s.sk.t) && decide (150 * g AX.SENSCFG_OSR + 40 ≤ upd)

/-- Live calibration of an axis begins its start calibration, where both enables are 1 (R226). -/
def State.calBegin (s : State) (l : DLane) (n : Nat) : State :=
  let b := calB l.lane + 16 * n
  if s.fb (calB l.lane) CAL.CTRL_EN && s.fb (axB l n) AX.CTRL_EN && s.fg b CAL.MAP_PHASE == 0 then
    (s.setCal l n { at_ := s.now }).fs b CAL.MAP_PHASE 1
  else s

/-- Live calibration of an axis stops; its coefficients stay (R237). -/
def State.calEnd (s : State) (l : DLane) (n : Nat) : State :=
  (s.setCal l n {}).fs (calB l.lane + 16 * n) CAL.MAP_PHASE 0

/-- A restored angle makes an axis of SRC 0 ALIGNED (R155, R218). -/
def State.alignKeep (s : State) (l : DLane) (n : Nat) : State :=
  let x := s.axis l n
  match x.ret with
  | some (th, t) =>
    if s.commSrc l n = 0 then
      (s.setAxis l n { x with base := some th, ce := t, ret := none, theta := th }).setAlign l n 2
    else s.setAxis l n { x with ret := none }
  | none => s

/-- Where an enabled axis starts its alignment: ALIGNED at a restored angle, or HALL from an accepted Hall code (R155); in NONE while its
feedback unit is off (R186). -/
def State.alignStart (s : State) (l : DLane) (n : Nat) : State :=
  let s := if s.fbOn l n then s.alignKeep l n else s
  let legal := ((s.fbu l n).hall.bind hallSector).isSome
  if s.fbOn l n ∧ s.commSrc l n ≠ 1 ∧ legal ∧ s.fg (axB l n) AX.STATUS_ALIGN = 0 then s.setAlign l n 1 else s

/-- The axis is disabled: its phases go off, and its live calibration stops (R131, R237). -/
def State.axDisable (s : State) (l : DLane) (n : Nat) : State :=
  let s := s.setAxis l n { s.axis l n with pwm := { (s.axis l n).pwm with live := [false, false, false], hs := [false, false, false] } }
  ((s.axGates l n).fs (axB l n) AX.CTRL_EN 0).calEnd l n

/-- AX_EN_WRITE (R131): the axis is enabled, or the write refused with 0x0A7, which leaves EN 0. Read-only once the unit has left
Chorus. -/
def execAxEnWrite (l : DLane) (n : Fin 6) (v : Word) (s : State) : Host.Outcome State Fault Refusal :=
  let b := axB l n.val
  if !s.running l.lane || (s.lane l.lane).locked then .next s
  else if !v.getLsbD 0 then .next (s.axDisable l n.val)
  else if !s.axCfgOk l n.val then
    .next ((if s.fb b AX.CTRL_EN then s.axDisable l n.val else s).raiseL l.lane 0xa7 n.val)
  else if s.fb b AX.CTRL_EN then .next s
  else
    let s := s.fs b AX.CTRL_EN 1
    let s := s.setAxis l n.val { s.axis l n.val with intD := 0, intQ := 0, since := 0, upd := 1 }
    .next ((s.alignStart l n.val).calBegin l n.val)

end Sys2Proof.Machine
end

