-- ==== Sys2Proof/Machine/Cal.lean ====
section
/-! DEFINITION. Live calibration of the axes (chapter 08). -/

namespace Sys2Proof.Machine

open Sys2Proof

/-- The registers of an axis in the calibration block. -/
def calA (l : DLane) (n : Nat) : Nat := calB l.lane + 16 * n

/-- Live calibration of axis n runs (R226). -/
def State.calRuns (s : State) (l : DLane) (n : Nat) : Bool :=
  s.running l.lane && s.fb (calB l.lane) CAL.CTRL_EN && s.fb (axB l n) AX.CTRL_EN

/-- The settling samples and the sample interval in nanoseconds (R224, R245). -/
def State.calSettle (s : State) (l : Lane) : Nat := if s.fg (calB l) CAL.CFG_SETTLE = 0 then 16 else s.fg (calB l) CAL.CFG_SETTLE
def State.calTau (s : State) (l : Lane) : Nat := 50 * s.fg (calB l) CAL.CFG_CALOSR

/-- A gain num / den, less 1, in units of 2^-18, and an offset num / den of full scale in units of 2^-22, saturated (R236). -/
def gainField (num : Int) (den : Nat) : Int := clampI (-(2 ^ 15)) (2 ^ 15 - 1) (roundDiv ((num - den) * 2 ^ 18) den)
def ofsField (num : Int) (den : Nat) : Int := clampI (-(2 ^ 15)) (2 ^ 15 - 1) (roundDiv (num * 2 ^ 22) den)

/-- A coefficient word (R236). -/
def coefWord (ofs gain : Int) : Word := BitVec.ofNat 32 (unsigned 16 ofs + unsigned 16 gain * 2 ^ 16)

/-- Sums of a list of readings. -/
def sumI (xs : List Int) : Int := xs.foldl (· + ·) 0

/-- The reference coefficients of readings whose means are z / d and r / d of full scale, and whether they lie in the range of R230:
the gain is 5 d / (8 (r - z)). -/
def refCoef (z r : Int) (d : Nat) : Word × Bool :=
  let e := 8 * (r - z)
  if e ≤ 0 then (coefWord (ofsField z d) (2 ^ 15 - 1), false)
  else
    (coefWord (ofsField z d) (gainField (5 * d) e.toNat),
     decide (950 * e ≤ 5000 * d) && decide (5000 * d ≤ 1050 * e) && decide (z.natAbs * 10000 ≤ 78 * d))

/-- The reference coefficients that samples with sinc3 outputs `zero` and `ref` give: NREF samples each, normalised by CALOSR^3
(R225, R230). -/
def State.calRef (s : State) (l : Lane) (zero ref : List Int) : Word × Bool :=
  refCoef (sumI zero) (sumI ref) (zero.length * s.fg (calB l) CAL.CFG_CALOSR ^ 3)

/-- NREF, in samples (R245). -/
def State.calNref (s : State) (l : Lane) : Nat := 8 * s.fg (calB l) CAL.CFG_NREF

/-- The reference measurement that began at `at_` has ended (R226, R227). -/
def State.refOver (s : State) (l : DLane) (n : Nat) : Bool :=
  decide ((s.calx l n).at_ + 2 * (s.calSettle l.lane + s.calNref l.lane) * s.calTau l.lane + 320 ≤ s.now)

/-- The fields of a coefficient word. -/
def coefOfs (w : Word) : Int := signed 16 (w.toNat % 2 ^ 16)
def coefGain (w : Word) : Int := signed 16 (w.toNat / 2 ^ 16)

/-- A modulator is marked failed (R230): no further step. -/
def State.refFail (s : State) (l : DLane) (n m : Nat) : State :=
  ((s.fs (calA l n) CAL.MAP_PHASE 7).fs (calB l.lane) CAL.EVT_REF_FAIL 1).raiseL l.lane 0xc0 n m

/-- Modulator m's reference is stored. -/
def State.putRef (s : State) (l : DLane) (n m : Nat) (w : Word) : State := s.setReg (calA l n + 0x100 + 4 * m) w

/-- CAL_START_DONE (R226): the start calibration ends, with each modulator's samples of the two references; every modulator takes its o
and g, M0 to M2 serve u, v and w, and M3 is the spare. -/
def execCalStartDone (l : DLane) (n : Fin 6) (zero ref : List (List Int)) (s : State) : Host.Outcome State Fault Refusal :=
  let a := calA l n.val
  if !s.calRuns l n.val || s.fg a CAL.MAP_PHASE != 1 || !s.refOver l n.val || !(zero ++ ref).all (·.length == s.calNref l.lane) then .next s
  else
    let c := fun m => s.calRef l.lane (zero.getD m []) (ref.getD m [])
    let s := ((s.fs a CAL.MAP_U 0).fs a CAL.MAP_V 1).fs a CAL.MAP_W 2
    let s := ((s.fs a CAL.MAP_SPARE 3).fs a CAL.MAP_PHASE 4).fs a CAL.MAP_NEXT 0
    let s := (List.range 3).foldl (fun s m => s.setReg (a + 0x44 + 4 * m) (c m).1) s
    let s := s.setCal l n.val { settle := some (s.now + s.calSettle l.lane * s.calTau l.lane) }
    .next ((List.range 4).foldl (fun s m =>
      let s := s.putRef l n.val m (c m).1
      if (c m).2 then s else s.refFail l n.val m) s)

/-- A reference is compared with the modulator's first one since the start calibration (R240). -/
def State.calDrift (s : State) (l : DLane) (n m : Nat) (w : Word) : State :=
  let c := s.calx l n
  match c.first.find? (fun p => p.1 == m) with
  | none => s.setCal l n { c with first := (m, w) :: c.first }
  | some (_, f) =>
    let b := calB l.lane
    let dg := (coefGain w - coefGain f).natAbs * 10000
    let moved := decide ((s.fg b CAL.DRIFT_GDRIFT : Int) * (2 ^ 18 + coefGain f) < dg) ||
      decide (s.fg b CAL.DRIFT_ODRIFT < (coefOfs w - coefOfs f).natAbs)
    if moved then (s.fs b CAL.EVT_DRIFT 1).raiseL l.lane 0xc3 n m else s

/-- CAL_REF_DONE (R230, R240): ESTIMATE ends, with the spare's samples of REF0 and REF1; its reference is stored, checked for its range
and for drift. -/
def execCalRefDone (l : DLane) (n : Fin 6) (zero ref : List Int) (s : State) : Host.Outcome State Fault Refusal :=
  let a := calA l n.val
  if !s.calRuns l n.val || s.fg a CAL.MAP_PHASE != 2 || !s.refOver l n.val || zero.length != s.calNref l.lane ||
      ref.length != s.calNref l.lane then .next s
  else
    let m := s.fg a CAL.MAP_SPARE
    let c := s.calRef l.lane zero ref
    let s := s.putRef l n.val m c.1
    if c.2 then
      let s := (s.fs a CAL.MAP_PHASE 4).calDrift l n.val m c.1
      .next (s.setCal l n.val { s.calx l n.val with refDone := true })
    else .next ((s.calDrift l n.val m c.1).refFail l n.val m)

/-- The step is cancelled (R232): 1 MISMATCH, 2 RANGE, 3 SHORT. -/
def State.calCancel (s : State) (l : DLane) (n why : Nat) : State :=
  let b := calB l.lane
  let a := calA l n
  let s := s.setCal l n { s.calx l n with cancel := why, lastCancel := true, cand := none }
  let s := (s.fs b CAL.EVT_CANCEL 1).fInc b (if why = 3 then CAL.CANCEL_SHORT else CAL.CANCEL_MISMATCH)
  if why = 1 then
    let s := (s.fInc a CAL.MAP_CANCELRUN).raiseL l.lane 0xc1 n (s.fg a CAL.MAP_SPARE)
    if 3 ≤ s.fg a CAL.MAP_CANCELRUN then (s.fs b CAL.EVT_STUCK 1).raiseL l.lane 0xc2 n (s.fg a CAL.MAP_SPARE) else s
  else s.fs a CAL.MAP_CANCELRUN 0

/-- The unit cycles from this one to the next handover beacon (R227): fewer than STEPCYC where the counter wraps in between. -/
def State.calNext (s : State) (l : Lane) : Nat :=
  let step := s.fg (calB l) CAL.CTRL_STEPCYC
  let ph := s.fg (calB l) CAL.CTRL_CALPHASE
  let d := step - (s.sk.cycle + step * 2 ^ 12 - ph) % step
  if 2 ^ 32 ≤ s.sk.cycle + d then 2 ^ 32 - s.sk.cycle + ph % step else d

/-- The windows of a unit cycle (R132, R139). -/
def State.windows (s : State) (l : DLane) (n : Nat) : Nat :=
  2 ^ s.fg (axB l n) AX.PWMCFG_DIV * (if s.fb (axB l n) AX.PWMCFG_DBLUPD then 2 else 1)

/-- It is the update instant of the i-th window after the beacon's own, or that instant has come and the update is not made yet (R137). -/
def State.windowDue (s : State) (l : DLane) (n i : Nat) : Bool :=
  let x := s.axis l n
  (x.upd == i + 1 && x.updAt == s.now) ||
    (x.upd == i && decide (s.sk.beaconAt + i * (1000 * s.sk.t / s.windows l n) + 75 * s.fg (axB l n) AX.SENSCFG_OSR + 40 ≤ s.now))

/-- CAL_CONNECT (R227): at the update instant of the window centred on the beacon OVLCYC cycles before the handover, the spare's
selector goes to the target phase's shunt. While the calibration engine is in its BIST window the step is cancelled (R495). -/
def execCalConnect (l : DLane) (n : Fin 6) (s : State) : Host.Outcome State Fault Refusal :=
  let a := calA l n.val
  let c := s.calx l n.val
  if s.calRuns l n.val && s.fg a CAL.MAP_PHASE == 4 && c.refDone && c.inStep &&
      s.calNext l.lane == s.fg (calB l.lane) CAL.CTRL_OVLCYC && s.windowDue l n.val 0 then
    if s.bistIn l.lane 66 then .next (if c.cancel = 0 then s.calCancel l n.val 3 else s)
    else .next ((s.setCal l n.val { c with conn := s.now, at_ := s.now }).fs a CAL.MAP_PHASE 5)
  else .next s

/-- A sample of the pair lies beyond 250 / 320 of full scale (R232). -/
def overRange (o3 : Nat) (rs : List Int) : Bool := rs.any fun r => decide (250 * o3 < 320 * r.natAbs)

/-- CAL_OVERLAP_DONE (R231, R232): the overlap's estimate ends, with the sinc3 outputs of the pair, `rl` of the live modulator and `ru`
of the spare; the candidate coefficients of the spare are formed and checked. Readings are in units of 2^-40 / CALOSR^3. -/
def execCalOverlapDone (l : DLane) (n : Fin 6) (rl ru : List Int) (s : State) : Host.Outcome State Fault Refusal :=
  let a := calA l n.val
  let b := calB l.lane
  let p := s.fg a CAL.MAP_PHASE
  let c := s.calx l n.val
  let ovl := s.fg b CAL.CFG_OVL
  let done := decide (c.conn + (s.calSettle l.lane + ovl) * s.calTau l.lane + 320 ≤ s.now)
  if !s.calRuns l n.val || (p != 5 && p != 6) || c.cand.isSome || c.cancel != 0 || !done || rl.isEmpty || rl.length != ovl ||
      ru.length != ovl then .next s
  else
    let o3 := s.fg b CAL.CFG_CALOSR ^ 3
    let ca := a + 4 * s.fg a CAL.MAP_NEXT
    let z := rl.map fun r => (r * 2 ^ 22 - s.fi ca CAL.COEFU_OFS * o3) * (2 ^ 18 + s.fi ca CAL.COEFU_GAIN)
    let u := ru.map (· * 2 ^ 40)
    let k : Int := z.length
    let sz := sumI z
    let su := sumI u
    let szz := k * sumI (z.map (fun x => x * x)) - sz * sz
    let szu := k * sumI (List.zipWith (· * ·) z u) - sz * su
    let span := z.foldl max (z.headD 0) - z.foldl min (z.headD 0)
    let w := s.reg (a + 0x100 + 4 * s.fg a CAL.MAP_SPARE)
    let gref : Int := 2 ^ 18 + coefGain w
    let wide := decide ((s.fg b CAL.TOL_MINSPAN : Int) * o3 * 2 ^ 32 ≤ span)
    let s := (s.fs a CAL.MAP_PHASE 6).fs a CAL.MAP_SPAN_LOW (if wide then 0 else 1)
    let s := if wide then s else s.fs b CAL.EVT_SPAN_LOW 1
    let gn : Int := if wide then szz else gref
    let gd : Int := if wide then szu else 2 ^ 18
    if gn ≤ 0 ∨ gd ≤ 0 then .next (s.calCancel l n.val 1)
    else
      -- the offset is (su - sz * gd / gn) / k
      let on : Int := su * gn - sz * gd
      let od := k.toNat * gn.toNat * o3 * 2 ^ 40
      let dg : Nat := (gn * 2 ^ 18 - gd * gref).natAbs * 10000
      let gbad := decide ((s.fg b CAL.TOL_GTOL : Int) * gd * gref < dg)
      let obad := decide (s.fg b CAL.TOL_OTOL * od < (on * 2 ^ 22 - coefOfs w * od).natAbs)
      if gbad || obad then .next (s.calCancel l n.val 1)
      else if overRange o3 (rl ++ ru) then .next (s.calCancel l n.val 2)
      else
        .next (s.setCal l n.val { s.calx l n.val with cand := some (coefWord (ofsField on od) (gainField gn gd.toNat)) })

/-- The modulator field of a phase in MAP. -/
def calMapOf (ph : Nat) : Fld := if ph = 0 then CAL.MAP_U else if ph = 1 then CAL.MAP_V else CAL.MAP_W

/-- CAL_SWITCH (R227, R229, R233): at the update instant of the cycle's last window before the handover beacon, the target phase's
window source moves to the spare. -/
def execCalSwitch (l : DLane) (n : Fin 6) (s : State) : Host.Outcome State Fault Refusal :=
  let a := calA l n.val
  let c := s.calx l n.val
  if s.calRuns l n.val && c.cand.isSome && c.switched.isNone && s.calNext l.lane == 1 &&
      s.windowDue l n.val (s.windows l n.val - 1) then
    let f := calMapOf (s.fg a CAL.MAP_NEXT)
    let m := s.fg a f
    .next ((s.setCal l n.val { c with switched := some m }).fs a f (s.fg a CAL.MAP_SPARE))
  else .next s

/-- An axis at a handover beacon (R227, R232, R233): its handover completes, or its step is cancelled. -/
def State.calBeacon (s : State) (l : DLane) (n : Nat) : State :=
  let a := calA l n
  let p := s.fg a CAL.MAP_PHASE
  let c := s.calx l n
  if !s.calRuns l n || p == 0 || p == 1 || p == 7 then s
  else
    let s := match c.cand, c.switched with
      | some w, some _ =>
        let t := s.fg a CAL.MAP_NEXT
        let s := (s.setReg (a + 0x44 + 4 * t) w).setCal l n { c with handed := some t, cand := none, lastCancel := false }
        (s.fs a CAL.MAP_NEXT ((t + 1) % 3)).fs a CAL.MAP_CANCELRUN 0
      | _, _ => if c.inStep && c.cancel == 0 then s.calCancel l n 3 else s
    s.setCal l n { s.calx l n with cancel := 0, refDone := false, renew := true }

/-- A handover beacon, in any lane that runs (R227). -/
def State.calHandover (s : State) (l : Lane) : State :=
  let b := calB l
  let step := s.fg b CAL.CTRL_STEPCYC
  let ph := s.fg b CAL.CTRL_CALPHASE
  if !s.running l || step == 0 || (s.sk.cycle + step * 2 ^ 12 - ph) % step != 0 then s
  else
    let s := (s.fs b CAL.EPOCH_EPOCH (s.fg b CAL.EPOCH_EPOCH + 1)).icEdge l 43
    match asDrive l with
    | some d => ((List.range 6).foldl (fun s n => s.calBeacon d n) s).trig l 61
    | none => s

/-- The conditions of R228 on the fields in force. -/
def State.calCfgOk (s : State) (l : Lane) : Bool :=
  let g := fun f => s.fg (calB l) f
  let tau := s.calTau l
  let sb := s.calSettle l
  let t := s.sk.t * 1000
  let step := g CAL.CTRL_STEPCYC
  let ovl := g CAL.CTRL_OVLCYC
  4 ≤ step && ovl != 0 && ovl < step && within (g CAL.CFG_CALOSR) 8 256 && g CAL.CFG_NREF != 0 && 8 ≤ g CAL.CFG_OVL &&
  (2 * sb + 16 * g CAL.CFG_NREF) * tau + 320 ≤ (step - ovl) * t &&
  (sb + g CAL.CFG_OVL) * tau + 320 ≤ (ovl - 1) * t

/-- CAL_EN_WRITE (R228): CAL.CTRL is written; calibration is enabled, or EN stays 0 with 0x0C7. Read-only once the unit has left
Chorus. -/
def execCalEnWrite (l : Lane) (v : Word) (s : State) : Host.Outcome State Fault Refusal :=
  let b := calB l
  if !s.running l || (s.lane l).locked then .next s
  else
    let was := s.fb b CAL.CTRL_EN
    let s := s.rowPut l false 0x40800000 v
    let all := fun (f : State → DLane → Nat → State) (s : State) =>
      match asDrive l with
      | some d => (List.range 6).foldl (fun s n => f s d n) s
      | none => s
    if !v.getLsbD 0 then .next (if was then all State.calEnd s else s)
    else if s.calCfgOk l then .next (if was then s else all State.calBegin s)
    else .next (all State.calEnd ((s.fs b CAL.CTRL_EN 0).raiseL l 0xc7 255))

end Sys2Proof.Machine
end

