-- ==== Sys2Proof/Machine/Block.lean ====
section
/-! DEFINITION. Block-floating numbers: exact values, the one rounding of R68 to R70, and the real functions of R110. -/

namespace Sys2Proof.Machine

open Sys2Proof

/-- The zero block with eight elements. -/
def Blk.zero : Blk := {}

/-- Element i in units of 2^-160; 0 where it is absent (R66). -/
def Blk.val (b : Blk) (i : Nat) : Int := if i < b.n then b.m.getD i 0 * 2 ^ (b.e + 137).toNat else 0

/-- An exact result: a fraction, a positive or negative square root of a fraction, or a value larger than any block holds (R112). -/
inductive Ex where
  | frac (n : Int) (d : Nat)
  | root (neg : Bool) (n d : Nat)
  | huge
  deriving DecidableEq, Repr

/-- An integer in units of 2^-160. -/
def Ex.ofVal (v : Int) : Ex := .frac v (2 ^ 160)

/-- An integer in units of 2^-320. -/
def Ex.ofProd (v : Int) : Ex := .frac v (2 ^ 320)

/-- The largest k with 2^k ≤ n / d, for a positive fraction. -/
def log2Frac (n d : Nat) : Int :=
  let k : Int := (Nat.log2 n : Int) - Nat.log2 d
  if (if 0 ≤ k then d * 2 ^ k.toNat else d) ≤ (if 0 ≤ k then n else n * 2 ^ (-k).toNat) then k else k - 1

/-- The e for which a magnitude lies in [2^(e-1), 2^e); none for 0 (R68). -/
def Ex.expo : Ex → Option Int
  | .frac n d => if n = 0 ∨ d = 0 then none else some (log2Frac n.natAbs d + 1)
  | .root _ n d => if n = 0 ∨ d = 0 then none else some (log2Frac n d / 2 + 1)
  | .huge => some 200

/-- The square root of n / d rounded to the nearest integer, ties to even. -/
def sqrtRound (n d : Nat) : Nat :=
  let q := Nat.sqrt (n / d)
  let lo := (4 * q * q + 4 * q + 1) * d
  if lo < 4 * n then q + 1 else if lo = 4 * n ∧ q % 2 = 1 then q + 1 else q

/-- A value rounded at the unit 2^u, to the nearest, ties to even (R68). -/
def Ex.round (x : Ex) (u : Int) : Int :=
  match x with
  | .frac n d => if 0 ≤ u then roundDiv n (d * 2 ^ u.toNat) else roundDiv (n * 2 ^ (-u).toNat) d
  | .root neg n d =>
    let r : Int := if 0 ≤ u then sqrtRound n (d * 4 ^ u.toNat) else sqrtRound (n * 4 ^ (-u).toNat) d
    if neg then -r else r
  | .huge => 2 ^ 24

/-- The mantissas of the values at exponent e. -/
def mants (xs : List Ex) (e : Int) : List Int := xs.map (fun x => x.round (e - 23))

/-- A block of n elements with these mantissas; a block whose elements are all 0 is the zero block (R67). -/
def mkBlk (e : Int) (ms : List Int) : Blk :=
  if ms.all (· == 0) then { n := ms.length }
  else { n := ms.length, e := e, m := ms ++ List.replicate (8 - ms.length) 0 }

/-- The largest exponent the values ask for. -/
def maxExpo (xs : List Ex) : Option Int :=
  xs.foldl (fun acc x => match acc, x.expo with
    | none, e => e
    | a, none => a
    | some a, some b => some (max a b)) none

/-- The block of exact values, rounded once (R68 to R70), and whether it saturated. -/
def roundBlk (xs : List Ex) : Blk × Bool :=
  match maxExpo xs with
  | none => ({ n := xs.length }, false)
  | some e0 =>
    let e := if -127 ≤ e0 ∧ (mants xs e0).any (fun m => m.natAbs == 2 ^ 23) then e0 + 1 else e0
    if 127 < e then (mkBlk 127 ((mants xs 127).map (clampI (-(2 ^ 23 - 1)) (2 ^ 23 - 1))), true)
    else if e < -127 then (mkBlk (-127) (mants xs (-127)), false)
    else (mkBlk e (mants xs e), false)

/-! The real functions (R110, R115, assumption 7) -/

/-- 2π in units of 2^-1100. -/
def twoPi : Nat :=
  0x6487ed5110b4611a62633145c06e0e68948127044533e63a0105df531d89cd9128a5043cc71a026ef7ca8cd9e69d218d98158536f92f8a1ba7f09ab6b6a8e122f242dabb312f3f637a262174d31bf6b585ffae5b7a035bf6f71c35fdad44cfd2d74f9208be258ff324943328f6722d9ee1003e5c50b1df82cc6d241b0e2ae9cd348b1fd47e9267afc1b2

/-- The terms of the series of cosine (k even) or sine (k odd) from `term` on, in units of 2^-1024: `sq` is x squared. -/
def series : Nat → Int → Nat → Int → Int → Int
  | 0, _, _, _, acc => acc
  | n + 1, sq, k, term, acc => series n sq (k + 2) (-(term * sq / 2 ^ 1024) / ((k + 1) * (k + 2) : Nat)) (acc + term)

/-- Cosine and sine of v turns, v in units of 2^-160, in units of 2^-1024: v modulo 1 exactly, and exact at quarter turns. -/
def cosSinT (v : Int) : Int × Int :=
  let m : Int := v % 2 ^ 160
  let quad : Int := 4 * m / 2 ^ 160
  let r : Int := 4 * m - quad * 2 ^ 160
  let x : Int := r * (twoPi : Int) / 2 ^ (162 + 76)
  let sq : Int := x * x / 2 ^ 1024
  let c : Int := if r = 0 then 2 ^ 1024 else series 100 sq 0 (2 ^ 1024) 0
  let s : Int := if r = 0 then 0 else series 100 sq 1 x 0
  if quad = 0 then (c, s) else if quad = 1 then (-s, c) else if quad = 2 then (-c, -s) else (s, -c)

/-- The arctangent series of x from `pow` on, in units of 2^-1024. -/
def atanSeries : Nat → Int → Nat → Int → Int → Int
  | 0, _, _, _, acc => acc
  | n + 1, sq, k, pow, acc => atanSeries n sq (k + 2) (-(pow * sq / 2 ^ 1024)) (acc + pow / (k : Int))

/-- x / (1 + √(1 + x²)), which has half of x's arctangent, k times; in units of 2^-1024. -/
def atanHalve : Nat → Nat → Nat
  | 0, x => x
  | k + 1, x => atanHalve k (x * 2 ^ 1024 / (2 ^ 1024 + Nat.sqrt (2 ^ 2048 + x * x)))

/-- atan(n / d) / 2π for 0 < n < d, as a numerator over 2^1100 in units of twoPi: the arctangent in units of 2^-1024, halved
eight times before the series. -/
def atanUnit (n d : Nat) : Int :=
  let x : Int := (atanHalve 8 (n * 2 ^ 1024 / d) : Nat)
  256 * atanSeries 70 (x * x / 2 ^ 1024) 1 x 0

/-- atan2(a, b) / 2π for integers of one unit, in (-1/2, 1/2]; exact at the eighths of a turn. -/
def atan2T (a b : Int) : Ex :=
  if a = 0 then (if b < 0 then .frac 1 2 else .frac 0 1)
  else if b = 0 then .frac (if a < 0 then -1 else 1) 4
  else
    let p := a.natAbs
    let q := b.natAbs
    let d : Nat := twoPi                          -- t / d in units of 2^(1100 - 1024) is a turn's part
    let t : Int := if p < q then atanUnit p q * 2 ^ 76 else (d : Int) / 4 - atanUnit q p * 2 ^ 76
    let r : Int := if 0 < b then t else (d : Int) / 2 - t
    if p = q then .frac ((if a < 0 then -1 else 1) * (if 0 < b then 1 else 3)) 8
    else .frac (if a < 0 then -r else r) d

/-- √3 in units of 2^-1024. -/
def sqrt3T : Int := Nat.sqrt (3 * 2 ^ 2048)

/-- The duties of a voltage vector (a0, a1) at bus voltage b0, all in units of 2^-160, and whether they were scaled (R116). -/
def svmDuties (a0 a1 b0 : Int) : List Ex × Bool :=
  if b0 ≤ 0 then ([.frac 1 2, .frac 1 2, .frac 1 2], true)
  else
    -- the phase voltages in units of 2^-1185
    let u := a0 * 2 ^ 1025
    let v := -a0 * 2 ^ 1024 + sqrt3T * a1
    let w := -a0 * 2 ^ 1024 - sqrt3T * a1
    let hi := max u (max v w)
    let lo := min u (min v w)
    let scaled := b0 * 2 ^ 1025 < hi - lo
    let den : Int := if scaled then hi - lo else b0 * 2 ^ 1025
    -- 1/2 + (x - (hi + lo) / 2) / den
    let duty := fun (x : Int) => Ex.frac (den + 2 * x - hi - lo) (2 * den).toNat
    ([duty u, duty v, duty w], scaled)

end Sys2Proof.Machine
end

