-- ==== Sys2Proof/Machine/LoopEngine.lean ====
section
/-! DEFINITION. The loop engine: local memory, job slots and their triggers, the output bus and the completion queue (chapter 03). -/

namespace Sys2Proof.Machine

open Sys2Proof

/-! Local memory (R71, R74) -/

/-- The address of an offset of the local memory. -/
def lmA (ofs : Nat) : Nat := 0x21000000 + ofs

/-- The 32-bit word at an offset of the local memory. -/
def State.lm32 (s : State) (l : Lane) (ofs : Nat) : Word := s.rd32 (laneNo l) (lmA ofs)

/-- Bytes written at an offset of the local memory. -/
def State.lmWrite (s : State) (l : Lane) (ofs : Nat) (bs : List Byte) : State := s.memPut l (lmA ofs) bs

/-- The record's eight words (R89). -/
def OutRec.words (r : OutRec) : List Nat := (r.kind + r.index * 2 ^ 8 + r.tag * 2 ^ 16) :: r.word1 :: r.pay.map (·.toNat)

/-- The record enters the mirror, unless it is older than the entry's tag (R90). -/
def State.mirrorPut (s : State) (l : Lane) (r : OutRec) : State :=
  let i := r.kind * 64 + r.index
  let put :=
    let s := s.lmWrite l (0xf8000 + i * 32) (r.words.flatMap (natLe 4))
    s.setLe l { s.le l with mirror := famIns (s.le l).mirror i r.tag }
  match (s.le l).mirror.lookup i with
  | some t => if older r.tag t then s else put
  | none => put

/-- What was in flight is visible to every agent. -/
def State.land (s : State) (l : Lane) : Fly → State
  | .store a b => s.lmWrite l a b
  | .mirror r => s.mirrorPut l r

/-- Every one of these is visible, the oldest first. -/
def State.landAll (s : State) (l : Lane) (fs : List Fly) : State := fs.foldl (fun s f => s.land l f) s

/-- The two touch the same bytes, or the same entry of the mirror. -/
def Fly.meets : Fly → Fly → Bool
  | .store a b, .store a' b' => decide (a < a' + b'.length ∧ a' < a + b.length)
  | .mirror r, .mirror r' => r.kind == r'.kind && r.index == r'.index
  | _, _ => false

/-- A HOLD of the kind waits for this (R93). -/
def Fly.isStore : Fly → Bool
  | .store _ _ => true
  | .mirror _ => false

/-- Of what a job has in flight, at most one becomes visible, in no fixed order (R92): a free number says which; writes of the same
bytes keep their order. -/
def State.drift (s : State) (l : Lane) (x : Job) : State × Job :=
  if x.fly = [] then (s, x)
  else
    let (k, s) := s.takeNat
    let i := k % (x.fly.length + 1)
    match x.fly[i]? with
    | none => (s, x)
    | some f =>
      if (x.fly.take i).any f.meets then (s, x)
      else (s.land l f, { x with fly := x.fly.take i ++ x.fly.drop (i + 1) })

/-! Output bus (R19, R89, R90) -/

/-- A lane's bus. -/
def State.bus (s : State) (l : Lane) : BusSt := famGet (fun _ => ({} : BusSt)) s.buses (laneNo l)

/-- The state with a lane's bus replaced. -/
def State.setBus (s : State) (l : Lane) (b : BusSt) : State :=
  { s with buses := famSet (fun _ => ({} : BusSt)) s.buses (laneNo l) b }

/-- The record goes to the lane's drives. -/
def OutRec.toDrive (r : OutRec) (l : Lane) : Bool := (r.kind == 1 || r.kind == 2) && l != .W

/-- The record goes to Skink: the comparator, or W's vote buffer. -/
def OutRec.toSkink (r : OutRec) : Bool := r.kind != 5

/-- Every destination queue of the record has room (R90). -/
def State.busRoom (s : State) (l : Lane) (r : OutRec) : Bool :=
  let b := s.bus l
  (!r.toDrive l || decide (b.drvQ.length < 32)) && (!r.toSkink || decide (b.skQ.length < 32))

/-- The bus accepts the record. -/
def State.busPut (s : State) (l : Lane) (r : OutRec) : State :=
  let b := s.bus l
  s.setBus l { b with
    drvQ := if r.toDrive l then b.drvQ ++ [r] else b.drvQ
    skQ := if r.toSkink then b.skQ ++ [{ r := r }] else b.skQ }

/-- A record of slot j is on its way to a destination. -/
def State.busHas (s : State) (l : Lane) (j : Nat) : Bool :=
  let own := fun (r : OutRec) => r.kind < 8 && r.word1 / 2 ^ 16 % 2 ^ 8 == j
  (s.bus l).drvQ.any own || (s.bus l).skQ.any (fun b => own b.r)

/-! Job slots -/

/-- The number of the LE clock at a time: 800 MHz (R86). -/
def leClk (t : Nat) : Nat := t * 4 / 5

/-- The job ends in FAULTED with this code and offset (R85, R97). -/
def State.jobFault (s : State) (l : Lane) (j : Nat) (x : Job) (code faddr : Nat) : State :=
  let s := (s.landAll l x.fly).setJob l j { x with st := .faulted, code := code, faddr := faddr, fly := [], out := none }
  s.raiseL l 0x82 255

/-- The job issues again. A sequential fetch at 0xF_6000 or above ends it (R125). -/
def State.jobRun (s : State) (l : Lane) (j : Nat) (x : Job) : State :=
  if x.pc < 0xf6000 then s.setJob l j { x with st := .running } else s.jobFault l j x 1 x.pc

/-- How many live instances a descriptor has. -/
def State.liveOf (s : State) (l : Lane) (d : Nat) : Nat :=
  (s.jobs.filter (fun (p : Nat × Job) => p.1 / 256 == laneNo l && p.2.st != .free && p.2.desc == d)).length

/-- A word of job descriptor d (R76). -/
def State.descWord (s : State) (l : Lane) (d i : Nat) : Word := s.lm32 l (0xf6000 + 32 * d + 4 * i)

/-- Descriptor d already has MAXINST live instances. -/
def State.descFull (s : State) (l : Lane) (d : Nat) : Bool :=
  decide ((s.descWord l d 1).toNat / 16 % 4 + 1 ≤ s.liveOf l d)

/-- The free slots of a lane, lowest first. -/
def State.freeSlots (s : State) (l : Lane) : List Nat := (List.range 256).filter (fun j => (s.job l j).st == .free)

/-- A job starts in slot j from descriptor d (R76, R82). -/
def State.startJob (s : State) (l : Lane) (j d src trigT tag vec : Nat) (spawned : Bool) (arg : Option Word) : State :=
  let w1 := (s.descWord l d 1).toNat
  let entry := (s.descWord l d 0).toNat
  let a7 := tag + src * 2 ^ 16 + (if spawned then 2 ^ 22 else 0)
  let x : Job := {
    st := .running, desc := d, prio := w1 % 8, notify := w1 / 2 ^ 8 % 2 == 1, ovfRaise := w1 / 2 ^ 9 % 2 == 1, budget := w1 / 2 ^ 16, pc := entry
    a := [arg.getD (s.descWord l d 2), s.descWord l d 3, s.descWord l d 4, s.descWord l d 5, s.descWord l d 6, s.descWord l d 7,
          BitVec.ofNat 32 (0xfc000 + 0x1000 * (vec % 4)), BitVec.ofNat 32 a7]
    tag := tag, vec := vec, src := src, trigT := trigT, startT := s.now }
  if 0xf6000 ≤ entry then s.jobFault l j x 1 (entry % 2 ^ 20)
  else if entry % 8 ≠ 0 then s.jobFault l j x 2 (entry % 2 ^ 20)
  else s.setJob l j x

/-- The cycle of the vector most recently published; a free value before the first. -/
def State.newestVec (s : State) (l : Lane) : Nat × State :=
  match (s.le l).newest with
  | some k => (k, s)
  | none => s.takeNat

/-- The descriptors start, in order, in the lowest free slots. -/
def State.startAll (s : State) (l : Lane) (src trigT vec : Nat) : List Nat → List Nat → State
  | d :: ds, j :: js => (s.startJob l j d src trigT (vec % 2 ^ 16) vec false none).startAll l src trigT vec ds js
  | _, _ => s

/-- The register of source i. -/
def trigB (l : Lane) (i : Nat) : Nat := leB l + 4 * i

/-- The descriptors of a source (R80): a range that runs past 255 wraps. -/
def State.trigDescs (s : State) (l : Lane) (i : Nat) : List Nat :=
  (List.range (s.fg (trigB l i) LE.TRIGCFG_NDESC + 1)).map (fun k => (s.fg (trigB l i) LE.TRIGCFG_DESC + k) % 256)

/-- The source fires in cycle k, or on its event number k (R78). -/
def State.trigHit (s : State) (l : Lane) (i k : Nat) : Bool :=
  let d := s.fg (trigB l i) LE.TRIGCFG_DIV + 1
  k % d == s.fg (trigB l i) LE.TRIGCFG_PHASE % d

/-- Jobs that wait for the source run again (R127): those whose WAIT issued in an earlier LE clock. -/
def State.wakeAll (s : State) (l : Lane) (i : Nat) : State :=
  (List.range 256).foldl (fun s j =>
    let x := s.job l j
    if x.st = .waiting ∧ x.wait = i ∧ leClk x.waitT < leClk s.now then s.jobRun l j x else s) s

/-- Each descriptor at MAXINST is skipped, counted and raised (R80); the others are left. -/
def State.skipFull (s : State) (l : Lane) : List Nat → List Nat × State
  | [] => ([], s)
  | d :: ds =>
    if s.descFull l d then ((s.fInc (leB l) LE.LOST_OVERRUN).raiseL l 0x81 255).skipFull l ds
    else
      let (rest, s) := s.skipFull l ds
      (d :: rest, s)

/-- A firing starts its descriptors, or is held, or is lost (R80). -/
def State.serveFire (s : State) (l : Lane) (i : Nat) : State :=
  let e := s.le l
  match e.pend.lookup i with
  | some _ => (s.fInc (leB l) LE.LOST_LOST).raiseL l 0x80 255
  | none =>
    let (ds, s) := s.skipFull l (s.trigDescs l i)
    let fr := s.freeSlots l
    if ds.length ≤ fr.length then
      let (v, s) := if ds = [] then (0, s) else s.newestVec l
      s.startAll l i s.now v ds fr
    else s.setLe l { s.le l with pend := famIns (s.le l).pend i ⟨s.now, ds⟩ }

/-- Sources that follow the unit cycle (R78). -/
def cycleSource (i : Nat) : Bool := i == 0 || i == 1 || i == 60

/-- The number of this event of a source, which the next one follows (R78). -/
def State.eventNo (s : State) (l : Lane) (i : Nat) : Nat × State :=
  if cycleSource i then (s.sk.cycle, s)
  else
    let e := s.le l
    let n := famGet (fun _ => 0) e.evn i
    (n, s.setLe l { e with evn := famSet (fun _ => 0) e.evn i (n + 1) })

/-- TRIGGER_FIRE (R77, R78, R80, R127): the event of source src has come. While LE.CTRL.EN is 0 it is ignored. -/
def execTriggerFire (l : Lane) (src : Fin 64) (s : State) : Host.Outcome State Fault Refusal :=
  let f := famGet (fun _ => ([] : List Nat)) s.fired (laneNo l)
  if f.contains src.val then
    let s := { s with fired := famSet (fun _ => ([] : List Nat)) s.fired (laneNo l) (f.erase src.val) }
    if s.fb (leB l) LE.CTRL_EN then
      let (k, s) := s.eventNo l src.val
      if s.trigHit l src.val k then
        let s := s.wakeAll l src.val
        .next (if s.fb (trigB l src.val) LE.TRIGCFG_EN then s.serveFire l src.val else s)
      else .next s
    else .next s
  else .next s

/-- PENDING_TRIGGER_START (R80): the held firing of source src starts its descriptors, once a slot is free for each. MAXINST is not
checked again (model's choice, assumption 123). -/
def execPendingTriggerStart (l : Lane) (src : Fin 64) (s : State) : Host.Outcome State Fault Refusal :=
  match (s.le l).pend.lookup src.val with
  | none => .next s
  | some h =>
    let fr := s.freeSlots l
    if h.descs.length ≤ fr.length then
      let (v, s) := s.newestVec l
      let s := s.setLe l { s.le l with pend := famDel (s.le l).pend src.val }
      .next (s.startAll l src.val h.t v h.descs fr)
    else .next s

/-- JOB_STALL_END (R85, R90): the bus takes the record that slot j's OUT waits with, once every destination has room. -/
def execJobStallEnd (l : Lane) (j : Fin 256) (s : State) : Host.Outcome State Fault Refusal :=
  let x := s.job l j.val
  match x.st, x.out with
  | .stallOut, some r =>
    if s.busRoom l r then
      .next ((s.busPut l r).jobRun l j.val { x with out := none, fly := x.fly ++ [.mirror r] })
    else .next s
  | _, _ => .next s

/-- HOLD_DONE (R93): the stores, the records or both that slot j's HOLD waits for are visible. -/
def execHoldDone (l : Lane) (j : Fin 256) (s : State) : Host.Outcome State Fault Refusal :=
  let x := s.job l j.val
  let go := fun (isIt : Fly → Bool) =>
    (s.landAll l (x.fly.filter isIt)).jobRun l j.val { x with fly := x.fly.filter (fun f => !isIt f) }
  match x.st with
  | .holdL => .next (go Fly.isStore)
  | .holdO => if s.busHas l j.val then .next s else .next (go (fun f => !f.isStore))
  | .holdA => if s.busHas l j.val then .next s else .next (go (fun _ => true))
  | .free | .running | .stallOut | .waiting | .ending | .faulted => .next s

/-- An entry is posted and the slot is FREE; while the queue is full nothing happens (R85). -/
def State.jobPost (s : State) (l : Lane) (j : Nat) (x : Job) (post : Bool) (code faddr : Nat) : State :=
  let e := s.le l
  if !post then s.setJob l j {}
  else if 64 ≤ e.cq.length then s
  else (s.setLe l { e with cq := e.cq ++ [⟨j, x.desc, x.tag, code, x.ovf, faddr⟩] }).setJob l j {}

/-- JOB_END_COMPLETE (R85, R94, R97): the implied HOLD.A of an END is complete, or a fault is posted; the slot is FREE. -/
def execJobEndComplete (l : Lane) (j : Fin 256) (s : State) : Host.Outcome State Fault Refusal :=
  let x := s.job l j.val
  match x.st with
  | .ending =>
    if s.busHas l j.val then .next s
    else .next (((s.landAll l x.fly).setJob l j.val { x with fly := [] }).jobPost l j.val { x with fly := [] } x.notify 0 0)
  | .faulted => .next (s.jobPost l j.val x true x.code x.faddr)
  | .free | .running | .stallOut | .holdL | .holdO | .holdA | .waiting => .next s

/-- JOB_BUDGET_EXPIRY (R85, R105): the job's life exceeds BUDGET; it ends before its next instruction issues. -/
def execJobBudgetExpiry (l : Lane) (j : Fin 256) (s : State) : Host.Outcome State Fault Refusal :=
  let x := s.job l j.val
  if x.budget = 0 ∨ leClk (s.now - x.startT) < 64 * x.budget then .next s
  else
    match x.st with
    | .running | .stallOut | .holdL | .holdO | .holdA | .waiting => .next (s.jobFault l j.val x 6 (x.pc % 2 ^ 20))
    | .free | .ending | .faulted => .next s

/-- DOORBELL_WRITE (R77): each 1 fires source 48 + bit. -/
def execDoorbellWrite (l : Lane) (v : Word) (s : State) : Host.Outcome State Fault Refusal :=
  .next ((List.range 12).foldl (fun s b => if v.getLsbD b then s.trig l (48 + b) else s) s)

/-- LE.CQ_LO and LE.CQ_HI of the head entry. -/
def State.cqLo (s : State) (l : Lane) : Word :=
  match (s.le l).cq with
  | [] => 0
  | c :: _ => BitVec.ofNat 32 (c.slot + c.desc * 2 ^ 8 + c.tag * 2 ^ 16)
def State.cqHi (s : State) (l : Lane) : Word :=
  match (s.le l).cq with
  | [] => 0
  | c :: _ => BitVec.ofNat 32 (c.code + (if c.ovf then 2 ^ 8 else 0) + 2 ^ 9 + c.faddr * 2 ^ 12)

/-- CQ_HI_READ (R97): the high word of the head entry, which then leaves the queue. -/
def execCqHiRead (l : Lane) (s : State) : Host.Outcome State Fault Refusal :=
  let s := { s with readData := s.cqHi l }
  .next (s.setLe l { s.le l with cq := (s.le l).cq.drop 1 })

/-- LANE_TIMER_EXPIRY (R77): TIMERn fires, and its interrupt source has an edge (R481). -/
def execLaneTimerExpiry (l : Lane) (n : Fin 16) (s : State) : Host.Outcome State Fault Refusal :=
  .next ((s.trig l (32 + n.val)).icEdge l (48 + n.val))

end Sys2Proof.Machine
end

