-- ==== Sys2Proof/Machine/Plan.lean ====
section
/-! DEFINITION. Plans of the profile generators: trajectories of least duration (R205 to R208). -/

namespace Sys2Proof.Machine

/-- The square root of a rational: exact where it is rational, else to 2^-128 of the denominator. -/
def ratSqrt (x : Rat) : Rat :=
  if x ≤ 0 then 0 else (Nat.sqrt (x.num.toNat * x.den * 2 ^ 256) : Rat) / (x.den * 2 ^ 128 : Nat)

/-- -1, 0 or 1. -/
def ratSign (x : Rat) : Rat := if x < 0 then -1 else if x = 0 then 0 else 1

def ratAbs (x : Rat) : Rat := if x < 0 then -x else x
def ratClamp (lo hi x : Rat) : Rat := if x < lo then lo else if hi < x then hi else x

/-- A rational rounded to the nearest integer, ties to even. -/
def ratRound (x : Rat) : Int :=
  let f := x.floor
  let r := x - f
  if r < 1 / 2 then f else if 1 / 2 < r then f + 1 else if f % 2 = 0 then f else f + 1

/-! Running a plan -/

/-- The state (p, v, a) after t seconds of one piece. -/
def Seg.run (g : Seg) (p v t : Rat) : Rat × Rat × Rat :=
  (p + v * t + g.a * t * t / 2 + g.j * t * t * t / 6, v + g.a * t + g.j * t * t / 2, g.a + g.j * t)

/-- The state after t seconds of a plan from (p, v), and how many of its pieces are over; after the last the speed stays. -/
def runPlan (p v : Rat) (t : Rat) : List Seg → Nat → (Rat × Rat × Rat) × Nat
  | [], n => ((p + v * t, v, 0), n)
  | g :: gs, n =>
    if t < g.dur then (g.run p v t, n)
    else
      let e := g.run p v g.dur
      runPlan e.1 e.2.1 (t - g.dur) gs (n + 1)

/-- The state at the end of a plan. -/
def planEnd (p v : Rat) : List Seg → Rat × Rat
  | [] => (p, v)
  | g :: gs =>
    let e := g.run p v g.dur
    planEnd e.1 e.2.1 gs

/-- The duration of a plan. -/
def planTime (gs : List Seg) : Rat := gs.foldl (fun t g => t + g.dur) 0

/-- The plan seen from the other direction. -/
def mirror (gs : List Seg) : List Seg := gs.map (fun g => { g with a := -g.a, j := -g.j })

/-! Trapezoidal plans (SHAPE 0) -/

/-- From speed v to speed w, rising at A and falling at D. -/
def trapVel (v w A D : Rat) : List Seg :=
  if v * w < 0 then [{ dur := ratAbs v / D, a := -ratSign v * D }, { dur := ratAbs w / A, a := ratSign w * A }]
  else if ratAbs w < ratAbs v then [{ dur := (ratAbs v - ratAbs w) / D, a := -ratSign v * D }]
  else [{ dur := (ratAbs w - ratAbs v) / A, a := ratSign w * A }]

/-- Forward by d from speed v ≥ 0, where the stop from v fits: to the peak or to V, and to rest. -/
def trapGo (v d V A D : Rat) : List Seg :=
  if V < v then
    [{ dur := (v - V) / D, a := -D }, { dur := (d - v * v / (2 * D)) / V, a := 0 }, { dur := V / D, a := -D }]
  else
    let q := (2 * A * D * d + D * v * v) / (A + D)
    if q ≤ V * V then
      let u := ratSqrt q
      [{ dur := (u - v) / A, a := A }, { dur := u / D, a := -D }]
    else
      [{ dur := (V - v) / A, a := A }, { dur := (d - (V * V - v * v) / (2 * A) - V * V / (2 * D)) / V, a := 0 },
       { dur := V / D, a := -D }]

/-- To rest at distance d from speed v, the stop from v falling short of d. -/
def trapMove (v d V A D : Rat) : List Seg :=
  if v < 0 then { dur := -v / D, a := D } :: trapGo 0 (d + v * v / (2 * D)) V A D else trapGo v d V A D

/-! Jerk-limited plans (SHAPE 1) -/

/-- From (v, a) to (w, b) with a, b ≥ 0 under |a| ≤ L: up to a peak, level, and down. -/
def jerkStage (v a w b L J : Rat) : List Seg :=
  let pk := min L (ratSqrt ((a * a + b * b) / 2 + J * (w - v)))
  let t1 := ratAbs (pk - a) / J
  let t3 := ratAbs (pk - b) / J
  let rest := w - v - (a + pk) / 2 * t1 - (pk + b) / 2 * t3
  let t2 := if pk ≤ 0 ∨ rest ≤ 0 then 0 else rest / pk
  [{ dur := t1, a := a, j := ratSign (pk - a) * J }, { dur := t2, a := pk }, { dur := t3, a := pk, j := ratSign (b - pk) * J }]

/-- Up to speed w from (v, a), a ≥ 0: below 0 the bound is D, above it A. -/
def jerkUp (v a w A D J : Rat) : List Seg :=
  if v < 0 ∧ 0 < w then
    let az := min (min A D) (min (ratSqrt (a * a - 2 * J * v)) (ratSqrt (2 * J * w)))
    jerkStage v a 0 az D J ++ jerkStage 0 az w 0 A J
  else jerkStage v a w 0 (if v < 0 then D else A) J

/-- From (v, a) to (w, 0), the acceleration continuous (R205). -/
def jerkVel (v a w A D J : Rat) : List Seg :=
  let va := v + a * ratAbs a / (2 * J)
  if w = va then [{ dur := ratAbs a / J, a := a, j := -ratSign a * J }]
  else
    let up := fun v a w =>
      if a < 0 then { dur := -a / J, a := a, j := J } :: jerkUp (v - a * a / (2 * J)) 0 w A D J else jerkUp v a w A D J
    if va < w then up v a w else mirror (up (-v) (-a) (-w))

/-- A plan cut off after t seconds. -/
def cutPlan (t : Rat) : List Seg → List Seg
  | [] => []
  | g :: gs => if t < g.dur then [{ g with dur := t }] else g :: cutPlan (t - g.dur) gs

/-- What is left of a plan after t seconds. -/
def dropPlan (t : Rat) : List Seg → List Seg
  | [] => []
  | g :: gs => if t < g.dur then { g with dur := g.dur - t, a := g.a + g.j * t } :: gs else dropPlan (t - g.dur) gs

/-- The push towards V for t seconds, and the stop from there. -/
def jerkPush (v a V A D J t : Rat) : List Seg :=
  let u := jerkVel v a V A D J
  let e := (runPlan 0 v t u 0).1
  cutPlan t u ++ jerkVel e.2.1 e.2.2 0 A D J

/-- The time t in [lo, hi] at which the push must end for the stop to end at d, by halving the interval. -/
def jerkFind (v a d V A D J : Rat) : Nat → Rat → Rat → Rat
  | 0, lo, _ => lo
  | n + 1, lo, hi =>
    let t := (lo + hi) / 2
    if (planEnd 0 v (jerkPush v a V A D J t)).1 ≤ d then jerkFind v a d V A D J n t hi else jerkFind v a d V A D J n lo t

/-- To rest at distance d forward, the stop from (v, a) falling short of d. -/
def jerkMove (v a d V A D J : Rat) : List Seg :=
  let u := jerkVel v a V A D J
  let tu := planTime u
  let e := planEnd 0 v (u ++ jerkVel V 0 0 A D J)
  if e.1 ≤ d then u ++ [{ dur := (d - e.1) / V, a := 0 }] ++ jerkVel V 0 0 A D J
  else jerkPush v a V A D J (jerkFind v a d V A D J 128 0 tu)

/-! Plans of a generator -/

/-- The bounds of a plan: V_eff, AMAX, DMAX, JMAX and SHAPE. -/
structure Bounds where
  v : Rat
  a : Rat
  d : Rat
  j : Rat
  shaped : Bool
  deriving DecidableEq, Repr

/-- To speed w. -/
def planVel (b : Bounds) (v a w : Rat) : List Seg := if b.shaped then jerkVel v a w b.a b.d b.j else trapVel v w b.a b.d

/-- To rest at distance d. -/
def planMove (b : Bounds) (v a d : Rat) : List Seg :=
  let stop := planVel b v a 0
  let e := (planEnd 0 v stop).1
  if e = d then stop
  else if e < d then (if b.shaped then jerkMove v a d b.v b.a b.d b.j else trapMove v d b.v b.a b.d)
  else mirror (if b.shaped then jerkMove (-v) (-a) (-d) b.v b.a b.d b.j else trapMove (-v) (-d) b.v b.a b.d)

/-! Where a plan first comes to rest, and the deceleration that the soft limits ask for (R207, R208) -/

/-- The first time in (0, dur] at which the speed of a piece that starts at speed v is 0. -/
def Seg.zero (g : Seg) (v : Rat) : Option Rat :=
  let in_ := fun t => decide (0 < t) && decide (t ≤ g.dur)
  if g.j = 0 then (if g.a = 0 ∨ !in_ (-v / g.a) then none else some (-v / g.a))
  else
    let q := g.a * g.a - 2 * g.j * v
    let r := ratSqrt q
    let t1 := min ((-g.a - r) / g.j) ((-g.a + r) / g.j)
    let t2 := max ((-g.a - r) / g.j) ((-g.a + r) / g.j)
    if q < 0 then none else if in_ t1 then some t1 else if in_ t2 then some t2 else none

/-- A plan up to its first rest, the place and the acceleration there; none where it never rests. -/
def planRest (p v : Rat) : List Seg → Option (List Seg × Rat × Rat)
  | [] => none
  | g :: gs =>
    match g.zero v with
    | some t => let e := g.run p v t; some ([{ g with dur := t }], e.1, e.2.2)
    | none =>
      let e := g.run p v g.dur
      (planRest e.1 e.2.1 gs).map fun r => (g :: r.1, r.2)

/-- How a plan from (p, v, a) first comes to rest under peak deceleration D: a MOVE on its way to `goal`, any other by a stop. -/
def restWith (b : Bounds) (goal : Option Rat) (p v a D : Rat) : List Seg × Rat × Rat :=
  let d := { b with d := D }
  let gs := match goal with
    | some g => planMove d v a (g - p)
    | none => planVel d v a 0
  match (if goal.isSome then planRest p v gs else none) with
  | some r => r
  | none => (gs, (planEnd p v gs).1, 0)

/-- The peak deceleration in [lo, hi] with which the rest falls on the limit, by halving the interval; `far` says whether a place
lies beyond the limit. -/
def limitFind (rest : Rat → Rat) (far : Rat → Bool) : Nat → Rat → Rat → Rat
  | 0, _, hi => hi
  | n + 1, lo, hi =>
    let d := (lo + hi) / 2
    if far (rest d) then limitFind rest far n d hi else limitFind rest far n lo d

/-- The deceleration of R207 with the limit ahead; none where DLIMAX does not suffice (R208). -/
def limitDec (b : Bounds) (goal : Option Rat) (p v a limit dlimax : Rat) (far : Rat → Bool) : Option Rat :=
  let rest := fun d => (restWith b goal p v a d).2.1
  if far p || far (rest dlimax) then none
  else if b.shaped then some (limitFind rest far 128 b.d dlimax)
  else some (v * v / (2 * ratAbs (limit - p)))

end Sys2Proof.Machine
end

