-- ==== Sys2Proof/Machine/Vector.lean ====
section
/-! DEFINITION. The agreed input vector as its readers see it (R292, R295). -/

namespace Sys2Proof.Machine

open Sys2Proof

/-- n little-endian bytes at an offset, as a number. -/
def byteF (v : List Byte) (ofs n : Nat) : Nat := leNat ((v.drop ofs).take n)

/-- The record of lane i in a vector, if it is present. -/
def vecRec (v : List Byte) (i : Nat) : Option (List Byte) :=
  let o := byteF v (8 + 2 * i) 2
  if o = 0 then none else some ((v.drop o).take (byteF v (16 + 2 * i) 2))

/-- The reference record of a vector (R198). -/
def vecRef (v : List Byte) : Option (List Byte) := (vecRec v 0).orElse (fun _ => vecRec v 1)

/-- Entry e (0 to 12) of axis n in a drive lane's record. -/
def axEntry (r : List Byte) (n e : Nat) : Nat := byteF r (0x40 + 0x68 * n + 8 * e) 8

/-- POS of axis n. -/
def recPos (r : List Byte) (n : Nat) : Int := signed 64 (axEntry r n 0)

/-- POSQ of axis n. -/
def recPosq (r : List Byte) (n : Nat) : Nat := axEntry r n 5 / 2 ^ 16 % 4

/-- VALUE, Q and PROV of a sample entry (R122). -/
def entVal (e : Nat) : Int := signed 32 (e % 2 ^ 32)
def entQ (e : Nat) : Int := signed 8 (e / 2 ^ 32 % 2 ^ 8)
def entProv (e : Nat) : Nat := e / 2 ^ 40 % 4

/-- A sample entry. -/
def mkEntry (v : Int) (q prov : Nat) : Nat := unsigned 32 v + q % 2 ^ 8 * 2 ^ 32 + prov * 2 ^ 40

/-- The vector of cycle k - 1, k being the next cycle, where it was published; and the one before it (R200). -/
def State.vecLast (s : State) : Option (List Byte) := if s.xc.vecCycle = s.sk.cycle ∧ s.xc.vec ≠ [] then some s.xc.vec else none
def State.vecBefore (s : State) : Option (List Byte) :=
  if (s.xc.oldCycle + 1) % 2 ^ 32 = s.xc.vecCycle ∧ s.xc.old ≠ [] then some s.xc.old else none

end Sys2Proof.Machine
end

