-- ==== Sys2Proof/Machine/Profile.lean ====
section
/-! DEFINITION. The profile generators: commands, steps, limits and gearing (chapter 07). -/

namespace Sys2Proof.Machine

open Sys2Proof

/-- The generator is enabled in a running lane, in a state that drives (R201). -/
def State.pgLive (s : State) (l : DLane) (n : Nat) : Bool :=
  s.running l.lane && s.fb (pgB l n) PG.CTRL_EN && s.sk.st.active

/-- The speed cap, in percent, that Skink presents at the next beacon (R43, R48, R56, R200). -/
def State.nextCap (s : State) : Nat :=
  let next := (s.sk.capNext.map (fun c => c.2)).getD s.sk.capSpd
  let joins : Bool := match s.sk.axo with
    | some x => s.sk.st == .axolotl && x.phase == .joined && x.passed
    | none => false
  match s.sk.hold with
  | some h => if h.left = 1 ∧ h.removed.isSome then s.cfgSglSpd else if joins then 100 else next
  | none => if joins then 100 else next

/-- A 40-bit signed pair of registers. -/
def State.fg40 (s : State) (b : Nat) (lo hi : Fld) : Int := signed 40 (s.fg b lo + s.fg b hi * 2 ^ 32)

/-- An event of the generator: its bit of PGn.EVT, and the trigger AXIS_EVENTn (R77). -/
def State.pgEv (s : State) (l : DLane) (n : Nat) (f : Fld) : State := (s.fs (pgB l n) f 1).trig l.lane (8 + n)

/-! Plans in force -/

/-- The bounds of the plans of a generator. -/
def State.pgBounds (s : State) (l : DLane) (n : Nat) : Bounds :=
  let x := s.pg l n
  { v := x.veff, a := x.amax, d := x.dmax, j := x.jmax, shaped := s.fb (pgB l n) PG.CTRL_SHAPE }

/-- A staged parameter, or its limit (R204); `unit` counts per unit of the register. -/
def State.pgPar (s : State) (l : DLane) (n : Nat) (val lim : Fld) (unit : Rat) : Rat × Bool :=
  let v := s.fg (pgB l n) val
  let m := s.fg (pgB l n) lim
  if v = 0 ∨ m < v then (m * unit, true) else (v * unit, false)

/-- The staging registers are read (R204). -/
def State.pgStage (s : State) (l : DLane) (n : Nat) : State :=
  let v := s.pgPar l n PG.VMAX_VAL PG.VLIM_LIM 1
  let a := s.pgPar l n PG.AMAX_VAL PG.ALIM_LIM 1
  let d := s.pgPar l n PG.DMAX_VAL PG.ALIM_LIM 1
  let j := s.pgPar l n PG.JMAX_VAL PG.JLIM_LIM 256
  let s := if v.2 || a.2 || d.2 || j.2 then s.pgEv l n PG.EVT_PAR_CLAMPED else s
  s.setPg l n { s.pg l n with vmax := v.1, amax := a.1, dmax := d.1, jmax := j.1 }

/-- V_eff for a speed-cap fraction (R205). -/
def State.pgVeff (s : State) (l : DLane) (n : Nat) (cap : Nat) : Rat :=
  min (s.pg l n).vmax (cap * s.fg (pgB l n) PG.VLIM_LIM / 100)

/-- The pieces of the plan for an operation from (p, v, a): 1 MOVE, 2 VELOCITY, 3 STOP. -/
def State.pgPieces (s : State) (l : DLane) (n : Nat) (p v a : Rat) : List Seg :=
  let x := s.pg l n
  let b := s.pgBounds l n
  if x.op = 1 then planMove b v a (x.goal - p)
  else if x.op = 2 then planVel b v a (ratClamp (-b.v) b.v x.goal)
  else planVel b v a 0

/-- The mode is set. -/
def State.pgMode (s : State) (l : DLane) (n m : Nat) : State := s.fs (pgB l n) PG.STATUS_MODE m

/-- A plan is formed from the exact state, for the operation in force; `done` clears DONE (R205). -/
def State.pgPlan (s : State) (l : DLane) (n : Nat) : State :=
  let x := s.pg l n
  let s := s.setPg l n { x with p0 := x.p, v0 := x.v, t := 0, turn := 0, segs := s.pgPieces l n x.p x.v x.a }
  (s.pgMode l n (x.op + 1)).fs (pgB l n) PG.STATUS_DONE 0

/-- Where the plan in force first comes to rest: a VELOCITY that never does, by a stop from here (assumption 56). -/
def State.pgRestAt (s : State) (l : DLane) (n : Nat) : Rat :=
  let x := s.pg l n
  let left := dropPlan x.t x.segs
  match planRest x.p x.v left with
  | some r => r.2.1
  | none => if x.op = 2 then (restWith (s.pgBounds l n) none x.p x.v x.a x.dmax).2.1 else (planEnd x.p x.v left).1

/-- The soft-limit check of a plan that starts here (R207, R208): where it would pass the limit ahead before it first rests, it
decelerates to rest at the limit, or at DLIMAX beyond it, and a MOVE goes on from there. -/
def State.pgCheck (s : State) (l : DLane) (n : Nat) : State :=
  let b := pgB l n
  let x := s.pg l n
  let bd := s.pgBounds l n
  let g := (dropPlan x.t x.segs).headD { dur := 0, a := 0 }
  let up := decide (0 < (if x.v ≠ 0 then x.v else if g.a ≠ 0 then g.a else g.j))
  let lim : Rat := if up then s.softMax (fuB l n) else s.softMin (fuB l n)
  let far := fun (y : Rat) => if up then decide (lim < y) else decide (y < lim)
  if (x.v = 0 ∧ x.a = 0) ∨ !far (s.pgRestAt l n) then s
  else
    let dmax : Rat := s.fg b PG.DLIMAX_LIM
    let goal := if x.op = 1 then some x.goal else none
    let dec := limitDec bd goal x.p x.v x.a lim dmax far
    let r := restWith bd goal x.p x.v x.a (dec.getD dmax)
    let e := if dec.isSome then lim else r.2.1
    let rest := if x.op = 1 then planMove bd 0 r.2.2 (x.goal - e) else []
    let s := s.setPg l n { x with p0 := x.p, v0 := x.v, t := 0, turn := r.1.length, segs := r.1 ++ rest }
    let s := ((s.pgMode l n 6).pgEv l n PG.EVT_LIMSTOP).fs b PG.STATUS_DONE 0
    if dec.isNone then (s.pgEv l n PG.EVT_LIM_OVERRUN).raiseL l.lane 0xb1 n else s

/-- The generator leaves every plan and stands, or tracks. -/
def State.pgRest (s : State) (l : DLane) (n m : Nat) : State :=
  (s.setPg l n { s.pg l n with v := 0, a := 0, segs := [], turn := 0, t := 0, speed := 0, accel := 0, mheld := 0, fast := false }).pgMode l n m

/-- The plan in force advances by T (R206). -/
def State.pgAdvance (s : State) (l : DLane) (n : Nat) : State :=
  let b := pgB l n
  let x := s.pg l n
  let t := x.t + (s.sk.t : Rat) / 1000000
  let r := runPlan x.p0 x.v0 t x.segs 0
  let ended := decide (x.segs.length ≤ r.2)
  let mode := s.fg b PG.STATUS_MODE
  if ended ∧ (x.op ≠ 2 ∨ mode = 6) then
    let e := if x.op = 1 then x.goal else (planEnd x.p0 x.v0 x.segs).1
    let s := (s.setPg l n { x with p := e, pPrev := x.p }).pgRest l n 1
    if x.op = 2 then s else (s.fs b PG.STATUS_DONE 1).pgEv l n PG.EVT_DONE
  else
    let s := if mode = 6 ∧ x.turn ≤ r.2 ∧ x.op = 1 then s.pgMode l n 2 else s
    s.setPg l n { x with t := t, p := r.1.1, v := r.1.2.1, a := r.1.2.2, pPrev := x.p, speed := r.1.2.1, accel := r.1.2.2 }

/-! Gearing (R211 to R215) -/

/-- G(y) - G(x) over the regions from lo up (R212). -/
def gearDiff (lo : Option Int) : List Int → List Rat → Int → Int → Rat
  | [], r :: _, x, y =>
    let f := fun (z : Int) => match lo with
      | some b => max b z
      | none => z
    r * (f y - f x : Int)
  | b :: bs, r :: rs, x, y =>
    let f := fun (z : Int) => match lo with
      | some a => max a (min b z)
      | none => min b z
    r * (f y - f x : Int) + gearDiff (some b) bs rs x y
  | _, [], _, _ => 0

/-- The slope of G at x. -/
def gearSlope : List Int → List Rat → Int → Rat
  | b :: bs, r :: rs, x => if x < b then r else gearSlope bs rs x
  | [], r :: _, _ => r
  | _, [], _ => 0

/-- The staged gear table: its breakpoints and ratios, where it is valid (R211, R212). -/
def State.gearTable (s : State) (l : DLane) (n : Nat) : Option (List Int × List Rat) :=
  let b := pgB l n
  let nbp := s.fg b PG.GEARCFG_NBP
  if 16 < nbp then none
  else
    let bs := (List.range nbp).map (fun r => s.fg40 (b + 16 * (r + 1)) PG.GBP_L_BLO PG.GBP_H_BHI)
    let den := (List.range (nbp + 1)).map (fun r => s.fg (b + 16 * r) PG.GR_DEN_DEN)
    let rs := (List.range (nbp + 1)).map (fun r => (s.fi (b + 16 * r) PG.GR_NUM_NUM : Rat) / (s.fg (b + 16 * r) PG.GR_DEN_DEN : Rat))
    let rising := (List.zipWith (fun x y => decide (x < y)) bs (bs.drop 1)).all id
    if den.all (fun d => d != 0) && rising then some (bs, rs) else none

/-- The fault-stop condition of R209 from a reference record; without one it stays as it was. -/
def State.pgFault (s : State) (l : DLane) (n : Nat) (ref : Option (List Byte)) : Bool :=
  s.fb (pgB l n) PG.CTRL_FSTOP &&
  (match ref with
   | some r => recPosq r n != 1
   | none => (s.pg l n).fstop)

/-- A GEAR is refused (R211). -/
def State.gearRefuse (s : State) (l : DLane) (n : Nat) : State :=
  (s.pgEv l n PG.EVT_GEAR_REFUSED).raiseL l.lane 0xb5 n

/-- A GEAR command at its step (R211, R213). -/
def State.pgGear (s : State) (l : DLane) (n : Nat) (ref ref2 : Option (List Byte)) : State :=
  let b := pgB l n
  let x := s.pg l n
  let ms := s.fg b PG.CTRL_MASTER
  match s.gearTable l n, ref, ref2 with
  | some (bs, rs), some r1, some r2 =>
    let m := recPos r1 ms
    let dm := m - recPos r2 ms
    let slip := ratAbs (gearSlope bs rs m * dm - (x.p - x.pPrev))
    if ms = n ∨ 6 ≤ ms ∨ recPosq r1 ms ≠ 1 ∨ s.pgFault l n ref ∨ (s.fg b PG.GEARCFG_ENGTOL : Rat) < slip then s.gearRefuse l n
    else
      let s := s.setPg l n { x with breaks := bs, ratios := rs, m0 := m, m := m, gp0 := x.p, mheld := 0, segs := [], op := 4 }
      ((s.pgMode l n 5).fs b PG.STATUS_DONE 0).fs b PG.STATUS_LASTOP 4
  | _, _, _ => s.gearRefuse l n

/-- The master's speed in counts per second from its speed entry (R215). -/
def State.masterSpeed (s : State) (l : DLane) (ms : Nat) (e : Nat) : Rat :=
  let v : Rat := (entVal e : Rat) / (2 : Rat) ^ (entQ e)
  if s.fb (fuB l ms) FB.SPDCFG_UNIT then v * s.fg (axB l ms) AX.CPR_CPR * 2 ^ 128 / twoPi128 else v

/-- A step in GEARED (R213 to R215). -/
def State.gearStep (s : State) (l : DLane) (n : Nat) (ref : Option (List Byte)) : State :=
  let b := pgB l n
  let x := s.pg l n
  let ms := s.fg b PG.CTRL_MASTER
  let m := match ref with
    | some r => recPos r ms
    | none => x.m
  let p := x.gp0 + gearDiff none x.breaks x.ratios x.m0 m
  let lo : Rat := s.softMin (fuB l n)
  let hi : Rat := s.softMax (fuB l n)
  let pc := ratClamp lo hi p
  let clamp := pc != p
  let s := if clamp ∧ ¬ s.fb b PG.STATUS_CLAMP then s.pgEv l n PG.EVT_GEAR_CLAMP else s
  let s := s.fs b PG.STATUS_CLAMP (if clamp then 1 else 0)
  let s := s.fs b PG.STATUS_MHOLD (if ref.isNone then 1 else 0)
  let t : Rat := (s.sk.t : Rat) / 1000000
  let fast := decide ((s.fg b PG.VLIM_LIM : Rat) * t < ratAbs (pc - x.p))
  let s := if fast ∧ ¬ x.fast then (s.pgEv l n PG.EVT_GEAR_SPEED).raiseL l.lane 0xb4 n else s
  let sp := match ref with
    | some r => s.masterSpeed l ms (axEntry r ms 2)
    | none => if t = 0 then 0 else (0 : Rat)
  let speed := if clamp then 0 else if ref.isNone then x.speed else gearSlope x.breaks x.ratios m * sp
  s.setPg l n { x with
    p := pc, pPrev := x.p, v := 0, a := 0, m := m, mheld := if ref.isNone then x.mheld + 1 else 0, fast := fast
    speed := speed, accel := 0 }

/-- The master is lost at this step (R214). -/
def State.masterLost (s : State) (l : DLane) (n : Nat) (ref : Option (List Byte)) : Bool :=
  let ms := s.fg (pgB l n) PG.CTRL_MASTER
  match ref with
  | some r => recPosq r ms != 1
  | none => decide (2 ≤ (s.pg l n).mheld)

/-- A stop, as a STOP taking effect (R209); out of GEARED it starts at the last set-point's speed (R214). -/
def State.pgStop (s : State) (l : DLane) (n cap : Nat) : State :=
  let x := s.pg l n
  let geared := s.fg (pgB l n) PG.STATUS_MODE == 5
  let v := if geared then (if s.sk.t = 0 then 0 else (x.p - x.pPrev) * 1000000 / s.sk.t) else x.v
  let s := (s.setPg l n { x with op := 3, v := v, a := if geared then 0 else x.a }).pgStage l n
  let s := s.setPg l n { s.pg l n with veff := s.pgVeff l n cap }
  ((s.pgPlan l n).fs (pgB l n) PG.STATUS_CLAMP 0).fs (pgB l n) PG.STATUS_MHOLD 0

/-! Steps -/

/-- A command is refused (R202). -/
def State.cmdRefuse (s : State) (l : DLane) (n : Nat) : State :=
  (s.pgEv l n PG.EVT_CMD_REFUSED).raiseL l.lane 0xb0 n

/-- A pending command at its step (R203, R204, R209). -/
def State.pgCommand (s : State) (l : DLane) (n op cap : Nat) (ref ref2 : Option (List Byte)) : State :=
  let b := pgB l n
  let s := (s.setPg l n { s.pg l n with cmd := none }).fs b PG.STATUS_PEND 0
  if s.pgFault l n ref ∧ op ≠ 3 then (if op = 4 then (s.cmdRefuse l n).gearRefuse l n else s.cmdRefuse l n)
  else if op = 4 then s.pgGear l n ref ref2
  else if op = 3 then (s.pgStop l n cap).fs b PG.STATUS_LASTOP 3
  else
    let x := s.pg l n
    let geared := s.fg b PG.STATUS_MODE == 5
    let x := if geared then { x with v := if s.sk.t = 0 then 0 else (x.p - x.pPrev) * 1000000 / s.sk.t, a := 0 } else x
    let tgt := s.fg40 b PG.TGT_L_TLO PG.TGT_H_THI
    let tc := s.counterOf (fuB l n) tgt
    let s := (s.setPg l n { x with op := op, goal := if op = 1 then tc else s.fi b PG.TVEL_TVEL }).pgStage l n
    let s := s.setPg l n { s.pg l n with veff := s.pgVeff l n cap }
    let s := if op = 1 ∧ tc ≠ tgt then (s.pgEv l n PG.EVT_TGT_CLAMPED).raiseL l.lane 0xb2 n else s
    (((s.pgPlan l n).fs b PG.STATUS_LASTOP op).fs b PG.STATUS_CLAMP 0).fs b PG.STATUS_MHOLD 0

/-- The speed of a step as the registers show it. -/
def State.pgShow (s : State) (l : DLane) (n : Nat) : State :=
  let x := s.pg l n
  let b := pgB l n
  (s.fs b PG.SPOS_L_SLO (unsigned 32 (ratRound x.p))).fsSat b PG.SVEL_SVEL (ratRound x.speed)

/-- A step in TRACK (R201). -/
def State.pgTrack (s : State) (l : DLane) (n : Nat) (ref : Option (List Byte)) : State :=
  let b := pgB l n
  let x := s.pg l n
  let p := match ref with
    | some r => ((recPos r n : Int) : Rat)
    | none => x.p
  let s := (s.setPg l n { x with p := p, pPrev := x.p, cmd := none, fstop := false }).pgRest l n 0
  let s := (s.fs b PG.STATUS_PEND 0).fs b PG.STATUS_CLAMP 0
  (s.fs b PG.STATUS_FSTOPACT 0).fs b PG.STATUS_MHOLD 0

/-- The unit state and the speed cap of the beacon (R205, R210). -/
def State.pgCapStep (s : State) (l : DLane) (n cap : Nat) : State :=
  let s := if s.fg (pgB l n) PG.STATUS_MODE = 0 then s.pgMode l n 1 else s
  let mode := s.fg (pgB l n) PG.STATUS_MODE
  let moving := mode == 2 || mode == 3 || mode == 4 || mode == 6
  if moving && s.pgVeff l n cap != (s.pg l n).veff then
    (s.setPg l n { s.pg l n with veff := s.pgVeff l n cap }).pgPlan l n
  else s

/-- A stop under R209: at the onset of a fault-stop, or where the master is lost; both may fall on one step. -/
def State.pgStopStep (s : State) (l : DLane) (n cap : Nat) (ref : Option (List Byte)) : State :=
  let b := pgB l n
  let bad := s.pgFault l n ref
  let onset := bad && !(s.pg l n).fstop
  let lost := s.fg b PG.STATUS_MODE == 5 && s.masterLost l n ref
  let s := (s.setPg l n { s.pg l n with fstop := bad }).fs b PG.STATUS_FSTOPACT (if bad then 1 else 0)
  let s := if onset || lost then s.pgStop l n cap else s
  let s := if onset then (s.pgEv l n PG.EVT_FSTOP).raiseL l.lane 0xb6 n else s
  if lost then (s.pgEv l n PG.EVT_MASTER_LOST).raiseL l.lane 0xb3 n else s

/-- The command whose step is k. -/
def State.pgCmdStep (s : State) (l : DLane) (n cap k : Nat) (ref ref2 : Option (List Byte)) : State :=
  match (s.pg l n).cmd with
  | some (op, c) => if c = k then s.pgCommand l n op cap ref ref2 else s
  | none => s

/-- The soft-limit check of the plan that results (R207, R210): of one formed at this step, and of a VELOCITY at each. -/
def State.pgCheckStep (s : State) (l : DLane) (n : Nat) : State :=
  let mode := s.fg (pgB l n) PG.STATUS_MODE
  if mode = 3 ∨ ((mode = 2 ∨ mode = 4) ∧ (s.pg l n).t = 0) then s.pgCheck l n else s

/-- The set-point moves (R206, R213). -/
def State.pgMoveStep (s : State) (l : DLane) (n : Nat) (ref : Option (List Byte)) : State :=
  let mode := s.fg (pgB l n) PG.STATUS_MODE
  if mode = 5 then s.gearStep l n ref
  else if mode = 1 then s.setPg l n { s.pg l n with pPrev := (s.pg l n).p }
  else s.pgAdvance l n

/-- PG_STEP (R199 to R215): step k, where k is the next unit cycle. -/
def execPgStep (l : DLane) (n : Fin 6) (s : State) : Host.Outcome State Fault Refusal :=
  if !s.running l.lane then .next s
  else
    let ref := s.vecLast.bind vecRef
    if !s.pgLive l n.val then .next ((s.pgTrack l n.val ref).pgShow l n.val)
    else
      let ref2 := s.vecBefore.bind vecRef
      let k := (s.sk.cycle + 1) % 2 ^ 32
      let cap := s.nextCap
      let s := (s.pgCapStep l n.val cap).pgStopStep l n.val cap ref
      .next ((((s.pgCmdStep l n.val cap k ref ref2).pgCheckStep l n.val).pgMoveStep l n.val ref).pgShow l n.val)

/-! Commands -/

/-- A write of a command with operation op (R202). -/
def State.pgCmd (s : State) (l : DLane) (n op : Nat) : State :=
  let b := pgB l n
  if !s.running l.lane then s
  else
    let c := s.fg b PG.CMDCYC_CMDCYC
    let d := (c + 2 ^ 32 - s.sk.cycle % 2 ^ 32) % 2 ^ 32
    if op = 0 ∨ 6 ≤ op then s.cmdRefuse l n
    else if op = 5 then (s.setPg l n { s.pg l n with cmd := none }).fs b PG.STATUS_PEND 0
    else if d = 0 ∨ 2 ^ 31 ≤ d then s.cmdRefuse l n
    else (s.setPg l n { s.pg l n with cmd := some (op, c) }).fs b PG.STATUS_PEND 1

/-- PG_MOVE_CMD (R202, R203): MOVE becomes pending. -/
def execPgMoveCmd (l : DLane) (n : Fin 6) (s : State) : Host.Outcome State Fault Refusal := .next (s.pgCmd l n.val 1)

/-- PG_VELOCITY_CMD (R202, R203). -/
def execPgVelocityCmd (l : DLane) (n : Fin 6) (s : State) : Host.Outcome State Fault Refusal := .next (s.pgCmd l n.val 2)

/-- PG_STOP_CMD (R202, R203). -/
def execPgStopCmd (l : DLane) (n : Fin 6) (s : State) : Host.Outcome State Fault Refusal := .next (s.pgCmd l n.val 3)

/-- PG_GEAR_CMD (R202, R203). -/
def execPgGearCmd (l : DLane) (n : Fin 6) (s : State) : Host.Outcome State Fault Refusal := .next (s.pgCmd l n.val 4)

/-- PG_CANCEL_CMD (R202, R203): the pending command is removed at the write. -/
def execPgCancelCmd (l : DLane) (n : Fin 6) (s : State) : Host.Outcome State Fault Refusal :=
  let b := pgB l n.val
  let d := (s.fg b PG.CMDCYC_CMDCYC + 2 ^ 32 - s.sk.cycle % 2 ^ 32) % 2 ^ 32
  .next (
    if !s.running l.lane then s
    else if d = 0 ∨ 2 ^ 31 ≤ d then s.cmdRefuse l n.val
    else s.pgCmd l n.val 5)

/-- SPOS_L_READ (R223): the low word of SPOS is returned, and SPOS_H is latched. -/
def execSposLRead (l : DLane) (n : Fin 6) (s : State) : Host.Outcome State Fault Refusal :=
  let b := pgB l n.val
  if !s.running l.lane then .next { s with readData := 0 }
  else
    let p := ratRound (s.pg l n.val).p
    .next ({ s with readData := BitVec.ofNat 32 (unsigned 32 p) }.fsi b PG.SPOS_H_SHI (p / 2 ^ 32))

/-- None of the conditions of R222 holds. -/
def State.pgCfgOk (s : State) (l : DLane) (n : Nat) : Bool :=
  let g := fun f => s.fg (pgB l n) f
  within (g PG.VLIM_LIM) 1 50000000 && g PG.ALIM_LIM != 0 && g PG.ALIM_LIM ≤ g PG.DLIMAX_LIM &&
  !(g PG.CTRL_SHAPE == 1 && g PG.JLIM_LIM == 0) && g PG.CTRL_AQ ≤ 24 && s.fb (fuB l n) FB.CTRL_EN

/-- PG_EN_WRITE (R222): PGn.CTRL is written; the generator is enabled, or EN stays 0 with 0x0B7. Read-only once the unit has
left Chorus. -/
def execPgEnWrite (l : DLane) (n : Fin 6) (v : Word) (s : State) : Host.Outcome State Fault Refusal :=
  let b := pgB l n.val
  if !s.running l.lane || (s.lane l.lane).locked then .next s
  else
    let s := s.rowPut l.lane false (0x40140000 + 0x1000 * n.val) v
    if v.getLsbD 0 && !s.pgCfgOk l n.val then .next ((s.fs b PG.CTRL_EN 0).raiseL l.lane 0xb7 n.val) else .next s

/-- The generators at Axolotl's join (R322): HOLD, at SPOS of the survivor's axis in the last vector before TRANSFER. -/
def State.pgJoin (s : State) (x : Axo) : State :=
  let r := vecRec s.xc.vec (laneNo x.survivor)
  [DLane.A, DLane.B].foldl (fun s l =>
    (List.range 6).foldl (fun s n =>
      if s.running l.lane && s.fb (pgB l n) PG.CTRL_EN then
        match r with
        | some r =>
          let p : Rat := (signed 64 (axEntry r n 1) : Int)
          ((s.setPg l n { s.pg l n with p := p, pPrev := p }).pgRest l n 1).pgShow l n
        | none => s.pgRest l n 1
      else s) s) s

end Sys2Proof.Machine
end

