-- ==== Sys2Proof/Machine/Pump.lean ====
section
/-! DEFINITION. The sensorless pump ports and the trim of their comparators (chapters 08 and 09). -/

namespace Sys2Proof.Machine

open Sys2Proof

/-- The resource of a port (R372). -/
def ppRes (p : Nat) : Nat := 0x10 + p

/-- No ramp is held (R254). -/
def State.ppUnhold (s : State) (l : DLane) (p : Nat) : State :=
  (s.fs (ppB l p) PP.STATUS_BUSHOLD 0).setPp l p { s.pp l p with holdRun := 0, holdRaised := false }

/-- The port enters a state, and its cells follow: floating intervals begin, and only RUN and REVERSE hold a ramp. -/
def State.ppEnter (s : State) (l : DLane) (p st : Nat) : State :=
  let s' := s.fs (ppB l p) PP.STATUS_STATE st
  ((if st = 4 ∨ st = 5 then s' else s'.ppUnhold l p).ppTrims s l p).ppGates l p

/-- The expected crossing of a step in forward rotation rises. -/
def stepRises (st : Nat) : Bool := st % 2 == 1

/-- The step of forward rotation whose crossing is that of a phase, rising or falling. -/
def stepOf (ph : Nat) (rises : Bool) : Nat :=
  ((List.range 6).find? (fun k => stepFloat k == ph && stepRises k == rises)).getD 0

/-! Speeds (R250, R251) -/

/-- T60 in half DRIVE clocks: the sum of the last two intervals. -/
def PpSt.t60x2 (x : PpSt) : Nat := x.iv1 + x.iv2

/-- The port speed in 2^-64 rpm, with the sign of the commutation order (R251). -/
def State.ppSpeed (s : State) (l : DLane) (p : Nat) : Int :=
  let n := s.fg (ppB l p) PP.MOTOR_PP * (s.pp l p).t60x2
  let v : Int := if n = 0 then 0 else roundDiv (4 * 10 ^ 9 * 2 ^ 64) n
  if s.fb (ppB l p) PP.STATUS_DIR then -v else v

/-- T60 of the forced schedule in DRIVE clocks (R257). -/
def State.rampT60 (s : State) (l : DLane) (p : Nat) : Nat :=
  let n := s.fg (ppB l p) PP.MOTOR_PP * (s.pp l p).ramp.toNat
  if n = 0 then 0 else 2 * 10 ^ 9 * 2 ^ 64 / n

/-- The DRIVE clock at or after which the port commutates next: after its synchronisation in catch-spin, on the forced schedule of
RAMP, after an accepted crossing, or blindly (R250, R256, R257). -/
def State.ppDue (s : State) (l : DLane) (p : Nat) : Nat :=
  let x := s.pp l p
  let z := x.zc.getD x.com
  let up := fun (n d : Nat) => (n + d - 1) / d
  match s.ppState l p with
  | 1 => z + up x.t60x2 4
  | 3 => x.com + s.rampT60 l p
  | _ => if x.got then z + up (x.t60x2 * (128 - s.fg (ppB l p) PP.PWMCFG_ADV)) 512 else x.com + up x.t60x2 2

/-- The registers show the speed and the duty. -/
def State.ppShow (s : State) (l : DLane) (p : Nat) : State :=
  let b := ppB l p
  let x := s.pp l p
  (s.fsSat b PP.SPEED_SPEED (roundDiv (s.ppSpeed l p) (2 ^ 60))).fs b PP.STATUS_DUTY (min 65535 (roundDiv x.duty (2 ^ 49)).toNat)

/-- √3 over π / 3, that is 3√3 / π, in units of 2^-128. -/
def keFactor : Int := sqrt3 * 3 * 2 ^ 97 / (twoPi192 / 2 ^ 64)

/-- Ke in units of 2^-16 V s/rad, from the largest reading in LSB and an interval in DRIVE clocks, times 2^128 (R259): √3 e_pk
times 3 T60 / π, an LSB being 31.25 / 2048 V. -/
def keOf (epk iv : Nat) : Int := roundDiv (keFactor * epk * iv * 5 * 1000) (10 ^ 9)

/-- A Ke measurement over an interval between two crossings (R259): one below 1.0 V is discarded. -/
def State.ppKe (s : State) (l : DLane) (p epk iv : Nat) : State :=
  let b := ppB l p
  let ke := s.fg b PP.MOTOR_KE
  if epk * 1000 < 65536 ∨ ke = 0 then s
  else
    let k := keOf epk iv
    let s := (s.fs b PP.KEMEAS_KE (min 65535 (roundDiv k (2 ^ 128)).toNat)).fs b PP.KEMEAS_RATIO
      (min 65535 (roundDiv k (ke * 2 ^ 114)).toNat)
    let lo : Int := 75 * ke * 2 ^ 128
    let hi : Int := 125 * ke * 2 ^ 128
    if 100 * k < lo ∨ hi < 100 * k then (s.fs b PP.EVT_KE 1).raiseR l.lane 0xd1 p (ppRes p) else s

/-! Sequences -/

/-- The direction of rotation that SREF asks for: negative. -/
def PpSt.wantsNeg (x : PpSt) : Bool := decide (x.sref < 0)

/-- Catch-spin begins: every cell off (R256), no high side owed. -/
def State.ppCatch (s : State) (l : DLane) (p : Nat) : State :=
  let b := ppB l p
  let x := s.pp l p
  let s := s.setPp l p { x with neutral := [], crossed := none, fwd := 0, bwd := 0, seen := 0, sync := none, coast := false, duty := 0
                                zc := none, misses := 0, run := 0, got := false, pwm := { x.pwm with hs := [false, false, false] } }
  ((s.fs b PP.STATUS_STOPPED 0).fs b PP.STATUS_DUTY 0).ppEnter l p 1

/-- A start from rest begins with ALIGN (R257). -/
def State.ppAlign (s : State) (l : DLane) (p : Nat) : State :=
  let b := ppB l p
  let x := s.pp l p
  let s := s.setPp l p { x with duty := s.fg b PP.START_ALIGNDUTY * 2 ^ 56, coast := false, kchk := false, hits := 0, zc := none
                                run := 0, got := false, iv1 := 0, iv2 := 0, sync := none }
  let s := (s.fs b PP.STATUS_STEP 0).fs b PP.STATUS_DIR (if x.wantsNeg then 1 else 0)
  ((s.ppEnter l p 2).ppForm l p).ppShow l p

/-- The port steps in its order of rotation at time t (R248): PUMP_STEPp fires. -/
def State.ppStep (s : State) (l : DLane) (p t : Nat) : State :=
  let b := ppB l p
  let k := s.fg b PP.STATUS_STEP
  let k := if s.fb b PP.STATUS_DIR then (k + 5) % 6 else (k + 1) % 6
  let s := s.setPp l p { s.pp l p with com := t, run := 0, got := false }
  (((s.fs b PP.STATUS_STEP k).ppTrims s l p).ppGates l p).trig l.lane (14 + p)

/-- An accepted crossing of a running port at time t (R250, R258). -/
def State.ppCross (s : State) (l : DLane) (p t : Nat) : State :=
  let b := ppB l p
  let x := s.pp l p
  let x := match x.zc with
    | some z => { x with iv2 := if x.iv1 = 0 then t - z else x.iv1, iv1 := t - z }
    | none => x
  let s := s.setPp l p { x with zc := some t, got := true, misses := 0, good := x.good + 1, run := 0 }
  let s := if 100 ≤ x.good + 1 then (s.fs b PP.STATUS_TRIES 0).setPp l p { s.pp l p with retry := false, fails := 0 } else s
  s.ppShow l p

/-- The port reaches RUN. The starts that failed are forgotten; tries that failed are kept until TRIES returns to 0 (R258, assumption
136). -/
def PpSt.reach (x : PpSt) : PpSt := { x with fails := if x.retry then x.fails else 0 }

/-- RUN is reached out of RAMP, where the sixth crossing on the schedule has come (R257). -/
def State.rampCross (s : State) (l : DLane) (p t : Nat) : State :=
  let x := s.pp l p
  let q := s.rampT60 l p
  let on := decide (4 * ((t : Int) - (x.com + q / 2 : Nat)).natAbs ≤ q)
  let s := s.ppCross l p t
  let s := s.setPp l p { s.pp l p with hits := if on then x.hits + 1 else 0 }
  if 6 ≤ (s.pp l p).hits then
    (s.setPp l p { (s.pp l p).reach with int := (s.pp l p).duty, ref := s.ppSpeed l p }).ppEnter l p 4
  else s

/-- The port synchronises in catch-spin (R256): the last crossing, its step in this order of rotation, and the integrator. -/
def State.ppSync (s : State) (l : DLane) (p k vbus : Nat) (neg rev : Bool) : State :=
  let b := ppB l p
  let x := s.pp l p
  let ke := s.fg b PP.MOTOR_KE
  -- 0.955 KE ω_e / VBUS with ω_e = (π / 3) / T60
  let den := 1000 * vbus * x.t60x2 * 5 * 3
  let num : Int := 955 * ke * (twoPi192 / 2 ^ 64) * 10 ^ 9 * 2 ^ 12
  let int := if den = 0 then 0 else roundDiv num (den * 2 ^ 16 * 2 ^ 64)
  let s := (s.fs b PP.STATUS_STEP (if neg then (k + 3) % 6 else k)).fs b PP.STATUS_DIR (if neg then 1 else 0)
  let s := s.setPp l p { x with sync := some rev, int := int, duty := int, kchk := false }
  (s.setPp l p { s.pp l p with ref := s.ppSpeed l p }).ppForm l p

/-- A crossing against the virtual neutral in catch-spin (R256, R259). -/
def State.catchCross (s : State) (l : DLane) (p k t epk vbus : Nat) : State :=
  let x := s.pp l p
  let up := x.crossed == some ((k + 5) % 6)
  let down := x.crossed == some ((k + 1) % 6)
  let iv := match x.zc with
    | some z => t - z
    | none => 0
  let x' := { x with
    crossed := some k, zc := some t, seen := x.seen + 1, fwd := if up then x.fwd + 1 else 1, bwd := if down then x.bwd + 1 else 1
    iv2 := if x.seen ≤ 1 then iv else x.iv1, iv1 := iv }
  let s := (s.setPp l p x').ppShow l p
  let s := if x'.seen = 2 then s.ppKe l p epk iv else s
  let need := if x'.kchk then 3 else 4
  let neg := x.wantsNeg
  let ahead := if neg then x'.bwd else x'.fwd
  let back := if neg then x'.fwd else x'.bwd
  if x'.sync.isSome then s
  else if need ≤ ahead then (s.ppSync l p k vbus neg false).fs (ppB l p) PP.EVT_CATCH_OK 1
  else if 4 ≤ back then ((s.ppSync l p k vbus (!neg) true).fs (ppB l p) PP.EVT_CATCH_OK 1).fs (ppB l p) PP.EVT_REVERSED 1
  else s

/-- A sample of a phase's comparator against the virtual neutral: a change that lasts SFILT samples is a crossing. -/
def State.neutralSample (s : State) (l : DLane) (p ph : Nat) (high : Bool) (t : Nat) : State × Option Nat :=
  let x := s.pp l p
  let need := s.fg (ppB l p) PP.PWMCFG_SFILT + 1
  let c := famGet (fun _ => ({} : NeutralSt)) x.neutral ph
  let put := fun (c : NeutralSt) => s.setPp l p { x with neutral := famSet (fun _ => ({} : NeutralSt)) x.neutral ph c }
  match c.level with
  | none => (put { level := some high }, none)
  | some v =>
    if v = high then (put { level := some v }, none)
    else
      let first := if c.run = 0 then t else c.t
      if need ≤ c.run + 1 then (put { level := some high }, some first) else (put { c with run := c.run + 1, t := first }, none)

/-- The selected of the two bus inputs (R268). -/
def State.ppBus (s : State) (l : DLane) (p : Nat) (vbus : Nat × Nat) : Nat :=
  if s.fb (ppB l p) PP.BUS_BUSSEL then vbus.2 else vbus.1

/-- PUMP_ZC_SAMPLE (R247, R249, R256, R257, R259, R263, R264): a comparator sample at time t, against the virtual neutral while all
cells are off. One that meets a commutation is discarded. -/
def execPumpZcSample (l : DLane) (p : Fin 2) (ph : Fin 3) (high : Bool) (t epk : Nat) (vbus : Nat × Nat) (s : State) :
    Host.Outcome State Fault Refusal :=
  let b := ppB l p.val
  let x := s.pp l p.val
  let st := s.ppState l p.val
  if !s.ppOn l p.val then .next s
  else if s.ppAllOff l p.val then
    let r := s.neutralSample l p.val ph.val high t
    match r.2 with
    | none => .next r.1
    | some z =>
      if st = 1 ∧ ¬ x.busLow then .next (r.1.catchCross l p.val (stepOf ph.val high) z epk (s.ppBus l p.val vbus))
      else .next (r.1.fs b PP.STATUS_STOPPED 0)
  else if (st = 4 ∨ st = 5 ∨ st = 3) ∧ ¬ x.got ∧ ph.val = stepFloat (s.fg b PP.STATUS_STEP) then
    let s := s.fs b PP.STATUS_SENSE (if s.fg b PP.PWMCFG_SBLANK * 2 ≤ x.pwm.cmpV.getD 0 0 then 0 else 1)
    let t60x2 := if st = 3 then 2 * s.rampT60 l p.val else x.t60x2
    let expect := stepRises (s.fg b PP.STATUS_STEP) != s.fb b PP.STATUS_DIR
    if t = x.com ∨ 16 * (t - x.com) < t60x2 ∨ s.ppDue l p.val ≤ t then .next s
    else if high ≠ expect then .next (s.setPp l p.val { x with run := 0 })
    else
      let first := if x.run = 0 then t else x.first
      if s.fg b PP.PWMCFG_SFILT + 1 ≤ x.run + 1 then .next (if st = 3 then s.rampCross l p.val first else s.ppCross l p.val first)
      else .next (s.setPp l p.val { x with run := x.run + 1, first := first })
  else .next s

/-- The rotor is lost (R258): every cell off, a try, and catch-spin. -/
def State.ppLost (s : State) (l : DLane) (p : Nat) : State :=
  let b := ppB l p
  let x := s.pp l p
  let s := s.fs b PP.STATUS_TRIES (min 3 (s.fg b PP.STATUS_TRIES + 1))
  (s.setPp l p { x with retry := true, fails := if x.retry then x.fails else 0, good := 0, kchk := false }).ppCatch l p

/-- PUMP_COMMUTATE (R250, R256 to R258): the commutation time arrives; before it, nothing happens. -/
def execPumpCommutate (l : DLane) (p : Fin 2) (t : Nat) (s : State) : Host.Outcome State Fault Refusal :=
  let b := ppB l p.val
  let x := s.pp l p.val
  let st := s.ppState l p.val
  if !s.ppOn l p.val || x.busLow || decide (t < s.ppDue l p.val) then .next s
  else if st = 1 then
    match x.sync with
    | none => .next s
    | some rev =>
      let s := s.setPp l p.val { x.reach with sync := none }
      .next ((s.fs b PP.STATUS_STATE (if rev then 5 else 4)).ppStep l p.val t |>.ppShow l p.val)
  else if st = 3 ∧ ¬ x.coast then
    .next ((if x.got then s else s.setPp l p.val { x with hits := 0 }).ppStep l p.val t)
  else if st = 4 ∨ st = 5 then
    if x.got then .next (s.ppStep l p.val t)
    else
      let s := ((s.fInc b PP.COUNT_MISS).fs b PP.EVT_MISS 1).raiseR l.lane 0xd7 p.val (ppRes p.val)
      let s := s.setPp l p.val { x with misses := x.misses + 1, good := 0 }
      .next (if 1 ≤ x.misses then s.ppLost l p.val else s.ppStep l p.val t)
  else .next s

/-! The ramp and the PI (R253, R254) -/

/-- The reference after one step towards `goal`: it rises at `up` and falls at `down`, through 0. -/
def rampTo (ref goal up down : Int) : Int :=
  if 0 ≤ ref * goal ∧ ref.natAbs < goal.natAbs then
    if goal < 0 then max goal (ref - up) else min goal (ref + up)
  else
    let aim := if 0 ≤ ref * goal then goal else 0
    if aim < ref then max aim (ref - down) else min aim (ref + down)

/-- The ramp of one PWM period, with the hold of R254. -/
def State.ppRamp (s : State) (l : DLane) (p : Nat) : State :=
  let b := ppB l p
  let x := s.pp l p
  let mx : Int := s.fg b PP.SPDLIM_MAXSPD * 2 ^ 64
  let goal := if s.ppState l p = 5 then 0 else clampI (-mx) mx x.sref
  let per := fun (r : Int) => roundDiv (r * s.sk.t) (2 ^ s.fg b PP.PWMCFG_DIV * 10 ^ 6)
  let ref := rampTo x.ref goal (per x.acc) (per x.dec)
  let falls := decide (ref.natAbs < x.ref.natAbs)
  let lim := s.fg b PP.BUS_VBUSMAX * 2 ^ 8
  let hyst := s.fg b PP.BUS_HYST * 2 ^ 8
  let held := s.fb b PP.STATUS_BUSHOLD
  let hold := falls && (decide (lim < x.vbus) || (held && decide (lim < x.vbus + hyst)))
  if hold then
    let s := (if held then s else s.fs b PP.EVT_BUSHOLD 1).setPp l p { x with holdRun := x.holdRun + 1 }
    s.fs b PP.STATUS_BUSHOLD 1
  else (s.setPp l p { x with ref := ref }).ppUnhold l p

/-- The PI of one period (R253), with reference and speed taken in the direction of the commutation order. -/
def State.ppPi (s : State) (l : DLane) (p : Nat) : State :=
  let b := ppB l p
  let x := s.pp l p
  let e := x.ref - s.ppSpeed l p
  let e := if s.fb b PP.STATUS_DIR then -e else e
  let n := x.int + roundDiv (s.fg b PP.KI_K * e) (2 ^ 28)
  let d := roundDiv (s.fg b PP.KP_K * e) (2 ^ 24) + n
  let lim : Int := min 65536 x.dlim * 2 ^ 48
  let out := decide (d < 0) || decide (lim < d)
  s.setPp l p { x with duty := clampI 0 lim d, int := if out then x.int else n }

/-- One PWM period of the port, at its centre (R253 to R257). While the bus is low the cells are off, no ramp runs, and the port
re-enters through catch-spin. -/
def State.ppPeriod (s : State) (l : DLane) (p : Nat) (vbus : Nat) : State :=
  let b := ppB l p
  let st := s.ppState l p
  let old := s
  let s := s.ppTurn l p false (s.ppHalf l p)
  let x := s.pp l p
  let low := decide (vbus < 4 * 2 ^ 12)
  let back := x.busLow && !low
  let s := s.setPp l p { x with vbus := vbus, busLow := low }
  if low then (s.ppUnhold l p).ppTrims old l p
  else if back ∧ 1 < st ∧ st < 7 then s.ppCatch l p
  else if st = 4 ∨ st = 5 then
    let s := ((s.ppRamp l p).ppPi l p).ppForm l p
    let slow := decide ((s.ppSpeed l p).natAbs < s.fg b PP.STOP_STOPSPD * 2 ^ 64)
    (if st = 5 ∧ slow then s.ppEnter l p 6 else s).ppShow l p
  else if st = 3 ∧ ¬ x.coast then
    let y := s.pp l p
    let step := roundDiv (y.acc * s.sk.t) (2 ^ s.fg b PP.PWMCFG_DIV * 10 ^ 6)
    s.setPp l p { y with ramp := y.ramp + step }
  else s

/-- The entries of the input record: speed, duty and status (R262). -/
def State.ppLatch (s : State) (l : DLane) (p : Nat) : State :=
  let b := ppB l p
  let prov := if s.ppState l p = 4 then 0 else 3
  let duty := min (2 ^ 31 - 1) (roundDiv (s.pp l p).duty (2 ^ 48)).toNat
  s.setPp l p { s.pp l p with
    lat := [mkEntry (s.fi b PP.SPEED_SPEED) 4 prov, mkEntry duty 16 prov, (s.reg (b + PP.STATUS_STATE.ofs)).toNat] }

/-- PUMP_PI_UPDATE (R253 to R257, R262). -/
def execPumpPiUpdate (l : DLane) (p : Fin 2) (vbus : Nat × Nat) (s : State) : Host.Outcome State Fault Refusal :=
  if !s.ppOn l p.val then .next s else .next ((s.ppPeriod l p.val (s.ppBus l p.val vbus)).ppLatch l p.val)

/-! Limits and timers -/

/-- A number of whole PWM periods of the port lasts so many microseconds. -/
def State.ppLasts (s : State) (l : DLane) (p n us : Nat) : Bool := decide (us * 2 ^ s.fg (ppB l p) PP.PWMCFG_DIV ≤ n * s.sk.t)

/-- A blanking interval of the port runs at clock t of its counter: any of its switching edges starts one (R255). -/
def State.ppBlanked (s : State) (l : DLane) (p t : Nat) : Bool :=
  (s.pp l p).pwm.edges.any fun e => match e with
    | none => false
    | some e => decide (t < e + s.fg (ppB l p) PP.ILIM_BLANK)

/-- PUMP_ILIM_TRIP (R255): the voltage of the return shunt, in microvolts, is above the threshold in a clock in which no blanking
interval runs; the PWM phase's high side goes off and its low side on until the next rising half. -/
def execPumpIlimTrip (l : DLane) (p : Fin 2) (rising : Bool) (c uv : Nat) (s : State) : Host.Outcome State Fault Refusal :=
  let b := ppB l p.val
  if !(s.ppOn l p.val && pwmCount (s.ppHalf l p.val) rising c) then .next s
  else
    let s := s.ppTurn l p.val rising c
    let x := s.pp l p.val
    if !s.ppSwitches l p.val || x.busLow || x.tripped || decide (uv ≤ s.fg b PP.ILIM_THR * 1250) ||
        s.ppBlanked l p.val x.pwm.clk then .next s
    else
      let s := s.setPp l p.val { x with tripped := true, pwm := { x.pwm with hs := [false, false, false] } }
      .next (((s.fInc b PP.COUNT_ILIM).fs b PP.EVT_ILIM 1).ppGates l p.val)

/-- PP_ILIM_LONG (R255): trips in every PWM period for 100 ms. -/
def execPpIlimLong (l : DLane) (p : Fin 2) (s : State) : Host.Outcome State Fault Refusal :=
  let x := s.pp l p.val
  let run := x.ilimRun + if x.tripped then 1 else 0
  if s.ppOn l p.val && s.ppLasts l p.val run 100000 && !x.ilimRaised then
    .next ((s.setPp l p.val { x with ilimRaised := true }).raiseR l.lane 0xd5 p.val (ppRes p.val))
  else .next s

/-- PP_BUS_HOLD (R254): a hold has lasted 500 ms. -/
def execPpBusHold (l : DLane) (p : Fin 2) (s : State) : Host.Outcome State Fault Refusal :=
  let x := s.pp l p.val
  if s.ppOn l p.val && s.fb (ppB l p.val) PP.STATUS_BUSHOLD && s.ppLasts l p.val x.holdRun 500000 && !x.holdRaised then
    .next ((s.setPp l p.val { x with holdRaised := true }).raiseR l.lane 0xd6 p.val (ppRes p.val))
  else .next s

/-- PUMP_CATCH_TIMEOUT (R256): neither order was seen within CATCHT; the port starts from rest. -/
def execPumpCatchTimeout (l : DLane) (p : Fin 2) (s : State) : Host.Outcome State Fault Refusal :=
  .next (if s.ppOn l p.val && s.ppState l p.val == 1 && (s.pp l p.val).sync.isNone then s.ppAlign l p.val else s)

/-- PUMP_ALIGN_END (R257): RAMP begins at STARTSPD. -/
def execPumpAlignEnd (l : DLane) (p : Fin 2) (t : Nat) (s : State) : Host.Outcome State Fault Refusal :=
  if s.ppOn l p.val && s.ppState l p.val == 2 then
    let b := ppB l p.val
    let s := s.setPp l p.val { s.pp l p.val with ramp := s.fg b PP.SPDLIM_STARTSPD * 2 ^ 64, hits := 0 }
    .next ((s.fs b PP.STATUS_STATE 3).ppStep l p.val t)
  else .next s

/-- PUMP_START_TIMEOUT (R257, R258): the start fails, and with it the try that it belongs to. The third failed start raises 0x0D2, the
third failed try 0x0D0. -/
def execPumpStartTimeout (l : DLane) (p : Fin 2) (s : State) : Host.Outcome State Fault Refusal :=
  let b := ppB l p.val
  let x := s.pp l p.val
  if !(s.ppOn l p.val && s.ppState l p.val == 3) || x.coast then .next s
  else if x.retry ∧ 2 ≤ x.fails then
    .next (((s.stopPort l p.val).fs b PP.EVT_LOST 1).raiseR l.lane 0xd0 p.val (ppRes p.val))
  else if ¬ x.retry ∧ 2 ≤ x.fails then
    .next ((((s.portRest l p.val 0)).fs b PP.EVT_START_FAIL 1).raiseR l.lane 0xd2 p.val (ppRes p.val))
  else .next (((s.setPp l p.val { x with coast := true, fails := x.fails + 1, hits := 0 }).ppTrims s l p.val).ppGates l p.val)

/-- PUMP_COAST_END (R257, R258): the port tries again: from rest, or as the next try of a lost rotor. -/
def execPumpCoastEnd (l : DLane) (p : Fin 2) (s : State) : Host.Outcome State Fault Refusal :=
  let x := s.pp l p.val
  if !(s.ppOn l p.val && x.coast) then .next s
  else .next (if x.retry then s.ppLost l p.val else s.ppAlign l p.val)

/-- PUMP_BRAKE_END (R256): the port starts from rest. -/
def execPumpBrakeEnd (l : DLane) (p : Fin 2) (s : State) : Host.Outcome State Fault Refusal :=
  .next (if s.ppOn l p.val && s.ppState l p.val == 6 then s.ppAlign l p.val else s)

/-- PP_REC_TIMEOUT (R260): RTMO beacons without an applied record. -/
def execPpRecTimeout (l : DLane) (p : Fin 2) (s : State) : Host.Outcome State Fault Refusal :=
  let b := ppB l p.val
  let lim := s.fg b PP.RECCFG_RTMO
  if s.ppOn l p.val && lim != 0 && (s.pp l p.val).since == lim && s.ppState l p.val != 7 then
    .next (((s.portOff l p.val).fs b PP.EVT_TMO 1).raiseR l.lane 0xd4 p.val (ppRes p.val))
  else .next s

/-- PUMP_STOPPED (R263): OFF or FAULT, and no crossing for 100 ms. -/
def execPumpStopped (l : DLane) (p : Fin 2) (s : State) : Host.Outcome State Fault Refusal :=
  let st := s.ppState l p.val
  .next (if s.ppOn l p.val && (st == 0 || st == 7) then s.fs (ppB l p.val) PP.STATUS_STOPPED 1 else s)

/-! Records (R29, R151, R260, R264, R266) -/

/-- A RUN record's values. -/
def State.ppTake (s : State) (l : DLane) (p : Nat) (r : OutRec) : State :=
  let q := s.fg (ppB l p) PP.RECCFG_QP
  let x := s.pp l p
  s.setPp l p { x with
    tagOk := true, tag := r.tag, kept := none, since := 0
    sref := recVal r 0 q, acc := recRate r 1 q, dec := recRate r 2 q, dlim := min 65536 ((r.pay.getD 4 0).toNat % 2 ^ 17) }

/-- Safe Stop or Safe Hold: a port is in OFF (R261). -/
def State.ppStops (s : State) : Bool := s.sk.st == .safeStop || s.sk.st == .safeHold

/-- A record is applied. It starts no port in Safe Stop or Safe Hold. -/
def State.ppApply (s : State) (l : DLane) (p : Nat) (r : OutRec) : State :=
  let b := ppB l p
  let w6 := (r.pay.getD 4 0).toNat
  let mode := w6 / 2 ^ 17 % 8
  let st := s.ppState l p
  let s := s.ppTake l p r
  if mode = 1 then
    if st = 0 ∧ (s.pp l p).sref ≠ 0 ∧ ¬ s.ppStops then (s.setPp l p { s.pp l p with fails := 0, retry := false }).ppCatch l p
    else if st = 4 ∧ w6.testBit 20 then (s.setPp l p { s.pp l p with kchk := true }).ppCatch l p
    else s
  else
    let s := if mode = 0 then s else (s.fs b PP.EVT_MODE 1).raiseR l.lane 0xd3 p (ppRes p)
    s.portOff l p

/-- The kept record is applied, a hold having ended (R151, R261). -/
def State.ppKept (s : State) (l : DLane) (p : Nat) : State :=
  match (s.pp l p).kept with
  | some r => if s.ppOn l p ∧ s.ppState l p ≠ 7 then s.ppApply l p r else s
  | none => s

/-- PUMP_RECORD_APPLY (R28, R29, R260): the next record of the port becomes readable. -/
def execPumpRecordApply (l : DLane) (p : Fin 2) (s : State) : Host.Outcome State Fault Refusal :=
  let bus := famGet (fun _ => ({} : BusSt)) s.buses (dno l)
  match takeFirst 2 p.val bus.drvQ with
  | none => .next s
  | some (r, q) =>
    let s := { s with buses := famSet (fun _ => ({} : BusSt)) s.buses (dno l) { bus with drvQ := q } }
    let x := s.pp l p.val
    let stale := s.raiseR l.lane 0x17 p.val (resLane l.lane)
    if !s.ppOn l p.val then .next s
    else if x.tagOk && older r.tag x.tag then .next stale
    else if s.ppState l p.val = 7 then .next s
    else if s.drvHeld then
      match x.kept with
      | some k => .next (if older r.tag k.tag then stale else s.setPp l p.val { x with kept := some r })
      | none => .next (s.setPp l p.val { x with kept := some r })
    else .next (s.ppApply l p.val r)

/-! The enable, and the comparators' trim -/

/-- None of the conditions of R267 holds. -/
def State.ppCfgOk (s : State) (l : DLane) (p : Nat) : Bool :=
  let g := fun f => s.fg (ppB l p) f
  g PP.MOTOR_PP != 0 && g PP.MOTOR_KE != 0 && g PP.SPDLIM_MAXSPD != 0 &&
  within (g PP.SPDLIM_STARTSPD) 1 (g PP.SPDLIM_MAXSPD) && decide (25 * 2 ^ g PP.PWMCFG_DIV ≤ s.sk.t) &&
  decide (g PP.PWMCFG_SBLANK * 4 ≤ s.ppHalf l p)

/-- The port is disabled: its cells go off. One that a C2 event stops stays in FAULT (R266, R270). -/
def State.ppDisable (s : State) (l : DLane) (p : Nat) : State :=
  (s.portRest l p (if s.ppState l p = 7 ∧ s.resPending l.lane (0x10 + p) then 7 else 0)).fs (ppB l p) PP.CTRL_EN 0

/-- PP_EN_WRITE (R267): the port is enabled, in OFF, or the write refused with 0x0D8, which leaves EN 0. Read-only once the unit has
left Chorus. -/
def execPpEnWrite (l : DLane) (p : Fin 2) (v : Word) (s : State) : Host.Outcome State Fault Refusal :=
  let b := ppB l p.val
  if !s.running l.lane || (s.lane l.lane).locked then .next s
  else if !v.getLsbD 0 then .next (s.ppDisable l p.val)
  else if !s.ppCfgOk l p.val then
    .next ((if s.fb b PP.CTRL_EN then s.ppDisable l p.val else s).raiseR l.lane 0xd8 p.val (ppRes p.val))
  else if s.fb b PP.CTRL_EN then .next s
  else .next ((s.fs b PP.CTRL_EN 1).setPp l p.val {})

/-- BEMF_TRIM_BIT (R241, R242): an off-pulse window, which with CMP lasts 10 × CMP ns, decides one bit of the trim of a driven phase's
comparator, most significant first; the eighth completes a result, in offset binary. -/
def execBemfTrimBit (l : DLane) (p : Fin 2) (ph : Fin 3) (high : Bool) (s : State) : Host.Outcome State Fault Refusal :=
  let b := calB l.lane
  let x := s.pp l p.val
  let cmp := x.pwm.cmpV.getD 0 0
  let driven := s.ppDrives l p.val && s.ppSwitches l p.val && !s.ppFloats l p.val ph.val
  if !(s.fb b CAL.CTRL_PPEN && driven) || cmp = 0 || decide (cmp < s.fg b CAL.PPCFG_TRIMWIN) then .next s
  else
    let t := famGet (fun _ => ({} : TrimSt)) x.trims ph.val
    let v := 2 * t.v + (if high then 1 else 0)
    let put := fun (t : TrimSt) => s.setPp l p.val { x with trims := famSet (fun _ => ({} : TrimSt)) x.trims ph.val t }
    if t.n + 1 < 8 then .next (put { t with n := t.n + 1, v := v })
    else
      let s := put { t with n := 0, v := 0, res := some ((v : Int) - 128) }
      let stale := s.fg (b + 4 * p.val) CAL.TRIM_STALE
      .next (s.fs (b + 4 * p.val) CAL.TRIM_STALE (Nat.bitwise (fun a b => a && !b) stale (2 ^ ph.val)))

/-- CAL_BEMF_STALE (R242): no trim of a running port's comparator for TRIMAGE. -/
def execCalBemfStale (l : DLane) (p : Fin 2) (ph : Fin 3) (s : State) : Host.Outcome State Fault Refusal :=
  let b := calB l.lane
  let st := s.ppState l p.val
  let stale := s.fg (b + 4 * p.val) CAL.TRIM_STALE
  if !(s.ppOn l p.val && s.fb b CAL.CTRL_PPEN) || st == 0 || st == 7 || stale.testBit ph.val then .next s
  else .next (((s.fs (b + 4 * p.val) CAL.TRIM_STALE (stale ||| 2 ^ ph.val)).fs b CAL.EVT_BEMF_STALE 1).raiseR l.lane 0xc4 p.val
    (ppRes p.val) ph.val)

end Sys2Proof.Machine
end

