-- ==== Sys2Proof/Machine/Exchange.lean ====
section
/-! DEFINITION. The input exchange: input records, their arrival at Skink, and the agreed input vector (R23 to R26, R291 to R296). -/

namespace Sys2Proof.Machine

open Sys2Proof

/-! Input records -/

/-- The entries of profile generator n that the sample point of a beacon latches (R199). -/
def State.pgEntries (s : State) (l : DLane) (n : Nat) : List Nat :=
  let b := pgB l n
  let x := s.pg l n
  let spos := unsigned 64 (ratRound x.p)
  let st := (s.reg (b + PG.STATUS_MODE.ofs)).toNat % 2 ^ 16
  if s.fb b PG.CTRL_EN then
    let q := s.fg (fuB l n) FB.SPDCFG_SPDQ
    let aq := s.fg b PG.CTRL_AQ
    [spos, mkEntry (s.speedValueQ l n q x.speed.num x.speed.den) q 0, mkEntry (s.speedValueQ l n aq x.accel.num x.accel.den) aq 0, st]
  else [spos, mkEntry 0 0 3, mkEntry 0 0 3, st]

/-- Every generator of a drive lane latches its entries. -/
def State.pgLatch (s : State) (l : DLane) : State :=
  (List.range 6).foldl (fun s n => s.setPg l n { s.pg l n with lat := s.pgEntries l n }) s

/-- POS, the speed entry and the status word of a feedback unit, as its lane or a tap of W reads them (R184, R186, R193). -/
def State.fbEntries (s : State) (l : DLane) (n : Nat) : Nat × Nat × Nat :=
  let x := s.fbu l n
  if s.fb (fuB l n) FB.CTRL_EN && s.running l.lane then
    (unsigned 64 x.latPos, mkEntry x.latSpd (s.fg (fuB l n) FB.SPDCFG_SPDQ) x.latProv, x.latStatus)
  else (0, mkEntry 0 0 3, 0)

/-- The six entries of a drive (R140, R292). -/
def State.axEntries (s : State) (l : DLane) (n : Nat) : List Nat :=
  let smp := (s.axis l n).samples
  (List.range 6).map fun k =>
    match smp.getD k [] with
    | [v, q, p] => if s.fb (axB l n) AX.CTRL_EN then mkEntry (v : Int) q p else mkEntry 0 0 3
    | _ => mkEntry 0 0 3

/-- An axis's place: thirteen entries (R292). -/
def State.axPlace (s : State) (l : DLane) (n : Nat) : List Nat :=
  let (pos, spd, st) := s.fbEntries l n
  let pg := (s.pg l n).lat
  [pos, pg.getD 0 0, spd, pg.getD 1 0, pg.getD 2 0, st, pg.getD 3 0] ++ s.axEntries l n

/-- A port's place (R262, R292). -/
def State.ppPlace (s : State) (l : DLane) (p : Nat) : List Nat :=
  if s.fb (ppB l p) PP.CTRL_EN then (s.pp l p).lat else [mkEntry 0 0 3, mkEntry 0 0 3, 0]

/-- CAL.AXn_MAP.PHASE as it stands now: REF1 and OVERLAP begin when their settling is over (R229, R231). -/
def State.calPhase (s : State) (l : DLane) (n : Nat) : Nat :=
  let p := s.fg (calA l n) CAL.MAP_PHASE
  let at_ := (s.calx l n).at_
  let tau := s.calTau l.lane
  let sb := s.calSettle l.lane
  if p = 2 ∧ at_ + (sb + 8 * s.fg (calB l.lane) CAL.CFG_NREF) * tau ≤ s.now then 3
  else if p = 5 ∧ at_ + sb * tau ≤ s.now then 6
  else p

/-- The 16 bytes of axis n in the calibration section (R237). -/
def State.calAxis (s : State) (l : DLane) (n : Nat) : List Byte :=
  let a := calA l n
  if s.fb (axB l n) AX.CTRL_EN then
    let ph := s.calPhase l n
    let st := if s.fb (calB l.lane) CAL.CTRL_EN then
        (if ph = 0 then 0 else 1) + (if ph = 6 then 2 else 0) + (if (s.calx l n).lastCancel then 4 else 0) +
        s.fg a CAL.MAP_SPAN_LOW * 8 + (if ph = 7 then 16 else 0)
      else 0
    natLe 1 (s.reg (a + CAL.MAP_U.ofs)).toNat ++ natLe 1 st ++ natLe 2 0 ++
      natLe 4 (s.reg (a + CAL.COEFU_OFS.ofs)).toNat ++ natLe 4 (s.reg (a + CAL.COEFV_OFS.ofs)).toNat ++
      natLe 4 (s.reg (a + CAL.COEFW_OFS.ofs)).toNat
  else natLe 16 0

/-- The 8 bytes of port p (R237). -/
def State.calPort (s : State) (l : DLane) (p : Nat) : List Byte :=
  let k := calB l.lane + 4 * p + CAL.TRIM_U.ofs
  if s.fb (ppB l p) PP.CTRL_EN then
    natLe 3 (s.reg k).toNat ++ natLe 1 (if s.fb (calB l.lane) CAL.CTRL_PPEN then s.fg (calB l.lane + 4 * p) CAL.TRIM_STALE else 0) ++
      natLe 4 0
  else natLe 8 0

/-- The 128-byte calibration section (R237). -/
def State.calSection (s : State) (l : Lane) : List Byte :=
  let head := natLe 4 (s.fg (calB l) CAL.EPOCH_EPOCH) ++ natLe 4 (s.fg (calB l) CAL.OSCTRIM_TRIM)
  match asDrive l with
  | some d => head ++ (List.range 6).flatMap (s.calAxis d) ++ (List.range 2).flatMap (s.calPort d) ++ natLe 8 0
  | none => head ++ natLe 120 0

/-- A network entry: its head and its payload, of which at most 64 bytes are carried, padded to 8 bytes (R294). -/
def NetEntry.bytes (e : NetEntry) : List Byte :=
  let p := e.pay.take 64
  natLe 4 (e.src + (if 64 < e.pay.length then 16 else 0) + p.length * 2 ^ 8 + e.seq * 2 ^ 16) ++ natLe 4 e.w1 ++
    p ++ List.replicate ((8 - p.length % 8) % 8) 0

/-- The network section: the entries that fit in `room` bytes, their number, and the number left out (R294). -/
def netSection : Nat → List NetEntry → List Byte × Nat × Nat
  | _, [] => ([], 0, 0)
  | room, e :: es =>
    let b := e.bytes
    if b.length ≤ room then
      let (bs, n, o) := netSection (room - b.length) es
      (b ++ bs, n + 1, o)
    else
      let (bs, n, o) := netSection room es
      (bs, n, o + 1)

/-- The receptions that wait for a lane's next record. -/
def State.netOf (s : State) (l : Lane) : List NetEntry := famGet (fun _ => ([] : List NetEntry)) s.xc.net (laneNo l)

/-- The sensor places of a lane's record, from offset 0x040 on (R292, R293). -/
def State.recPlaces (s : State) (l : Lane) : List Nat :=
  match asDrive l with
  | some d => (List.range 6).flatMap (s.axPlace d) ++ (List.range 2).flatMap (s.ppPlace d)
  | none =>
    let tap := fun (d : DLane) n => let (p, v, w) := s.fbEntries d n; [p, w, v]
    (List.range 6).flatMap (tap .A) ++ (List.range 6).flatMap (tap .B)

/-- Lane l's record, the number of network entries and of those left out (R292 to R294). -/
def State.inputRecord (s : State) (l : Lane) (contacts : Nat) : List Byte × Nat × Nat :=
  let (net, netn, out) := netSection (s.fg (xchB l) XCH.CTRL_NETMAX * 8) (s.netOf l)
  let lost := out + famGet (fun _ => 0) s.xc.netLost (laneNo l)
  let body := natLe 24 0 ++ natLe 8 contacts ++ natLe 24 0 ++ (s.recPlaces l).flatMap (natLe 8) ++ s.calSection l ++ net
  let len := (8 + body.length + 31) / 32 * 32
  (natLe 4 (s.tag + laneNo l * 2 ^ 16 + 2 ^ 24) ++ natLe 4 (len + netn * 2 ^ 16 + min 255 lost * 2 ^ 24) ++ body ++
    List.replicate (len - (8 + body.length)) 0, out, lost)

/-- INPUT_RECORD_POST (R23, R291 to R294): the assembler builds the lane's record and posts it. -/
def execInputRecordPost (l : Lane) (contacts : BitVec 32) (s : State) : Host.Outcome State Fault Refusal :=
  if !s.running l || !s.fb (xchB l) XCH.CTRL_EN then .next s
  else
    let (rec_, out, lost) := s.inputRecord l contacts.toNat
    let b := xchB l
    let s := { s with xc := { s.xc with
      net := famSet (fun _ => ([] : List NetEntry)) s.xc.net (laneNo l) []
      netLost := famSet (fun _ => 0) s.xc.netLost (laneNo l) 0 } }
    let s := s.fs b XCH.STATUS_NETLOST (min 255 (s.fg b XCH.STATUS_NETLOST + lost))
    let s := (List.range out).foldl (fun s _ => s.raiseL l 0x18 255) s
    if 1024 < rec_.length then .next (s.raiseL l 0x15 255)
    else
      let s := (s.fs b XCH.STATUS_LASTTAG s.tag).fs b XCH.STATUS_LASTBEATS (rec_.length / 32)
      .next { s with xc := { s.xc with posted := s.xc.posted ++ [(laneNo l, rec_)] } }

/-! Publication -/

/-- Skink marks a lane's records absent (R50, R322). -/
def State.markedAbsent (s : State) (l : Lane) : Bool :=
  match s.sk.axo with
  | some x => if x.lane = l then x.phase != .joined else s.isRemoved l
  | none => s.isRemoved l

/-- The record that vector k would carry of a lane. -/
def State.recOf (s : State) (l : Lane) : Option (List Byte) :=
  if s.markedAbsent l then none
  else
    match l with
    | .A => s.xc.recA
    | .B => s.xc.recB
    | .W => s.xc.recW

/-- The bytes of vector k (R25, R295). -/
def State.vectorBytes (s : State) (deadline : Bool) : List Byte :=
  let a := s.recOf .A
  let b := s.recOf .B
  let w := s.recOf .W
  let len := fun (r : Option (List Byte)) => (r.getD []).length
  let bit := fun (r : Option (List Byte)) (n : Nat) => if r.isNone then n else 0
  let at_ := fun (r : Option (List Byte)) (n : Nat) => if r.isNone then 0 else n
  natLe 4 s.sk.cycle ++ natLe 4 (bit a 1 + bit b 2 + bit w 4 + (if deadline then 8 else 0) + s.xc.stAt.code * 16) ++
    natLe 2 (at_ a 32) ++ natLe 2 (at_ b (32 + len a)) ++ natLe 2 (at_ w (32 + len a + len b)) ++ natLe 2 0 ++
    natLe 2 (len a) ++ natLe 2 (len b) ++ natLe 2 (len w) ++ natLe 10 0 ++ a.getD [] ++ b.getD [] ++ w.getD []

/-- The speed entry of axis m in a record: VALUE and Q, where it is valid. -/
def speedOf (r : List Byte) (m : Nat) : Option (Int × Int) :=
  let e := axEntry r m 2
  if entProv e = 3 then none else some (entVal e, entQ e)

/-- |VALUE| × 2^(−Q) compared with num / den of 2^-8 units: the left side and the right side of a < (R38, R45). -/
def speedSides (v q : Int) (num den : Nat) : Nat × Nat :=
  (v.natAbs * 2 ^ 8 * den * 2 ^ (128 - q).toNat, num * 2 ^ 128)

/-- The speed of axis m in a record lies below STANDSTILL_SPD × MAXSPD, or MAXSPD is 0 (R38). -/
def State.axisStill (s : State) (r : List Byte) (m : Nat) : Bool :=
  s.cfgMaxSpd m == 0 ||
  (match speedOf r m with
   | none => false
   | some (v, q) => let (x, y) := speedSides v q (s.cfgStill * s.cfgMaxSpd m) 1000; decide (x < y))

/-- A drive lane takes part in R38: it runs, and Skink has not marked its records absent. -/
def State.driveSeen (s : State) (l : DLane) : Bool := s.running l.lane && !s.markedAbsent l.lane

/-- Every condition of R38 holds in the present vector: the record of each drive lane that runs is there, and its axes are still. -/
def State.vectorStill (s : State) : Bool :=
  [DLane.A, DLane.B].all fun l => !s.driveSeen l ||
    (match s.recOf l.lane with
     | none => false
     | some r => (List.range 6).all (s.axisStill r))

/-- Standstill after a vector (R38): broken, it ends at once, and an Axolotl attempt with it (R56, R324). -/
def State.stillUpdate (s : State) : State :=
  let run := s.vectorStill
  let lost := s.sk.still && !run
  let s := s.setSk { s.sk with
    stillRun := run, still := s.sk.still && run, stillAt := if run && !s.sk.stillRun then s.now else s.sk.stillAt }
  if lost && s.sk.st == .axolotl then s.axoFail else s

/-- Whether an axis is above 110 % of the active speed cap (R45); none without a speed. -/
def State.axisOver (s : State) (l : DLane) (m : Nat) : Option Bool :=
  ((s.recOf l.lane).bind (fun r => speedOf r m)).map fun (v, q) =>
    let (x, y) := speedSides v q (s.sk.capSpd * 110 * s.cfgMaxSpd m) 10000
    decide (y < x)

/-- The running and the raised excesses of R45 after a vector. -/
def State.speedUpdate (s : State) : State :=
  let keys := [DLane.A, DLane.B].flatMap fun l => (List.range 6).map fun m => (l, m)
  let fast := keys.filter fun (l, m) => s.cfgMaxSpd m != 0 && s.axisOver l m == some true
  let within := keys.filter fun (l, m) => s.axisOver l m == some false
  let num := fun (p : DLane × Nat) => (dno p.1, p.2)
  s.setSk { s.sk with
    speeding := (fast.map num).map fun k => (k, (s.sk.speeding.lookup k).getD s.now)
    speedRaised := s.sk.speedRaised.filter fun k => !(within.map num).contains k }

/-- The lane's run of absences after a vector (R296). A lane being restored, whose records Skink itself leaves out, has none. -/
def State.absUpdate (s : State) (l : Lane) : State :=
  let i := laneNo l
  let restored : Bool := match s.sk.axo with
    | some x => decide (x.lane = l) && x.phase != .joined
    | none => false
  if (s.recOf l).isSome then
    { s with xc := { s.xc with absRun := famSet (fun _ => 0) s.xc.absRun i 0, absRaised := s.xc.absRaised.filter (· != l) } }
  else if restored then s
  else { s with xc := { s.xc with absRun := famSet (fun _ => 0) s.xc.absRun i (famGet (fun _ => 0) s.xc.absRun i + 1) } }

/-- The lane's view of safe input i differs from Skink's accepted levels (R336); none where its record is absent. -/
def State.siDiffers (s : State) (l : Lane) (i : Nat) : Option Bool :=
  (s.recOf l).map fun r =>
    let v := byteF r 0x20 8 / 2 ^ (2 * i) % 4
    v != (if (s.si i).a then 1 else 0) + (if (s.si i).b then 2 else 0)

/-- The running differences of input i after a vector (R336). -/
def State.siUpdate (s : State) (i : Nat) : State :=
  if s.cfgSiMode i = 0 then s
  else
    [Lane.A, Lane.B, Lane.W].foldl (fun s l =>
      let x := s.si i
      match s.siDiffers l i with
      | none => s
      | some true => s.setSi i { x with diff := if (x.diff.lookup l).isSome then x.diff else x.diff ++ [(l, s.now)] }
      | some false => s.setSi i { x with diff := x.diff.filter (·.1 != l), diffRaised := x.diffRaised.filter (· != l) }) s

/-- What Skink takes from a vector (R24, R25, R38, R45, R296, R336). -/
def State.vectorChecks (s : State) : State :=
  let counts := s.sk.st.active
  let none_ := (s.recOf .A).isNone && (s.recOf .B).isNone && (s.recOf .W).isNone
  let s := if counts && none_ then s.raiseS 0x23 else s
  let s := if counts then ((s.absUpdate .A).absUpdate .B).absUpdate .W else s
  let s := (List.range 16).foldl State.siUpdate s
  s.speedUpdate.stillUpdate

/-- Vector k is on its way into lane l's ring buffer: it is the one most recently published, and the vector that the buffer held is
gone (R82, R83). -/
def State.ringBegin (s : State) (k : Nat) (l : Lane) : State :=
  if s.running l then s.setLe l { s.le l with ring := famIns (s.le l).ring (k % 4) k, newest := some k } else s

/-- Skink publishes vector k (R25). In TRANSFER it is withheld (R320). -/
def State.publish (s : State) (deadline : Bool) : State :=
  if s.inTransfer then { s with xc := { s.xc with published := true } }
  else
    let v := s.vectorBytes deadline
    let s := { s with xc := { s.xc with published := true, old := s.xc.vec, oldCycle := s.xc.vecCycle, vec := v, vecCycle := s.sk.cycle } }
    let k := s.sk.cycle
    (((s.ringBegin k .A).ringBegin k .B).ringBegin k .W).vectorChecks

/-- The state with the record of a lane for the present cycle. -/
def State.setRec (s : State) (l : Lane) (r : List Byte) : State :=
  { s with xc := match l with
      | .A => { s.xc with recA := some r }
      | .B => { s.xc with recB := some r }
      | .W => { s.xc with recW := some r } }

/-- EXCH_RECORD_RECEIVE (R24, R25): the last beat of lane l's record arrives, so many Skink clocks after the beacon; the deadline
is 6 µs, or 288 clocks. -/
def execExchRecordReceive (l : Lane) (skinkClocks : Nat) (s : State) : Host.Outcome State Fault Refusal :=
  match s.xc.posted.find? (fun p => p.1 == laneNo l) with
  | none => .next s
  | some p =>
    let s := { s with xc := { s.xc with posted := s.xc.posted.erase p } }
    if !s.skinkOn then .next s
    else if byteF p.2 0 2 = s.tag ∧ skinkClocks ≤ 288 ∧ ¬ s.xc.published then
      let s := s.setRec l p.2
      .next (if (s.recOf .A).isSome && (s.recOf .B).isSome && (s.recOf .W).isSome then s.publish false else s)
    else .next (if s.sk.st.active then s.raiseS (0x20 + laneNo l) 255 (resLane l) else s)

/-- EXCH_DEADLINE (R25): 6 µs after the beacon, the vector is published without the records that are absent. -/
def execExchDeadline (s : State) : Host.Outcome State Fault Refusal :=
  if s.skinkOn && !s.xc.published && decide (s.sk.beaconAt + 6000 ≤ s.now) then .next (s.publish true) else .next s

/-- EXCH_ABSENT_RUN (R296): the lane's record is absent from a third vector in a row. -/
def execExchAbsentRun (l : Lane) (s : State) : Host.Outcome State Fault Refusal :=
  if s.skinkOn && decide (3 ≤ famGet (fun _ => 0) s.xc.absRun (laneNo l)) && !s.xc.absRaised.contains l then
    .next (({ s with xc := { s.xc with absRaised := l :: s.xc.absRaised } }).raiseS 0x24 255 (resLane l))
  else .next s

/-- VECTOR_READY (R77, R83): the published vector is readable in the lane's ring buffer k mod 4, and the source fires. -/
def execVectorReady (l : Lane) (s : State) : Host.Outcome State Fault Refusal :=
  let e := s.le l
  let k := s.xc.vecCycle
  if !s.running l || s.xc.vec == [] || (e.newest == some k && e.ready == some k) then .next s
  else
    let s := s.lmWrite l (0xfc000 + 0x1000 * (k % 4)) s.xc.vec
    let s := s.setLe l { s.le l with ring := famIns (s.le l).ring (k % 4) k, newest := some k, ready := some k }
    .next ((s.trig l 1).icEdge l 41)

/-- The settings of XCH.CTRL meet R291: POSTDLY, the window of every enabled axis, and NETMAX. -/
def State.xchCfgOk (s : State) (l : Lane) : Bool :=
  let d := s.fg (xchB l) XCH.CTRL_POSTDLY
  let axes := match asDrive l with
    | some x => (List.range 6).all fun n => !s.fb (axB x n) AX.CTRL_EN || decide (75 * s.fg (axB x n) AX.SENSCFG_OSR + 100 ≤ d * 10)
    | none => true
  decide (50 ≤ d ∧ d ≤ 520) && axes && decide (s.fg (xchB l) XCH.CTRL_NETMAX ≤ (if l = .W then 68 else 20))

/-- XCH_EN_WRITE (R291): XCH.CTRL is written; EN stays 0 with 0x019 where the settings are not valid. Read-only once the unit has
left Chorus. -/
def execXchEnWrite (l : Lane) (v : Word) (s : State) : Host.Outcome State Fault Refusal :=
  if !s.running l || (s.lane l).locked then .next s
  else
    let s := s.rowPut l false 0x50010000 v
    if v.getLsbD 0 && !s.xchCfgOk l then .next ((s.fs (xchB l) XCH.CTRL_EN 0).raiseL l 0x19 255) else .next s

end Sys2Proof.Machine
end

