-- ==== Sys2Proof/Machine/Scn.lean ====
section
/-! DEFINITION. The channels of the Slotted Cycle Network (chapter 14). -/

namespace Sys2Proof.Machine

open Sys2Proof

/-! Tables -/

/-- The base of mode m of a channel, of sync entry i, of TX entry e and of RX entry e. -/
def scnMode (l : Lane) (c m : Nat) : Nat := scnB l c + 32 * m
def scnSync (l : Lane) (c i : Nat) : Nat := scnB l c + 4 * i
def scnRx (l : Lane) (c e : Nat) : Nat := scnB l c + 16 * e

/-- The state of a channel: 0 OFF, 1 LISTEN, 2 COLDSTART, 3 INTEGRATE, 4 SYNC. -/
def State.scnState (s : State) (l : Lane) (c : Nat) : Nat := s.fg (scnB l c) SCN.STATUS_STATE

/-- The base of the mode in force. -/
def State.scnNow (s : State) (l : Lane) (c : Nat) : Nat := scnMode l c (s.fg (scnB l c) SCN.STATUS_MODE)

/-- The wire time of a frame with p payload bytes in nanoseconds (R384). -/
def wireTime (p : Nat) : Nat := 8 * (38 + max 46 (16 + p))

/-- The enabled sync entries of a channel, by their slots. -/
def State.syncSlots (s : State) (l : Lane) (c : Nat) : List Nat :=
  (List.range 15).filterMap fun i =>
    if s.fb (scnSync l c i) SCN.SYNC_EN then some (s.fg (scnSync l c i) SCN.SYNC_SLOT) else none

/-- A mode descriptor meets R389. -/
def State.modeOk (s : State) (l : Lane) (c m : Nat) : Bool :=
  let g := s.fg (scnMode l c m)
  let within := fun x lo hi => decide (lo ≤ x) && decide (x ≤ hi)
  let cyc := g SCN.MODE0_CYCLEN
  let used := g SCN.MODE1_NSLOT * g SCN.MODE1_SLOTLEN + g SCN.MODE2_NMINI * g SCN.MODE2_MINILEN
  within cyc 2500 160000 && within (g SCN.MODE1_NSLOT) 2 1023 && within (g SCN.MODE1_SLOTLEN) 20 2560 &&
  within (g SCN.MODE2_MINILEN) 5 80 && decide (g SCN.MODE3_GUARD < g SCN.MODE3_ACTOFS) &&
  (g SCN.MODE2_NMINI == 0 || decide (2 * g SCN.MODE3_GUARD < g SCN.MODE2_MINILEN)) &&
  decide (used + 20 + (g SCN.MODE4_OFSLIM + 99) / 100 ≤ cyc)

/-- The valid modes of a channel. -/
def State.validModes (s : State) (l : Lane) (c : Nat) : List Nat :=
  (List.range 8).filter fun m => s.fb (scnMode l c m) SCN.MODE0_VALID

/-- An event of the channel's own: its bit, its source, and for a path the network it names. -/
def State.scnEvent (s : State) (l : Lane) (c : Nat) (f : Fld) (src : Nat) (path : Bool) : State :=
  let s := s.fs (scnB l c) f 1
  if path then s.raiseR l src c (resNet c) else s.raiseL l src c

/-! The frame layout (R384 to R386) -/

/-- CRC-16 of R385: one byte more. -/
def crc16Byte (acc : Nat) (b : Byte) : Nat :=
  (List.range 8).foldl (fun (x : Nat) _ => (if 2 ^ 15 ≤ x then (2 * x) ^^^ 0x1021 else 2 * x) % 2 ^ 16) (acc ^^^ (b.toNat * 256))

/-- Bytes 0 to 13 of a frame's header (R385). -/
def frameHead (f : ScnFrame) : List Byte :=
  natBe 1 (f.ver.val * 16 + f.kind) ++ natBe 1 f.netid.toNat ++ natBe 2 f.cycle.toNat ++
    natBe 2 (f.mode.val * 2 ^ 13 + (if f.mreqv then 2 ^ 12 else 0) + f.rsv.toNat % 4 * 2 ^ 10 + f.slot % 2 ^ 10) ++
    natBe 1 f.sender.toNat ++ natBe 2 (f.mreq.val * 2 ^ 13 + f.rsv.toNat / 4 % 4 * 2 ^ 11 + f.len % 2 ^ 11) ++
    natBe 1 f.dynid.toNat ++ natBe 2 f.seq.toNat ++ natBe 2 (f.rsv.toNat / 16)

/-- The HCRC that the header calls for. -/
def frameCrc (f : ScnFrame) : BitVec 16 := BitVec.ofNat 16 ((frameHead f).foldl crc16Byte 0xffff)

/-- The frame's payload. -/
def framePay (f : ScnFrame) : List Byte := f.body.take f.len

/-- The header is valid on network `netid`, as far as HCRC (R386, R392). -/
def frameHeadOk (f : ScnFrame) (netid : Nat) : Bool :=
  f.eth == 0x88b5 && f.ver == 1 && decide (f.kind < 5) && f.hcrc == frameCrc f && f.netid.toNat == netid && decide (f.len ≤ 1456) && f.rsv == 0

/-- The frame is valid on network `netid`: a receiver does not discard it (R386). -/
def frameOk (f : ScnFrame) (netid : Nat) : Bool :=
  frameHeadOk f netid && decide (f.len ≤ f.body.length) && decide (16 + f.body.length ≤ max 46 (16 + f.len)) && f.fcsOk

/-- The frame with its HCRC, its payload padded to 30 bytes (R384, R385). -/
def frameSeal (f : ScnFrame) (p : List Byte) : ScnFrame :=
  let f := { f with len := p.length, body := p ++ List.replicate (30 - p.length) 0 }
  { f with hcrc := frameCrc f }

/-! Staging and frames -/

/-- A byte of a channel's TX staging. -/
def State.txByte (s : State) (l : Lane) (c ofs : Nat) : Byte :=
  let w := s.reg (scnG l + 0x20000 + 0x10000 * c + 4 * (ofs % 0x4000 / 4))
  BitVec.ofNat 8 (w.toNat / 256 ^ (ofs % 4))

/-- The payload of TX entry e. -/
def State.txPayload (s : State) (l : Lane) (c e : Nat) : List Byte :=
  let k := scnTx l c e
  (List.range (s.fg k SCN.TX1_LEN)).map fun i => s.txByte l c (s.fg k SCN.TX1_PTR + i)

/-- The commit of TX entry e is refused (R381, R387, R408). -/
def State.txBad (s : State) (l : Lane) (c e : Nat) : Bool :=
  let k := scnTx l c e
  let len := s.fg k SCN.TX1_LEN
  let dyn := s.fg k SCN.TX0_SLOT == 1023
  let fits := fun m =>
    let b := scnMode l c m
    decide (wireTime len + 100 * (s.fg b SCN.MODE3_ACTOFS + s.fg b SCN.MODE3_GUARD) ≤ 100 * s.fg b SCN.MODE1_SLOTLEN)
  decide (1456 < len) || (l == .W && s.fb k SCN.TX3_UNITOUT) || (dyn && s.fg k SCN.TX0_DYNID == 0) ||
  (!dyn && (s.validModes l c).any fun m => s.fg k SCN.TX0_MODEMASK / 2 ^ m % 2 == 1 && !fits m)

/-- A commit that is not refused (R302, R303, R310, R381): a unit output is staged, its record on the bus, or with SAFETY 0 ready
or suppressed at once; W's witness frame goes to the vote buffer only; any other frame is ready. -/
def State.txCommit (s : State) (l : Lane) (c e : Nat) : State :=
  let k := scnTx l c e
  let p := s.txPayload l c e
  let w2 := s.fg k SCN.TX0_SLOT + s.fg (scnB l c) SCN.STATUS_MODE * 2 ^ 10 + s.fg k SCN.TX2_SEQ * 2 ^ 16
  let r := frameRec 8 c (s.fg k SCN.TX2_TAG) w2 p.length (s.fb k SCN.TX3_SAFETY) p
  if l = .W then
    if s.fb k SCN.TX3_WITNESS then (s.setTx l c e 6).toSkink l { r := r } else s.setTx l c e 2
  else if s.fb k SCN.TX3_UNITOUT then
    let st := if s.fb k SCN.TX3_SAFETY then 1 else if l = (s.netTx c).lane then 2 else 6
    (s.setTx l c e st).toSkink l { r := r, elem := some e }
  else s.setTx l c e 2

/-- SCN_TX_COMMIT (R387, R408): word 3 is written with COMMIT. While the entry is STAGED or READY the write is ignored. -/
def execScnTxCommit (l : Lane) (c : Fin 2) (e : Fin 32) (v : Word) (s : State) : Host.Outcome State Fault Refusal :=
  let st := s.txState l c.val e.val
  if !s.running l || st == 1 || st == 2 then .next s
  else
    let s := s.rowPut l (s.lane l).locked (0x4030040c + 0x2000 * c.val + 16 * e.val) v
    if !v.getLsbD 0 then .next s
    else if s.txBad l c.val e.val then .next ((s.setTx l c.val e.val 4).scnEvent l c.val SCN.EVT_TXREF 0x184 false)
    else .next (s.txCommit l c.val e.val)

/-- SCN_TX_DROP (R408). -/
def execScnTxDrop (l : Lane) (c : Fin 2) (e : Fin 32) (s : State) : Host.Outcome State Fault Refusal :=
  if s.running l then .next (s.setTx l c.val e.val 0) else .next s

/-- SCN_TX_EXPIRY (R408): a READY entry has waited LIFE cycles. -/
def execScnTxExpiry (l : Lane) (c : Fin 2) (e : Fin 32) (s : State) : Host.Outcome State Fault Refusal :=
  let life := s.fg (scnTx l c.val e.val) SCN.TX3_LIFE
  if s.txState l c.val e.val = 2 ∧ life ≠ 0 ∧ life ≤ famGet (fun _ => 0) (s.scn l c.val).lives e.val then
    .next ((s.setTx l c.val e.val 5).scnEvent l c.val SCN.EVT_TXEXP 0x185 false)
  else .next s

/-- The READY entry of the lowest number for a slot or a dynamic id in the mode in force (R410). -/
def State.txPick (s : State) (l : Lane) (c slot dyn : Nat) : Option Nat :=
  let m := s.fg (scnB l c) SCN.STATUS_MODE
  (List.range 32).find? fun e =>
    let k := scnTx l c e
    s.txState l c e == 2 && s.fg k SCN.TX0_SLOT == slot && (slot != 1023 || s.fg k SCN.TX0_DYNID == dyn) &&
    s.fg k SCN.TX0_MODEMASK / 2 ^ m % 2 == 1

/-- A number as one of the eight modes. -/
def fin8 (n : Nat) : Fin 8 := ⟨n % 8, by omega⟩

/-- A frame of the channel in this cycle (R384, R385); sync frames carry its mode request (R405). -/
def State.scnFrame (s : State) (l : Lane) (c kind slot dyn sender seq : Nat) (p : List Byte) : ScnFrame :=
  let b := scnB l c
  let sync := kind == 1 || kind == 2
  let f : ScnFrame := {
    kind := kind, netid := BitVec.ofNat 8 (s.fg b SCN.IDS_NETID), cycle := BitVec.ofNat 16 (s.fg b SCN.STATUS_CYCLE)
    mode := fin8 (s.fg b SCN.STATUS_MODE), mreqv := sync && s.fb b SCN.STATUS_MREQV, slot := slot, sender := BitVec.ofNat 8 sender
    mreq := if sync && s.fb b SCN.STATUS_MREQV then fin8 (s.fg b SCN.STATUS_MREQ) else 0
    dynid := BitVec.ofNat 8 dyn, seq := BitVec.ofNat 16 seq, len := 0, hcrc := 0, body := [] }
  frameSeal f p

/-- The frame of TX entry e: a data frame, or the sync frame that carries its payload (R409). -/
def State.scnEntryFrame (s : State) (l : Lane) (c e kind slot dyn : Nat) : ScnFrame :=
  let k := scnTx l c e
  let id := if s.fb k SCN.TX3_UNITOUT then s.fg (scnB l c) SCN.IDS_USENDER else s.fg (scnB l c) SCN.IDS_SENDER
  s.scnFrame l c kind slot dyn id (s.fg k SCN.TX2_SEQ) (s.txPayload l c e)

/-- The payload of the unit status frame (R382). -/
def State.statPayload (s : State) : List Byte :=
  natLe 1 (s.sk.st.code + if s.sk.locked then 16 else 0) ++ natLe 1 s.sk.capTq ++ natLe 1 s.sk.capSpd ++ natLe 1 0 ++
    natBe 4 s.sk.cycle ++ natLe 8 0

/-- The channel's own slot is prepared with frame f of an entry. -/
def State.scnPrep (s : State) (l : Lane) (c : Nat) (p : Option ScnPrep) : State := s.setScn l c { s.scn l c with prep := p }

/-- The sync frame of the channel's slot (R399, R409): a cold-start frame in the first four cycles of COLDSTART. Without a READY
entry its sequence number is open. -/
def State.prepSync (s : State) (l : Lane) (c slot : Nat) : State :=
  let kind := if s.scnState l c = 2 ∧ (s.scn l c).cs < 4 then 2 else 1
  match s.txPick l c slot 0 with
  | some e => s.scnPrep l c (some ⟨s.scnEntryFrame l c e kind slot 0, some e⟩)
  | none =>
    let (q, s) := s.takeNat
    s.scnPrep l c (some ⟨s.scnFrame l c kind slot 0 (s.fg (scnB l c) SCN.IDS_SENDER) q [], none⟩)

/-- SCN_SLOT_PREPARE (R382, R399, R409, R410): 1 µs before its action point, an own slot's frame is chosen, or the slot stays
empty. -/
def execScnSlotPrepare (l : Lane) (c : Fin 2) (slot : BitVec 10) (dynid : BitVec 8) (s : State) : Host.Outcome State Fault Refusal :=
  let b := scnB l c.val
  let st := s.scnState l c.val
  let n := slot.toNat
  let own := s.fb b SCN.CTRL_SYNCN && n == s.fg b SCN.CTRL_SYNCSLOT && n != 1023
  if !s.running l || (st != 2 && st != 4) then .next s
  else if own then .next (s.prepSync l c.val n)
  else if st = 2 then .next s
  else if n ≠ 1023 ∧ n = s.fg (s.scnNow l c.val) SCN.MODE3_STATSLOT ∧ l = (s.netTx c.val).lane then
    let x := s.scn l c.val
    let f := s.scnFrame l c.val 4 n 0 (s.fg b SCN.IDS_USENDER) x.statSeq s.statPayload
    .next (s.scnPrep l c.val (some ⟨f, none⟩))
  else
    match s.txPick l c.val n dynid.toNat with
    | some e => .next (s.scnPrep l c.val (some ⟨s.scnEntryFrame l c.val e 0 n (if n = 1023 then dynid.toNat else 0), some e⟩))
    | none => .next ((s.scnPrep l c.val none).fInc b SCN.COUNT_TXEMPTY)

/-- The guardian's mask of the mode in force enables a slot, or with 1,023 the dynamic segment (R396). -/
def State.guardBit (s : State) (l : Lane) (c slot : Nat) : Bool :=
  let k := scnB l c + 128 * s.fg (scnB l c) SCN.STATUS_MODE + 4 * (slot / 32) + SCN.GMASK_MASK.ofs
  (s.reg k).getLsbD (slot % 32)

/-- An entry's frame has been sent (R408). -/
def State.txSent (s : State) (l : Lane) (c e : Nat) : State :=
  let k := scnTx l c e
  let s := if s.fb k SCN.TX3_AUTOSEQ then s.fs k SCN.TX2_SEQ (s.fg k SCN.TX2_SEQ + 1) else s
  s.setTx l c e (if s.fb k SCN.TX3_REPEAT then 2 else 3)

/-- The guardian's window of a static slot, or of the dynamic segment for 1,023, holds the time at_ (R396, R415). -/
def State.guardOpen (s : State) (l : Lane) (c slot at_ : Nat) : Bool :=
  let g := s.fg (s.scnNow l c)
  let stat := g SCN.MODE1_NSLOT * g SCN.MODE1_SLOTLEN
  s.guardBit l c slot &&
  (if slot = 1023 then within at_ (100 * stat) (100 * (stat + g SCN.MODE2_NMINI * g SCN.MODE2_MINILEN))
   else within at_ (100 * (slot * g SCN.MODE1_SLOTLEN + g SCN.MODE3_ACTOFS - g SCN.MODE3_GUARD)) (100 * (slot + 1) * g SCN.MODE1_SLOTLEN))

/-- The guardian cuts the transmitter off until its source is acknowledged (R397). -/
def State.guardCut (s : State) (l : Lane) (c : Nat) : State :=
  (s.setScn l c { s.scn l c with cut := true, prep := none, line := none }).scnEvent l c SCN.EVT_GUARD 0x189 true

/-- SCN_TRANSMIT_START (R390, R391, R396, R397, R408): the prepared frame starts at its action point, a dynamic one only in its own
mini-slot. Outside the guardian's windows the transmitter is cut off; while it is off, nothing is sent. -/
def execScnTransmitStart (l : Lane) (c : Fin 2) (at_ : Nat) (s : State) : Host.Outcome State Fault Refusal :=
  let x := s.scn l c.val
  match x.prep with
  | none => .next s
  | some p =>
    let guard := s.fb (scnB l c.val) SCN.CTRL_GUARDEN
    let s := s.scnPrep l c.val none
    if x.cut || (guard && x.blocked) || (p.f.slot == 1023 && x.mini != some p.f.dynid.toNat) then .next s
    else if guard && !s.guardOpen l c.val p.f.slot at_ then .next (s.guardCut l c.val)
    else
      let s := s.setScn l c.val { s.scn l c.val with line := some p.f, statSeq := if p.f.kind = 4 then (x.statSeq + 1) % 2 ^ 16 else x.statSeq }
      .next (match p.entry with
        | some e => s.txSent l c.val e
        | none => s)

/-- GUARDIAN_VIOLATION (R397): the engine transmits outside an enabled window; the transmitter is cut off until the source is
acknowledged. -/
def execGuardianViolation (l : Lane) (c : Fin 2) (s : State) : Host.Outcome State Fault Refusal :=
  if s.running l && s.fb (scnB l c.val) SCN.CTRL_GUARDEN && decide (2 ≤ s.scnState l c.val) then
    .next (s.guardCut l c.val)
  else .next s

/-- SCN_MINISLOT_BOUNDARY (R387, R391): the counter is 0 in the first mini-slot, and moves on where no frame is on the line. A
prepared frame starts only in its own mini-slot, and only if it ends within the dynamic segment. -/
def execScnMinislotBoundary (l : Lane) (c : Fin 2) (frameOnLine : Bool) (k : Nat) (s : State) : Host.Outcome State Fault Refusal :=
  let x := s.scn l c.val
  if !s.running l || s.scnState l c.val < 2 then .next s
  else
    let g := s.fg (s.scnNow l c.val)
    let j : Nat := match x.mini with
      | none => 0
      | some j => if frameOnLine then j else j + 1
    let keep : Bool := match x.prep with
      | some p => p.f.slot != 1023 || (decide (j ≤ 255) && p.f.dynid.toNat == j &&
          decide (100 * (k * g SCN.MODE2_MINILEN + g SCN.MODE3_GUARD) + wireTime p.f.len ≤ 100 * g SCN.MODE2_NMINI * g SCN.MODE2_MINILEN))
      | none => true
    .next (s.setScn l c.val { x with mini := some j, prep := if keep then x.prep else none })

/-! Reception -/

/-- A sync frame: KIND 1 or 2 (R385). -/
def frameSync (f : ScnFrame) : Bool := f.kind == 1 || f.kind == 2

/-- A byte of a channel's RX store is written; bytes beyond its end are dropped. -/
def State.rxPutByte (s : State) (l : Lane) (c ofs : Nat) (b : Byte) : State :=
  if ofs < 0x4000 then
    let k := scnG l + 0x40000 + 0x10000 * c + 4 * (ofs / 4)
    s.setReg k (setBits (s.reg k) (8 * (ofs % 4)) 8 b.toNat)
  else s

/-- Bytes of the RX store from an offset up. -/
def State.rxPut (s : State) (l : Lane) (c ofs : Nat) : List Byte → State
  | [] => s
  | b :: bs => (s.rxPutByte l c ofs b).rxPut l c (ofs + 1) bs

/-- RX entry e stores the frame in the half that CUR does not name (R388, R411, R418). -/
def State.rxStore (s : State) (l : Lane) (c e : Nat) (f : ScnFrame) : State :=
  let k := scnRx l c e
  let size := s.fg k SCN.RX1_SIZE
  let h := 1 - s.fg k SCN.RX3_CUR
  let ofs := s.fg k SCN.RX1_PTR + h * (24 + (size + 7) / 8 * 8)
  let p := (framePay f).take size
  let stamp := natLe 4 (s.utime l) ++ natLe 4 p.length
  let s := s.rxPut l c ofs (stamp ++ frameHead f ++ natBe 2 f.hcrc.toNat ++ p)
  let s := (s.fs k SCN.RX3_CUR h).fs k SCN.RX3_OVERLONG (if size < (framePay f).length then 1 else 0)
  (s.fs k SCN.RX3_CYCLE f.cycle.toNat).fs k SCN.RX3_NEW 1

/-- RX entry e takes the frame (R411). -/
def State.rxTakes (s : State) (l : Lane) (c e : Nat) (f : ScnFrame) : Bool :=
  let k := scnRx l c e
  s.fb k SCN.RX1_EN && s.fg k SCN.RX0_SLOT == f.slot && (f.slot != 1023 || s.fg k SCN.RX0_DYNID == f.dynid.toNat) &&
  s.fg k SCN.RX0_MODEMASK / 2 ^ f.mode.val % 2 == 1 && (!s.fb k SCN.RX1_SENDCHK || s.fg k SCN.RX2_SENDER == f.sender.toNat)

/-- The frame as an entry of a network section (R294, R413). -/
def frameNet (f : ScnFrame) (c : Nat) : NetEntry :=
  { src := c, seq := f.seq.toNat, w1 := f.slot % 2 ^ 10 + f.mode.val * 2 ^ 10 + f.sender.toNat * 2 ^ 16, pay := (framePay f) }

/-- A safe-data entry of the Skink block names the slot (R413). -/
def State.sdSlot (s : State) (slot : Nat) : Bool := (List.range (min 16 s.cfgSdn)).any fun j => s.cfgSdSlot j == slot

/-- An accepted frame is stored in every entry that takes it, and offered to the network section (R411 to R413). -/
def State.scnAccept (s : State) (l : Lane) (c : Nat) (f : ScnFrame) : State :=
  let es := (List.range 64).filter fun e => s.rxTakes l c e f
  let rel := es.any fun e => s.fb (scnRx l c e) SCN.RX1_CYCREL
  let s := es.foldl (fun s e => s.rxStore l c e f) s
  let x := s.scn l c
  let x := if f.slot = 1023 then x else { x with got := if x.got.contains f.slot then x.got else f.slot :: x.got }
  if f.slot ≠ 1023 ∧ s.sdSlot f.slot then s.setScn l c { x with sd := (frameNet f c :: x.sd).take 64 }
  else
    let s := s.setScn l c x
    if rel then s.netAdd l (frameNet f c) else s

/-- A sync frame of this cycle counts (R402, R405). -/
def State.scnSyncRx (s : State) (l : Lane) (c : Nat) (f : ScnFrame) (dev : Int) : State :=
  let x := s.scn l c
  let lim := s.fg (s.scnNow l c) SCN.MODE4_OFSLIM
  s.setScn l c { x with
    others := x.others + 1
    saw := x.saw || decide (dev.natAbs ≤ lim)
    devs := famIns x.devs f.slot dev
    reqs := famIns x.reqs f.slot (if f.mreqv then some f.mreq.val else none) }

/-- The RXDLY of sync slot t (R402, R418). -/
def State.syncDly (s : State) (l : Lane) (c t : Nat) : Nat :=
  match (List.range 15).find? fun i => s.fb (scnSync l c i) SCN.SYNC_EN && s.fg (scnSync l c i) SCN.SYNC_SLOT == t with
  | some i => s.fg (scnSync l c i) SCN.SYNC_RXDLY
  | none => 0

/-- The deviation of a sync frame's SFD (R390, R402). -/
def State.syncDev (s : State) (l : Lane) (c : Nat) (f : ScnFrame) (sfd : Int) : Int :=
  let g := s.fg (s.scnNow l c)
  sfd - (100 * (f.slot * g SCN.MODE1_SLOTLEN + g SCN.MODE3_ACTOFS) + s.syncDly l c f.slot : Nat)

/-- The frame's static slot is in progress at its SFD, or its DYNID is the mini-slot counter; the edges lie inside (R411, R415). -/
def State.inSlot (s : State) (l : Lane) (c : Nat) (f : ScnFrame) (sfd : Int) : Bool :=
  let g := s.fg (s.scnNow l c)
  let t := sfd - s.fg (scnB l c) SCN.DLY_RXDLY
  if f.slot = 1023 then (s.scn l c).mini == some f.dynid.toNat
  else decide (f.slot < g SCN.MODE1_NSLOT) && decide (100 * (f.slot * g SCN.MODE1_SLOTLEN : Nat) ≤ t) &&
    decide (t ≤ 100 * ((f.slot + 1) * g SCN.MODE1_SLOTLEN : Nat))

/-- SCN_FRAME_RX (R386, R398 to R400, R411): a node receives a frame. In LISTEN every valid frame restarts the timer. -/
def execScnFrameRx (l : Lane) (c : Fin 2) (f : ScnFrame) (sfd : Int) (s : State) : Host.Outcome State Fault Refusal :=
  let b := scnB l c.val
  let st := s.scnState l c.val
  if !s.running l || st == 0 then .next s
  else if !frameOk f (s.fg b SCN.IDS_NETID) then .next ((s.fInc b SCN.COUNT_HDR).raiseL l 0x186 c.val)
  else
    let sync := frameSync f && (s.syncSlots l c.val).contains f.slot
    if st = 1 then
      if sync then
        let s := (s.fs b SCN.STATUS_CYCLE f.cycle.toNat).fs b SCN.STATUS_STATE 3
        .next (s.setScn l c.val { s.scn l c.val with first := true, others := 0, devs := [], devsPrev := [], silent := 0 })
      else .next (s.setScn l c.val { s.scn l c.val with t0 := s.now })
    else if st = 2 ∧ f.kind = 2 ∧ (s.scn l c.val).cs < 4 then .next ((s.fs b SCN.EVT_BACKOFF 1).scnListen l c.val)
    else if f.cycle.toNat ≠ s.fg b SCN.STATUS_CYCLE then .next s
    else
      let s := if sync then s.scnSyncRx l c.val f (s.syncDev l c.val f sfd) else s
      .next (if f.mode.val = s.fg b SCN.STATUS_MODE ∧ s.inSlot l c.val f sfd then s.scnAccept l c.val f else s)

/-! Cycles -/

/-- SCN_LISTEN_TIMEOUT (R398, R399): the listen timer of a cold-start node has run (2 + CSRANK) × CYCLEN of mode 0, and it starts cycle 0. -/
def execScnListenTimeout (l : Lane) (c : Fin 2) (s : State) : Host.Outcome State Fault Refusal :=
  let b := scnB l c.val
  let run := (2 + s.fg b SCN.CTRL_CSRANK) * (100 * s.fg (scnMode l c.val 0) SCN.MODE0_CYCLEN)
  if s.running l && s.scnState l c.val == 1 && s.fb b SCN.CTRL_CSN && decide ((s.scn l c.val).t0 + run ≤ s.now) then
    let s := (s.fs b SCN.STATUS_STATE 2).fs b SCN.STATUS_CYCLE 0
    .next (s.setScn l c.val { s.scn l c.val with cs := 0, pair := 0, saw := false, others := 0, devs := [], devsPrev := [], silent := 0 })
  else .next s

/-- SCN_CYCLE_START (R396, R397, R414): a cycle starts; the guardian judges the signalled instant; SCN_CYCLE fires. -/
def execScnCycleStart (l : Lane) (c : Fin 2) (guardDev : Int) (s : State) : Host.Outcome State Fault Refusal :=
  let b := scnB l c.val
  let x := s.scn l c.val
  if !s.running l || s.scnState l c.val < 2 then .next s
  else
    let sync := s.scnState l c.val == 4
    let off := s.fb b SCN.CTRL_GUARDEN && sync && !x.first && decide (200 * s.fg (s.scnNow l c.val) SCN.MODE3_GUARD < guardDev.natAbs)
    let s := s.setScn l c.val { x with blocked := off, mini := none, prep := none }
    let s := if off then s.scnEvent l c.val SCN.EVT_GUARD 0x189 true else s
    .next (if sync && s.fg (scnG l) SCNG.GLOBAL_CYCSRC == c.val then s.trig l 63 else s)

/-- The midpoint of deviations (R402): the extremes dropped, the mean of the largest and the smallest, rounded to 8 ns. -/
def midpoint (ds : List Int) : Int :=
  let n := ds.length
  let k := if n ≤ 2 then 0 else if n ≤ 7 then 1 else 2
  let m := ((ds.insertionSort (· ≤ ·)).drop k).take (n - 2 * k)
  8 * roundDiv (m.getLastD 0 + m.headD 0) 16

/-- The deviations of the cycle, the channel's own sync frame with 0 (R402). -/
def State.scnDevs (s : State) (l : Lane) (c : Nat) : List (Nat × Int) :=
  let x := s.scn l c
  if s.fb (scnB l c) SCN.CTRL_SYNCN && s.scnState l c != 3 then famIns x.devs (s.fg (scnB l c) SCN.CTRL_SYNCSLOT) 0 else x.devs

/-- The offset and the drift of the cycle, with the deviations they rest on (R402, R403). -/
def State.scnCorrect (s : State) (l : Lane) (c : Nat) : Option Int × Option Int × List (Nat × Int) :=
  let x := s.scn l c
  let ds := s.scnDevs l c
  if x.others = 0 then (none, none, [])
  else
    let both := ds.filterMap fun p => (x.devsPrev.lookup p.1).map fun d => p.2 - d + x.ofsPrev
    (some (midpoint (ds.map (·.2))), if both = [] then none else some (midpoint both), ds)

/-- OSCTRIM moves towards the rate correction of drift d by at most SLEW ppb; a target beyond OSCLIM is held at the limit and
raised (R243, R403). -/
def State.oscUpdate (s : State) (l : Lane) (c : Nat) (d : Int) : State :=
  let b := calB l
  let src := s.fg (scnG l) SCNG.GLOBAL_RATESRC
  let use := if s.scnState l src = 4 then src else 1 - src
  if !s.fb b CAL.CTRL_OSCEN || use != c then s
  else
    let t := s.fi b CAL.OSCTRIM_TRIM
    let target := t - roundDiv (d * 2 ^ 40) (100 * s.fg (s.scnNow l c) SCN.MODE0_CYCLEN)
    let lim : Int := roundDiv (s.fg b CAL.OSCCFG_OSCLIM * 2 ^ 40) (10 ^ 6)
    let step : Int := roundDiv (s.fg b CAL.OSCCFG_SLEW * 2 ^ 40) (10 ^ 9)
    let to_ := clampI (-lim) lim target
    let s := s.fsSat b CAL.OSCTRIM_TRIM (clampI (t - step) (t + step) to_)
    if to_ = target then s else (s.fs b CAL.EVT_OSC_RANGE 1).raiseL l 0xc6 255

/-- The offset and the rate are shown and applied. -/
def State.scnApply (s : State) (l : Lane) (c : Nat) : State :=
  let (o, d, ds) := s.scnCorrect l c
  let s := match o with
    | some v => s.fsi (scnB l c) SCN.OFFSET_VAL v
    | none => s
  let s := match d with
    | some v => (s.fsi (scnB l c) SCN.RATE_VAL v).oscUpdate l c v
    | none => s
  s.setScn l c { s.scn l c with devsPrev := ds, ofsPrev := o.getD 0, devs := [] }

/-- The slots whose sync frames must agree on a mode switch: the sync table, and a sync node's own (R405). -/
def State.agreeSlots (s : State) (l : Lane) (c : Nat) : List Nat :=
  let b := scnB l c
  if s.fb b SCN.CTRL_SYNCN then s.fg b SCN.CTRL_SYNCSLOT :: s.syncSlots l c else s.syncSlots l c

/-- The mode on which the sync frames of two cycles agree; none where a slot lacks one (R405). -/
def agreed (slots : List Nat) (r1 r2 : List (Nat × Option Nat)) : Option Nat :=
  match slots with
  | [] => none
  | t :: _ =>
    match r2.lookup t with
    | some (some m) =>
      if slots.all (fun q => r1.lookup q == some (some m) && r2.lookup q == some (some m)) then some m else none
    | _ => none

/-- The requests of the cycle, a sync node's own among them. -/
def State.scnReqs (s : State) (l : Lane) (c : Nat) : List (Nat × Option Nat) :=
  let b := scnB l c
  let x := s.scn l c
  if s.fb b SCN.CTRL_SYNCN && decide (s.scnState l c = 4) then
    famIns x.reqs (s.fg b SCN.CTRL_SYNCSLOT) (if s.fb b SCN.STATUS_MREQV then some (s.fg b SCN.STATUS_MREQ) else none)
  else x.reqs

/-- The mode check at the end of a cycle (R405): a switch, a request given up after 16 cycles, or a new one or another's taken up for the
next. -/
def State.scnModes (s : State) (l : Lane) (c : Nat) : State :=
  let b := scnB l c
  let x := s.scn l c
  let rs := s.scnReqs l c
  let s1 := s.setScn l c { x with reqsPrev := rs, reqs := [] }
  match agreed (s.agreeSlots l c) x.reqsPrev rs with
  | some m =>
    let s := ((s1.fs b SCN.STATUS_MODE m).fs b SCN.STATUS_MREQV 0).fs b SCN.EVT_MODE_SW 1
    s.setScn l c { s.scn l c with next := none, carried := 0, reqsPrev := [] }
  | none =>
    if s.fb b SCN.STATUS_MREQV && x.next.isNone then
      if 16 ≤ x.carried + 1 then
        let s := (s1.fs b SCN.STATUS_MREQV 0).setScn l c { s1.scn l c with carried := 0 }
        s.scnEvent l c SCN.EVT_MODE_NOAGREE 0x183 false
      else s1.setScn l c { s1.scn l c with carried := x.carried + 1 }
    else
      let follow := if s.fb b SCN.CTRL_SYNCN && s.fb b SCN.CTRL_MFOLLOW then x.reqs.findSome? (·.2) else none
      match x.next.orElse (fun _ => follow) with
      | some m =>
        let s := (s1.fs b SCN.STATUS_MREQ m).fs b SCN.STATUS_MREQV 1
        s.setScn l c { s.scn l c with next := none, carried := 0 }
      | none => s1

/-- The owner of a static slot on channel c's network in a mode, from the map of its star (R412, R418). -/
def State.slotOwner (s : State) (net m slot : Nat) : Nat :=
  let d := if net = 0 then DLane.A else DLane.B
  let w := s.reg (scnG d.lane + 0x8000 + 0x400 * m + slot / 4 * 4)
  let o := w.toNat / 2 ^ (8 * (slot % 4)) % 16
  if o ≤ 8 then o else 15

/-- A miss counter goes up (R412). -/
def State.missUp (s : State) (l : Lane) (c slot : Nat) : State :=
  let k := scnB l c + 0x1000 + 4 * (slot / 2)
  let n := (s.reg k).toNat / 2 ^ (16 * (slot % 2)) % 2 ^ 16
  s.setReg k (setBits (s.reg k) (16 * (slot % 2)) 16 (min 65535 (n + 1)))

/-- The misses of a cycle: every static slot with an owner in which no frame was accepted (R412). -/
def State.scnMisses (s : State) (l : Lane) (c : Nat) : State :=
  let m := s.fg (scnB l c) SCN.STATUS_MODE
  let x := s.scn l c
  let s := (List.range (s.fg (s.scnNow l c) SCN.MODE1_NSLOT)).foldl (fun s q =>
    if s.slotOwner c m q = 15 || x.got.contains q then s else s.missUp l c q) s
  s.setScn l c { s.scn l c with got := [] }

/-- Every READY entry is a cycle older (R408). -/
def State.scnAge (s : State) (l : Lane) (c : Nat) : State :=
  (List.range 32).foldl (fun s e =>
    if s.txState l c e = 2 then
      let x := s.scn l c
      s.setScn l c { x with lives := famSet (fun _ => 0) x.lives e (famGet (fun _ => 0) x.lives e + 1) }
    else s) s

/-- The cycle's offset correction exceeds OFSLIM of the mode that ends (R400, R401, R415). -/
def State.scnFar (s : State) (l : Lane) (c : Nat) : Bool :=
  match (s.scnCorrect l c).1 with
  | some v => decide (s.fg (s.scnNow l c) SCN.MODE4_OFSLIM < v.natAbs)
  | none => false

/-- What the state of a channel becomes at the end of a cycle (R399 to R401). -/
def State.scnNext (s : State) (l : Lane) (c : Nat) (corrected far : Bool) (others : Nat) (saw : Bool) : State :=
  let b := scnB l c
  let x := s.scn l c
  match s.scnState l c with
  | 2 =>
    let pair := if 2 ≤ x.cs ∧ saw then x.pair + 1 else 0
    if 2 ≤ pair then (s.fs b SCN.STATUS_STATE 4).setScn l c { x with first := true, silent := 0 }
    else if 15 ≤ x.cs then (s.scnListen l c).scnEvent l c SCN.EVT_CS_FAIL 0x182 false
    else s.setScn l c { x with pair := pair, cs := x.cs + 1 }
  | 3 =>
    if x.first then s.setScn l c { x with first := false }
    else if corrected ∧ ¬ far then (s.fs b SCN.STATUS_STATE 4).setScn l c { x with first := true, silent := 0 }
    else s.scnListen l c
  | 4 =>
    let silent := if others = 0 then x.silent + 1 else 0
    if far ∨ 2 ≤ silent then (s.scnListen l c).scnEvent l c SCN.EVT_SYNC_LOST 0x181 true
    else s.setScn l c { x with silent := silent, first := false }
  | _ => s

/-- SCN_CYCLE_END (R399 to R403, R405, R408, R412): corrections, mode agreement, misses, ages, and the channel's state. -/
def execScnCycleEnd (l : Lane) (c : Fin 2) (s : State) : Host.Outcome State Fault Refusal :=
  let b := scnB l c.val
  let x := s.scn l c.val
  if !s.running l || s.scnState l c.val < 2 then .next s
  else
    let corrected := (s.scnCorrect l c.val).1.isSome
    let far := s.scnFar l c.val
    let s := s.scnApply l c.val
    let s := if s.scnState l c.val = 4 then s.scnMisses l c.val else s
    let s := ((s.scnAge l c.val).scnModes l c.val).fs b SCN.STATUS_NSYNC (min 15 x.others)
    let s := s.fs b SCN.STATUS_CYCLE (s.fg b SCN.STATUS_CYCLE + 1)
    let s := s.scnNext l c.val corrected far x.others x.saw
    .next (s.setScn l c.val { s.scn l c.val with others := 0, saw := false })

/-- SCN_MODE_REQUEST (R405): a request for a valid mode other than the one in force is carried from the next cycle. -/
def execScnModeRequest (l : Lane) (c : Fin 2) (v : Word) (s : State) : Host.Outcome State Fault Refusal :=
  let m := v.toNat % 8
  if s.running l && v.getLsbD 3 && s.fb (scnMode l c.val m) SCN.MODE0_VALID && m != s.fg (scnB l c.val) SCN.STATUS_MODE then
    .next (s.setScn l c.val { s.scn l c.val with next := some m })
  else .next s

/-- SCN_MODE_CANCEL (R405): the request is cleared at once. -/
def execScnModeCancel (l : Lane) (c : Fin 2) (s : State) : Host.Outcome State Fault Refusal :=
  if s.running l then
    .next ((s.fs (scnB l c.val) SCN.STATUS_MREQV 0).setScn l c.val { s.scn l c.val with next := none, carried := 0 })
  else .next s

/-- SCN_SLOT_TRIGGER (R414): the end of the slot that SCN.TRIGn names. -/
def execScnSlotTrigger (l : Lane) (n : Fin 16) (s : State) : Host.Outcome State Fault Refusal :=
  let k := scnG l + 4 * n.val
  let c := s.fg k SCNG.TRIG_CH
  if s.fb k SCNG.TRIG_EN && s.scnState l c == 4 && decide (s.fg k SCNG.TRIG_SLOT < s.fg (s.scnNow l c) SCN.MODE1_NSLOT) then
    .next (s.trig l (16 + n.val))
  else .next s

/-- SCN_MISS_COUNTER_READ (R418): both counters of a word are returned and cleared. -/
def execScnMissCounterRead (l : Lane) (c : Fin 2) (w : Fin 512) (s : State) : Host.Outcome State Fault Refusal :=
  let k := scnB l c.val + 0x1000 + 4 * w.val
  if s.running l then .next ({ s with readData := s.reg k }.setReg k 0) else .next s

/-- SCN_EN_WRITE's conditions (R389, R406, R417). -/
def State.scnCfgOk (s : State) (l : Lane) (c : Nat) : Bool :=
  let b := scnB l c
  let valid := s.validModes l c
  let syncn := s.fb b SCN.CTRL_SYNCN
  s.fb (scnMode l c 0) SCN.MODE0_VALID && valid.all (s.modeOk l c) &&
  (!syncn || valid.all fun m => decide (s.fg b SCN.CTRL_SYNCSLOT < s.fg (scnMode l c m) SCN.MODE1_NSLOT)) &&
  !(s.fb b SCN.CTRL_CSN && !syncn) && !(l == .W && syncn)

/-- SCN_EN_WRITE (R398, R416, R417): SCNc.CTRL is written; the channel enters LISTEN or OFF, or EN stays 0 with 0x180. Read-only
once the unit has left Chorus. -/
def execScnEnWrite (l : Lane) (c : Fin 2) (v : Word) (s : State) : Host.Outcome State Fault Refusal :=
  let b := scnB l c.val
  if !s.running l || (s.lane l).locked then .next s
  else
    let s := s.rowPut l false (0x40300000 + 0x2000 * c.val) v
    let off := fun (s : State) => (s.scnListen l c.val).fs b SCN.STATUS_STATE 0
    if !v.getLsbD 0 then .next (off s)
    else if !s.scnCfgOk l c.val then .next ((off (s.fs b SCN.CTRL_EN 0)).raiseL l 0x180 c.val)
    else if s.resPending l (resNet c.val) then .next (off s)
    else if s.scnState l c.val = 0 then .next (s.scnListen l c.val)
    else .next s

end Sys2Proof.Machine
end

