-- ==== Sys2Proof/Machine/Star.lean ====
section
/-! DEFINITION. The stars of the Slotted Cycle Network (R378 to R381, R383, R392 to R395, R405, R407). The star of NETA lies in lane A and
that of NETB in lane B; each reads the mode descriptors and the sync entries of its own lane's channel on its network. -/

namespace Sys2Proof.Machine

open Sys2Proof

/-- The base of a star's registers. -/
def starB (n : DLane) : Nat := scnG n.lane

/-- The base of port q's registers. -/
def starP (n : DLane) (q : Nat) : Nat := starB n + 4 * q

/-- The mode in force at a star. -/
def State.starMode (s : State) (n : DLane) : Nat := s.fg (starB n) STAR.STATUS_MODE

/-- The descriptor of the mode in force at a star. -/
def State.starNow (s : State) (n : DLane) : Nat := scnMode n.lane (dno n) (s.starMode n)

/-- A star in END mode. -/
def State.starEnd (s : State) (n : DLane) : Bool := s.fb (starB n) STAR.CTRL_OPMODE

/-- The link of port q is up: a branch's own, or the lane of an internal port is powered (R383, R417). -/
def State.starLink (s : State) (n : DLane) (q : Nat) : Bool :=
  if q < 4 then s.fb (starP n q) STAR.PORT_LINK else (s.lane (laneOf (q - 4))).rails

/-- The star has its lane's supply: it goes down with its lane's feed (R65, R378, R515). -/
def State.starPowered (s : State) (n : DLane) : Bool := s.feedOf n.lane && (s.lane n.lane).rails

/-- The star runs. -/
def State.starOn (s : State) (n : DLane) : Bool := s.starPowered n && s.fb (starB n) STAR.CTRL_EN

/-- Port q receives (R379, R383). -/
def State.starPort (s : State) (n : DLane) (q : Nat) : Bool :=
  s.starOn n && s.fb (starP n q) STAR.PORT_PEN && s.starLink n q && (!s.starEnd n || q == 0 || decide (4 ≤ q))

/-- A port's frame is dropped and counted in OOS. -/
def State.starOos (s : State) (n : DLane) (q : Nat) : State := s.fInc (starP n q) STAR.DROP_OOS

/-- A port's frame is out of its slot (R392, R393). -/
def State.starDrop (s : State) (n : DLane) (q : Nat) : State := (s.starOos n q).raiseL n.lane 0x187 q

/-- The owner of DYNID j in the dynamic map (R418); UNIT is the transmitting lane's port (R381). -/
def State.dynOwner (s : State) (n : DLane) (m j : Nat) : Nat :=
  let o := (s.reg (starB n + 0xa000 + 0x100 * m + j / 4 * 4)).toNat / 2 ^ (8 * (j % 4)) % 16
  if o = 7 then 4 + (s.star n).unit else o

/-- Port q may use static slot t: its owner, the transmitting lane's port for UNIT, or the holder of a granted spare slot (R392). -/
def State.starOwns (s : State) (n : DLane) (q t : Nat) : Bool :=
  let o := s.slotOwner (dno n) (s.starMode n) t
  o == q || (o == 7 && q == 4 + (s.star n).unit) || (o == 8 && (s.star n).grants.any fun g => g.1 == t && g.2.1 == q)

/-- Port q's SFD less PDLY (R392, R393). -/
def State.starSfd (s : State) (n : DLane) (q : Nat) (sfd : Int) : Int := sfd - s.fg (starP n q) STAR.PORT_PDLY

/-- The deviation from its action point of a static frame's SFD, less PDLY, in ns (R390). -/
def State.starDev (s : State) (n : DLane) (f : ScnFrame) (sfd : Int) : Int :=
  let b := s.starNow n
  sfd - 100 * ((f.slot * s.fg b SCN.MODE1_SLOTLEN + s.fg b SCN.MODE3_ACTOFS : Nat) : Int)

/-- The frame is of the star's cycle and mode. -/
def State.starInStep (s : State) (n : DLane) (f : ScnFrame) : Bool :=
  f.cycle.toNat == s.fg (starB n) STAR.STATUS_CYCLE && f.mode.val == s.starMode n

/-- A static frame meets R392. -/
def State.starStatic (s : State) (n : DLane) (q : Nat) (f : ScnFrame) (sfd : Int) : Bool :=
  let b := s.starNow n
  s.starOwns n q f.slot && decide (f.slot < s.fg b SCN.MODE1_NSLOT) && s.starInStep n f &&
  decide ((s.starDev n f sfd).natAbs ≤ 100 * s.fg b SCN.MODE3_GUARD)

/-- A claim frame (R407). -/
def isClaim (f : ScnFrame) : Bool := f.kind == 3 && f.slot == 1023 && f.dynid == 0 && f.len == 4 && (framePay f).getD 3 0 == 0

/-- A dynamic frame meets R393. -/
def State.starDynamic (s : State) (n : DLane) (q : Nat) (f : ScnFrame) (sfd : Int) : Bool :=
  decide (0 ≤ sfd) && decide (sfd ≤ 200 * s.fg (s.starNow n) SCN.MODE3_GUARD) &&
  (if f.dynid = 0 then isClaim f else s.dynOwner n (s.starMode n) f.dynid.toNat == q)

/-- The frame is forwarded to the other ports. -/
def State.starForward (s : State) (n : DLane) (q : Nat) (f : ScnFrame) : State :=
  let x := s.star n
  let mine := x.grants.any fun g => g.1 == f.slot && f.slot != 1023
  s.setStar n { x with fwd := some q, line := some f, used := if mine && !x.used.contains f.slot then f.slot :: x.used else x.used }

/-- A forwarded sync frame sets the star's time, or counts in this cycle (R395, R400, R402, R405). -/
def State.starSync (s : State) (n : DLane) (f : ScnFrame) (sfd : Int) : State :=
  let x := s.star n
  if !frameSync f || !(s.agreeSlots n.lane (dno n)).contains f.slot then s
  else
    let s := if x.timed then s else s.fs (starB n) STAR.STATUS_CYCLE f.cycle.toNat
    let dev : Int := if x.timed then s.starDev n f sfd else 0
    if f.cycle.toNat == s.fg (starB n) STAR.STATUS_CYCLE then
      s.setStar n { x with timed := true, devs := famIns x.devs f.slot dev, reqs := famIns x.reqs f.slot (if f.mreqv then some f.mreq.val else none) }
    else s.setStar n { x with timed := true }

/-- A claim is kept until the end of the cycle, or refused at once (R407). -/
def State.starClaim (s : State) (n : DLane) (q : Nat) (f : ScnFrame) : State :=
  let x := s.star n
  let t := 256 * ((framePay f).getD 0 0).toNat + ((framePay f).getD 1 0).toNat
  let spare := decide (t < 1023) && s.slotOwner (dno n) (s.starMode n) t == 8
  if spare && !(x.grants.any fun g => g.1 == t) && !(x.claims.any fun g => g.1 == t) then s.setStar n { x with claims := x.claims ++ [(t, q)] }
  else s.raiseL n.lane 0x18c q

/-- A star that enforces nothing forwards the frame (R379, R395): in HUB and OPEN only sync frames, one at a time. -/
def State.starOpen (s : State) (n : DLane) (q : Nat) (f : ScnFrame) (sfd : Int) : State :=
  if s.starEnd n then (s.starForward n q f).starSync n f sfd
  else if frameSync f && (s.star n).fwd.isNone then (s.starForward n q f).starSync n f sfd
  else s.starOos n q

/-- A star in HUB and ENFORCE (R392, R393). -/
def State.starEnforce (s : State) (n : DLane) (q : Nat) (f : ScnFrame) (sfd : Int) : State :=
  if f.slot = 1023 then
    if s.starDynamic n q f sfd then
      let s := s.starForward n q f
      if isClaim f then s.starClaim n q f else s
    else s.starDrop n q
  else if s.starStatic n q f sfd then (s.starForward n q f).starSync n f sfd
  else s.starDrop n q

/-- STAR_FRAME_RX (R380, R386, R392 to R395, R407): a star receives a frame on a port, and decides once its header is complete. -/
def execStarFrameRx (n : DLane) (port : Fin 7) (f : ScnFrame) (sfd : Int) (s : State) : Host.Outcome State Fault Refusal :=
  let t := s.starSfd n port.val sfd
  if !s.starPort n port.val then .next s
  else if !frameHeadOk f (s.fg (scnB n.lane (dno n)) SCN.IDS_NETID) then .next (s.fInc (starP n port.val) STAR.DROP_HDR)
  else if s.fb (starB n) STAR.STATUS_ENFORCE && !s.starEnd n then .next (s.starEnforce n port.val f t)
  else .next (s.starOpen n port.val f t)

/-- The last byte of a frame from port q arrives after its slot, or after the dynamic segment (R394). -/
def State.starLate (s : State) (n : DLane) (q : Nat) (f : ScnFrame) (endAt : Int) : Bool :=
  let g := s.fg (s.starNow n)
  let slots := if f.slot = 1023 then g SCN.MODE1_NSLOT else f.slot + 1
  let mini := if f.slot = 1023 then g SCN.MODE2_NMINI * g SCN.MODE2_MINILEN else 0
  decide (((100 * (slots * g SCN.MODE1_SLOTLEN + mini) : Nat) : Int) < s.starSfd n q endAt)

/-- STAR_FRAME_END (R394): the forwarded frame ends; late, or with a bad FCS, its outgoing copy is spoilt. A star that enforces nothing
judges only the FCS (R379, R395). -/
def execStarFrameEnd (n : DLane) (endAt : Int) (s : State) : Host.Outcome State Fault Refusal :=
  match (s.star n).fwd with
  | none => .next s
  | some q =>
    let judged := s.fb (starB n) STAR.STATUS_ENFORCE && !s.starEnd n
    let late := judged && ((s.star n).line.map fun f => s.starLate n q f endAt).getD false
    let badFcs := ((s.star n).line.map fun f => !f.fcsOk).getD false
    let s := s.setStar n { s.star n with fwd := none, line := if late || badFcs then none else (s.star n).line }
    let s := if late || badFcs then s.fInc (starP n q) STAR.DROP_OVR else s
    .next (if late then s.raiseL n.lane 0x188 q else s)

/-- Every claim of the cycle is granted (R407). -/
def State.starGrants (s : State) (n : DLane) : List (Nat × Nat) → State
  | [] => s
  | (t, q) :: cs =>
    let b := starB n
    let s := ((s.fs b STAR.CLAIM_SLOT t).fs b STAR.CLAIM_PORT q).fs b STAR.CLAIM_VALID 1
    let s := s.fInc b STAR.CLAIM_GRANTS
    (s.setStar n { s.star n with grants := (s.star n).grants ++ [(t, q, 0)] }).starGrants n cs

/-- Every claim of the cycle is refused: a mode switch is agreed (R407). -/
def State.starRefuse (s : State) (n : DLane) : List (Nat × Nat) → State
  | [] => s
  | (_, q) :: cs => (s.raiseL n.lane 0x18c q).starRefuse n cs

/-- Grants, claims and the mode at the end of a cycle (R405, R407). -/
def State.starModes (s : State) (n : DLane) : State :=
  let x := s.star n
  let older := x.grants.map fun g => (g.1, g.2.1, if x.used.contains g.1 then 0 else g.2.2 + 1)
  let s1 := s.setStar n { x with grants := older, claims := [], used := [], reqsPrev := x.reqs, reqs := [] }
  match agreed (s.agreeSlots n.lane (dno n)) x.reqsPrev x.reqs with
  | some m =>
    let s := (s1.fs (starB n) STAR.STATUS_MODE m).fs (starB n) STAR.CLAIM_VALID 0
    (s.setStar n { s.star n with grants := [], reqsPrev := [] }).starRefuse n x.claims
  | none => s1.starGrants n x.claims

/-- The star goes back to OPEN and loses its time (R395). -/
def State.starToOpen (s : State) (n : DLane) : State :=
  let s := (s.fs (starB n) STAR.STATUS_ENFORCE 0).fs (starB n) STAR.STATUS_MODE 0
  let s := s.fs (starB n) STAR.CLAIM_VALID 0
  s.setStar n { s.star n with timed := false, good := 0, bad := 0, grants := [], claims := [], reqs := [], reqsPrev := [] }

/-- STAR_CYCLE_END (R395, R401, R402, R405, R407): a cycle of a star that keeps time ends. -/
def execStarCycleEnd (n : DLane) (s : State) : Host.Outcome State Fault Refusal :=
  let b := starB n
  let x := s.star n
  if !s.starOn n || !x.timed then .next s
  else
    let lim := s.fg (s.starNow n) SCN.MODE4_OFSLIM
    let ds := x.devs.map (·.2)
    let far := decide (ds ≠ []) && decide (lim < (midpoint ds).natAbs)
    let good := if 2 ≤ (ds.filter fun d => decide (d.natAbs ≤ lim)).length then x.good + 1 else 0
    let bad := if ds.length < 2 then x.bad + 1 else 0
    let s := (s.starModes n).fs b STAR.STATUS_NSYNC (min 15 ds.length)
    let s := s.fs b STAR.STATUS_CYCLE (s.fg b STAR.STATUS_CYCLE + 1)
    let s := s.setStar n { s.star n with devs := [], good := good, bad := bad }
    if far || decide (2 ≤ bad) then
      let on := s.fb b STAR.STATUS_ENFORCE
      let s := s.starToOpen n
      .next (if on then s.raiseR n.lane 0x18b (dno n) (resNet (dno n)) else s)
    else if 2 ≤ good then .next (s.fs b STAR.STATUS_ENFORCE 1)
    else .next s

/-- STAR_GRANT_LAPSE (R407): a granted slot has brought no frame for 64 cycles. -/
def execStarGrantLapse (n : DLane) (slot : BitVec 10) (s : State) : Host.Outcome State Fault Refusal :=
  let x := s.star n
  let t := slot.toNat
  if x.grants.any fun g => g.1 == t && decide (64 ≤ g.2.2) then
    let s := s.setStar n { x with grants := x.grants.filter fun g => g.1 != t }
    .next (if s.fg (starB n) STAR.CLAIM_SLOT = t then s.fs (starB n) STAR.CLAIM_VALID 0 else s)
  else .next s

/-- STAR_LINK_LOSS (R383). -/
def execStarLinkLoss (n : DLane) (port : Fin 4) (s : State) : Host.Outcome State Fault Refusal :=
  if s.fb (starP n port.val) STAR.PORT_LINK then .next ((s.fs (starP n port.val) STAR.PORT_LINK 0).raiseL n.lane 0x18a port.val)
  else .next s

/-- STAR_LINK_UP (R383): the link of an enabled port comes up. -/
def execStarLinkUp (n : DLane) (port : Fin 4) (s : State) : Host.Outcome State Fault Refusal :=
  if s.starOn n && s.fb (starP n port.val) STAR.PORT_PEN && (!s.starEnd n || port.val == 0) then
    .next (s.fs (starP n port.val) STAR.PORT_LINK 1)
  else .next s

/-- The links of the branches are down, and the drop counters 0. -/
def State.starPorts (s : State) (n : DLane) : State :=
  (List.range 7).foldl (fun s q => (s.fs (starP n q) STAR.PORT_LINK 0).setReg (starP n q + 0x6030) 0) s

/-- The star is reset; its configuration stays (R378). -/
def State.starStop (s : State) (n : DLane) : State :=
  let s := (s.starPorts n).setStar n { unit := (s.star n).unit }
  (s.setReg (starB n + 0x6004) 0).setReg (starB n + 0x6050) 0

/-- STAR_EN_WRITE (R378, R395): STAR.CTRL is written. EN = 0 resets the star; a star that starts is in OPEN. Lane W has no star. -/
def execStarEnWrite (l : Lane) (v : Word) (s : State) : Host.Outcome State Fault Refusal :=
  match asDrive l with
  | none => .next s
  | some n =>
    if !s.running l || (s.lane l).locked then .next s
    else
      let s := s.rowPut l false 0x40306000 v
      .next (if v.getLsbD 0 then s else s.starStop n)

end Sys2Proof.Machine
end

