-- ==== Sys2Proof/Machine/Beacon.lean ====
section
/-! DEFINITION. The beacon (R328): what every block does at it. -/

namespace Sys2Proof.Machine

open Sys2Proof

/-- f done for both drive lanes and each number below n. -/
def State.forDrives (s : State) (n : Nat) (f : State → DLane → Nat → State) : State :=
  [DLane.A, DLane.B].foldl (fun s l => (List.range n).foldl (fun s i => f s l i) s) s

/-- f done for each lane. -/
def State.forLanes (s : State) (f : State → Lane → State) : State := f (f (f s .A) .B) .W

/-! The unit cycle -/

/-- A period differs from T microseconds by more than 2 % (R18); p is in ns. -/
def rateBad (t p : Nat) : Bool := decide (p * 100 < t * 98000 ∨ t * 102000 < p * 100)

/-- Each running lane checks the period that ends, but for the one that ends where a new T takes effect (R18, R328). -/
def State.rateCheck (s : State) (pA pB pW : Nat) : State :=
  if s.sk.tNew.isSome then s
  else
    let f := fun (s : State) (l : Lane) p => if s.running l && rateBad s.sk.t p then s.raiseL l 0x14 255 else s
    f (f (f s .A pA) .B pB) .W pW

/-- The counter goes up by 1 modulo 2^32, and a new T takes effect (R328). -/
def State.cycleStep (s : State) : State :=
  let k := s.sk
  s.setSk { k with cycle := (k.cycle + 1) % 2 ^ 32, beaconAt := s.now, t := k.tNew.getD k.t, tNew := none }

/-- Each running lane latches the counter (R453, R473). -/
def State.cycleLatch (s : State) : State :=
  s.forLanes fun s l => if s.running l then s.setLane l { s.lane l with beaconCycle := s.sk.cycle } else s

/-- C is at H at the beacon in every enabled axis and port (R132, R133, R246): `slipped` names the axes in which it was not, which
report it, but at the beacon that changes H. -/
def State.pwmSync (s : State) (changes : Bool) (slipped : List (DLane × Fin 6)) : State :=
  let s := slipped.foldl (fun s p =>
    if changes || !s.axOn p.1 p.2.val then s
    else (s.fs (axB p.1 p.2.val) AX.EVT_PWM_SYNC 1).raiseL p.1.lane 0xa6 p.2.val) s
  let f := fun (s : State) l n =>
    if s.axOn l n then
      let s := s.axTurn l n false (s.halfClocks l n)
      s.setAxis l n { s.axis l n with upd := 0 }
    else s
  let g := fun (s : State) l p => if s.ppOn l p then s.ppTurn l p false (s.ppHalf l p) else s
  (s.forDrives 6 f).forDrives 2 g

/-! Skink's lines: shares, caps, holds -/

/-- Shares published at this beacon (R150). -/
def State.putShares (s : State) (ps : List (Nat × Nat)) : State :=
  s.setSk { s.sk with shared := s.sk.shared || ps != [], share := ps.foldl (fun f p => famSet (fun _ => 50) f p.1 p.2) s.sk.share }

/-- The share s of every motor. -/
def allShares (q : Nat) : List (Nat × Nat) := (List.range 6).map fun m => (m, q)

/-- The configured share of every motor. -/
def State.cfgShares (s : State) : List (Nat × Nat) := (List.range 6).map fun m => (m, s.cfgShare m)

/-- Every drive and port applies the record it has kept (R48, R151, R261). -/
def State.keptAll (s : State) : State := (s.forDrives 6 State.axKept).forDrives 2 State.ppKept

/-- A hold has one beacon less to go. At beacon d + 2 the share steps to the survivor, the Single caps apply, and the drives apply
what they have kept (R48). -/
def State.holdStep (s : State) : State :=
  match s.sk.hold with
  | none => s
  | some h =>
    if 1 < h.left then s.setSk { s.sk with hold := some { h with left := h.left - 1 } }
    else
      let s := s.setSk { s.sk with hold := none }
      let s := match h.removed with
        | some d =>
          let s := s.putShares (allShares (if d = DLane.A then 0 else 100))
          let s := s.setSk { s.sk with capTq := s.cfgSglTq, capSpd := s.cfgSglSpd, capNext := none, shareNext := [] }
          { s with cmp := { s.cmp with held := [] } }
        | none => s
      s.keptAll

/-- The caps and shares that wait for a beacon take effect (R63, R150, R329). -/
def State.linesStep (s : State) : State :=
  let s := (s.putShares s.sk.shareNext)
  let k := s.sk
  s.setSk { k with shareNext := [], capTq := (k.capNext.map Prod.fst).getD k.capTq, capSpd := (k.capNext.map Prod.snd).getD k.capSpd,
                   capNext := none }

/-- In Bench, a drive lane that drives alone while the other is halted carries the whole share (R58). -/
def State.benchStep (s : State) : State :=
  if s.sk.st ≠ .bench then s
  else
    match (s.lane .A).halted, (s.lane .B).halted with
    | true, false => s.putShares (allShares 0)
    | false, true => s.putShares (allShares 100)
    | _, _ => s.putShares s.cfgShares

/-! Checkpoints, the vote, tests -/

/-- K (R34). -/
def State.ckK (s : State) : Nat := 10000 / s.sk.t

/-- Cycle k is a checkpoint (R316). -/
def State.atCkpt (s : State) : Bool := s.ckK != 0 && s.sk.cycle % s.ckK == 0

/-- Signatures are compared, or judged by W, in the state (R317, R319). -/
def State.ckptState (s : State) : Bool := s.sk.st.active && !s.inTransfer

/-- A checkpoint opens (R317). -/
def State.ckptOpen (s : State) : State :=
  if s.atCkpt && s.ckptState then s.setCmp { s.cmp with ckpts := s.cmp.ckpts ++ [({ cycle := s.sk.cycle } : CkptOpen)] } else s

/-- An in-service comparator test falls due (R308). -/
def State.injStep (s : State) : State :=
  let p := 1000000 / s.sk.t
  if s.comparing && p != 0 && s.sk.cycle % p == 0 then s.setCmp { s.cmp with inj := some { cycle := s.sk.cycle } } else s

/-- Slot k mod 64 of the vote buffer is cleared, and W's records are stored again after an unfreezing (R310, R311). What the
comparator keeps of keys that have become stale ends (R299). -/
def State.voteStep (s : State) : State :=
  let c := s.cmp
  let k := s.sk.cycle % 64
  let c := if c.frozen then c else { c with votes := c.votes.filter fun r => r.tag % 64 != k }
  s.setCmp { c with
    rearm := false
    seen := c.seen.filter fun x => !s.cmpStale x.tag
    closed := c.closed.filter fun x => !s.cmpStale x.tag }

/-! Records, tags, exchange -/

/-- The counts of beacons without an applied record go up, unless they pause (R152, R260). -/
def State.sinceStep (s : State) : State :=
  if !s.sk.st.active || s.drvHeld then s
  else
    let f := fun (s : State) l n =>
      let x := s.axis l n
      if s.axOn l n && !x.busLow then s.setAxis l n { x with since := x.since + 1 } else s
    let g := fun (s : State) l p =>
      let x := s.pp l p
      if s.ppOn l p && !x.busLow && s.ppState l p != 7 then s.setPp l p { x with since := x.since + 1 } else s
    (s.forDrives 6 f).forDrives 2 g

/-- A tag that has grown 16,384 cycles old (R552). -/
def State.tagOld (s : State) (t : Nat) : Bool := decide (16384 ≤ s.tagAge t)

/-- Old tags are void: those of the drives, the ports and the mirrors (R552). -/
def State.tagVoid (s : State) : State :=
  let f := fun (s : State) l n =>
    let x := s.axis l n
    if x.tagOk && s.tagOld (s.fg (axB l n) AX.STATUS_LASTTAG) then s.setAxis l n { x with tagOk := false } else s
  let g := fun (s : State) l p =>
    let x := s.pp l p
    if x.tagOk && s.tagOld x.tag then s.setPp l p { x with tagOk := false } else s
  let h := fun (s : State) l =>
    let e := s.le l
    if e.mirror.any fun p => s.tagOld p.2 then s.setLe l { e with mirror := e.mirror.filter fun p => !s.tagOld p.2 } else s
  ((s.forDrives 6 f).forDrives 2 g).forLanes h

/-- The exchange begins a cycle: no record is present, and the header's state is the one at this beacon (R24, R295). -/
def State.exchStep (s : State) : State :=
  { s with xc := { s.xc with recA := none, recB := none, recW := none, published := false, stAt := s.sk.st } }

/-- What the generators of both drive lanes show is latched for the input record (R199). -/
def State.latchStep (s : State) : State :=
  let f := fun (s : State) (l : DLane) => if s.running l.lane then s.pgLatch l else s
  f (f s .A) .B

/-- The stars are told which lane transmits on their networks (R381). -/
def State.starStep (s : State) : State :=
  let f := fun (s : State) l => s.setStar l { s.star l with unit := dno (s.netTx (dno l)) }
  f (f s .A) .B

/-- The interrupt sources BEACON and CHECKPOINT have an edge in every running lane (R481). -/
def State.cycleEdges (s : State) : State :=
  s.forLanes fun s l => if s.atCkpt then (s.icEdge l 40).icEdge l 42 else s.icEdge l 40

/-- The cycle sources fire in every running lane, but not during TRANSFER (R77, R320). -/
def State.cycleTriggers (s : State) : State :=
  if s.inTransfer then s
  else s.forLanes fun s l => if s.atCkpt then (s.trig l 0).trig l 60 else s.trig l 0

/-! Axolotl (R320, R322, R56) -/

/-- Axolotl moves on: TRANSFER begins at the first checkpoint beacon after an equal digest; the first beacon after the transfer is
the join; and a passed re-vote takes the unit to Service, with the configured shares and no caps. -/
def State.axoStep (s : State) : State :=
  match s.sk.axo with
  | none => s
  | some x =>
    if s.sk.st ≠ .axolotl then s
    else
      match x.phase with
      | .restart => s
      | .config =>
        if x.digestOk && s.atCkpt then
          s.setSk { s.sk with axo := some { x with phase := .transfer, c := s.sk.cycle, sigSurvivor := none, sigThird := none } }
        else s
      | .transfer =>
        if x.xferDone then
          let x := { x with phase := .joined, j := s.sk.cycle, passes := 0 }
          (((s.setSk { s.sk with axo := some x }).pgJoin x)).keptAll
        else s
      | .joined =>
        if x.passed then
          let s := s.setSk { s.sk with
            st := .service, axo := none, removed := s.sk.removed.erase x.lane, byFeed := false, capTq := 100, capSpd := 100,
            capNext := none, shareNext := [] }
          s.putShares s.cfgShares
        else s

/-! Requests and the command path -/

/-- Monitoring of the command path starts (R346). -/
def State.monStep (s : State) : State :=
  if s.sk.st.active && s.cmdAlive then s.setSk { s.sk with cmdMon := true } else s

/-- A request for Park or Hibernate that its conditions let take effect does so at this beacon (R39, R342, R520); one that they
refuse is STATE_REQ_PARK's and STATE_REQ_HIBERNATE's. -/
def State.sleepStep (s : State) : State :=
  if s.reqIs 1 && s.sk.st.serves && s.sk.still && s.pumpsStopped then s.reqDone.enterPark
  else if s.reqIs 2 && (s.sk.st.serves || s.sk.st == .safeHold) && s.sk.still && s.pumpsStopped then s.reqDone.enterHibernate
  else s

/-- Every block at a beacon, in the order of R146: Skink's lines first. -/
def State.beacon (s : State) (slipped : List (DLane × Fin 6)) : State :=
  let changes := s.sk.tNew.isSome
  let s := s.cycleStep.cycleLatch.sinceStep.axoStep
  let s := s.holdStep.linesStep.benchStep
  let s := s.tagVoid.pwmSync changes slipped
  let s := s.voteStep.ckptOpen.injStep
  let s := s.exchStep.latchStep.starStep
  let s := (s.forLanes State.calHandover).forDrives 24 State.cellBeacon
  s.monStep.cycleEdges.cycleTriggers

/-- BEACON (R17, R18, R34, R48, R133, R150 to R152, R227, R284, R310, R320, R322, R328, R346, R381, R551, R552). The beacon and the
counter run wherever Skink is powered. -/
def execBeacon (periodA periodB periodW : Nat) (slipped : List (DLane × Fin 6)) (s : State) : Host.Outcome State Fault Refusal :=
  if s.skinkOn then .next ((s.rateCheck periodA periodB periodW).beacon slipped).sleepStep else .next s

end Sys2Proof.Machine
end

