-- ==== Sys2Proof/Machine/Power.lean ====
section
/-! DEFINITION. Feeds, resets, the hibernate domain, and the start of the unit (chapters 02, 12, 18, 19). -/

namespace Sys2Proof.Machine

open Sys2Proof

/-- The state with feed f's comparators at given levels. -/
def State.setFeed (s : State) (f : DLane) (valid above : Bool) : State :=
  match f with
  | .A => s.setSk { s.sk with feedA := valid, aboveA := above }
  | .B => s.setSk { s.sk with feedB := valid, aboveB := above }

/-- FEED_START (R40, R514): the feed is valid. Off goes to Tadpole; Skink runs, and VOR is valid. -/
def execFeedStart (f : DLane) (s : State) : Host.Outcome State Fault Refusal :=
  let first := !s.sk.feedA && !s.sk.feedB
  let s := s.setFeed f true true
  let both := s.sk.waitBoth && s.sk.feedA && s.sk.feedB
  let s := s.lanesUp (if both then [0, 1, 2] else if first then [dno f, 2] else [dno f])
  let s := s.setSk { s.sk with waitBoth := s.sk.waitBoth && !both }
  .next (if s.sk.st = .off then (s.setSk { s.sk with vor := true }).enterTadpole else s)

/-- FEED_VALID_LOST (R515): the source of the feed is raised, the lane is held in reset and its enables drop. -/
def execFeedValidLost (f : DLane) (s : State) : Host.Outcome State Fault Refusal :=
  let valid := match f with
    | .A => s.sk.feedA
    | .B => s.sk.feedB
  let above := match f with
    | .A => s.sk.aboveA
    | .B => s.sk.aboveB
  let s1 := s.setFeed f false above
  if !valid ∨ s.sk.st = .off ∨ s.sk.st = .hibernate then .next s1
  else
    let s1 := s1.raiseS (0x40 + dno f) 255 (4 + dno f)
    let s1 := if s.running f.lane then (s1.holdReset f.lane).fs (pwrB f.lane) PWR.RSTCAUSE_FEED 1 else s1
    .next ((s1.lanePowerOff f.lane true).setLane f.lane { (s1.lanePowerOff f.lane true).lane f.lane with debugSeen := false })

/-- FEEDS_BELOW_RESET (R40): the unit goes to Off, with both stars reset. -/
def execFeedsBelowReset (s : State) : Host.Outcome State Fault Refusal := .next ((s.starReset .A).starReset .B).enterOff

/-- FEED_FALLS_BELOW_RESET (R378): the feed's star is reset. -/
def execFeedFallsBelowReset (f : DLane) (s : State) : Host.Outcome State Fault Refusal :=
  .next ((s.setFeed f false false).starReset f)

/-- Lane l may leave reset: Skink runs, its feeds allow it, and Skink does not hold it (R40, R50, R313, R516, R320). -/
def State.mayRelease (s : State) (l : Lane) : Bool :=
  (s.lane l).reset && s.sk.vor && s.feedOf l && !s.sk.waitBoth && !(s.lane l).broken &&
  (match s.sk.leftOut with
   | some d => d.lane != l
   | none => true) &&
  (s.sk.st == .tadpole ||
   (match s.sk.axo with
    | some x => s.sk.st == .axolotl && x.lane == l && x.phase == .restart
    | none => false))

/-- LANE_RESET_RELEASE (R516): the rails are checked; with one out of its window the lane stays in reset and RSTCAUSE names it,
else the lane's reset is released into Tadpole (R504, R505, R512, R518, R522). -/
def execLaneResetRelease (l : Lane) (rail : Fin 7) (vhibLow : Bool) (s : State) : Host.Outcome State Fault Refusal :=
  if !s.mayRelease l || !s.past (famGet (fun _ => 0) s.sk.up (laneNo l)) (2 * 10 ^ 6) then .next s
  else
    let kept := (s.lane l).enMem
    let s := s.setLane l { s.lane l with enMem := true, enRun := true, rails := rail.val == 0 }
    let s := s.setSk { s.sk with relAt := some (s.sk.relAt.getD s.now) }
    if rail.val ≠ 0 then .next (s.fs (pwrB l) PWR.RSTCAUSE_RAIL rail.val)
    else
      let x := s.lane l
      let first := if x.trial && x.tries < 2 then 1 - x.active else x.active
      let x := { x with
        reset := false, bootPref := first, bootBad := 0
        tries := if x.trial && x.tries < 2 then x.tries + 1 else x.tries
        trial := x.trial && x.tries < 2 }
      let s := (s.setLane l x).closeLane l
      let s := s.fs hibB HIB.STATUS_VHIBLOW (if vhibLow then 1 else 0)
      let s := if s.fg (pwrB l) PWR.RSTCAUSE_RAIL ≠ 0 then s.raiseL l 0x20 255 else s
      let s := if s.fb hibB HIB.STATUS_VHIBLOSS then s.raiseL l 0x23 255 else s
      let s := if vhibLow then s.raiseL l 0x24 255 else s
      let keep := kept && s.fg hibB HIB.STATUS_SLEEP == 2
      .next ((s.fs (pwrB l) PWR.STATUS_SRKEPT (if keep then 1 else 0)).dramStart l kept)

/-- RAIL_FAULT_RESET (R512): the supervisor holds the lane in reset and records the rail. No row reports that a rail is back in its
window: it counts as out of it until the lane's next LANE_RESET_RELEASE (model's choice, assumption 122). -/
def execRailFaultReset (l : Lane) (rail : Fin 7) (s : State) : Host.Outcome State Fault Refusal :=
  if rail.val = 0 ∨ !s.sk.vor then .next s
  else
    let s := (s.holdReset l).fs (pwrB l) PWR.RSTCAUSE_RAIL rail.val
    .next (s.setLane l { s.lane l with rails := false })

/-- Where image bank n lies (R459). -/
def bankBase (n : Nat) : Nat := 0x10000000 + 0x1800000 * n

/-- The sections of the image in a bank are loaded (R503, R504). -/
def State.loadImage (s : State) (l : Lane) (bank : Nat) : State :=
  let n := laneNo l
  let a := bankBase bank
  let num := fun (ofs size : Nat) => leNat (s.rdBytes n (a + ofs) size)
  (List.range (min 16 (num 0xb 1))).foldl (fun s i =>
    let e := 0x40 + 16 * i
    s.wrBytes n (num (e + 8) 5) (s.rdBytes n (a + 1280 + num e 4) (num (e + 4) 4))) s

/-- IMAGE_CHECK_DONE (R504, R505): Tadpole has checked the bank in turn. An accepted bank is booted with its sections loaded and the
cores in M mode; the third report ends Tadpole. A refused bank gives its turn to the other, or, if both are refused, 0x161. -/
def execImageCheckDone (l : Lane) (accepted : Bool) (version : Fin 65) (keySlot : Fin 4) (cfgDigest headerDigest : BitVec 256)
    (s : State) : Host.Outcome State Fault Refusal :=
  let x := s.lane l
  if x.reset ∨ x.verified ∨ 2 ≤ x.bootBad then .next s
  else
    let bank := if x.bootBad = 0 then x.bootPref else 1 - x.bootPref
    if accepted && x.rollback ≤ version.val then
      let words := fun (d : BitVec 256) => (List.range 8).map (fun i => (d >>> (32 * (7 - i))).setWidth 32)
      let s := s.setLane l { x with verified := true, user := [], cfgSha := words cfgDigest, headSha := words headerDigest }
      let s := s.loadImage l bank
      let b := cryB l
      let s := (((s.fs b CRY.BOOTINFO_BANK bank).fs b CRY.BOOTINFO_TRIAL (if x.trial then 1 else 0)).fs b CRY.BOOTINFO_TRIES x.tries)
      let s := ((s.fs b CRY.BOOTINFO_ROLLBACK x.rollback).fs b CRY.BOOTINFO_VERSION version.val).fs b CRY.BOOTINFO_KEYSLOT keySlot.val
      let s := if x.bootBad = 0 then s else (s.fs b CRY.BOOTINFO_FALLBACK 1).raiseL l 0x160 255
      let s := s.fs b CRY.STATUS_KEYOK 1
      .next (
        if s.sk.st = .tadpole ∧ (s.lane .A).verified ∧ (s.lane .B).verified ∧ (s.lane .W).verified then s.enterChorus else s)
    else
      let s := s.setLane l { x with bootBad := x.bootBad + 1 }
      .next (if x.bootBad = 1 then s.raiseL l 0x161 255 else s)

/-- START_INCOMPLETE (R40): 500 ms after the first release, Tadpole ends in Safe Hold. A lane that its rails keep in reset counts (R516). -/
def execStartIncomplete (s : State) : Host.Outcome State Fault Refusal :=
  .next (if s.sk.st = .tadpole ∧ s.sk.relAt.any (s.past · (500 * 10 ^ 6)) then (s.raiseS 0x60).enterSafeHold else s)

/-- CHORUS_TIMEOUT (R40): after 150 ms, Chorus ends in Safe Hold. -/
def execChorusTimeout (s : State) : Host.Outcome State Fault Refusal :=
  .next (if s.sk.st = .chorus ∧ s.past s.sk.chorusAt (150 * 10 ^ 6) then (s.raiseS 0x61).enterSafeHold else s)

/-- CHORUS_CMP_TEST_DONE (R309): the tests of the comparator copies pass or fail Chorus. -/
def execChorusCmpTestDone (pass : Bool) (s : State) : Host.Outcome State Fault Refusal :=
  .next (
    if s.sk.st = .chorus then
      if pass then (s.setSk { s.sk with cmpOk := true }).chorusCheck else s.enterSafeHold
    else s)

/-- A slice of lane l has failed: its bit of BIST.FAIL and 0x150 with the slice as instance (R502). -/
def State.sliceFail (s : State) (l : Lane) (n : Nat) : State :=
  (s.sliceFailQuiet l n).raiseL l 0x150 n

/-- The slices that lane W lacks (R493). -/
def sliceAbsent (l : Lane) (n : Nat) : Bool :=
  l == .W && ((51 ≤ n && n ≤ 53) || n == 56 || n == 57 || (62 ≤ n && n ≤ 65))

/-- START_SWEEP_DONE (R499, R502): a lane has run its start sets, in Chorus or in Axolotl RESTART. -/
def execStartSweepDone (l : Lane) (failed : List (Fin 72)) (s : State) : Host.Outcome State Fault Refusal :=
  let bad := (failed.map (fun i => i.val)).filter (fun n => !sliceAbsent l n)
  if (s.lane l).reset then .next s
  else
    let s1 := (bad.foldl (fun s n => s.sliceFail l n) s).fs (bistB l) BIST.STATUS_SET 2
    let s1 := (s1.fs (bistB l) BIST.STATUS_SLICE 71)
    let s1 := if s1.fg (bistB l) BIST.STATUS_SWEEPS < 65535 then s1.fInc (bistB l) BIST.STATUS_SWEEPS else s1
    if s.sk.st = .chorus then
      .next (
        if bad.isEmpty then (s1.setLane l { s1.lane l with swept := true }).chorusCheck
        else (s1.skinkReset l).enterSafeHold)
    else
      match s.sk.axo with
      | some x =>
        if s.sk.st = .axolotl ∧ x.lane = l ∧ x.phase = .restart ∧ (s.lane l).verified then
          .next (
            if bad.isEmpty then
              (s1.setLane l { s1.lane l with swept := true }).setSk { s1.sk with axo := some { x with phase := .config } }
            else (s1.setLane l { s1.lane l with broken := true }).axoFail)
        else .next s
      | none => .next s

/-! The configuration block -/

/-- CFG_START_WRITE (R331): lane A starts a load, before acceptance; the words received so far are discarded. -/
def execCfgStartWrite (l : Lane) (v : Word) (s : State) : Host.Outcome State Fault Refusal :=
  .next (
    if l = .A ∧ ¬ (s.lane .A).reset ∧ s.sk.cfg = [] ∧ v.getLsbD 0 then
      s.setSk { s.sk with loading := true, words := [], cfgResult := 0 }
    else s)

/-- CFG_DATA_WRITE (R331): lane A writes the next word of the block. -/
def execCfgDataWrite (l : Lane) (v : Word) (s : State) : Host.Outcome State Fault Refusal :=
  .next (
    if l = .A ∧ ¬ (s.lane .A).reset ∧ s.sk.cfg = [] ∧ s.sk.loading ∧ s.sk.words.length < 128 then
      s.setSk { s.sk with words := v :: s.sk.words }
    else s)

/-- The digest that lane l has written. -/
def State.laneDigest (s : State) (l : Lane) : List Word :=
  (List.range 8).map (fun i => s.reg (skOwnB l + 0x60 + 4 * i))

/-- DIGEST_WRITE (R331): a lane writes a word of its digest. With a block held since before Chorus, the third whole digest is
judged at once; in Axolotl CONFIG, the restored lane's is. -/
def execDigestWrite (l : Lane) (n : Fin 8) (v : Word) (s : State) : Host.Outcome State Fault Refusal :=
  if (s.lane l).reset then .next s
  else
    let s := s.setReg (skOwnB l + 0x60 + 4 * n.val) v
    let d := (s.lane l).digest ||| 2 ^ n.val
    let s := s.setLane l { s.lane l with digest := d, digestAll := d == 255 }
    if s.sk.cfg = [] then .next s
    else if s.sk.st = .chorus then
      if (s.lane .A).digestAll && (s.lane .B).digestAll && (s.lane .W).digestAll && !s.sk.cfgOk then
        .next (
          if s.laneDigest .A == s.sk.cfgDig && s.laneDigest .B == s.sk.cfgDig && s.laneDigest .W == s.sk.cfgDig then
            (s.setSk { s.sk with cfgOk := true }).chorusCheck
          else (s.raiseS 0x10).enterSafeHold)
      else .next s
    else
      match s.sk.axo with
      | some x =>
        if s.sk.st = .axolotl ∧ x.lane = l ∧ x.phase = .config ∧ (s.lane l).digestAll ∧ ¬ x.digestOk then
          .next (
            if s.laneDigest l == s.sk.cfgDig then s.setSk { s.sk with axo := some { x with digestOk := true } }
            else (s.raise { coll := .skink, src := 0x10, res := resLane l, restoring := true }).axoFail)
        else .next s
      | none => .next s

/-- CFG_HASH_DONE (R331): the digests are compared and the ranges checked; the block is accepted, or Chorus fails. -/
def execCfgHashDone (s : State) : Host.Outcome State Fault Refusal :=
  let k := s.sk
  if k.st = .chorus ∧ k.cfg = [] ∧ k.words.length = 128 ∧ (s.lane .A).digestAll ∧ (s.lane .B).digestAll ∧ (s.lane .W).digestAll then
    let b := k.words.reverse
    let h := sha256 (b.flatMap (fun w => natLe 4 w.toNat))
    if s.laneDigest .A == h && s.laneDigest .B == h && s.laneDigest .W == h then
      if cfgInRange b then
        let s := s.setSk { k with cfg := b, cfgDig := h, cfgResult := 1, loading := false, cfgOk := true }
        let t := s.cfgT
        let s := s.setSk { s.sk with dlyX := s.cfgAlign, dlyY := s.cfgAlign, tNew := if t = k.t then none else some t }
        .next s.siStart.chorusCheck
      else .next (((s.setSk { k with cfgResult := 3, loading := false }).raiseS 0x12).enterSafeHold)
    else .next (((s.setSk { k with cfgResult := 2, loading := false }).raiseS 0x10).enterSafeHold)
  else .next s

/-- REG_PARITY_ERROR (R332): after acceptance, SKINK.0x011. -/
def execRegParityError (s : State) : Host.Outcome State Fault Refusal :=
  .next (if s.sk.cfg = [] then s else s.raiseS 0x11)

/-! The hibernate domain -/

/-- The RTC: HIB.RTC holds the seconds of the model time rtcAt, and the 32.768 kHz oscillator counts on from there (R517, R526;
assumption 146). -/
def State.rtcSec (s : State) : Nat := ((s.reg (hibB + 0x108)).toNat + (s.now - s.rtcAt) / 10 ^ 9) % 2 ^ 32
def State.rtcSub (s : State) : Nat := (s.now - s.rtcAt) % 10 ^ 9 * 2 ^ 15 / 10 ^ 9

/-- A write of HIB.RTC sets the seconds; the second begins anew. -/
def State.rtcWrite (s : State) (v : Word) : State := { s with rtcAt := s.now }.setReg (hibB + 0x108) v

/-- WAKE_PIN (R521): an enabled wake input has reached its level. -/
def execWakePin (n : Fin 4) (s : State) : Host.Outcome State Fault Refusal :=
  .next (if (s.fg hibB HIB.WAKECFG_EN).testBit n.val then s.wake n.val else s)

/-- RTC_ALARM (R521): the seconds count equals HIB.ALARM. -/
def execRtcAlarm (s : State) : Host.Outcome State Fault Refusal :=
  .next (if s.fb hibB HIB.WAKECFG_ALARMEN ∧ s.rtcSec = (s.reg (hibB + 0x110)).toNat then s.wake 4 else s)

/-- The axis retention area of one lane's retention SRAM is zeroed (R519). -/
def State.zeroAxisArea (s : State) (l : Nat) : State :=
  { s with mem := famClear s.mem (key l 0x30000000) (key l 0x30000100) }

/-- Every axis retention area is zeroed, and SLEEP is 0 (R519). -/
def State.zeroAreas (s : State) : State :=
  (((s.zeroAxisArea 0).zeroAxisArea 1).zeroAxisArea 2).fs hibB HIB.STATUS_SLEEP 0

/-- HIB_FEED_SAMPLE (R519): in Hibernate, both feeds below the reset threshold zero the areas. -/
def execHibFeedSample (belowA belowB : Bool) (s : State) : Host.Outcome State Fault Refusal :=
  .next (if s.sk.st = .hibernate ∧ belowA ∧ belowB then s.zeroAreas else s)

/-- VOR_LOW (R519): VOR has fallen below 4.0 V; with SLEEP 0 or 2 the areas are zeroed. -/
def execVorLow (s : State) : Host.Outcome State Fault Refusal :=
  let z := s.fg hibB HIB.STATUS_SLEEP
  let s := s.setSk { s.sk with vor := false }
  .next (if z = 0 ∨ z = 2 then s.zeroAreas else s)

/-- HIB_POWER_ON_RESET (R518): the domain's registers are as after its power-on reset, VHIBLOSS set; what the retention SRAMs
then hold is open. -/
def execHibPowerOnReset (s : State) : Host.Outcome State Fault Refusal :=
  let s := { s with regs := famClear s.regs (key sharedHome 0x40900100) (key sharedHome 0x40900114), rtcAt := s.now }
  .next (((s.freeBytes 0 0x30000000 4096).freeBytes 1 0x30000000 4096).freeBytes 2 0x30000000 4096)

/-- VOR_VALID (R521): after a wake from Hibernate, Skink starts and the unit is in Tadpole. -/
def execVorValid (s : State) : Host.Outcome State Fault Refusal :=
  let s := s.setSk { s.sk with vor := true }
  let s := s.lanesUp ((if s.sk.feedA then [0] else []) ++ (if s.sk.feedB then [1] else []) ++ [2])
  .next (
    if s.sk.st = .hibernate ∧ ¬ s.sk.keepOff then
      let w := s.sk.waitBoth && !(s.sk.feedA && s.sk.feedB)
      (s.enterTadpole).setSk { s.enterTadpole.sk with waitBoth := w }
    else s)

/-- WAKE_ONE_FEED_TIMEOUT (R40): 500 ms after the wake, the lanes of the one valid feed may start, and the other drive lane
stays in reset. -/
def execWakeOneFeedTimeout (s : State) : Host.Outcome State Fault Refusal :=
  .next (
    if s.sk.st = .tadpole ∧ s.sk.waitBoth ∧ (s.sk.feedA ∨ s.sk.feedB) ∧ s.past s.sk.wakeAt (500 * 10 ^ 6) then
      (s.lanesUp [0, 1, 2]).setSk { (s.lanesUp [0, 1, 2]).sk with waitBoth := false, leftOut := some (if s.sk.feedA then .B else .A) }
    else s)

/-- TEMPERATURE_THRESHOLD (R525): the die temperature t, in 0.125 °C, crosses 135 or 150 °C. -/
def execTemperatureThreshold (l : Lane) (t : Int) (s : State) : Host.Outcome State Fault Refusal :=
  if (s.lane l).reset then .next s
  else
    let old := s.fi (pwrB l) PWR.TEMP_DIE
    let s := s.fsSat (pwrB l) PWR.TEMP_DIE t
    let s := if 1080 < t ∧ old ≤ 1080 then s.raiseL l 0x21 255 else s
    .next (if 1200 < t ∧ old ≤ 1200 then s.raiseL l 0x22 255 else s)

/-- WAKECFG_WRITE (R526): a pin enabled with MODE 3 is refused with 0x025. -/
def execWakecfgWrite (l : Lane) (v : Word) (s : State) : Host.Outcome State Fault Refusal :=
  if (s.lane l).reset then .next s
  else if (List.range 4).any (fun n => v.getLsbD n && v.toNat / 2 ^ (4 + 2 * n) % 4 == 3) then .next (s.raiseL l 0x25 255)
  else .next (s.setReg (hibB + 0x104) (BitVec.ofNat 32 (v.toNat % 2 ^ 14)))

/-- RTC_READ (R526): a read of HIB.RTC returns the seconds and latches RTCSUB, the HIB clocks within the second. -/
def execRtcRead (l : Lane) (s : State) : Host.Outcome State Fault Refusal :=
  if (s.lane l).reset then .next s
  else .next ({ s with readData := BitVec.ofNat 32 s.rtcSec }.fs hibB HIB.RTCSUB_SUB s.rtcSub)

end Sys2Proof.Machine
end

