-- ==== Sys2Proof/Machine/Bist.lean ====
section
/-! DEFINITION. The in-service self-test and the crypto block (chapter 18). -/

namespace Sys2Proof.Machine

open Sys2Proof

/-! The sweep -/

/-- The sweep runs in Service, Degraded, Axolotl and Bench (R498). -/
def State.sweeps (s : State) (l : Lane) : Bool := s.running l && s.fb (bistB l) BIST.CTRL_EN && s.sk.st.active

/-- A slice is deferred at its slot (R498). -/
def State.sliceDefer (s : State) (l : Lane) (n : Nat) : Bool :=
  s.sk.hold.isSome ||
  (match s.sk.axo with
   | some x => s.sk.st == .axolotl && x.phase == .transfer
   | none => false) ||
  (match s.sk.targeted with
   | some t => t.1 == l
   | none => false) ||
  (n == 41 && (s.lane l).cryOp != 0) || (n == 44 && s.fb (ckptB l) CKPT.STATUS_BUSY)

/-- The steps of live calibration whose phases meet the window of slice 66 are cancelled (R495). -/
def State.calPaused (s : State) (l : Lane) : State :=
  match asDrive l with
  | none => s
  | some d => (List.range 6).foldl (fun s n =>
      let p := s.calPhase d n
      let c := s.calx d n
      if s.calRuns d n && c.inStep && c.cancel == 0 && (p == 2 || p == 3 || p == 5 || p == 6) then s.calCancel d n 3 else s) s

/-- SLOTINT in nanoseconds, and the slot of lane unit time that runs (R498; slots are counted from unit time 0, assumption 145). -/
def State.slotLen (s : State) (l : Lane) : Nat := s.fg (bistB l) BIST.CTRL_SLOTINT * 10 ^ 6
def State.slotNow (s : State) (l : Lane) : Nat := s.utime l / s.slotLen l

/-- Slice n is due: slices run in ascending number and wrap, one a slot, and the slot of an absent slice stays empty (R498). -/
def State.sliceDue (s : State) (l : Lane) (n : Nat) : Bool :=
  let x := s.lane l
  let skip := (n + 72 - x.bistNext) % 72
  ((List.range skip).all fun i => sliceAbsent l ((x.bistNext + i) % 72)) &&
  (match x.bistSlot with
   | some k => decide (k + 1 + skip ≤ s.slotNow l)
   | none => true)

/-- BIST_SLICE_START (R494, R495, R498, R501): at its slot a slice is taken out of service, or deferred to the next slot. -/
def execBistSliceStart (l : Lane) (slice : Fin 72) (s : State) : Host.Outcome State Fault Refusal :=
  let b := bistB l
  let n := slice.val
  if !s.sweeps l || sliceAbsent l n || s.fb b BIST.STATUS_ACTIVE || !s.sliceDue l n then .next s
  else if s.sliceDefer l n then
    let s := s.setLane l { s.lane l with bistNext := n, bistSlot := some (s.slotNow l) }
    .next ((s.fInc b BIST.COUNT_DEFER).raiseL l 0x152 n)
  else
    let slot := some (s.slotNow l)
    let s := ((s.fs b BIST.STATUS_SLICE n).fs b BIST.STATUS_ACTIVE 1).fs b BIST.STATUS_SET 1
    let x := s.lane l
    let x := { x with bistNext := (n + 1) % 72, bistSlot := slot, bistClean := n == 0 || x.bistClean }
    let s := s.setLane l (if n = 0 then { x with sweepAt := some (s.utime l) } else x)
    if n = 66 then .next (s.calPaused l)
    else if n = 41 then .next (s.fs (cryB l) CRY.STATUS_KEYOK 0)
    else .next s

/-- A failure in service: the lane is BROKEN and held in reset (R502). -/
def State.sliceBroken (s : State) (l : Lane) : State :=
  (s.setLane l { s.lane l with broken := true, bistClean := false }).skinkReset l

/-- A slice has passed: the sweep's count, and the identity key after slice 41 (R498, R501, R507). -/
def State.slicePassed (s : State) (l : Lane) (n : Nat) (keyOk : Bool) : State :=
  let b := bistB l
  let x := s.lane l
  let s := if n = 71 then (s.fInc b BIST.STATUS_SWEEPS).setLane l { x with bistFull := x.bistFull || x.bistClean, sweepAt := none } else s
  if n = 41 then if keyOk then s.fs (cryB l) CRY.STATUS_KEYOK 1 else s.raiseL l 0x163 255 else s

/-- BIST_SLICE_END (R496, R501, R502): the slice is restored, and passes or fails. -/
def execBistSliceEnd (l : Lane) (slice : Fin 72) (sigOk restoreOk keyOk : Bool) (s : State) : Host.Outcome State Fault Refusal :=
  let n := slice.val
  if !s.running l || !s.bistIn l n then .next s
  else
    let s := s.fs (bistB l) BIST.STATUS_ACTIVE 0
    let s := if sigOk then s else s.sliceFail l n
    let s := if restoreOk then s else s.raiseL l 0x151 n
    .next (if sigOk && restoreOk then s.slicePassed l n keyOk else s.sliceBroken l)

/-- BIST_SWEEP_LATE (R498): the sweep lasts more than twice its length, 72 × SLOTINT. -/
def execBistSweepLate (l : Lane) (s : State) : Host.Outcome State Fault Refusal :=
  match (s.lane l).sweepAt with
  | some t =>
    if s.sweeps l && decide (t + 2 * 72 * s.slotLen l < s.utime l) then
      .next ((s.setLane l { s.lane l with sweepAt := none }).raiseL l 0x153 255)
    else .next s
  | none => .next s

/-- BIST_EN_WRITE (R510): BIST.CTRL is written; EN stays 0 with 0x154 while SLOTINT is 0. Read-only once the unit has left Chorus. -/
def execBistEnWrite (l : Lane) (v : Word) (s : State) : Host.Outcome State Fault Refusal :=
  let b := bistB l
  if !s.running l || (s.lane l).locked then .next s
  else
    let s := s.rowPut l false 0x40700000 v
    if v.getLsbD 0 && s.fg b BIST.CTRL_SLOTINT == 0 then .next ((s.fs b BIST.CTRL_EN 0).raiseL l 0x154 255) else .next s

/-! The crypto block -/

/-- A command is refused or has failed (R506). -/
def State.cryFail (s : State) (l : Lane) (code : Nat) : State :=
  ((s.fs (cryB l) CRY.STATUS_STATE 3).fs (cryB l) CRY.STATUS_CODE code).raiseL l 0x162 255

/-- A command with a refusal code that the specification does not state. -/
def State.cryFailFree (s : State) (l : Lane) : State :=
  let (c, s) := s.takeNat
  s.cryFail l (c % 16)

/-- A command starts, or is refused: busy, or in a state that does not accept it. -/
def State.cryStart (s : State) (l : Lane) (op : Nat) (ok : Bool) : State :=
  if !s.running l then s
  else if (s.lane l).cryOp ≠ 0 then s.cryFail l 6
  else if !ok then s.cryFail l 1
  else ((s.fs (cryB l) CRY.STATUS_STATE 1).fs (cryB l) CRY.STATUS_CODE 0).setLane l { s.lane l with cryOp := op }

/-- CRY.ARG. -/
def State.cryArg (s : State) (l : Lane) : Nat := s.fg (cryB l) CRY.ARG_L_ADDR + s.fg (cryB l) CRY.ARG_H_ADDR * 2 ^ 32

/-- ARG names an 8-aligned buffer of 512 bytes in core SRAM (R507). -/
def State.cryArgOk (s : State) (l : Lane) : Bool :=
  let a := s.cryArg l
  a % 8 == 0 && decide (0x20000000 ≤ a) && decide (a + 512 ≤ 0x20200000)

/-- CRY_ATTEST (R506, R507). During slice 41 the command waits for its window to end (R495). -/
def execCryAttest (l : Lane) (s : State) : Host.Outcome State Fault Refusal :=
  if s.running l && (s.lane l).cryOp == 0 && (s.fb (cryB l) CRY.STATUS_KEYOK || s.bistIn l 41) && !s.cryArgOk l then .next (s.cryFailFree l)
  else .next (s.cryStart l 1 (s.fb (cryB l) CRY.STATUS_KEYOK || s.bistIn l 41))

/-- CRY_INSTALL (R506). -/
def execCryInstall (l : Lane) (s : State) : Host.Outcome State Fault Refusal :=
  let st := s.sk.st
  .next (s.cryStart l 2 ((st == .service || st.degraded || st == .safeHold || st == .bench) && !(s.lane l).trial))

/-- Service or Bench. -/
def State.cryQuiet (s : State) : Bool := s.sk.st == .service || s.sk.st == .bench

/-- The lane booted its committed bank. -/
def State.bootedActive (s : State) (l : Lane) : Bool := s.fg (cryB l) CRY.BOOTINFO_BANK == (s.lane l).active

/-- CRY_COMMIT (R506). -/
def execCryCommit (l : Lane) (s : State) : Host.Outcome State Fault Refusal :=
  .next (s.cryStart l 3 (s.cryQuiet && (s.lane l).trial && !s.bootedActive l))

/-- CRY_ADVANCE (R506). -/
def execCryAdvance (l : Lane) (s : State) : Host.Outcome State Fault Refusal :=
  .next (s.cryStart l 4 (s.cryQuiet && s.bootedActive l && !(s.lane l).trial))

/-- Bytes of a word, the most significant first. -/
def wordBe (w : Word) : List Byte := natBe 4 w.toNat

/-- Bytes 0x000 to 0x01F and 0x040 to 0x07F of the report (R507). -/
def State.attestHead (s : State) (l : Lane) : List Byte :=
  let b := cryB l
  let x := s.lane l
  let bit := fun (c : Bool) (i : Nat) => if c then 2 ^ i else 0
  natLe 4 1 ++ natLe 1 (laneNo l) ++ natLe 1 (s.fg b CRY.BOOTINFO_BANK) ++ natLe 1 (s.fg b CRY.BOOTINFO_VERSION) ++ natLe 1 x.rollback ++
    natLe 4 (bit x.debugSeen 0 + bit x.trial 1 + bit (s.fb b CRY.BOOTINFO_FALLBACK) 2 + bit (x.swept || x.bistFull) 3) ++
    natLe 4 s.sk.cycle ++ natLe 16 (Config.deviceSerial (laneNo l)).toNat
def State.attestTail (s : State) (l : Lane) : List Byte :=
  (s.lane l).headSha.flatMap wordBe ++ s.sk.cfgDig.flatMap fun w => natLe 4 w.toNat

/-- The report, with the signature that the identity key gives it. -/
def State.attest (s : State) (l : Lane) (sig : List Byte) : State :=
  let a := s.cryArg l
  ((s.wrBytes (laneNo l) a (s.attestHead l)).wrBytes (laneNo l) (a + 0x40) (s.attestTail l)).wrBytes (laneNo l) (a + 0x80) (sig.take 384)

/-- The staging area (R506). -/
def stagingBase : Nat := 0x17e000000

/-- The staged image is in the bank not booted, and awaits its trial. -/
def State.install (s : State) (l : Lane) : State :=
  let b := cryB l
  let n := laneNo l
  let size := min 0x1800000 (1280 + leNat (s.rdBytes n (stagingBase + 0xc) 4))
  let s := s.wrBytes n (bankBase (1 - s.fg b CRY.BOOTINFO_BANK)) (s.rdBytes n stagingBase size)
  let s := s.setLane l { s.lane l with trial := true, tries := 0 }
  (s.fs b CRY.BOOTINFO_TRIAL 1).fs b CRY.BOOTINFO_TRIES 0

/-- The booted bank is ACTIVE. -/
def State.commitBank (s : State) (l : Lane) : State :=
  let b := cryB l
  (s.setLane l { s.lane l with active := s.fg b CRY.BOOTINFO_BANK, trial := false }).fs b CRY.BOOTINFO_TRIAL 0

/-- The rollback counter goes up to v at most 64; it never falls. -/
def State.advanceTo (s : State) (l : Lane) (v : Nat) : State :=
  let n := max (s.lane l).rollback (min 64 v)
  (s.setLane l { s.lane l with rollback := n }).fs (cryB l) CRY.BOOTINFO_ROLLBACK n

/-- What a command that has run to its end does (R506). -/
def State.cryDone (s : State) (l : Lane) (op : Nat) (sig : List Byte) : State :=
  match op with
  | 1 => s.attest l sig
  | 2 => s.install l
  | 3 => s.commitBank l
  | 4 => s.advanceTo l (s.fg (cryB l) CRY.BOOTINFO_VERSION)
  | _ => s

/-- What a command that fails leaves: of an ADVANCE, how many bits were blown is open. -/
def State.cryHalf (s : State) (l : Lane) (op : Nat) : State :=
  if op = 4 then
    let (n, s) := s.takeNat
    let r := (s.lane l).rollback
    s.advanceTo l (r + n % (s.fg (cryB l) CRY.BOOTINFO_VERSION - r + 1))
  else s

/-- CRY_CMD_DONE (R506, R507): the command that runs completes with code 0, or fails with another; an OTP read-back that fails also
raises 0x164. -/
def execCryCmdDone (l : Lane) (code : Fin 16) (signature : List Byte) (s : State) : Host.Outcome State Fault Refusal :=
  let op := (s.lane l).cryOp
  if !s.running l || op == 0 then .next s
  else
    let s1 := s.setLane l { s.lane l with cryOp := 0 }
    if code.val = 0 then .next (((s1.cryDone l op signature).fs (cryB l) CRY.STATUS_STATE 2).fs (cryB l) CRY.STATUS_CODE 0)
    else
      let s := (s1.cryHalf l op).cryFail l code.val
      .next (if code.val = 7 then s.raiseL l 0x164 255 else s)

end Sys2Proof.Machine
end

