-- ==== Sys2Proof/Machine/Can.lean ====
section
/-! DEFINITION. The CAN FD controllers (chapter 15). -/

namespace Sys2Proof.Machine

open Sys2Proof

/-! Sources and states -/

/-- A source of this chapter names its controller (R445). -/
def State.canRaise (s : State) (l : Lane) (k src : Nat) : State := s.raiseR l src k (resCan k)

/-- An event bit and its source. -/
def State.canEvent (s : State) (l : Lane) (k : Nat) (f : Fld) (src : Nat) : State := (s.fs (canB l k) f 1).canRaise l k src

/-- Lane W has the controllers 0 and 1 only. -/
def canHas (l : Lane) (k : Nat) : Bool := l != .W || decide (k < 2)

/-- The controller takes part in its bus: enabled, not stopped, not bus-off, and joined (R423, R443, R445). -/
def State.canUp (s : State) (l : Lane) (k : Nat) : Bool :=
  let b := canB l k
  s.running l && canHas l k && s.fb b CAN.CTRL_EN && !s.fb b CAN.STATUS_STOPPED && decide (s.fg b CAN.STATUS_ERRSTATE < 2) && !(s.can l k).join

/-- ERRSTATE and the sources of R442, for new error counters; a controller whose TEC passes 255 is bus-off. -/
def State.canCounts (s : State) (l : Lane) (k tec rec_ : Nat) : State :=
  let b := canB l k
  let s := (s.fs b CAN.STATUS_TEC (min 255 tec)).fs b CAN.STATUS_REC (min 255 rec_)
  if 255 < tec then (s.fs b CAN.STATUS_ERRSTATE 2).canEvent l k CAN.EVT_BUS_OFF 0x1c1
  else if 127 < tec ∨ 127 < rec_ then
    if s.fg b CAN.STATUS_ERRSTATE = 0 then (s.fs b CAN.STATUS_ERRSTATE 1).canEvent l k CAN.EVT_ERR_PASSIVE 0x1c2 else s
  else s.fs b CAN.STATUS_ERRSTATE 0

/-- The present time stamp (R437). -/
def State.canStamp (s : State) (l : Lane) (ago : Nat) : Nat := (s.utime l - ago) / 1000 % 2 ^ 32

/-! Attempts -/

/-- An attempt of the ACTIVE element has failed (R435, R439): it is repeated, or FAILED. -/
def State.canFailed (s : State) (l : Lane) (k : Nat) (final : Bool) : State :=
  let x := s.can l k
  let s := s.setCan l k { x with act := none, once := false, ref := none }
  match x.act with
  | none => s
  | some e =>
    let b := canB l k
    let retry := s.fg b CAN.TXCFG_RETRY
    let spent := final || x.once || s.fb (canTx l k e) CANTX.CANCEL_LATE || (retry != 0 && decide (retry ≤ s.fg (canTx l k e) CANTX.ATTEMPTS))
    if spent then (s.setCanTx l k e 6).fs b CAN.EVT_TX_FAILED 1 else s.setCanTx l k e 2

/-- Element e's SOF is sent (R435, R437). -/
def State.canSof (s : State) (l : Lane) (k e : Nat) (once : Bool) : State :=
  let t := canTx l k e
  let s := ((s.setCanTx l k e 3).fInc t CANTX.ATTEMPTS).fs t CANTX.TS (s.canStamp l 0)
  s.setCan l k { s.can l k with act := some e, once := once, sof := s.utime l }

/-- The arbitration field of element e as a number: the lower one wins the bus. -/
def State.canField (s : State) (l : Lane) (k e : Nat) : Nat :=
  let t := canTx l k e
  let id := s.fg t CANTX.ID
  let rtr := s.fg t CANTX.RTR
  if s.fb t CANTX.IDE then id / 2 ^ 18 * 2 ^ 21 + 2 ^ 20 + 2 ^ 19 + id % 2 ^ 18 * 2 + rtr else id % 2 ^ 11 * 2 ^ 21 + rtr * 2 ^ 20

/-! Bit times and the schedule -/

/-- A bit of the nominal phase and of the data phase, in half nanoseconds: a quantum is the prescaler times 12.5 ns (R421). -/
def State.canNomBit (s : State) (l : Lane) (k : Nat) : Nat :=
  let g := s.fg (canB l k)
  25 * ((g CAN.ARBTIME_PRE + 1) * (3 + g CAN.ARBTIME_SEG1 + g CAN.ARBTIME_SEG2))
def State.canDatBit (s : State) (l : Lane) (k : Nat) : Nat :=
  let g := s.fg (canB l k)
  25 * ((g CAN.DATTIME_DPRE + 1) * (3 + g CAN.DATTIME_DSEG1 + g CAN.DATTIME_DSEG2))

/-- Half nanoseconds since the last valid reference message, or since EN before one; and the same in network time units (R438). -/
def State.canSinceRef (s : State) (l : Lane) (k : Nat) : Nat := (s.utime l - (s.can l k).refAt) * 2
def State.canCycTime (s : State) (l : Lane) (k : Nat) : Nat := s.canSinceRef l k / s.canNomBit l k

/-- An entry of the schedule matrix (R439). -/
def State.canEntry (s : State) (l : Lane) (k r c : Nat) : Nat := (s.reg (canB l k + 0x9000 + 128 * r + 4 * c)).toNat

/-- NCYC and NCOL as numbers of cycles and of columns. -/
def State.canCycles (s : State) (l : Lane) (k : Nat) : Nat := 2 ^ s.fg (canB l k) CAN.TTCFG_NCYC
def State.canCols (s : State) (l : Lane) (k : Nat) : Nat := s.fg (canB l k) CAN.TTCFG_NCOL + 1

/-- An EXCLUSIVE entry of the matrix names element e. -/
def State.canExclusive (s : State) (l : Lane) (k e : Nat) : Bool :=
  (List.range (s.canCycles l k)).any fun r => (List.range (s.canCols l k)).any fun c =>
    let m := s.canEntry l k r c
    m % 4 == 1 && m / 4 % 32 == e

/-- Time mark c, and the end of column c: the next mark, or BCLEN for the last column (R439). -/
def State.canMark (s : State) (l : Lane) (k c : Nat) : Nat := (s.reg (canB l k + 0x8800 + 4 * c)).toNat % 2 ^ 16
def State.canEnd (s : State) (l : Lane) (k c : Nat) : Nat :=
  if c + 1 < s.canCols l k then s.canMark l k (c + 1) else s.fg (canB l k) CAN.TTCFG_BCLEN

/-- The column in force (R439); none before the first mark, from BCLEN on, and while no reference message is in force. -/
def State.canColumn (s : State) (l : Lane) (k : Nat) : Option Nat :=
  if s.fb (canB l k) CAN.TTSTAT_SYNCED then
    (List.range (s.canCols l k)).find? fun c => decide (s.canMark l k c ≤ s.canCycTime l k) && decide (s.canCycTime l k < s.canEnd l k c)
  else none

/-- The matrix entry of a column in the basic cycle in force (R439). -/
def State.canNow (s : State) (l : Lane) (k c : Nat) : Nat := s.canEntry l k (s.fg (canB l k) CAN.TTSTAT_CYCCNT) c

/-- The data bytes of a frame of a DLC (R433). -/
def canLen (fdf rtr : Bool) (dlc : Nat) : Nat :=
  if rtr then 0 else if dlc ≤ 8 then dlc else if !fdf then 8 else [12, 16, 20, 24, 32, 48, 64].getD (dlc - 9) 64

/-- The longest stuffed length of a frame of n data bytes, in half nanoseconds, from the bit times of the two phases (R439; the
frame formats are those of ISO 11898-1, assumption 144). One stuff bit may follow the first five bits of the stuffed part, and one
every four bits after them; an FD frame has a stuff count and a CRC with fixed stuff bits instead of stuffing in its CRC field. -/
def canLongest (ide fdf brs : Bool) (n nom dat : Nat) : Nat :=
  let stuff := fun bits => bits + (bits - 1) / 4
  if fdf then
    let head := if ide then 36 else 17
    let crc := if n ≤ 16 then 4 + 17 + 6 else 4 + 21 + 7
    (stuff head + 10) * nom + (stuff (head + 5 + 8 * n) - stuff head + crc) * if brs then dat else nom
  else (stuff ((if ide then 54 else 34) + 8 * n) + 10) * nom

/-- Element e's longest frame, begun now, ends by the end of column c (R439). -/
def State.canFits (s : State) (l : Lane) (k e c : Nat) : Bool :=
  let t := canTx l k e
  let n := canLen (s.fb t CANTX.FDF) (s.fb t CANTX.RTR) (s.fg t CANTX.DLC)
  let len := canLongest (s.fb t CANTX.IDE) (s.fb t CANTX.FDF) (s.fb t CANTX.BRS) n (s.canNomBit l k) (s.canDatBit l k)
  decide (s.canSinceRef l k + len ≤ s.canEnd l k c * s.canNomBit l k)

/-- The READY elements that may start now (R435, R439). -/
def State.canReady (s : State) (l : Lane) (k : Nat) : List Nat :=
  let es := (List.range 32).filter fun e => s.canState l k e == 2
  if s.fg (canB l k) CAN.CTRL_TTMODE = 0 then es
  else
    match s.canColumn l k with
    | some c => if s.canNow l k c % 4 = 2 then es.filter fun e => !s.canExclusive l k e else []
    | none => []

/-- Of a list of elements, the one whose arbitration field wins; among equal ones, the lowest. -/
def State.canBest (s : State) (l : Lane) (k : Nat) : List Nat → Option Nat
  | [] => none
  | e :: es =>
    match s.canBest l k es with
    | some d => if s.canField l k d < s.canField l k e then some d else some e
    | none => some e

/-- The delay measured on a transmitted FDF-to-res edge; a received edge earlier than MINDLY is ignored (R422). -/
def State.canMeasure (s : State) (l : Lane) (k e meas : Nat) : State :=
  let b := canB l k
  if s.fb b CAN.DELAYCOMP_EN && s.fb (canTx l k e) CANTX.FDF && decide (s.fg b CAN.DELAYCOMP_MINDLY ≤ meas) then
    s.fs b CAN.DELAYCOMP_MEAS (min 127 meas)
  else s

/-- CAN_TX_START (R424, R435, R439): the winning READY element is sent, in a schedule only where it fits its window. -/
def execCanTxStart (l : Lane) (k : Fin 4) (meas : Nat) (s : State) : Host.Outcome State Fault Refusal :=
  let b := canB l k.val
  let x := s.can l k.val
  if !s.canUp l k.val || s.fb b CAN.CTRL_RESTRICT || x.act.isSome || x.ref.isSome then .next s
  else
    match s.canBest l k.val (s.canReady l k.val) with
    | none => .next s
    | some e =>
      if s.fg b CAN.CTRL_TTMODE ≠ 0 ∧ (s.canColumn l k.val).any (fun c => !s.canFits l k.val e c) then .next (s.canEvent l k.val CAN.EVT_TT_WINDOW 0x1c7)
      else .next ((s.canSof l k.val e false).canMeasure l k.val e meas)

/-! Commit and cancel -/

/-- Bytes of a controller's message RAM. -/
def State.canBytes (s : State) (l : Lane) (k ofs n : Nat) : List Byte :=
  (List.range n).map fun i => BitVec.ofNat 8 ((s.reg (canB l k + (ofs + i) / 4 * 4)).toNat / 256 ^ ((ofs + i) % 4))

/-- The payload of TX element e. -/
def State.canPayload (s : State) (l : Lane) (k e : Nat) : List Byte :=
  let t := canTx l k e
  s.canBytes l k (0x7c00 + 80 * e + 16) (canLen (s.fb t CANTX.FDF) (s.fb t CANTX.RTR) (s.fg t CANTX.DLC))

/-- A commit is refused (R434). -/
def State.canBad (s : State) (l : Lane) (k e : Nat) : Bool :=
  let b := canB l k
  let t := canTx l k e
  let fdf := s.fb t CANTX.FDF
  (fdf && !s.fb b CAN.CTRL_FD) || (s.fb t CANTX.BRS && (!fdf || !s.fb b CAN.CTRL_SWITCH)) || (s.fb t CANTX.RTR && fdf) ||
  (!s.fb t CANTX.IDE && decide (0x7ff < s.fg t CANTX.ID)) || (s.fb t CANTX.UNITOUT && s.fb t CANTX.WITNESS)

/-- The frame record of a staged element (R302). -/
def State.canRec (s : State) (l : Lane) (k e : Nat) : OutRec :=
  let t := canTx l k e
  let p := s.canPayload l k e
  let w2 := s.fg t CANTX.ID + s.fg t CANTX.IDE * 2 ^ 29 + s.fg t CANTX.FDF * 2 ^ 30 + s.fg t CANTX.BRS * 2 ^ 31
  frameRec 9 k (s.fg t CANTX.TAG) w2 p.length (s.fb t CANTX.SAFETY) p

/-- A commit that is not refused (R303, R310, R434, R436). -/
def State.canCommit (s : State) (l : Lane) (k e : Nat) : State :=
  let t := canTx l k e
  let s := (s.fs t CANTX.ATTEMPTS 0).fs t CANTX.CANCEL_LATE 0
  if s.fb t CANTX.UNITOUT then
    let st := if s.fb t CANTX.SAFETY then 1 else if s.canTxLane l k then 2 else 7
    (s.setCanTx l k e st).toSkink l { r := s.canRec l k e, elem := some e }
  else if l = .W ∧ s.fb t CANTX.WITNESS then (s.setCanTx l k e 4).toSkink l { r := s.canRec l k e }
  else s.setCanTx l k e 2

/-- CAN_TX_COMMIT (R33, R433, R434): word 2 is written with COMMIT. While the element is STAGED, READY or ACTIVE it is ignored. -/
def execCanTxCommit (l : Lane) (k : Fin 4) (e : Fin 32) (v : Word) (s : State) : Host.Outcome State Fault Refusal :=
  let st := s.canState l k.val e.val
  if !s.running l || !canHas l k.val || (1 ≤ st && st ≤ 3) || !v.getLsbD 0 then .next s
  else
    let refused := (s.setCanTx l k.val e.val 5).fs (canB l k.val) CAN.EVT_TX_REFUSED 1
    if l = .W ∧ s.fb (canTx l k.val e.val) CANTX.UNITOUT then .next (refused.raiseL l 0x16 k.val)
    else if s.canBad l k.val e.val then .next (refused.canRaise l k.val 0x1c5)
    else .next (s.canCommit l k.val e.val)

/-- CAN_TX_CANCEL (R435): the element is cancelled, or marked CANCEL_LATE once its SOF has been sent. -/
def execCanTxCancel (l : Lane) (k : Fin 4) (e : Fin 32) (s : State) : Host.Outcome State Fault Refusal :=
  let st := s.canState l k.val e.val
  if !s.running l || !canHas l k.val then .next s
  else if st = 3 then .next ((s.fs (canTx l k.val e.val) CANTX.CANCEL_LATE 1).fs (canB l k.val) CAN.EVT_CANCEL_LATE 1)
  else if st = 1 ∨ st = 2 then .next (s.setCanTx l k.val e.val 9)
  else .next s

/-! Reception -/

/-- Filter element i takes the frame: it applies and matches (R425, R426). -/
def State.canMatch (s : State) (l : Lane) (k i : Nat) (f : CanFrame) : Bool :=
  let a := canB l k + 0x2000 + 16 * i
  let w := (s.reg a).toNat
  let id := f.id.toNat
  let id1 := (s.reg (a + 4)).toNat % 2 ^ 29
  let id2 := (s.reg (a + 8)).toNat % 2 ^ 29
  (w / 4 % 2 == 1) == f.ide &&
  match w % 4 with
  | 1 => decide (id1 ≤ id) && decide (id ≤ id2)
  | 2 => id == id1 || id == id2
  | 3 => Nat.land id id2 == Nat.land id1 id2
  | _ => false

/-- Where a frame goes: nowhere, or an action with its buffer, the element that matched, and whether it is cycle-relevant. -/
structure CanDest where
  action : Nat
  buf : Nat := 0
  elem : Option Nat := none
  cycrel : Bool := false
  deriving DecidableEq, Repr

/-- What the filter list decides (R426). -/
def State.canFilter (s : State) (l : Lane) (k : Nat) (f : CanFrame) : CanDest :=
  let b := canB l k
  if f.rtr && s.fb b CAN.RXCFG_NOREMOTE then ⟨0, 0, none, false⟩
  else
    match (List.range (min 512 (s.fg b CAN.RXCFG_LISTLEN))).find? (fun i => s.canMatch l k i f) with
    | some i =>
      let w := (s.reg (b + 0x2000 + 16 * i)).toNat
      ⟨w / 8 % 4, w / 32 % 64, some i, w / 2 ^ 11 % 2 == 1⟩
    | none => ⟨if s.fg b CAN.RXCFG_DEFAULT = 3 then 0 else s.fg b CAN.RXCFG_DEFAULT, 0, none, false⟩

/-- A byte of a controller's message RAM is written. -/
def State.canPutByte (s : State) (l : Lane) (k ofs : Nat) (v : Byte) : State :=
  let a := canB l k + ofs / 4 * 4
  s.setReg a (setBits (s.reg a) (8 * (ofs % 4)) 8 v.toNat)

/-- Bytes from an offset up. -/
def State.canPut (s : State) (l : Lane) (k ofs : Nat) : List Byte → State
  | [] => s
  | v :: vs => (s.canPutByte l k ofs v).canPut l k (ofs + 1) vs

/-- A frame is written to the RX element at an offset (R427, R428). -/
def State.canStore (s : State) (l : Lane) (k ofs : Nat) (f : CanFrame) (d : CanDest) (ts : Nat) : State :=
  let size := 8 * (s.fg (canB l k) CAN.RXCFG_STORESZ + 1)
  let bit := fun (b : Bool) (i : Nat) => if b then 2 ^ i else 0
  let w0 := f.id.toNat + bit f.ide 29 + bit f.rtr 30 + bit f.esi 31
  let w1 := f.dlc.val + bit f.brs 4 + bit f.fdf 5 + bit (decide (size < f.data.length)) 6 + d.elem.getD 0 * 2 ^ 7 + bit d.elem.isNone 16
  let a := canB l k + ofs
  let s := (((s.setReg a (BitVec.ofNat 32 w0)).setReg (a + 4) (BitVec.ofNat 32 w1)).setReg (a + 8) (BitVec.ofNat 32 ts)).setReg (a + 12) 0
  s.canPut l k (ofs + 16) (f.data.take size)

/-- COUNT and FULL of FIFO q. -/
def State.canCount (s : State) (l : Lane) (k q n : Nat) : State :=
  let b := canB l k + 4 * q
  (s.fs b CAN.QSTAT_COUNT n).fs b CAN.QSTAT_FULL (if n = 64 then 1 else 0)

/-- A frame for FIFO q (R429); true where it is stored. -/
def State.canFifo (s : State) (l : Lane) (k q : Nat) (f : CanFrame) (d : CanDest) (ts : Nat) : State × Bool :=
  let b := canB l k + 4 * q
  let full := s.fg b CAN.QSTAT_COUNT == 64
  let ovw := s.fb (canB l k) (if q = 0 then CAN.RXCFG_OVW0 else CAN.RXCFG_OVW1)
  let s := if full then
      (s.fInc b CAN.QSTAT_DROPPED).canEvent l k (if q = 0 then CAN.EVT_Q0_LOST else CAN.EVT_Q1_LOST) 0x1c4 else s
  if full && !ovw then (s, false)
  else
    let n := s.fg b CAN.QSTAT_NEXT
    let s := (s.canStore l k ((if q = 0 then 0x4000 else 0x5400) + 80 * n) f d ts).fs b CAN.QSTAT_NEXT (n + 1)
    let s := if full then s.fs b CAN.QSTAT_HEAD (s.fg b CAN.QSTAT_HEAD + 1) else s.canCount l k q (s.fg b CAN.QSTAT_COUNT + 1)
    (s.fs (canB l k) (if q = 0 then CAN.EVT_Q0_NEW else CAN.EVT_Q1_NEW) 1, true)

/-- A frame for RX buffer n (R430). -/
def State.canBuffer (s : State) (l : Lane) (k : Nat) (f : CanFrame) (d : CanDest) (ts : Nat) : State :=
  let b := canB l k
  let a := b + 0x60 + 4 * (d.buf / 32)
  let was := (s.reg a).getLsbD (d.buf % 32)
  let s := if was then (s.fs b CAN.EVT_BUFOVW 1).fInc b CAN.COUNT_BUFOVW else s
  let s := s.canStore l k (0x6800 + 80 * d.buf) f d ts
  (s.setReg a (s.reg a ||| BitVec.ofNat 32 (2 ^ (d.buf % 32)))).fs b CAN.EVT_BUFNEW 1

/-- A valid frame is filtered, stored, and offered to the network section (R426 to R432). -/
def State.canAccept (s : State) (l : Lane) (k : Nat) (f : CanFrame) (ts : Nat) : State :=
  let d := s.canFilter l k f
  let (s, stored) : State × Bool :=
    match d.action with
    | 1 => s.canFifo l k 0 f d ts
    | 2 => s.canFifo l k 1 f d ts
    | 3 => (s.canBuffer l k f d ts, true)
    | _ => (s, false)
  if stored && d.cycrel then
    let w1 := f.id.toNat + (if f.ide then 2 ^ 29 else 0) + (if f.fdf then 2 ^ 30 else 0)
    s.netAdd l { src := 2 + k, seq := 0, w1 := w1, pay := f.data }
  else s

/-- The cycle count of a reference message (R438). -/
def State.canRefCount (s : State) (l : Lane) (k : Nat) (f : CanFrame) : Option Nat :=
  let b := canB l k
  let c := (f.data.getD 0 0).toNat
  if s.fg b CAN.CTRL_TTMODE ≠ 0 ∧ ¬ f.fdf ∧ ¬ f.rtr ∧ 1 ≤ f.dlc.val ∧ f.ide = s.fb b CAN.TTREF_IDE ∧ f.id.toNat = s.fg b CAN.TTREF_REFID ∧
      c < s.canCycles l k then some c
  else none

/-- A reference message is in force (R438, R440). -/
def State.canRef (s : State) (l : Lane) (k c at_ : Nat) (own : Bool) : State :=
  let b := canB l k
  let s := ((s.fs b CAN.TTSTAT_CYCCNT c).fs b CAN.TTSTAT_SYNCED 1).fs b CAN.TTSTAT_MASTER (if own then 1 else 0)
  s.setCan l k { s.can l k with refAt := at_, refLost := false, ref := none }

/-- REC after a reception (ISO 11898-1): one less, or from above 127 a value between 119 and 127 that is open. -/
def State.canRxCount (s : State) (l : Lane) (k : Nat) : State :=
  let b := canB l k
  let r := s.fg b CAN.STATUS_REC
  if s.fb b CAN.CTRL_RESTRICT then s
  else if 127 < r then
    let (q, s) := s.takeNat
    s.canCounts l k (s.fg b CAN.STATUS_TEC) (119 + q % 9)
  else s.canCounts l k (s.fg b CAN.STATUS_TEC) (r - 1)

/-- An error detected as a receiver (R442); in restricted operation the counters do not change (R424). -/
def State.canRxBad (s : State) (l : Lane) (k n : Nat) : State :=
  let b := canB l k
  let s := s.fInc b CAN.COUNT_ERRORS
  if s.fb b CAN.CTRL_RESTRICT then s else s.canCounts l k (s.fg b CAN.STATUS_TEC) (s.fg b CAN.STATUS_REC + n)

/-- CAN_RX_FRAME (R423, R426 to R432, R438, R441): a frame of the bus becomes valid. A frame of the controller's own that was on the
way has lost arbitration to it. In internal loop-back the bus is not seen. -/
def execCanRxFrame (l : Lane) (k : Fin 4) (f : CanFrame) (sofAgo : Nat) (s : State) : Host.Outcome State Fault Refusal :=
  let b := canB l k.val
  if !s.canUp l k.val || s.fg b CAN.CTRL_LOOP == 1 then .next s
  else
    let s := s.canFailed l k.val false
    if f.fdf && (f.resRecessive || !s.fb b CAN.CTRL_FD) then
      if s.fb b CAN.CTRL_RESERR then .next (s.canRxBad l k.val 1)
      else .next ((s.setCan l k.val { s.can l k.val with join := true }).canEvent l k.val CAN.EVT_PROTO_EXC 0x1c8)
    else
      let s := s.canRxCount l k.val
      let s := match s.canRefCount l k.val f with
        | some c => s.canRef l k.val c (s.utime l - sofAgo) false
        | none => s
      let x := s.can l k.val
      if x.dropRx then .next (s.setCan l k.val { x with dropRx := false })
      else .next (s.canAccept l k.val f (s.canStamp l sofAgo))

/-- CAN_RX_ERROR (R442): an error is detected in a frame that the controller receives. -/
def execCanRxError (l : Lane) (k : Fin 4) (recAdd : Nat) (s : State) : Host.Outcome State Fault Refusal :=
  if !s.canUp l k.val || s.fg (canB l k.val) CAN.CTRL_LOOP == 1 then .next s
  else .next ((s.canFailed l k.val false).canRxBad l k.val recAdd)

/-- CAN_REINTEGRATE (R423, R445): 11 recessive bits have been seen. An element that was being sent when the controller left the bus
has failed its attempt. -/
def execCanReintegrate (l : Lane) (k : Fin 4) (s : State) : Host.Outcome State Fault Refusal :=
  let x := s.can l k.val
  if s.running l && x.join && !s.fb (canB l k.val) CAN.STATUS_STOPPED then
    .next ((s.setCan l k.val { x with join := false }).canFailed l k.val false)
  else .next s

/-! Outcomes of a transmission -/

/-- The frame of TX element e as its own controller receives it in loop-back (R441). -/
def State.canOwnFrame (s : State) (l : Lane) (k e : Nat) : CanFrame :=
  let t := canTx l k e
  { id := BitVec.ofNat 29 (s.fg t CANTX.ID), ide := s.fb t CANTX.IDE, rtr := s.fb t CANTX.RTR
    esi := s.fb t CANTX.FDF && s.fg (canB l k) CAN.STATUS_ERRSTATE == 1, dlc := ⟨s.fg t CANTX.DLC % 16, by omega⟩
    brs := s.fb t CANTX.BRS, fdf := s.fb t CANTX.FDF, resRecessive := false, data := s.canPayload l k e }

/-- The controller's own reference message as it receives it in loop-back: its DLC, at least 1, and the data bytes after the first
are open (R438, R441). -/
def State.canOwnRef (s : State) (l : Lane) (k c : Nat) : CanFrame × State :=
  let b := canB l k
  let (q, s) := s.takeNat
  let n := 1 + q % 8
  let f : CanFrame :=
    { id := BitVec.ofNat 29 (s.fg b CAN.TTREF_REFID), ide := s.fb b CAN.TTREF_IDE, rtr := false, esi := false, dlc := Fin.ofNat 16 n
      brs := false, fdf := false, resRecessive := false
      data := BitVec.ofNat 8 c :: (List.range (n - 1)).map fun i => BitVec.ofNat 8 (q / 8 / 256 ^ i) }
  (f, s)

/-- A transmission was acknowledged: TEC one less, ACKRUN 0 (R444). -/
def State.canTxCount (s : State) (l : Lane) (k : Nat) : State :=
  let b := canB l k
  let s := (s.fs b CAN.STATUS_ACKRUN 0).fs b CAN.STATUS_NOPART 0
  s.canCounts l k (s.fg b CAN.STATUS_TEC - 1) (s.fg b CAN.STATUS_REC)

/-- CAN_TX_SUCCESS (R435, R438, R441, R444): the frame being sent completes. -/
def execCanTxSuccess (l : Lane) (k : Fin 4) (s : State) : Host.Outcome State Fault Refusal :=
  let b := canB l k.val
  let x := s.can l k.val
  if !s.canUp l k.val then .next s
  else
    match x.act, x.ref with
    | some e, _ =>
      let f := s.canOwnFrame l k.val e
      let s := ((s.canTxCount l k.val).setCanTx l k.val e 4).fs b CAN.EVT_TX_DONE 1
      let s := s.setCan l k.val { s.can l k.val with act := none, once := false }
      .next (if s.fg b CAN.CTRL_LOOP = 0 then s else s.canAccept l k.val f (s.fg (canTx l k.val e) CANTX.TS))
    | none, some c =>
      let t := (s.canTxCount l k.val).canRef l k.val c x.sof true
      if s.fg b CAN.CTRL_LOOP = 0 then .next t
      else
        let (f, t) := t.canOwnRef l k.val c
        .next (t.canAccept l k.val f (x.sof / 1000 % 2 ^ 32))
    | none, none => .next s

/-- The run of ACK errors (R444). -/
def State.canAckRun (s : State) (l : Lane) (k : Nat) : State :=
  let b := canB l k
  let n := s.fg b CAN.STATUS_ACKRUN
  let s := s.fs b CAN.STATUS_ACKRUN (min 255 (n + 1))
  if n = 63 then (s.fs b CAN.STATUS_NOPART 1).canEvent l k CAN.EVT_NO_PARTNER 0x1c3 else s

/-- CAN_TX_ERROR (R435, R442, R444): the frame being sent fails. An ACK error of an error-passive controller that sees no dominant
bit in its error flag leaves TEC unchanged. In loop-back the controller acknowledges itself. -/
def execCanTxError (l : Lane) (k : Fin 4) (ack dominantSeen : Bool) (s : State) : Host.Outcome State Fault Refusal :=
  let b := canB l k.val
  let x := s.can l k.val
  if !s.canUp l k.val || (x.act.isNone && x.ref.isNone) || (ack && s.fg b CAN.CTRL_LOOP != 0) then .next s
  else
    let passive := s.fg b CAN.STATUS_ERRSTATE == 1
    let s := s.fInc b CAN.COUNT_ERRORS
    let s := if ack then s.canAckRun l k.val else s
    let tec := s.fg b CAN.STATUS_TEC + (if ack && passive && !dominantSeen then 0 else 8)
    let s := s.canCounts l k.val tec (s.fg b CAN.STATUS_REC)
    .next (s.canFailed l k.val (decide (255 < tec)))

/-- 0x1C1 of controller k has not been acknowledged: it is pending, or on its way. -/
def State.canBusOffOpen (s : State) (l : Lane) (k : Nat) : Bool :=
  let p := (s.coll (.lane l)).src 0x1c1
  (p.cls != 0 && p.res.any fun r => r.1 == resCan k) || s.evq.any fun e => e.coll == .lane l && e.src == 0x1c1 && e.res == resCan k

/-- CAN_RECOVER_WRITE (R443). -/
def execCanRecoverWrite (l : Lane) (k : Fin 4) (v : Word) (s : State) : Host.Outcome State Fault Refusal :=
  let b := canB l k.val
  if s.running l && v.getLsbD 0 && s.fg b CAN.STATUS_ERRSTATE == 2 && !s.canBusOffOpen l k.val then .next (s.fs b CAN.STATUS_ERRSTATE 3)
  else .next s

/-- CAN_RECOVERY_DONE (R443): 128 times 11 recessive bits have been seen. -/
def execCanRecoveryDone (l : Lane) (k : Fin 4) (s : State) : Host.Outcome State Fault Refusal :=
  let b := canB l k.val
  if s.running l && s.fg b CAN.STATUS_ERRSTATE == 3 then
    let s := ((s.fs b CAN.STATUS_ERRSTATE 0).fs b CAN.STATUS_TEC 0).fs b CAN.STATUS_REC 0
    .next (s.setCan l k.val { s.can l k.val with join := false })
  else .next s

/-- CAN_FIFO_RELEASE (R429). -/
def execCanFifoRelease (l : Lane) (k : Fin 4) (q : Fin 2) (v : Word) (s : State) : Host.Outcome State Fault Refusal :=
  let b := canB l k.val + 4 * q.val
  let n := v.toNat % 128
  let have_ := s.fg b CAN.QSTAT_COUNT
  if !s.running l || n == 0 || decide (have_ < n) then .next s
  else .next ((s.canCount l k.val q.val (have_ - n)).fs b CAN.QSTAT_HEAD (s.fg b CAN.QSTAT_HEAD + n))

/-! The schedule -/

/-- A potential master owes a reference message: the cycle time has reached BCLEN, or no valid reference message has come for BCLEN
and 128 network time units for each step of REFID mod 8 since EN (R438). -/
def State.canRefDue (s : State) (l : Lane) (k : Nat) : Bool :=
  let b := canB l k
  let wait := if s.fb b CAN.TTSTAT_SYNCED then 0 else 128 * (s.fg b CAN.TTREF_REFID % 8)
  decide (s.fg b CAN.TTCFG_BCLEN + wait ≤ s.canCycTime l k)

/-- CAN_TT_REF_SEND (R438): a potential master sends the reference message of the next basic cycle. -/
def execCanTtRefSend (l : Lane) (k : Fin 4) (s : State) : Host.Outcome State Fault Refusal :=
  let b := canB l k.val
  let x := s.can l k.val
  if !s.canUp l k.val || s.fg b CAN.CTRL_TTMODE != 2 || s.fb b CAN.CTRL_RESTRICT || x.act.isSome || x.ref.isSome || !s.canRefDue l k.val then .next s
  else
    let c := if s.fb b CAN.TTSTAT_SYNCED then (s.fg b CAN.TTSTAT_CYCCNT + 1) % s.canCycles l k.val else 0
    .next (s.setCan l k.val { x with ref := some c, sof := s.utime l })

/-- CAN_TT_WINDOW_START (R439): the cycle time reaches the mark of column col, which comes into force; the element of an EXCLUSIVE
window is sent, once, if it is READY and fits. -/
def execCanTtWindowStart (l : Lane) (k : Fin 4) (col : Fin 32) (s : State) : Host.Outcome State Fault Refusal :=
  let b := canB l k.val
  let x := s.can l k.val
  if !s.canUp l k.val || s.fg b CAN.CTRL_TTMODE == 0 || s.canColumn l k.val != some col.val || s.canCycTime l k.val != s.canMark l k.val col.val then
    .next s
  else
    let s := s.setCan l k.val { x with dropWin := false }
    let m := s.canNow l k.val col.val
    let e := m / 4 % 32
    if m % 4 ≠ 1 ∨ s.canState l k.val e ≠ 2 ∨ x.act.isSome ∨ x.ref.isSome ∨ s.fb b CAN.CTRL_RESTRICT ∨ x.dropWin then .next s
    else if s.canFits l k.val e col.val then .next (s.canSof l k.val e true)
    else .next (s.canEvent l k.val CAN.EVT_TT_WINDOW 0x1c7)

/-- CAN_TT_REF_LOST (R440): a time slave has had no reference message for BCLEN + 1,024 network time units. -/
def execCanTtRefLost (l : Lane) (k : Fin 4) (s : State) : Host.Outcome State Fault Refusal :=
  let b := canB l k.val
  let x := s.can l k.val
  if s.running l && canHas l k.val && s.fb b CAN.CTRL_EN && !s.fb b CAN.STATUS_STOPPED && s.fg b CAN.CTRL_TTMODE == 1 && !x.refLost &&
      decide (s.fg b CAN.TTCFG_BCLEN + 1024 ≤ s.canCycTime l k.val) then
    let s := (s.fs b CAN.TTSTAT_SYNCED 0).setCan l k.val { x with refLost := true }
    .next (s.canEvent l k.val CAN.EVT_TT_REF_LOST 0x1c6)
  else .next s

/-! Enabling -/

/-- The bit times of R421 and R449 hold. -/
def State.canBitsOk (s : State) (l : Lane) (k : Nat) : Bool :=
  let g := s.fg (canB l k)
  let seg1 := g CAN.ARBTIME_SEG1
  let seg2 := g CAN.ARBTIME_SEG2
  let d2 := g CAN.DATTIME_DSEG2
  decide (1 ≤ seg1) && decide (1 ≤ seg2) && decide (g CAN.ARBTIME_JUMP ≤ seg2) && decide (g CAN.DATTIME_DJUMP ≤ d2) &&
  decide (2000 ≤ s.canNomBit l k) && decide (250 ≤ s.canDatBit l k)

/-- Filter element i keeps R449. -/
def State.canElemOk (s : State) (l : Lane) (k i : Nat) : Bool :=
  let a := canB l k + 0x2000 + 16 * i
  let w := (s.reg a).toNat
  let id1 := (s.reg (a + 4)).toNat % 2 ^ 29
  let id2 := (s.reg (a + 8)).toNat % 2 ^ 29
  w % 4 == 0 || ((w / 4 % 2 == 1 || (decide (id1 ≤ 0x7ff) && decide (id2 ≤ 0x7ff))) && (w % 4 != 1 || decide (id1 ≤ id2)))

/-- The time marks rise strictly below BCLEN (R449). -/
def State.canMarksOk (s : State) (l : Lane) (k : Nat) : Bool :=
  (List.range (s.canCols l k)).all fun c =>
    decide (s.canMark l k c < s.canEnd l k c) && decide (s.canMark l k c < s.fg (canB l k) CAN.TTCFG_BCLEN)

/-- None of the conditions of R449 holds. -/
def State.canCfgOk (s : State) (l : Lane) (k : Nat) : Bool :=
  let b := canB l k
  let tt := s.fg b CAN.CTRL_TTMODE
  let n := s.fg b CAN.RXCFG_LISTLEN
  s.canBitsOk l k && !(s.fb b CAN.CTRL_SWITCH && !s.fb b CAN.CTRL_FD) && s.fg b CAN.CTRL_LOOP != 3 && decide (n ≤ 512) &&
  (List.range (min 512 n)).all (s.canElemOk l k) && tt != 3 && (tt == 0 || (decide (s.fg b CAN.TTCFG_NCYC ≤ 6) && s.canMarksOk l k))

/-- The multi-function ball that a controller needs and a feedback unit holds (R534, R535). -/
def State.canClaim (s : State) (l : Lane) (k : Nat) : Option Nat :=
  match asDrive l with
  | none => none
  | some d =>
    let n := if k = 2 then 4 else 5
    let ball := if k = 2 then 2 else 0
    let ser := s.fg (fuB d n) FB.CTRL_SER
    if decide (2 ≤ k) && s.fb (fuB d n) FB.CTRL_EN then if ser = 1 then some ball else if ser = 2 then some (ball + 1) else none
    else none

/-- The controller is off: nothing on its way, its error and schedule state as at reset. -/
def State.canOff (s : State) (l : Lane) (k : Nat) : State :=
  let b := canB l k
  let s := match (s.can l k).act with
    | some e => s.setCanTx l k e 2
    | none => s
  ((s.setReg (b + 0x40) 0).setReg (b + 0x44) 0).setCan l k {}

/-- CAN_EN_WRITE (R445, R449, R535): CANk.CTRL is written. The controller is enabled and claims its balls, or EN stays 0 with 0x1C0
or 0x1E0. Read-only once the unit has left Chorus. -/
def execCanEnWrite (l : Lane) (k : Fin 4) (v : Word) (s : State) : Host.Outcome State Fault Refusal :=
  let b := canB l k.val
  if !s.running l || (s.lane l).locked || !canHas l k.val then .next s
  else
    let a := 0x40400000 + 0x10000 * k.val
    let was := s.fb b CAN.CTRL_EN
    let s := s.rowPut l false a v
    if !v.getLsbD 0 then .next (s.canOff l k.val)
    else if !s.canCfgOk l k.val then .next (((s.fs b CAN.CTRL_EN 0).canOff l k.val).canRaise l k.val 0x1c0)
    else
      match s.canClaim l k.val with
      | some m => .next (((s.fs b CAN.CTRL_EN 0).canOff l k.val).raiseL l 0x1e0 m a)
      | none =>
        if was then .next s
        else
          let s := s.setCan l k.val { s.can l k.val with refAt := s.utime l }
          .next (s.fs b CAN.STATUS_STOPPED (if s.resPending l (resCan k.val) then 1 else 0))

end Sys2Proof.Machine
end

