-- ==== Sys2Proof/Machine/Dollith.lean ====
section
/-! DEFINITION. Dollith: the instruction word, its forms and their checks, and the instructions of flow, predicates, address registers and
job control (chapter 04). -/

namespace Sys2Proof.Machine

open Sys2Proof

/-- What a field names: nothing, a block register, an address register, a predicate (R100). -/
inductive FK where
  | n | v | a | p
  deriving DecidableEq, Repr

/-- A form: its opcode, its flags values from lo to hi, what each field names, and the imm bits it uses (R100, R102). -/
structure Form where
  op : Nat
  lo : Nat
  hi : Nat
  d : FK
  a : FK
  b : FK
  c : FK
  mask : Nat
  deriving DecidableEq, Repr

/-- The forms of flow, predicates, memory, address registers, input and output (R102, R111 to R126). -/
def formsA : List Form := [
  ⟨0x01, 0, 0, .n, .n, .n, .n, 0x0⟩,
  ⟨0x02, 0, 0, .n, .n, .n, .n, 0x0⟩,
  ⟨0x03, 0, 0, .n, .n, .n, .n, 0x3f⟩,
  ⟨0x04, 0, 0, .p, .n, .n, .n, 0xff⟩,
  ⟨0x04, 1, 1, .p, .a, .n, .n, 0xff⟩,
  ⟨0x05, 1, 1, .n, .n, .n, .n, 0x0⟩,
  ⟨0x05, 2, 2, .n, .n, .n, .n, 0x0⟩,
  ⟨0x05, 3, 3, .n, .n, .n, .n, 0x0⟩,
  ⟨0x06, 0, 0, .a, .n, .n, .n, 0x0⟩,
  ⟨0x06, 1, 1, .a, .n, .n, .n, 0x0⟩,
  ⟨0x06, 2, 2, .a, .n, .n, .n, 0x0⟩,
  ⟨0x08, 0, 0, .n, .p, .n, .n, 0xfffff⟩,
  ⟨0x08, 1, 1, .n, .p, .n, .n, 0xfffff⟩,
  ⟨0x09, 0, 0, .n, .n, .n, .n, 0xfffffff8⟩,
  ⟨0x0a, 0, 5, .p, .v, .v, .n, 0x3f⟩,
  ⟨0x0a, 8, 13, .p, .v, .n, .n, 0x7⟩,
  ⟨0x0b, 0, 5, .p, .a, .n, .n, 0xffffffff⟩,
  ⟨0x0b, 8, 13, .p, .a, .n, .n, 0xffffffff⟩,
  ⟨0x0c, 0, 6, .p, .p, .p, .n, 0x0⟩,
  ⟨0x10, 0, 0, .v, .a, .n, .n, 0xfffff⟩,
  ⟨0x11, 0, 0, .n, .a, .v, .n, 0xfffff⟩,
  ⟨0x12, 0, 0, .a, .a, .n, .n, 0xfffff⟩,
  ⟨0x13, 0, 0, .n, .a, .a, .n, 0xfffff⟩,
  ⟨0x14, 0, 0, .a, .a, .n, .n, 0xffffffff⟩,
  ⟨0x14, 1, 1, .a, .a, .a, .n, 0x0⟩,
  ⟨0x14, 2, 2, .a, .a, .a, .n, 0x0⟩,
  ⟨0x14, 3, 3, .a, .n, .n, .n, 0xffffffff⟩,
  ⟨0x14, 4, 4, .a, .a, .n, .n, 0xffffffff⟩,
  ⟨0x14, 5, 5, .a, .a, .n, .n, 0x1f⟩,
  ⟨0x14, 6, 6, .a, .a, .n, .n, 0x1f⟩,
  ⟨0x18, 0, 0, .v, .a, .n, .a, 0x700fffff⟩,
  ⟨0x19, 0, 0, .n, .v, .a, .a, 0xffff0f⟩]

/-- The forms of block arithmetic, normalisation and moves (R102, R111 to R126). -/
def formsB : List Form := [
  ⟨0x20, 0, 0, .v, .v, .v, .n, 0x0⟩,
  ⟨0x21, 0, 0, .v, .v, .v, .n, 0x0⟩,
  ⟨0x22, 0, 0, .v, .v, .v, .n, 0x0⟩,
  ⟨0x23, 0, 0, .v, .v, .v, .v, 0x0⟩,
  ⟨0x24, 0, 0, .v, .v, .v, .v, 0x0⟩,
  ⟨0x25, 0, 0, .v, .v, .v, .n, 0x0⟩,
  ⟨0x26, 0, 0, .v, .v, .n, .n, 0x0⟩,
  ⟨0x27, 0, 0, .v, .v, .n, .n, 0x0⟩,
  ⟨0x28, 0, 0, .v, .v, .n, .n, 0x0⟩,
  ⟨0x29, 0, 0, .v, .v, .n, .n, 0x0⟩,
  ⟨0x2a, 0, 0, .v, .v, .v, .n, 0x0⟩,
  ⟨0x2b, 0, 0, .v, .v, .v, .n, 0x0⟩,
  ⟨0x2c, 0, 0, .v, .v, .v, .v, 0x0⟩,
  ⟨0x2d, 0, 0, .v, .v, .v, .v, 0x0⟩,
  ⟨0x2e, 0, 0, .v, .v, .n, .n, 0x0⟩,
  ⟨0x2f, 0, 0, .v, .v, .n, .n, 0x0⟩,
  ⟨0x30, 0, 0, .v, .v, .n, .n, 0x0⟩,
  ⟨0x31, 0, 0, .a, .v, .n, .n, 0x0⟩,
  ⟨0x31, 1, 1, .a, .v, .n, .n, 0x0⟩,
  ⟨0x31, 2, 2, .v, .v, .n, .n, 0xff⟩,
  ⟨0x38, 0, 7, .v, .v, .v, .n, 0xffffffff⟩,
  ⟨0x39, 0, 0, .v, .v, .n, .n, 0x3f⟩,
  ⟨0x3a, 0, 0, .v, .v, .n, .n, 0x7⟩,
  ⟨0x3b, 0, 0, .v, .v, .v, .n, 0x3f⟩]

/-- The forms of transforms, tables, integration and conversion (R102, R111 to R126). -/
def formsC : List Form := [
  ⟨0x3c, 0, 0, .v, .v, .n, .n, 0x7⟩,
  ⟨0x3d, 0, 0, .v, .v, .v, .p, 0x0⟩,
  ⟨0x40, 0, 0, .v, .v, .n, .n, 0x0⟩,
  ⟨0x40, 1, 1, .v, .v, .n, .n, 0x0⟩,
  ⟨0x41, 0, 0, .v, .v, .v, .n, 0x0⟩,
  ⟨0x42, 0, 0, .v, .v, .v, .n, 0x0⟩,
  ⟨0x43, 0, 0, .v, .v, .v, .p, 0x0⟩,
  ⟨0x44, 0, 0, .v, .v, .n, .n, 0x0⟩,
  ⟨0x45, 0, 0, .v, .v, .v, .n, 0x0⟩,
  ⟨0x48, 0, 0, .v, .a, .a, .n, 0xffffffff⟩,
  ⟨0x48, 1, 1, .v, .a, .a, .n, 0xffff⟩,
  ⟨0x49, 0, 0, .v, .v, .v, .v, 0xf⟩,
  ⟨0x49, 1, 1, .v, .v, .v, .v, 0xf⟩,
  ⟨0x50, 0, 0, .n, .a, .v, .n, 0xfffffff⟩,
  ⟨0x50, 1, 1, .n, .a, .v, .n, 0xfffffff⟩,
  ⟨0x51, 0, 0, .v, .a, .n, .n, 0x7fffffff⟩,
  ⟨0x51, 1, 1, .v, .a, .n, .n, 0x7fffffff⟩,
  ⟨0x51, 2, 2, .v, .a, .n, .n, 0xff00000⟩,
  ⟨0x52, 0, 0, .v, .n, .n, .n, 0xffffffff⟩]

/-- The fields of an instruction word (R99). -/
structure Ins where
  op : Nat
  d : Nat
  a : Nat
  b : Nat
  c : Nat
  fl : Nat
  imm : Nat
  deriving DecidableEq, Repr

/-- The fields of a word (R99). -/
def insOf (w : DWord) : Ins :=
  let n := w.toNat
  { op := n / 2 ^ 56, d := n / 2 ^ 51 % 32, a := n / 2 ^ 46 % 32, b := n / 2 ^ 41 % 32, c := n / 2 ^ 36 % 32,
    fl := n / 2 ^ 32 % 16, imm := n % 2 ^ 32 }

/-- The form of an opcode and flags value; none where it is undefined (R101). -/
def formOf (i : Ins) : Option Form :=
  (formsA ++ (formsB ++ formsC)).find? (fun f => f.op == i.op && decide (f.lo ≤ i.fl) && decide (i.fl ≤ f.hi))

/-- The field names something that exists (R100). -/
def fieldOk : FK → Nat → Bool
  | .n, x => x == 0
  | .v, _ => true
  | .a, x => decide (x < 8)
  | .p, x => decide (x < 8)

/-- No bit that the form reserves is set, and BINT.LU has a register above vc (R100, R101). -/
def Form.legal (f : Form) (i : Ins) : Bool :=
  fieldOk f.d i.d && fieldOk f.a i.a && fieldOk f.b i.b && fieldOk f.c i.c && i.imm &&& f.mask == i.imm &&
  !(i.op == 0x49 && i.fl == 1 && i.c == 31)

/-- Bits lo to lo + w - 1 of imm. -/
def Ins.im (i : Ins) (lo w : Nat) : Nat := i.imm / 2 ^ lo % 2 ^ w

/-- Bits lo to lo + w - 1 of imm, sign-extended. -/
def Ins.ims (i : Ins) (lo w : Nat) : Int := signed w (i.im lo w)

/-- A 3-bit count, where 0 means 8. -/
def count8 (n : Nat) : Nat := if n % 8 = 0 then 8 else n % 8

/-- What an instruction does: it meets an exception, or it leaves this state and job. -/
inductive Res where
  | exc (code : Nat)
  | ok (s : State) (x : Job)

/-- Slot j issues the word, whose form is that of opcode op and flags from lo up (R101, R105). A job that does not run issues
nothing. A word that spells another form is not this command's; a word that spells no form is ILLEGAL. -/
def State.issue (s : State) (l : Lane) (j : Nat) (w : DWord) (op lo : Nat) (body : Ins → State → Job → Res) :
    Host.Outcome State Fault Refusal :=
  let x := s.job l j
  let i := insOf w
  if x.st ≠ .running then .next s
  else
    match formOf i with
    | none => .next (s.jobFault l j x 3 x.pc)
    | some f =>
      if f.op ≠ op ∨ f.lo ≠ lo then .next s
      else if !f.legal i then .next (s.jobFault l j x 3 x.pc)
      else
        match body i s { x with pc := x.pc + 8 } with
        | .exc 4 => .next ((s.raiseL l 0x85 255).jobFault l j x 4 x.pc)
        | .exc c => .next (s.jobFault l j x c x.pc)
        | .ok s y =>
          let (s, y) := s.drift l y
          .next (if y.st = .running then s.jobRun l j y else s.setJob l j y)

/-! The registers of a job -/

/-- A block register. -/
def Job.blk (x : Job) (i : Nat) : Blk := famGet (fun _ => Blk.zero) x.v i

/-- The job with a block register written; a block that saturated sets OVF (R69, R106). -/
def Job.putBlk (x : Job) (i : Nat) (b : Blk × Bool) : Job :=
  { x with v := famSet (fun _ => Blk.zero) x.v i b.1, ovf := x.ovf || b.2 }

/-- An address register. -/
def Job.ar (x : Job) (i : Nat) : Word := x.a.getD i 0

/-- The job with an address register written. -/
def Job.putA (x : Job) (i : Nat) (v : Word) : Job := { x with a := x.a.set i v }

/-- A predicate. -/
def Job.pr (x : Job) (i : Nat) : Bool := x.p.getD i false

/-- The job with a predicate written. -/
def Job.putP (x : Job) (i : Nat) (v : Bool) : Job := { x with p := x.p.set i v }

/-- The comparisons of PSET and PSETA, on integers (R125). -/
def condHolds (c : Nat) (a b : Int) : Bool :=
  match c with
  | 0 => decide (a = b)
  | 1 => decide (a ≠ b)
  | 2 => decide (a < b)
  | 3 => decide (a ≤ b)
  | 4 => decide (b < a)
  | _ => decide (b ≤ a)

/-- PLOG's operations (R125). -/
def plogOp (f : Nat) (a b : Bool) : Bool :=
  match f with
  | 0 => a && b
  | 1 => a || b
  | 2 => a != b
  | 3 => a && !b
  | 4 => !a
  | 5 => false
  | _ => true

/-- The next instruction is at offset t (R125). -/
def goTo (t : Nat) (s : State) (x : Job) : Res := if 0xf6000 ≤ t then .exc 1 else .ok s { x with pc := t }

/-- A branch, where it is taken (R125). The job's pc already stands behind it. A target below offset 0 wraps modulo 2^32 and so meets
LM_BOUNDS (model's choice, assumption 126). -/
def brIf (taken : Bool) (i : Ins) (s : State) (x : Job) : Res :=
  if taken then goTo (((x.pc : Int) - 8 + 8 * i.ims 0 20) % 2 ^ 32).toNat s x else .ok s x

/-- A SPAWN: a job from descriptor d starts in the lowest free slot, unless there is none or d is at MAXINST (R81). -/
def spawnJob (l : Lane) (i : Ins) (arg : Option Word) (s : State) (x : Job) : Res :=
  match s.freeSlots l with
  | [] => .ok s (x.putP i.d false)
  | k :: _ =>
    if s.descFull l (i.im 0 8) then .ok s (x.putP i.d false)
    else .ok (s.startJob l k (i.im 0 8) x.src x.trigT x.tag x.vec true arg) (x.putP i.d true)

/-- LE clocks since the job's trigger: the whole ones in the time that has passed since (model's choice, assumption 128). -/
def Job.clocks (x : Job) (s : State) : Nat := leClk (s.now - x.trigT)

/-- NOP (R126). -/
def execNop (l : Lane) (j : Fin 256) (w : DWord) (s : State) : Host.Outcome State Fault Refusal :=
  s.issue l j.val w 0x01 0 fun _ s x => .ok s x

/-- END (R94, R126): the slot goes to ENDING; with OVF_RAISE an OVF that is set is raised (R97). -/
def execEnd (l : Lane) (j : Fin 256) (w : DWord) (s : State) : Host.Outcome State Fault Refusal :=
  s.issue l j.val w 0x02 0 fun _ s x =>
    .ok (if x.ovf && x.ovfRaise then s.raiseL l 0x83 255 else s) { x with st := .ending }

/-- WAIT (R126, R127): the slot waits for a firing of the source. -/
def execWait (l : Lane) (j : Fin 256) (w : DWord) (s : State) : Host.Outcome State Fault Refusal :=
  s.issue l j.val w 0x03 0 fun i s x => .ok s { x with st := .waiting, wait := i.im 0 6, waitT := s.now }

/-- SPAWN (R81, R126). -/
def execSpawn (l : Lane) (j : Fin 256) (w : DWord) (s : State) : Host.Outcome State Fault Refusal :=
  s.issue l j.val w 0x04 0 fun i s x => spawnJob l i none s x

/-- SPAWN.ARG (R81, R126): the child's A0 is A[a]. -/
def execSpawnArg (l : Lane) (j : Fin 256) (w : DWord) (s : State) : Host.Outcome State Fault Refusal :=
  s.issue l j.val w 0x04 1 fun i s x => spawnJob l i (some (x.ar i.a)) s x

/-- HOLD.L (R93): the job waits for its stores. -/
def execHoldL (l : Lane) (j : Fin 256) (w : DWord) (s : State) : Host.Outcome State Fault Refusal :=
  s.issue l j.val w 0x05 1 fun _ s x => .ok s { x with st := .holdL }

/-- HOLD.O (R93): the job waits for its records. -/
def execHoldO (l : Lane) (j : Fin 256) (w : DWord) (s : State) : Host.Outcome State Fault Refusal :=
  s.issue l j.val w 0x05 2 fun _ s x => .ok s { x with st := .holdO }

/-- HOLD.A (R93): the job waits for both. -/
def execHoldA (l : Lane) (j : Fin 256) (w : DWord) (s : State) : Host.Outcome State Fault Refusal :=
  s.issue l j.val w 0x05 3 fun _ s x => .ok s { x with st := .holdA }

/-- TIME.J (R126): LE clocks since the trigger, saturating. -/
def execTimeJ (l : Lane) (j : Fin 256) (w : DWord) (s : State) : Host.Outcome State Fault Refusal :=
  s.issue l j.val w 0x06 0 fun i s x => .ok s (x.putA i.d (BitVec.ofNat 32 (min (x.clocks s) (2 ^ 32 - 1))))

/-- TIME.L (R126): the low word of the lane unit time; the high word is latched. -/
def execTimeL (l : Lane) (j : Fin 256) (w : DWord) (s : State) : Host.Outcome State Fault Refusal :=
  s.issue l j.val w 0x06 1 fun i s x => 
    .ok s { x.putA i.d (BitVec.ofNat 32 (s.utime l)) with timeH := BitVec.ofNat 32 (s.utime l / 2 ^ 32) }

/-- TIME.H (R126): the word latched by the job's last TIME.L; 0 before its first one (model's choice, assumption 127). -/
def execTimeH (l : Lane) (j : Fin 256) (w : DWord) (s : State) : Host.Outcome State Fault Refusal :=
  s.issue l j.val w 0x06 2 fun i s x => .ok s (x.putA i.d x.timeH)

/-- BR.T (R125). -/
def execBrT (l : Lane) (j : Fin 256) (w : DWord) (s : State) : Host.Outcome State Fault Refusal :=
  s.issue l j.val w 0x08 0 fun i s x => brIf (x.pr i.a) i s x

/-- BR.F (R125). -/
def execBrF (l : Lane) (j : Fin 256) (w : DWord) (s : State) : Host.Outcome State Fault Refusal :=
  s.issue l j.val w 0x08 1 fun i s x => brIf (!x.pr i.a) i s x

/-- JMP (R125). -/
def execJmp (l : Lane) (j : Fin 256) (w : DWord) (s : State) : Host.Outcome State Fault Refusal :=
  s.issue l j.val w 0x09 0 fun i s x => goTo i.imm s x

/-- PSET.cc (R125): two elements compared exactly. -/
def execPsetCc (l : Lane) (j : Fin 256) (w : DWord) (s : State) : Host.Outcome State Fault Refusal :=
  s.issue l j.val w 0x0a 0 fun i s x => 
    .ok s (x.putP i.d (condHolds i.fl ((x.blk i.a).val (i.im 0 3)) ((x.blk i.b).val (i.im 3 3))))

/-- PSET.ccZ (R125): an element compared with 0. -/
def execPsetCcz (l : Lane) (j : Fin 256) (w : DWord) (s : State) : Host.Outcome State Fault Refusal :=
  s.issue l j.val w 0x0a 8 fun i s x => .ok s (x.putP i.d (condHolds (i.fl - 8) ((x.blk i.a).val (i.im 0 3)) 0))

/-- PSETA.cc (R125): signed. -/
def execPsetaCc (l : Lane) (j : Fin 256) (w : DWord) (s : State) : Host.Outcome State Fault Refusal :=
  s.issue l j.val w 0x0b 0 fun i s x => .ok s (x.putP i.d (condHolds i.fl (x.ar i.a).toInt (i.ims 0 32)))

/-- PSETA.ccU (R125): unsigned. -/
def execPsetaCcu (l : Lane) (j : Fin 256) (w : DWord) (s : State) : Host.Outcome State Fault Refusal :=
  s.issue l j.val w 0x0b 8 fun i s x => .ok s (x.putP i.d (condHolds (i.fl - 8) (x.ar i.a).toNat i.imm))

/-- PLOG (R125). -/
def execPlog (l : Lane) (j : Fin 256) (w : DWord) (s : State) : Host.Outcome State Fault Refusal :=
  s.issue l j.val w 0x0c 0 fun i s x => .ok s (x.putP i.d (plogOp i.fl (x.pr i.a) (x.pr i.b)))

/-- AOP.ADDI (R121). -/
def execAopAddi (l : Lane) (j : Fin 256) (w : DWord) (s : State) : Host.Outcome State Fault Refusal :=
  s.issue l j.val w 0x14 0 fun i s x => .ok s (x.putA i.d (x.ar i.a + BitVec.ofNat 32 i.imm))

/-- AOP.ADD (R121). -/
def execAopAdd (l : Lane) (j : Fin 256) (w : DWord) (s : State) : Host.Outcome State Fault Refusal :=
  s.issue l j.val w 0x14 1 fun i s x => .ok s (x.putA i.d (x.ar i.a + x.ar i.b))

/-- AOP.SUB (R121). -/
def execAopSub (l : Lane) (j : Fin 256) (w : DWord) (s : State) : Host.Outcome State Fault Refusal :=
  s.issue l j.val w 0x14 2 fun i s x => .ok s (x.putA i.d (x.ar i.a - x.ar i.b))

/-- AOP.SET (R121). -/
def execAopSet (l : Lane) (j : Fin 256) (w : DWord) (s : State) : Host.Outcome State Fault Refusal :=
  s.issue l j.val w 0x14 3 fun i s x => .ok s (x.putA i.d (BitVec.ofNat 32 i.imm))

/-- AOP.ANDI (R121). -/
def execAopAndi (l : Lane) (j : Fin 256) (w : DWord) (s : State) : Host.Outcome State Fault Refusal :=
  s.issue l j.val w 0x14 4 fun i s x => .ok s (x.putA i.d (x.ar i.a &&& BitVec.ofNat 32 i.imm))

/-- AOP.SHL (R121). -/
def execAopShl (l : Lane) (j : Fin 256) (w : DWord) (s : State) : Host.Outcome State Fault Refusal :=
  s.issue l j.val w 0x14 5 fun i s x => .ok s (x.putA i.d (x.ar i.a <<< i.im 0 5))

/-- AOP.SAR (R121). -/
def execAopSar (l : Lane) (j : Fin 256) (w : DWord) (s : State) : Host.Outcome State Fault Refusal :=
  s.issue l j.val w 0x14 6 fun i s x => .ok s (x.putA i.d ((x.ar i.a).sshiftRight (i.im 0 5)))

end Sys2Proof.Machine
end

