-- ==== Sys2Proof/Machine/DollithBlocks.lean ====
section
/-! DEFINITION. Dollith: block arithmetic, normalisation, element moves, motor transforms and integration (R111 to R119). -/

namespace Sys2Proof.Machine

open Sys2Proof

/-- A block result of exact values, rounded once (R68). -/
def setBlk (i : Ins) (s : State) (x : Job) (xs : List Ex) : Res := .ok s (x.putBlk i.d (roundBlk xs))

/-- Values of n elements in units of 2^-160. -/
def each (n : Nat) (f : Nat → Int) : List Ex := (List.range n).map (fun k => Ex.ofVal (f k))

/-- Values of n elements in units of 2^-320. -/
def eachProd (n : Nat) (f : Nat → Int) : List Ex := (List.range n).map (fun k => Ex.ofProd (f k))

/-- The sum of f over the eight positions. -/
def sum8 (f : Nat → Int) : Int := ((List.range 8).map f).foldl (· + ·) 0

/-- 1 / v, v in units of 2^-160 (R112). -/
def rcpOf (v : Int) : Ex := if v = 0 then .huge else .frac (if v < 0 then -(2 ^ 160) else 2 ^ 160) v.natAbs

/-- 1 / √v, v in units of 2^-160; 0 where v is negative (R112). -/
def rsqOf (v : Int) : Ex := if v = 0 then .huge else if v < 0 then .frac 0 1 else .root false (2 ^ 160) v.natAbs

/-- v / √3, v in units of 2^-160. -/
def overRoot3 (v : Int) : Ex := .root (decide (v < 0)) (v.natAbs * v.natAbs) (3 * 2 ^ 320)

/-- s clamped to [lo, hi]; hi where lo > hi (R119). -/
def clampLH (s lo hi : Int) : Int := if hi < lo then hi else max lo (min s hi)

/-- BINT's block, and whether any element was clamped (R119). An element whose sum is already the value it is clamped to counts as
not clamped (assumption 125). -/
def bintOf (i : Ins) (s : State) (x : Job) (lo hi : Nat → Int) : Res :=
  let a := x.blk i.a
  let b := x.blk i.b
  let n := max a.n b.n
  let raw := fun k => a.val k + b.val k
  let out := fun k => clampLH (raw k) (lo k) (hi k)
  let hit := (List.range n).any (fun k => raw k != out k)
  let x := x.putBlk i.d (roundBlk (each n out))
  .ok s (if i.im 3 1 = 1 then x.putP (i.im 0 3) hit else x)

/-- BADD (R111). -/
def execBadd (l : Lane) (j : Fin 256) (w : DWord) (s : State) : Host.Outcome State Fault Refusal :=
  s.issue l j.val w 0x20 0 fun i s x => 
    setBlk i s x (each (max (x.blk i.a).n (x.blk i.b).n) fun k => (x.blk i.a).val k + (x.blk i.b).val k)

/-- BSUB (R111). -/
def execBsub (l : Lane) (j : Fin 256) (w : DWord) (s : State) : Host.Outcome State Fault Refusal :=
  s.issue l j.val w 0x21 0 fun i s x => 
    setBlk i s x (each (max (x.blk i.a).n (x.blk i.b).n) fun k => (x.blk i.a).val k - (x.blk i.b).val k)

/-- BMUL (R111). -/
def execBmul (l : Lane) (j : Fin 256) (w : DWord) (s : State) : Host.Outcome State Fault Refusal :=
  s.issue l j.val w 0x22 0 fun i s x => 
    setBlk i s x (eachProd (max (x.blk i.a).n (x.blk i.b).n) fun k => (x.blk i.a).val k * (x.blk i.b).val k)

/-- BMAC (R111): rounded once. -/
def execBmac (l : Lane) (j : Fin 256) (w : DWord) (s : State) : Host.Outcome State Fault Refusal :=
  s.issue l j.val w 0x23 0 fun i s x => 
    setBlk i s x (eachProd (max (max (x.blk i.a).n (x.blk i.b).n) (x.blk i.c).n) fun k => (x.blk i.c).val k * 2 ^ 160 + (x.blk i.a).val k * (x.blk i.b).val k)

/-- BMSU (R111): rounded once. -/
def execBmsu (l : Lane) (j : Fin 256) (w : DWord) (s : State) : Host.Outcome State Fault Refusal :=
  s.issue l j.val w 0x24 0 fun i s x => 
    setBlk i s x (eachProd (max (max (x.blk i.a).n (x.blk i.b).n) (x.blk i.c).n) fun k => (x.blk i.c).val k * 2 ^ 160 - (x.blk i.a).val k * (x.blk i.b).val k)

/-- BDOT (R111). -/
def execBdot (l : Lane) (j : Fin 256) (w : DWord) (s : State) : Host.Outcome State Fault Refusal :=
  s.issue l j.val w 0x25 0 fun i s x => 
    setBlk i s x [Ex.ofProd (sum8 fun k => (x.blk i.a).val k * (x.blk i.b).val k)]

/-- BSUM (R111). -/
def execBsum (l : Lane) (j : Fin 256) (w : DWord) (s : State) : Host.Outcome State Fault Refusal :=
  s.issue l j.val w 0x26 0 fun i s x => setBlk i s x [Ex.ofVal (sum8 fun k => (x.blk i.a).val k)]

/-- BMAXR (R111): the largest magnitude. -/
def execBmaxr (l : Lane) (j : Fin 256) (w : DWord) (s : State) : Host.Outcome State Fault Refusal :=
  s.issue l j.val w 0x27 0 fun i s x => 
    setBlk i s x [Ex.ofVal ((List.range 8).foldl (fun m k => max m |(x.blk i.a).val k|) 0)]

/-- BNEG (R111). -/
def execBneg (l : Lane) (j : Fin 256) (w : DWord) (s : State) : Host.Outcome State Fault Refusal :=
  s.issue l j.val w 0x28 0 fun i s x => setBlk i s x (each (x.blk i.a).n fun k => -(x.blk i.a).val k)

/-- BABS (R111). -/
def execBabs (l : Lane) (j : Fin 256) (w : DWord) (s : State) : Host.Outcome State Fault Refusal :=
  s.issue l j.val w 0x29 0 fun i s x => setBlk i s x (each (x.blk i.a).n fun k => |(x.blk i.a).val k|)

/-- BMIN (R111). -/
def execBmin (l : Lane) (j : Fin 256) (w : DWord) (s : State) : Host.Outcome State Fault Refusal :=
  s.issue l j.val w 0x2a 0 fun i s x => 
    setBlk i s x (each (max (x.blk i.a).n (x.blk i.b).n) fun k => min ((x.blk i.a).val k) ((x.blk i.b).val k))

/-- BMAX (R111). -/
def execBmax (l : Lane) (j : Fin 256) (w : DWord) (s : State) : Host.Outcome State Fault Refusal :=
  s.issue l j.val w 0x2b 0 fun i s x => 
    setBlk i s x (each (max (x.blk i.a).n (x.blk i.b).n) fun k => max ((x.blk i.a).val k) ((x.blk i.b).val k))

/-- BCLAMP (R111, R112). -/
def execBclamp (l : Lane) (j : Fin 256) (w : DWord) (s : State) : Host.Outcome State Fault Refusal :=
  s.issue l j.val w 0x2c 0 fun i s x => 
    setBlk i s x (each (max (max (x.blk i.a).n (x.blk i.b).n) (x.blk i.c).n) fun k =>
      min (max ((x.blk i.a).val k) ((x.blk i.b).val k)) ((x.blk i.c).val k))

/-- BLERP (R111). -/
def execBlerp (l : Lane) (j : Fin 256) (w : DWord) (s : State) : Host.Outcome State Fault Refusal :=
  s.issue l j.val w 0x2d 0 fun i s x => 
    setBlk i s x (eachProd (max (x.blk i.a).n (x.blk i.b).n) fun k =>
      (x.blk i.a).val k * 2 ^ 160 + (x.blk i.c).val 0 * ((x.blk i.b).val k - (x.blk i.a).val k))

/-- BRCP (R111, R112). -/
def execBrcp (l : Lane) (j : Fin 256) (w : DWord) (s : State) : Host.Outcome State Fault Refusal :=
  s.issue l j.val w 0x2e 0 fun i s x => 
    setBlk i s x ((List.range (x.blk i.a).n).map fun k => rcpOf ((x.blk i.a).val k))

/-- BRSQ (R111, R112): a negative element sets OVF. -/
def execBrsq (l : Lane) (j : Fin 256) (w : DWord) (s : State) : Host.Outcome State Fault Refusal :=
  s.issue l j.val w 0x2f 0 fun i s x => 
    let neg := (List.range (x.blk i.a).n).any fun k => decide ((x.blk i.a).val k < 0)
    setBlk i s { x with ovf := x.ovf || neg } ((List.range (x.blk i.a).n).map fun k => rsqOf ((x.blk i.a).val k))

/-- BNORM (R113). -/
def execBnorm (l : Lane) (j : Fin 256) (w : DWord) (s : State) : Host.Outcome State Fault Refusal :=
  s.issue l j.val w 0x30 0 fun i s x => 
    let sq := sum8 fun k => (x.blk i.a).val k * (x.blk i.a).val k
    setBlk i s x ((List.range (x.blk i.a).n).map fun k =>
      .root (decide ((x.blk i.a).val k < 0)) ((x.blk i.a).val k * (x.blk i.a).val k).natAbs sq.natAbs)

/-- BEXP.E (R113): the exponent. -/
def execBexpE (l : Lane) (j : Fin 256) (w : DWord) (s : State) : Host.Outcome State Fault Refusal :=
  s.issue l j.val w 0x31 0 fun i s x => .ok s (x.putA i.d (BitVec.ofInt 32 (x.blk i.a).e))

/-- BEXP.C (R113): the count. -/
def execBexpC (l : Lane) (j : Fin 256) (w : DWord) (s : State) : Host.Outcome State Fault Refusal :=
  s.issue l j.val w 0x31 1 fun i s x => .ok s (x.putA i.d (BitVec.ofNat 32 (x.blk i.a).n))

/-- BEXP.S (R113): scaled by a power of two. -/
def execBexpS (l : Lane) (j : Fin 256) (w : DWord) (s : State) : Host.Outcome State Fault Refusal :=
  s.issue l j.val w 0x31 2 fun i s x => 
    setBlk i s x ((List.range (x.blk i.a).n).map fun k =>
      .frac ((x.blk i.a).val k * 2 ^ (i.ims 0 8 + 128).toNat) (2 ^ 288))

/-- BPERM (R114). -/
def execBperm (l : Lane) (j : Fin 256) (w : DWord) (s : State) : Host.Outcome State Fault Refusal :=
  s.issue l j.val w 0x38 0 fun i s x => 
    setBlk i s x (each (count8 i.fl) fun k =>
      let e := i.im (4 * k) 4
      if e < 8 then (x.blk i.a).val e else (x.blk i.b).val (e - 8))

/-- BSPLAT (R114). -/
def execBsplat (l : Lane) (j : Fin 256) (w : DWord) (s : State) : Host.Outcome State Fault Refusal :=
  s.issue l j.val w 0x39 0 fun i s x => setBlk i s x (each (count8 (i.im 3 3)) fun _ => (x.blk i.a).val (i.im 0 3))

/-- BPICK (R114). -/
def execBpick (l : Lane) (j : Fin 256) (w : DWord) (s : State) : Host.Outcome State Fault Refusal :=
  s.issue l j.val w 0x3a 0 fun i s x => setBlk i s x [Ex.ofVal ((x.blk i.a).val (i.im 0 3))]

/-- BINS (R114). -/
def execBins (l : Lane) (j : Fin 256) (w : DWord) (s : State) : Host.Outcome State Fault Refusal :=
  s.issue l j.val w 0x3b 0 fun i s x => 
    setBlk i s x (each (max (x.blk i.a).n (i.im 0 3 + 1)) fun k =>
      if k = i.im 0 3 then (x.blk i.b).val (i.im 3 3) else (x.blk i.a).val k)

/-- BSETC (R114). -/
def execBsetc (l : Lane) (j : Fin 256) (w : DWord) (s : State) : Host.Outcome State Fault Refusal :=
  s.issue l j.val w 0x3c 0 fun i s x => setBlk i s x (each (count8 (i.im 0 3)) fun k => (x.blk i.a).val k)

/-- BSEL (R114). -/
def execBsel (l : Lane) (j : Fin 256) (w : DWord) (s : State) : Host.Outcome State Fault Refusal :=
  s.issue l j.val w 0x3d 0 fun i s x => 
    let b := if x.pr i.c then x.blk i.a else x.blk i.b
    setBlk i s x (each b.n fun k => b.val k)

/-- BCLARKE (R115). -/
def execBclarke (l : Lane) (j : Fin 256) (w : DWord) (s : State) : Host.Outcome State Fault Refusal :=
  s.issue l j.val w 0x40 0 fun i s x => 
    let a := (x.blk i.a).val
    setBlk i s x [.frac (2 * a 0 - a 1 - a 2) (3 * 2 ^ 160), overRoot3 (a 1 - a 2)]

/-- BCLARKE.2 (R115). -/
def execBclarke2 (l : Lane) (j : Fin 256) (w : DWord) (s : State) : Host.Outcome State Fault Refusal :=
  s.issue l j.val w 0x40 1 fun i s x => 
    let a := (x.blk i.a).val
    setBlk i s x [Ex.ofVal (a 0), overRoot3 (a 0 + 2 * a 1)]

/-- BPARK (R115). -/
def execBpark (l : Lane) (j : Fin 256) (w : DWord) (s : State) : Host.Outcome State Fault Refusal :=
  s.issue l j.val w 0x41 0 fun i s x => 
    let a := (x.blk i.a).val
    let (c, n) := cosSinT ((x.blk i.b).val 0)
    setBlk i s x [.frac (a 0 * c + a 1 * n) (2 ^ 1184), .frac (a 1 * c - a 0 * n) (2 ^ 1184)]

/-- BIPARK (R115). -/
def execBipark (l : Lane) (j : Fin 256) (w : DWord) (s : State) : Host.Outcome State Fault Refusal :=
  s.issue l j.val w 0x42 0 fun i s x => 
    let a := (x.blk i.a).val
    let (c, n) := cosSinT ((x.blk i.b).val 0)
    setBlk i s x [.frac (a 0 * c - a 1 * n) (2 ^ 1184), .frac (a 0 * n + a 1 * c) (2 ^ 1184)]

/-- BSVM (R115, R116). -/
def execBsvm (l : Lane) (j : Fin 256) (w : DWord) (s : State) : Host.Outcome State Fault Refusal :=
  s.issue l j.val w 0x43 0 fun i s x => 
    let a := (x.blk i.a).val
    let (ds, scaled) := svmDuties (a 0) (a 1) ((x.blk i.b).val 0)
    setBlk i s (x.putP i.c scaled) ds

/-- BSINCOS (R115). -/
def execBsincos (l : Lane) (j : Fin 256) (w : DWord) (s : State) : Host.Outcome State Fault Refusal :=
  s.issue l j.val w 0x44 0 fun i s x => 
    setBlk i s x ((List.range (min (x.blk i.a).n 4)).flatMap fun k =>
      let (c, n) := cosSinT ((x.blk i.a).val k)
      [.frac c (2 ^ 1024), .frac n (2 ^ 1024)])

/-- BATAN2 (R115). -/
def execBatan2 (l : Lane) (j : Fin 256) (w : DWord) (s : State) : Host.Outcome State Fault Refusal :=
  s.issue l j.val w 0x45 0 fun i s x => 
    setBlk i s x ((List.range (max (x.blk i.a).n (x.blk i.b).n)).map fun k => atan2T ((x.blk i.a).val k) ((x.blk i.b).val k))

/-- BINT (R119): clamped to ±|c|. -/
def execBint (l : Lane) (j : Fin 256) (w : DWord) (s : State) : Host.Outcome State Fault Refusal :=
  s.issue l j.val w 0x49 0 fun i s x => bintOf i s x (fun k => -|(x.blk i.c).val k|) (fun k => |(x.blk i.c).val k|)

/-- BINT.LU (R119): clamped to V[c] and V[c + 1]. -/
def execBintLu (l : Lane) (j : Fin 256) (w : DWord) (s : State) : Host.Outcome State Fault Refusal :=
  s.issue l j.val w 0x49 1 fun i s x => bintOf i s x (x.blk i.c).val (x.blk (i.c + 1)).val

/-- BFLT.A (R120): an address register as an integer. -/
def execBfltA (l : Lane) (j : Fin 256) (w : DWord) (s : State) : Host.Outcome State Fault Refusal :=
  s.issue l j.val w 0x51 2 fun i s x => 
    setBlk i s x [Ex.ofVal ((x.ar i.a).toInt * 2 ^ (160 - i.ims 20 8).toNat)]

/-- BCONST (R120). -/
def execBconst (l : Lane) (j : Fin 256) (w : DWord) (s : State) : Host.Outcome State Fault Refusal :=
  s.issue l j.val w 0x52 0 fun i s x => 
    setBlk i s x [Ex.ofVal (i.ims 0 24 * 2 ^ (i.ims 24 8 + 137).toNat)]

end Sys2Proof.Machine
end

