-- ==== Sys2Proof/Machine/DollithMemory.lean ====
section
/-! DEFINITION. Dollith: loads, stores, conversion through memory, sample entries, output records and table lookup (R104, R117 to
R124). -/

namespace Sys2Proof.Machine

open Sys2Proof

/-- The effective address of [Ax+offset] (R104). -/
def Ins.ea (i : Ins) (x : Job) : Nat := ((((x.ar i.a).toNat : Int) + i.ims 0 20) % 2 ^ 32).toNat

/-- The ring buffer of the job's vector no longer holds it (R83). -/
def State.vecGone (s : State) (l : Lane) (x : Job) : Bool :=
  match (s.le l).ring.lookup (x.vec % 4) with
  | some k => k != x.vec
  | none => false

/-- The byte at an offset is one that a store of the job in flight has written: a load returns that store, not the memory (R91). -/
def Job.covers (x : Job) (ofs : Nat) : Bool :=
  x.fly.any fun f => match f with
    | .store a bs => decide (a ≤ ofs ∧ ofs < a + bs.length)
    | .mirror _ => false

/-- A load of n bytes meets an uncorrectable error: some byte of a bad granule comes from the memory (R74, R91). -/
def State.lmBad (s : State) (l : Lane) (x : Job) (ofs n : Nat) : Bool :=
  (s.le l).bad.any fun g => (List.range 8).any fun k => decide (ofs ≤ g * 8 + k ∧ g * 8 + k < ofs + n) && !x.covers (g * 8 + k)

/-- The exception that an access of n bytes meets first (R105): LM_BOUNDS, LM_ALIGN, VEC_GONE, LM_ECC. -/
def State.lmCheck (s : State) (l : Lane) (x : Job) (write : Bool) (ofs n align : Nat) : Option Nat :=
  if 0x100000 < ofs + n then some 1
  else if write && decide (0xf6000 < ofs + n) then some 1
  else if ofs % align ≠ 0 then some 2
  else if !write && decide (0xfc000 < ofs + n) && s.vecGone l x then some 5
  else if !write && s.lmBad l x ofs n then some 4
  else none

/-- An access split at the 32-byte blocks (R105, R109). -/
def pieces : Nat → Nat → Nat → List (Nat × Nat)
  | 0, _, _ => []
  | f + 1, ofs, n =>
    let k := 32 - ofs % 32
    if n = 0 then [] else if n ≤ k then [(ofs, n)] else (ofs, k) :: pieces f (ofs + k) (n - k)

/-- The first exception that the pieces of an access meet; only the first piece can be misaligned. Each 32-byte block's part is an
access of its own, so an element that is misaligned and crosses 0xF_FFFF meets LM_ALIGN first (model's choice, assumption 124). -/
def State.lmCheckAll (s : State) (l : Lane) (x : Job) (write : Bool) (ofs n align : Nat) : Option Nat :=
  (pieces 4 ofs n).findSome? (fun p => s.lmCheck l x write p.1 p.2 (if p.1 = ofs then align else 1))

/-- A byte as the job sees it: its own latest store, else what the memory holds (R91). -/
def State.jobByte (s : State) (l : Lane) (x : Job) (ofs : Nat) : Byte :=
  x.fly.foldl (fun b f => match f with
    | .store a bs => if a ≤ ofs then bs.getD (ofs - a) b else b
    | .mirror _ => b) (s.rd8 (laneNo l) (lmA ofs))

/-- n bytes as the job sees them, as a number. -/
def State.jobRead (s : State) (l : Lane) (x : Job) (ofs n : Nat) : Nat :=
  leNat ((List.range n).map fun k => s.jobByte l x (ofs + k))

/-- A block's 32 bytes (R72). -/
def Blk.bytes (b : Blk) : List Byte :=
  (List.range 8).flatMap (fun k => natLe 3 (unsigned 24 (if k < b.n then b.m.getD k 0 else 0))) ++
  natLe 1 (unsigned 8 b.e) ++ natLe 1 (b.n % 8) ++ natLe 6 0

/-- The exact element values of a block in memory (R72). -/
def blkVals (bytes : Nat) : List Ex :=
  let e := signed 8 (bytes / 2 ^ 192 % 2 ^ 8)
  each (count8 (bytes / 2 ^ 200)) fun k => signed 24 (bytes / 2 ^ (24 * k) % 2 ^ 24) * 2 ^ (e + 137).toNat

/-- v × 2^q rounded to a signed integer of w bits, and whether it saturated; v in units of 2^-160 (R120, R124). -/
def fixOf (v q : Int) (w : Nat) : Int × Bool :=
  let r := roundDiv (v * 2 ^ (q + 128).toNat) (2 ^ 288)
  let c := clampI (-(2 ^ (w - 1))) (2 ^ (w - 1) - 1) r
  (c, r != c)

/-- The stores of consecutive bytes, one for each 32-byte block (R109). -/
def flyStores (ofs : Nat) (bs : List Byte) : List Fly :=
  (pieces 4 ofs bs.length).map fun p => .store p.1 ((bs.drop (p.1 - ofs)).take p.2)

/-- BFIX: cb integers of w bits (R120). -/
def bfixOf (l : Lane) (i : Ins) (w : Nat) (s : State) (x : Job) : Res :=
  let b := x.blk i.b
  let rs := (List.range b.n).map fun k => fixOf (b.val k) (i.ims 20 8) w
  let bs := rs.flatMap fun r => natLe (w / 8) (unsigned w r.1)
  match s.lmCheckAll l x true (i.ea x) bs.length (w / 8) with
  | some c => .exc c
  | none => .ok s { x with fly := x.fly ++ flyStores (i.ea x) bs, ovf := x.ovf || rs.any (·.2) }

/-- BFLT: n integers of w bits (R120). -/
def bfltOf (l : Lane) (i : Ins) (w : Nat) (s : State) (x : Job) : Res :=
  let n := count8 (i.im 28 3)
  match s.lmCheckAll l x false (i.ea x) (n * (w / 8)) (w / 8) with
  | some c => .exc c
  | none => setBlk i s x (each n fun k =>
      signed w (s.jobRead l x (i.ea x + k * (w / 8)) (w / 8)) * 2 ^ (160 - i.ims 20 8).toNat)

/-- LDB (R121). -/
def execLdb (l : Lane) (j : Fin 256) (w : DWord) (s : State) : Host.Outcome State Fault Refusal :=
  s.issue l j.val w 0x10 0 fun i s x => 
    match s.lmCheck l x false (i.ea x) 32 32 with
    | some c => .exc c
    | none => setBlk i s x (blkVals (s.jobRead l x (i.ea x) 32))

/-- STB (R121). -/
def execStb (l : Lane) (j : Fin 256) (w : DWord) (s : State) : Host.Outcome State Fault Refusal :=
  s.issue l j.val w 0x11 0 fun i s x => 
    match s.lmCheck l x true (i.ea x) 32 32 with
    | some c => .exc c
    | none => .ok s { x with fly := x.fly ++ [.store (i.ea x) (x.blk i.b).bytes] }

/-- LDA (R121). -/
def execLda (l : Lane) (j : Fin 256) (w : DWord) (s : State) : Host.Outcome State Fault Refusal :=
  s.issue l j.val w 0x12 0 fun i s x => 
    match s.lmCheck l x false (i.ea x) 4 4 with
    | some c => .exc c
    | none => .ok s (x.putA i.d (BitVec.ofNat 32 (s.jobRead l x (i.ea x) 4)))

/-- STA (R121). -/
def execSta (l : Lane) (j : Fin 256) (w : DWord) (s : State) : Host.Outcome State Fault Refusal :=
  s.issue l j.val w 0x13 0 fun i s x => 
    match s.lmCheck l x true (i.ea x) 4 4 with
    | some c => .exc c
    | none => .ok s { x with fly := x.fly ++ [.store (i.ea x) (natLe 4 (x.ar i.b).toNat)] }

/-- BFIX.W (R120). -/
def execBfixW (l : Lane) (j : Fin 256) (w : DWord) (s : State) : Host.Outcome State Fault Refusal :=
  s.issue l j.val w 0x50 0 fun i s x => bfixOf l i 32 s x

/-- BFIX.D (R120). -/
def execBfixD (l : Lane) (j : Fin 256) (w : DWord) (s : State) : Host.Outcome State Fault Refusal :=
  s.issue l j.val w 0x50 1 fun i s x => bfixOf l i 64 s x

/-- BFLT.W (R120). -/
def execBfltW (l : Lane) (j : Fin 256) (w : DWord) (s : State) : Host.Outcome State Fault Refusal :=
  s.issue l j.val w 0x51 0 fun i s x => bfltOf l i 32 s x

/-- BFLT.D (R120). -/
def execBfltD (l : Lane) (j : Fin 256) (w : DWord) (s : State) : Host.Outcome State Fault Refusal :=
  s.issue l j.val w 0x51 1 fun i s x => bfltOf l i 64 s x

/-- A sample entry's value in units of 2^-160; 0 where it is not valid (R122, R123). -/
def sampleVal160 (e : Nat) : Int :=
  if e / 2 ^ 40 % 4 = 3 then 0 else signed 32 (e % 2 ^ 32) * 2 ^ (160 - signed 8 (e / 2 ^ 32 % 2 ^ 8)).toNat

/-- IN (R123). -/
def execIn (l : Lane) (j : Fin 256) (w : DWord) (s : State) : Host.Outcome State Fault Refusal :=
  s.issue l j.val w 0x18 0 fun i s x => 
    let n := count8 (i.im 28 3)
    match s.lmCheckAll l x false (i.ea x) (8 * n) 8 with
    | some c => .exc c
    | none =>
      let es := (List.range n).map fun k => s.jobRead l x (i.ea x + 8 * k) 8
      let provs := (List.range n).foldl (fun acc k => acc + (es.getD k 0) / 2 ^ 40 % 4 * 4 ^ k) 0
      setBlk i s (x.putA i.c (BitVec.ofNat 32 provs)) (es.map fun e => Ex.ofVal (sampleVal160 e))

/-- How many records of a KIND there are (R89); none where it is reserved. -/
def kindRange : Nat → Nat
  | 1 => 6
  | 2 => 2
  | 3 => 16
  | 4 => 1
  | 5 => 64
  | _ => 0

/-- OUT (R89, R90, R124): one record, or a stall until the bus takes it. -/
def execOut (l : Lane) (j : Fin 256) (w : DWord) (s : State) : Host.Outcome State Fault Refusal :=
  s.issue l j.val w 0x19 0 fun i s x =>
    if kindRange (i.im 0 4) ≤ i.im 8 8 then .exc 7
    else
      let fs := (List.range 4).map fun k => fixOf ((x.blk i.a).val k) (i.ims 16 8) 32
      let r : OutRec := {
        kind := i.im 0 4, index := i.im 8 8, tag := x.tag
        word1 := min (x.clocks s) 65535 + j.val * 2 ^ 16
        pay := fs.map (fun f => BitVec.ofInt 32 f.1) ++ [x.ar i.b, x.ar i.c] }
      let x := { x with ovf := x.ovf || fs.any (·.2) }
      if s.busRoom l r then .ok (s.busPut l r) { x with fly := x.fly ++ [.mirror r] }
      else .ok s { x with st := .stallOut, out := some r }

/-- A table header's words (R75). -/
structure Header where
  n : Nat
  kind : Nat
  texp : Int
  w1 : Nat
  step : Nat
  deriving DecidableEq, Repr

/-- The header of 32 bytes, if it lies in the ranges of R75. -/
def headerOf (b : Nat) : Option Header :=
  let w := fun k => b / 2 ^ (32 * k) % 2 ^ 32
  let n := w 0 % 2 ^ 13
  let kind := w 0 / 2 ^ 16 % 2
  let arg := if kind = 0 then w 1 else w 2
  if w 0 / 2 ^ 13 % 8 = 0 ∧ w 0 / 2 ^ 17 % 2 ^ 7 = 0 ∧ (if kind = 0 then 16 else 2) ≤ n ∧ n ≤ 4096 ∧ 1 ≤ arg ∧ arg ≤ 2 ^ 31 ∧
      (kind = 1 ∨ w 2 = 0) ∧ b / 2 ^ 96 = 0 then
    some { n := n, kind := kind, texp := signed 8 (w 0 / 2 ^ 24), w1 := w 1, step := w 2 }
  else none

/-- The indices i and j of a position, and f as a fraction (R75). -/
def Header.place (h : Header) (p : Int) : Nat × Nat × Nat × Nat :=
  if h.kind = 0 then
    let u := (p % h.w1).toNat * h.n
    (u / h.w1, (u / h.w1 + 1) % h.n, u % h.w1, h.w1)
  else
    let d := p - signed 32 h.w1
    let top := ((h.n - 1) * h.step : Nat)
    let u := (clampI 0 top d).toNat
    (u / h.step, min (u / h.step + 1) (h.n - 1), u % h.step, h.step)

/-- The lookup itself, once the header and the position are read (R75, R117). -/
def tluAt (l : Lane) (i : Ins) (s : State) (x : Job) (ha : Nat) (h : Header) (p : Int) : Res :=
  let (a, b, fn, fd) := h.place p
  match (s.lmCheck l x false (ha + 32 + 4 * a) 4 4).orElse (fun _ => s.lmCheck l x false (ha + 32 + 4 * b) 4 4) with
  | some c => .exc c
  | none =>
    let t := fun k => signed 24 (s.jobRead l x (ha + 32 + 4 * k) 4 % 2 ^ 24) * 2 ^ (h.texp + 137).toNat
    setBlk i s x [.frac (t a * fd + fn * (t b - t a)) (fd * 2 ^ 160)]

/-- TLU's steps 1 to 3: header, check, position (R117). -/
def tluOf (l : Lane) (i : Ins) (s : State) (x : Job) (pos : Res ⊕ Int) : Res :=
  let ha := ((((x.ar i.a).toNat : Int) + i.ims 0 16) % 2 ^ 32).toNat
  match s.lmCheck l x false ha 32 32 with
  | some c => .exc c
  | none =>
    match headerOf (s.jobRead l x ha 32) with
    | none => .exc 8
    | some h =>
      match pos with
      | .inl r => r
      | .inr p => tluAt l i s x ha h p

/-- TLU (R117): the position is read from memory. -/
def execTlu (l : Lane) (j : Fin 256) (w : DWord) (s : State) : Host.Outcome State Fault Refusal :=
  s.issue l j.val w 0x48 0 fun i s x => 
    let pa := ((((x.ar i.b).toNat : Int) + i.ims 16 16) % 2 ^ 32).toNat
    tluOf l i s x (match s.lmCheck l x false pa 8 8 with
      | some c => .inl (.exc c)
      | none => .inr (signed 64 (s.jobRead l x pa 8)))

/-- TLU.A (R117): the position is an address register. -/
def execTluA (l : Lane) (j : Fin 256) (w : DWord) (s : State) : Host.Outcome State Fault Refusal :=
  s.issue l j.val w 0x48 1 fun i s x => tluOf l i s x (.inr (x.ar i.b).toInt)

end Sys2Proof.Machine
end

