-- ==== Sys2Proof/Machine/Ic.lean ====
section
/-! DEFINITION. The interrupt controllers (chapter 17). -/

namespace Sys2Proof.Machine

open Sys2Proof

/-- Shared source i is a level source; `some false` an edge source; none where the table of R481 does not list i for the lane. -/
def icType (l : Lane) (i : Nat) : Option Bool :=
  let drive := l != .W
  if i < 5 then some true
  else if i < 7 then if drive then some true else none
  else if i < 10 then some true
  else if i < 13 then if drive then some true else none
  else if 16 ≤ i ∧ i < 28 then if drive then some true else none
  else if 28 ≤ i ∧ i < 34 then some true
  else if 34 ≤ i ∧ i < 40 then if drive then none else some true
  else if 40 ≤ i ∧ i < 44 then some false
  else if 48 ≤ i ∧ i < 64 then some false
  else none

/-- The core whose view shows shared source i; 3: none (R480). -/
def State.icRoute (s : State) (l : Lane) (i : Nat) : Nat := (s.reg (icsB l + 0x8000 + 4 * i)).toNat % 4

/-- The number under which a source of core c's view is held. -/
def icKey (c src : Nat) : Nat := if src < 64 then 64 * c + src else 192 + (src - 64)

/-- Source src is live in core c's view (R480). -/
def State.icLive (s : State) (l : Lane) (c src : Nat) : Bool := src < 64 || s.icRoute l (src - 64) == c

/-- COUNT of a source. -/
def State.icCount (s : State) (l : Lane) (c src : Nat) : Nat := famGet (fun _ => 0) (s.ic l).count (icKey c src)

/-- LEVEL of a source. -/
def State.icLevel (s : State) (l : Lane) (src : Nat) : Bool := 64 ≤ src && (s.ic l).levels.contains (src - 64)

/-- A level source, in TYPE. -/
def icIsLevel (l : Lane) (src : Nat) : Bool := 64 ≤ src && icType l (src - 64) == some true

/-- The pending bit of a source in core c's view (R483). -/
def State.icPend (s : State) (l : Lane) (c src : Nat) : Bool :=
  s.icLive l c src && if icIsLevel l src then s.icLevel l src else s.icCount l c src != 0

/-- The mask bit of a source. -/
def State.icMask (s : State) (l : Lane) (c src : Nat) : Bool := (s.reg (icB l c + 0x80 + 4 * (src / 32))).getLsbD (src % 32)

/-- PRIO of a source in core c's view. -/
def State.icPrio (s : State) (l : Lane) (c src : Nat) : Nat := (s.reg (icB l c + 0x400 + 4 * src)).toNat / 2 ^ 16 % 16

/-- Word w of ICc.PEND (R483). -/
def State.icPendWord (s : State) (l : Lane) (c w : Nat) : Nat :=
  ((List.range 32).map fun b => if s.icPend l c (32 * w + b) then 2 ^ b else 0).sum

/-- ICc.SUMMARY (R484). -/
def State.icSummary (s : State) (l : Lane) (c : Nat) : Nat :=
  ((List.range 14).map fun w =>
    if (List.range 32).any fun b => s.icLive l c (32 * w + b) && (s.icPend l c (32 * w + b) || s.icCount l c (32 * w + b) != 0)
    then 2 ^ w else 0).sum

/-- ICc.SRCs as a read returns it. -/
def State.icSrcWord (s : State) (l : Lane) (c src : Nat) : Nat :=
  if s.icLive l c src then
    s.icCount l c src + (if icIsLevel l src && s.icLevel l src then 2 ^ 8 else 0) + (if icIsLevel l src then 2 ^ 9 else 0) +
      s.icPrio l c src * 2 ^ 16
  else 0

/-- An arrival at a source of core c's view (R482). -/
def State.icArrive (s : State) (l : Lane) (c src : Nat) : State :=
  let x := s.ic l
  let k := icKey c src
  let n := famGet (fun _ => 0) x.count k
  if n < 255 then s.setIc l { x with count := famSet (fun _ => 0) x.count k (n + 1) }
  else if x.lost.contains k then s
  else (s.setIc l { x with lost := k :: x.lost }).raiseL l 0x141 c src

/-- Some bit of an EVT register is set. -/
def State.evtAny (s : State) (k : Nat) : Bool := s.reg k != 0

/-- The condition of level source i holds in lane l (R481). -/
def State.icCond (s : State) (l : Lane) (i : Nat) : Bool :=
  let drive := fun (f : DLane → Bool) => match asDrive l with
    | some d => f d
    | none => false
  if i = 0 then (s.le l).cq != []
  else if i = 1 then
    let c := s.coll (.lane l)
    (c.pend.any fun p => p.2.cls != 0) || (s.fb (fcB l) FC.CTRL_IRQC0 && c.queue.any fun it => it.cls == 0)
  else if i = 2 then s.evtAny (dmaB l + DMA.EVT_DONE.ofs)
  else if i < 7 then s.evtAny (canB l (i - 3) + CAN.EVT_BUS_OFF.ofs)
  else if i < 9 then s.evtAny (scnB l (i - 7) + SCN.EVT_GUARD.ofs)
  else if i = 9 then s.evtAny (calB l + CAL.EVT_CANCEL.ofs)
  else if i = 10 then
    drive fun d => s.evtAny (pcB d + PC.EVT_VGD_UVLO.ofs) || (List.range 24).any fun c => s.evtAny (pcB d + 32 * c + PC.CELL_EVT_ATLIM.ofs)
  else if i < 13 then drive fun d => s.evtAny (ppB d (i - 11) + PP.EVT_MISS.ofs)
  else if i < 22 then drive fun d => s.evtAny (axB d (i - 16) + AX.EVT_OCP.ofs)
  else if i < 28 then drive fun d => s.evtAny (pgB d (i - 22) + PG.EVT_CMD_REFUSED.ofs)
  else
    -- lane W's units are taps, which read 0 while their source lane is off (R192, R193)
    let src : Lane × Nat := if l != .W then (l, i - 28) else if i < 34 then (.A, i - 28) else (.B, i - 34)
    s.running src.1 && s.evtAny (fbB src.1 src.2 + FB.EVT_QUAD_ILL.ofs)

/-- IC_ARRIVAL (R481, R482): a shared source whose edge has come, or a change of a level source's synchronised level to what its condition
now is. -/
def execIcArrival (l : Lane) (i : Fin 384) (e : IcEdge) (s : State) : Host.Outcome State Fault Refusal :=
  let x := s.ic l
  if !s.running l then .next s
  else
    match icType l i.val, e with
    | some false, .edge =>
      if x.due.contains i.val then
        .next ((s.setIc l { x with due := x.due.erase i.val }).icArrive l (s.icRoute l i.val) (64 + i.val))
      else .next s
    | some true, .onset =>
      if x.levels.contains i.val || !s.icCond l i.val then .next s
      else .next ((s.setIc l { x with levels := i.val :: x.levels }).icArrive l (s.icRoute l i.val) (64 + i.val))
    | some true, .deassert =>
      if s.icCond l i.val then .next s else .next (s.setIc l { x with levels := x.levels.erase i.val })
    | _, _ => .next s

/-- IC_SWSET (R482): an arrival for each bit written. -/
def execIcSwset (l : Lane) (core : Fin 3) (hi : Bool) (v : Word) (s : State) : Host.Outcome State Fault Refusal :=
  if !s.running l then .next s
  else .next ((List.range 32).foldl (fun s b => if v.getLsbD b then s.icArrive l core.val ((if hi then 32 else 0) + b) else s) s)

/-- The candidates of core c (R486). -/
def State.icCands (s : State) (l : Lane) (c : Nat) : List Nat :=
  (List.range 448).filter fun src =>
    s.icLive l c src && !s.icMask l c src && (s.icPend l c src || s.icCount l c src != 0)

/-- The running level of core c plus 1; 0 where no level is in service. -/
def State.icRunning (s : State) (l : Lane) (c : Nat) : Nat :=
  let v := s.fg (icB l c) IC.STACK_INSERV
  if v = 0 then 0 else v.log2 + 1

/-- IC_PRESENT (R487): a presentation edge. -/
def execIcPresent (l : Lane) (core : Fin 3) (s : State) : Host.Outcome State Fault Refusal :=
  let c := core.val
  let x := s.ic l
  let cands := s.icCands l c
  let top := cands.foldl (fun m src => max m (s.icPrio l c src)) 0
  let inForce : Nat := match x.pres.lookup c with
    | some p => p.p + 1
    | none => 0
  if !s.running l || cands.isEmpty || decide (top + 1 ≤ s.icRunning l c) || decide (top + 1 ≤ inForce) then .next s
  else .next (s.setIc l { x with pres := famIns x.pres c { p := top, cand := cands.filter fun src => s.icPrio l c src == top } })

/-- Core c is paused for a slice (R493, R495). -/
def State.corePaused (s : State) (l : Lane) (c : Nat) : Bool := s.bistIn l (18 + 3 * c) || s.bistIn l (19 + 3 * c) || s.bistIn l (20 + 3 * c)

/-- IC_TRAP_ENTRY (R488): the core takes the presentation in force, and is then in M mode (R450). A paused core takes no trap (R495). -/
def execIcTrapEntry (l : Lane) (core : Fin 3) (s : State) : Host.Outcome State Fault Refusal :=
  let c := core.val
  let b := icB l c
  let x := s.ic l
  match if s.corePaused l c then none else x.pres.lookup c with
  | none => .next s
  | some p =>
    let s := s.fs b IC.STACK_INSERV (s.fg b IC.STACK_INSERV ||| 2 ^ p.p)
    let s := if p.late then s.fs b IC.STACK_LATEMASK (s.fg b IC.STACK_LATEMASK ||| 2 ^ p.p) else s
    let s := s.setLane l { s.lane l with user := (s.lane l).user.filter (· != c) }
    .next (s.setIc l { x with pres := famDel x.pres c })

/-- A bit of a number cleared. -/
def clearBit (v i : Nat) : Nat := v - v / 2 ^ i % 2 * 2 ^ i

/-- IC_EOI (R489): the running level ends, or 0x140 is raised. -/
def execIcEoi (l : Lane) (core : Fin 3) (v : Word) (s : State) : Host.Outcome State Fault Refusal :=
  let b := icB l core.val
  let p := v.toNat % 16
  if !s.running l then .next s
  else if s.icRunning l core.val = p + 1 then
    .next ((s.fs b IC.STACK_INSERV (clearBit (s.fg b IC.STACK_INSERV) p)).fs b IC.STACK_LATEMASK (clearBit (s.fg b IC.STACK_LATEMASK) p))
  else .next (s.raiseL l 0x140 core.val)

/-- IC_SRC_READ (R483): COUNT is returned and cleared. -/
def execIcSrcRead (l : Lane) (core : Fin 3) (src : Fin 448) (s : State) : Host.Outcome State Fault Refusal :=
  if !s.running l then .next s
  else
    let w := BitVec.ofNat 32 (s.icSrcWord l core.val src.val)
    let s := { s with readData := w }
    if s.icLive l core.val src.val then
      let x := s.ic l
      let k := icKey core.val src.val
      .next (s.setIc l { x with count := famSet (fun _ => 0) x.count k 0, lost := x.lost.erase k })
    else .next s

/-- A write of a mask word (R487, R488): a bit set for a source that the presentation in force counted is late. -/
def State.icMaskWrite (s : State) (l : Lane) (c w : Nat) (v : Word) : State :=
  let x := s.ic l
  let s := s.setReg (icB l c + 0x80 + 4 * w) v
  match x.pres.lookup c with
  | some p =>
    let hit := p.cand.any fun src => src / 32 == w && v.getLsbD (src % 32)
    if hit then s.setIc l { x with pres := famIns x.pres c { p with late := true } } else s
  | none => s

end Sys2Proof.Machine
end

