-- ==== Sys2Proof/Machine/Memory.lean ====
section
/-! DEFINITION. The memory controller, XFENCE, the machine timer, and the commands of DMA and the event recorder (chapter 16). -/

namespace Sys2Proof.Machine

open Sys2Proof

/-! The memory controller -/

/-- DRAM_FILL_DONE (R461). -/
def execDramFillDone (l : Lane) (s : State) : Host.Outcome State Fault Refusal :=
  .next (if s.running l then s.fs (memcB l) MEMC.STATUS_INITDONE 1 else s)

/-- SCRUB_READ (R462): the next 64 bytes of DRAM are read; an error they hold is MEMORY_ECC_ERROR's. -/
def execScrubRead (l : Lane) (s : State) : Host.Outcome State Fault Refusal :=
  if s.running l && s.fg (memcB l) MEMC.CTRL_SCRUBINT != 0 then
    let x := s.lane l
    .next (s.setLane l { x with scrub := (x.scrub + 64) % (dramEnd - dramBase) })
  else .next s

/-- MEMC's record of an error in memory m: its counts, and the address that the next read of ERRADDR_L shows, an uncorrectable one
before a corrected one (R478). -/
def State.memcError (s : State) (l : Lane) (m addr : Nat) (unc : Bool) : State :=
  let b := memcB l
  let s := s.fInc b (if unc then MEMC.COUNT_UNCORR else MEMC.COUNT_CORR)
  if !unc && (s.lane l).errH / 2 ^ 11 % 2 == 1 then s
  else
    let h := addr / 2 ^ 32 % 2 ^ 8 + m * 2 ^ 8 + (if unc then 2 ^ 11 else 0)
    (s.fs b MEMC.ERRADDR_L_ADDR addr).setLane l { s.lane l with errH := h }

/-- An error in a memory that MEMC watches: its record, and the source where the error has one. -/
def State.memError (s : State) (l : Lane) (m addr : Nat) (unc : Bool) (corrSrc uncSrc : Nat) : State :=
  let s := s.memcError l m addr unc
  s.raiseL l (if unc then uncSrc else corrSrc) 255 (addr % 2 ^ 32)

/-- An uncorrectable error in a controller's message RAM (R446): in the filter list the frame being received, in the element being
sent its attempt, in a time mark the next window is abandoned. -/
def State.canEcc (s : State) (l : Lane) (k addr : Nat) : State :=
  let x := s.can l k
  let ofs := addr % 0x10000
  if 0x2000 ≤ ofs ∧ ofs < 0x4000 then s.setCan l k { x with dropRx := true }
  else if 0x8800 ≤ ofs ∧ ofs < 0x8880 then s.setCan l k { x with dropWin := true }
  else
    match x.act with
    | some e => if 0x7c00 + 80 * e ≤ ofs ∧ ofs < 0x7c50 + 80 * e then s.canFailed l k true else s
    | none => s

/-- MEMORY_ECC_ERROR (R74, R446, R452, R460, R476, R478). -/
def execMemoryEccError (l : Lane) (m : EccMem) (addr : Nat) (uncorrectable : Bool) (s : State) : Host.Outcome State Fault Refusal :=
  let d := addr % 2 ^ 32
  if !s.running l then .next s
  else
    match m with
    | .localMem =>
      if uncorrectable then
        let x := s.le l
        let g := addr % 0x100000 / 8
        .next ((s.setLe l { x with bad := if x.bad.contains g then x.bad else g :: x.bad }).raiseL l 0x85 255)
      else .next (s.raiseL l 0x84 255)
    | .cache => .next (s.raiseL l 0x101 255 d)
    | .coreSram => .next (s.memError l 0 addr uncorrectable 0x102 0x103)
    | .dram => .next (s.memError l 1 addr uncorrectable 0x104 0x105)
    | .mram => .next (s.memError l 2 addr uncorrectable 0x106 0x107)
    | .retention => .next (if uncorrectable then s.memError l 3 addr true 0x108 0x108 else s.memcError l 3 addr false)
    | .canRam k =>
      if !canHas l k.val then .next s
      else if uncorrectable then .next ((s.canEcc l k.val addr).raise { coll := .lane l, src := 0x1ca, inst := k.val, res := resCan k.val })
      else .next (s.raise { coll := .lane l, src := 0x1c9, inst := k.val, res := resCan k.val })

/-- ERRADDR_L_READ (R478): the word is returned, and ERRADDR_H latched. -/
def execErraddrLRead (l : Lane) (s : State) : Host.Outcome State Fault Refusal :=
  let b := memcB l
  if s.running l then .next ({ s with readData := s.reg (b + 8) }.setReg (b + 0xc) (BitVec.ofNat 32 (s.lane l).errH)) else .next s

/-! Cores -/

/-- The core's mtimecmp (R453). -/
def State.mtimecmp (s : State) (l : Lane) (core : Nat) : Nat := famGet (fun _ => 2 ^ 64 - 1) (s.lane l).timecmp core

/-- The cores' stores of lane l that are oldest become visible, n of them (R465). -/
def State.storesOut (s : State) (l : Lane) : Nat → State
  | 0 => s
  | n + 1 =>
    let x := s.lane l
    match x.stores with
    | [] => s
    | (a, bs) :: q => ((s.setLane l { x with stores := q }).memPut l a bs).storesOut l n

/-- XFENCE (R467): the core waits. -/
def execXfence (l : Lane) (core : Fin 3) (s : State) : Host.Outcome State Fault Refusal :=
  let x := s.lane l
  if s.running l && !x.fence.contains core.val then
    .next (s.setLane l { x with fence := core.val :: x.fence, fenceAt := famIns x.fenceAt core.val s.now })
  else .next s

/-- XFENCE_DONE (R467): every earlier store is visible, and the core goes on. -/
def execXfenceDone (l : Lane) (core : Fin 3) (s : State) : Host.Outcome State Fault Refusal :=
  let x := s.lane l
  if s.running l && x.fence.contains core.val then
    .next ((s.setLane l { x with fence := x.fence.erase core.val, fenceAt := famDel x.fenceAt core.val }).storesOut l x.stores.length)
  else .next s

/-- XFENCE_TIMEOUT (R467): 20 µs have passed since the core began to wait; the core goes on waiting. -/
def execXfenceTimeout (l : Lane) (core : Fin 3) (s : State) : Host.Outcome State Fault Refusal :=
  let x := s.lane l
  match x.fenceAt.lookup core.val with
  | some t =>
    if s.running l && x.fence.contains core.val && decide (t + 20000 ≤ s.now) then
      .next ((s.setLane l { x with fenceAt := famDel x.fenceAt core.val }).raiseL l 0x109 core.val)
    else .next s
  | none => .next s

/-- MACHINE_TIMER (R453): the unit time has reached the core's mtimecmp, and the machine timer interrupt is pending. -/
def execMachineTimer (l : Lane) (core : Fin 3) (s : State) : Host.Outcome State Fault Refusal :=
  let x := s.lane l
  if s.running l && !x.mtip.contains core.val && decide (s.mtimecmp l core.val ≤ s.utime l % 2 ^ 64) then
    .next (s.setLane l { x with mtip := core.val :: x.mtip })
  else .next s

/-! DMA commands -/

/-- The base of channel n's registers. -/
def dmaN (l : Lane) (n : Nat) : Nat := dmaB l + 0x20 * n

/-- DMA_GO (R471): the chain at DESC starts; a busy channel refuses. -/
def execDmaGo (l : Lane) (ch : Fin 16) (s : State) : Host.Outcome State Fault Refusal :=
  let b := dmaN l ch.val
  if !s.running l then .next s
  else if s.fg b DMA.STATUS_STATE = 1 then .next (s.fs b DMA.STATUS_REFUSED 1)
  else
    let a := s.fg b DMA.DESC_L_ADDR + s.fg b DMA.DESC_H_ADDR * 2 ^ 32
    .next ((s.fs b DMA.STATUS_STATE 1).setDma l ch.val { s.dma l ch.val with next := some a, stop := false })

/-- DMA_STOP (R471): the chain ends, at once or when its outstanding writes complete. -/
def execDmaStop (l : Lane) (ch : Fin 16) (s : State) : Host.Outcome State Fault Refusal :=
  let b := dmaN l ch.val
  let x := s.dma l ch.val
  if !s.running l || s.fg b DMA.STATUS_STATE != 1 then .next s
  else if x.fly = [] then .next ((s.fs b DMA.STATUS_STATE 3).setDma l ch.val {})
  else .next (s.setDma l ch.val { x with next := none, stop := true })

/-! Recorder commands -/

/-- The rows of R475 that a channel address must lie in. -/
def erAddrOk (a : Nat) : Bool :=
  a % 4 == 0 && ((0x20000000 ≤ a && a < 0x20200000) || (0x21000000 ≤ a && a < 0x21100000) || (0x40000000 ≤ a && a < 0x60000000))

/-- NCH. -/
def State.erCh (s : State) (l : Lane) : Nat := 8 * 2 ^ s.fg (erB l) ER.CTRL_NCHC

/-- None of the conditions of R475 holds. -/
def State.erCfgOk (s : State) (l : Lane) : Bool :=
  let b := erB l
  decide (s.fg b ER.CTRL_NCHC ≤ 4) && decide (s.fg b ER.CTRL_FRZCLASS ≤ 5) && decide (s.fg b ER.CTRL_CAPDLY * 10 < s.sk.t * 1000) &&
  decide (s.fg b ER.POST_POST < erWindow / (4 * s.erCh l)) &&
  (List.range (s.erCh l)).all fun c => c == 0 || erAddrOk (s.reg (b + 0x100 + 4 * c)).toNat

/-- WPTR. -/
def State.erPtr (s : State) (l : Lane) : Nat := s.fg (erB l) ER.WPTR_L_ADDR + s.fg (erB l) ER.WPTR_H_ADDR * 2 ^ 32
def State.setErPtr (s : State) (l : Lane) (a : Nat) : State := (s.fs (erB l) ER.WPTR_L_ADDR a).fs (erB l) ER.WPTR_H_ADDR (a / 2 ^ 32)

/-- ER_EN_WRITE (R474, R475): ER.CTRL is written; recording starts, or EN stays 0 with 0x11A. EN = 0 drops a pending freeze. -/
def execErEnWrite (l : Lane) (v : Word) (s : State) : Host.Outcome State Fault Refusal :=
  let b := erB l
  if !s.running l || (s.lane l).locked then .next s
  else
    let s := s.rowPut l false 0x40e00000 v
    if !v.getLsbD 0 then .next (s.fs b ER.STATUS_PENDING 0)
    else if !s.erCfgOk l then .next (((s.fs b ER.CTRL_EN 0).fs b ER.STATUS_PENDING 0).raiseL l 0x11a 255)
    else .next (if s.erPtr l < ringBase then s.setErPtr l ringBase else s)

/-- ER_FREEZE_CMD (R474). The source that FRZn_SRC shows for it is open. -/
def execErFreezeCmd (l : Lane) (s : State) : Host.Outcome State Fault Refusal :=
  if !s.running l then .next s
  else
    let (x, s) := s.takeNat
    .next (s.erTrigger l (x % 2 ^ 9) (x / 2 ^ 9 % 4) true)

/-- Window n returns to the ring. -/
def State.erFree (s : State) (l : Lane) (n : Nat) : State :=
  let b := erB l
  let k := b + 0x40 + 16 * n
  let f := s.fg b ER.STATUS_FROZEN
  ((((s.fs b ER.STATUS_FROZEN (f - f / 2 ^ n % 2 * 2 ^ n)).setReg k 0).setReg (k + 4) 0).setReg (k + 8) 0).setReg (k + 12) 0

/-- ER_RELEASE_CMD (R474): the windows whose bits are written are released. -/
def execErReleaseCmd (l : Lane) (v : Word) (s : State) : Host.Outcome State Fault Refusal :=
  if !s.running l then .next s
  else .next ((List.range 8).foldl (fun s n => if v.getLsbD (8 + n) then s.erFree l n else s) s)

end Sys2Proof.Machine
end

