-- ==== Sys2Proof/Machine/Views.lean ====
section
/-! DEFINITION. The registers that show what a block holds in another form: what a read of each returns. -/

namespace Sys2Proof.Machine

open Sys2Proof

/-- The number whose bit b, for b below n, is f b. -/
def packBits (n : Nat) (f : Nat → Bool) : Nat := ((List.range n).map fun b => if f b then 2 ^ b else 0).sum

/-- A bit of a register. -/
def bitAt (b : Bool) (i : Nat) : Nat := if b then 2 ^ i else 0

/-- A word with a field replaced. -/
def Fld.put (f : Fld) (v : Word) (n : Nat) : Word := setBits v f.lo f.w n

/-! The loop engine (chapter 03) -/

/-- LE.STATUS, the pending latches, the head of the completion queue and the busy slots. -/
def State.viewLe (s : State) (l : Lane) (o : Nat) : Option Nat :=
  let x := s.le l
  if o = 4 then
    let busy := ((List.range 256).filter fun j => (s.job l j).st != .free).length
    let pipes := if (List.range 8).any fun n => s.bistIn l n then 7 else 8
    some (busy + pipes * 2 ^ 9 + bitAt (x.cq != []) 13 + bitAt (64 ≤ x.cq.length) 14)
  else if o = 8 ∨ o = 12 then some (packBits 32 fun b => x.pend.any fun p => p.1 == b + 32 * (o / 4 - 2))
  else if o = 0x20 then some (s.cqLo l).toNat
  else if o = 0x24 then some (s.cqHi l).toNat
  else if 0x40 ≤ o ∧ o < 0x60 then some (packBits 32 fun b => (s.job l (b + 32 * ((o - 0x40) / 4))).st != .free)
  else none

/-! Axes and ports, calibration (chapters 05, 08) -/

/-- AXn.STATUS: HELD and SHARE as Skink holds them; SHARE is 0 until shares have been published (R129, R159). -/
def State.viewAx (s : State) (d : DLane) (n : Nat) (o : Nat) : Option Nat :=
  if o = 0x40 then
    let v := s.reg (axB d n + 0x40)
    let q := if s.sk.shared then s.ownShare d n else 0
    some (AX.STATUS_SHARE.put (AX.STATUS_HELD.put v (if s.drvHeld then 1 else 0)) q).toNat
  else none

/-- PC.SUPSTAT.VGDUV, and the gates that are on of PC.CELLc_STATUS (R271, R290). -/
def State.viewPc (s : State) (d : DLane) (o : Nat) : Option Nat :=
  let v := s.reg (pcB d + o)
  if o = 4 then some (PC.SUPSTAT_VGDUV.put v (if (s.lane d.lane).vgdUp then 0 else 1)).toNat
  else if 0x100 ≤ o ∧ o < 0x400 ∧ o % 32 = 8 then
    let c := (o - 0x100) / 32
    let on := fun hs => if s.gateOn d c hs then 1 else 0
    some (PC.CELL_STATUS_LSON.put (PC.CELL_STATUS_HSON.put v (on true)) (on false)).toNat
  else none

/-- CAL.AXn_MAP.PHASE as it stands now; in lane W the axis and port registers read 0 (R245). -/
def State.viewCal (s : State) (l : Lane) (o : Nat) : Option Nat :=
  match asDrive l with
  | none => if 0x40 ≤ o ∧ o < 0x200 then some 0 else none
  | some d =>
    if 0x40 ≤ o ∧ o < 0xa0 ∧ o % 16 = 0 then
      some (CAL.MAP_PHASE.put (s.reg (calB l + o)) (s.calPhase d ((o - 0x40) / 16))).toNat
    else none

/-! Skink (chapter 12, R352) -/

/-- A regulator that drives cells. -/
def State.holdDrives (s : State) : Bool := s.sf.regs.any fun p => p.2.engaged && !p.2.off

/-- Contact b % 2 of safe input b / 2, as accepted. -/
def State.siRaw (s : State) (b : Nat) : Bool := if b % 2 = 0 then (s.si (b / 2)).a else (s.si (b / 2)).b

/-- The SK registers. -/
def State.viewSk (s : State) (o : Nat) : Option Nat :=
  let k := s.sk
  if o = 0 then
    some (k.st.code + bitAt k.locked 4 + bitAt (k.cfg != []) 5 + bitAt k.still 6 + bitAt s.holdDrives 7 + bitAt s.sf.rampDone 8 +
      bitAt s.cmdAlive 9)
  else if o = 4 then some k.cycle
  else if o = 8 then some (k.capTq + k.capSpd * 2 ^ 8)
  else if o = 0xc then some (s.shareOf 0 + s.shareOf 1 * 2 ^ 8 + s.shareOf 2 * 2 ^ 16 + s.shareOf 3 * 2 ^ 24)
  else if o = 0x10 then some (s.shareOf 4 + s.shareOf 5 * 2 ^ 8)
  else if o = 0x14 then some (packBits 16 (fun i => (s.si i).state) + packBits 16 (fun i => (s.si i).latch) * 2 ^ 16)
  else if o = 0x18 then some (packBits 32 s.siRaw)
  else if o = 0x1c then some (packBits 16 s.soLevel + packBits 16 (fun i => (s.so i).failed) * 2 ^ 16)
  else if o = 0x20 then some (packBits 16 fun i => (s.so i).rb)
  else if o = 0x24 then some (packBits 16 (fun j => (s.sde j).alive) + bitAt s.sdSingleMode 16)
  else if o = 0x28 then
    let e := fun h => unsigned 8 (clampI (-128) 127 (s.holdReg h).e)
    some (e 0 + e 1 * 2 ^ 8 + bitAt ((s.holdReg 0).lane == .B) 16 + bitAt ((s.holdReg 1).lane == .B) 17)
  else if o = 0x48 then some (k.cfgResult + min 127 k.words.length * 4)
  else if 0x80 ≤ o ∧ o < 0xa0 then some (k.cfgDig.getD ((o - 0x80) / 4) 0).toNat
  else if 0x400 ≤ o ∧ o < 0x600 then some (k.cfg.getD ((o - 0x400) / 4) 0).toNat
  else none

/-- CMPS.STATUS (R327). -/
def State.viewCmps (s : State) (o : Nat) : Option Nat :=
  if o = 0 then
    let mode := if s.comparing then 1 else if s.sk.st = .cmpDegraded then 2 else 0
    some ((s.reg cmpB).toNat / 2 ^ 8 * 2 ^ 8 + mode + bitAt s.cmp.frozen 2 + bitAt s.inTransfer 3 + bitAt (s.lane .A).broken 4 +
      bitAt (s.lane .B).broken 5 + bitAt (s.lane .W).broken 6)
  else none

/-! The collectors (chapter 13, R376, R377) -/

/-- The sources of a collector that are pending at a class, at most 255. -/
def Collector.atClass (c : Collector) (k : Nat) : Nat := min 255 (c.pend.filter fun p => p.2.cls == k).length

/-- A word of pending bits. -/
def Collector.pendWord (c : Collector) (i : Nat) : Nat := packBits 32 fun b => (c.src (32 * i + b)).cls != 0

/-- The FC registers. -/
def State.viewFc (s : State) (l : Lane) (o : Nat) : Option Nat :=
  let c := s.coll (.lane l)
  if o = 4 then
    some ((FC.STATUS_QUEUE.put (s.reg (fcB l + 4)) c.queue.length).toNat)
  else if o = 0x18 then
    let i := s.fg (fcB l) FC.SRCSEL_SRC
    let p := c.src i
    match defaultClass (.lane l) i with
    | none => some 0
    | some _ =>
      some (s.classNow (.lane l) i + bitAt (p.cls != 0) 3 + bitAt (fixedClass (.lane l) i) 4 + p.inst % 2 ^ 8 * 2 ^ 8 + p.reps * 2 ^ 16)
  else if o = 0x1c then some (c.atClass 1 + c.atClass 2 * 2 ^ 8 + c.atClass 3 * 2 ^ 16 + c.atClass 4 * 2 ^ 24)
  else if 0x40 ≤ o ∧ o < 0x80 then some (c.pendWord ((o - 0x40) / 4))
  else none

/-- The SKFC registers, as lane l reads them. Slot i shows the i-th open entry in order of entry (assumption 22). -/
def State.viewSkfc (s : State) (l : Lane) (o : Nat) : Option Nat :=
  let t := s.tab
  if o < 0x10 then some ((s.coll .skink).pendWord (o / 4))
  else if o = 0x10 then
    some (t.open_.length + bitAt t.ovf 7 + (t.open_.foldl (fun m e => max m e.cls) 0) * 2 ^ 8 + bitAt (t.waits != []) 11)
  else if o = 0x20 then
    match t.open_[(s.reg (key (laneNo l) 0x5004001c)).toNat % 64]? with
    | none => some 0
    | some e => some (e.evid + collNo e.coll * 2 ^ 16 + e.src * 2 ^ 18 + e.cls * 2 ^ 27 + bitAt e.esc 30 + 2 ^ 31)
  else none

/-! Networks, interrupts, crypto, power -/

/-- STAR.PORTn.LINK of the internal ports (R383). -/
def State.viewScn (s : State) (l : Lane) (o : Nat) : Option Nat :=
  match asDrive l with
  | some d =>
    if 0x6010 ≤ o ∧ o < 0x602c then
      let q := (o - 0x6010) / 4
      some (STAR.PORT_LINK.put (s.reg (scnG l + o)) (if s.starLink d q then 1 else 0)).toNat
    else none
  | none => none

/-- CANk.TSNOW and TTSTAT. -/
def State.viewCan (s : State) (l : Lane) (k : Nat) (o : Nat) : Option Nat :=
  if o = 0x68 then some (s.canStamp l 0)
  else if o = 0x44 ∧ s.fb (canB l k) CAN.TTSTAT_SYNCED then
    some (CAN.TTSTAT_CYCTIME.put (s.reg (canB l k + 0x44)) (s.canCycTime l k)).toNat
  else none

/-- The interrupt bank of core c. -/
def State.viewIc (s : State) (l : Lane) (c : Nat) (o : Nat) : Option Nat :=
  if o = 0x20 then some (s.icSummary l c)
  else if 0x40 ≤ o ∧ o < 0x78 then some (s.icPendWord l c ((o - 0x40) / 4))
  else if 0x400 ≤ o ∧ o < 0xb00 then some (s.icSrcWord l c ((o - 0x400) / 4))
  else none

/-- PWR.STATUS but for VORSRC. -/
def State.viewPwr (s : State) (l : Lane) (o : Nat) : Option Nat :=
  if o = 0 then
    some (PWR.STATUS_FEEDB.put (PWR.STATUS_FEEDA.put (s.reg (pwrB l)) (if s.sk.feedA then 1 else 0)) (if s.sk.feedB then 1 else 0)).toNat
  else none

/-- CRY.STATUS. -/
def State.viewCry (s : State) (l : Lane) (o : Nat) : Option Nat :=
  if o = 0xc then some (CRY.STATUS_DEBUGSEEN.put (s.reg (cryB l + 0xc)) (if (s.lane l).debugSeen then 1 else 0)).toNat else none

/-- What the register at address a of lane l's map shows, where it shows what a block holds in another form. -/
def State.view (s : State) (l : Lane) (a : Nat) : Option Nat :=
  if a < 0x21100000 then none
  else if a < 0x21101000 then s.viewLe l (a - 0x21100000)
  else if a < 0x40140000 then
    match asDrive l with
    | some d => s.viewAx d ((a - 0x40100000) / 0x1000) (a % 0x1000)
    | none => none
  else if a < 0x40300000 then none
  else if a < 0x40400000 then s.viewScn l (a - 0x40300000)
  else if a < 0x40500000 then s.viewCan l ((a - 0x40400000) / 0x10000) (a % 0x10000)
  else if a < 0x40503000 then s.viewIc l ((a - 0x40500000) / 0x1000) (a % 0x1000)
  else if a < 0x40600000 then none
  else if a < 0x40700000 then s.viewFc l (a - 0x40600000)
  else if a < 0x40800000 then none
  else if a < 0x40900000 then s.viewCal l (a - 0x40800000)
  else if a < 0x40a00000 then s.viewPwr l (a - 0x40900000)
  else if a < 0x40b00000 then
    match asDrive l with
    | some d => s.viewPc d (a - 0x40a00000)
    | none => none
  else if a < 0x40c00000 then none
  else if a < 0x40d00000 then s.viewCry l (a - 0x40c00000)
  else if a < 0x50000000 then none
  else if a < 0x50010000 then s.viewSk (a - 0x50000000)
  else if a < 0x50030000 then none
  else if a < 0x50040000 then s.viewCmps (a - 0x50030000)
  else if a < 0x50050000 then s.viewSkfc l (a - 0x50040000)
  else none

end Sys2Proof.Machine
end

