-- ==== Sys2Proof/Machine/Bus.lean ====
section
/-! DEFINITION. Reads over a lane's map: memories, registers, and the views of other lanes (R5 to R9, R455 to R458). -/

namespace Sys2Proof.Machine

open Sys2Proof

/-! The map (R455 to R457) -/

/-- An address of Tadpole ROM, MRAM, core SRAM, local memory, retention SRAM and DRAM. -/
def inRom (a : Nat) : Bool := decide (a < 0x40000)
def inMram (a : Nat) : Bool := decide (0x10000000 ≤ a ∧ a < 0x14000000)
def inSram (a : Nat) : Bool := decide (0x20000000 ≤ a ∧ a < 0x20200000)
def inLocal (a : Nat) : Bool := decide (0x21000000 ≤ a ∧ a < 0x21100000)
def inRet (a : Nat) : Bool := decide (0x30000000 ≤ a ∧ a < 0x30001000)
def inDram (a : Nat) : Bool := decide (dramBase ≤ a ∧ a < dramEnd)

/-- An address of a lane's memories. -/
def inMem (a : Nat) : Bool := inRom a || inMram a || inSram a || inLocal a || inRet a || inDram a

/-- The base of the views of the lanes (R457). -/
def viewBase : Nat := 0x51000000

/-- The lane and its address that a view address shows. -/
def viewOf (a : Nat) : Option (Nat × Nat) :=
  if a < viewBase then none
  else
    let l := (a - viewBase) / 0x400000
    let o := (a - viewBase) % 0x400000
    if 3 ≤ l then none
    else if o < 0x200000 then some (l, 0x20000000 + o)
    else if o < 0x300000 then some (l, 0x21000000 + (o - 0x200000))
    else none

/-- An address that belongs to a register block of lane l (R455 to R457). -/
def inRegs (l a : Nat) : Bool := (blockOf l a).isSome

/-- An address in the regions of registers: the loop-engine registers, the peripheral region and the unit space (R5). -/
def inRegRegion (a : Nat) : Bool :=
  decide ((0x21100000 ≤ a ∧ a < 0x21101000) ∨ (0x40000000 ≤ a ∧ a < 0x60000000))

/-- Some table of R455 to R457 maps the address in lane l. -/
def mapped (l a : Nat) : Bool := inMem a || inRegs l a || (viewOf a).isSome

/-! Reads -/

/-- The state that an outcome leaves. -/
def nextOr (s : State) : Host.Outcome State Fault Refusal → State
  | .next t => t
  | _ => s

/-- What a latching read returns, and the state it leaves. -/
def State.byRead (s : State) (o : Host.Outcome State Fault Refusal) : Word × State :=
  let t := nextOr s o
  (t.readData, { t with readData := s.readData })

/-- The drive lane and unit that a tap of lane W shows (R192). -/
def tapOf (n : Nat) : DLane × Nat := if n < 6 then (.A, n) else (.B, n - 6)

/-- A tap register: its source's value, and 0 while the source lane is in reset or unpowered (R192, R193). -/
def State.tapRead (s : State) (a : Nat) : Word :=
  let (d, u) := tapOf ((a - 0x40200000) / 0x1000)
  let o := 0x40200000 + 0x1000 * u + a % 0x1000
  match rowAt (dno d) o with
  | none => 0
  | some r => if s.running d.lane then rowRead r (s.reg (key (dno d) o)) else 0

/-- The bits of a register that the specification leaves open: VGD and the charge pump's, the DRAM watermark, VORSRC. -/
def openBits (l a : Nat) : List Fld :=
  if a = 0x40a00004 ∧ l < 2 then [PC.SUPSTAT_VGD, PC.SUPSTAT_CPLIM, PC.SUPSTAT_CPOK, PC.SUPSTAT_VCP]
  else if a = 0x40d00004 then [MEMC.STATUS_WMARK]
  else if a = 0x40900000 then [PWR.STATUS_VORSRC]
  else []

/-- A word with open bits taken from free values. -/
def State.openWord (s : State) (v : Word) : List Fld → Word × State
  | [] => (v, s)
  | f :: fs =>
    let (x, s) := s.takeNat
    s.openWord (f.put v x) fs

/-- The plain read of a register: its view or its word; RC fields are then 0 (R7). -/
def State.rowReadBy (s : State) (l : Lane) (a : Nat) : Word × State :=
  match rowAt (laneNo l) a with
  | none => (0, s)
  | some r =>
    let k := key (homeOf (laneNo l) a) a
    let w : Word := match s.view l a with
      | some n => BitVec.ofNat 32 n
      | none => s.reg k
    let (w, s) := s.openWord w (openBits (laneNo l) a)
    (rowRead r w, s.setReg k (rowAfterRead r (s.reg k)))

/-- The reads that do more than return a register's word. -/
def State.latchRead (s : State) (l : Lane) (a : Nat) : Option (Word × State) :=
  if a = 0x21100024 then some (s.byRead (execCqHiRead l s))
  else if a = 0x40900108 then some (s.byRead (execRtcRead l s))
  else if a = 0x40d00008 then some (s.byRead (execErraddrLRead l s))
  else if 0x40140000 ≤ a ∧ a < 0x40146000 ∧ a % 0x1000 = 0x60 then
    (asDrive l).map fun d => s.byRead (execSposLRead d (Fin.ofNat 6 ((a - 0x40140000) / 0x1000)) s)
  else if 0x40200000 ≤ a ∧ a < 0x4020c000 ∧ a % 0x1000 = 0x40 then
    if inRegs (laneNo l) a then some (s.byRead (execPosLRead l (Fin.ofNat 12 ((a - 0x40200000) / 0x1000)) s)) else none
  else if 0x40301000 ≤ a ∧ a < 0x40304000 ∧ 0x1000 ≤ a % 0x2000 ∧ a % 0x2000 < 0x1800 then
    some (s.byRead (execScnMissCounterRead l (Fin.ofNat 2 ((a - 0x40300000) / 0x2000)) (Fin.ofNat 512 (a % 0x1000 / 4)) s))
  else if 0x40500000 ≤ a ∧ a < 0x40503000 ∧ 0x400 ≤ a % 0x1000 ∧ a % 0x1000 < 0xb00 then
    some (s.byRead (execIcSrcRead l (Fin.ofNat 3 ((a - 0x40500000) / 0x1000)) (Fin.ofNat 448 ((a % 0x1000 - 0x400) / 4)) s))
  else none

/-- The read of a register by lane l. -/
def State.readReg (s : State) (l : Lane) (a : Nat) : Word × State :=
  match s.latchRead l a with
  | some r => r
  | none => if l == .W && decide (0x40200000 ≤ a ∧ a < 0x4020c000) then (s.tapRead a, s) else s.rowReadBy l a

/-- The 32-bit word that a view shows: 0 where its lane is unpowered or in reset (R457). -/
def State.viewRead (s : State) (l a : Nat) : Word := if s.running (laneOf l) then s.rd32 l a else 0

/-- The read of a 32-bit word at address a of lane l's map: 0 and 0x100 where nothing is mapped, 0x010 where a register access is
not aligned (R5, R458). -/
def State.busRead32 (s : State) (l : Lane) (a : Nat) : Word × State :=
  if inMem a then (s.rd32 (laneNo l) a, s)
  else if inRegRegion a && a % 4 != 0 then (0, s.raiseL l 0x10 255)
  else if inRegs (laneNo l) a then s.readReg l a
  else
    match viewOf a with
    | some (v, o) => (s.viewRead v o, s)
    | none => (0, s.raiseL l 0x100 255 (a % 2 ^ 32))

end Sys2Proof.Machine
end

