-- ==== Sys2Proof/Machine/Retention.lean ====
section
/-! DEFINITION. The enable of a feedback unit, and the retention check that it starts (R195, R217 to R219, R535). -/

namespace Sys2Proof.Machine

open Sys2Proof

/-- None of the conditions of R195 holds. -/
def State.fbCfgOk (s : State) (l : DLane) (n : Nat) : Bool :=
  let g := fun f => s.fg (fuB l n) f
  let ser := g FB.CTRL_SER
  (if g FB.CTRL_PSRC = 1 then ser != 0 else g FB.CTRL_QUAD == 1) && ser != 3 &&
  (ser != 1 ||
    (within (g FB.SSICFG_BITS) 10 32 && within (g FB.SSICFG_CLKDIV) 10 1000 &&
     decide ((g FB.SSICFG_BITS + g FB.SSICFG_STAT + 2) * g FB.SSICFG_CLKDIV * 10 + g FB.SSICFG_DLY * 5 ≤
       75 * s.fg (axB l n) AX.SENSCFG_OSR + 40))) &&
  (ser != 2 ||
    (within (g FB.SENTCFG_TICK) 12 360 && within (g FB.SENTCFG_NIB) 1 6 && within (g FB.SENTCFG_PNIB) 1 (g FB.SENTCFG_NIB))) &&
  decide (s.softMin (fuB l n) ≤ s.softMax (fuB l n)) && g FB.SPDCFG_SPDQ ≤ 24

/-- The multi-function ball that a feedback unit needs and a CAN controller holds (R534, R535). -/
def State.fbClaim (s : State) (l : DLane) (n : Nat) : Option Nat :=
  let ser := s.fg (fuB l n) FB.CTRL_SER
  let k := if n = 4 then 2 else 3
  let ball := if n = 4 then 2 else 0
  if (n = 4 ∨ n = 5) ∧ s.fb (canB l.lane k) CAN.CTRL_EN then
    if ser = 1 then some ball else if ser = 2 then some (ball + 1) else none
  else none

/-- The axis is in NONE, with no restored angle: its feedback unit is off, or starts anew (R186, assumption 139). -/
def State.alignNone (s : State) (l : DLane) (n : Nat) : State :=
  (s.setAxis l n { s.axis l n with ret := none }).setAlign l n 0

/-- FB_EN_WRITE (R166, R195, R218, R535): FBn.CTRL is written; the unit is enabled with POSQ LOST, and t 0 for quadrature, and its
retention check begins, or EN is 0 with 0x04A or 0x1E0. Read-only once the unit has left Chorus. -/
def execFbEnWrite (l : DLane) (n : Fin 6) (v : Word) (s : State) : Host.Outcome State Fault Refusal :=
  let b := fuB l n.val
  if !s.running l.lane || (s.lane l.lane).locked then .next s
  else
    let a := 0x40200000 + 0x1000 * n.val
    let s := (s.rowPut l.lane false a v).alignNone l n.val
    if !v.getLsbD 0 then .next s
    else if !s.fbCfgOk l n.val then .next ((s.fs b FB.CTRL_EN 0).raiseL l.lane 0x4a n.val)
    else
      match s.fbClaim l n.val with
      | some m => .next ((s.fs b FB.CTRL_EN 0).raiseL l.lane 0x1e0 m a)
      | none =>
        let s := (s.fs b FB.STATUS_POSQ 0).fs b FB.STATUS_IDXREF 0
        let s := (s.fs b FB.STATUS_HALL 0).fs b FB.STATUS_SERVALID 0
        let x := s.fbu l n.val
        let s := s.setFbu l n.val { t := x.t, pos := x.pos, full := x.full, retPend := true, homeSt := x.homeSt, homeDue := x.homeDue
                                    travel := x.travel, cmpAt := x.cmpAt, cmpFired := x.cmpFired }
        .next (if s.fb b FB.CTRL_PSRC then s else s.moveTo l n.val 0)

/-- Axis n's entry in the retention area. -/
def retAddr (n : Nat) : Nat := retBase + 32 + 32 * n

/-- Every condition of R218 holds. AXn.CTRL.EN, which is still to be written, counts as 1 in the CRC of the present configuration
(assumption 137). -/
def State.retOk (s : State) (l : DLane) (n : Nat) : Bool :=
  let k := dno l
  let e := s.rdBytes k (retAddr n) 32
  let b := fuB l n
  let x := s.fbu l n
  let ser := (x.ser1.getD 0 : Int) - byteF e 20 4
  leNat (s.rdBytes k retBase 4) == 1 && leNat (s.rdBytes k (retBase + 28) 4) == (s.retCrc k).toNat &&
  !s.fb hibB HIB.STATUS_VHIBLOSS && byteF e 7 1 % 2 == 1 && byteF e 24 4 == (s.cfgCrc l n (s.reg (axB l n) ||| 1)).toNat &&
  (!s.fb b FB.CTRL_HALL || x.hall1 == some (byteF e 7 1 / 4 % 8)) &&
  (!s.fb b FB.CTRL_PSRC || ser.natAbs ≤ s.fg b FB.IDXCFG_SLIPTOL)

/-- VALID of axis n's entry is cleared (R219), and the area's CRC changes with it: a right CRC stays right, a wrong one wrong
(assumption 141). -/
def State.retConsume (s : State) (l : DLane) (n : Nat) : State :=
  let k := dno l
  let f := s.rd8 k (retAddr n + 7)
  let t := s.wr8 k (retAddr n + 7) (f &&& 0xfe)
  let crc := BitVec.ofNat 32 (leNat (s.rdBytes k (retBase + 28) 4)) ^^^ s.retCrc k ^^^ t.retCrc k
  t.wrBytes k (retBase + 28) (natLe 4 crc.toNat)

/-- RETENTION_CHECK_DONE (R218, R219): the check completes; a passed one restores the position, the index reference and the angle, where
the position is still LOST (R166, assumption 140). Where it had nothing to restore, a first serial read that came meanwhile counts with SERABS. -/
def execRetentionCheckDone (l : DLane) (n : Fin 6) (s : State) : Host.Outcome State Fault Refusal :=
  let b := fuB l n.val
  let a := axB l n.val
  let x := s.fbu l n.val
  let due := (!s.fb b FB.CTRL_HALL || x.hall1.isSome) && (!s.fb b FB.CTRL_PSRC || x.ser1.isSome)
  if !s.fbOn l n.val || !x.retPend || !due then .next s
  else
    let e := s.rdBytes (dno l) (retAddr n.val) 32
    let valid := byteF e 7 1 % 2 == 1
    let ok := s.retOk l n.val
    let s := (s.setFbu l n.val { x with retPend := false }).retConsume l n.val
    if ok ∧ s.fg b FB.STATUS_POSQ ≠ 0 then .next s
    else if ok then
      let t := signed 40 (byteF e 0 5) + signed 16 (byteF e 5 2)
      let idx := decide (byteF e 7 1 / 2 % 2 = 1)
      let s := s.moveTo l n.val t
      let y := s.fbu l n.val
      let s := s.setFbu l n.val { y with idxRef := if idx then signed 40 (byteF e 12 5) else y.idxRef, tIdx := t }
      let s := (s.fs b FB.STATUS_POSQ 1).fs b FB.STATUS_IDXREF (if idx then 1 else s.fg b FB.STATUS_IDXREF)
      let s := s.setAxis l n.val { s.axis l n.val with ret := some ((byteF e 8 3 : Int), t) }
      .next (if s.fb a AX.CTRL_EN then s.alignKeep l n.val else s)
    else if valid then .next ((s.pgEv l n.val PG.EVT_RET_MISMATCH).raiseL l.lane 0xb8 n.val)
    else .next (if s.fb b FB.CTRL_SERABS && x.ser1.isSome && s.fg b FB.STATUS_POSQ == 0 then s.fs b FB.STATUS_POSQ 1 else s)

end Sys2Proof.Machine
end

