-- ==== Sys2Proof/Machine/Regs.lean ====
section
/-! DEFINITION. Writes over a lane's map: what a write to each register does, and REGISTER_WRITE (R5 to R8, R455 to R458). A write
that a row of the command table describes is that row's command; a write that sets several action bits acts in the order of the
bits (assumption 23). -/

namespace Sys2Proof.Machine

open Sys2Proof

/-- The plain write of a register: access codes and LK (R7). -/
def State.plainWrite (s : State) (l : Lane) (a : Nat) (v : Word) : State := s.rowPut l (s.lane l).locked a v

/-- A write to the loop engine: DOORBELL, and the write of TRIGCFG that starts a source's event number at 0 (R78). -/
def State.wrLe (s : State) (l : Lane) (a o : Nat) (v : Word) : State :=
  if o = 0x18 then nextOr s (execDoorbellWrite l v s)
  else if 0x100 ≤ o ∧ o < 0x200 ∧ v.getLsbD 15 ∧ ¬ (s.lane l).locked then
    let s := s.plainWrite l a v
    s.setLe l { s.le l with evn := famDel (s.le l).evn ((o - 0x100) / 4) }
  else s.plainWrite l a v

/-- A write to an axis, a generator or a port. -/
def State.wrDrive (s : State) (d : DLane) (a : Nat) (v : Word) : State :=
  let n := a % 0x40000 / 0x1000
  let o := a % 0x1000
  if a < 0x40140000 then
    if o = 0 then nextOr s (execAxEnWrite d (Fin.ofNat 6 n) v s) else s.plainWrite d.lane a v
  else if a < 0x40180000 then
    let g := Fin.ofNat 6 n
    if o = 0 then nextOr s (execPgEnWrite d g v s)
    else if o = 0x40 then
      match v.toNat % 8 with
      | 1 => nextOr s (execPgMoveCmd d g s)
      | 2 => nextOr s (execPgVelocityCmd d g s)
      | 3 => nextOr s (execPgStopCmd d g s)
      | 4 => nextOr s (execPgGearCmd d g s)
      | 5 => nextOr s (execPgCancelCmd d g s)
      | op => s.pgCmd d g.val op
    else s.plainWrite d.lane a v
  else if o = 0 then nextOr s (execPpEnWrite d (Fin.ofNat 2 n) v s)
  else s.plainWrite d.lane a v

/-- A write to a feedback unit; a tap of lane W ignores it (R192). -/
def State.wrFb (s : State) (l : Lane) (a : Nat) (v : Word) : State :=
  match asDrive l with
  | none => s
  | some d =>
    let n := Fin.ofNat 6 ((a - 0x40200000) / 0x1000)
    let o := a % 0x1000
    if o = 0 then nextOr s (execFbEnWrite d n v s)
    else if o = 0x34 then
      let s := if v.getLsbD 0 then nextOr s (execHomeWrite d n s) else s
      if v.getLsbD 1 then nextOr s (execHomecancelWrite d n s) else s
    else if 0x100 ≤ o ∧ o < 0x180 ∧ o % 16 = 8 then nextOr s (execCompareArm d n (Fin.ofNat 8 ((o - 0x100) / 16)) v s)
    else s.plainWrite l a v

/-- A write to an SCN channel's bank. A TX entry that is STAGED or READY takes nothing but DROP (R408). -/
def State.wrScn (s : State) (l : Lane) (a : Nat) (v : Word) : State :=
  let c := Fin.ofNat 2 ((a - 0x40300000) / 0x2000)
  let o := a % 0x2000
  if o = 0 then nextOr s (execScnEnWrite l c v s)
  else if o = 0x10 then
    let s := if v.getLsbD 3 then nextOr s (execScnModeRequest l c v s) else s
    if v.getLsbD 4 then nextOr s (execScnModeCancel l c s) else s
  else if 0x400 ≤ o ∧ o < 0x600 then
    let e := Fin.ofNat 32 ((o - 0x400) / 16)
    if o % 16 = 12 then
      let s := nextOr s (execScnTxCommit l c e v s)
      if v.getLsbD 6 then nextOr s (execScnTxDrop l c e s) else s
    else
      let st := s.txState l c.val e.val
      if st = 1 ∨ st = 2 then s else s.plainWrite l a v
  else s.plainWrite l a v

/-- A word of a CAN TX element: ignored while STAGED, READY or ACTIVE, but for CANCEL; word 2 holds COMMIT and CANCEL, word 3 is
read-only (R433). -/
def State.wrCanTx (s : State) (l : Lane) (k : Fin 4) (a o : Nat) (v : Word) : State :=
  let e := Fin.ofNat 32 (o / 80)
  let w := o % 80 / 4
  let st := s.canState l k.val e.val
  if w = 2 then
    let s := if v.getLsbD 0 then nextOr s (execCanTxCommit l k e v s) else s
    if v.getLsbD 1 then nextOr s (execCanTxCancel l k e s) else s
  else if w = 3 ∨ (1 ≤ st ∧ st ≤ 3) then s
  else if w = 0 then s.setReg (key (laneNo l) a) (BitVec.ofNat 32 (v.toNat % 2 ^ 31))
  else if w = 1 then s.setReg (key (laneNo l) a) (BitVec.ofNat 32 (v.toNat % 2 ^ 9 + v.toNat / 2 ^ 16 * 2 ^ 16))
  else s.setReg (key (laneNo l) a) v

/-- A write to a CAN controller. -/
def State.wrCan (s : State) (l : Lane) (a : Nat) (v : Word) : State :=
  let k := Fin.ofNat 4 ((a - 0x40400000) / 0x10000)
  let o := a % 0x10000
  if o = 0 then nextOr s (execCanEnWrite l k v s)
  else if o = 0x58 ∨ o = 0x5c then nextOr s (execCanFifoRelease l k (Fin.ofNat 2 ((o - 0x58) / 4)) v s)
  else if o = 0x6c then nextOr s (execCanRecoverWrite l k v s)
  else if 0x7c00 ≤ o ∧ o < 0x8600 then s.wrCanTx l k a (o - 0x7c00) v
  else s.plainWrite l a v

/-- A write to an interrupt bank. -/
def State.wrIc (s : State) (l : Lane) (a : Nat) (v : Word) : State :=
  let c := Fin.ofNat 3 ((a - 0x40500000) / 0x1000)
  let o := a % 0x1000
  if o = 4 then nextOr s (execIcEoi l c v s)
  else if o = 0x10 ∨ o = 0x14 then nextOr s (execIcSwset l c (o == 0x14) v s)
  else if 0x80 ≤ o ∧ o < 0xb8 then s.icMaskWrite l c.val ((o - 0x80) / 4) v
  else s.plainWrite l a v

/-- A write to the collector. -/
def State.wrFc (s : State) (l : Lane) (a o : Nat) (v : Word) : State :=
  if o = 0x10 then nextOr s (execFcLogclr l v s)
  else if 0x40 ≤ o ∧ o < 0x80 then nextOr s (execFcPendAck l (Fin.ofNat 16 ((o - 0x40) / 4)) v s)
  else if 0x80 ≤ o ∧ o < 0xc0 then nextOr s (execFcForceWrite l (Fin.ofNat 16 ((o - 0x80) / 4)) v s)
  else if 0x100 ≤ o ∧ o < 0x200 then nextOr s (execFcClassWrite l (Fin.ofNat 64 ((o - 0x100) / 4)) v s)
  else s.plainWrite l a v

/-- A write to a DMA channel. -/
def State.wrDma (s : State) (l : Lane) (a o : Nat) (v : Word) : State :=
  if 0x100 ≤ o ∧ o < 0x300 ∧ o % 0x20 = 8 then
    let n := Fin.ofNat 16 ((o - 0x100) / 0x20)
    let s := if v.getLsbD 0 then nextOr s (execDmaGo l n s) else s
    if v.getLsbD 1 then nextOr s (execDmaStop l n s) else s
  else s.plainWrite l a v

/-- A write of CRY.CMD: an OP that no command has is refused, with a code that the specification does not give (R506). -/
def State.wrCry (s : State) (l : Lane) (a o : Nat) (v : Word) : State :=
  if o = 0 then
    match v.toNat % 8 with
    | 1 => nextOr s (execCryAttest l s)
    | 2 => nextOr s (execCryInstall l s)
    | 3 => nextOr s (execCryCommit l s)
    | 4 => nextOr s (execCryAdvance l s)
    | _ => if (s.lane l).cryOp ≠ 0 then s.cryFail l 6 else s.cryFailFree l
  else s.plainWrite l a v

/-- A write to the event recorder. -/
def State.wrEr (s : State) (l : Lane) (a o : Nat) (v : Word) : State :=
  if o = 0 then nextOr s (execErEnWrite l v s)
  else if o = 8 then
    let s := if v.getLsbD 0 then nextOr s (execErFreezeCmd l s) else s
    nextOr s (execErReleaseCmd l v s)
  else s.plainWrite l a v

/-- A write to Skink's view, the exchange, the checkpoint engine, the comparator's view or Skink's collector. -/
def State.wrUnit (s : State) (l : Lane) (a : Nat) (v : Word) : State :=
  if a = 0x50000040 then nextOr s (execCfgStartWrite l v s)
  else if a = 0x50000044 then nextOr s (execCfgDataWrite l v s)
  else if 0x50000060 ≤ a ∧ a < 0x50000080 then nextOr s (execDigestWrite l (Fin.ofNat 8 ((a - 0x50000060) / 4)) v s)
  else if a = 0x50010000 then nextOr s (execXchEnWrite l v s)
  else if a = 0x50020000 then nextOr s (execCkptEnWrite l v s)
  else if a = 0x50020004 then nextOr (nextOr s (execCkptGo l v s)) (execCkptXfer l v (nextOr s (execCkptGo l v s)))
  else if a = 0x50020010 then nextOr s (execVerdictWrite l v s)
  else if a = 0x50040014 then nextOr s (execSkfcAck l v s)
  else if a = 0x50040018 then nextOr s (execSkfcForce l v s)
  else s.plainWrite l a v

/-- A write to the power and clock block, the phase cells, the self-test controller or the calibration block. -/
def State.wrBlock (s : State) (l : Lane) (a : Nat) (v : Word) : State :=
  if a = 0x40700000 then nextOr s (execBistEnWrite l v s)
  else if a = 0x40800000 then nextOr s (execCalEnWrite l v s)
  else if a = 0x40900104 then nextOr s (execWakecfgWrite l v s)
  else if a = 0x40900108 then s.rtcWrite v
  else if 0x40a00000 ≤ a ∧ a < 0x40a10000 then
    match asDrive l with
    | some d =>
      let o := a - 0x40a00000
      if o = 0 ∨ (0x100 ≤ o ∧ o < 0x400 ∧ o % 32 < 8) then nextOr s (execPcCfgWrite d (BitVec.ofNat 12 o) v s) else s.plainWrite l a v
    | none => s
  else s.plainWrite l a v

/-- The aligned write of a register of lane l. -/
def State.writeReg (s : State) (l : Lane) (a : Nat) (v : Word) : State :=
  if a < 0x21101000 then s.wrLe l a (a - 0x21100000) v
  else if a < 0x40200000 then
    match asDrive l with
    | some d => s.wrDrive d a v
    | none => s
  else if a < 0x40300000 then s.wrFb l a v
  else if a < 0x40304000 then s.wrScn l a v
  else if a = 0x40306000 then nextOr s (execStarEnWrite l v s)
  else if a < 0x40400000 then s.plainWrite l a v
  else if a < 0x40500000 then s.wrCan l a v
  else if a < 0x40503000 then s.wrIc l a v
  else if a < 0x40600000 then s.plainWrite l a v
  else if a < 0x40610000 then s.wrFc l a (a - 0x40600000) v
  else if a < 0x40b00000 then s.wrBlock l a v
  else if a < 0x40c00000 then s.wrDma l a (a - 0x40b00000) v
  else if a < 0x40d00000 then s.wrCry l a (a - 0x40c00000) v
  else if a < 0x40e00000 then s.plainWrite l a v
  else if a < 0x40f00000 then s.wrEr l a (a - 0x40e00000) v
  else s.wrUnit l a v

/-- A core may write the byte of memory at a: core SRAM, the user area of MRAM, local memory below the mirror and the vector ring,
and DRAM, the recorder's ring only while it does not record (R71, R455, R458, R459, R463). -/
def State.coreMayWrite (s : State) (l : Lane) (a : Nat) : Bool :=
  inSram a || decide (0x13000000 ≤ a ∧ a < 0x13f80000) || decide (0x21000000 ≤ a ∧ a < 0x210f8000) ||
  (inDram a && !(decide (ringBase ≤ a) && s.fb (erB l) ER.CTRL_EN))

/-- A core's store of bytes to memory waits until it becomes visible (R465); the axis retention area ignores it (R216). -/
def State.coreStore (s : State) (l : Lane) (a : Nat) (bs : List Byte) : State :=
  let s := s.storeRoom l
  let x := s.lane l
  if inRet a then
    let keep := (List.range bs.length).filterMap fun i =>
      if 0x30000100 ≤ a + i ∧ a + i < 0x30001000 then (bs[i]?).map fun b => (a + i, [b]) else none
    s.setLane l { x with stores := x.stores ++ keep }
  else if (List.range bs.length).all fun i => s.coreMayWrite l (a + i) then s.setLane l { x with stores := x.stores ++ [(a, bs)] }
  else s.raiseL l 0x100 255 (a % 2 ^ 32)

/-- A core of lane l writes n bytes of a value at address a: in the regions of registers, only an aligned 32-bit access has an
effect (R5); a misaligned store to a memory is the core's own exception, and is not made (R451). -/
def State.busWrite (s : State) (l : Lane) (a n v : Nat) : State :=
  if inMem a then if a % n = 0 then s.coreStore l a (natLe n v) else s
  else if inRegRegion a && (n != 4 || a % 4 != 0) then s.raiseL l 0x10 255
  else if inRegs (laneNo l) a then s.writeReg l a (BitVec.ofNat 32 v)
  else s.raiseL l 0x100 255 (a % 2 ^ 32)

/-- REGISTER_WRITE (R5 to R7, R455 to R458): a core of lane l writes 2^size bytes; a store to memory may become visible at once. -/
def execRegisterWrite (l : Lane) (addr : BitVec 40) (v : Word) (size : Fin 4) (hi : Word) (s : State) : Host.Outcome State Fault Refusal :=
  if s.running l then .next ((s.busWrite l addr.toNat (2 ^ size.val) (v.toNat + hi.toNat * 2 ^ 32)).storesDrift l) else .next s

end Sys2Proof.Machine
end

