-- ==== Sys2Proof/Machine/Transfer.lean ====
section
/-! DEFINITION. What DMA channels and the event recorder move over the fabric (R468 to R474). -/

namespace Sys2Proof.Machine

open Sys2Proof

/-! DMA (R468 to R471) -/

/-- The base and the size of the block of the peripheral region that holds an address (R456). -/
def blockRange (a : Nat) : Nat × Nat :=
  if a < 0x40300000 then (a - a % 0x1000, 0x1000)
  else if a < 0x40360000 then (0x40300000, 0x60000)
  else (a - a % 0x10000, 0x10000)

/-- The range of n bytes at a lies in [lo, hi). -/
def inside (a n lo hi : Nat) : Bool := decide (lo ≤ a ∧ a + n ≤ hi)

/-- The address lies in the peripheral region. -/
def inPeriph (a : Nat) : Bool := decide (0x40000000 ≤ a ∧ a < 0x50000000)

/-- The range lies wholly in one region of lane l's map (R469, code 3). -/
def oneRegion (l a n : Nat) : Bool :=
  inside a n 0 0x40000 || inside a n 0x10000000 0x14000000 || inside a n 0x20000000 0x20200000 ||
  inside a n 0x21000000 0x21100000 || inside a n 0x21100000 0x21101000 || inside a n 0x30000000 0x30001000 ||
  inside a n dramBase dramEnd ||
  (inPeriph a && inRegs l a && inside a n (blockRange a).1 ((blockRange a).1 + (blockRange a).2)) ||
  (decide (0x50000000 ≤ a ∧ a < 0x50050000) && inside a n (a - a % 0x10000) (a - a % 0x10000 + 0x10000)) ||
  ((viewOf a).isSome && inside a n (a - a % 0x100000) (a - a % 0x100000 + 0x100000))

/-- R468 bars the range: unit space, retention SRAM, loop-engine registers. -/
def dmaBarred (a : Nat) : Bool := inRet a || decide ((0x21100000 ≤ a ∧ a < 0x21101000) ∨ (0x50000000 ≤ a ∧ a < 0x60000000))

/-- A channel may write the range of n bytes at a (R71, R455, R459, R463, R506). -/
def State.dmaMayWrite (s : State) (l : Lane) (a n : Nat) : Bool :=
  inside a n 0x20000000 0x20200000 || inside a n 0x13000000 0x13f80000 || inside a n 0x21000000 0x210f8000 || inPeriph a ||
  (inside a n dramBase dramEnd && !(s.fb (erB l) ER.CTRL_EN && decide (ringBase < a + n)))

/-- A descriptor may lie there: aligned, in core SRAM or DRAM (R468). -/
def descPlace (a : Nat) : Bool := a % 32 == 0 && (inSram a || inDram a)

/-- Word i of the descriptor at a. -/
def State.dmaWord (s : State) (l : Lane) (a i : Nat) : Nat := (s.rd32 (laneNo l) (a + 4 * i)).toNat

/-- The descriptor at a. -/
def State.dmaDesc (s : State) (l : Lane) (a : Nat) : DmaDesc :=
  let w := s.dmaWord l a
  { at_ := a, src := w 0 + w 1 % 2 ^ 8 * 2 ^ 32, dst := w 2 + w 1 / 2 ^ 8 % 2 ^ 8 * 2 ^ 32, len := w 3
    ord := (w 4).testBit 0, trig := (w 4).testBit 1, irq := (w 4).testBit 2, last := (w 4).testBit 3 }

/-- The address of the descriptor after the one at a. -/
def State.dmaNext (s : State) (l : Lane) (a : Nat) : Nat := s.dmaWord l a 5 + s.dmaWord l a 6 % 2 ^ 8 * 2 ^ 32

/-- A reserved bit of the descriptor at a is set. -/
def State.dmaReserved (s : State) (l : Lane) (a : Nat) : Bool :=
  let w := s.dmaWord l a
  decide (2 ^ 16 ≤ w 1 ∨ 2 ^ 4 ≤ w 4 ∨ 2 ^ 8 ≤ w 6 ∨ 2 ^ 4 ≤ w 7)

/-- The code of the first check of R469 that the descriptor at a fails, misplacement first; 0: none. -/
def State.dmaCheck (s : State) (l : Lane) (a : Nat) : Nat :=
  let d := s.dmaDesc l a
  let n := laneNo l
  if !descPlace a then 6
  else if d.len = 0 ∨ s.dmaReserved l a then 2
  else if !oneRegion n d.src d.len || !oneRegion n d.dst d.len || dmaBarred d.src then 3
  else if (inPeriph d.src || inPeriph d.dst) && ((inPeriph d.src && d.src % 4 != 0) || (inPeriph d.dst && d.dst % 4 != 0) || d.len % 4 != 0) then 4
  else if dmaBarred d.dst || !s.dmaMayWrite l d.dst d.len then 5
  else 0

/-- CODE is written into the descriptor at a, where it can be. -/
def State.dmaCode (s : State) (l : Lane) (a c : Nat) : State :=
  if descPlace a && s.dmaMayWrite l (a + 28) 4 then s.memPut l (a + 28) (natLe 4 c) else s

/-- Channel n enters ERROR with a code (R469, R477). -/
def State.dmaError (s : State) (l : Lane) (n a c src : Nat) : State :=
  let s := ((s.dmaCode l a c).fs (dmaN l n) DMA.STATUS_STATE 2).fs (dmaN l n) DMA.STATUS_CODE c
  (s.fs (dmaB l) DMA.EVT_ERR (s.fg (dmaB l) DMA.EVT_ERR ||| 2 ^ n)).raiseL l src n n

/-- n words read from registers at a up, each once. -/
def State.dmaRegs (s : State) (l : Lane) (a : Nat) : Nat → List Byte × State
  | 0 => ([], s)
  | n + 1 =>
    let (w, s) := s.readReg l a
    let (bs, s) := s.dmaRegs l (a + 4) n
    (natLe 4 w.toNat ++ bs, s)

/-- The source of a descriptor, as it stands. -/
def State.dmaRead (s : State) (l : Lane) (d : DmaDesc) : List Byte × State :=
  if inPeriph d.src then s.dmaRegs l d.src (d.len / 4) else (s.rdBytes (laneNo l) d.src d.len, s)

/-- Bytes written to registers from a up, four at a time. -/
def State.dmaPut (s : State) (l : Lane) : Nat → Nat → List Byte → State
  | 0, _, _ => s
  | n + 1, a, bs => (s.writeReg l a (BitVec.ofNat 32 (leNat (bs.take 4)))).dmaPut l n (a + 4) (bs.drop 4)

/-- Bytes written at a descriptor's destination. -/
def State.dmaWrite (s : State) (l : Lane) (d : DmaDesc) (bs : List Byte) : State :=
  if inPeriph d.dst then s.dmaPut l (bs.length / 4) d.dst bs else s.memPut l d.dst bs

/-- Of two readings of the source, the one at each 8-byte granule that a free bit chooses: the channel reads at times of its own. -/
def State.dmaMix (s : State) (d : DmaDesc) (old new : List Byte) : List Byte × State :=
  let f := s.free
  ((List.range d.len).map fun i => if Config.freeBit (f + ((d.src + i) / 8 - d.src / 8)) then old.getD i 0 else new.getD i 0,
   { s with free := f + d.len / 8 + 2 })

/-- Slice 39 or 40 is in its window and holds channel n (R495). -/
def State.dmaHeld (s : State) (l : Lane) (n : Nat) : Bool := s.bistIn l (if n < 8 then 39 else 40)

/-- What a loaded descriptor has done before its completion: with no ORD to wait for, its reads, and its writes, may have been made
already; which is open (R470). -/
def State.dmaEarly (s : State) (l : Lane) (d : DmaDesc) : DmaDesc × State :=
  let (r, s) := s.takeBit
  if !r then (d, s)
  else
    let (bs, s) := s.dmaRead l d
    let (w, s) := s.takeBit
    if w then ({ d with data := some bs, wrote := true }, s.dmaWrite l d bs) else ({ d with data := some bs }, s)

/-- DMA_DESC_LOAD (R468 to R470): the channel loads and checks its next descriptor, and refuses it on failure. With 128
transactions outstanding it stalls (R21). -/
def execDmaDescLoad (l : Lane) (ch : Fin 16) (s : State) : Host.Outcome State Fault Refusal :=
  let n := ch.val
  let s := s.storeRoom l
  let x := s.dma l n
  if !s.running l || s.fg (dmaN l n) DMA.STATUS_STATE != 1 || x.stop || s.dmaHeld l n || decide (128 ≤ s.outstanding l) then .next s
  else
    match x.next with
    | none => .next s
    | some a =>
      let c := s.dmaCheck l a
      if c ≠ 0 then .next ((s.setDma l n { x with next := none }).dmaError l n a c 0x110)
      else
        let d := s.dmaDesc l a
        let next := if d.last then none else some (s.dmaNext l a)
        if d.ord && x.fly != [] then .next (s.setDma l n { x with next := next, fly := x.fly ++ [d] })
        else
          let (d, s) := s.dmaEarly l d
          .next (s.setDma l n { s.dma l n with next := next, fly := x.fly ++ [d] })

/-- The writes of a descriptor, all of them. -/
def State.dmaFinish (s : State) (l : Lane) (d : DmaDesc) : State :=
  if d.wrote then s
  else
    match d.data with
    | none =>
      let (bs, s) := s.dmaRead l d
      s.dmaWrite l d bs
    | some old =>
      if inPeriph d.src then s.dmaWrite l d old
      else
        let (bs, s) := s.dmaMix d old (s.rdBytes (laneNo l) d.src d.len)
        s.dmaWrite l d bs

/-- What stands of the descriptor that a STOP or an error ends after n bytes. -/
def State.dmaPart (s : State) (l : Lane) (d : DmaDesc) (n : Nat) : State :=
  if d.wrote then s
  else
    let (bs, s) := match d.data with
      | some b => (b, s)
      | none => s.dmaRead l d
    s.dmaWrite l d (bs.take n)

/-- DMA_DESC_COMPLETE (R77, R95, R470, R471): the oldest descriptor's writes are visible; CODE 1 is written, and TRIG and IRQ act.
After STOP it gets CODE 7, how many bytes it wrote being open, and neither acts. -/
def execDmaDescComplete (l : Lane) (ch : Fin 16) (s : State) : Host.Outcome State Fault Refusal :=
  let n := ch.val
  let x := s.dma l n
  let b := dmaN l n
  if !s.running l || s.dmaHeld l n then .next s
  else
    match x.fly with
    | [] => .next s
    | d :: q =>
      if x.stop then
        let (k, s) := s.takeNat
        let s := (s.dmaPart l d (k % (d.len + 1))).dmaCode l d.at_ 7
        .next (((s.fs b DMA.STATUS_STATE 3).fs b DMA.STATUS_CODE 7).setDma l n {})
      else
        let s := (s.dmaFinish l d).dmaCode l d.at_ 1
        let s := s.fs b DMA.STATUS_DONE (s.fg b DMA.STATUS_DONE + 1)
        let s := if d.trig then s.trig l 62 else s
        let s := if d.irq then s.fs (dmaB l) DMA.EVT_DONE (s.fg (dmaB l) DMA.EVT_DONE ||| 2 ^ n) else s
        let s := s.setDma l n { s.dma l n with fly := q }
        .next (if d.last && s.fg b DMA.STATUS_STATE == 1 then s.fs b DMA.STATUS_STATE 0 else s)

/-- DMA_ABORT (R469): an uncorrectable error on a read of the oldest descriptor; the first `written` bytes stand. -/
def execDmaAbort (l : Lane) (ch : Fin 16) (written : Nat) (s : State) : Host.Outcome State Fault Refusal :=
  let n := ch.val
  if !s.running l then .next s
  else
    match (s.dma l n).fly with
    | [] => .next s
    | d :: _ =>
      let s := s.dmaPart l d written
      .next ((s.setDma l n {}).dmaError l n d.at_ 7 0x111)

/-! The event recorder (R473, R474) -/

/-- Words 1 to n of a row, from channel c on. -/
def State.erReads (s : State) (l : Lane) (c : Nat) : Nat → List Byte × State
  | 0 => ([], s)
  | n + 1 =>
    let (w, s) := s.busRead32 l (s.reg (erB l + 0x100 + 4 * c)).toNat
    let (bs, s) := s.erReads l (c + 1) n
    (natLe 4 w.toNat ++ bs, s)

/-- The place for a row of n bytes from a on: it wraps at the ring's top, and skips the frozen windows. -/
def State.erPlace (s : State) (l : Lane) (n : Nat) : Nat → Nat → Nat
  | 0, a => a
  | k + 1, a =>
    let size := dramEnd - ringBase
    let b := erB l
    let hit := (List.range 8).find? fun w =>
      s.fg b ER.STATUS_FROZEN / 2 ^ w % 2 == 1 &&
      (let st := s.fg (b + 16 * w) ER.FRZ_L_ADDR + s.fg (b + 16 * w) ER.FRZ_H_ADDR * 2 ^ 32
       decide ((a + size - st) % size < erWindow) || decide ((a + n - 1 + size - st) % size < erWindow))
    if dramEnd < a + n then s.erPlace l n k ringBase
    else
      match hit with
      | none => a
      | some w =>
        let st := s.fg (b + 16 * w) ER.FRZ_L_ADDR + s.fg (b + 16 * w) ER.FRZ_H_ADDR * 2 ^ 32
        s.erPlace l n k (ringBase + (st - ringBase + erWindow) % size)

/-- The capture instant of the lane's unit cycle has come, and its row has been neither written nor skipped (R473). -/
def State.erDue (s : State) (l : Lane) : Bool :=
  s.running l && s.fb (erB l) ER.CTRL_EN && decide (s.sk.beaconAt + s.fg (erB l) ER.CTRL_CAPDLY * 10 ≤ s.now) &&
  (s.er l).row != some (s.lane l).beaconCycle

/-- ER_ROW_CAPTURE (R473, R474): the channels are read in ascending order, and the row is written at the write pointer. While slice
67 is in its window the row is skipped (R495). -/
def execErRowCapture (l : Lane) (s : State) : Host.Outcome State Fault Refusal :=
  let b := erB l
  let c := (s.lane l).beaconCycle
  if !s.erDue l then .next s
  else if s.bistIn l 67 then .next ((s.setEr l { s.er l with row := some c }).fInc b ER.COUNT_SKIP)
  else
    let n := 4 * s.erCh l
    let (bs, s) := s.erReads l 1 (s.erCh l - 1)
    let a := s.erPlace l n 20 (s.erPtr l)
    let s := s.memPut l a (natLe 4 c ++ bs)
    let s := s.setErPtr l (s.erPlace l n 20 (a + n))
    .next ((s.setEr l { s.er l with row := some c, last := some c, ended := a + n }).erCheck l)

/-- ER_ROW_SKIPPED (R473): the reads are not done by the next capture instant. -/
def execErRowSkipped (l : Lane) (s : State) : Host.Outcome State Fault Refusal :=
  if s.erDue l then
    .next (((s.setEr l { s.er l with row := some (s.lane l).beaconCycle }).fInc (erB l) ER.COUNT_SKIP).raiseL l 0x119 255)
  else .next s

end Sys2Proof.Machine
end

