-- ==== Sys2Proof/Machine/Dispatch.lean ====
section
/-! DEFINITION. Which meaning each command has. -/

namespace Sys2Proof.Machine

open Sys2Proof

/-- The effect of a command on everything but the queue. -/
def exec (i : Instr) (s : State) : Host.Outcome State Fault Refusal :=
  match i with
  | .feedStart f => Sys2Proof.Machine.execFeedStart f s
  | .feedValidLost f => Sys2Proof.Machine.execFeedValidLost f s
  | .feedsBelowReset => Sys2Proof.Machine.execFeedsBelowReset s
  | .laneResetRelease l rail vhibLow => Sys2Proof.Machine.execLaneResetRelease l rail vhibLow s
  | .railFaultReset l rail => Sys2Proof.Machine.execRailFaultReset l rail s
  | .imageCheckDone l accepted version keySlot cfgDigest headerDigest => Sys2Proof.Machine.execImageCheckDone l accepted version keySlot cfgDigest headerDigest s
  | .logScanDone l => Sys2Proof.Machine.execLogScanDone l s
  | .startIncomplete => Sys2Proof.Machine.execStartIncomplete s
  | .chorusTimeout => Sys2Proof.Machine.execChorusTimeout s
  | .chorusCmpTestDone pass => Sys2Proof.Machine.execChorusCmpTestDone pass s
  | .startSweepDone l failed => Sys2Proof.Machine.execStartSweepDone l failed s
  | .cfgStartWrite l v => Sys2Proof.Machine.execCfgStartWrite l v s
  | .cfgDataWrite l v => Sys2Proof.Machine.execCfgDataWrite l v s
  | .digestWrite l n v => Sys2Proof.Machine.execDigestWrite l n v s
  | .cfgHashDone => Sys2Proof.Machine.execCfgHashDone s
  | .regParityError => Sys2Proof.Machine.execRegParityError s
  | .beacon periodA periodB periodW slipped => Sys2Proof.Machine.execBeacon periodA periodB periodW slipped s
  | .wakePin n => Sys2Proof.Machine.execWakePin n s
  | .rtcAlarm => Sys2Proof.Machine.execRtcAlarm s
  | .hibFeedSample belowA belowB => Sys2Proof.Machine.execHibFeedSample belowA belowB s
  | .vorLow => Sys2Proof.Machine.execVorLow s
  | .hibPowerOnReset => Sys2Proof.Machine.execHibPowerOnReset s
  | .temperatureThreshold l t => Sys2Proof.Machine.execTemperatureThreshold l t s
  | .dramFillDone l => Sys2Proof.Machine.execDramFillDone l s
  | .scrubRead l => Sys2Proof.Machine.execScrubRead l s
  | .memoryEccError l m addr uncorrectable => Sys2Proof.Machine.execMemoryEccError l m addr uncorrectable s
  | .inputRecordPost l contacts => Sys2Proof.Machine.execInputRecordPost l contacts s
  | .exchRecordReceive l skinkClocks => Sys2Proof.Machine.execExchRecordReceive l skinkClocks s
  | .exchDeadline => Sys2Proof.Machine.execExchDeadline s
  | .exchAbsentRun l => Sys2Proof.Machine.execExchAbsentRun l s
  | .vectorReady l => Sys2Proof.Machine.execVectorReady l s
  | .siViewDiff l idx => Sys2Proof.Machine.execSiViewDiff l idx s
  | .triggerFire l src => Sys2Proof.Machine.execTriggerFire l src s
  | .pendingTriggerStart l src => Sys2Proof.Machine.execPendingTriggerStart l src s
  | .jobStallEnd l j => Sys2Proof.Machine.execJobStallEnd l j s
  | .holdDone l j => Sys2Proof.Machine.execHoldDone l j s
  | .jobEndComplete l j => Sys2Proof.Machine.execJobEndComplete l j s
  | .jobBudgetExpiry l j => Sys2Proof.Machine.execJobBudgetExpiry l j s
  | .doorbellWrite l v => Sys2Proof.Machine.execDoorbellWrite l v s
  | .cqHiRead l => Sys2Proof.Machine.execCqHiRead l s
  | .laneTimerExpiry l n => Sys2Proof.Machine.execLaneTimerExpiry l n s
  | .machineTimer l core => Sys2Proof.Machine.execMachineTimer l core s
  | .nop l j w => Sys2Proof.Machine.execNop l j w s
  | .end_ l j w => Sys2Proof.Machine.execEnd l j w s
  | .wait l j w => Sys2Proof.Machine.execWait l j w s
  | .spawn l j w => Sys2Proof.Machine.execSpawn l j w s
  | .spawnArg l j w => Sys2Proof.Machine.execSpawnArg l j w s
  | .holdL l j w => Sys2Proof.Machine.execHoldL l j w s
  | .holdO l j w => Sys2Proof.Machine.execHoldO l j w s
  | .holdA l j w => Sys2Proof.Machine.execHoldA l j w s
  | .timeJ l j w => Sys2Proof.Machine.execTimeJ l j w s
  | .timeL l j w => Sys2Proof.Machine.execTimeL l j w s
  | .timeH l j w => Sys2Proof.Machine.execTimeH l j w s
  | .brT l j w => Sys2Proof.Machine.execBrT l j w s
  | .brF l j w => Sys2Proof.Machine.execBrF l j w s
  | .jmp l j w => Sys2Proof.Machine.execJmp l j w s
  | .psetCc l j w => Sys2Proof.Machine.execPsetCc l j w s
  | .psetCcz l j w => Sys2Proof.Machine.execPsetCcz l j w s
  | .psetaCc l j w => Sys2Proof.Machine.execPsetaCc l j w s
  | .psetaCcu l j w => Sys2Proof.Machine.execPsetaCcu l j w s
  | .plog l j w => Sys2Proof.Machine.execPlog l j w s
  | .ldb l j w => Sys2Proof.Machine.execLdb l j w s
  | .stb l j w => Sys2Proof.Machine.execStb l j w s
  | .lda l j w => Sys2Proof.Machine.execLda l j w s
  | .sta l j w => Sys2Proof.Machine.execSta l j w s
  | .aopAddi l j w => Sys2Proof.Machine.execAopAddi l j w s
  | .aopAdd l j w => Sys2Proof.Machine.execAopAdd l j w s
  | .aopSub l j w => Sys2Proof.Machine.execAopSub l j w s
  | .aopSet l j w => Sys2Proof.Machine.execAopSet l j w s
  | .aopAndi l j w => Sys2Proof.Machine.execAopAndi l j w s
  | .aopShl l j w => Sys2Proof.Machine.execAopShl l j w s
  | .aopSar l j w => Sys2Proof.Machine.execAopSar l j w s
  | .in_ l j w => Sys2Proof.Machine.execIn l j w s
  | .out l j w => Sys2Proof.Machine.execOut l j w s
  | .badd l j w => Sys2Proof.Machine.execBadd l j w s
  | .bsub l j w => Sys2Proof.Machine.execBsub l j w s
  | .bmul l j w => Sys2Proof.Machine.execBmul l j w s
  | .bmac l j w => Sys2Proof.Machine.execBmac l j w s
  | .bmsu l j w => Sys2Proof.Machine.execBmsu l j w s
  | .bdot l j w => Sys2Proof.Machine.execBdot l j w s
  | .bsum l j w => Sys2Proof.Machine.execBsum l j w s
  | .bmaxr l j w => Sys2Proof.Machine.execBmaxr l j w s
  | .bneg l j w => Sys2Proof.Machine.execBneg l j w s
  | .babs l j w => Sys2Proof.Machine.execBabs l j w s
  | .bmin l j w => Sys2Proof.Machine.execBmin l j w s
  | .bmax l j w => Sys2Proof.Machine.execBmax l j w s
  | .bclamp l j w => Sys2Proof.Machine.execBclamp l j w s
  | .blerp l j w => Sys2Proof.Machine.execBlerp l j w s
  | .brcp l j w => Sys2Proof.Machine.execBrcp l j w s
  | .brsq l j w => Sys2Proof.Machine.execBrsq l j w s
  | .bnorm l j w => Sys2Proof.Machine.execBnorm l j w s
  | .bexpE l j w => Sys2Proof.Machine.execBexpE l j w s
  | .bexpC l j w => Sys2Proof.Machine.execBexpC l j w s
  | .bexpS l j w => Sys2Proof.Machine.execBexpS l j w s
  | .bperm l j w => Sys2Proof.Machine.execBperm l j w s
  | .bsplat l j w => Sys2Proof.Machine.execBsplat l j w s
  | .bpick l j w => Sys2Proof.Machine.execBpick l j w s
  | .bins l j w => Sys2Proof.Machine.execBins l j w s
  | .bsetc l j w => Sys2Proof.Machine.execBsetc l j w s
  | .bsel l j w => Sys2Proof.Machine.execBsel l j w s
  | .bclarke l j w => Sys2Proof.Machine.execBclarke l j w s
  | .bclarke2 l j w => Sys2Proof.Machine.execBclarke2 l j w s
  | .bpark l j w => Sys2Proof.Machine.execBpark l j w s
  | .bipark l j w => Sys2Proof.Machine.execBipark l j w s
  | .bsvm l j w => Sys2Proof.Machine.execBsvm l j w s
  | .bsincos l j w => Sys2Proof.Machine.execBsincos l j w s
  | .batan2 l j w => Sys2Proof.Machine.execBatan2 l j w s
  | .tlu l j w => Sys2Proof.Machine.execTlu l j w s
  | .tluA l j w => Sys2Proof.Machine.execTluA l j w s
  | .bint l j w => Sys2Proof.Machine.execBint l j w s
  | .bintLu l j w => Sys2Proof.Machine.execBintLu l j w s
  | .bfixW l j w => Sys2Proof.Machine.execBfixW l j w s
  | .bfixD l j w => Sys2Proof.Machine.execBfixD l j w s
  | .bfltW l j w => Sys2Proof.Machine.execBfltW l j w s
  | .bfltD l j w => Sys2Proof.Machine.execBfltD l j w s
  | .bfltA l j w => Sys2Proof.Machine.execBfltA l j w s
  | .bconst l j w => Sys2Proof.Machine.execBconst l j w s
  | .axisRecordApply l n => Sys2Proof.Machine.execAxisRecordApply l n s
  | .pwmCompareEvent l n ph rising c forming => Sys2Proof.Machine.execPwmCompareEvent l n ph rising c forming s
  | .driveUpdate l n centre ru rv rw vbus => Sys2Proof.Machine.execDriveUpdate l n centre ru rv rw vbus s
  | .peakTrip l n ph rising c uv => Sys2Proof.Machine.execPeakTrip l n ph rising c uv s
  | .axOvercurrent l n => Sys2Proof.Machine.execAxOvercurrent l n s
  | .axSatLong l n => Sys2Proof.Machine.execAxSatLong l n s
  | .axSenseRange l n => Sys2Proof.Machine.execAxSenseRange l n s
  | .axRecTimeout l n => Sys2Proof.Machine.execAxRecTimeout l n s
  | .quadEdge l n both up clock => Sys2Proof.Machine.execQuadEdge l n both up clock s
  | .indexPulse l n ba rested => Sys2Proof.Machine.execIndexPulse l n ba rested s
  | .fbIndexMissing l n => Sys2Proof.Machine.execFbIndexMissing l n s
  | .hallChange l n code => Sys2Proof.Machine.execHallChange l n code s
  | .fbSamplePoint l n atBeacon clock => Sys2Proof.Machine.execFbSamplePoint l n atBeacon clock s
  | .ssiReadDone l n lineOk data status => Sys2Proof.Machine.execSsiReadDone l n lineOk data status s
  | .sentFrame l n f clock => Sys2Proof.Machine.execSentFrame l n f clock s
  | .fbSerialLost l n => Sys2Proof.Machine.execFbSerialLost l n s
  | .homeWrite l n => Sys2Proof.Machine.execHomeWrite l n s
  | .homecancelWrite l n => Sys2Proof.Machine.execHomecancelWrite l n s
  | .homeComplete l n => Sys2Proof.Machine.execHomeComplete l n s
  | .homeDrop l n => Sys2Proof.Machine.execHomeDrop l n s
  | .compareArm l n j v => Sys2Proof.Machine.execCompareArm l n j v s
  | .retentionCheckDone l n => Sys2Proof.Machine.execRetentionCheckDone l n s
  | .pgStep l n => Sys2Proof.Machine.execPgStep l n s
  | .pgMoveCmd l n => Sys2Proof.Machine.execPgMoveCmd l n s
  | .pgVelocityCmd l n => Sys2Proof.Machine.execPgVelocityCmd l n s
  | .pgStopCmd l n => Sys2Proof.Machine.execPgStopCmd l n s
  | .pgGearCmd l n => Sys2Proof.Machine.execPgGearCmd l n s
  | .pgCancelCmd l n => Sys2Proof.Machine.execPgCancelCmd l n s
  | .calStartDone l n zero ref => Sys2Proof.Machine.execCalStartDone l n zero ref s
  | .calRefDone l n zero ref => Sys2Proof.Machine.execCalRefDone l n zero ref s
  | .calConnect l n => Sys2Proof.Machine.execCalConnect l n s
  | .calOverlapDone l n rl ru => Sys2Proof.Machine.execCalOverlapDone l n rl ru s
  | .calSwitch l n => Sys2Proof.Machine.execCalSwitch l n s
  | .bemfTrimBit l p ph high => Sys2Proof.Machine.execBemfTrimBit l p ph high s
  | .calBemfStale l p ph => Sys2Proof.Machine.execCalBemfStale l p ph s
  | .pumpRecordApply l p => Sys2Proof.Machine.execPumpRecordApply l p s
  | .pumpZcSample l p ph high t epk vbus => Sys2Proof.Machine.execPumpZcSample l p ph high t epk vbus s
  | .pumpCommutate l p t => Sys2Proof.Machine.execPumpCommutate l p t s
  | .pumpPiUpdate l p vbus => Sys2Proof.Machine.execPumpPiUpdate l p vbus s
  | .pumpIlimTrip l p rising c uv => Sys2Proof.Machine.execPumpIlimTrip l p rising c uv s
  | .ppIlimLong l p => Sys2Proof.Machine.execPpIlimLong l p s
  | .ppBusHold l p => Sys2Proof.Machine.execPpBusHold l p s
  | .pumpCatchTimeout l p => Sys2Proof.Machine.execPumpCatchTimeout l p s
  | .pumpAlignEnd l p t => Sys2Proof.Machine.execPumpAlignEnd l p t s
  | .pumpStartTimeout l p => Sys2Proof.Machine.execPumpStartTimeout l p s
  | .pumpCoastEnd l p => Sys2Proof.Machine.execPumpCoastEnd l p s
  | .pumpBrakeEnd l p => Sys2Proof.Machine.execPumpBrakeEnd l p s
  | .ppRecTimeout l p => Sys2Proof.Machine.execPpRecTimeout l p s
  | .pumpStopped l p => Sys2Proof.Machine.execPumpStopped l p s
  | .cellShort l c hs => Sys2Proof.Machine.execCellShort l c hs s
  | .pcGateStuck l c hs => Sys2Proof.Machine.execPcGateStuck l c hs s
  | .pcVgdUvlo l => Sys2Proof.Machine.execPcVgdUvlo l s
  | .cellUvlo l c hs => Sys2Proof.Machine.execCellUvlo l c hs s
  | .uvloRecover l sw => Sys2Proof.Machine.execUvloRecover l sw s
  | .pcCpLimit l => Sys2Proof.Machine.execPcCpLimit l s
  | .edgeMeasure l c hs ns => Sys2Proof.Machine.execEdgeMeasure l c hs ns s
  | .pcAdaptLimit l c => Sys2Proof.Machine.execPcAdaptLimit l c s
  | .cmpRecordArrive l xFault yFault => Sys2Proof.Machine.execCmpRecordArrive l xFault yFault s
  | .cmpWindowClose tag kind index xFault yFault => Sys2Proof.Machine.execCmpWindowClose tag kind index xFault yFault s
  | .cmpDlyFault => Sys2Proof.Machine.execCmpDlyFault s
  | .cmpInjNoRecord => Sys2Proof.Machine.execCmpInjNoRecord s
  | .voteRecordStore => Sys2Proof.Machine.execVoteRecordStore s
  | .targetedTestDone l failed => Sys2Proof.Machine.execTargetedTestDone l failed s
  | .ckptGo l v => Sys2Proof.Machine.execCkptGo l v s
  | .ckptXfer l v => Sys2Proof.Machine.execCkptXfer l v s
  | .ckptSignaturePost l => Sys2Proof.Machine.execCkptSignaturePost l s
  | .ckptDeadline => Sys2Proof.Machine.execCkptDeadline s
  | .verdictWrite l v => Sys2Proof.Machine.execVerdictWrite l v s
  | .axolotlTimeout => Sys2Proof.Machine.execAxolotlTimeout s
  | .xfermaxExpiry => Sys2Proof.Machine.execXfermaxExpiry s
  | .debugHalt l => Sys2Proof.Machine.execDebugHalt l s
  | .debugActivate l => Sys2Proof.Machine.execDebugActivate l s
  | .siLevelAccept idx contactB closed => Sys2Proof.Machine.execSiLevelAccept idx contactB closed s
  | .siDiscrepancy idx => Sys2Proof.Machine.execSiDiscrepancy idx s
  | .soOffpulseStart idx => Sys2Proof.Machine.execSoOffpulseStart idx s
  | .soOffpulseEnd idx rb => Sys2Proof.Machine.execSoOffpulseEnd idx rb s
  | .soReadbackCheck idx rb => Sys2Proof.Machine.execSoReadbackCheck idx rb s
  | .rampPeriod => Sys2Proof.Machine.execRampPeriod s
  | .holdRelease => Sys2Proof.Machine.execHoldRelease s
  | .stateReqPark => Sys2Proof.Machine.execStateReqPark s
  | .stateReqHibernate => Sys2Proof.Machine.execStateReqHibernate s
  | .stateReqAxolotl => Sys2Proof.Machine.execStateReqAxolotl s
  | .stateReqRestart => Sys2Proof.Machine.execStateReqRestart s
  | .stateReqStop => Sys2Proof.Machine.execStateReqStop s
  | .sdCopyRx net slot sender seq len crc => Sys2Proof.Machine.execSdCopyRx net slot sender seq len crc s
  | .sdSingle j => Sys2Proof.Machine.execSdSingle j s
  | .sdTimeout j => Sys2Proof.Machine.execSdTimeout j s
  | .cmdPathLost => Sys2Proof.Machine.execCmdPathLost s
  | .holdRegPeriod => Sys2Proof.Machine.execHoldRegPeriod s
  | .holdHallChange h code => Sys2Proof.Machine.execHoldHallChange h code s
  | .standstillReached => Sys2Proof.Machine.execStandstillReached s
  | .speedCapExceeded l n => Sys2Proof.Machine.execSpeedCapExceeded l n s
  | .ssTimeout => Sys2Proof.Machine.execSsTimeout s
  | .faultEventEntry => Sys2Proof.Machine.execFaultEventEntry s
  | .logWrite l readBackOk => Sys2Proof.Machine.execLogWrite l readBackOk s
  | .collectorCheckFail c => Sys2Proof.Machine.execCollectorCheckFail c s
  | .fcPendAck l idx v => Sys2Proof.Machine.execFcPendAck l idx v s
  | .fcForceWrite l idx v => Sys2Proof.Machine.execFcForceWrite l idx v s
  | .fcClassWrite l idx v => Sys2Proof.Machine.execFcClassWrite l idx v s
  | .fcLogclr l v => Sys2Proof.Machine.execFcLogclr l v s
  | .skfcAck l v => Sys2Proof.Machine.execSkfcAck l v s
  | .skfcForce l v => Sys2Proof.Machine.execSkfcForce l v s
  | .scnListenTimeout l c => Sys2Proof.Machine.execScnListenTimeout l c s
  | .scnCycleStart l c guardDev => Sys2Proof.Machine.execScnCycleStart l c guardDev s
  | .scnCycleEnd l c => Sys2Proof.Machine.execScnCycleEnd l c s
  | .scnSlotPrepare l c slot dynid => Sys2Proof.Machine.execScnSlotPrepare l c slot dynid s
  | .scnTransmitStart l c at_ => Sys2Proof.Machine.execScnTransmitStart l c at_ s
  | .scnMinislotBoundary l c frameOnLine k => Sys2Proof.Machine.execScnMinislotBoundary l c frameOnLine k s
  | .scnFrameRx l c f sfd => Sys2Proof.Machine.execScnFrameRx l c f sfd s
  | .starFrameRx n port f sfd => Sys2Proof.Machine.execStarFrameRx n port f sfd s
  | .starFrameEnd n endAt => Sys2Proof.Machine.execStarFrameEnd n endAt s
  | .starCycleEnd n => Sys2Proof.Machine.execStarCycleEnd n s
  | .starGrantLapse n slot => Sys2Proof.Machine.execStarGrantLapse n slot s
  | .starLinkLoss n port => Sys2Proof.Machine.execStarLinkLoss n port s
  | .starEnWrite l v => Sys2Proof.Machine.execStarEnWrite l v s
  | .guardianViolation l c => Sys2Proof.Machine.execGuardianViolation l c s
  | .scnTxCommit l c e v => Sys2Proof.Machine.execScnTxCommit l c e v s
  | .scnTxDrop l c e => Sys2Proof.Machine.execScnTxDrop l c e s
  | .scnTxExpiry l c e => Sys2Proof.Machine.execScnTxExpiry l c e s
  | .scnModeRequest l c v => Sys2Proof.Machine.execScnModeRequest l c v s
  | .scnModeCancel l c => Sys2Proof.Machine.execScnModeCancel l c s
  | .scnSlotTrigger l n => Sys2Proof.Machine.execScnSlotTrigger l n s
  | .scnMissCounterRead l c w => Sys2Proof.Machine.execScnMissCounterRead l c w s
  | .canRxFrame l k f sofAgo => Sys2Proof.Machine.execCanRxFrame l k f sofAgo s
  | .canReintegrate l k => Sys2Proof.Machine.execCanReintegrate l k s
  | .canTxCommit l k e v => Sys2Proof.Machine.execCanTxCommit l k e v s
  | .canTxCancel l k e => Sys2Proof.Machine.execCanTxCancel l k e s
  | .canTxStart l k meas => Sys2Proof.Machine.execCanTxStart l k meas s
  | .canTxSuccess l k => Sys2Proof.Machine.execCanTxSuccess l k s
  | .canTxError l k ack dominantSeen => Sys2Proof.Machine.execCanTxError l k ack dominantSeen s
  | .canRecoverWrite l k v => Sys2Proof.Machine.execCanRecoverWrite l k v s
  | .canRecoveryDone l k => Sys2Proof.Machine.execCanRecoveryDone l k s
  | .canFifoRelease l k q v => Sys2Proof.Machine.execCanFifoRelease l k q v s
  | .canTtRefSend l k => Sys2Proof.Machine.execCanTtRefSend l k s
  | .canTtWindowStart l k col => Sys2Proof.Machine.execCanTtWindowStart l k col s
  | .canTtRefLost l k => Sys2Proof.Machine.execCanTtRefLost l k s
  | .xfence l core => Sys2Proof.Machine.execXfence l core s
  | .xfenceTimeout l core => Sys2Proof.Machine.execXfenceTimeout l core s
  | .dmaGo l ch => Sys2Proof.Machine.execDmaGo l ch s
  | .dmaStop l ch => Sys2Proof.Machine.execDmaStop l ch s
  | .dmaDescLoad l ch => Sys2Proof.Machine.execDmaDescLoad l ch s
  | .dmaDescComplete l ch => Sys2Proof.Machine.execDmaDescComplete l ch s
  | .dmaAbort l ch written => Sys2Proof.Machine.execDmaAbort l ch written s
  | .erRowCapture l => Sys2Proof.Machine.execErRowCapture l s
  | .erRowSkipped l => Sys2Proof.Machine.execErRowSkipped l s
  | .erFreezeCmd l => Sys2Proof.Machine.execErFreezeCmd l s
  | .erReleaseCmd l v => Sys2Proof.Machine.execErReleaseCmd l v s
  | .icArrival l idx e => Sys2Proof.Machine.execIcArrival l idx e s
  | .icSwset l core hi v => Sys2Proof.Machine.execIcSwset l core hi v s
  | .icPresent l core => Sys2Proof.Machine.execIcPresent l core s
  | .icTrapEntry l core => Sys2Proof.Machine.execIcTrapEntry l core s
  | .icEoi l core v => Sys2Proof.Machine.execIcEoi l core v s
  | .icSrcRead l core src => Sys2Proof.Machine.execIcSrcRead l core src s
  | .posLRead l n => Sys2Proof.Machine.execPosLRead l n s
  | .sposLRead l n => Sys2Proof.Machine.execSposLRead l n s
  | .rtcRead l => Sys2Proof.Machine.execRtcRead l s
  | .erraddrLRead l => Sys2Proof.Machine.execErraddrLRead l s
  | .bistSliceStart l slice => Sys2Proof.Machine.execBistSliceStart l slice s
  | .bistSliceEnd l slice sigOk restoreOk keyOk => Sys2Proof.Machine.execBistSliceEnd l slice sigOk restoreOk keyOk s
  | .bistSweepLate l => Sys2Proof.Machine.execBistSweepLate l s
  | .cryAttest l => Sys2Proof.Machine.execCryAttest l s
  | .cryInstall l => Sys2Proof.Machine.execCryInstall l s
  | .cryCommit l => Sys2Proof.Machine.execCryCommit l s
  | .cryAdvance l => Sys2Proof.Machine.execCryAdvance l s
  | .cryCmdDone l code signature => Sys2Proof.Machine.execCryCmdDone l code signature s
  | .axEnWrite l n v => Sys2Proof.Machine.execAxEnWrite l n v s
  | .fbEnWrite l n v => Sys2Proof.Machine.execFbEnWrite l n v s
  | .pgEnWrite l n v => Sys2Proof.Machine.execPgEnWrite l n v s
  | .ppEnWrite l p v => Sys2Proof.Machine.execPpEnWrite l p v s
  | .calEnWrite l v => Sys2Proof.Machine.execCalEnWrite l v s
  | .xchEnWrite l v => Sys2Proof.Machine.execXchEnWrite l v s
  | .ckptEnWrite l v => Sys2Proof.Machine.execCkptEnWrite l v s
  | .scnEnWrite l c v => Sys2Proof.Machine.execScnEnWrite l c v s
  | .canEnWrite l k v => Sys2Proof.Machine.execCanEnWrite l k v s
  | .erEnWrite l v => Sys2Proof.Machine.execErEnWrite l v s
  | .bistEnWrite l v => Sys2Proof.Machine.execBistEnWrite l v s
  | .pcCfgWrite l ofs v => Sys2Proof.Machine.execPcCfgWrite l ofs v s
  | .wakecfgWrite l v => Sys2Proof.Machine.execWakecfgWrite l v s
  | .registerWrite l addr v size hi => Sys2Proof.Machine.execRegisterWrite l addr v size hi s
  | .vorValid => Sys2Proof.Machine.execVorValid s
  | .wakeOneFeedTimeout => Sys2Proof.Machine.execWakeOneFeedTimeout s
  | .feedFallsBelowReset f => Sys2Proof.Machine.execFeedFallsBelowReset f s
  | .starLinkUp n port => Sys2Proof.Machine.execStarLinkUp n port s
  | .canRxError l k recAdd => Sys2Proof.Machine.execCanRxError l k recAdd s
  | .xfenceDone l core => Sys2Proof.Machine.execXfenceDone l core s
  | .skfcAgreeTimeout => Sys2Proof.Machine.execSkfcAgreeTimeout s

end Sys2Proof.Machine
end

