-- ==== Sys2Proof/Safety.lean ====
section
/-! DEFINITION. The terms in which claims are stated: a command that completes, an event as it is raised, the canonical form of
registers and memory, and the gates of the unit. -/

namespace Sys2Proof.Machine

open Sys2Proof

/-- The command answers a next state, and P holds of it. -/
def Completes (c : Instr) (s : State) (P : State → Prop) : Prop := ∃ t : State, exec c s = .next t ∧ P t

/-- The event e as the state at its detection stamps it (R371). -/
def State.stamp (s : State) (e : Event) : Event := { e with cycle := s.sk.cycle, time := s.now, before := s.sk.st }

/-- t is s with one more event on its way to Skink, and nothing else changed. -/
def Raises (s : State) (e : Event) (t : State) : Prop := t = { s with evq := s.evq ++ [s.stamp e] }

/-- An event of a Skink source is on its way in t. -/
def SkinkEvent (t : State) (src inst : Nat) : Prop := ∃ e ∈ t.evq, e.coll = .skink ∧ e.src = src ∧ e.inst = inst

/-- An event of a source of lane l is on its way in t. -/
def LaneEvent (t : State) (l : Lane) (src inst : Nat) : Prop := ∃ e ∈ t.evq, e.coll = .lane l ∧ e.src = src ∧ e.inst = inst

/-- The canonical form of memory: addresses strictly rising, no byte listed that an unlisted address reads as. -/
def Memory.wf (m : List Host.Cell) : Bool := famWf memDefault m

/-- The canonical form of the registers: numbers strictly rising, no register listed at its reset value. -/
def Registers.wf (r : List (Nat × Word)) : Bool := famWf regDefault r

/-- Registers and memory are in their canonical forms. -/
def State.canonical (s : State) : Bool := Registers.wf s.regs && Memory.wf s.mem

/-- Both gates of n cells from cell c up are off. -/
def State.gatesAreOff (s : State) (l : DLane) (c n : Nat) : Prop := ∀ i, c ≤ i → i < c + n → ∀ hs, s.gateOn l i hs = false

/-- Every gate of the unit is off. -/
def State.unitGatesOff (s : State) : Prop := ∀ l, s.gatesAreOff l 0 24

/-- Every byte of every lane's memory reads in t as in s. -/
def SameMemory (s t : State) : Prop := ∀ l a, t.rd8 l a = s.rd8 l a

/-- Every register reads in t as in s. -/
def SameRegisters (s t : State) : Prop := ∀ k, t.reg k = s.reg k

/-- Every register but those listed reads in t as in s. -/
def SameRegistersBut (s t : State) (ks : List Nat) : Prop := ∀ k, k ∉ ks → t.reg k = s.reg k

/-! Jobs of the loop engine -/

/-- The commands of the 75 forms of Dollith in slot j of lane l with word w, each with its opcode and its first flags value (R102). -/
def dollithForms (l : Lane) (j : Fin 256) (w : DWord) : List (Instr × Nat × Nat) := [
  (.nop l j w, 0x01, 0), (.end_ l j w, 0x02, 0), (.wait l j w, 0x03, 0), (.spawn l j w, 0x04, 0), (.spawnArg l j w, 0x04, 1),
  (.holdL l j w, 0x05, 1), (.holdO l j w, 0x05, 2), (.holdA l j w, 0x05, 3), (.timeJ l j w, 0x06, 0), (.timeL l j w, 0x06, 1),
  (.timeH l j w, 0x06, 2), (.brT l j w, 0x08, 0), (.brF l j w, 0x08, 1), (.jmp l j w, 0x09, 0), (.psetCc l j w, 0x0a, 0),
  (.psetCcz l j w, 0x0a, 8), (.psetaCc l j w, 0x0b, 0), (.psetaCcu l j w, 0x0b, 8), (.plog l j w, 0x0c, 0), (.ldb l j w, 0x10, 0),
  (.stb l j w, 0x11, 0), (.lda l j w, 0x12, 0), (.sta l j w, 0x13, 0), (.aopAddi l j w, 0x14, 0), (.aopAdd l j w, 0x14, 1),
  (.aopSub l j w, 0x14, 2), (.aopSet l j w, 0x14, 3), (.aopAndi l j w, 0x14, 4), (.aopShl l j w, 0x14, 5), (.aopSar l j w, 0x14, 6),
  (.in_ l j w, 0x18, 0), (.out l j w, 0x19, 0), (.badd l j w, 0x20, 0), (.bsub l j w, 0x21, 0), (.bmul l j w, 0x22, 0),
  (.bmac l j w, 0x23, 0), (.bmsu l j w, 0x24, 0), (.bdot l j w, 0x25, 0), (.bsum l j w, 0x26, 0), (.bmaxr l j w, 0x27, 0),
  (.bneg l j w, 0x28, 0), (.babs l j w, 0x29, 0), (.bmin l j w, 0x2a, 0), (.bmax l j w, 0x2b, 0), (.bclamp l j w, 0x2c, 0),
  (.blerp l j w, 0x2d, 0), (.brcp l j w, 0x2e, 0), (.brsq l j w, 0x2f, 0), (.bnorm l j w, 0x30, 0), (.bexpE l j w, 0x31, 0),
  (.bexpC l j w, 0x31, 1), (.bexpS l j w, 0x31, 2), (.bperm l j w, 0x38, 0), (.bsplat l j w, 0x39, 0), (.bpick l j w, 0x3a, 0),
  (.bins l j w, 0x3b, 0), (.bsetc l j w, 0x3c, 0), (.bsel l j w, 0x3d, 0), (.bclarke l j w, 0x40, 0), (.bclarke2 l j w, 0x40, 1),
  (.bpark l j w, 0x41, 0), (.bipark l j w, 0x42, 0), (.bsvm l j w, 0x43, 0), (.bsincos l j w, 0x44, 0), (.batan2 l j w, 0x45, 0),
  (.tlu l j w, 0x48, 0), (.tluA l j w, 0x48, 1), (.bint l j w, 0x49, 0), (.bintLu l j w, 0x49, 1), (.bfixW l j w, 0x50, 0),
  (.bfixD l j w, 0x50, 1), (.bfltW l j w, 0x51, 0), (.bfltD l j w, 0x51, 1), (.bfltA l j w, 0x51, 2), (.bconst l j w, 0x52, 0)]

/-- The word is of the form of opcode op and flags from lo up, and sets no bit that the form reserves (R100, R101). -/
def legalWord (w : DWord) (op lo : Nat) : Bool :=
  (formOf (insOf w)).any fun f => f.op == op && f.lo == lo && f.legal (insOf w)

/-- What a job has in flight lies where jobs may write it: a store below 0xF_6000, a record of eight words in the mirror (R71). -/
def Fly.inBounds : Fly → Bool
  | .store a bs => decide (a + bs.length ≤ 0xf6000)
  | .mirror r => decide (r.kind * 64 + r.index < 512) && decide (r.pay.length ≤ 6)

/-- Every slot but slot j of lane l holds in t the job it holds in s. -/
def SameJobsBut (s t : State) (l : Lane) (j : Nat) : Prop :=
  ∀ l' n, laneNo l' * 256 + n ≠ laneNo l * 256 + j → t.job l' n = s.job l' n

/-- What an instruction of slot j in lane l does: the command completes; the job is x, but for what it has in flight; the bytes of
local memory below 0xF_8000 read to the job as f says (R91); the events es are raised; registers, the unit's state and every
other job stay, and so does memory while nothing is in flight before or after. -/
def Leaves (c : Instr) (s : State) (l : Lane) (j : Nat) (x : Job) (f : Nat → Byte) (es : List Event) : Prop :=
  Completes c s fun t =>
    { t.job l j with fly := [] } = { x with fly := [] } ∧ (∀ b < 0xf8000, t.jobByte l (t.job l j) b = f b) ∧ SameJobsBut s t l j ∧
    t.regs = s.regs ∧ t.sk = s.sk ∧ t.evq = s.evq ++ es ∧ (x.fly = [] → t.mem = s.mem)

/-- An instruction that changes only the job's registers: the job goes on, as x, with the next word (R87). -/
def GoesOn (c : Instr) (s : State) (l : Lane) (j : Nat) (x : Job) : Prop :=
  Leaves c s l j { x with st := .running, pc := (s.job l j).pc + 8 } (s.jobByte l (s.job l j)) []

/-- Exact values f 0 to f (n - 1) over one denominator. -/
def ratios (n d : Nat) (f : Nat → Int) : List Ex := (List.range n).map fun k => .frac (f k) d

/-- A normalised block (R66, R67): absent elements are 0; all mantissas 0 with e = -128, or the largest in 2^22 to 2^23 - 1. -/
def Blk.normal (b : Blk) : Bool :=
  decide (1 ≤ b.n) && decide (b.n ≤ 8) && b.m.length == 8 && (b.m.drop b.n).all (· == 0) &&
  (b.m.all (· == 0) && b.e == -128 ||
   decide (-127 ≤ b.e) && decide (b.e ≤ 127) && b.m.all (fun m => decide (m.natAbs < 2 ^ 23)) &&
     b.m.any (fun m => decide (2 ^ 22 ≤ m.natAbs)))

/-- m is n / d at the unit 2^u, rounded to the nearest integer, ties to even. -/
def Nearest (n : Int) (d : Nat) (u m : Int) : Prop :=
  let x : Rat := (n : Rat) / d / (2 : Rat) ^ u
  |x - m| ≤ 1 / 2 ∧ (|x - m| = 1 / 2 → m % 2 = 0)

end Sys2Proof.Machine
end

