-- ==== Sys2Proof/Certificates/Slice0/Obligations.lean ====
section
/-! DEFINITION. The statements about the unit. Each docstring says what is stated and which rules of spec/ it comes from. -/

open Sys2Proof Sys2Proof.Machine

/-! The block and its queue -/

/-- A step runs the command at the front of the queue over the queue's rest. -/
def Obligations.StepRunsFrontCommand : Prop :=  ∀ (s : State) (c : Instr) (rest : List Instr), s.pending = c :: rest →
    step s = exec c { s with pending := rest }

/-- With an empty queue a step lets one nanosecond pass (model's choice, assumption 5): model time goes on, a lane out of reset
whose oscillator is not trimmed counts it, a lane in reset does not, and no register changes. -/
def Obligations.IdleStepPassesTime : Prop :=  ∀ s : State, s.pending = [] → ∃ t, step s = .next t ∧ t.now = s.now + 1 ∧ t.pending = [] ∧ SameRegisters s t ∧
    (∀ l, (s.lane l).reset = true → (t.lane l).unitTime = (s.lane l).unitTime) ∧
    (∀ l, (s.lane l).reset = false → s.fb (calB l) CAL.CTRL_OSCEN = false →
      (t.lane l).unitTime = (s.lane l).unitTime + 2 ^ 40)

/-- No command stops the unit: the specification gives every row of the table an effect, a refusal by the unit included.
No command touches the queue: it is taken from it by the step alone. -/
def Obligations.EveryCommandAnswers : Prop :=
  (∀ (c : Instr) (s : State), ∃ t, exec c s = .next t) ∧
  (∀ (c : Instr) (s t : State), exec c s = .next t → t.pending = s.pending)

/-- Registers and memory keep their canonical forms through every step (assumptions 2 and 3 give the forms). -/
def Obligations.StepKeepsCanonicalForm : Prop :=  ∀ s t : State, s.canonical = true → step s = .next t → t.canonical = true

/-- The state after reset: Off, both feeds invalid, every lane in reset, the counter 0 and T its default of 50 µs, shares
50/50, every gate off, no event on its way, and registers and memory in their canonical forms. -/
def Obligations.ResetState : Prop :=  State.reset.sk.st = .off ∧ State.reset.sk.feedA = false ∧ State.reset.sk.feedB = false ∧ State.reset.sk.locked = false ∧
  (∀ l, (State.reset.lane l).reset = true) ∧ State.reset.sk.cycle = 0 ∧ State.reset.sk.t = 50 ∧ State.reset.sk.share = [] ∧
  State.reset.unitGatesOff ∧ State.reset.evq = [] ∧ State.reset.pending = [] ∧ State.reset.canonical = true

/-- The LOCKED flag (R37): an event at C4 sets it, whatever the state; while it is set a restart request is refused with
SKINK.0x013 and the state stays; it stays set through every command but the loss of both feeds, and that clears it. -/
def Obligations.LockedUntilBothFeedsLost : Prop :=  (∀ (e : Event) (s : State), s.evq = [e] → s.classOf e = 4 → e.restoring = false → s.resRemoved e.res = false →
    s.resRestoring e.res = false → Completes .faultEventEntry s fun t => t.sk.locked = true) ∧
  (∀ (n : Nat) (s : State), s.sk.locked = true → s.sk.req = some ⟨4, n⟩ → Completes .stateReqRestart s fun t =>
    t.sk.st = s.sk.st ∧ t.sk.locked = true ∧ t.sk.req = none ∧ t.evq = s.evq ++ [s.stamp { coll := .skink, src := 0x13 }]) ∧
  (∀ (c : Instr) (s t : State), s.sk.locked = true → c ≠ .feedsBelowReset → exec c s = .next t → t.sk.locked = true) ∧
  (∀ s : State, Completes .feedsBelowReset s fun t => t.sk.locked = false)

/-! Feeds, resets and the hibernate domain -/

/-- A valid feed takes Off to Tadpole with every lane in reset and every gate off; the loss of both feeds goes to Off from every
state and clears LOCKED, BROKEN and the failed attempts; one feed's fall resets its star's registers.
A feed that falls below its valid threshold while Skink runs raises SKINK.0x040 or 0x041 with the feed as resource, holds its
lane in reset with its enables low and turns its gates off; a rail out of its window does so with RSTCAUSE.RAIL. -/
def Obligations.FeedsAndSuppliesMoveTheUnit : Prop :=
  ((∀ (f : DLane) (s : State), s.sk.st = .off → Completes (.feedStart f) s fun t =>
    t.sk.st = .tadpole ∧ (∀ l, (t.lane l).reset = true) ∧ t.unitGatesOff ∧ t.sk.removed = [] ∧ t.tab.ovf = false ∧
    (f = .A → t.sk.feedA = true) ∧ (f = .B → t.sk.feedB = true)) ∧
  (∀ (f : DLane) (s : State), s.sk.st ≠ .off → Completes (.feedStart f) s fun t =>
    t.sk.st = s.sk.st ∧ t.regs = s.regs ∧ t.mem = s.mem ∧ (f = .A → t.sk.feedA = true) ∧ (f = .B → t.sk.feedB = true)) ∧
  (∀ s : State, Completes .feedsBelowReset s fun t =>
    t.sk.st = .off ∧ t.sk.locked = false ∧ t.unitGatesOff ∧
    ∀ l, (t.lane l).reset = true ∧ (t.lane l).broken = false ∧ (t.lane l).attempts = 0 ∧ (t.lane l).debugSeen = false) ∧
  (∀ (f : DLane) (s : State), Completes (.feedFallsBelowReset f) s fun t =>
    t.mem = s.mem ∧ t.sk.st = s.sk.st ∧ t.star f = {} ∧
    (f = .A → t.sk.feedA = false ∧ t.sk.aboveA = false) ∧ (f = .B → t.sk.feedB = false ∧ t.sk.aboveB = false))) ∧
  ((∀ (f : DLane) (s : State), (f = .A → s.sk.feedA = true) → (f = .B → s.sk.feedB = true) →
    s.sk.st ≠ .off → s.sk.st ≠ .hibernate → Completes (.feedValidLost f) s fun t =>
      (t.lane f.lane).reset = true ∧ (t.lane f.lane).enRun = false ∧ (t.lane f.lane).enMem = false ∧
      (t.lane f.lane).debugSeen = false ∧ t.gatesAreOff f 0 24 ∧ t.mem = s.mem ∧
      (∃ e ∈ t.evq, e.coll = .skink ∧ e.src = 0x40 + dno f ∧ e.res = 4 + dno f)) ∧
  (∀ (l : Lane) (rail : Fin 7) (s : State), rail.val ≠ 0 → s.sk.vor = true → Completes (.railFaultReset l rail) s fun t =>
      (t.lane l).reset = true ∧ (t.lane l).rails = false ∧ t.fg (pwrB l) PWR.RSTCAUSE_RAIL = rail.val ∧ t.mem = s.mem ∧
      (∀ d : DLane, d.lane = l → t.gatesAreOff d 0 24)))

/-- In Tadpole, a lane whose feeds allow it and which Skink does not hold leaves reset 2 ms after its time 0 when the rails are in their
windows; with a rail out of its window it stays in reset and RSTCAUSE names the rail (R512, R516).
A wake pin or the RTC alarm, where enabled, is recorded in CAUSE; it takes Park to Tadpole and in Hibernate sets KEEPOFF
low; VOR then starts Skink in Tadpole, and after 500 ms the
lanes of the one valid feed may start. -/
def Obligations.ResetsAndWakesStartTheUnit : Prop :=
  (∀ (l : Lane) (rail : Fin 7) (low : Bool) (s : State),
    (s.lane l).reset = true → s.sk.vor = true → s.feedOf l = true → s.sk.waitBoth = false → (s.lane l).broken = false →
    s.sk.leftOut = none → s.sk.st = .tadpole → s.past (famGet (fun _ => 0) s.sk.up (laneNo l)) (2 * 10 ^ 6) = true →
    Completes (.laneResetRelease l rail low) s fun t =>
      (t.lane l).enMem = true ∧ (t.lane l).enRun = true ∧
      (rail.val = 0 → (t.lane l).reset = false ∧ (t.lane l).rails = true ∧
        (t.fb (pwrB l) PWR.STATUS_SRKEPT = ((s.lane l).enMem && s.fg hibB HIB.STATUS_SLEEP == 2)) ∧
        t.fb hibB HIB.STATUS_VHIBLOW = low ∧ ∀ e ∈ t.tab.open_, e.coll ≠ .lane l) ∧
      (rail.val ≠ 0 → (t.lane l).reset = true ∧ t.fg (pwrB l) PWR.RSTCAUSE_RAIL = rail.val ∧ t.mem = s.mem)) ∧
  ((∀ (n : Fin 4) (s : State), (s.fg hibB HIB.WAKECFG_EN).testBit n.val = true → s.sk.st = .park →
    Completes (.wakePin n) s fun t => t.sk.st = .tadpole ∧ (t.fg hibB HIB.STATUS_CAUSE).testBit n.val = true) ∧
  (∀ (n : Fin 4) (s : State), (s.fg hibB HIB.WAKECFG_EN).testBit n.val = true → s.sk.st = .hibernate →
    Completes (.wakePin n) s fun t => t.sk.keepOff = false ∧ t.sk.st = .hibernate ∧ t.mem = s.mem ∧
      (t.fg hibB HIB.STATUS_CAUSE).testBit n.val = true) ∧
  (∀ s : State, s.fb hibB HIB.WAKECFG_ALARMEN = true → s.rtcSec = (s.reg (hibB + 0x110)).toNat → s.sk.st = .park →
    Completes .rtcAlarm s fun t => t.sk.st = .tadpole ∧ (t.fg hibB HIB.STATUS_CAUSE).testBit 4 = true) ∧
  (∀ s : State, s.sk.st = .hibernate → s.sk.keepOff = false → Completes .vorValid s fun t =>
    t.sk.st = .tadpole ∧ t.sk.vor = true ∧ ∀ l, (t.lane l).reset = true) ∧
  (∀ s : State, s.sk.st = .tadpole → s.sk.waitBoth = true → s.sk.feedA = true → s.sk.feedB = false →
    s.past s.sk.wakeAt (500 * 10 ^ 6) = true → Completes .wakeOneFeedTimeout s fun t =>
      t = { s with sk := { s.sk with waitBoth := false, leftOut := some .B, up := t.sk.up } } ∧
      ∀ n < 3, famGet (fun _ => 0) t.sk.up n = s.now))

/-- The hibernate domain zeroes the axis retention areas of all three lanes and clears SLEEP when VOR fails with SLEEP 0 or 2, or
in Hibernate with both feeds below the reset threshold; a power-on reset sets VHIBLOSS; the rest of each retention SRAM keeps
its bytes in the first two cases (R518, R519).
The registers of the power and clock block: WAKECFG refuses a pin enabled with MODE 3 and raises 0x025, else it takes the
14 bits written; the RTC read returns the seconds and changes RTCSUB alone; a crossing of 135 or 150 °C raises 0x021 or 0x022. -/
def Obligations.HibernateDomainAndPowerRegisters : Prop :=
  ((∀ s : State, (s.fg hibB HIB.STATUS_SLEEP = 0 ∨ s.fg hibB HIB.STATUS_SLEEP = 2) → Completes .vorLow s fun t =>
    t.sk.vor = false ∧ t.fg hibB HIB.STATUS_SLEEP = 0 ∧
    (∀ l : Lane, ∀ a, 0x30000000 ≤ a → a < 0x30000100 → t.rd8 (laneNo l) a = 0) ∧
    (∀ l : Lane, ∀ a, a < 0x30000000 ∨ (0x30000100 ≤ a ∧ a < 2 ^ 40) → t.rd8 (laneNo l) a = s.rd8 (laneNo l) a)) ∧
  (∀ s : State, s.sk.st = .hibernate → Completes (.hibFeedSample true true) s fun t =>
    t.fg hibB HIB.STATUS_SLEEP = 0 ∧
    (∀ l : Lane, ∀ a, 0x30000000 ≤ a → a < 0x30000100 → t.rd8 (laneNo l) a = 0) ∧
    (∀ l : Lane, ∀ a, a < 0x30000000 ∨ (0x30000100 ≤ a ∧ a < 2 ^ 40) → t.rd8 (laneNo l) a = s.rd8 (laneNo l) a)) ∧
  (∀ s : State, s.sk.st ≠ .hibernate → ∀ a b, exec (.hibFeedSample a b) s = .next s) ∧
  (∀ s : State, Completes .hibPowerOnReset s fun t =>
    t.fg hibB HIB.STATUS_VHIBLOSS = 1 ∧ t.fg hibB HIB.STATUS_SLEEP = 0 ∧
    (∀ l : Lane, ∀ a, a < 0x30000000 ∨ (0x30001000 ≤ a ∧ a < 2 ^ 40) → t.rd8 (laneNo l) a = s.rd8 (laneNo l) a))) ∧
  ((∀ (l : Lane) (v : Word) (s : State), (s.lane l).reset = false →
    (∃ n : Fin 4, v.getLsbD n.val = true ∧ v.toNat / 2 ^ (4 + 2 * n.val) % 4 = 3) →
    Completes (.wakecfgWrite l v) s (Raises s { coll := .lane l, src := 0x25, res := resLane l })) ∧
  (∀ (l : Lane) (v : Word) (s : State), (s.lane l).reset = false →
    (∀ n : Fin 4, v.getLsbD n.val = true → v.toNat / 2 ^ (4 + 2 * n.val) % 4 ≠ 3) →
    Completes (.wakecfgWrite l v) s fun t =>
      t.reg (hibB + 0x104) = BitVec.ofNat 32 (v.toNat % 2 ^ 14) ∧ SameRegistersBut s t [hibB + 0x104] ∧ t.mem = s.mem ∧ t.evq = s.evq) ∧
  (∀ (l : Lane) (s : State), (s.lane l).reset = false → Completes (.rtcRead l) s fun t =>
      t.readData = BitVec.ofNat 32 s.rtcSec ∧ SameRegistersBut s t [hibB + 0x10c] ∧ t.mem = s.mem ∧ t.evq = s.evq ∧ t.sk = s.sk) ∧
  (∀ (l : Lane) (x : Int) (s : State), (s.lane l).reset = false → s.fi (pwrB l) PWR.TEMP_DIE ≤ 1080 → 1080 < x → x ≤ 1200 →
    Completes (.temperatureThreshold l x) s fun t =>
      t.evq = s.evq ++ [s.stamp { coll := .lane l, src := 0x21, res := resLane l }] ∧ t.fi (pwrB l) PWR.TEMP_DIE = x ∧
      SameRegistersBut s t [pwrB l + PWR.TEMP_DIE.ofs] ∧ t.mem = s.mem) ∧
  (∀ (l : Lane) (x : Int) (s : State), (s.lane l).reset = false → 1080 < s.fi (pwrB l) PWR.TEMP_DIE →
    s.fi (pwrB l) PWR.TEMP_DIE ≤ 1200 → 1200 < x →
    Completes (.temperatureThreshold l x) s fun t =>
      t.evq = s.evq ++ [s.stamp { coll := .lane l, src := 0x22, res := resLane l }] ∧
      SameRegistersBut s t [pwrB l + PWR.TEMP_DIE.ofs] ∧ t.mem = s.mem))

/-! Start, Chorus and configuration; the unit cycle; the input exchange -/

/-- A lane's verified image is reported when Tadpole accepts the bank in turn and its version is not below the rollback counter: its
sections are loaded and the cores start in M mode. The third report ends Tadpole in Chorus; a second refusal raises 0x161 (R40, R504, R505).
Tadpole and Chorus end in Safe Hold when their time is up, 500 ms after the first lane's release and 150 ms after the entry, with
SKINK.0x060 or 0x061, and when a Chorus test fails (R40).
Chorus goes to Service, or to Bench with BENCH = 1, when the last of its checks passes, and not before; the LK fields of all
lanes are locked from then on (R7, R40). -/
def Obligations.StartEndsInChorusServiceOrSafeHold : Prop :=
  ((∀ (l : Lane) (v : Fin 65) (k : Fin 4) (c h : BitVec 256) (s : State), (s.lane l).reset = false → (s.lane l).verified = false →
    (s.lane l).bootBad < 2 → (s.lane l).rollback ≤ v.val → Completes (.imageCheckDone l true v k c h) s fun t =>
      (t.lane l).verified = true ∧ t.fg (cryB l) CRY.BOOTINFO_VERSION = v.val ∧ t.fg (cryB l) CRY.BOOTINFO_KEYSLOT = k.val ∧
      t.fg (cryB l) CRY.STATUS_KEYOK = 1 ∧ (t.lane l).user = [] ∧
      t.mem = (s.loadImage l (if (s.lane l).bootBad = 0 then (s.lane l).bootPref else 1 - (s.lane l).bootPref)).mem ∧
      (s.sk.st = .tadpole → (∀ m, m ≠ l → (s.lane m).verified = true) → t.sk.st = .chorus) ∧
      ((∃ m, m ≠ l ∧ (s.lane m).verified = false) → t.sk = s.sk)) ∧
  (∀ (l : Lane) (v : Fin 65) (k : Fin 4) (c h : BitVec 256) (s : State), (s.lane l).reset = false → (s.lane l).verified = false →
    (s.lane l).bootBad = 1 → Completes (.imageCheckDone l false v k c h) s fun t =>
      (t.lane l).verified = false ∧ (t.lane l).bootBad = 2 ∧ t.sk = s.sk ∧ t.regs = s.regs ∧ t.mem = s.mem ∧
      t.evq = s.evq ++ [s.stamp { coll := .lane l, src := 0x161, res := resLane l }])) ∧
  ((∀ (r : Nat) (s : State), s.sk.st = .tadpole → s.sk.relAt = some r → s.past r (500 * 10 ^ 6) = true → Completes .startIncomplete s fun t =>
    t.sk.st = .safeHold ∧ t.unitGatesOff ∧ SkinkEvent t 0x60 255 ∧ t.mem = s.mem) ∧
  (∀ s : State, s.sk.st = .chorus → s.past s.sk.chorusAt (150 * 10 ^ 6) = true → Completes .chorusTimeout s fun t =>
    t.sk.st = .safeHold ∧ t.unitGatesOff ∧ SkinkEvent t 0x61 255 ∧ t.mem = s.mem) ∧
  (∀ s : State, s.sk.st = .chorus → Completes (.chorusCmpTestDone false) s fun t =>
    t.sk.st = .safeHold ∧ t.unitGatesOff ∧ t.mem = s.mem) ∧
  (∀ (l : Lane) (n : Fin 72) (s : State), s.sk.st = .chorus → (s.lane l).reset = false → sliceAbsent l n.val = false →
    Completes (.startSweepDone l [n]) s fun t => t.sk.st = .safeHold ∧ (t.lane l).reset = true ∧ LaneEvent t l 0x150 n.val) ∧
  (∀ s : State, (s.sk.st ≠ .tadpole ∨ s.sk.relAt = none) → exec .startIncomplete s = .next s) ∧
  (∀ s : State, (s.sk.st ≠ .chorus ∨ s.past s.sk.chorusAt (150 * 10 ^ 6) = false) → exec .chorusTimeout s = .next s)) ∧
  ((∀ s : State, s.sk.st = .chorus → s.sk.cfgOk = true → (∀ l, (s.lane l).swept = true) →
    Completes (.chorusCmpTestDone true) s fun t =>
      t.sk.st = (if s.cfgBench then .bench else .service) ∧ (∀ l, (t.lane l).locked = true) ∧ t.regs = s.regs ∧ t.mem = s.mem) ∧
  (∀ s : State, s.sk.st = .chorus → s.sk.cfgOk = false → Completes (.chorusCmpTestDone true) s fun t =>
      t = { s with sk := { s.sk with cmpOk := true } }) ∧
  (∀ (l : Lane) (s : State), s.sk.st = .chorus → (s.lane l).reset = false → s.sk.cfgOk = true → s.sk.cmpOk = true →
    (∀ m, m ≠ l → (s.lane m).swept = true) → Completes (.startSweepDone l []) s fun t =>
      t.sk.st = (if s.cfgBench then .bench else .service) ∧ (∀ m, (t.lane m).locked = true) ∧ t.mem = s.mem))

/-- Lane A loads the configuration block word by word before it is accepted: a start discards the words received so far, and each
data write appends one of at most 128; no other lane's write, and none after acceptance, does anything (R331).
In Chorus, once 128 words and every lane's digest are written, the block is accepted if all three digests are its SHA-256
and every field is in range; with a digest that differs the unit goes to Safe Hold with SKINK.0x010, and with a field out of
range with SKINK.0x012 (R331).
A parity error of Skink's registers raises SKINK.0x011 after a block is accepted, and nothing before (R332). -/
def Obligations.ConfigurationLoadsAndIsChecked : Prop :=
  ((∀ (v : Word) (s : State), (s.lane .A).reset = false → s.sk.cfg = [] → v.getLsbD 0 = true →
    Completes (.cfgStartWrite .A v) s fun t => t = { s with sk := { s.sk with loading := true, words := [], cfgResult := 0 } }) ∧
  (∀ (v : Word) (s : State), (s.lane .A).reset = false → s.sk.cfg = [] → s.sk.loading = true → s.sk.words.length < 128 →
    Completes (.cfgDataWrite .A v) s fun t => t = { s with sk := { s.sk with words := v :: s.sk.words } }) ∧
  (∀ (l : Lane) (v : Word) (s : State), (l ≠ .A ∨ s.sk.cfg ≠ []) →
    exec (.cfgStartWrite l v) s = .next s ∧ exec (.cfgDataWrite l v) s = .next s) ∧
  (∀ (l : Lane) (n : Fin 8) (v : Word) (s : State), (s.lane l).reset = false → s.sk.cfg = [] →
    Completes (.digestWrite l n v) s fun t =>
      t.reg (skOwnB l + 0x60 + 4 * n.val) = v ∧ SameRegistersBut s t [skOwnB l + 0x60 + 4 * n.val] ∧ t.mem = s.mem ∧
      t.sk = s.sk ∧ t.evq = s.evq)) ∧
  (∀ s : State, s.sk.st = .chorus → s.sk.cfg = [] → s.sk.words.length = 128 → (∀ l, (s.lane l).digestAll = true) →
    let b := s.sk.words.reverse
    let h := sha256 (b.flatMap fun w => natLe 4 w.toNat)
    ((∀ l, s.laneDigest l = h) → cfgInRange b = true → Completes .cfgHashDone s fun t =>
      t.sk.cfg = b ∧ t.sk.cfgResult = 1 ∧ t.sk.cfgOk = true ∧ t.regs = s.regs ∧ t.mem = s.mem ∧
      t.sk.tNew = (if blkField b 4 7 0 = s.sk.t then none else some (blkField b 4 7 0))) ∧
    ((∀ l, s.laneDigest l = h) → cfgInRange b = false → Completes .cfgHashDone s fun t =>
      t.sk.st = .safeHold ∧ t.sk.cfg = [] ∧ t.sk.cfgResult = 3 ∧ SkinkEvent t 0x12 255 ∧ t.mem = s.mem) ∧
    ((∃ l, s.laneDigest l ≠ h) → Completes .cfgHashDone s fun t =>
      t.sk.st = .safeHold ∧ t.sk.cfg = [] ∧ t.sk.cfgResult = 2 ∧ SkinkEvent t 0x10 255 ∧ t.mem = s.mem)) ∧
  ((∀ s : State, s.sk.cfg ≠ [] → Completes .regParityError s (Raises s { coll := .skink, src := 0x11 })) ∧
  (∀ s : State, s.sk.cfg = [] → exec .regParityError s = .next s))

/-- A beacon adds 1 to the 32-bit counter modulo 2^32, brings in a new T, clears slot k mod 64 of an unfrozen vote buffer, and
starts the exchange anew: no record is present and nothing is published (R25, R310, R328).
Each running lane raises 0x014 when a period differs from T by more than 2 %, but for the one that ends where a new T takes
effect (R18).
At beacon d + 2 the share of every motor is the survivor's, and the Single caps apply (R48). -/
def Obligations.BeaconAdvancesTheUnitCycle : Prop :=
  (∀ (pA pB pW : Nat) (slipped : List (DLane × Fin 6)) (s : State), s.sk.st.active = true → s.sk.req = none →
    Completes (.beacon pA pB pW slipped) s fun t =>
      t.sk.cycle = (s.sk.cycle + 1) % 2 ^ 32 ∧ t.sk.t = s.sk.tNew.getD s.sk.t ∧ t.sk.tNew = none ∧
      t.xc.recA = none ∧ t.xc.recB = none ∧ t.xc.recW = none ∧ t.xc.published = false ∧ t.mem = s.mem ∧
      (s.cmp.frozen = false → ∀ r ∈ t.cmp.votes, r ∈ s.cmp.votes ∧ r.tag % 64 ≠ t.sk.cycle % 64)) ∧
  ((∀ (pA pB pW : Nat) (slipped : List (DLane × Fin 6)) (s : State), s.sk.st = .service → s.sk.req = none → s.sk.tNew = none →
    (s.lane .A).reset = false → (pA * 100 < s.sk.t * 98000 ∨ s.sk.t * 102000 < pA * 100) →
    Completes (.beacon pA pB pW slipped) s fun t => LaneEvent t .A 0x14 255) ∧
  (∀ (pA pB pW : Nat) (s : State), s.sk.tNew.isSome = true → s.rateCheck pA pB pW = s) ∧
  (∀ (p : Nat) (s : State), 98000 * s.sk.t ≤ p * 100 → p * 100 ≤ 102000 * s.sk.t → s.rateCheck p p p = s)) ∧
  (∀ (pA pB pW : Nat) (slipped : List (DLane × Fin 6)) (s : State) (h : Hold) (d : DLane) (m : Nat),
    (s.sk.st = .singleA ∨ s.sk.st = .singleB) → s.sk.req = none → s.sk.axo = none → s.sk.hold = some h → h.left ≤ 1 → h.removed = some d →
    m < 6 → Completes (.beacon pA pB pW slipped) s fun t =>
      famGet (fun _ => 50) t.sk.share m = (if d = .A then 0 else 100) ∧ t.sk.hold = none ∧
      t.sk.capTq = s.cfgSglTq ∧ t.sk.capSpd = s.cfgSglSpd)

/-- A lane posts its record while the assembler is enabled; a record above 1,024 bytes is refused with 0x015 and is absent
(R23, R291). The vector that is readable in a lane stands in its ring buffer, and fires vector-ready (R77, R83).
A record that Skink receives by the deadline with the tag of the present cycle is present, and the third such record makes
Skink publish at once; a record with another tag or too late is discarded, and raises SKINK.0x020 + lane only where the unit
drives (R24, R25). -/
def Obligations.RecordsArePostedAndPresent : Prop :=
  ((∀ (l : Lane) (c : BitVec 32) (s : State), (s.lane l).reset = false → s.fb (xchB l) XCH.CTRL_EN = true →
    (s.inputRecord l c.toNat).1.length ≤ 1024 → Completes (.inputRecordPost l c) s fun t =>
      t.xc.posted = s.xc.posted ++ [(laneNo l, (s.inputRecord l c.toNat).1)] ∧ t.fg (xchB l) XCH.STATUS_LASTTAG = s.sk.cycle % 2 ^ 16 ∧
      t.mem = s.mem ∧ t.sk = s.sk) ∧
  (∀ (l : Lane) (c : BitVec 32) (s : State), (s.lane l).reset = false → s.fb (xchB l) XCH.CTRL_EN = true →
    1024 < (s.inputRecord l c.toNat).1.length → Completes (.inputRecordPost l c) s fun t =>
      t.xc.posted = s.xc.posted ∧ LaneEvent t l 0x15 255 ∧ t.mem = s.mem ∧ t.sk = s.sk) ∧
  (∀ (l : Lane) (s : State), (s.lane l).reset = false → s.xc.vec ≠ [] → (s.le l).ready ≠ some s.xc.vecCycle →
    Completes (.vectorReady l) s fun t =>
      (t.le l).newest = some s.xc.vecCycle ∧ (t.le l).ready = some s.xc.vecCycle ∧ t.regs = s.regs ∧ t.sk = s.sk ∧
      1 ∈ famGet (fun _ => ([] : List Nat)) t.fired (laneNo l)) ∧
  (∀ (l : Lane) (v : Word) (s : State), (s.lane l).reset = false → (s.lane l).locked = false → v.getLsbD 0 = true →
    (s.rowPut l false 0x50010000 v).xchCfgOk l = true →
    Completes (.xchEnWrite l v) s fun t => t.fb (xchB l) XCH.CTRL_EN = true ∧ t.mem = s.mem ∧ t.evq = s.evq ∧ t.sk = s.sk) ∧
  (∀ (l : Lane) (v : Word) (s : State), (s.lane l).reset = false → (s.lane l).locked = false → v.getLsbD 0 = false →
    Completes (.xchEnWrite l v) s fun t => t.fb (xchB l) XCH.CTRL_EN = false ∧ t.mem = s.mem ∧ t.evq = s.evq ∧ t.sk = s.sk)) ∧
  ((∀ (l : Lane) (n : Nat) (r : List Byte) (s : State), s.sk.st = .service → s.xc.posted = [(laneNo l, r)] →
    byteF r 0 2 = s.sk.cycle % 2 ^ 16 → n ≤ 288 → s.xc.published = false →
    (s.xc.recA = none ∨ l = .A) → (s.xc.recB = none ∨ l = .B) → (s.xc.recW = none ∨ l = .W) →
    Completes (.exchRecordReceive l n) s fun t =>
      t.xc.posted = [] ∧ t.xc.published = false ∧ t.regs = s.regs ∧ t.mem = s.mem ∧ t.evq = s.evq ∧
      (l = .A → t.xc.recA = some r) ∧ (l = .B → t.xc.recB = some r) ∧ (l = .W → t.xc.recW = some r)) ∧
  (∀ (n : Nat) (a b r : List Byte) (s : State), s.sk.st = .service → s.sk.axo = none → s.sk.removed = [] →
    s.xc.posted = [(2, r)] → byteF r 0 2 = s.sk.cycle % 2 ^ 16 → n ≤ 288 → s.xc.published = false →
    s.xc.recA = some a → s.xc.recB = some b → Completes (.exchRecordReceive .W n) s fun t =>
      t.xc.published = true ∧ t.xc.vecCycle = s.sk.cycle ∧ t.xc.recW = some r ∧ t.regs = s.regs ∧ t.mem = s.mem ∧
      (t.xc.vec.drop (32 + a.length + b.length) = r)) ∧
  (∀ (l : Lane) (n : Nat) (r : List Byte) (s : State), s.sk.st.active = true → s.xc.posted = [(laneNo l, r)] →
    (byteF r 0 2 ≠ s.sk.cycle % 2 ^ 16 ∨ 288 < n) → Completes (.exchRecordReceive l n) s fun t =>
      t = { s with xc := { s.xc with posted := [] },
                   evq := s.evq ++ [s.stamp { coll := .skink, src := 0x20 + laneNo l, res := resLane l }] }) ∧
  (∀ (l : Lane) (n : Nat) (r : List Byte) (s : State), (s.sk.st = .chorus ∨ s.sk.st = .safeHold) → s.xc.posted = [(laneNo l, r)] →
    (byteF r 0 2 ≠ s.sk.cycle % 2 ^ 16 ∨ 288 < n) → Completes (.exchRecordReceive l n) s fun t =>
      t = { s with xc := { s.xc with posted := [] } }))

/-- At the deadline, 6 µs after the beacon, the vector is published with the records present; with none, in the states that drive, SKINK.0x023 is raised;
the third absence of a lane in a row raises SKINK.0x024 (R25, R296).
The header of a vector: the counter, the flags and the offsets and lengths of the records present, in the order A, B, W, and
then the records themselves (R25, R295). -/
def Obligations.DeadlinePublishesTheVector : Prop :=
  ((∀ s : State, s.sk.st = .service → s.sk.axo = none → s.xc.published = false → s.sk.beaconAt + 6000 ≤ s.now → Completes .exchDeadline s fun t =>
      t.xc.published = true ∧ t.xc.vecCycle = s.sk.cycle ∧ t.xc.vec = s.vectorBytes true ∧ t.regs = s.regs ∧ t.mem = s.mem ∧
      (s.xc.recA = none → s.xc.recB = none → s.xc.recW = none → SkinkEvent t 0x23 255)) ∧
  (∀ (l : Lane) (s : State), s.sk.st = .service → 3 ≤ famGet (fun _ => 0) s.xc.absRun (laneNo l) → l ∉ s.xc.absRaised →
    Completes (.exchAbsentRun l) s fun t =>
      t = { s with xc := { s.xc with absRaised := l :: s.xc.absRaised },
                   evq := s.evq ++ [s.stamp { coll := .skink, src := 0x24, res := resLane l }] })) ∧
  (∀ (s : State) (a b w : List Byte), s.sk.removed = [] → s.sk.axo = none → s.xc.recA = some a → s.xc.recB = some b →
    s.xc.recW = some w → 32 + a.length + b.length < 65536 → w.length < 65536 →
    (s.vectorBytes false).length = 32 + a.length + b.length + w.length ∧
    leNat ((s.vectorBytes false).take 4) = s.sk.cycle % 2 ^ 32 ∧
    ((s.vectorBytes false).drop 32).take a.length = a ∧
    ((s.vectorBytes false).drop (32 + a.length)).take b.length = b ∧
    (s.vectorBytes false).drop (32 + a.length + b.length) = w ∧
    leNat (((s.vectorBytes false).drop 10).take 2) = 32 + a.length)

/-! Skink: safe inputs, outputs and data, requests, the ramp and position hold -/

/-- An accepted level updates its contact and the evaluated state; a stop-role input that falls while the unit drives raises
SKINK.0x059; a change of the evaluated state wakes Park with SIWAKE = 1; contacts that disagree for SI_DISC latch the input at 0
with 0x058, and a lane whose view differs that long raises 0x05A (R333 to R336, R521).
An off-pulse test starts on an output that is driven on, turns it off while it lasts, and ends with the output on again when
the readback is low; a readback that does not match the commanded level fails the output and raises SKINK.0x05C (R338). -/
def Obligations.SafeInputsAndOutputs : Prop :=
  ((∀ (i : Fin 16) (b closed : Bool) (s : State), s.sk.st = .service → Completes (.siLevelAccept i b closed) s fun t =>
      (b = false → (t.si i.val).a = closed ∧ (t.si i.val).b = (s.si i.val).b) ∧
      (b = true → (t.si i.val).b = closed ∧ (t.si i.val).a = (s.si i.val).a) ∧
      (t.si i.val).state = (t.si i.val).eval (s.cfgSiMode i.val) ∧ t.regs = s.regs ∧ t.mem = s.mem ∧ t.sk = s.sk ∧
      ((s.si i.val).state = true → (t.si i.val).state = false → s.cfgSiRole i.val = 1 →
        t.evq = s.evq ++ [s.stamp { coll := .skink, src := 0x59, inst := i.val, res := 0x50 + i.val }]) ∧
      (s.cfgSiRole i.val ≠ 1 → t.evq = s.evq)) ∧
  (∀ (i : Fin 16) (s : State), s.sk.st = .park → s.fb hibB HIB.WAKECFG_SIWAKE = true → s.cfgSiMode i.val = 1 →
    (s.si i.val).state = true → Completes (.siLevelAccept i false false) s fun t =>
      t.sk.st = .tadpole ∧ (t.fg hibB HIB.STATUS_CAUSE).testBit 5 = true) ∧
  (∀ (i : Fin 16) (s : State), s.sk.st = .service → s.cfgSiMode i.val ≠ 0 → (∃ r, (s.si i.val).disagree = some r ∧ s.past r (s.cfgSiDisc i.val * 10 ^ 6) = true) →
    (s.si i.val).discRaised = false → Completes (.siDiscrepancy i) s fun t =>
      (t.si i.val).latch = true ∧ (t.si i.val).state = false ∧ t.regs = s.regs ∧ t.mem = s.mem ∧ t.sk = s.sk ∧
      t.evq = s.evq ++ [s.stamp { coll := .skink, src := 0x58, inst := i.val, res := 0x50 + i.val }]) ∧
  (∀ (l : Lane) (i : Fin 16) (s : State), s.sk.st = .service → (∃ r, (s.si i.val).diff.lookup l = some r ∧ s.past r (s.cfgSiDisc i.val * 10 ^ 6) = true) →
    l ∉ (s.si i.val).diffRaised →
    Completes (.siViewDiff l i) s fun t =>
      l ∈ (t.si i.val).diffRaised ∧ t.regs = s.regs ∧ t.mem = s.mem ∧ t.sk = s.sk ∧
      t.evq = s.evq ++ [s.stamp { coll := .skink, src := 0x5a, inst := i.val, res := resLane l }])) ∧
  ((∀ (i : Fin 16) (s : State), s.sk.st = .service → s.soLevel i.val = true → Completes (.soOffpulseStart i) s fun t =>
      t.soLevel i.val = false ∧ (t.so i.val).on = (s.so i.val).on ∧ t.regs = s.regs ∧ t.mem = s.mem ∧ t.evq = s.evq ∧ t.sk = s.sk) ∧
  (∀ (i : Fin 16) (s : State), s.sk.st = .service → s.cfgSoEn i.val = true → (s.so i.val).inTest = true → (s.so i.val).failed = false →
    (s.so i.val).on = true → Completes (.soOffpulseEnd i .low) s fun t =>
      t.soLevel i.val = true ∧ (t.so i.val).rb = false ∧ t.regs = s.regs ∧ t.mem = s.mem ∧ t.evq = s.evq ∧ t.sk = s.sk) ∧
  (∀ (i : Fin 16) (s : State), (s.so i.val).inTest = true → Completes (.soOffpulseEnd i .high) s fun t =>
      t.soLevel i.val = false ∧ (t.so i.val).failed = true ∧ t.regs = s.regs ∧ t.mem = s.mem ∧ t.sk = s.sk ∧
      t.evq = s.evq ++ [s.stamp { coll := .skink, src := 0x5c, inst := i.val, res := 0x60 + i.val }]) ∧
  (∀ (i : Fin 16) (s : State), s.sk.st = .service → s.cfgSoEn i.val = true → (s.so i.val).inTest = false →
    (s.so i.val).failed = false → Completes (.soReadbackCheck i (if s.soLevel i.val then .high else .low)) s fun t =>
      (t.so i.val).failed = false ∧ (t.so i.val).rb = s.soLevel i.val ∧ t.regs = s.regs ∧ t.mem = s.mem ∧ t.evq = s.evq ∧ t.sk = s.sk) ∧
  (∀ (i : Fin 16) (s : State), s.sk.st = .service → s.cfgSoEn i.val = true → (s.so i.val).inTest = false →
    (s.so i.val).failed = false → Completes (.soReadbackCheck i (if s.soLevel i.val then .low else .high)) s fun t =>
      t.soLevel i.val = false ∧ (t.so i.val).failed = true ∧ SkinkEvent t 0x5c i.val ∧ t.mem = s.mem))

/-- In Safe Stop the ramp goes on period by period and is complete at the first whose duty is 100 %; with standstill the unit then
enters Safe Hold, as it does at standstill with the ramp complete, and at SS_TIMEOUT, with SKINK.0x062 where either is missing. The
regulator's release, 500 ms after the entry or the park output's confirmation, turns every gate off (R38, R40, R53, R340). -/
def Obligations.SafeStopEndsInSafeHold : Prop :=  (∀ s : State, s.sk.st = .safeStop → s.sf.rampOn = true → s.sf.rampDone = false → s.rampFull (s.sf.rampJ + 1) = false →
    Completes .rampPeriod s fun t =>
      t = { s with sf := { s.sf with rampJ := s.sf.rampJ + 1, rampAt := s.now, rampDone := false } }) ∧
  (∀ s : State, s.sk.st = .safeStop → s.sf.rampOn = true → s.sf.rampDone = false → s.rampFull (s.sf.rampJ + 1) = true →
    s.sk.still = true → Completes .rampPeriod s fun t => t.sk.st = .safeHold ∧ (∀ i, t.soLevel i = false) ∧ t.mem = s.mem) ∧
  (∀ s : State, s.sk.st = .safeStop → s.sk.stillRun = true → s.past s.sk.stillAt (200 * 10 ^ 6) = true → s.sf.rampDone = true → Completes .standstillReached s fun t =>
      t.sk.st = .safeHold ∧ t.sk.still = true ∧ (∀ i, t.soLevel i = false) ∧ t.mem = s.mem) ∧
  (∀ s : State, s.sk.st = .service → s.sk.stillRun = true → s.past s.sk.stillAt (200 * 10 ^ 6) = true → Completes .standstillReached s fun t =>
      t = { s with sk := { s.sk with still := true } }) ∧
  (∀ s : State, s.sk.st = .safeStop → s.past s.sk.stopAt (s.cfgSsTimeout * 10 ^ 9) = true → (s.sk.still = false ∨ s.sf.rampDone = false) →
    Completes .ssTimeout s fun t =>
      t.sk.st = .safeHold ∧ (∀ i, t.soLevel i = false) ∧ SkinkEvent t 0x62 255 ∧ t.mem = s.mem) ∧
  (∀ s : State, s.sk.st = .safeHold → (s.cfgParkEn = false ∨ s.sf.parkOff = true) → s.past s.sf.parkAt (500 * 10 ^ 6) = true → Completes .holdRelease s fun t =>
      t.unitGatesOff ∧ t.sf.regs = [] ∧ t.sk = s.sk ∧ t.mem = s.mem ∧ t.evq = s.evq)

/-- A state request that its conditions allow takes effect; one that they do not raises SKINK.0x013 and leaves the state
(R39, R40, R55, R342). -/
def Obligations.StateRequestsActOrAreRefused : Prop :=  (∀ (n : Nat) (s : State), s.sk.req = some ⟨1, n⟩ → s.sk.st = .service → s.sk.still = true → s.pumpsStopped = true →
    Completes .stateReqPark s fun t => t.sk.st = .park ∧ t.fg hibB HIB.STATUS_SLEEP = 2 ∧ ∀ l, (t.lane l).reset = true) ∧
  (∀ (n : Nat) (s : State), s.sk.req = some ⟨2, n⟩ → s.sk.st = .safeHold → s.sk.still = true → s.pumpsStopped = true →
    Completes .stateReqHibernate s fun t => t.sk.st = .hibernate ∧ t.sk.keepOff = true ∧ t.fg hibB HIB.STATUS_SLEEP = 1) ∧
  (∀ s : State, s.sk.req = some ⟨3, 1⟩ → s.sk.st = .singleA → s.sk.still = true → s.sk.removed = [.B] →
    s.feedOf .B = true → (s.lane .B).broken = false → (s.lane .B).attempts < 3 →
    Completes .stateReqAxolotl s fun t =>
      t.sk.st = .axolotl ∧ t.sk.req = none ∧ (t.lane .B).reset = true ∧ t.mem = s.mem ∧
      t.sk.axo = some { lane := .B, held := .singleA, at_ := s.now } ∧ t.cmp.frozen = false) ∧
  (∀ (n : Nat) (s : State), s.sk.req = some ⟨4, n⟩ → (s.sk.st = .safeHold ∨ s.sk.st = .bench) → s.sk.locked = false →
    (∀ i, s.cfgSiRole i = 0) → Completes .stateReqRestart s fun t => t.sk.st = .tadpole ∧ ∀ l, (t.lane l).reset = true) ∧
  (∀ (n : Nat) (s : State), s.sk.req = some ⟨4, n⟩ → s.sk.locked = true → Completes .stateReqRestart s fun t =>
      t = { s with sk := { s.sk with req := none }, evq := s.evq ++ [s.stamp { coll := .skink, src := 0x13 }] }) ∧
  (∀ (n : Nat) (s : State), s.sk.req = some ⟨5, n⟩ → Completes .stateReqStop s fun t =>
      t = { s with sk := { s.sk with req := none }, evq := s.evq ++ [s.stamp { coll := .skink, src := 0x5b }] }) ∧
  (∀ (n : Nat) (s : State), s.sk.req = some ⟨1, n⟩ → (s.sk.still = false ∨ s.pumpsStopped = false ∨ s.sk.st = .bench) →
    Completes .stateReqPark s fun t =>
      t = { s with sk := { s.sk with req := none }, evq := s.evq ++ [s.stamp { coll := .skink, src := 0x13 }] })

/-- The first copy of a safe-data frame waits, a second equal one on the other network within SDWIN confirms the entry, and a second
that differs raises SKINK.0x051 and drops both; a missing second copy raises 0x052, a stale number 0x053, and a time without a
confirmation 0x055 and makes the entry dead (R343, R344, R552). -/
def Obligations.SafeDataNeedsTwoEqualCopies : Prop :=  (∀ (j : Nat) (q : BitVec 16) (slot : BitVec 10) (sn : BitVec 8) (n : Nat) (crc : Word) (s : State), s.sk.st = .service →
    s.sk.byFeed = false → s.sdFor slot.toNat sn.toNat = [j] → n ≤ 64 → (s.sde j).copyA = [] → (s.sde j).copyB = [] →
    seqAdvances (s.sde j).last q.toNat = true → Completes (.sdCopyRx 0 slot sn q n crc) s fun t =>
      (t.sde j).copyA = [⟨q.toNat, n, crc, s.now⟩] ∧ (t.sde j).copyB = [] ∧ (t.sde j).last = (s.sde j).last ∧ t.evq = s.evq ∧ t.regs = s.regs ∧ t.mem = s.mem) ∧
  (∀ (j r : Nat) (q : BitVec 16) (slot : BitVec 10) (sn : BitVec 8) (n : Nat) (crc : Word) (s : State), s.sk.st = .service →
    s.sk.byFeed = false → s.sdFor slot.toNat sn.toNat = [j] → n ≤ 64 → (s.sde j).copyA = [⟨q.toNat, n, crc, r⟩] →
    s.now ≤ r + s.cfgSdWin → (s.sde j).copyB = [] → seqAdvances (s.sde j).last q.toNat = true → Completes (.sdCopyRx 1 slot sn q n crc) s fun t =>
      (t.sde j).copyA = [] ∧ (t.sde j).copyB = [] ∧ (t.sde j).last = some q.toNat ∧ (t.sde j).alive = true ∧
      t.evq = s.evq ∧ t.regs = s.regs ∧ t.mem = s.mem) ∧
  (∀ (j r : Nat) (q : BitVec 16) (slot : BitVec 10) (sn : BitVec 8) (n : Nat) (crc crc' : Word) (s : State), s.sk.st = .service →
    s.sk.byFeed = false → s.sdFor slot.toNat sn.toNat = [j] → n ≤ 64 → (s.sde j).copyA = [⟨q.toNat, n, crc', r⟩] → crc ≠ crc' →
    s.now ≤ r + s.cfgSdWin → (s.sde j).copyB = [] → seqAdvances (s.sde j).last q.toNat = true → Completes (.sdCopyRx 1 slot sn q n crc) s fun t =>
      (t.sde j).copyA = [] ∧ (t.sde j).copyB = [] ∧ (t.sde j).last = (s.sde j).last ∧
      t.evq = s.evq ++ [s.stamp { coll := .skink, src := 0x51, inst := j, res := 0x40 + j }] ∧ t.regs = s.regs ∧ t.mem = s.mem) ∧
  (∀ (j : Fin 16) (y : SdCopy) (s : State), s.sk.st = .service → j.val < s.cfgSdn → (s.sde j.val).copyA = [y] →
    (s.sde j.val).copyB = [] → y.at_ + s.cfgSdWin < s.now → Completes (.sdSingle j) s fun t =>
      (t.sde j.val).copyA = [] ∧ (t.sde j.val).copyB = [] ∧ (t.sde j.val).last = (s.sde j.val).last ∧ t.regs = s.regs ∧
      t.evq = s.evq ++ [s.stamp { coll := .skink, src := 0x52, inst := j.val, res := 0x40 + j.val }] ∧ t.mem = s.mem) ∧
  (∀ (j : Fin 16) (s : State), s.sk.st = .service → j.val < s.cfgSdn → Completes (.sdTimeout j) s fun t =>
      (t.sde j.val).alive = false ∧ (t.sde j.val).last = none ∧ t.regs = s.regs ∧ t.mem = s.mem ∧
      t.evq = s.evq ++ [s.stamp { coll := .skink, src := 0x55, inst := j.val, res := 0x40 + j.val }])

/-- The loss of every command path, and an axis above its speed cap for 100 ms, raise SKINK.0x050 and 0x044, the latter once for
each run (R45, R346).
The regulator counts sectors from its engagement: one step of the Hall code changes e by one, an illegal code turns the cells
off and raises SKINK.0x048, and with e = 0 the three low sides of the motor turn on where nothing blocks them, once the waits
of R271 are over (R347, R348). -/
def Obligations.MonitorsAndPositionHold : Prop :=
  ((∀ s : State, s.sk.cmdMon = true → s.sk.st.active = true → s.cmdAlive = false →
    Completes .cmdPathLost s (Raises s { coll := .skink, src := 0x50 })) ∧
  (∀ s : State, s.cmdAlive = true → exec .cmdPathLost s = .next s) ∧
  (∀ (l : DLane) (n : Fin 6) (s : State), s.sk.st = .service → (∃ r, s.sk.speeding.lookup (dno l, n.val) = some r ∧ s.past r (100 * 10 ^ 6) = true) →
    (dno l, n.val) ∉ s.sk.speedRaised →
    Completes (.speedCapExceeded l n) s fun t =>
      t = { s with sk := { s.sk with speedRaised := (dno l, n.val) :: s.sk.speedRaised },
                   evq := s.evq ++ [s.stamp { coll := .skink, src := 0x44, inst := 6 * dno l + n.val }] }) ∧
  (∀ (l : DLane) (n : Fin 6) (s : State), (dno l, n.val) ∈ s.sk.speedRaised → exec (.speedCapExceeded l n) s = .next s)) ∧
  ((∀ (h : Fin 2) (code : Fin 8) (j k : Nat) (fwd : Bool) (s : State), s.sk.st = .safeStop → (s.holdReg h.val).engaged = true →
    (s.holdReg h.val).off = false → famGet (fun _ => 0) s.sf.hall h.val ≠ code.val → hallSector code.val = some k →
    (s.holdReg h.val).sector = some j → hallStep j k = some fwd → Completes (.holdHallChange h code) s fun t =>
      (t.holdReg h.val).e = (s.holdReg h.val).e + (if fwd then 1 else -1) ∧ (t.holdReg h.val).sector = some k ∧
      t.regs = s.regs ∧ t.mem = s.mem ∧ t.sk = s.sk) ∧
  (∀ (h : Fin 2) (code : Fin 8) (s : State), s.sk.st = .safeStop → (s.holdReg h.val).engaged = true →
    (s.holdReg h.val).off = false → famGet (fun _ => 0) s.sf.hall h.val ≠ code.val → hallSector code.val = none →
    Completes (.holdHallChange h code) s fun t =>
      (t.holdReg h.val).off = true ∧ t.gatesAreOff (s.holdReg h.val).lane (3 * s.cfgHoldMotor h.val) 3 ∧
      SkinkEvent t 0x48 (s.cfgHoldMotor h.val) ∧ t.mem = s.mem ∧ t.sk = s.sk) ∧
  (∀ s : State, s.sf.regs = [] → exec .holdRegPeriod s = .next s) ∧
  (∀ s : State, (s.holdReg 1).engaged = false → (s.holdReg 0).engaged = true → (s.holdReg 0).off = true →
    s.cellLogic (s.holdReg 0).lane = true → s.vgdOk (s.holdReg 0).lane = true → Completes .holdRegPeriod s fun t =>
      t.gatesAreOff (s.holdReg 0).lane (3 * s.cfgHoldMotor 0) 3 ∧ t.sf = s.sf ∧ t.mem = s.mem ∧ t.evq = s.evq) ∧
  (∀ s : State, (s.holdReg 1).engaged = false → (s.holdReg 0).engaged = true → (s.holdReg 0).off = false → (s.holdReg 0).e = 0 →
    s.cellLogic (s.holdReg 0).lane = true → s.vgdOk (s.holdReg 0).lane = true →
    s.cfgHoldMotor 0 < 6 → (s.axis (s.holdReg 0).lane (s.cfgHoldMotor 0)).tripped = false →
    (∀ i < 3, s.cellOk (s.holdReg 0).lane (3 * s.cfgHoldMotor 0 + i) false = true) → Completes .holdRegPeriod s fun t =>
      (∀ i < 3, t.gateTurns (s.holdReg 0).lane (3 * s.cfgHoldMotor 0 + i) false = true ∧
        t.gateOn (s.holdReg 0).lane (3 * s.cfgHoldMotor 0 + i) true = false) ∧ t.sf = s.sf ∧ t.mem = s.mem ∧ t.evq = s.evq))

/-! Fault collection -/

/-- A lane's event at C1 whose source is not pending and that nothing escalates is entered: it takes an entry with the next EVID,
is pending at C1, waits for the lane's log, and changes no state and no gate (R358, R360, R362).
An event that finds an open entry of its effective class from another source is entered one class higher (R365): a C1 event
then is pending at C2, with ESC in its entry.
A collector whose check fails raises its own fixed source, and from then on every event it reports has at least class C3
(R367). -/
def Obligations.EventsAreEnteredAndEscalate : Prop :=
  (∀ (l : Lane) (e : Event) (s : State), s.evq = [e] → e.coll = .lane l → (s.lane l).reset = false → e.restoring = false →
    s.classOf e = 1 → s.resRemoved e.res = false → s.resRestoring e.res = false → (s.coll (.lane l)).fault = false →
    ((s.coll (.lane l)).src e.src).cls = 0 → s.tab.open_.length < 64 → (∀ x ∈ s.tab.open_, x.cls ≠ 1) →
    (s.coll (.lane l)).queue.length < 64 → Completes .faultEventEntry s fun t =>
      t.evq = [] ∧ t.sk = s.sk ∧ t.regs = s.regs ∧ t.mem = s.mem ∧
      ((t.coll (.lane l)).src e.src).cls = 1 ∧ ((t.coll (.lane l)).src e.src).reps = 0 ∧
      t.tab.open_ = s.tab.open_ ++ [⟨s.tab.evidNext, .lane l, e.src, 1, false⟩] ∧ t.tab.evidNext = evidAfter s.tab.evidNext ∧
      (t.coll (.lane l)).queue.length = (s.coll (.lane l)).queue.length + 1) ∧
  (∀ (l : Lane) (e : Event) (x : TabEntry) (s : State), s.evq = [e] → e.coll = .lane l → (s.lane l).reset = false → e.restoring = false →
    s.classOf e = 1 → s.resRemoved e.res = false → s.resRestoring e.res = false → (s.coll (.lane l)).fault = false →
    ((s.coll (.lane l)).src e.src).cls = 0 → s.tab.open_ = [x] → x.cls = 1 → (x.coll ≠ e.coll ∨ x.src ≠ e.src) →
    s.sk.st = .safeHold → resMoves e.res = true → Completes .faultEventEntry s fun t =>
      ((t.coll (.lane l)).src e.src).cls = 2 ∧ t.tab.open_ = [x, ⟨s.tab.evidNext, .lane l, e.src, 2, true⟩] ∧ t.sk.st = .safeHold) ∧
  ((∀ (l : Lane) (s : State), (s.lane l).reset = false → Completes (.collectorCheckFail (.lane l)) s fun t =>
      (t.coll (.lane l)).fault = true ∧ t.fb (fcB l) FC.STATUS_REGFAULT = true ∧ LaneEvent t l 0 255 ∧ t.mem = s.mem ∧ t.sk = s.sk) ∧
  (∀ s : State, Completes (.collectorCheckFail .skink) s fun t =>
      (t.coll .skink).fault = true ∧ SkinkEvent t 0 255 ∧ t.regs = s.regs ∧ t.mem = s.mem ∧ t.sk = s.sk) ∧
  (∀ (e : Event) (s : State), (s.coll e.coll).fault = true → 3 ≤ s.classOf e))

/-- An event at C3 in Service takes the unit to Safe Stop with every gate off; one at C4 sets LOCKED as well; a C2 event that
names lane B or its feed or gate supply takes Service to Single-A with B removed and B's gates off (R51, R60).
A source whose class is fixed has class C3 whatever its class field holds; every other has its default where the field is 0,
and the class its code names otherwise (R355, R357). -/
def Obligations.ClassDecidesTheReaction : Prop :=
  ((∀ (e : Event) (c : Nat) (s : State), s.sk.st = .service → (c = 3 ∨ c = 4) →
    ((s.react e c).sk.st = .safeStop ∧ (s.react e c).unitGatesOff ∧ (s.react e c).sk.locked = (s.sk.locked || c == 4) ∧
     (s.react e c).mem = s.mem)) ∧
  (∀ (e : Event) (s : State), s.sk.st = .service → (e.res = 2 ∨ e.res = 5 ∨ e.res = 7) →
    ((s.react e 2).sk.st = .singleA ∧ .B ∈ (s.react e 2).sk.removed ∧ (s.react e 2).gatesAreOff .B 0 24 ∧
     (s.react e 2).mem = s.mem)) ∧
  (∀ (e : Event) (s : State), s.sk.st = .service → e.res = 3 →
    ((s.react e 2).sk.st = .noWitness ∧ .W ∈ (s.react e 2).sk.removed)) ∧
  (∀ (e : Event) (s : State), s.sk.st = .service → e.res = 8 → (s.react e 2).sk.st = .cmpDegraded) ∧
  (∀ (e : Event) (s : State), s.sk.st.degraded = true → resMoves e.res = true →
    ((s.react e 2).sk.st = .safeStop ∧ (s.react e 2).unitGatesOff)) ∧
  (∀ (e : Event) (c : Nat) (s : State), c ≤ 1 → s.react e c = s)) ∧
  ((∀ (l : Lane) (s : State), s.classNow (.lane l) 0 = 3) ∧
  (∀ s : State, s.classNow .skink 0 = 3 ∧ s.classNow .skink 0x11 = 3) ∧
  (∀ (l : Lane) (i : Nat) (c : Nat) (s : State), 0 < i → i < 512 → defaultClass (.lane l) i = some c →
    s.reg (fcB l + 0x100 + 4 * (i / 8)) = 0 → s.classNow (.lane l) i = c))

/-- A waiting event is written at the head of its lane's log: 32 bytes there, whose first four are SEQ; HEAD and SEQ go on, and no
other byte of any memory changes (R369 to R371).
In Bench a clear erases the whole log and starts SEQ at 0; in every other state it does nothing (R370). After a reset the
scan makes LOGREADY read 1 (R373). -/
def Obligations.LogIsWrittenClearedAndScanned : Prop :=
  (∀ (l : Lane) (it : LogItem) (q : List LogItem) (s : State), (s.lane l).reset = false → s.fb (fcB l) FC.STATUS_LOGREADY = true →
    (s.coll (.lane l)).queue = it :: q → it.cls = 1 → s.fb (erB l) ER.CTRL_EN = false → Completes (.logWrite l true) s fun t =>
      (t.coll (.lane l)).queue = q ∧ t.fg (fcB l) FC.LOGHEAD_HEAD = logNext (s.fg (fcB l) FC.LOGHEAD_HEAD) ∧
      t.fg (fcB l) FC.LOGSEQ_SEQ = (s.fg (fcB l) FC.LOGSEQ_SEQ + 1) % 2 ^ 32 ∧
      t.rdBytes (laneNo l) (logAddr (s.fg (fcB l) FC.LOGHEAD_HEAD)) 4 = natLe 4 (s.fg (fcB l) FC.LOGSEQ_SEQ) ∧
      (∀ m a, key m a < key (laneNo l) (logAddr (s.fg (fcB l) FC.LOGHEAD_HEAD)) ∨
        key (laneNo l) (logAddr (s.fg (fcB l) FC.LOGHEAD_HEAD)) + 32 ≤ key m a → t.rd8 m a = s.rd8 m a) ∧ t.evq = s.evq ∧ t.sk = s.sk) ∧
  ((∀ (l : Lane) (v : Word) (s : State), v.getLsbD 0 = true → s.sk.st = .bench → (s.lane l).reset = false →
    Completes (.fcLogclr l v) s fun t =>
      t.fg (fcB l) FC.LOGHEAD_HEAD = 0 ∧ t.fg (fcB l) FC.LOGSEQ_SEQ = 0 ∧ t.evq = s.evq ∧ t.sk = s.sk ∧
      (∀ a, 0x13fc0000 ≤ a → a < 0x14000000 → t.rd8 (laneNo l) a = 0) ∧
      (∀ m : Lane, ∀ a, a < 0x13fc0000 ∨ (0x14000000 ≤ a ∧ a < 2 ^ 40) → t.rd8 (laneNo m) a = s.rd8 (laneNo m) a)) ∧
  (∀ (l : Lane) (v : Word) (s : State), s.sk.st ≠ .bench → exec (.fcLogclr l v) s = .next s) ∧
  (∀ (l : Lane) (s : State), (s.lane l).reset = false → Completes (.logScanDone l) s fun t =>
      t.fg (fcB l) FC.STATUS_LOGREADY = 1 ∧ t.fg (fcB l) FC.LOGHEAD_HEAD = (s.logResume (laneNo l)).1 % 2 ^ 13 ∧
      t.mem = s.mem ∧ t.evq = s.evq ∧ t.sk = s.sk) ∧
  (∀ (l : Lane) (s : State), (s.lane l).reset = false → s.logOk (laneNo l) 0 = false → s.logResume (laneNo l) = (0, 0)))

/-- An acknowledgement of a pending lane source clears its pending class and REPEAT and closes its entry; a bit of a source that
is not pending does nothing (R361).
A 1 written to a FORCE bit raises one event of that source with instance 0xFF and FORCED; a CLASS write with codes of at most
5 before the lock is taken whole, one with a higher code leaves the register and raises 0x002 (R357, R368).
An SKFC write of one drive lane waits while the other has to agree, and takes effect when it writes the same value; W's
writes are ignored; an ACK that names no open entry does nothing; a wait ends after 1 ms (R363, R553). -/
def Obligations.CollectorRegisterWrites : Prop :=
  ((∀ (l : Lane) (i : Fin 16) (b : Nat) (s : State), b < 32 → (s.lane l).reset = false →
    ((s.coll (.lane l)).src (32 * i.val + b)).cls ≠ 0 → Completes (.fcPendAck l i (BitVec.ofNat 32 (2 ^ b))) s fun t =>
      ((t.coll (.lane l)).src (32 * i.val + b)).cls = 0 ∧ ((t.coll (.lane l)).src (32 * i.val + b)).reps = 0 ∧
      (∀ x ∈ t.tab.open_, x ∈ s.tab.open_ ∧ ¬ (x.coll = .lane l ∧ x.evid = ((s.coll (.lane l)).src (32 * i.val + b)).evid)) ∧
      t.evq = s.evq ∧ t.mem = s.mem) ∧
  (∀ (l : Lane) (i : Fin 16) (s : State), exec (.fcPendAck l i 0) s = .next s)) ∧
  ((∀ (l : Lane) (i : Fin 16) (b c : Nat) (s : State), b < 32 → (s.lane l).reset = false →
    defaultClass (.lane l) (32 * i.val + b) = some c → Completes (.fcForceWrite l i (BitVec.ofNat 32 (2 ^ b))) s fun t =>
      ∃ r, t = { s with evq := s.evq ++ [s.stamp { coll := .lane l, src := 32 * i.val + b, res := r, forced := true }] }) ∧
  (∀ (l : Lane) (i : Fin 64) (v : Word) (s : State), (s.lane l).reset = false → (s.lane l).locked = false →
    (∀ j < 8, v.toNat / 16 ^ j % 16 ≤ 5) → Completes (.fcClassWrite l i v) s fun t =>
      t.reg (fcB l + 0x100 + 4 * i.val) = v ∧ SameRegistersBut s t [fcB l + 0x100 + 4 * i.val] ∧ t.mem = s.mem ∧ t.evq = s.evq) ∧
  (∀ (l : Lane) (i : Fin 64) (v : Word) (s : State), (s.lane l).reset = false → (s.lane l).locked = false →
    (∃ j < 8, 5 < v.toNat / 16 ^ j % 16) →
    Completes (.fcClassWrite l i v) s (Raises s { coll := .lane l, src := 0x2, res := resLane l })) ∧
  (∀ (l : Lane) (i : Fin 64) (v : Word) (s : State), (s.lane l).locked = true → exec (.fcClassWrite l i v) s = .next s)) ∧
  ((∀ (v : Word) (s : State), s.sk.st = .service → s.sk.removed = [] → (∀ l, (s.lane l).reset = false ∧ (s.lane l).broken = false) →
    s.tab.waits = [] → Completes (.skfcAck .A v) s fun t =>
      t = { s with tab := { s.tab with waits := [⟨false, v.toNat % 2 ^ 16, .A, s.now⟩] } }) ∧
  (∀ (v : Word) (r : Nat) (x : TabEntry) (s : State), s.sk.st = .service → s.sk.removed = [] →
    (∀ l, (s.lane l).reset = false ∧ (s.lane l).broken = false) → s.tab.waits = [⟨false, v.toNat % 2 ^ 16, .A, r⟩] →
    s.tab.open_ = [x] → x.evid = v.toNat % 2 ^ 16 → x.coll = .lane .B → Completes (.skfcAck .B v) s fun t =>
      t = { s with tab := { s.tab with waits := [], open_ := [] } }) ∧
  (∀ (v : Word) (s : State), exec (.skfcAck .W v) s = .next s ∧ exec (.skfcForce .W v) s = .next s) ∧
  (∀ (v : Word) (s : State), s.sk.st = .bench → s.sk.removed = [] → (s.lane .A).reset = false → (s.lane .A).broken = false →
    s.tab.waits = [] → s.tab.open_ = [] → exec (.skfcAck .A v) s = .next s) ∧
  (∀ (v : Word) (c : Nat) (s : State), s.sk.st = .bench → s.sk.removed = [] → (s.lane .A).reset = false → (s.lane .A).broken = false →
    s.tab.waits = [] → defaultClass .skink (v.toNat % 2 ^ 7) = some c → Completes (.skfcForce .A v) s fun t =>
      SkinkEvent t (v.toNat % 2 ^ 7) 255 ∧ t.sk = s.sk ∧ t.regs = s.regs ∧ t.mem = s.mem) ∧
  (∀ (a : AgreeWait) (s : State), s.tab.waits = [a] → s.past a.at_ (10 ^ 6) = true → Completes .skfcAgreeTimeout s fun t =>
      t = { s with tab := { s.tab with waits := [] } }))

/-! Phase cells -/

/-- A short in a switch that is on or turning on turns off every gate of the owner, latches SHORT and counts, and raises 0x0E1 naming the
owner; while it is latched no switch of the owner may turn on (R271, R280).
The interlock: both switches of a cell are never on together; a both-on command leaves both gates off, and its onset is counted
and raises 0x0E0; a change of command source turns both off in its clock, DEADT being above 0 (R271 to R273).
A supply of a cell below CELLUV turns off the switch that it feeds and no other gate; VGD below VGDUV turns off every gate of
the lane and raises 0x0E4 naming the gate supply; recovery clears a cell's flag, and VGD's return alone turns on no gate while 0x0E4
is to be acknowledged (R277, R278). -/
def Obligations.CellProtectionTurnsGatesOff : Prop :=
  ((∀ (l : DLane) (c : Fin 24) (hs : Bool) (s : State), s.running l.lane = true → s.ownerEn l c.val = true →
    s.gateTurns l c.val hs = true → Completes (.cellShort l c hs) s fun t =>
      t.gatesAreOff l (c.val / 3 * 3) 3 ∧ t.fb (cellB l c.val) PC.CELL_STATUS_SHORT = true ∧
      t.fb (cellB l c.val) PC.CELL_EVT_SHORT = true ∧
      t.fg (cellB l c.val) PC.CELL_COUNT_SHORT = min 255 (s.fg (cellB l c.val) PC.CELL_COUNT_SHORT + 1) ∧
      t.evq = s.evq ++ [s.stamp { coll := .lane l.lane, src := 0xe1, inst := c.val, res := cellRes l c.val }] ∧
      (∀ d c', c' < 24 → (d ≠ l ∨ c'/3 ≠ c.val/3) → ∀ g, t.gateOn d c' g = s.gateOn d c' g) ∧ t.mem = s.mem ∧ t.sk = s.sk) ∧
  (∀ (l : DLane) (c : Fin 24) (hs : Bool) (s : State), s.fb (cellB l c.val) PC.CELL_STATUS_SHORT = true →
    ∀ c' < 24, c' / 3 = c.val / 3 → s.cellOk l c' hs = false)) ∧
  ((∀ (l : DLane) (c : Nat) (s : State), s.gateOn l c true = false ∨ s.gateOn l c false = false) ∧
  (∀ (l : DLane) (c src : Nat) (s : State), c < 24 → (s.lane l.lane).reset = false → (s.cell l c).both = false →
    (s.cellCmd l c src true true).gateOn l c true = false ∧ (s.cellCmd l c src true true).gateOn l c false = false ∧
    LaneEvent (s.cellCmd l c src true true) l.lane 0xe0 c ∧
    (s.cellCmd l c src true true).fg (cellB l c) PC.CELL_COUNT_INTERLOCK =
      min 65535 (s.fg (cellB l c) PC.CELL_COUNT_INTERLOCK + 1)) ∧
  (∀ (l : DLane) (c src : Nat) (s : State), (s.cell l c).both = true → (s.cellCmd l c src true true).evq = s.evq) ∧
  (∀ (l : DLane) (c src : Nat) (hs ls : Bool) (s : State), c < 24 → src < 4 → s.fg (cellB l c) PC.CELL_STATUS_SRC ≠ src → 0 < s.deadTime l c →
    (s.cellCmd l c src hs ls).gateOn l c true = false ∧ (s.cellCmd l c src hs ls).gateOn l c false = false)) ∧
  ((∀ (l : DLane) (c : Fin 24) (hs : Bool) (s : State), s.running l.lane = true → s.ownerEn l c.val = true →
    Completes (.cellUvlo l c hs) s fun t =>
      t.gateOn l c.val hs = false ∧ t.gateOn l c.val (!hs) = s.gateOn l c.val (!hs) ∧ t.cellOk l c.val hs = false ∧
      t.evq = s.evq ++ [s.stamp { coll := .lane l.lane, src := if hs then 0xe2 else 0xe3, inst := c.val, res := cellRes l c.val }] ∧
      t.mem = s.mem ∧ t.sk = s.sk) ∧
  (∀ (l : DLane) (s : State), s.running l.lane = true → (s.lane l.lane).vgdUp = true → Completes (.pcVgdUvlo l) s fun t =>
      t.gatesAreOff l 0 24 ∧ (t.lane l.lane).vgdUp = false ∧ (t.lane l.lane).vgdHeld = true ∧
      t.fb (pcB l) PC.EVT_VGD_UVLO = true ∧ t.mem = s.mem ∧ t.sk = s.sk ∧
      t.evq = s.evq ++ [s.stamp { coll := .lane l.lane, src := 0xe4, res := 6 + dno l }]) ∧
  (∀ (l : DLane) (c : Fin 24) (hs : Bool) (s : State), s.running l.lane = true → Completes (.uvloRecover l (some (c, hs))) s fun t =>
      t.fb (cellB l c.val) (if hs then PC.CELL_STATUS_HSUV else PC.CELL_STATUS_LSUV) = false ∧
      SameRegistersBut s t [cellB l c.val + 0x108] ∧ t.evq = s.evq ∧ t.mem = s.mem ∧ t.sk = s.sk) ∧
  (∀ (l : DLane) (s : State), (s.lane l.lane).rails = true → s.running l.lane = true → Completes (.uvloRecover l none) s fun t =>
      (t.lane l.lane).vgdUp = true ∧ ((s.lane l.lane).vgdHeld = true → t.gatesAreOff l 0 24) ∧ t.regs = s.regs ∧ t.evq = s.evq ∧ t.mem = s.mem ∧ t.sk = s.sk))

/-- A gate not sensed off keeps both gates of its cell off with 0x0E6; 1 ms in current limit raises 0x0E5; 64 beacons at a limit
raise 0x0E7, once until the code moves (R274, R275, R285).
A measured edge is stored saturated at 255 ns; a write of a configuration register is taken where every condition of R289
holds, else refused with 0x0E8 and the register as it was (R283, R289).
The law of adaptive gate strength (R284): a code moves by at most one, towards the limit that its mean edge time calls for,
never past it, and stays where no edge was measured or the mean lies in the band. -/
def Obligations.CellWarningsEdgesAndGateLaw : Prop :=
  ((∀ (l : DLane) (c : Fin 24) (hs : Bool) (s : State), s.running l.lane = true → s.ownerEn l c.val = true →
    s.gateTurns l c.val hs = false → Completes (.pcGateStuck l c hs) s fun t =>
      (∀ g, t.gateOn l c.val g = false ∧ t.cellOk l c.val g = false) ∧ t.fb (cellB l c.val) PC.CELL_EVT_STUCK = true ∧
      t.evq = s.evq ++ [s.stamp { coll := .lane l.lane, src := 0xe6, inst := c.val, res := cellRes l c.val }] ∧
      t.mem = s.mem ∧ t.sk = s.sk) ∧
  (∀ (l : DLane) (s : State), s.running l.lane = true → Completes (.pcCpLimit l) s fun t =>
      t.fb (pcB l) PC.EVT_CP_LIMIT = true ∧
      t.fg (pcB l) PC.COUNT_CPLIM = min 65535 (s.fg (pcB l) PC.COUNT_CPLIM + 1) ∧
      t.evq = s.evq ++ [s.stamp { coll := .lane l.lane, src := 0xe5, res := resLane l.lane }] ∧ t.mem = s.mem ∧ t.sk = s.sk) ∧
  (∀ (l : DLane) (c : Fin 24) (s : State), s.running l.lane = true → s.ownerEn l c.val = true → 64 ≤ (s.cell l c.val).limH →
    (s.cell l c.val).atH = false → Completes (.pcAdaptLimit l c) s fun t =>
      t.fb (cellB l c.val) PC.CELL_STATUS_ATLIM = true ∧ (t.cell l c.val).atH = true ∧ t.fb (cellB l c.val) PC.CELL_EVT_ATLIM = true ∧
      t.evq = s.evq ++ [s.stamp { coll := .lane l.lane, src := 0xe7, inst := c.val, res := cellRes l c.val }] ∧
      t.mem = s.mem ∧ t.sk = s.sk) ∧
  (∀ (l : DLane) (c : Fin 24) (s : State), (s.cell l c.val).atH = true → (s.cell l c.val).atL = true → exec (.pcAdaptLimit l c) s = .next s)) ∧
  ((∀ (l : DLane) (c : Fin 24) (ns : Nat) (s : State), s.running l.lane = true → s.ownerEn l c.val = true →
    s.gateTurns l c.val true = true → Completes (.edgeMeasure l c true ns) s fun t =>
      t.fg (cellB l c.val) PC.CELL_TRANS_RISE = min 255 ns ∧ t.fg (cellB l c.val) PC.CELL_TRANS_FALL = s.fg (cellB l c.val) PC.CELL_TRANS_FALL ∧
      (t.cell l c.val).numH = (s.cell l c.val).numH + 1 ∧ SameRegistersBut s t [cellB l c.val + 0x10c] ∧ t.mem = s.mem ∧ t.evq = s.evq) ∧
  (∀ (l : DLane) (c : Fin 24) (v : Word) (s : State), s.running l.lane = true → (s.lane l.lane).locked = false →
    pcCfgOk (0x104 + 32 * c.val) v = true → Completes (.pcCfgWrite l (BitVec.ofNat 12 (0x104 + 32 * c.val)) v) s fun t =>
      t.fg (cellB l c.val) PC.CELL_GATE_CODEMIN = v.toNat % 32 ∧ t.fg (cellB l c.val) PC.CELL_GATE_TTARGET = v.toNat / 2 ^ 24 ∧
      SameRegistersBut s t [cellB l c.val + 0x104] ∧ t.mem = s.mem ∧ t.evq = s.evq ∧ t.sk = s.sk) ∧
  (∀ (l : DLane) (v : Word) (s : State), s.running l.lane = true → (s.lane l.lane).locked = false → pcCfgOk 0 v = false →
    Completes (.pcCfgWrite l 0 v) s fun t =>
      t.reg (pcB l) = s.reg (pcB l) ∧ t.fb (pcB l) PC.EVT_CFG_INVALID = true ∧ t.mem = s.mem ∧ t.sk = s.sk ∧
      t.evq = s.evq ++ [s.stamp { coll := .lane l.lane, src := 0xe8, res := resLane l.lane }])) ∧
  (∀ (code lo hi target band sum num : Nat), lo ≤ code → code ≤ hi →
    (num = 0 → gateLaw code lo hi target band sum num = (code, false)) ∧
    (lo ≤ (gateLaw code lo hi target band sum num).1 ∧ (gateLaw code lo hi target band sum num).1 ≤ hi) ∧
    ((gateLaw code lo hi target band sum num).1 ≤ code + 1 ∧ code ≤ (gateLaw code lo hi target band sum num).1 + 1) ∧
    (0 < num → (target + band + 1) * num ≤ sum → (gateLaw code lo hi target band sum num).1 = min (code + 1) hi) ∧
    (0 < num → target * num ≤ sum → sum ≤ (target + band) * num → gateLaw code lo hi target band sum num = (code, false)))

/-! Servo axes and drives -/

/-- A record that becomes readable is applied where nothing holds the drive: MODE and LASTTAG show it, the count of R152 restarts,
and no memory, state of the unit or other register changes but the command source of its three cells. One older than the last applied is discarded, counted and
raises 0x017; during a hold the newest is kept and none applied (R28, R29, R151). -/
def Obligations.AxisRecordsAreAppliedKeptOrDiscarded : Prop :=  (∀ (l : DLane) (n : Fin 6) (r : OutRec) (s : State), s.axOn l n.val = true →
    (famGet (fun _ => ({} : BusSt)) s.buses (dno l)).drvQ = [r] → r.kind = 1 → r.index = n.val → r.tag < 2 ^ 16 → recMode r = 3 →
    ((s.axis l n.val).tagOk = true → older r.tag (s.fg (axB l n.val) AX.STATUS_LASTTAG) = false) →
    s.drvHeld = false → (s.axis l n.val).busLow = false → Completes (.axisRecordApply l n) s fun t =>
      t.fg (axB l n.val) AX.STATUS_MODE = 3 ∧ t.fg (axB l n.val) AX.STATUS_LASTTAG = r.tag ∧
      (t.axis l n.val).used = some r ∧ (t.axis l n.val).kept = none ∧ (t.axis l n.val).since = 0 ∧
      (t.axis l n.val).pwm.cmpV = List.replicate 3 (s.halfClocks l n.val + 1) ∧ (t.axis l n.val).pwm.live = [true, true, true] ∧
      (t.axis l n.val).intD = 0 ∧ (t.axis l n.val).intQ = 0 ∧
      SameRegistersBut s t ([axB l n.val + AX.STATUS_MODE.ofs, axB l n.val + AX.STATUS_LASTTAG.ofs] ++
        (List.range 3).map fun i => cellB l (3 * n.val + i) + PC.CELL_STATUS_SRC.ofs) ∧
      t.mem = s.mem ∧ t.evq = s.evq ∧ t.sk = s.sk) ∧
  (∀ (l : DLane) (n : Fin 6) (r : OutRec) (s : State), s.axOn l n.val = true →
    (famGet (fun _ => ({} : BusSt)) s.buses (dno l)).drvQ = [r] → r.kind = 1 → r.index = n.val →
    (s.axis l n.val).tagOk = true → older r.tag (s.fg (axB l n.val) AX.STATUS_LASTTAG) = true →
    Completes (.axisRecordApply l n) s fun t =>
      t.axis l n.val = s.axis l n.val ∧ t.fg (axB l n.val) AX.STATUS_LASTTAG = s.fg (axB l n.val) AX.STATUS_LASTTAG ∧
      t.fb (axB l n.val) AX.EVT_STALE = true ∧ t.mem = s.mem ∧ t.sk = s.sk ∧
      t.evq = s.evq ++ [s.stamp { coll := .lane l.lane, src := 0x17, inst := n.val, res := resLane l.lane }]) ∧
  (∀ (l : DLane) (n : Fin 6) (r : OutRec) (s : State), s.axOn l n.val = true →
    (famGet (fun _ => ({} : BusSt)) s.buses (dno l)).drvQ = [r] → r.kind = 1 → r.index = n.val →
    ((s.axis l n.val).tagOk = true → older r.tag (s.fg (axB l n.val) AX.STATUS_LASTTAG) = false) →
    s.sk.hold.isSome = true → (s.axis l n.val).kept = none → Completes (.axisRecordApply l n) s fun t =>
      (t.axis l n.val).kept = some r ∧ (t.axis l n.val).used = (s.axis l n.val).used ∧ t.regs = s.regs ∧ t.mem = s.mem ∧
      t.evq = s.evq ∧ t.sk = s.sk)

/-- In CURRENT mode the winding references never pass the winding limit, whatever a record asks for; with share 0 of the lane's own
winding they are 0; and an axis above its speed cap gets no q current of the sign of its speed (R44, R149).
A duty from 0 to 1 gives a compare value from 0 to H + 1 in every phase, whatever the vector and the bus (R116, R135). -/
def Obligations.ReferencesAndCompareValuesAreBounded : Prop :=
  ((∀ (l : DLane) (n : Nat) (r : OutRec) (s : State),
    |(s.refsOf l n r).1| ≤ s.fg (axB l n) AX.ILIM_WIND * 2 ^ 60 ∧ |(s.refsOf l n r).2| ≤ s.fg (axB l n) AX.ILIM_WIND * 2 ^ 60) ∧
  (∀ (l : DLane) (n : Nat) (r : OutRec) (s : State), s.ownShare l n = 0 → s.refsOf l n r = (0, 0)) ∧
  (∀ (l : DLane) (n : Nat) (r : OutRec) (s : State), s.cfgMaxSpd n ≠ 0 → 0 < (s.fbu l n).spdVal →
    s.sk.capSpd * s.cfgMaxSpd n * 2 ^ s.fg (fuB l n) FB.SPDCFG_SPDQ < (s.fbu l n).spdVal.natAbs * 100 * 2 ^ 8 →
    (s.refsOf l n r).2 ≤ 0)) ∧
  (∀ (a b b0 : Int) (h : Nat), ∀ v ∈ svmCmp a b b0 h, v ≤ h + 1)

/-- A compare event at the natural crossing turns the owed side of its phase: in a rising half the high side is commanded on and
the low side off; a crossing without an owed edge leaves the gates, and with OFF in force both go off at the crossing (R134, R135). A
gate goes on only where the axis may drive and the cell allows it.
An update takes the voltage of the selected bus at its instant and latches the samples, those of the beacon's window for the input
record, and fires AXIS_SAMPLE; below 4.0 V the cells are off and no record is applied (R138 to R141). -/
def Obligations.DriveUpdateAndCompareEvents : Prop :=
  ((∀ (l : DLane) (n : Fin 8) (ph : Fin 3) (c : Nat) (s : State), n.val < 6 → s.axOn l n.val = true →
    pwmCount (s.halfClocks l n.val) true c = true → s.axFollows l n.val = true → (s.axis l n.val).pwm.live.getD ph.val false = true →
    (s.axis l n.val).pwm.hs.length = 3 → (s.axis l n.val).pwm.hs.getD ph.val false = false →
    (s.axis l n.val).pwm.cmpV.getD ph.val 0 = c → s.heldCell l (3 * n.val + ph.val) = false → s.axDrives l n.val = true →
    s.cellOk l (3 * n.val + ph.val) true = true → Completes (.pwmCompareEvent l n ph true c false) s fun t =>
      t.gateTurns l (3 * n.val + ph.val) true = true ∧ t.gateOn l (3 * n.val + ph.val) false = false ∧
      (t.axis l n.val).pwm.hs.getD ph.val false = true ∧ t.evq = s.evq ∧ t.mem = s.mem ∧ t.sk = s.sk) ∧
  (∀ (l : DLane) (n : Fin 8) (ph : Fin 3) (c : Nat) (s : State), n.val < 6 → s.axFollows l n.val = true → (s.axis l n.val).tripped = false →
    (s.axis l n.val).pwm.hs.getD ph.val false = true → Completes (.pwmCompareEvent l n ph true c false) s fun t =>
      t.cells = s.cells ∧ t.regs = s.regs ∧ (t.axis l n.val).pwm.hs = (s.axis l n.val).pwm.hs ∧ t.evq = s.evq ∧ t.mem = s.mem ∧ t.sk = s.sk) ∧
  (∀ (l : DLane) (n : Fin 8) (ph : Fin 3) (rising : Bool) (c : Nat) (s : State), n.val < 6 → s.axOn l n.val = true →
    pwmCount (s.halfClocks l n.val) rising c = true → s.axFollows l n.val = false → s.heldCell l (3 * n.val + ph.val) = false →
    (s.axis l n.val).tripped = false → (s.axis l n.val).pwm.live.length = 3 →
    pwmHit rising c ((s.axis l n.val).pwm.cmpV.getD ph.val 0) = true → Completes (.pwmCompareEvent l n ph rising c false) s fun t =>
      (∀ hs, t.gateOn l (3 * n.val + ph.val) hs = false) ∧ (t.axis l n.val).pwm.live.getD ph.val false = false ∧
      t.evq = s.evq ∧ t.mem = s.mem ∧ t.sk = s.sk) ∧
  (∀ (l : DLane) (n : Fin 8) (ph : Fin 3) (rising forming : Bool) (c : Nat) (s : State), n.val < 6 → s.axOn l n.val = false →
    exec (.pwmCompareEvent l n ph rising c forming) s = .next s)) ∧
  ((∀ (l : DLane) (n : Fin 6) (ru rv rw : Int) (vb : Nat × Nat) (s : State), s.axOn l n.val = true →
    let v := if s.fb (axB l n.val) AX.SENSCFG_BUSSEL then vb.2 else vb.1
    Completes (.driveUpdate l n true ru rv rw vb) s fun t =>
      (t.axis l n.val).vbus = v ∧ (t.axis l n.val).iu = s.phaseCurrent l n.val 0 ru ∧
      (t.axis l n.val).iv = s.phaseCurrent l n.val 1 rv ∧ (t.axis l n.val).iw = s.phaseCurrent l n.val 2 rw ∧
      ((t.axis l n.val).queue.getD 5 []).head? = some v ∧ (t.axis l n.val).updAt = s.now ∧
      ((s.axis l n.val).upd = 0 → (t.axis l n.val).samples = (t.axis l n.val).queue) ∧
      ((s.axis l n.val).upd ≠ 0 → (t.axis l n.val).samples = (s.axis l n.val).samples) ∧
      2 + n.val ∈ famGet (fun _ => ([] : List Nat)) t.fired (dno l) ∧ t.mem = s.mem ∧ t.sk = s.sk) ∧
  (∀ (l : DLane) (n : Fin 6) (ru rv rw : Int) (vb : Nat × Nat) (s : State), s.axOn l n.val = true →
    (if s.fb (axB l n.val) AX.SENSCFG_BUSSEL then vb.2 else vb.1) < 4 * 2 ^ 12 →
    s.sf.regs = [] → Completes (.driveUpdate l n true ru rv rw vb) s fun t =>
      t.gatesAreOff l (3 * n.val) 3 ∧ (t.axis l n.val).used = (s.axis l n.val).used ∧ (t.axis l n.val).kept = (s.axis l n.val).kept))

/-- A shunt voltage above THR outside the blanking after an edge turns all six gates of the axis off, sets OCP and counts; LIMIT trips
in a row keep the cells off and raise 0x0A0; 64 saturated updates, RNGCNT windows of one phase out of range and RTMO beacons without a
record raise 0x0A4, 0x0A5 and 0x0A1 (R138, R142 to R144, R152).
A write of 1 to AXn.CTRL.EN before the lock enables the axis with its integrators 0 where none of the conditions of R131
holds, and is refused with 0x0A7 otherwise, which leaves EN 0; a write of 0 turns its gates off (R131, R144). The position-hold
regulator's cells stay its own. -/
def Obligations.DriveFaultsAndEnable : Prop :=
  ((∀ (l : DLane) (n : Fin 6) (ph : Fin 3) (rising : Bool) (c uv : Nat) (s : State), s.axOn l n.val = true → (s.axis l n.val).tripped = false →
    pwmCount (s.halfClocks l n.val) rising c = true → s.fg (axB l n.val) AX.OCP_THR * 1250 < uv →
    (∀ e, (s.axis l n.val).pwm.edges.getD ph.val none = some e →
      e + s.fg (axB l n.val) AX.OCP_BLANK ≤ ((s.axis l n.val).pwm.moveTo (s.halfClocks l n.val) rising c).clk) →
    Completes (.peakTrip l n ph rising c uv) s fun t =>
      t.gatesAreOff l (3 * n.val) 3 ∧ (t.axis l n.val).tripped = true ∧ t.fb (axB l n.val) AX.EVT_OCP = true ∧
      t.fg (axB l n.val) AX.COUNT_OCP = min (2 ^ AX.COUNT_OCP.w - 1) (s.fg (axB l n.val) AX.COUNT_OCP + 1) ∧
      t.axisBlocked l n.val = true ∧ t.evq = s.evq ∧ t.mem = s.mem ∧ t.sk = s.sk) ∧
  (∀ (l : DLane) (n : Fin 6) (ph : Fin 3) (rising : Bool) (c uv : Nat) (s : State), uv ≤ s.fg (axB l n.val) AX.OCP_THR * 1250 →
    (s.axis l n.val).tripped = false → Completes (.peakTrip l n ph rising c uv) s fun t =>
      t.regs = s.regs ∧ t.cells = s.cells ∧ (t.axis l n.val).tripped = false) ∧
  (∀ (l : DLane) (n : Fin 6) (s : State), s.axOn l n.val = true → (s.axis l n.val).ocOff = false →
    1 ≤ (s.axis l n.val).ocpRun → s.fg (axB l n.val) AX.OCP_LIMIT ≤ (s.axis l n.val).ocpRun → s.heldCell l (3 * n.val) = false →
    Completes (.axOvercurrent l n) s fun t =>
      t.gatesAreOff l (3 * n.val) 3 ∧ t.axisBlocked l n.val = true ∧ t.mem = s.mem ∧ t.sk = s.sk ∧
      t.evq = s.evq ++ [s.stamp { coll := .lane l.lane, src := 0xa0, inst := n.val, res := resLane l.lane }]) ∧
  (∀ (l : DLane) (n : Fin 6) (s : State), s.axOn l n.val = true → (s.axis l n.val).satRun = 64 → Completes (.axSatLong l n) s fun t =>
      t.fb (axB l n.val) AX.EVT_SAT_LONG = true ∧ SameRegistersBut s t [axB l n.val + AX.EVT_SAT_LONG.ofs] ∧ t.mem = s.mem ∧
      t.evq = s.evq ++ [s.stamp { coll := .lane l.lane, src := 0xa4, inst := n.val, res := resLane l.lane }]) ∧
  (∀ (l : DLane) (n : Fin 6) (s : State), s.axOn l n.val = true →
    s.rngCnt l n.val ∈ (s.axis l n.val).rngRun → Completes (.axSenseRange l n) s fun t =>
      t.fb (axB l n.val) AX.EVT_RANGE = true ∧ SameRegistersBut s t [axB l n.val + AX.EVT_RANGE.ofs] ∧ t.mem = s.mem ∧
      t.evq = s.evq ++ [s.stamp { coll := .lane l.lane, src := 0xa5, inst := n.val, res := resLane l.lane }]) ∧
  (∀ (l : DLane) (n : Fin 6) (s : State), s.axOn l n.val = true → s.fg (axB l n.val) AX.RECCFG_RTMO ≠ 0 →
    (s.axis l n.val).since = s.fg (axB l n.val) AX.RECCFG_RTMO → Completes (.axRecTimeout l n) s fun t =>
      t.fb (axB l n.val) AX.EVT_TMO = true ∧ SameRegistersBut s t [axB l n.val + AX.EVT_TMO.ofs] ∧ t.mem = s.mem ∧
      t.evq = s.evq ++ [s.stamp { coll := .lane l.lane, src := 0xa1, inst := n.val, res := resLane l.lane }])) ∧
  ((∀ (l : DLane) (n : Fin 6) (v : Word) (s : State), s.running l.lane = true → (s.lane l.lane).locked = false → v.getLsbD 0 = true →
    s.fb (axB l n.val) AX.CTRL_EN = false → s.axCfgOk l n.val = true → Completes (.axEnWrite l n v) s fun t =>
      t.fb (axB l n.val) AX.CTRL_EN = true ∧ (t.axis l n.val).intD = 0 ∧ (t.axis l n.val).intQ = 0 ∧ t.evq = s.evq ∧
      t.mem = s.mem ∧ t.sk = s.sk) ∧
  (∀ (l : DLane) (n : Fin 6) (v : Word) (s : State), s.running l.lane = true → (s.lane l.lane).locked = false → v.getLsbD 0 = true →
    s.fb (axB l n.val) AX.CTRL_EN = false → s.axCfgOk l n.val = false →
    Completes (.axEnWrite l n v) s (Raises s { coll := .lane l.lane, src := 0xa7, inst := n.val, res := resLane l.lane })) ∧
  (∀ (l : DLane) (n : Fin 6) (v : Word) (s : State), s.running l.lane = true → (s.lane l.lane).locked = false → v.getLsbD 0 = true →
    s.fb (axB l n.val) AX.CTRL_EN = true → s.axCfgOk l n.val = false → Completes (.axEnWrite l n v) s fun t =>
      t.fb (axB l n.val) AX.CTRL_EN = false ∧ t.mem = s.mem ∧ t.sk = s.sk ∧
      t.evq = s.evq ++ [s.stamp { coll := .lane l.lane, src := 0xa7, inst := n.val, res := resLane l.lane }]) ∧
  (∀ (l : DLane) (n : Fin 6) (v : Word) (s : State), s.running l.lane = true → (s.lane l.lane).locked = false → v.getLsbD 0 = false →
    s.heldCell l (3 * n.val) = false → Completes (.axEnWrite l n v) s fun t =>
      t.fb (axB l n.val) AX.CTRL_EN = false ∧ t.gatesAreOff l (3 * n.val) 3 ∧ t.evq = s.evq ∧ t.mem = s.mem ∧ t.sk = s.sk) ∧
  (∀ (l : DLane) (n : Nat) (s : State), (s.fg (axB l n) AX.COMM_PP = 0 ∨ s.fg (axB l n) AX.CPR_CPR = 0 ∨
      s.fg (axB l n) AX.ISCALE_ISCALE = 0 ∨ s.fg (axB l n) AX.ILIM_WIND = 0 ∨ s.fg (axB l n) AX.ILIM_FULL = 0 ∨
      s.fg (axB l n) AX.SENSCFG_OSR < 8 ∨ 256 < s.fg (axB l n) AX.SENSCFG_OSR ∨
      s.sk.t < 25 * 2 ^ s.fg (axB l n) AX.PWMCFG_DIV) → s.axCfgOk l n = false))

/-! Position feedback -/

/-- The position: an accepted edge moves t by one, the counter is t held between the soft limits, leaving the range raises 0x043,
and counts beyond an excess of 32,767 are lost with 0x044 at the onset; edges of A and B in one clock count nothing, make a valid
position doubtful and raise 0x040 (R162, R164 to R166). An index is accepted where Z has
rested since the last: the first sets the reference, a later one within SLIPTOL corrects
t, one beyond it raises 0x042 and leaves t, and travel past CPR + SLIPTOL without one raises 0x049 (R170, R171). -/
def Obligations.PositionFollowsEdgesAndIndex : Prop :=
  (∀ (l : DLane) (n : Fin 6) (up : Bool) (clock : Nat) (d : Int) (s : State), s.fbOn l n.val = true →
    s.fb (fuB l n.val) FB.CTRL_QUAD = true → s.fb (fuB l n.val) FB.CTRL_PSRC = false →
    d = (if up = s.fb (fuB l n.val) FB.CTRL_DIR then -1 else 1) →
    ((s.fbu l n.val).t + d - s.counterOf (fuB l n.val) ((s.fbu l n.val).t + d)).natAbs ≤ 32767 →
    Completes (.quadEdge l n false up clock) s fun t =>
      (t.fbu l n.val).t = (s.fbu l n.val).t + d ∧ (t.fbu l n.val).edge = some ((s.fbu l n.val).nc + d, clock) ∧
      (t.fbu l n.val).pos =
        clampI (s.softMin (fuB l n.val)) (s.softMax (fuB l n.val)) ((s.fbu l n.val).t + d) ∧
      t.mem = s.mem ∧ t.sk = s.sk ∧
      ((s.fbu l n.val).t = (s.fbu l n.val).pos →
        (s.fbu l n.val).t + d = s.counterOf (fuB l n.val) ((s.fbu l n.val).t + d) → t.evq = s.evq) ∧
      ((s.fbu l n.val).t = (s.fbu l n.val).pos →
        (s.fbu l n.val).t + d ≠ s.counterOf (fuB l n.val) ((s.fbu l n.val).t + d) →
        t.fb (fuB l n.val) FB.EVT_SOFT = true ∧
        t.evq = s.evq ++ [s.stamp { coll := .lane l.lane, src := 0x43, inst := n.val, res := resLane l.lane }])) ∧
  (∀ (l : DLane) (n : Fin 6) (clock : Nat) (s : State), s.fbOn l n.val = true → s.fb (fuB l n.val) FB.CTRL_QUAD = true →
    s.fb (fuB l n.val) FB.CTRL_PSRC = false → s.fb (fuB l n.val) FB.CTRL_DIR = false →
    s.softMin (fuB l n.val) ≤ s.softMax (fuB l n.val) → (s.fbu l n.val).t = s.softMax (fuB l n.val) + 32767 →
    (s.fbu l n.val).pos = s.softMax (fuB l n.val) →
    Completes (.quadEdge l n false true clock) s fun t =>
      (t.fbu l n.val).t = (s.fbu l n.val).t ∧ (t.fbu l n.val).full = true ∧ t.mem = s.mem ∧ t.sk = s.sk ∧
      ((s.fbu l n.val).full = true → t.evq = s.evq) ∧ ((s.fbu l n.val).full = false → LaneEvent t l.lane 0x44 n.val)) ∧
  (∀ (l : DLane) (n : Fin 6) (up : Bool) (clock : Nat) (s : State), s.fbOn l n.val = true →
    s.fb (fuB l n.val) FB.CTRL_QUAD = true → Completes (.quadEdge l n true up clock) s fun t =>
      (t.fbu l n.val).t = (s.fbu l n.val).t ∧ t.fb (fuB l n.val) FB.EVT_QUAD_ILL = true ∧
      t.fg (fuB l n.val) FB.ERRCNT_QUAD = min 255 (s.fg (fuB l n.val) FB.ERRCNT_QUAD + 1) ∧
      t.fg (fuB l n.val) FB.STATUS_POSQ =
        (if s.fg (fuB l n.val) FB.STATUS_POSQ = 1 then 2 else s.fg (fuB l n.val) FB.STATUS_POSQ) ∧
      t.mem = s.mem ∧ t.sk = s.sk ∧
      t.evq = s.evq ++ [s.stamp { coll := .lane l.lane, src := 0x40, inst := n.val, res := resLane l.lane }]) ∧
  (∀ (l : DLane) (n : Fin 6) (both up : Bool) (clock : Nat) (s : State), s.fbOn l n.val = false →
    exec (.quadEdge l n both up clock) s = .next s) ∧
  (∀ (l : DLane) (n : Fin 6) (ba : Fin 4) (rested : Bool) (s : State), s.fbOn l n.val = true → s.fb (fuB l n.val) FB.CTRL_QUAD = true →
    ((s.fbu l n.val).idxAny = true → rested = true) → s.fb (fuB l n.val) FB.IDXCFG_IDXEN = true → s.fb (fuB l n.val) FB.IDXCFG_IDXGATE = false →
    s.fb (fuB l n.val) FB.STATUS_IDXREF = false → (s.fbu l n.val).homeSt = 0 → Completes (.indexPulse l n ba rested) s fun t =>
      t.fb (fuB l n.val) FB.STATUS_IDXREF = true ∧ (t.fbu l n.val).idxRef = (s.fbu l n.val).t ∧
      (t.fbu l n.val).t = (s.fbu l n.val).t ∧ SameRegistersBut s t [fuB l n.val + FB.STATUS_IDXREF.ofs] ∧
      t.evq = s.evq ∧ t.mem = s.mem ∧ t.sk = s.sk) ∧
  (∀ (l : DLane) (n : Fin 6) (ba : Fin 4) (s : State), (s.fbu l n.val).idxAny = true → exec (.indexPulse l n ba false) s = .next s) ∧
  (∀ (l : DLane) (n : Fin 6) (ba : Fin 4) (rested : Bool) (r sl : Int) (s : State), s.fbOn l n.val = true →
    ((s.fbu l n.val).idxAny = true → rested = true) →
    s.fb (fuB l n.val) FB.CTRL_QUAD = true → s.fb (fuB l n.val) FB.IDXCFG_IDXEN = true →
    (s.fb (fuB l n.val) FB.IDXCFG_IDXGATE = true → s.fg (fuB l n.val) FB.IDXCFG_IDXSTATE = ba.val) →
    s.fb (fuB l n.val) FB.STATUS_IDXREF = true → (s.fbu l n.val).homeSt = 0 → s.fg (axB l n.val) AX.CPR_CPR ≠ 0 →
    r = ((s.fbu l n.val).pos - (s.fbu l n.val).idxRef) % s.fg (axB l n.val) AX.CPR_CPR →
    sl = (if (s.fg (axB l n.val) AX.CPR_CPR : Int) ≤ 2 * r then r - s.fg (axB l n.val) AX.CPR_CPR else r) → sl ≠ 0 →
    (sl.natAbs ≤ s.fg (fuB l n.val) FB.IDXCFG_SLIPTOL →
      ((s.fbu l n.val).t - sl - s.counterOf (fuB l n.val) ((s.fbu l n.val).t - sl)).natAbs ≤ 32767 →
      Completes (.indexPulse l n ba rested) s fun t =>
        (t.fbu l n.val).t = (s.fbu l n.val).t - sl ∧ t.fi (fuB l n.val) FB.SLIP_LAST = clampI (-32768) 32767 sl ∧
        t.fg (fuB l n.val) FB.SLIP_CORR = min 65535 (s.fg (fuB l n.val) FB.SLIP_CORR + 1) ∧
        t.fb (fuB l n.val) FB.EVT_SLIP_CORR = true ∧ t.mem = s.mem ∧ t.sk = s.sk) ∧
    (s.fg (fuB l n.val) FB.IDXCFG_SLIPTOL < sl.natAbs → Completes (.indexPulse l n ba rested) s fun t =>
        (t.fbu l n.val).t = (s.fbu l n.val).t ∧ t.fi (fuB l n.val) FB.SLIP_LAST = clampI (-32768) 32767 sl ∧
        t.fb (fuB l n.val) FB.EVT_SLIP_BIG = true ∧
        t.fg (fuB l n.val) FB.STATUS_POSQ =
          (if s.fg (fuB l n.val) FB.STATUS_POSQ = 1 then 2 else s.fg (fuB l n.val) FB.STATUS_POSQ) ∧
        t.mem = s.mem ∧ t.sk = s.sk ∧
        t.evq = s.evq ++ [s.stamp { coll := .lane l.lane, src := 0x42, inst := n.val, res := resLane l.lane }])) ∧
  (∀ (l : DLane) (n : Fin 6) (s : State), s.fbOn l n.val = true → s.fb (fuB l n.val) FB.STATUS_IDXREF = true →
    (s.fbu l n.val).missRaised = false →
    s.fg (axB l n.val) AX.CPR_CPR + s.fg (fuB l n.val) FB.IDXCFG_SLIPTOL < ((s.fbu l n.val).t - (s.fbu l n.val).tIdx).natAbs →
    Completes (.fbIndexMissing l n) s fun t =>
      (t.fbu l n.val).missRaised = true ∧ t.fb (fuB l n.val) FB.EVT_IDX_MISS = true ∧
      SameRegistersBut s t [fuB l n.val + FB.EVT_IDX_MISS.ofs] ∧ t.mem = s.mem ∧ t.sk = s.sk ∧
      t.evq = s.evq ++ [s.stamp { coll := .lane l.lane, src := 0x49, inst := n.val, res := resLane l.lane }])

/-- A home is armed for HOMECYC or refused, waits from that beacon's sample point, completes with t and the index reference at
HOMEOFS, POSQ VALID and every compare unit disarmed, and is dropped after 2 CPR of travel (R167, R168). An armed compare unit
fires when the counter crosses its value (R189 to R191). -/
def Obligations.HomesAndCompareUnits : Prop :=
  (∀ (l : DLane) (n : Fin 6) (s : State), s.running l.lane = true →
    let d := ((s.fg (fuB l n.val) FB.HOMECYC_HOMECYC : Int) - s.sk.cycle) % 2 ^ 32
    ((d = 0 ∨ 2 ^ 31 ≤ d) → Completes (.homeWrite l n) s fun t =>
      t = s.fs (fuB l n.val) FB.EVT_HOME_REFUSED 1) ∧
    (0 < d → d < 2 ^ 31 → Completes (.homeWrite l n) s fun t =>
      t.fb (fuB l n.val) FB.STATUS_HOMEARM = true ∧ (t.fbu l n.val).homeSt = 1 ∧ (t.fbu l n.val).t = (s.fbu l n.val).t ∧
      SameRegistersBut s t [fuB l n.val + FB.STATUS_HOMEARM.ofs] ∧ t.mem = s.mem ∧ t.evq = s.evq ∧ t.sk = s.sk)) ∧
  (∀ (l : DLane) (n : Fin 6) (s : State), s.running l.lane = true → Completes (.homecancelWrite l n) s fun t =>
      t.fb (fuB l n.val) FB.STATUS_HOMEARM = false ∧ (t.fbu l n.val).homeSt = 0 ∧ (t.fbu l n.val).t = (s.fbu l n.val).t ∧
      SameRegistersBut s t [fuB l n.val + FB.STATUS_HOMEARM.ofs] ∧ t.mem = s.mem ∧ t.evq = s.evq ∧ t.sk = s.sk) ∧
  (∀ (l : DLane) (n : Fin 6) (clock : Nat) (s : State), s.fbOn l n.val = true → (s.fbu l n.val).homeSt = 1 →
    s.sk.cycle = s.fg (fuB l n.val) FB.HOMECYC_HOMECYC → Completes (.fbSamplePoint l n true clock) s fun t =>
      (t.fbu l n.val).homeSt = 2 ∧ (t.fbu l n.val).travel = 0 ∧
      (t.fbu l n.val).homeDue = !(!s.fb (fuB l n.val) FB.CTRL_PSRC && s.fb (fuB l n.val) FB.IDXCFG_IDXEN)) ∧
  (∀ (l : DLane) (n : Fin 6) (s : State), s.fbOn l n.val = true → (s.fbu l n.val).homeSt = 2 → (s.fbu l n.val).homeDue = true →
    s.softMin (fuB l n.val) ≤ s.fi (fuB l n.val) FB.HOMEOFS_HOMEOFS → s.fi (fuB l n.val) FB.HOMEOFS_HOMEOFS ≤ s.softMax (fuB l n.val) →
    Completes (.homeComplete l n) s fun t =>
      (t.fbu l n.val).t = s.fi (fuB l n.val) FB.HOMEOFS_HOMEOFS ∧ (t.fbu l n.val).idxRef = s.fi (fuB l n.val) FB.HOMEOFS_HOMEOFS ∧
      (t.fbu l n.val).homeSt = 0 ∧ t.fg (fuB l n.val) FB.STATUS_POSQ = 1 ∧ t.fb (fuB l n.val) FB.EVT_HOMED = true ∧
      t.fb (fuB l n.val) FB.STATUS_HOMEARM = false ∧ (∀ j < 8, t.fb (fuB l n.val + 16 * j) FB.CMP_CFG_ARM = false) ∧
      t.evq = s.evq ∧ t.mem = s.mem ∧ t.sk = s.sk) ∧
  (∀ (l : DLane) (n : Fin 6) (s : State), s.fbOn l n.val = true → (s.fbu l n.val).homeSt = 2 →
    2 * s.fg (axB l n.val) AX.CPR_CPR ≤ (s.fbu l n.val).travel → Completes (.homeDrop l n) s fun t =>
      t.fb (fuB l n.val) FB.STATUS_HOMEARM = false ∧ (t.fbu l n.val).homeSt = 0 ∧ (t.fbu l n.val).t = (s.fbu l n.val).t ∧
      SameRegistersBut s t [fuB l n.val + FB.STATUS_HOMEARM.ofs] ∧ t.mem = s.mem ∧ t.evq = s.evq ∧ t.sk = s.sk) ∧
  (∀ (l : DLane) (n : Fin 6) (j : Fin 8) (v : Word) (s : State), s.running l.lane = true → v.getLsbD 3 = true →
    v.toNat % 4 = 1 → Completes (.compareArm l n j v) s fun t =>
      t.fb (fuB l n.val + 16 * j.val) FB.CMP_CFG_ARM = true ∧ t.fg (fuB l n.val + 16 * j.val) FB.CMP_CFG_FIRES = 0 ∧
      famGet (fun _ => (0 : Int)) (t.fbu l n.val).cmpAt j.val =
        signed 40 (s.fg (fuB l n.val + 16 * j.val) FB.CMP_L_VLO + s.fg (fuB l n.val + 16 * j.val) FB.CMP_H_VHI * 2 ^ 32) ∧
      t.fb (fuB l n.val + 16 * j.val) FB.CMP_CFG_BEHIND_AT_ARM = decide (
        signed 40 (s.fg (fuB l n.val + 16 * j.val) FB.CMP_L_VLO + s.fg (fuB l n.val + 16 * j.val) FB.CMP_H_VHI * 2 ^ 32) ≤
          (s.fbu l n.val).pos) ∧
      SameRegistersBut s t [fuB l n.val + 16 * j.val + FB.CMP_CFG_ARM.ofs] ∧ t.mem = s.mem ∧ t.evq = s.evq ∧ t.sk = s.sk) ∧
  (∀ (l : DLane) (n : Fin 6) (j : Fin 8) (clock : Nat) (s : State), s.fbOn l n.val = true →
    s.fb (fuB l n.val) FB.CTRL_QUAD = true → s.fb (fuB l n.val) FB.CTRL_PSRC = false → s.fb (fuB l n.val) FB.CTRL_DIR = false →
    s.softMin (fuB l n.val) ≤ (s.fbu l n.val).t → (s.fbu l n.val).t < s.softMax (fuB l n.val) →
    s.fb (fuB l n.val + 16 * j.val) FB.CMP_CFG_ARM = true → s.fg (fuB l n.val + 16 * j.val) FB.CMP_CFG_DIR = 1 →
    s.fb (fuB l n.val + 16 * j.val) FB.CMP_CFG_REPEAT = false →
    famGet (fun _ => (0 : Int)) (s.fbu l n.val).cmpAt j.val = (s.fbu l n.val).t + 1 → (s.fbu l n.val).pos = (s.fbu l n.val).t →
    (∀ i < 8, i ≠ j.val → s.fb (fuB l n.val + 16 * i) FB.CMP_CFG_ARM = false) →
    Completes (.quadEdge l n false true clock) s fun t =>
      t.fb (fuB l n.val + 16 * j.val) FB.CMP_CFG_FIRED = true ∧ t.fb (fuB l n.val + 16 * j.val) FB.CMP_CFG_ARM = false ∧
      t.fg (fuB l n.val + 16 * j.val) FB.CMP_CFG_FIRES = min 65535 (s.fg (fuB l n.val + 16 * j.val) FB.CMP_CFG_FIRES + 1) ∧
      (t.fg (fuB l n.val) FB.EVT_CMP).testBit j.val = true ∧ (t.fbu l n.val).cmpFired.testBit j.val = true ∧
      8 + n.val ∈ famGet (fun _ => ([] : List Nat)) t.fired (laneNo l.lane) ∧ t.evq = s.evq ∧ t.mem = s.mem ∧ t.sk = s.sk)

/-- Hall codes and serial reads: an illegal code is counted and raises 0x041, a change between codes that are not neighbours
raises 0x047 (R173); the first valid read sets t, one that fails its checks leaves t and raises 0x045, and the third in a row
makes a valid position doubtful with 0x048 (R174 to R176, R180; the CRC of a SENT frame is log entry 138's). The sample point at a beacon latches t, the counter and the
status word for the input record (R183 to R185). -/
def Obligations.HallSerialAndSamplePoint : Prop :=
  (∀ (l : DLane) (n : Fin 6) (code : Fin 8) (s : State), s.fbOn l n.val = true → s.fb (fuB l n.val) FB.CTRL_HALL = true →
    (s.fbu l n.val).hall ≠ some code.val → (code.val = 0 ∨ code.val = 7) → Completes (.hallChange l n code) s fun t =>
      t.fg (fuB l n.val) FB.STATUS_HALL = code.val ∧ t.fb (fuB l n.val) FB.EVT_HALL_ILL = true ∧
      t.fg (fuB l n.val) FB.ERRCNT_HALL = min 255 (s.fg (fuB l n.val) FB.ERRCNT_HALL + 1) ∧
      LaneEvent t l.lane 0x41 n.val ∧ (t.fbu l n.val).t = (s.fbu l n.val).t ∧ t.mem = s.mem ∧ t.sk = s.sk) ∧
  (∀ (l : DLane) (n : Fin 6) (code : Fin 8) (h j k : Nat) (s : State), s.fbOn l n.val = true → s.fb (fuB l n.val) FB.CTRL_HALL = true →
    (s.fbu l n.val).hall = some h → hallSector h = some j → hallSector code.val = some k → j ≠ k → hallStep j k = none →
    Completes (.hallChange l n code) s fun t =>
      t.fg (fuB l n.val) FB.STATUS_HALL = code.val ∧ t.fb (fuB l n.val) FB.EVT_HALL_SKIP = true ∧
      LaneEvent t l.lane 0x47 n.val ∧ (t.fbu l n.val).t = (s.fbu l n.val).t ∧ t.mem = s.mem ∧ t.sk = s.sk) ∧
  (∀ (l : DLane) (n : Fin 6) (data : Word) (st : BitVec 4) (s : State), s.fbOn l n.val = true → s.fg (fuB l n.val) FB.CTRL_SER = 1 →
    (s.fbu l n.val).reading = true → Completes (.ssiReadDone l n false data st) s fun t =>
      (t.fbu l n.val).t = (s.fbu l n.val).t ∧ (t.fbu l n.val).missed = (s.fbu l n.val).missed + 1 ∧
      t.fb (fuB l n.val) FB.STATUS_SERVALID = false ∧ t.fb (fuB l n.val) FB.EVT_SER_ERR = true ∧
      t.fg (fuB l n.val) FB.ERRCNT_SER = min 255 (s.fg (fuB l n.val) FB.ERRCNT_SER + 1) ∧
      LaneEvent t l.lane 0x45 n.val ∧ t.mem = s.mem ∧ t.sk = s.sk) ∧
  (∀ (l : DLane) (n : Fin 6) (data : Word) (st : BitVec 4) (v : Int) (s : State), s.fbOn l n.val = true →
    s.fg (fuB l n.val) FB.CTRL_SER = 1 → (s.fbu l n.val).reading = true → s.fg (fuB l n.val) FB.SSICFG_STAT = 0 →
    s.fb (fuB l n.val) FB.SSICFG_GRAY = false → s.fb (fuB l n.val) FB.SSICFG_INIT = false → (s.fbu l n.val).vPrev = none →
    v = ((data.toNat % 2 ^ s.fg (fuB l n.val) FB.SSICFG_BITS : Nat) : Int) →
    s.softMin (fuB l n.val) ≤ v → v ≤ s.softMax (fuB l n.val) → Completes (.ssiReadDone l n true data st) s fun t =>
      (t.fbu l n.val).t = v ∧ (t.fbu l n.val).missed = 0 ∧ t.fb (fuB l n.val) FB.STATUS_SERVALID = true ∧
      (t.fg (fuB l n.val) FB.SERRAW_V : Int) = v ∧
      (s.fb (fuB l n.val) FB.CTRL_SERABS = true → s.fg (fuB l n.val) FB.STATUS_POSQ = 0 → (s.fbu l n.val).retPend = false →
        t.fg (fuB l n.val) FB.STATUS_POSQ = 1) ∧
      t.evq = s.evq ∧ t.mem = s.mem ∧ t.sk = s.sk) ∧
  (∀ (l : DLane) (n : Fin 6) (f : SentIn) (clock : Nat) (s : State), s.fbOn l n.val = true → s.fg (fuB l n.val) FB.CTRL_SER = 2 →
    s.sentOk (fuB l n.val) (s.fbu l n.val).calPrev f = false → Completes (.sentFrame l n f clock) s fun t =>
      (t.fbu l n.val).t = (s.fbu l n.val).t ∧ (t.fbu l n.val).missed = (s.fbu l n.val).missed + 1 ∧
      (t.fbu l n.val).frames = (s.fbu l n.val).frames ∧ t.fb (fuB l n.val) FB.EVT_SER_ERR = true ∧
      LaneEvent t l.lane 0x45 n.val ∧ t.mem = s.mem ∧ t.sk = s.sk) ∧
  (∀ (l : DLane) (n : Fin 6) (f : SentIn) (clock : Nat) (s : State), s.fbOn l n.val = true → s.fg (fuB l n.val) FB.CTRL_SER = 2 →
    s.sentOk (fuB l n.val) (s.fbu l n.val).calPrev f = true → s.fb (fuB l n.val) FB.SENTCFG_INIT = false → (s.fbu l n.val).vPrev = none →
    s.softMin (fuB l n.val) ≤ 0 → 2 ^ 24 ≤ s.softMax (fuB l n.val) → s.fg (fuB l n.val) FB.SENTCFG_PNIB ≤ 6 →
    Completes (.sentFrame l n f clock) s fun t =>
      (t.fbu l n.val).t = nibbleVal (f.nibbles.take (s.fg (fuB l n.val) FB.SENTCFG_PNIB)) ∧ (t.fbu l n.val).missed = 0 ∧
      ((t.fbu l n.val).frames.head?.map fun g => (g.v, g.clock)) =
        some (nibbleVal (f.nibbles.take (s.fg (fuB l n.val) FB.SENTCFG_PNIB)), clock) ∧
      t.fb (fuB l n.val) FB.STATUS_SERVALID = true ∧ t.evq = s.evq ∧ t.mem = s.mem ∧ t.sk = s.sk) ∧
  (∀ (b : Nat) (p : Option Nat) (f : SentIn) (s : State), (f.crc ≠ sentCrc4 (s.fb b FB.SENTCFG_CRCLEG) f.nibbles ∨ 15 < f.status ∨
      (∃ x ∈ f.nibbles, 15 < x) ∨ f.nibbles.length ≠ s.fg b FB.SENTCFG_NIB) → s.sentOk b p f = false) ∧
  (∀ (b : Nat) (f : SentIn) (s : State), f.crc = sentCrc4 (s.fb b FB.SENTCFG_CRCLEG) f.nibbles →
    (∀ x ∈ f.status :: f.crc :: f.nibbles, x < 16) → f.nibbles.length = s.fg b FB.SENTCFG_NIB →
    f.calNs = 14000 * s.fg b FB.SENTCFG_TICK → s.fb b FB.SENTCFG_PAUSE = false → s.sentOk b none f = true) ∧
  (∀ (l : DLane) (n : Fin 6) (s : State), s.fbOn l n.val = true → 3 ≤ (s.fbu l n.val).missed → (s.fbu l n.val).lostRaised = false →
    Completes (.fbSerialLost l n) s fun t =>
      (t.fbu l n.val).lostRaised = true ∧ t.fb (fuB l n.val) FB.EVT_SER_LOST = true ∧
      t.fg (fuB l n.val) FB.STATUS_POSQ =
        (if s.fg (fuB l n.val) FB.STATUS_POSQ = 1 then 2 else s.fg (fuB l n.val) FB.STATUS_POSQ) ∧
      SameRegistersBut s t [fuB l n.val + FB.EVT_SER_LOST.ofs, fuB l n.val + FB.STATUS_POSQ.ofs] ∧ t.mem = s.mem ∧ t.sk = s.sk ∧
      t.evq = s.evq ++ [s.stamp { coll := .lane l.lane, src := 0x48, inst := n.val, res := resLane l.lane }]) ∧
  (∀ (l : DLane) (n : Fin 6) (clock : Nat) (s : State), s.fbOn l n.val = true → (s.fbu l n.val).homeSt = 0 →
    Completes (.fbSamplePoint l n true clock) s fun t =>
      (t.fbu l n.val).t = (s.fbu l n.val).t ∧ (t.fbu l n.val).latT = (s.fbu l n.val).t ∧
      (t.fbu l n.val).latPos = (s.fbu l n.val).pos ∧
      (t.fbu l n.val).latStatus % 2 ^ 16 =
        unsigned 16 ((s.fbu l n.val).t - (s.fbu l n.val).pos) ∧
      (t.fbu l n.val).latStatus / 2 ^ 16 % 4 = s.fg (fuB l n.val) FB.STATUS_POSQ ∧
      (t.fbu l n.val).latSpd = (t.fbu l n.val).spdVal ∧ (t.fbu l n.val).cmpFired = 0 ∧ (t.fbu l n.val).idxSeen = false ∧
      t.evq = s.evq ∧ t.mem = s.mem ∧ t.sk = s.sk)

/-- FBn.CTRL.EN: a write of 1 that R195 allows enables the unit with POSQ LOST, and t 0 for quadrature, any other leaves EN 0 and raises
0x04A. A
read of POS_L returns the counter's low word and latches its high byte and the excess (R196). The retention check restores a
stored position of a LOST unit as VALID, or raises 0x0B8 (R166, R218, R219). -/
def Obligations.FeedbackEnableReadAndRetention : Prop :=
  (∀ (l : DLane) (n : Fin 6) (v : Word) (s : State), s.running l.lane = true → (s.lane l.lane).locked = false → v.getLsbD 0 = true →
    (s.rowPut l.lane false (0x40200000 + 0x1000 * n.val) v).fbCfgOk l n.val = true →
    (s.rowPut l.lane false (0x40200000 + 0x1000 * n.val) v).fbClaim l n.val = none → Completes (.fbEnWrite l n v) s fun t =>
      t.fb (fuB l n.val) FB.CTRL_EN = true ∧ t.fg (fuB l n.val) FB.STATUS_POSQ = 0 ∧ (t.fbu l n.val).retPend = true ∧
      t.fg (axB l n.val) AX.STATUS_ALIGN = 0 ∧ t.mem = s.mem ∧ t.sk = s.sk ∧
      (v.toNat / 2 ^ FB.CTRL_PSRC.lo % 2 = 1 → (t.fbu l n.val).t = (s.fbu l n.val).t ∧ t.evq = s.evq) ∧
      (v.toNat / 2 ^ FB.CTRL_PSRC.lo % 2 = 0 → s.softMin (fuB l n.val) ≤ 0 → 0 ≤ s.softMax (fuB l n.val) →
        (t.fbu l n.val).t = 0 ∧ t.evq = s.evq ∧ ((∀ j < 8, s.fb (fuB l n.val + 16 * j) FB.CMP_CFG_ARM = false) →
          SameRegistersBut s t [fuB l n.val + FB.CTRL_EN.ofs, fuB l n.val + FB.STATUS_POSQ.ofs, axB l n.val + AX.STATUS_ALIGN.ofs]))) ∧
  (∀ (l : DLane) (n : Fin 6) (v : Word) (s : State), s.running l.lane = true → (s.lane l.lane).locked = false → v.getLsbD 0 = true →
    (s.rowPut l.lane false (0x40200000 + 0x1000 * n.val) v).fbCfgOk l n.val = false → Completes (.fbEnWrite l n v) s fun t =>
      t.fb (fuB l n.val) FB.CTRL_EN = false ∧ SameRegistersBut s t [fuB l n.val + FB.CTRL_EN.ofs, axB l n.val + AX.STATUS_ALIGN.ofs] ∧ t.mem = s.mem ∧
      t.sk = s.sk ∧ t.evq = s.evq ++ [s.stamp { coll := .lane l.lane, src := 0x4a, inst := n.val, res := resLane l.lane }]) ∧
  (∀ (l : DLane) (n : Nat) (s : State), s.fg (fuB l n) FB.CTRL_SER = 3 ∨ s.softMax (fuB l n) < s.softMin (fuB l n) ∨
    24 < s.fg (fuB l n) FB.SPDCFG_SPDQ ∨ (s.fg (fuB l n) FB.CTRL_PSRC = 0 ∧ s.fg (fuB l n) FB.CTRL_QUAD = 0) →
    s.fbCfgOk l n = false) ∧
  (∀ (l : DLane) (n : Fin 12) (s : State), n.val < 6 → s.running l.lane = true → Completes (.posLRead l.lane n) s fun t =>
      t.readData = BitVec.ofInt 32 (s.fbu l n.val).pos ∧
      t.fi (fuB l n.val) FB.POS_H_EXCESS =
        signed 16 (unsigned 16 ((s.fbu l n.val).t - (s.fbu l n.val).pos)) ∧
      SameRegistersBut s t [fuB l n.val + FB.POS_H_EXCESS.ofs] ∧ t.evq = s.evq ∧ t.mem = s.mem ∧ t.sk = s.sk) ∧
  (∀ (n : Fin 12) (d : DLane) (s : State), s.running .W = true → s.running d.lane = true → (d = .A ↔ n.val < 6) →
    Completes (.posLRead .W n) s fun t =>
      t = { s with readData := BitVec.ofInt 32 (s.fbu d (n.val % 6)).pos }) ∧
  (∀ (l : DLane) (n : Fin 6) (s : State), s.fbOn l n.val = true → (s.fbu l n.val).retPend = true →
    s.fb (fuB l n.val) FB.CTRL_HALL = false → s.fb (fuB l n.val) FB.CTRL_PSRC = false →
    (s.rd8 (dno l) (retAddr n.val + 7)).getLsbD 0 = true → s.retOk l n.val = false →
    Completes (.retentionCheckDone l n) s fun t =>
      (t.fbu l n.val).retPend = false ∧ (t.fbu l n.val).t = (s.fbu l n.val).t ∧
      t.fg (fuB l n.val) FB.STATUS_POSQ = s.fg (fuB l n.val) FB.STATUS_POSQ ∧ LaneEvent t l.lane 0xb8 n.val ∧ t.sk = s.sk) ∧
  (∀ (l : DLane) (n : Fin 6) (s : State), s.fbOn l n.val = true → (s.fbu l n.val).retPend = true →
    s.fb (fuB l n.val) FB.CTRL_HALL = false → s.fb (fuB l n.val) FB.CTRL_PSRC = false → s.retOk l n.val = true →
    s.fg (fuB l n.val) FB.STATUS_POSQ = 0 → Completes (.retentionCheckDone l n) s fun t =>
      (t.fbu l n.val).retPend = false ∧ t.fg (fuB l n.val) FB.STATUS_POSQ = 1 ∧
      (t.fbu l n.val).t = s.holdExcess (fuB l n.val) (signed 40 (leNat (s.rdBytes (dno l) (retAddr n.val) 5)) +
        signed 16 (leNat (s.rdBytes (dno l) (retAddr n.val + 5) 2))) ∧ t.sk = s.sk)

/-! Profile generators -/

/-- MOVE, VELOCITY, STOP and GEAR become the pending command of their CMDCYC, replacing one that waits, or are refused with 0x0B0
where CMDCYC does not lie ahead; CANCEL removes the pending one (R202, R203). PGn.CTRL.EN is refused with 0x0B7 where a condition
of R222 holds, and a read of SPOS_L returns the low word and latches the high one (R223). -/
def Obligations.ProfileCommandsAreStaged : Prop :=
  (∀ (l : DLane) (n : Fin 6) (c : Instr) (op : Nat) (s : State),
    (c, op) ∈ [(.pgMoveCmd l n, 1), (.pgVelocityCmd l n, 2), (.pgStopCmd l n, 3), (Instr.pgGearCmd l n, 4)] →
    s.running l.lane = true →
    let d := ((s.fg (pgB l n.val) PG.CMDCYC_CMDCYC : Int) - s.sk.cycle) % 2 ^ 32
    (0 < d → d < 2 ^ 31 → Completes c s fun t =>
      (t.pg l n.val).cmd = some (op, s.fg (pgB l n.val) PG.CMDCYC_CMDCYC) ∧ (t.pg l n.val).p = (s.pg l n.val).p ∧
      t.fb (pgB l n.val) PG.STATUS_PEND = true ∧ SameRegistersBut s t [pgB l n.val + PG.STATUS_PEND.ofs] ∧
      t.evq = s.evq ∧ t.mem = s.mem ∧ t.sk = s.sk) ∧
    ((d = 0 ∨ 2 ^ 31 ≤ d) → Completes c s fun t =>
      t.pg l n.val = s.pg l n.val ∧ t.fb (pgB l n.val) PG.EVT_CMD_REFUSED = true ∧
      SameRegistersBut s t [pgB l n.val + PG.EVT_CMD_REFUSED.ofs] ∧ t.mem = s.mem ∧ t.sk = s.sk ∧
      t.evq = s.evq ++ [s.stamp { coll := .lane l.lane, src := 0xb0, inst := n.val, res := resLane l.lane }])) ∧
  (∀ (l : DLane) (n : Fin 6) (s : State), s.running l.lane = true →
    0 < ((s.fg (pgB l n.val) PG.CMDCYC_CMDCYC : Int) - s.sk.cycle) % 2 ^ 32 →
    ((s.fg (pgB l n.val) PG.CMDCYC_CMDCYC : Int) - s.sk.cycle) % 2 ^ 32 < 2 ^ 31 → Completes (.pgCancelCmd l n) s fun t =>
      (t.pg l n.val).cmd = none ∧ t.fb (pgB l n.val) PG.STATUS_PEND = false ∧
      SameRegistersBut s t [pgB l n.val + PG.STATUS_PEND.ofs] ∧ t.evq = s.evq ∧ t.mem = s.mem ∧ t.sk = s.sk) ∧
  (∀ (l : DLane) (n : Fin 6) (v : Word) (s : State), s.running l.lane = true → (s.lane l.lane).locked = false → v.getLsbD 0 = true →
    (s.rowPut l.lane false (0x40140000 + 0x1000 * n.val) v).pgCfgOk l n.val = true → Completes (.pgEnWrite l n v) s fun t =>
      t.fb (pgB l n.val) PG.CTRL_EN = true ∧ SameRegistersBut s t [pgB l n.val + PG.CTRL_EN.ofs] ∧
      t.evq = s.evq ∧ t.mem = s.mem ∧ t.sk = s.sk) ∧
  (∀ (l : DLane) (n : Fin 6) (v : Word) (s : State), s.running l.lane = true → (s.lane l.lane).locked = false → v.getLsbD 0 = true →
    (s.fg (pgB l n.val) PG.VLIM_LIM = 0 ∨ s.fg (pgB l n.val) PG.ALIM_LIM = 0 ∨
      s.fg (pgB l n.val) PG.DLIMAX_LIM < s.fg (pgB l n.val) PG.ALIM_LIM ∨ s.fb (fuB l n.val) FB.CTRL_EN = false) →
    Completes (.pgEnWrite l n v) s fun t =>
      t.fb (pgB l n.val) PG.CTRL_EN = false ∧ SameRegistersBut s t [pgB l n.val + PG.CTRL_EN.ofs] ∧ t.mem = s.mem ∧ t.sk = s.sk ∧
      t.evq = s.evq ++ [s.stamp { coll := .lane l.lane, src := 0xb7, inst := n.val, res := resLane l.lane }]) ∧
  (∀ (l : DLane) (n : Fin 6) (s : State), s.running l.lane = true → Completes (.sposLRead l n) s fun t =>
      t.readData = BitVec.ofInt 32 (ratRound (s.pg l n.val).p) ∧
      t.fg (pgB l n.val) PG.SPOS_H_SHI = unsigned PG.SPOS_H_SHI.w (ratRound (s.pg l n.val).p / 2 ^ 32) ∧
      SameRegistersBut s t [pgB l n.val + PG.SPOS_H_SHI.ofs] ∧ t.pg l n.val = s.pg l n.val ∧
      t.evq = s.evq ∧ t.mem = s.mem ∧ t.sk = s.sk)

/-- A step of a profile generator: out of the states that drive it tracks the axis's position in the last vector (R201); in HOLD
without a command the set-point stays; a MOVE whose cycle has come goes for the target held between the soft limits (R203, R204,
R208); a finished MOVE rests at its target with DONE (R206); in GEARED the set-point follows the master by the table, held
between the soft limits (R212, R213). No step touches memory, the unit's state or another lane. -/
def Obligations.ProfileStepsMoveTheSetPoint : Prop :=
  (∀ (l : DLane) (n : Fin 6) (r : List Byte) (s : State), s.running l.lane = true → s.pgLive l n.val = false →
    s.vecLast.bind vecRef = some r → Completes (.pgStep l n) s fun t =>
      (t.pg l n.val).p = ((recPos r n.val : Int) : Rat) ∧ (t.pg l n.val).cmd = none ∧ t.fg (pgB l n.val) PG.STATUS_MODE = 0 ∧
      t.fb (pgB l n.val) PG.STATUS_PEND = false ∧ t.evq = s.evq ∧ t.mem = s.mem ∧ t.sk = s.sk) ∧
  (∀ (l : DLane) (n : Fin 6) (s : State), s.pgLive l n.val = true → s.fg (pgB l n.val) PG.STATUS_MODE = 1 →
    (s.pg l n.val).cmd = none → s.fb (pgB l n.val) PG.CTRL_FSTOP = false → Completes (.pgStep l n) s fun t =>
      (t.pg l n.val).p = (s.pg l n.val).p ∧ t.fg (pgB l n.val) PG.STATUS_MODE = 1 ∧ t.evq = s.evq ∧ t.mem = s.mem ∧ t.sk = s.sk) ∧
  (∀ (l : DLane) (n : Fin 6) (s : State), s.pgLive l n.val = true → s.fg (pgB l n.val) PG.STATUS_MODE = 1 →
    (s.pg l n.val).cmd = some (1, (s.sk.cycle + 1) % 2 ^ 32) → s.fb (pgB l n.val) PG.CTRL_FSTOP = false →
    Completes (.pgStep l n) s fun t =>
      (t.pg l n.val).cmd = none ∧ t.fg (pgB l n.val) PG.STATUS_LASTOP = 1 ∧ t.fb (pgB l n.val) PG.STATUS_PEND = false ∧
      (t.pg l n.val).goal = ((clampI (s.softMin (fuB l n.val)) (s.softMax (fuB l n.val))
        (s.fg40 (pgB l n.val) PG.TGT_L_TLO PG.TGT_H_THI) : Int) : Rat) ∧ t.mem = s.mem ∧ t.sk = s.sk) ∧
  (∀ (l : DLane) (n : Fin 6) (s : State), s.pgLive l n.val = true → s.fg (pgB l n.val) PG.STATUS_MODE = 2 →
    (s.pg l n.val).op = 1 → (s.pg l n.val).cmd = none → s.fb (pgB l n.val) PG.CTRL_FSTOP = false → 0 < (s.pg l n.val).t →
    s.pgVeff l n.val s.nextCap = (s.pg l n.val).veff → (s.pg l n.val).segs.length ≤
      (runPlan (s.pg l n.val).p0 (s.pg l n.val).v0 ((s.pg l n.val).t + (s.sk.t : Rat) / 1000000) (s.pg l n.val).segs 0).2 → Completes (.pgStep l n) s fun t =>
      (t.pg l n.val).p = (s.pg l n.val).goal ∧ (t.pg l n.val).v = 0 ∧ t.fg (pgB l n.val) PG.STATUS_MODE = 1 ∧
      t.fb (pgB l n.val) PG.STATUS_DONE = true ∧ t.fb (pgB l n.val) PG.EVT_DONE = true ∧
      8 + n.val ∈ famGet (fun _ => ([] : List Nat)) t.fired (laneNo l.lane) ∧ t.evq = s.evq ∧ t.mem = s.mem ∧ t.sk = s.sk) ∧
  (∀ (l : DLane) (n : Fin 6) (r : List Byte) (q : Rat) (s : State), s.pgLive l n.val = true →
    s.fg (pgB l n.val) PG.STATUS_MODE = 5 → (s.pg l n.val).cmd = none → s.fb (pgB l n.val) PG.CTRL_FSTOP = false →
    s.vecLast.bind vecRef = some r → recPosq r (s.fg (pgB l n.val) PG.CTRL_MASTER) = 1 → (s.pg l n.val).breaks = [] →
    (s.pg l n.val).ratios = [q] → Completes (.pgStep l n) s fun t =>
      (t.pg l n.val).p = ratClamp (s.softMin (fuB l n.val)) (s.softMax (fuB l n.val))
        ((s.pg l n.val).gp0 + q * ((recPos r (s.fg (pgB l n.val) PG.CTRL_MASTER) - (s.pg l n.val).m0 : Int) : Rat)) ∧
      (t.pg l n.val).m = recPos r (s.fg (pgB l n.val) PG.CTRL_MASTER) ∧ t.fg (pgB l n.val) PG.STATUS_MODE = 5 ∧
      t.mem = s.mem ∧ t.sk = s.sk) ∧
  (∀ (l : DLane) (n : Fin 6) (r : List Byte) (s : State), s.pgLive l n.val = true → s.fg (pgB l n.val) PG.STATUS_MODE = 5 →
    s.fb (pgB l n.val) PG.CTRL_FSTOP = false → s.vecLast.bind vecRef = some r →
    recPosq r (s.fg (pgB l n.val) PG.CTRL_MASTER) ≠ 1 → Completes (.pgStep l n) s fun t =>
      t.fb (pgB l n.val) PG.EVT_MASTER_LOST = true ∧ LaneEvent t l.lane 0xb3 n.val ∧ t.mem = s.mem ∧ t.sk = s.sk)

/-! Live calibration -/

/-- The start calibration gives M0 to M2 to the phases and M3 to the spare (R226); a reference out of range stops the axis's steps
with 0x0C0 (R230) and one that has drifted raises 0x0C3 (R240); CONNECT, the overlap, its cancels and SWITCH run as R227 and
R231 to R233 say; CAL.CTRL.EN is refused with 0x0C7 (R228); eight off-pulse windows give a trim, and a comparator without one
raises 0x0C4 (R241, R242). -/
def Obligations.CalibrationStepsRun : Prop :=
  (∀ (l : DLane) (n : Fin 6) (zero ref : List (List Int)) (s : State), s.calRuns l n.val = true →
    s.fg (calA l n.val) CAL.MAP_PHASE = 1 → s.refOver l n.val = true → (∀ x ∈ zero ++ ref, x.length = s.calNref l.lane) →
    (∀ m < 4, (s.calRef l.lane (zero.getD m []) (ref.getD m [])).2 = true) →
    Completes (.calStartDone l n zero ref) s fun t =>
      t.fg (calA l n.val) CAL.MAP_U = 0 ∧ t.fg (calA l n.val) CAL.MAP_V = 1 ∧ t.fg (calA l n.val) CAL.MAP_W = 2 ∧
      t.fg (calA l n.val) CAL.MAP_SPARE = 3 ∧ t.fg (calA l n.val) CAL.MAP_NEXT = 0 ∧ t.fg (calA l n.val) CAL.MAP_PHASE = 4 ∧
      (∀ m < 4, t.reg (calA l n.val + 0x100 + 4 * m) = (s.calRef l.lane (zero.getD m []) (ref.getD m [])).1) ∧
      (∀ m < 3, t.reg (calA l n.val + 0x44 + 4 * m) = (s.calRef l.lane (zero.getD m []) (ref.getD m [])).1) ∧
      t.evq = s.evq ∧ t.mem = s.mem ∧ t.sk = s.sk) ∧
  (∀ (z r : Int) (d : Nat), (refCoef z r d).2 = true ↔
    z < r ∧ 950 * (8 * (r - z)) ≤ 5000 * d ∧ 5000 * d ≤ 1050 * (8 * (r - z)) ∧ |z| * 10000 ≤ 78 * d) ∧
  (∀ (l : DLane) (n : Fin 6) (z r : List Int) (s : State), s.calRuns l n.val = true → s.fg (calA l n.val) CAL.MAP_PHASE = 2 →
    s.refOver l n.val = true → z.length = s.calNref l.lane → r.length = s.calNref l.lane →
    (s.calRef l.lane z r).2 = true → (∀ p ∈ (s.calx l n.val).first, p.1 ≠ s.fg (calA l n.val) CAL.MAP_SPARE) →
    Completes (.calRefDone l n z r) s fun t =>
      t.fg (calA l n.val) CAL.MAP_PHASE = 4 ∧ (t.calx l n.val).refDone = true ∧
      t.reg (calA l n.val + 0x100 + 4 * s.fg (calA l n.val) CAL.MAP_SPARE) = (s.calRef l.lane z r).1 ∧
      SameRegistersBut s t [calA l n.val + 0x100 + 4 * s.fg (calA l n.val) CAL.MAP_SPARE, calA l n.val + CAL.MAP_PHASE.ofs] ∧
      t.evq = s.evq ∧ t.mem = s.mem ∧ t.sk = s.sk) ∧
  (∀ (l : DLane) (n : Fin 6) (z r : List Int) (s : State), s.calRuns l n.val = true → s.fg (calA l n.val) CAL.MAP_PHASE = 2 →
    s.refOver l n.val = true → z.length = s.calNref l.lane → r.length = s.calNref l.lane →
    (s.calRef l.lane z r).2 = false → Completes (.calRefDone l n z r) s fun t =>
      t.fg (calA l n.val) CAL.MAP_PHASE = 7 ∧ t.fb (calB l.lane) CAL.EVT_REF_FAIL = true ∧
      (∃ e ∈ t.evq, e.coll = .lane l.lane ∧ e.src = 0xc0 ∧ e.inst = n.val ∧ e.detail = s.fg (calA l n.val) CAL.MAP_SPARE) ∧
      t.mem = s.mem ∧ t.sk = s.sk) ∧
  (∀ (l : DLane) (n : Fin 6) (z r : List Int) (f : Word) (s : State), s.calRuns l n.val = true →
    s.fg (calA l n.val) CAL.MAP_PHASE = 2 → s.refOver l n.val = true → z.length = s.calNref l.lane →
    r.length = s.calNref l.lane → (s.calx l n.val).first = [(s.fg (calA l n.val) CAL.MAP_SPARE, f)] →
    s.fg (calB l.lane) CAL.DRIFT_ODRIFT < (coefOfs (s.calRef l.lane z r).1 - coefOfs f).natAbs → Completes (.calRefDone l n z r) s fun t =>
      t.fb (calB l.lane) CAL.EVT_DRIFT = true ∧ LaneEvent t l.lane 0xc3 n.val ∧ t.mem = s.mem ∧ t.sk = s.sk) ∧
  (∀ (l : DLane) (n : Fin 6) (s : State), s.calRuns l n.val = true → s.fg (calA l n.val) CAL.MAP_PHASE = 4 →
    (s.calx l n.val).refDone = true → (s.calx l n.val).inStep = true → s.calNext l.lane = s.fg (calB l.lane) CAL.CTRL_OVLCYC →
    s.windowDue l n.val 0 = true → s.bistIn l.lane 66 = false → Completes (.calConnect l n) s fun t =>
      t.fg (calA l n.val) CAL.MAP_PHASE = 5 ∧ (t.calx l n.val).conn = s.now ∧
      SameRegistersBut s t [calA l n.val + CAL.MAP_PHASE.ofs] ∧ t.evq = s.evq ∧ t.mem = s.mem ∧ t.sk = s.sk) ∧
  (∀ (l : DLane) (n : Fin 6) (z : List Int) (s : State), s.calRuns l n.val = true →
    s.fg (calA l n.val) CAL.MAP_PHASE = 5 → (s.calx l n.val).cand = none → (s.calx l n.val).cancel = 0 → z ≠ [] →
    z.length = s.fg (calB l.lane) CAL.CFG_OVL →
    (s.calx l n.val).conn + (s.calSettle l.lane + z.length) * s.calTau l.lane + 320 ≤ s.now →
    s.reg (calA l n.val + 0x100 + 4 * s.fg (calA l n.val) CAL.MAP_SPARE) = 0 →
    s.reg (calA l n.val + 0x44 + 4 * s.fg (calA l n.val) CAL.MAP_NEXT) = 0 →
    (z.foldl max (z.headD 0) - z.foldl min (z.headD 0)) * 2 ^ 8 < s.fg (calB l.lane) CAL.TOL_MINSPAN *
      s.fg (calB l.lane) CAL.CFG_CALOSR ^ 3 →
    Completes (.calOverlapDone l n z z) s fun t =>
      t.fg (calA l n.val) CAL.MAP_PHASE = 6 ∧ t.fb (calA l n.val) CAL.MAP_SPAN_LOW = true ∧
      t.fb (calB l.lane) CAL.EVT_SPAN_LOW = true ∧ t.mem = s.mem ∧ t.sk = s.sk ∧ t.evq = s.evq ∧
      ((∀ x ∈ z, 320 * |x| ≤ 250 * s.fg (calB l.lane) CAL.CFG_CALOSR ^ 3) →
        (t.calx l n.val).cand = some 0 ∧ (t.calx l n.val).cancel = 0) ∧
      ((∃ x ∈ z, 250 * s.fg (calB l.lane) CAL.CFG_CALOSR ^ 3 < 320 * |x|) → (t.calx l n.val).cand = none ∧ (t.calx l n.val).cancel = 2 ∧ t.fb (calB l.lane) CAL.EVT_CANCEL = true)) ∧
  (∀ (l : DLane) (n : Fin 6) (w : Word) (s : State), s.calRuns l n.val = true → (s.calx l n.val).cand = some w →
    (s.calx l n.val).switched = none → s.fg (calA l n.val) CAL.MAP_NEXT = 0 → s.calNext l.lane = 1 →
    s.windowDue l n.val (s.windows l n.val - 1) = true → Completes (.calSwitch l n) s fun t =>
      t.fg (calA l n.val) CAL.MAP_U = s.fg (calA l n.val) CAL.MAP_SPARE ∧
      (t.calx l n.val).switched = some (s.fg (calA l n.val) CAL.MAP_U) ∧
      SameRegistersBut s t [calA l n.val + CAL.MAP_U.ofs] ∧ t.evq = s.evq ∧ t.mem = s.mem ∧ t.sk = s.sk) ∧
  (∀ (l : Lane) (v : Word) (s : State), s.running l = true → (s.lane l).locked = false → v.getLsbD 0 = true →
    (s.rowPut l false 0x40800000 v).calCfgOk l = false → Completes (.calEnWrite l v) s fun t =>
      t.fb (calB l) CAL.CTRL_EN = false ∧ LaneEvent t l 0xc7 255 ∧ t.mem = s.mem ∧ t.sk = s.sk) ∧
  (∀ (l : Lane) (v : Word) (s : State), s.running l = true → (s.lane l).locked = false → v.getLsbD 0 = true →
    (s.rowPut l false 0x40800000 v).calCfgOk l = true → Completes (.calEnWrite l v) s fun t =>
      t.fb (calB l) CAL.CTRL_EN = true ∧ t.evq = s.evq ∧ t.mem = s.mem ∧ t.sk = s.sk) ∧
  (∀ (l : DLane) (p : Fin 2) (ph : Fin 3) (high : Bool) (s : State), s.fb (calB l.lane) CAL.CTRL_PPEN = true →
    s.ppDrives l p.val = true → s.ppSwitches l p.val = true → s.ppFloats l p.val ph.val = false →
    0 < (s.pp l p.val).pwm.cmpV.getD 0 0 → s.fg (calB l.lane) CAL.PPCFG_TRIMWIN ≤ (s.pp l p.val).pwm.cmpV.getD 0 0 →
    Completes (.bemfTrimBit l p ph high) s fun t =>
      let u := famGet (fun _ => ({} : TrimSt)) (s.pp l p.val).trims ph.val
      let x := famGet (fun _ => ({} : TrimSt)) (t.pp l p.val).trims ph.val
      (u.n + 1 < 8 → x.n = u.n + 1 ∧ x.v = 2 * u.v + (if high then 1 else 0) ∧ t.regs = s.regs) ∧
      (8 ≤ u.n + 1 → x.n = 0 ∧ x.res = some (((2 * u.v + (if high then 1 else 0) : Nat) : Int) - 128) ∧
        (t.fg (calB l.lane + 4 * p.val) CAL.TRIM_STALE).testBit ph.val = false) ∧
      t.evq = s.evq ∧ t.mem = s.mem ∧ t.sk = s.sk) ∧
  (∀ (l : DLane) (p : Fin 2) (ph : Fin 3) (s : State), s.ppOn l p.val = true → s.fb (calB l.lane) CAL.CTRL_PPEN = true →
    s.ppState l p.val = 4 → (s.fg (calB l.lane + 4 * p.val) CAL.TRIM_STALE).testBit ph.val = false →
    Completes (.calBemfStale l p ph) s fun t =>
      (t.fg (calB l.lane + 4 * p.val) CAL.TRIM_STALE).testBit ph.val = true ∧ t.fb (calB l.lane) CAL.EVT_BEMF_STALE = true ∧
      t.mem = s.mem ∧ t.sk = s.sk ∧
      t.evq = s.evq ++ [s.stamp { coll := .lane l.lane, src := 0xc4, inst := p.val, res := 0x10 + p.val, detail := ph.val }])

/-! Pump ports -/

/-- Records of a pump port: a RUN record starts a resting port with catch-spin, a record of a lower tag is discarded with 0x017,
an unknown MODE turns the port off with 0x0D3, and during a hold the record is kept; RTMO beacons without one turn the port off
with 0x0D4 (R260, R261, R264). PPp.CTRL.EN is refused with 0x0D8 (R267). -/
def Obligations.PumpRecordsStartAndStopPorts : Prop :=
  (∀ (l : DLane) (p : Fin 2) (r : OutRec) (s : State), s.ppOn l p.val = true →
    (famGet (fun _ => ({} : BusSt)) s.buses (dno l)).drvQ = [r] → r.kind = 2 → r.index = p.val →
    ((s.pp l p.val).tagOk = true → older r.tag (s.pp l p.val).tag = false) → s.drvHeld = false → s.ppState l p.val ≠ 7 →
    ((r.pay.getD 4 0).toNat / 2 ^ 17 % 8 = 1 → s.ppState l p.val = 0 → s.ppStops = false →
      recVal r 0 (s.fg (ppB l p.val) PP.RECCFG_QP) ≠ 0 → Completes (.pumpRecordApply l p) s fun t =>
        t.ppState l p.val = 1 ∧ (t.pp l p.val).sref = recVal r 0 (s.fg (ppB l p.val) PP.RECCFG_QP) ∧
        (t.pp l p.val).tag = r.tag ∧ (t.pp l p.val).since = 0 ∧ t.gatesAreOff l (18 + 3 * p.val) 3 ∧
        t.evq = s.evq ∧ t.mem = s.mem ∧ t.sk = s.sk) ∧
    ((r.pay.getD 4 0).toNat / 2 ^ 17 % 8 = 1 → s.ppState l p.val = 0 → s.ppStops = true →
      Completes (.pumpRecordApply l p) s fun t =>
        t.ppState l p.val = 0 ∧ t.regs = s.regs ∧ t.evq = s.evq ∧ t.mem = s.mem ∧ t.sk = s.sk) ∧
    ((r.pay.getD 4 0).toNat / 2 ^ 17 % 8 = 0 → Completes (.pumpRecordApply l p) s fun t =>
        t.ppState l p.val = 0 ∧ (∀ c, t.cell l c = s.cell l c) ∧
        ((∀ ph < 3, (famGet (fun _ => ({} : TrimSt)) (s.pp l p.val).trims ph).res = none) → t.evq = s.evq) ∧ t.mem = s.mem ∧
        t.sk = s.sk) ∧
    (1 < (r.pay.getD 4 0).toNat / 2 ^ 17 % 8 → Completes (.pumpRecordApply l p) s fun t =>
        t.ppState l p.val = 0 ∧ (∀ c, t.cell l c = s.cell l c) ∧ t.fb (ppB l p.val) PP.EVT_MODE = true ∧
        LaneEvent t l.lane 0xd3 p.val ∧ t.mem = s.mem ∧ t.sk = s.sk)) ∧
  (∀ (l : DLane) (p : Fin 2) (r : OutRec) (s : State), s.ppOn l p.val = true →
    (famGet (fun _ => ({} : BusSt)) s.buses (dno l)).drvQ = [r] → r.kind = 2 → r.index = p.val →
    (s.pp l p.val).tagOk = true → older r.tag (s.pp l p.val).tag = true → Completes (.pumpRecordApply l p) s fun t =>
      t.pp l p.val = s.pp l p.val ∧ t.regs = s.regs ∧ t.mem = s.mem ∧ t.sk = s.sk ∧
      t.evq = s.evq ++ [s.stamp { coll := .lane l.lane, src := 0x17, inst := p.val, res := resLane l.lane }]) ∧
  (∀ (l : DLane) (p : Fin 2) (r : OutRec) (s : State), s.ppOn l p.val = true →
    (famGet (fun _ => ({} : BusSt)) s.buses (dno l)).drvQ = [r] → r.kind = 2 → r.index = p.val →
    ((s.pp l p.val).tagOk = true → older r.tag (s.pp l p.val).tag = false) → s.sk.hold.isSome = true → s.ppState l p.val ≠ 7 →
    (s.pp l p.val).kept = none → Completes (.pumpRecordApply l p) s fun t =>
      t.pp l p.val = { s.pp l p.val with kept := some r } ∧ t.regs = s.regs ∧ t.mem = s.mem ∧ t.evq = s.evq ∧ t.sk = s.sk) ∧
  (∀ (l : DLane) (p : Fin 2) (s : State), s.ppOn l p.val = true → s.fg (ppB l p.val) PP.RECCFG_RTMO ≠ 0 →
    (s.pp l p.val).since = s.fg (ppB l p.val) PP.RECCFG_RTMO → s.ppState l p.val ≠ 7 → Completes (.ppRecTimeout l p) s fun t =>
      t.ppState l p.val = 0 ∧ (∀ c, t.cell l c = s.cell l c) ∧ t.fb (ppB l p.val) PP.EVT_TMO = true ∧
      LaneEvent t l.lane 0xd4 p.val ∧ t.mem = s.mem ∧ t.sk = s.sk) ∧
  (∀ (l : DLane) (p : Fin 2) (n : Fin 8) (ph : Fin 3) (rising : Bool) (c : Nat) (s : State), n.val = 6 + p.val →
    s.ppOn l p.val = true → pwmCount (s.ppHalf l p.val) rising c = true → (s.pp l p.val).tripped = false →
    s.ppState l p.val = 0 → (s.pp l p.val).pwm.live.getD ph.val false = true →
    pwmHit rising c ((s.pp l p.val).pwm.cmpV.getD 0 0) = true → Completes (.pwmCompareEvent l n ph rising c false) s fun t =>
      t.gatesAreOff l (18 + 3 * p.val + ph.val) 1 ∧ t.ppState l p.val = 0 ∧ t.evq = s.evq ∧ t.mem = s.mem ∧ t.sk = s.sk) ∧
  (∀ (l : DLane) (p : Fin 2) (v : Word) (s : State), s.running l.lane = true → (s.lane l.lane).locked = false → v.getLsbD 0 = true →
    s.fb (ppB l p.val) PP.CTRL_EN = false → s.ppCfgOk l p.val = true → Completes (.ppEnWrite l p v) s fun t =>
      t.fb (ppB l p.val) PP.CTRL_EN = true ∧ t.pp l p.val = {} ∧ SameRegistersBut s t [ppB l p.val + PP.CTRL_EN.ofs] ∧
      t.evq = s.evq ∧ t.mem = s.mem ∧ t.sk = s.sk) ∧
  (∀ (l : DLane) (p : Fin 2) (v : Word) (s : State), s.running l.lane = true → (s.lane l.lane).locked = false → v.getLsbD 0 = true →
    s.fb (ppB l p.val) PP.CTRL_EN = false → (s.fg (ppB l p.val) PP.MOTOR_PP = 0 ∨ s.fg (ppB l p.val) PP.MOTOR_KE = 0 ∨
      s.fg (ppB l p.val) PP.SPDLIM_MAXSPD = 0 ∨ s.fg (ppB l p.val) PP.SPDLIM_MAXSPD < s.fg (ppB l p.val) PP.SPDLIM_STARTSPD) →
    Completes (.ppEnWrite l p v) s fun t =>
      t.fb (ppB l p.val) PP.CTRL_EN = false ∧ SameRegistersBut s t [ppB l p.val + PP.CTRL_EN.ofs] ∧ t.mem = s.mem ∧ t.sk = s.sk ∧
      t.evq = s.evq ++ [s.stamp { coll := .lane l.lane, src := 0xd8, inst := p.val, res := 0x10 + p.val }])

/-- The start of a port: catch-spin without an order of crossings starts from rest with ALIGN and its duty, ALIGN ends in RAMP at
STARTSPD with a step, a ramp that does not reach RUN coasts, its third failure turns the port off with 0x0D2 and the third failed
try after a lost rotor stops it in FAULT with 0x0D0; a coast and a brake end with a new start; STOPPED is set at rest (R256 to
R258, R263). -/
def Obligations.PumpStartsTryAgainAndGiveUp : Prop :=
  (∀ (l : DLane) (p : Fin 2) (s : State), s.ppOn l p.val = true →
    ((s.ppState l p.val = 1 → (s.pp l p.val).sync = none → Completes (.pumpCatchTimeout l p) s fun t =>
        t.ppState l p.val = 2 ∧ (t.pp l p.val).duty = s.fg (ppB l p.val) PP.START_ALIGNDUTY * 2 ^ 56 ∧
        t.fg (ppB l p.val) PP.STATUS_STEP = 0 ∧ t.fb (ppB l p.val) PP.STATUS_DIR = decide ((s.pp l p.val).sref < 0) ∧
        t.mem = s.mem ∧ t.sk = s.sk) ∧
     (s.ppState l p.val = 6 → Completes (.pumpBrakeEnd l p) s fun t =>
        t.ppState l p.val = 2 ∧ (t.pp l p.val).duty = s.fg (ppB l p.val) PP.START_ALIGNDUTY * 2 ^ 56 ∧ t.mem = s.mem ∧ t.sk = s.sk) ∧
     ((s.pp l p.val).coast = true → (s.pp l p.val).retry = false → Completes (.pumpCoastEnd l p) s fun t =>
        t.ppState l p.val = 2 ∧ (t.pp l p.val).coast = false ∧ t.mem = s.mem ∧ t.sk = s.sk) ∧
     ((s.pp l p.val).coast = true → (s.pp l p.val).retry = true → Completes (.pumpCoastEnd l p) s fun t =>
        t.ppState l p.val = 1 ∧ (t.pp l p.val).coast = false ∧
        t.fg (ppB l p.val) PP.STATUS_TRIES = min 3 (s.fg (ppB l p.val) PP.STATUS_TRIES + 1) ∧
        t.gatesAreOff l (18 + 3 * p.val) 3 ∧ t.mem = s.mem ∧ t.sk = s.sk))) ∧
  (∀ (l : DLane) (p : Fin 2) (at_ : Nat) (s : State), s.ppOn l p.val = true → s.ppState l p.val = 2 →
    Completes (.pumpAlignEnd l p at_) s fun t =>
      t.ppState l p.val = 3 ∧ (t.pp l p.val).ramp = s.fg (ppB l p.val) PP.SPDLIM_STARTSPD * 2 ^ 64 ∧ (t.pp l p.val).com = at_ ∧
      14 + p.val ∈ famGet (fun _ => ([] : List Nat)) t.fired (laneNo l.lane) ∧
      t.fg (ppB l p.val) PP.STATUS_STEP = (if s.fb (ppB l p.val) PP.STATUS_DIR then (s.fg (ppB l p.val) PP.STATUS_STEP + 5) % 6
        else (s.fg (ppB l p.val) PP.STATUS_STEP + 1) % 6) ∧ t.mem = s.mem ∧ t.sk = s.sk) ∧
  (∀ (l : DLane) (p : Fin 2) (s : State), s.ppOn l p.val = true → s.ppState l p.val = 3 → (s.pp l p.val).coast = false →
    ((s.pp l p.val).retry = false → (s.pp l p.val).fails < 2 → Completes (.pumpStartTimeout l p) s fun t =>
        (t.pp l p.val).coast = true ∧ (t.pp l p.val).fails = (s.pp l p.val).fails + 1 ∧ t.gatesAreOff l (18 + 3 * p.val) 3 ∧
        ((∀ ph < 3, (famGet (fun _ => ({} : TrimSt)) (s.pp l p.val).trims ph).res = none) → t.evq = s.evq) ∧
        t.mem = s.mem ∧ t.sk = s.sk) ∧
    ((s.pp l p.val).retry = false → 2 ≤ (s.pp l p.val).fails → Completes (.pumpStartTimeout l p) s fun t =>
        t.ppState l p.val = 0 ∧ t.gatesAreOff l (18 + 3 * p.val) 3 ∧ t.fb (ppB l p.val) PP.EVT_START_FAIL = true ∧
        LaneEvent t l.lane 0xd2 p.val ∧ t.mem = s.mem ∧ t.sk = s.sk) ∧
    ((s.pp l p.val).retry = true → 2 ≤ (s.pp l p.val).fails → Completes (.pumpStartTimeout l p) s fun t =>
        t.ppState l p.val = 7 ∧ t.gatesAreOff l (18 + 3 * p.val) 3 ∧ t.fb (ppB l p.val) PP.EVT_LOST = true ∧
        LaneEvent t l.lane 0xd0 p.val ∧ t.mem = s.mem ∧ t.sk = s.sk)) ∧
  (∀ (l : DLane) (p : Fin 2) (s : State), s.ppOn l p.val = true → (s.ppState l p.val = 0 ∨ s.ppState l p.val = 7) →
    Completes (.pumpStopped l p) s fun t =>
      t.fb (ppB l p.val) PP.STATUS_STOPPED = true ∧ SameRegistersBut s t [ppB l p.val + PP.STATUS_STOPPED.ofs] ∧
      t.evq = s.evq ∧ t.mem = s.mem ∧ t.sk = s.sk)

/-- A running port: SFILT + 1 samples on the expected side of the floating phase are a crossing, whose interval follows (R249,
R250); a commutation with its crossing steps in the order of rotation, one without is a missed step with 0x0D7, and a second in
a row is a lost rotor: every cell off, a try, catch-spin (R250, R258); a current trip counts, holds the high side off, and for
100 ms raises 0x0D5; a bus hold of 500 ms raises 0x0D6; the period's duty lies between 0 and the limit (R253 to R255). -/
def Obligations.PumpRunsByItsCrossings : Prop :=
  (∀ (l : DLane) (p : Fin 2) (ph : Fin 3) (tm epk z : Nat) (vbus : Nat × Nat) (s : State), s.ppOn l p.val = true →
    s.ppState l p.val = 4 → s.ppAllOff l p.val = false → tm < s.ppDue l p.val → (s.pp l p.val).got = false → ph.val = stepFloat (s.fg (ppB l p.val) PP.STATUS_STEP) →
    (s.pp l p.val).com < tm → (s.pp l p.val).iv1 + (s.pp l p.val).iv2 ≤ 16 * (tm - (s.pp l p.val).com) →
    s.fg (ppB l p.val) PP.PWMCFG_SFILT = 0 → (s.pp l p.val).run = 0 → (s.pp l p.val).zc = some z → (s.pp l p.val).iv1 ≠ 0 →
    Completes (.pumpZcSample l p ph (stepRises (s.fg (ppB l p.val) PP.STATUS_STEP) != s.fb (ppB l p.val) PP.STATUS_DIR) tm epk vbus)
      s fun t =>
      (t.pp l p.val).got = true ∧ (t.pp l p.val).zc = some tm ∧ (t.pp l p.val).iv1 = tm - z ∧
      (t.pp l p.val).iv2 = (s.pp l p.val).iv1 ∧ (t.pp l p.val).misses = 0 ∧ t.evq = s.evq ∧ t.mem = s.mem ∧ t.sk = s.sk) ∧
  (∀ (l : DLane) (p : Fin 2) (tm : Nat) (s : State), s.ppOn l p.val = true → (s.pp l p.val).busLow = false →
    s.ppState l p.val = 4 → s.ppDue l p.val ≤ tm →
    ((s.pp l p.val).got = true → Completes (.pumpCommutate l p tm) s fun t =>
        (t.pp l p.val).com = tm ∧ (t.pp l p.val).got = false ∧ t.ppState l p.val = 4 ∧
        14 + p.val ∈ famGet (fun _ => ([] : List Nat)) t.fired (laneNo l.lane) ∧
        t.fg (ppB l p.val) PP.STATUS_STEP = (if s.fb (ppB l p.val) PP.STATUS_DIR then (s.fg (ppB l p.val) PP.STATUS_STEP + 5) % 6
          else (s.fg (ppB l p.val) PP.STATUS_STEP + 1) % 6) ∧ t.mem = s.mem ∧ t.sk = s.sk) ∧
    ((s.pp l p.val).got = false → (s.pp l p.val).misses = 0 → Completes (.pumpCommutate l p tm) s fun t =>
        (t.pp l p.val).misses = 1 ∧ t.fb (ppB l p.val) PP.EVT_MISS = true ∧
        t.fg (ppB l p.val) PP.COUNT_MISS = min (2 ^ PP.COUNT_MISS.w - 1) (s.fg (ppB l p.val) PP.COUNT_MISS + 1) ∧
        t.ppState l p.val = 4 ∧ LaneEvent t l.lane 0xd7 p.val ∧ t.mem = s.mem ∧ t.sk = s.sk) ∧
    ((s.pp l p.val).got = false → (s.pp l p.val).misses = 1 → Completes (.pumpCommutate l p tm) s fun t =>
        t.ppState l p.val = 1 ∧ t.gatesAreOff l (18 + 3 * p.val) 3 ∧ (t.pp l p.val).retry = true ∧
        t.fg (ppB l p.val) PP.STATUS_TRIES = min 3 (s.fg (ppB l p.val) PP.STATUS_TRIES + 1) ∧
        LaneEvent t l.lane 0xd7 p.val ∧ t.mem = s.mem ∧ t.sk = s.sk)) ∧
  (∀ (l : DLane) (p : Fin 2) (rising : Bool) (c uv : Nat) (s : State), s.ppOn l p.val = true →
    pwmCount (s.ppHalf l p.val) rising c = true → s.ppSwitches l p.val = true → (s.pp l p.val).busLow = false →
    ((s.ppTurn l p.val rising c).pp l p.val).tripped = false →
    (s.ppTurn l p.val rising c).ppBlanked l p.val ((s.ppTurn l p.val rising c).pp l p.val).pwm.clk = false →
    s.fg (ppB l p.val) PP.ILIM_THR * 1250 < uv → Completes (.pumpIlimTrip l p rising c uv) s fun t =>
      (t.pp l p.val).tripped = true ∧ t.fb (ppB l p.val) PP.EVT_ILIM = true ∧
      t.fg (ppB l p.val) PP.COUNT_ILIM = min (2 ^ PP.COUNT_ILIM.w - 1) (s.fg (ppB l p.val) PP.COUNT_ILIM + 1) ∧
      (∀ c, 18 + 3 * p.val ≤ c → c < 21 + 3 * p.val → t.gateOn l c true = false) ∧ t.evq = s.evq ∧
      t.mem = s.mem ∧ t.sk = s.sk) ∧
  (∀ (l : DLane) (p : Fin 2) (s : State), s.ppOn l p.val = true → (s.pp l p.val).ilimRaised = false →
    s.ppLasts l p.val ((s.pp l p.val).ilimRun + if (s.pp l p.val).tripped then 1 else 0) 100000 = true →
    Completes (.ppIlimLong l p) s fun t =>
      (t.pp l p.val).ilimRaised = true ∧ t.regs = s.regs ∧ t.mem = s.mem ∧ t.sk = s.sk ∧
      t.evq = s.evq ++ [s.stamp { coll := .lane l.lane, src := 0xd5, inst := p.val, res := 0x10 + p.val }]) ∧
  (∀ (l : DLane) (p : Fin 2) (s : State), s.ppOn l p.val = true → s.fb (ppB l p.val) PP.STATUS_BUSHOLD = true →
    s.ppLasts l p.val (s.pp l p.val).holdRun 500000 = true → (s.pp l p.val).holdRaised = false → Completes (.ppBusHold l p) s fun t =>
      (t.pp l p.val).holdRaised = true ∧ t.regs = s.regs ∧ t.mem = s.mem ∧ t.sk = s.sk ∧
      t.evq = s.evq ++ [s.stamp { coll := .lane l.lane, src := 0xd6, inst := p.val, res := 0x10 + p.val }]) ∧
  (∀ (l : DLane) (p : Fin 2) (vbus : Nat × Nat) (s : State), s.ppOn l p.val = true → s.ppState l p.val = 4 →
    4 * 2 ^ 12 ≤ s.ppBus l p.val vbus →
    (s.pp l p.val).busLow = false → Completes (.pumpPiUpdate l p vbus) s fun t =>
      0 ≤ (t.pp l p.val).duty ∧ (t.pp l p.val).duty ≤ min 65536 (s.pp l p.val).dlim * 2 ^ 48 ∧
      (t.pp l p.val).vbus = s.ppBus l p.val vbus ∧ t.ppState l p.val = 4 ∧ (t.pp l p.val).lat.length = 3 ∧ t.mem = s.mem ∧ t.sk = s.sk) ∧
  (∀ (l : DLane) (p : Fin 2) (vbus : Nat × Nat) (s : State), s.ppOn l p.val = true → s.ppBus l p.val vbus < 4 * 2 ^ 12 →
    Completes (.pumpPiUpdate l p vbus) s fun t =>
      t.gatesAreOff l (18 + 3 * p.val) 3 ∧ (t.pp l p.val).busLow = true ∧
      ((∀ ph < 3, (famGet (fun _ => ({} : TrimSt)) (s.pp l p.val).trims ph).res = none) → t.evq = s.evq) ∧ t.mem = s.mem ∧ t.sk = s.sk)

/-! Comparison, vote and checkpoints -/

/-- Records of A and B are compared in pairs: the first of a key opens its window, an equal partner closes it and frees an output
held before, one that differs holds the motor's cells in both lanes and, in Service, every other drive (R297, R301, R47); W's
record, stored in the vote buffer, decides against the lane that differs from it with SKINK.0x030 (R49, R310); a partner that
stays away in No-witness ends undecided with 0x033; the 65th waiting record raises 0x034, a stale one is counted (R299, R300). -/
def Obligations.RecordsAreComparedInPairs : Prop :=
  (∀ (l : DLane) (b : BusRec) (x y : Bool) (s : State), s.sk.st = .service → s.cmp.stopped = false →
    (famGet (fun _ => ({} : BusSt)) s.buses (dno l)).skQ = [b] → s.cmpStale b.r.tag = false → s.cmp.closed = [] →
    s.cmp.pend = [] → Completes (.cmpRecordArrive l x y) s fun t =>
      t.cmp.pend = [⟨l, s.keyCount l b.r, b, s.now⟩] ∧ t.cmp.held = s.cmp.held ∧ t.regs = s.regs ∧ t.mem = s.mem ∧ t.evq = s.evq ∧
      t.sk = s.sk) ∧
  (∀ (a b : BusRec) (n w : Nat) (s : State), s.sk.st = .service → s.cmp.stopped = false →
    (famGet (fun _ => ({} : BusSt)) s.buses 1).skQ = [b] → s.cmpStale b.r.tag = false → s.cmp.closed = [] →
    s.cmp.pend = [⟨.A, n, a, w⟩] → s.keyCount .B b.r = n → a.r = b.r → b.r.kind = 2 → s.cmp.inj = none →
    s.cmp.held = [⟨2, b.r.index⟩] → Completes (.cmpRecordArrive .B false false) s fun t =>
      t.cmp.pend = [] ∧ t.cmp.held = [] ∧ t.regs = s.regs ∧ t.mem = s.mem ∧ t.evq = s.evq ∧ t.sk = s.sk) ∧
  (∀ (a b : BusRec) (n w : Nat) (s : State), s.sk.st = .service → s.cmp.stopped = false → s.sk.axo = none →
    (famGet (fun _ => ({} : BusSt)) s.buses 1).skQ = [b] → s.cmpStale b.r.tag = false → s.cmp.closed = [] →
    s.cmp.pend = [⟨.A, n, a, w⟩] → s.keyCount .B b.r = n → a.r.kind = 1 → b.r.kind = 1 → a.r.index = b.r.index → b.r.index < 6 →
    a.r.tag = b.r.tag → a.r.pay ≠ b.r.pay → s.cmp.inj = none → s.cmp.votes = [] → s.sk.hold = none → s.cmp.held = [] →
    s.cmp.decisions = [] → s.classNow .skink 0x30 = 2 → Completes (.cmpRecordArrive .B false false) s fun t =>
      t.cmp.pend = [] ∧ t.cmp.held = [⟨1, b.r.index⟩] ∧ (∀ d, t.gatesAreOff d (3 * b.r.index) 3) ∧
      t.sk.hold = some { left := 2 } ∧ t.sk.st = .service ∧ t.cmp.decisions.length = 1 ∧
      t.fg cmpB CMPS.LASTMIS_TAG = a.r.tag % 65536 ∧ t.fg cmpB CMPS.LASTMIS_INDEX = a.r.index % 256 ∧ t.evq = s.evq ∧ t.mem = s.mem) ∧
  (∀ (x : Decision) (a b : OutRec) (w : BusRec) (s : State), (famGet (fun _ => ({} : BusSt)) s.buses 2).skQ = [w] →
    s.cmp.frozen = false → s.cmp.rearm = false → s.isRemoved .W = false → s.tagAge w.r.tag < 64 → s.cmp.votes = [] →
    s.sk.st = .service → s.sk.axo = none → s.cmp.decisions = [x] → x.what = .mismatch → x.recA = some a → x.recB = some b →
    x.n = 0 → x.kind = w.r.kind → x.index = w.r.index → x.tag = w.r.tag → a = w.r → b.pay ≠ w.r.pay →
    Completes .voteRecordStore s fun t =>
      t.cmp.frozen = true ∧ t.cmp.decisions = [] ∧ t.cmp.votes = [w.r] ∧ t.fg cmpB CMPS.LASTMIS_DECIDED = 2 ∧
      t.evq = s.evq ++ [s.stamp { coll := .skink, src := 0x30, inst := x.index, res := 2 }] ∧ t.mem = s.mem) ∧
  (∀ (p : CmpPend) (tag : BitVec 16) (s : State), s.sk.st = .noWitness → s.sk.axo = none → s.cmp.pend = [p] → p.b.r.kind = 1 →
    p.b.r.tag = tag.toNat → s.windowOver p.at_ = true → s.cmp.held = [] → Completes (.cmpWindowClose tag 1 p.b.r.index false false) s fun t =>
      t.cmp.pend = [] ∧ t.cmp.held = [⟨1, p.b.r.index⟩] ∧ t.cmp.frozen = true ∧ SkinkEvent t 0x33 255 ∧ t.mem = s.mem) ∧
  (∀ (l : DLane) (b : BusRec) (x y : Bool) (s : State), s.sk.st = .service → s.cmp.stopped = false →
    (famGet (fun _ => ({} : BusSt)) s.buses (dno l)).skQ = [b] →
    (s.cmpStale b.r.tag = true → Completes (.cmpRecordArrive l x y) s fun t =>
      t.cmp = s.cmp ∧ t.fg cmpB CMPS.COUNT_STALE = min (2 ^ CMPS.COUNT_STALE.w - 1) (s.fg cmpB CMPS.COUNT_STALE + 1) ∧
      t.evq = s.evq ∧ t.mem = s.mem ∧ t.sk = s.sk) ∧
    (s.cmpStale b.r.tag = false → s.cmp.closed = [] → 64 ≤ s.cmp.pend.length → (∀ p ∈ s.cmp.pend, p.lane = l) →
      Completes (.cmpRecordArrive l x y) s fun t =>
        t.cmp.pend = s.cmp.pend ∧ SkinkEvent t 0x34 255 ∧ t.regs = s.regs ∧ t.mem = s.mem ∧ t.sk = s.sk))

/-- The comparator's own checks and the tests after a decision: copies whose delays differ raise SKINK.0x037, an injection without
its pair 0x03B (R306, R308); a removed lane whose targeted test fails is BROKEN, one that passes hands over to the survivor, and
both are held in reset (R312). A debug halt raises 0x035 and in Bench turns the lane's cells off; a debug activation sets
DEBUGSEEN (R58, R325, R508). -/
def Obligations.ComparatorTestsAndDebug : Prop :=
  (∀ s : State, s.sk.cfg ≠ [] → Completes .cmpDlyFault s (Raises s { coll := .skink, src := 0x37, res := 8 })) ∧
  (∀ (d : InjDue) (s : State), s.cmp.inj = some d → 1000 ≤ s.cyclesPast d.cycle → Completes .cmpInjNoRecord s fun t =>
      t.cmp = { s.cmp with inj := none } ∧ t.regs = s.regs ∧ t.mem = s.mem ∧ t.sk = s.sk ∧
      t.evq = s.evq ++ [s.stamp { coll := .skink, src := 0x3b }]) ∧
  (∀ (l : DLane) (k i : Nat) (n : Fin 72) (s : State), s.sk.targeted = some (l.lane, k, i) → s.isRemoved l.lane = true →
    n.val ∈ targetSlices k i → Completes (.targetedTestDone l [n]) s fun t =>
      (t.lane l.lane).broken = true ∧ (t.lane l.lane).reset = true ∧ t.sk.targeted = none ∧ t.gatesAreOff l 0 24 ∧ t.mem = s.mem) ∧
  (∀ (l : DLane) (k i : Nat) (s : State), s.sk.targeted = some (l.lane, k, i) → s.isRemoved l.lane = true →
    Completes (.targetedTestDone l []) s fun t =>
      (t.lane l.lane).broken = (s.lane l.lane).broken ∧ (t.lane l.lane).reset = true ∧
      t.sk.targeted = some ((otherD l).lane, k, i) ∧ t.gatesAreOff l 0 24 ∧ t.mem = s.mem) ∧
  (∀ (l : DLane) (k i : Nat) (n : Fin 72) (s : State), s.sk.targeted = some (l.lane, k, i) → s.isRemoved l.lane = false →
    s.running l.lane = true → n.val ∈ targetSlices k i → Completes (.targetedTestDone l [n]) s fun t =>
      t.sk.targeted = none ∧ t.fg (bistB l.lane) BIST.STATUS_SET = 3 ∧ LaneEvent t l.lane 0x150 n.val ∧ t.mem = s.mem) ∧
  (∀ (l : Lane) (s : State), s.running l = true → Completes (.debugHalt l) s fun t =>
      (t.lane l).diverged = true ∧ ((t.lane l).halted = decide (s.sk.st = .bench)) ∧
      (s.sk.st = .bench → ∀ d : DLane, d.lane = l → t.gatesAreOff d 0 24) ∧ (s.sk.st ≠ .bench → t.regs = s.regs) ∧
      t.evq = s.evq ++ [s.stamp { coll := .skink, src := 0x35, res := resLane l }] ∧ t.mem = s.mem ∧ t.sk = s.sk) ∧
  (∀ (l : Lane) (s : State), s.running l = true → Completes (.debugActivate l) s fun t =>
      (t.lane l).debugSeen = true ∧ t.regs = s.regs ∧ t.mem = s.mem ∧ t.evq = s.evq ∧ t.sk = s.sk)

/-- Checkpoints: GO starts a signature or sets REFUSED (R316); a posted signature is the CRC-32 of the declared-state region
(R315), three equal ones raise nothing, and one that differs from two equal ones names its lane with 0x038 or 0x039 (R317); at
the deadline a missing one raises 0x03A; in Comparator-degraded W's verdict decides (R319); an enable with a region against R314
raises 0x01A; an Axolotl attempt that exceeds its time fails with 0x03C and returns to the kind held before (R324). -/
def Obligations.CheckpointsJudgeTheLanes : Prop :=
  (∀ (l : Lane) (v : Word) (s : State), s.running l = true → v.getLsbD 16 = true →
    (s.fb (ckptB l) CKPT.STATUS_BUSY = false → s.fb (ckptB l) CKPT.CTRL_EN = true → Completes (.ckptGo l v) s fun t =>
      t.fb (ckptB l) CKPT.STATUS_BUSY = true ∧ (t.lane l).ckOp = 1 ∧ (t.lane l).ckTag = v.toNat % 65536 ∧
      SameRegistersBut s t [ckptB l + CKPT.STATUS_BUSY.ofs] ∧ t.evq = s.evq ∧ t.mem = s.mem ∧ t.sk = s.sk) ∧
    ((s.fb (ckptB l) CKPT.STATUS_BUSY = true ∨ s.fb (ckptB l) CKPT.CTRL_EN = false) →
      Completes (.ckptGo l v) s fun t => t = s.fs (ckptB l) CKPT.STATUS_REFUSED 1)) ∧
  (∀ (l : Lane) (v : Word) (s : State), s.running l = true → v.getLsbD 17 = true →
    (s.inTransfer = false → Completes (.ckptXfer l v) s fun t => t = s.fs (ckptB l) CKPT.STATUS_REFUSED 1) ∧
    (∀ x, s.inTransfer = true → s.sk.axo = some x → x.survivor = l → s.fb (ckptB l) CKPT.STATUS_BUSY = false →
      s.fb (ckptB l) CKPT.CTRL_EN = true → Completes (.ckptXfer l v) s fun t =>
        t.fb (ckptB l) CKPT.STATUS_BUSY = true ∧ (t.lane l).ckOp = 2 ∧ (t.lane l).ckTag = v.toNat % 65536 ∧
        SameRegistersBut s t [ckptB l + CKPT.STATUS_BUSY.ofs] ∧ t.evq = s.evq ∧ t.mem = s.mem ∧ t.sk = s.sk)) ∧
  (∀ (k : CkptOpen) (a b : Word) (s : State), s.running .W = true → s.fb (ckptB .W) CKPT.STATUS_BUSY = true →
    s.bistIn .W 44 = false → s.sk.axo = none →
    s.sk.st = .service → s.sk.removed = [] → s.cmp.ckpts = [k] → k.cycle % 65536 = (s.lane .W).ckTag → k.done = false →
    k.sigA = some a → k.sigB = some b → Completes (.ckptSignaturePost .W) s fun t =>
      let w := crc32 (s.regionBytes .W)
      t.fg (ckptB .W) CKPT.SIG_SIG = w.toNat ∧ t.fb (ckptB .W) CKPT.STATUS_BUSY = false ∧
      t.fg (ckptB .W) CKPT.STATUS_LASTTAG = (s.lane .W).ckTag % 65536 ∧ t.mem = s.mem ∧ t.sk = s.sk ∧
      (a = b → b = w → t.evq = s.evq) ∧
      (a = b → b ≠ w → t.evq = s.evq ++ [s.stamp { coll := .skink, src := 0x38, res := 3 }]) ∧
      (a ≠ b → w = a → t.evq = s.evq ++ [s.stamp { coll := .skink, src := 0x39, res := 2 }]) ∧
      (a ≠ b → w = b → t.evq = s.evq ++ [s.stamp { coll := .skink, src := 0x39, res := 1 }]) ∧
      (a ≠ b → w ≠ a → w ≠ b → t.evq = s.evq ++ [s.stamp { coll := .skink, src := 0x33 }])) ∧
  (∀ (k : CkptOpen) (a : Word) (s : State), s.sk.st = .service → s.sk.axo = none → s.sk.removed = [] →
    (∀ l, s.running l = true) → s.cmp.ckpts = [k] → k.done = false → k.sigA = some a → k.sigB = some a → k.sigW = none →
    s.cfgSigdl ≤ s.cyclesPast k.cycle →
    Completes .ckptDeadline s fun t =>
      t.cmp.ckpts = [] ∧ t.mem = s.mem ∧ t.sk = s.sk ∧ t.evq = s.evq ++ [s.stamp { coll := .skink, src := 0x3a, res := 3 }]) ∧
  (∀ (k : CkptOpen) (v : Word) (s : State), s.running .W = true → s.sk.st = .cmpDegraded → s.cmp.ckpts = [k] →
    v.toNat % 65536 = k.cycle % 65536 → Completes (.verdictWrite .W v) s fun t =>
      t.cmp.verdict = some (v.toNat % 65536) ∧ t.regs = s.regs ∧ t.mem = s.mem ∧ t.sk = s.sk ∧
      (v.toNat / 65536 % 4 = 0 → t.evq = s.evq) ∧
      (v.toNat / 65536 % 4 = 1 → t.evq = s.evq ++ [s.stamp { coll := .skink, src := 0x39, res := 1 }]) ∧
      (v.toNat / 65536 % 4 = 2 → t.evq = s.evq ++ [s.stamp { coll := .skink, src := 0x39, res := 2 }]) ∧
      (v.toNat / 65536 % 4 = 3 → t.evq = s.evq ++ [s.stamp { coll := .skink, src := 0x33 }])) ∧
  (∀ (l : Lane) (v : Word) (s : State), l ≠ .W → exec (.verdictWrite l v) s = .next s) ∧
  (∀ (l : Lane) (v : Word) (s : State), s.running l = true → (s.lane l).locked = false → v.getLsbD 0 = true →
    (s.regionOk l = true → Completes (.ckptEnWrite l v) s fun t =>
      t.fb (ckptB l) CKPT.CTRL_EN = true ∧ SameRegistersBut s t [ckptB l + CKPT.CTRL_EN.ofs] ∧ t.evq = s.evq ∧ t.mem = s.mem ∧ t.sk = s.sk) ∧
    (s.regionOk l = false → Completes (.ckptEnWrite l v) s (Raises s { coll := .lane l, src := 0x1a, res := resLane l }))) ∧
  (∀ (c : Instr) (x : Axo) (s : State), (c = .axolotlTimeout ∧ x.at_ + 10 ^ 9 ≤ s.now ∨
      c = .xfermaxExpiry ∧ s.cfgXferMax ≤ s.cyclesPast x.c) → s.sk.st = .axolotl → s.sk.axo = some x →
    x.phase = .transfer → Completes c s fun t =>
      t.sk.st = x.held ∧ t.sk.axo = none ∧ (t.lane x.lane).reset = true ∧
      (t.lane x.lane).attempts = (s.lane x.lane).attempts + 1 ∧ t.mem = s.mem ∧
      (∃ e ∈ t.evq, e.coll = .skink ∧ e.src = 0x3c ∧ e.res = resLane x.lane)) ∧
  (∀ s : State, s.sk.st ≠ .axolotl → exec .axolotlTimeout s = .next s ∧ exec .xfermaxExpiry s = .next s)

/-! Loop engine -/

/-- A firing of an enabled source starts its descriptor in the lowest free slot, with the registers of R82; a bad ENTRY faults the
job before its first instruction (R76); a descriptor at MAXINST is skipped with 0x081; without a free slot the firing is held,
and starts later, or is lost with 0x080 if one is held already (R80). The DIV and PHASE filter and LE.CTRL.EN stop a firing
(R78); a job in WAIT on the source runs again although the source starts nothing (R127). Timers and doorbells fire their sources
(R77). -/
def Obligations.TriggersStartJobs : Prop :=
  (∀ (l : Lane) (i : Fin 64) (r : List Nat) (j d k : Nat) (js : List Nat) (s : State),
    famGet (fun _ => ([] : List Nat)) s.fired (laneNo l) = i.val :: r → s.fb (leB l) LE.CTRL_EN = true →
    s.fb (trigB l i.val) LE.TRIGCFG_EN = true → s.trigHit l i.val (s.eventNo l i.val).1 = true →
    (∀ n < 256, (s.job l n).st ≠ .waiting) → (s.le l).pend.lookup i.val = none → s.trigDescs l i.val = [d] →
    (s.le l).newest = some k → (s.lane l).reset = false → Completes (.triggerFire l i) s fun t =>
      famGet (fun _ => ([] : List Nat)) t.fired (laneNo l) = r ∧ t.sk = s.sk ∧
      (s.descFull l d = true → t.jobs = s.jobs ∧ t.fg (leB l) LE.LOST_OVERRUN = min (2 ^ LE.LOST_OVERRUN.w - 1) (s.fg (leB l) LE.LOST_OVERRUN + 1) ∧
        t.evq = s.evq ++ [s.stamp { coll := .lane l, src := 0x81, res := resLane l }] ∧ t.mem = s.mem) ∧
      (s.descFull l d = false → s.freeSlots l = [] →
        (t.le l).pend.lookup i.val = some ⟨s.now, [d]⟩ ∧ t.jobs = s.jobs ∧ t.regs = s.regs ∧ t.evq = s.evq ∧ t.mem = s.mem) ∧
      (s.descFull l d = false → s.freeSlots l = j :: js → (s.descWord l d 0).toNat < 0xf6000 → (s.descWord l d 0).toNat % 8 = 0 →
        t.job l j = {
          st := .running, desc := d, prio := (s.descWord l d 1).toNat % 8, notify := (s.descWord l d 1).getLsbD 8, ovfRaise := (s.descWord l d 1).getLsbD 9
          budget := (s.descWord l d 1).toNat / 2 ^ 16, pc := (s.descWord l d 0).toNat
          a := [s.descWord l d 2, s.descWord l d 3, s.descWord l d 4, s.descWord l d 5, s.descWord l d 6, s.descWord l d 7,
                BitVec.ofNat 32 (0xfc000 + 0x1000 * (k % 4)), BitVec.ofNat 32 (k % 2 ^ 16 + i.val * 2 ^ 16)]
          v := [], p := List.replicate 8 false, ovf := false, tag := k % 2 ^ 16, vec := k, src := i.val, trigT := s.now, startT := s.now } ∧
        (∀ l' n, laneNo l' * 256 + n ≠ laneNo l * 256 + j → t.job l' n = s.job l' n) ∧ t.regs = s.regs ∧ t.evq = s.evq ∧ t.mem = s.mem) ∧
      (s.descFull l d = false → s.freeSlots l = j :: js →
        (0xf6000 ≤ (s.descWord l d 0).toNat → (t.job l j).st = .faulted ∧ (t.job l j).code = 1 ∧ LaneEvent t l 0x82 255 ∧
          (t.job l j).faddr = (s.descWord l d 0).toNat % 2 ^ 20) ∧
        ((s.descWord l d 0).toNat < 0xf6000 → (s.descWord l d 0).toNat % 8 ≠ 0 → (t.job l j).st = .faulted ∧ (t.job l j).code = 2 ∧
          LaneEvent t l 0x82 255 ∧ (t.job l j).faddr = (s.descWord l d 0).toNat))) ∧
  (∀ (l : Lane) (i : Fin 64) (r : List Nat) (h : HeldFire) (s : State),
    famGet (fun _ => ([] : List Nat)) s.fired (laneNo l) = i.val :: r → s.fb (leB l) LE.CTRL_EN = true →
    s.fb (trigB l i.val) LE.TRIGCFG_EN = true → s.trigHit l i.val (s.eventNo l i.val).1 = true →
    (∀ n < 256, (s.job l n).st ≠ .waiting) → (s.le l).pend.lookup i.val = some h → (s.lane l).reset = false →
    Completes (.triggerFire l i) s fun t =>
      t.jobs = s.jobs ∧ t.fg (leB l) LE.LOST_LOST = min (2 ^ LE.LOST_LOST.w - 1) (s.fg (leB l) LE.LOST_LOST + 1) ∧
      t.evq = s.evq ++ [s.stamp { coll := .lane l, src := 0x80, res := resLane l }] ∧ t.mem = s.mem ∧ t.sk = s.sk) ∧
  (∀ (l : Lane) (i : Fin 64) (r : List Nat) (s : State),
    famGet (fun _ => ([] : List Nat)) s.fired (laneNo l) = i.val :: r →
    (s.fb (leB l) LE.CTRL_EN = false ∨ s.trigHit l i.val (s.eventNo l i.val).1 = false) → Completes (.triggerFire l i) s fun t =>
      famGet (fun _ => ([] : List Nat)) t.fired (laneNo l) = r ∧ t.jobs = s.jobs ∧ t.regs = s.regs ∧ t.evq = s.evq ∧
      t.mem = s.mem ∧ t.sk = s.sk) ∧
  (∀ (l : Lane) (i : Fin 64) (j : Fin 256) (s : State),
    i.val ∈ famGet (fun _ => ([] : List Nat)) s.fired (laneNo l) → s.fb (leB l) LE.CTRL_EN = true →
    s.fb (trigB l i.val) LE.TRIGCFG_EN = false → s.trigHit l i.val (s.eventNo l i.val).1 = true →
    (∀ n < 256, n ≠ j.val → (s.job l n).st ≠ .waiting) → (s.job l j.val).st = .waiting → (s.job l j.val).wait = i.val →
    leClk (s.job l j.val).waitT < leClk s.now → (s.job l j.val).pc < 0xf6000 → Completes (.triggerFire l i) s fun t =>
      t.job l j.val = { s.job l j.val with st := .running } ∧ (∀ l' n, laneNo l' * 256 + n ≠ laneNo l * 256 + j.val → t.job l' n = s.job l' n) ∧
      t.regs = s.regs ∧ t.evq = s.evq ∧ t.mem = s.mem ∧ t.sk = s.sk) ∧
  (∀ (l : Lane) (i : Fin 64) (h : HeldFire) (d j k : Nat) (js : List Nat) (s : State), (s.le l).pend.lookup i.val = some h → h.descs = [d] →
    s.freeSlots l = j :: js → (s.le l).newest = some k → (s.descWord l d 0).toNat < 0xf6000 → (s.descWord l d 0).toNat % 8 = 0 →
    Completes (.pendingTriggerStart l i) s fun t =>
      (t.job l j).st = .running ∧ (t.job l j).desc = d ∧ (t.job l j).prio = (s.descWord l d 1).toNat % 8 ∧ (t.job l j).pc = (s.descWord l d 0).toNat ∧ (t.job l j).src = i.val ∧
      (t.job l j).trigT = h.t ∧ (t.job l j).startT = s.now ∧ (t.job l j).tag = k % 2 ^ 16 ∧
      (∀ l' n, laneNo l' * 256 + n ≠ laneNo l * 256 + j → t.job l' n = s.job l' n) ∧
      t.regs = s.regs ∧ t.evq = s.evq ∧ t.mem = s.mem ∧ t.sk = s.sk) ∧
  (∀ (l : Lane) (n : Fin 16) (s : State), (s.lane l).reset = false → Completes (.laneTimerExpiry l n) s fun t =>
      famGet (fun _ => ([] : List Nat)) t.fired (laneNo l) = famGet (fun _ => ([] : List Nat)) s.fired (laneNo l) ++ [32 + n.val] ∧
      t.jobs = s.jobs ∧ t.regs = s.regs ∧ t.evq = s.evq ∧ t.mem = s.mem ∧ t.sk = s.sk) ∧
  (∀ (l : Lane) (v : Word) (s : State), (s.lane l).reset = false → Completes (.doorbellWrite l v) s fun t =>
      famGet (fun _ => ([] : List Nat)) t.fired (laneNo l) = famGet (fun _ => ([] : List Nat)) s.fired (laneNo l) ++
        ((List.range 12).filter v.getLsbD).map (48 + ·) ∧
      t.jobs = s.jobs ∧ t.regs = s.regs ∧ t.evq = s.evq ∧ t.mem = s.mem ∧ t.sk = s.sk)

/-- How a slot leaves its states (R85): a stalled OUT goes on when the bus takes its record (R90), a HOLD when the stores it waits
for are visible, and not before the records are (R93); an END with NOTIFY posts its entry and frees the slot, which waits while
the completion queue is full, and a fault is posted with its code and offset (R97); BUDGET ends a job with code 6; a read of
LE.CQ_HI returns the head entry's high word and removes it. -/
def Obligations.JobsEndAndPost : Prop :=
  (∀ (l : Lane) (j : Fin 256) (r : OutRec) (s : State), (s.job l j.val).st = .stallOut → (s.job l j.val).out = some r →
    (s.job l j.val).pc < 0xf6000 →
    (s.busRoom l r = false → exec (.jobStallEnd l j) s = .next s) ∧
    (s.busRoom l r = true → Completes (.jobStallEnd l j) s fun t =>
      t.job l j.val = { s.job l j.val with st := .running, out := none, fly := (s.job l j.val).fly ++ [.mirror r] } ∧
      (t.bus l).drvQ = (s.bus l).drvQ ++ (if r.toDrive l then [r] else []) ∧
      (t.bus l).skQ = (s.bus l).skQ ++ (if r.toSkink then [{ r := r }] else []) ∧
      (∀ l' n, laneNo l' * 256 + n ≠ laneNo l * 256 + j.val → t.job l' n = s.job l' n) ∧
      t.regs = s.regs ∧ t.evq = s.evq ∧ t.mem = s.mem ∧ t.sk = s.sk)) ∧
  (∀ (l : Lane) (j : Fin 256) (a : Nat) (bs : List Byte) (s : State), (s.job l j.val).fly = [.store a bs] →
    ((s.job l j.val).st = .holdL ∨ (s.job l j.val).st = .holdA ∧ s.busHas l j.val = false) →
    (s.job l j.val).pc < 0xf6000 → Completes (.holdDone l j) s fun t =>
      t.job l j.val = { s.job l j.val with st := .running, fly := [] } ∧
      (∀ k < bs.length, t.rd8 (laneNo l) (lmA (a + k)) = bs.getD k 0) ∧
      (∀ n b, ¬ (n = laneNo l ∧ lmA a ≤ b ∧ b < lmA a + bs.length) → b < 2 ^ 40 → lmA a + bs.length ≤ 2 ^ 40 → t.rd8 n b = s.rd8 n b) ∧
      t.regs = s.regs ∧ t.evq = s.evq ∧ t.sk = s.sk) ∧
  (∀ (l : Lane) (j : Fin 256) (s : State), ((s.job l j.val).st = .holdO ∨ (s.job l j.val).st = .holdA) →
    s.busHas l j.val = true → exec (.holdDone l j) s = .next s) ∧
  (∀ (l : Lane) (j : Fin 256) (s : State), (s.job l j.val).st = .ending → s.busHas l j.val = false → (s.job l j.val).fly = [] →
    ((s.job l j.val).notify = false ∨ (s.le l).cq.length < 64) → Completes (.jobEndComplete l j) s fun t =>
      let x := s.job l j.val
      t.job l j.val = {} ∧ (t.le l).cq = (s.le l).cq ++ (if x.notify then [⟨j.val, x.desc, x.tag, 0, x.ovf, 0⟩] else []) ∧
      (∀ l' n, laneNo l' * 256 + n ≠ laneNo l * 256 + j.val → t.job l' n = s.job l' n) ∧
      t.regs = s.regs ∧ t.evq = s.evq ∧ t.mem = s.mem ∧ t.sk = s.sk) ∧
  (∀ (l : Lane) (j : Fin 256) (s : State), (s.job l j.val).st = .faulted → Completes (.jobEndComplete l j) s fun t =>
      let x := s.job l j.val
      (64 ≤ (s.le l).cq.length → t = s) ∧
      ((s.le l).cq.length < 64 → t.job l j.val = {} ∧ (t.le l).cq = (s.le l).cq ++ [⟨j.val, x.desc, x.tag, x.code, x.ovf, x.faddr⟩] ∧
        t.regs = s.regs ∧ t.evq = s.evq ∧ t.mem = s.mem ∧ t.sk = s.sk)) ∧
  (∀ (l : Lane) (j : Fin 256) (s : State), (s.job l j.val).budget ≠ 0 →
    64 * (s.job l j.val).budget ≤ leClk (s.now - (s.job l j.val).startT) → (s.job l j.val).fly = [] → (s.lane l).reset = false →
    (s.job l j.val).st ∈ [JobState.running, .stallOut, .holdL, .holdO, .holdA, .waiting] → Completes (.jobBudgetExpiry l j) s fun t =>
      t.job l j.val = { s.job l j.val with st := .faulted, code := 6, faddr := (s.job l j.val).pc % 2 ^ 20, out := none } ∧
      (∀ l' n, laneNo l' * 256 + n ≠ laneNo l * 256 + j.val → t.job l' n = s.job l' n) ∧
      t.evq = s.evq ++ [s.stamp { coll := .lane l, src := 0x82, res := resLane l }] ∧ t.regs = s.regs ∧ t.mem = s.mem ∧ t.sk = s.sk) ∧
  (∀ (l : Lane) (c : CqEntry) (cs : List CqEntry) (s : State), (s.le l).cq = c :: cs → Completes (.cqHiRead l) s fun t =>
      t.readData = s.cqHi l ∧ (t.le l).cq = cs ∧ t.jobs = s.jobs ∧ t.regs = s.regs ∧ t.evq = s.evq ∧ t.mem = s.mem ∧ t.sk = s.sk)

/-! Dollith -/

/-- A word in no form, with a reserved bit set or a forbidden field ends its job as ILLEGAL before any effect (R101, R97); an
OUT of a reserved KIND or INDEX ends it as OUT_KIND (R89), and LDB, STB, LDA and STA end it with the code of the first check they
fail (R104, R105). A slot that does not run issues nothing. No instruction changes a register of the register maps, the unit's
state, a job of another lane, another lane's memory or the lane's memory outside its local memory. -/
def Obligations.JobInstructionsStayInTheirJob : Prop :=
  (∀ (l : Lane) (j : Fin 256) (w : DWord) (c : Instr) (op lo : Nat) (s : State), (c, op, lo) ∈ dollithForms l j w →
    (s.job l j.val).st ≠ .running → exec c s = .next s) ∧
  (∀ (l : Lane) (j : Fin 256) (w : DWord) (c : Instr) (op lo : Nat) (s : State), (c, op, lo) ∈ dollithForms l j w →
    (s.job l j.val).st = .running → (s.lane l).reset = false →
    (formOf (insOf w) = none ∨ ((formOf (insOf w)).any (fun f => f.op == op && f.lo == lo) = true ∧ legalWord w op lo = false)) →
    Completes c s fun t =>
      let x := s.job l j.val
      t.job l j.val = { x with st := .faulted, code := 3, faddr := x.pc, fly := [], out := none } ∧
      t.evq = s.evq ++ [s.stamp { coll := .lane l, src := 0x82, res := resLane l }] ∧ SameJobsBut s t l j.val ∧
      t.buses = s.buses ∧ t.regs = s.regs ∧ t.sk = s.sk ∧ (x.fly = [] → t.mem = s.mem)) ∧
  (∀ (l : Lane) (j : Fin 256) (w : DWord) (s : State), (s.job l j.val).st = .running → (s.lane l).reset = false →
    (s.job l j.val).fly = [] → legalWord w 0x19 0 = true → kindRange ((insOf w).im 0 4) ≤ (insOf w).im 8 8 →
    Completes (.out l j w) s fun t =>
      t.job l j.val = { s.job l j.val with st := .faulted, code := 7, faddr := (s.job l j.val).pc, out := none } ∧
      t.evq = s.evq ++ [s.stamp { coll := .lane l, src := 0x82, res := resLane l }] ∧ SameJobsBut s t l j.val ∧
      t.buses = s.buses ∧ t.regs = s.regs ∧ t.mem = s.mem ∧ t.sk = s.sk) ∧
  (∀ (l : Lane) (j : Fin 256) (w : DWord) (c : Instr) (op n k : Nat) (wr : Bool) (s : State),
    (c, op, wr, n) ∈ [(.ldb l j w, 0x10, false, 32), (.stb l j w, 0x11, true, 32), (.lda l j w, 0x12, false, 4),
      (Instr.sta l j w, 0x13, true, 4)] → (s.job l j.val).st = .running → (s.lane l).reset = false →
    (s.job l j.val).fly = [] → legalWord w op 0 = true →
    let ea := (((((s.job l j.val).a.getD (insOf w).a 0).toNat : Int) + (insOf w).ims 0 20) % 2 ^ 32).toNat
    ((0x100000 < ea + n ∧ k = 1) ∨ (wr = true ∧ 0xf6000 < ea + n ∧ k = 1) ∨
      (ea + n ≤ (if wr then 0xf6000 else 0x100000) ∧ ea % n ≠ 0 ∧ k = 2) ∨
      (wr = false ∧ 0xfc000 ≤ ea ∧ ea + n ≤ 0x100000 ∧ ea % n = 0 ∧ s.vecGone l (s.job l j.val) = true ∧ k = 5)) →
    Completes c s fun t =>
      t.job l j.val = { s.job l j.val with st := .faulted, code := k, faddr := (s.job l j.val).pc, out := none } ∧
      t.evq = s.evq ++ [s.stamp { coll := .lane l, src := 0x82, res := resLane l }] ∧ SameJobsBut s t l j.val ∧
      t.buses = s.buses ∧ t.regs = s.regs ∧ t.mem = s.mem ∧ t.sk = s.sk) ∧
  (∀ (l : Lane) (j : Fin 256) (w : DWord) (c : Instr) (op lo : Nat) (s : State), (c, op, lo) ∈ dollithForms l j w →
    (∀ f ∈ (s.job l j.val).fly, f.inBounds = true) → Completes c s fun t =>
      t.regs = s.regs ∧ t.sk = s.sk ∧ (∀ l', l' ≠ l → ∀ n < 256, t.job l' n = s.job l' n) ∧
      (∀ n b, b < 2 ^ 40 → ¬ (n = laneNo l ∧ 0x21000000 ≤ b ∧ b < 0x21100000) → t.rd8 n b = s.rd8 n b))

/-- The address registers and the predicates: AOP's sums, masks and shifts, TIME, BEXP.E and BEXP.C, the comparisons of PSET on
exact values and of PSETA on signed and unsigned words, and PLOG (R113, R121, R125, R126). Each changes its one destination. -/
def Obligations.AddressAndPredicateResults : Prop :=
  ∀ (l : Lane) (j : Fin 256) (w : DWord) (s : State), (s.job l j.val).st = .running → (s.job l j.val).pc + 8 < 0xf6000 →
    let x := s.job l j.val
    let i := insOf w
    (legalWord w 0x14 0 = true → GoesOn (.aopAddi l j w) s l j.val (x.putA i.d (x.ar i.a + BitVec.ofNat 32 i.imm))) ∧
    (legalWord w 0x14 1 = true → GoesOn (.aopAdd l j w) s l j.val (x.putA i.d (x.ar i.a + x.ar i.b))) ∧
    (legalWord w 0x14 2 = true → GoesOn (.aopSub l j w) s l j.val (x.putA i.d (x.ar i.a - x.ar i.b))) ∧
    (legalWord w 0x14 3 = true → GoesOn (.aopSet l j w) s l j.val (x.putA i.d (BitVec.ofNat 32 i.imm))) ∧
    (legalWord w 0x14 4 = true → GoesOn (.aopAndi l j w) s l j.val (x.putA i.d (x.ar i.a &&& BitVec.ofNat 32 i.imm))) ∧
    (legalWord w 0x14 5 = true → GoesOn (.aopShl l j w) s l j.val (x.putA i.d (x.ar i.a <<< (i.imm % 32)))) ∧
    (legalWord w 0x14 6 = true → GoesOn (.aopSar l j w) s l j.val (x.putA i.d ((x.ar i.a).sshiftRight (i.imm % 32)))) ∧
    (legalWord w 0x06 0 = true → s.now < x.trigT + 5 * 2 ^ 30 →
      GoesOn (.timeJ l j w) s l j.val (x.putA i.d (BitVec.ofNat 32 ((s.now - x.trigT) * 4 / 5)))) ∧
    (legalWord w 0x06 1 = true → GoesOn (.timeL l j w) s l j.val
      { x.putA i.d (BitVec.ofNat 32 (s.utime l)) with timeH := BitVec.ofNat 32 (s.utime l / 2 ^ 32) }) ∧
    (legalWord w 0x06 2 = true → GoesOn (.timeH l j w) s l j.val (x.putA i.d x.timeH)) ∧
    (legalWord w 0x31 0 = true → GoesOn (.bexpE l j w) s l j.val (x.putA i.d (BitVec.ofInt 32 (x.blk i.a).e))) ∧
    (legalWord w 0x31 1 = true → GoesOn (.bexpC l j w) s l j.val (x.putA i.d (BitVec.ofNat 32 (x.blk i.a).n))) ∧
    (legalWord w 0x0a 0 = true → GoesOn (.psetCc l j w) s l j.val
      (x.putP i.d (condHolds i.fl ((x.blk i.a).val (i.imm % 8)) ((x.blk i.b).val (i.imm / 8 % 8))))) ∧
    (legalWord w 0x0a 8 = true → GoesOn (.psetCcz l j w) s l j.val (x.putP i.d (condHolds (i.fl - 8) ((x.blk i.a).val (i.imm % 8)) 0))) ∧
    (legalWord w 0x0b 0 = true → GoesOn (.psetaCc l j w) s l j.val
      (x.putP i.d (condHolds i.fl (x.ar i.a).toInt (BitVec.ofNat 32 i.imm).toInt))) ∧
    (legalWord w 0x0b 8 = true → GoesOn (.psetaCcu l j w) s l j.val (x.putP i.d (condHolds (i.fl - 8) (x.ar i.a).toNat i.imm))) ∧
    (legalWord w 0x0c 0 = true → GoesOn (.plog l j w) s l j.val (x.putP i.d (plogOp i.fl (x.pr i.a) (x.pr i.b)))) ∧
    (∀ a b : Int, (condHolds 0 a b = true ↔ a = b) ∧ (condHolds 1 a b = true ↔ a ≠ b) ∧ (condHolds 2 a b = true ↔ a < b) ∧
      (condHolds 3 a b = true ↔ a ≤ b) ∧ (condHolds 4 a b = true ↔ b < a) ∧ (condHolds 5 a b = true ↔ b ≤ a)) ∧
    (∀ a b : Bool, plogOp 0 a b = (a && b) ∧ plogOp 1 a b = (a || b) ∧ plogOp 2 a b = (a != b) ∧ plogOp 3 a b = (a && !b) ∧
      plogOp 4 a b = !a ∧ plogOp 5 a b = false ∧ plogOp 6 a b = true)

/-- Flow and job control: NOP, branches and jumps below 0xF_6000, and LM_BOUNDS for a taken one at or above it (R125); WAIT, the
HOLDs, and END, which raises an OVF that is set where the descriptor asks (R93, R97, R126); a SPAWN starts a job in the lowest free
slot, with its parent's source, tag, vector and trigger time, or clears its predicate (R81, R82). -/
def Obligations.FlowAndJobControl : Prop :=
  ∀ (l : Lane) (j : Fin 256) (w : DWord) (s : State), (s.job l j.val).st = .running → (s.job l j.val).pc + 8 < 0xf6000 →
    let x := s.job l j.val
    let i := insOf w
    let tgt := (((x.pc : Int) + 8 * i.ims 0 20) % 2 ^ 32).toNat
    (legalWord w 0x01 0 = true → GoesOn (.nop l j w) s l j.val x) ∧
    (legalWord w 0x08 0 = true → (x.pr i.a = false → GoesOn (.brT l j w) s l j.val x) ∧
      (x.pr i.a = true → tgt < 0xf6000 → Leaves (.brT l j w) s l j.val { x with pc := tgt } (s.jobByte l x) [])) ∧
    (legalWord w 0x08 1 = true → (x.pr i.a = true → GoesOn (.brF l j w) s l j.val x) ∧
      (x.pr i.a = false → tgt < 0xf6000 → Leaves (.brF l j w) s l j.val { x with pc := tgt } (s.jobByte l x) [])) ∧
    (legalWord w 0x09 0 = true → i.imm < 0xf6000 → Leaves (.jmp l j w) s l j.val { x with pc := i.imm } (s.jobByte l x) []) ∧
    (legalWord w 0x09 0 = true → 0xf6000 ≤ i.imm → x.fly = [] → (s.lane l).reset = false → Leaves (.jmp l j w) s l j.val
      { x with st := .faulted, code := 1, faddr := x.pc, out := none } (s.jobByte l x)
      [s.stamp { coll := .lane l, src := 0x82, res := resLane l }]) ∧
    (legalWord w 0x03 0 = true → Leaves (.wait l j w) s l j.val
      { x with st := .waiting, pc := x.pc + 8, wait := i.imm % 64, waitT := s.now } (s.jobByte l x) []) ∧
    (legalWord w 0x05 1 = true → Leaves (.holdL l j w) s l j.val { x with st := .holdL, pc := x.pc + 8 } (s.jobByte l x) []) ∧
    (legalWord w 0x05 2 = true → Leaves (.holdO l j w) s l j.val { x with st := .holdO, pc := x.pc + 8 } (s.jobByte l x) []) ∧
    (legalWord w 0x05 3 = true → Leaves (.holdA l j w) s l j.val { x with st := .holdA, pc := x.pc + 8 } (s.jobByte l x) []) ∧
    (legalWord w 0x02 0 = true → (s.lane l).reset = false → Leaves (.end_ l j w) s l j.val { x with st := .ending, pc := x.pc + 8 }
      (s.jobByte l x) (if x.ovf && x.ovfRaise then [s.stamp { coll := .lane l, src := 0x83, res := resLane l }] else [])) ∧
    (∀ c a0, (c, a0) ∈ [(.spawn l j w, none), (Instr.spawnArg l j w, some (x.ar i.a))] →
      legalWord w 0x04 (if a0.isSome then 1 else 0) = true →
      let d := i.imm % 256
      ((s.freeSlots l = [] ∨ s.descFull l d = true) → GoesOn c s l j.val (x.putP i.d false)) ∧
      (∀ k ks, s.freeSlots l = k :: ks → s.descFull l d = false → (s.descWord l d 0).toNat < 0xf6000 →
        (s.descWord l d 0).toNat % 8 = 0 → x.fly = [] → Completes c s fun t =>
          t.job l j.val = { x.putP i.d true with pc := x.pc + 8 } ∧
          (let y := t.job l k
           y.st = .running ∧ y.desc = d ∧ y.pc = (s.descWord l d 0).toNat ∧ y.ar 0 = a0.getD (s.descWord l d 2) ∧
           y.ar 1 = s.descWord l d 3 ∧ y.ar 6 = BitVec.ofNat 32 (0xfc000 + 0x1000 * (x.vec % 4)) ∧
           y.ar 7 = BitVec.ofNat 32 (x.tag + x.src * 2 ^ 16 + 2 ^ 22) ∧ y.src = x.src ∧ y.tag = x.tag ∧ y.vec = x.vec ∧
           y.trigT = x.trigT ∧ y.v = [] ∧ y.ovf = false) ∧
          (∀ n < 256, n ≠ j.val → n ≠ k → t.job l n = s.job l n) ∧ t.regs = s.regs ∧ t.evq = s.evq ∧ t.mem = s.mem ∧ t.sk = s.sk))

/-- Every block result is the exact value of its formula, with the count of R103, rounded once (R68, R110): block arithmetic
(R111, R112), BNORM and BEXP.S (R113), the element moves (R114), the motor transforms (R115, R116), BINT (R119), BFLT.A and
BCONST (R120). Values stand in units of 2^-160; sine, cosine and arctangent are the model's, to 2^-1024 (assumption 7). -/
def Obligations.BlockResults : Prop :=
  ∀ (l : Lane) (j : Fin 256) (w : DWord) (s : State), (s.job l j.val).st = .running → (s.job l j.val).pc + 8 < 0xf6000 →
    let x := s.job l j.val
    let i := insOf w
    let a := (x.blk i.a).val
    let b := (x.blk i.b).val
    let c := (x.blk i.c).val
    let ca := (x.blk i.a).n
    let cab := max ca (x.blk i.b).n
    let cabc := max cab (x.blk i.c).n
    let gives := fun (k : Instr) (xs : List Ex) => GoesOn k s l j.val (x.putBlk i.d (roundBlk xs))
    (legalWord w 0x20 0 = true → gives (.badd l j w) (ratios cab (2 ^ 160) fun k => a k + b k)) ∧
    (legalWord w 0x21 0 = true → gives (.bsub l j w) (ratios cab (2 ^ 160) fun k => a k - b k)) ∧
    (legalWord w 0x22 0 = true → gives (.bmul l j w) (ratios cab (2 ^ 320) fun k => a k * b k)) ∧
    (legalWord w 0x23 0 = true → gives (.bmac l j w) (ratios cabc (2 ^ 320) fun k => c k * 2 ^ 160 + a k * b k)) ∧
    (legalWord w 0x24 0 = true → gives (.bmsu l j w) (ratios cabc (2 ^ 320) fun k => c k * 2 ^ 160 - a k * b k)) ∧
    (legalWord w 0x25 0 = true → gives (.bdot l j w) [.frac (∑ k ∈ Finset.range 8, a k * b k) (2 ^ 320)]) ∧
    (legalWord w 0x26 0 = true → gives (.bsum l j w) [.frac (∑ k ∈ Finset.range 8, a k) (2 ^ 160)]) ∧
    (legalWord w 0x27 0 = true → gives (.bmaxr l j w)
      [.frac (max (max (max |a 0| |a 1|) (max |a 2| |a 3|)) (max (max |a 4| |a 5|) (max |a 6| |a 7|))) (2 ^ 160)]) ∧
    (legalWord w 0x28 0 = true → gives (.bneg l j w) (ratios ca (2 ^ 160) fun k => -a k)) ∧
    (legalWord w 0x29 0 = true → gives (.babs l j w) (ratios ca (2 ^ 160) fun k => |a k|)) ∧
    (legalWord w 0x2a 0 = true → gives (.bmin l j w) (ratios cab (2 ^ 160) fun k => min (a k) (b k))) ∧
    (legalWord w 0x2b 0 = true → gives (.bmax l j w) (ratios cab (2 ^ 160) fun k => max (a k) (b k))) ∧
    (legalWord w 0x2c 0 = true → gives (.bclamp l j w) (ratios cabc (2 ^ 160) fun k => min (max (a k) (b k)) (c k))) ∧
    (legalWord w 0x2d 0 = true → gives (.blerp l j w) (ratios cab (2 ^ 320) fun k => a k * 2 ^ 160 + c 0 * (b k - a k))) ∧
    (legalWord w 0x2e 0 = true → gives (.brcp l j w) ((List.range ca).map fun k =>
      if a k = 0 then .huge else .frac (if a k < 0 then -(2 ^ 160) else 2 ^ 160) (a k).natAbs)) ∧
    (legalWord w 0x2f 0 = true → GoesOn (.brsq l j w) s l j.val
      (let y := x.putBlk i.d (roundBlk ((List.range ca).map fun k =>
        if a k = 0 then .huge else if a k < 0 then .frac 0 1 else .root false (2 ^ 160) (a k).natAbs))
       { y with ovf := y.ovf || (List.range ca).any fun k => decide (a k < 0) })) ∧
    (legalWord w 0x30 0 = true → gives (.bnorm l j w) ((List.range ca).map fun k =>
      .root (decide (a k < 0)) (a k * a k).natAbs (∑ m ∈ Finset.range 8, a m * a m).natAbs)) ∧
    (legalWord w 0x31 2 = true → gives (.bexpS l j w) (ratios ca (2 ^ 288) fun k =>
      a k * 2 ^ ((BitVec.ofNat 8 i.imm).toInt + 128).toNat)) ∧
    (legalWord w 0x38 0 = true → gives (.bperm l j w) (ratios (if i.fl % 8 = 0 then 8 else i.fl % 8) (2 ^ 160) fun k =>
      let e := i.imm / 2 ^ (4 * k) % 16
      if e < 8 then a e else b (e - 8))) ∧
    (legalWord w 0x39 0 = true → gives (.bsplat l j w)
      (ratios (if i.imm / 8 % 8 = 0 then 8 else i.imm / 8 % 8) (2 ^ 160) fun _ => a (i.imm % 8))) ∧
    (legalWord w 0x3a 0 = true → gives (.bpick l j w) [.frac (a (i.imm % 8)) (2 ^ 160)]) ∧
    (legalWord w 0x3b 0 = true → gives (.bins l j w) (ratios (max ca (i.imm % 8 + 1)) (2 ^ 160) fun k =>
      if k = i.imm % 8 then b (i.imm / 8 % 8) else a k)) ∧
    (legalWord w 0x3c 0 = true → gives (.bsetc l j w) (ratios (if i.imm % 8 = 0 then 8 else i.imm % 8) (2 ^ 160) a)) ∧
    (legalWord w 0x3d 0 = true → gives (.bsel l j w)
      (if x.pr i.c then ratios ca (2 ^ 160) a else ratios (x.blk i.b).n (2 ^ 160) b)) ∧
    (legalWord w 0x40 0 = true → gives (.bclarke l j w) [.frac (2 * a 0 - a 1 - a 2) (3 * 2 ^ 160),
      .root (decide (a 1 - a 2 < 0)) ((a 1 - a 2).natAbs * (a 1 - a 2).natAbs) (3 * 2 ^ 320)]) ∧
    (legalWord w 0x40 1 = true → gives (.bclarke2 l j w) [.frac (a 0) (2 ^ 160),
      .root (decide (a 0 + 2 * a 1 < 0)) ((a 0 + 2 * a 1).natAbs * (a 0 + 2 * a 1).natAbs) (3 * 2 ^ 320)]) ∧
    (legalWord w 0x41 0 = true → gives (.bpark l j w) [.frac (a 0 * (cosSinT (b 0)).1 + a 1 * (cosSinT (b 0)).2) (2 ^ 1184),
      .frac (a 1 * (cosSinT (b 0)).1 - a 0 * (cosSinT (b 0)).2) (2 ^ 1184)]) ∧
    (legalWord w 0x42 0 = true → gives (.bipark l j w) [.frac (a 0 * (cosSinT (b 0)).1 - a 1 * (cosSinT (b 0)).2) (2 ^ 1184),
      .frac (a 0 * (cosSinT (b 0)).2 + a 1 * (cosSinT (b 0)).1) (2 ^ 1184)]) ∧
    (legalWord w 0x43 0 = true → GoesOn (.bsvm l j w) s l j.val
      ((x.putP i.c (svmDuties (a 0) (a 1) (b 0)).2).putBlk i.d (roundBlk (svmDuties (a 0) (a 1) (b 0)).1))) ∧
    (b 0 ≤ 0 → svmDuties (a 0) (a 1) (b 0) = ([.frac 1 2, .frac 1 2, .frac 1 2], true)) ∧
    (legalWord w 0x44 0 = true → gives (.bsincos l j w) ((List.range (min ca 4)).flatMap fun k =>
      [.frac (cosSinT (a k)).1 (2 ^ 1024), .frac (cosSinT (a k)).2 (2 ^ 1024)])) ∧
    (legalWord w 0x45 0 = true → gives (.batan2 l j w) ((List.range cab).map fun k => atan2T (a k) (b k))) ∧
    (atan2T 0 0 = .frac 0 1 ∧ cosSinT 0 = (2 ^ 1024, 0) ∧ (∀ v, cosSinT (v + 2 ^ 160) = cosSinT v)) ∧
    (∀ m hi lo, ((m = Instr.bint l j w ∧ legalWord w 0x49 0 = true ∧ hi = (fun k => |c k|) ∧ lo = fun k => -|c k|) ∨
        (m = .bintLu l j w ∧ legalWord w 0x49 1 = true ∧ hi = (x.blk (i.c + 1)).val ∧ lo = c)) →
      let out := fun k => if hi k < lo k then hi k else max (lo k) (min (a k + b k) (hi k))
      let y := x.putBlk i.d (roundBlk (ratios cab (2 ^ 160) out))
      GoesOn m s l j.val (if i.imm / 8 % 2 = 1 then y.putP (i.imm % 8) (decide (∃ k < cab, a k + b k ≠ out k)) else y)) ∧
    (legalWord w 0x51 2 = true → gives (.bfltA l j w)
      [.frac ((x.ar i.a).toInt * 2 ^ (160 - (BitVec.ofNat 8 (i.imm / 2 ^ 20)).toInt).toNat) (2 ^ 160)]) ∧
    (legalWord w 0x52 0 = true → gives (.bconst l j w)
      [.frac ((BitVec.ofNat 24 i.imm).toInt * 2 ^ ((BitVec.ofNat 8 (i.imm / 2 ^ 24)).toInt + 137).toNat) (2 ^ 160)])

/-- Loads, stores, conversions through memory, sample entries, output records and lookups, on accesses that meet no exception: a
job sees its own stores at once (R91); blocks, words and sample entries are laid out as R72, R120 and R122 say; OUT fills TAG,
LATENCY and SLOT and stalls while a destination is full (R89, R90, R124); TLU interpolates as R75 says, and a header against R75
ends the job as TABLE (R117). -/
def Obligations.MemoryAndOutput : Prop :=
  ∀ (l : Lane) (j : Fin 256) (w : DWord) (s : State), (s.job l j.val).st = .running → (s.job l j.val).pc + 8 < 0xf6000 →
    (s.le l).bad = [] →
    let x := s.job l j.val
    let i := insOf w
    let ea := (((x.ar i.a).toNat + i.ims 0 20) % 2 ^ 32).toNat
    let stores := fun (y : Job) (bs : List Byte) (k : Instr) => Leaves k s l j.val { y with fly := y.fly ++ flyStores ea bs, pc := x.pc + 8 }
      (fun b => if ea ≤ b ∧ b < ea + bs.length then bs.getD (b - ea) 0 else s.jobByte l x b) []
    (legalWord w 0x10 0 = true → ea + 32 ≤ 0xfc000 → ea % 32 = 0 →
      GoesOn (.ldb l j w) s l j.val (x.putBlk i.d (roundBlk (blkVals (s.jobRead l x ea 32))))) ∧
    (legalWord w 0x12 0 = true → ea + 4 ≤ 0x100000 → ea % 4 = 0 → s.vecGone l x = false →
      GoesOn (.lda l j w) s l j.val (x.putA i.d (BitVec.ofNat 32 (s.jobRead l x ea 4)))) ∧
    (legalWord w 0x11 0 = true → ea + 32 ≤ 0xf6000 → ea % 32 = 0 → stores x (x.blk i.b).bytes (.stb l j w)) ∧
    (legalWord w 0x13 0 = true → ea + 4 ≤ 0xf6000 → ea % 4 = 0 → stores x (natLe 4 (x.ar i.b).toNat) (.sta l j w)) ∧
    (∀ k wd fl, (k, wd, fl) ∈ [(Instr.bfixW l j w, 32, 0), (.bfixD l j w, 64, 1)] → legalWord w 0x50 fl = true →
      ea + (x.blk i.b).n * (wd / 8) ≤ 0xf6000 → ea % (wd / 8) = 0 → (x.blk i.b).n ≤ 8 →
      let q := (BitVec.ofNat 8 (i.imm / 2 ^ 20)).toInt
      let r := fun e => roundDiv ((x.blk i.b).val e * 2 ^ (q + 128).toNat) (2 ^ 288)
      let v := fun e => max (-(2 ^ (wd - 1))) (min (2 ^ (wd - 1) - 1) (r e))
      stores { x with ovf := x.ovf || (List.range (x.blk i.b).n).any (fun e => r e != v e) }
        ((List.range (x.blk i.b).n).flatMap fun e => natLe (wd / 8) (v e % 2 ^ wd).toNat) k) ∧
    (∀ k wd fl, (k, wd, fl) ∈ [(Instr.bfltW l j w, 32, 0), (.bfltD l j w, 64, 1)] → legalWord w 0x51 fl = true →
      let n := if i.imm / 2 ^ 28 % 8 = 0 then 8 else i.imm / 2 ^ 28 % 8
      ea + n * (wd / 8) ≤ 0xfc000 → ea % (wd / 8) = 0 →
      let q := (BitVec.ofNat 8 (i.imm / 2 ^ 20)).toInt
      GoesOn k s l j.val (x.putBlk i.d (roundBlk (ratios n (2 ^ 160) fun e =>
        (BitVec.ofNat wd (s.jobRead l x (ea + e * (wd / 8)) (wd / 8))).toInt * 2 ^ (160 - q).toNat)))) ∧
    (legalWord w 0x18 0 = true →
      let n := if i.imm / 2 ^ 28 % 8 = 0 then 8 else i.imm / 2 ^ 28 % 8
      ea + 8 * n ≤ 0x100000 → ea % 8 = 0 → s.vecGone l x = false →
      let e := fun k => s.jobRead l x (ea + 8 * k) 8
      GoesOn (.in_ l j w) s l j.val
        ((x.putA i.c (BitVec.ofNat 32 (∑ k ∈ Finset.range n, e k / 2 ^ 40 % 4 * 4 ^ k))).putBlk i.d (roundBlk (ratios n (2 ^ 160) fun k =>
          if e k / 2 ^ 40 % 4 = 3 then 0
          else (BitVec.ofNat 32 (e k)).toInt * 2 ^ (160 - (BitVec.ofNat 8 (e k / 2 ^ 32)).toInt).toNat)))) ∧
    (legalWord w 0x19 0 = true → i.imm / 2 ^ 8 % 2 ^ 8 < kindRange (i.imm % 16) →
      let q := (BitVec.ofNat 8 (i.imm / 2 ^ 16)).toInt
      let v := fun e => roundDiv ((x.blk i.a).val e * 2 ^ (q + 128).toNat) (2 ^ 288)
      let f := fun e => max (-(2 ^ 31)) (min (2 ^ 31 - 1) (v e))
      let r : OutRec := {
        kind := i.imm % 16, index := i.imm / 2 ^ 8 % 2 ^ 8, tag := x.tag, word1 := min ((s.now - x.trigT) * 4 / 5) 65535 + j.val * 2 ^ 16
        pay := [BitVec.ofInt 32 (f 0), BitVec.ofInt 32 (f 1), BitVec.ofInt 32 (f 2), BitVec.ofInt 32 (f 3), x.ar i.b, x.ar i.c] }
      let o := x.ovf || v 0 != f 0 || v 1 != f 1 || v 2 != f 2 || v 3 != f 3
      (s.busRoom l r = true → Completes (.out l j w) s fun t =>
        (t.job l j.val).st = .running ∧ (t.job l j.val).pc = x.pc + 8 ∧ (t.job l j.val).ovf = o ∧ (t.job l j.val).v = x.v ∧
        (t.job l j.val).a = x.a ∧ (t.job l j.val).p = x.p ∧
        (t.bus l).skQ = (s.bus l).skQ ++ (if r.kind = 5 then [] else [{ r := r }]) ∧
        (t.bus l).drvQ = (s.bus l).drvQ ++ (if (r.kind = 1 ∨ r.kind = 2) ∧ l ≠ .W then [r] else []) ∧
        (∀ l', l' ≠ l → t.bus l' = s.bus l') ∧ SameJobsBut s t l j.val ∧ t.regs = s.regs ∧ t.sk = s.sk ∧ t.evq = s.evq) ∧
      (s.busRoom l r = false → Leaves (.out l j w) s l j.val { x with st := .stallOut, pc := x.pc + 8, ovf := o, out := some r }
        (s.jobByte l x) [])) ∧
    (∀ k p, ((k = Instr.tlu l j w ∧ legalWord w 0x48 0 = true ∧
        (let pa := (((x.ar i.b).toNat + (BitVec.ofNat 16 (i.imm / 2 ^ 16)).toInt) % 2 ^ 32).toNat
         pa + 8 ≤ 0xfc000 ∧ pa % 8 = 0 ∧ p = (BitVec.ofNat 64 (s.jobRead l x pa 8)).toInt)) ∨
        (k = .tluA l j w ∧ legalWord w 0x48 1 = true ∧ p = (x.ar i.b).toInt)) →
      let ha := (((x.ar i.a).toNat + (BitVec.ofNat 16 i.imm).toInt) % 2 ^ 32).toNat
      ha + 32 ≤ 0xfc000 → ha % 32 = 0 →
      (headerOf (s.jobRead l x ha 32) = none → x.fly = [] → (s.lane l).reset = false → Leaves k s l j.val
        { x with st := .faulted, code := 8, faddr := x.pc, out := none } (s.jobByte l x)
        [s.stamp { coll := .lane l, src := 0x82, res := resLane l }]) ∧
      (∀ h, headerOf (s.jobRead l x ha 32) = some h → ha + 32 + 4 * h.n ≤ 0xfc000 →
        let v := fun e => (BitVec.ofNat 24 (s.jobRead l x (ha + 32 + 4 * e) 4)).toInt * 2 ^ (h.texp + 137).toNat
        let u := (p % h.w1).toNat * h.n
        let z := (max 0 (min (((h.n - 1) * h.step : Nat) : Int) (p - (BitVec.ofNat 32 h.w1).toInt))).toNat
        (h.kind = 0 → GoesOn k s l j.val (x.putBlk i.d (roundBlk [.frac
          (v (u / h.w1) * h.w1 + (u % h.w1 : Nat) * (v ((u / h.w1 + 1) % h.n) - v (u / h.w1))) (h.w1 * 2 ^ 160)]))) ∧
        (h.kind = 1 → GoesOn k s l j.val (x.putBlk i.d (roundBlk [.frac
          (v (z / h.step) * h.step + (z % h.step : Nat) * (v (min (z / h.step + 1) (h.n - 1)) - v (z / h.step)))
          (h.step * 2 ^ 160)])))))

/-- The one rounding (R67 to R70): a block of exact values has their count; each mantissa is the value at the unit of the block's
exponent, to the nearest, ties to even, clamped to ±(2^23 - 1) where the exponent is 127; OVF is set exactly where that clamps;
the block is normalised, or its exponent is -127. A normalised block stored as R72 lays it out and loaded again is the same
block, and square roots are rounded to the nearest. -/
def Obligations.BlocksAreRoundedOnce : Prop :=
  (∀ xs : List (Int × Nat), 1 ≤ xs.length → xs.length ≤ 8 → (∀ x ∈ xs, 0 < x.2) →
    let r := roundBlk (xs.map fun x => .frac x.1 x.2)
    let u := max r.1.e (-127) - 23
    r.1.n = xs.length ∧ r.1.m.length = 8 ∧ (∀ k, xs.length ≤ k → r.1.m.getD k 0 = 0) ∧ r.1.e ≤ 127 ∧
    (∀ k < xs.length, ∃ m, Nearest (xs.getD k (0, 1)).1 (xs.getD k (0, 1)).2 u m ∧
      r.1.m.getD k 0 = max (-(2 ^ 23 - 1)) (min (2 ^ 23 - 1) m) ∧ (r.2 = false → r.1.m.getD k 0 = m)) ∧
    (r.2 = true → r.1.e = 127 ∧ ∃ k < xs.length, (r.1.m.getD k 0).natAbs = 2 ^ 23 - 1) ∧ (r.1.normal = true ∨ r.1.e = -127)) ∧
  (∀ b : Blk, b.normal = true → roundBlk (blkVals (leNat b.bytes)) = (b, false)) ∧
  (∀ n d : Nat, 0 < d → let q := sqrtRound n d
    4 * n ≤ (2 * q + 1) ^ 2 * d ∧ (0 < q → (2 * q - 1) ^ 2 * d ≤ 4 * n) ∧
    (4 * n = (2 * q + 1) ^ 2 * d ∨ (0 < q ∧ (2 * q - 1) ^ 2 * d = 4 * n) → q % 2 = 0))

/-! Slotted cycle network -/

/-- A channel's sending side. COMMIT stages a unit output with its record on the bus, makes another frame READY, sends W's witness
frame to the vote only, and refuses an entry against R381, R387 or R408 with 0x184; DROP empties an entry, and one that waits LIFE
cycles is EXPIRED with 0x185 (R408). At the prepare instant the own slot's frame is chosen: a sync node's with or without a READY
entry, the unit status frame, the READY entry of the lowest number, or none, which is counted (R382, R409, R410). At the action
point it goes on the line and its entry is SENT, or READY again with REPEAT (R408); outside the guardian's windows the transmitter
is cut off with 0x189 (R397). The mini-slot counter moves on where no frame is on the line (R391); slot triggers fire (R414); a read
of miss counters clears them (R418). -/
def Obligations.NetworkNodesSend : Prop :=
  (∀ (l : Lane) (c : Fin 2) (e : Fin 32) (v : Word) (s : State), s.running l = true → s.txState l c.val e.val ≠ 1 →
    s.txState l c.val e.val ≠ 2 → v.getLsbD 0 = true →
    let s1 := s.rowPut l (s.lane l).locked (0x4030040c + 0x2000 * c.val + 16 * e.val) v
    let k := scnTx l c.val e.val
    let p := s1.txPayload l c.val e.val
    let r := frameRec 8 c.val (s1.fg k SCN.TX2_TAG)
      (s1.fg k SCN.TX0_SLOT + s1.fg (scnB l c.val) SCN.STATUS_MODE * 2 ^ 10 + s1.fg k SCN.TX2_SEQ * 2 ^ 16) p.length (s1.fb k SCN.TX3_SAFETY) p
    Completes (.scnTxCommit l c e v) s fun t =>
      t.sk = s.sk ∧ t.mem = s.mem ∧
      (s1.txBad l c.val e.val = true → t.txState l c.val e.val = 4 ∧ t.fb (scnB l c.val) SCN.EVT_TXREF = true ∧
        SameRegistersBut s t [k + SCN.TX3_STATE.ofs, scnB l c.val + SCN.EVT_TXREF.ofs] ∧ t.buses = s.buses ∧
        t.evq = s.evq ++ [s.stamp { coll := .lane l, src := 0x184, inst := c.val, res := resLane l }]) ∧
      (s1.txBad l c.val e.val = false → SameRegistersBut s t [k + SCN.TX3_STATE.ofs] ∧ t.evq = s.evq ∧
        (l = .W → s1.fb k SCN.TX3_WITNESS = true → t.txState l c.val e.val = 6 ∧ (t.bus l).skQ = (s.bus l).skQ ++ [{ r := r }]) ∧
        (l ≠ .W → s1.fb k SCN.TX3_UNITOUT = true → (t.bus l).skQ = (s.bus l).skQ ++ [{ r := r, elem := some e.val }] ∧
          (s1.fb k SCN.TX3_SAFETY = true → t.txState l c.val e.val = 1) ∧
          (s1.fb k SCN.TX3_SAFETY = false → t.txState l c.val e.val = if l = (s.netTx c.val).lane then 2 else 6)) ∧
        (((l ≠ .W ∧ s1.fb k SCN.TX3_UNITOUT = false) ∨ (l = .W ∧ s1.fb k SCN.TX3_WITNESS = false)) →
          t.txState l c.val e.val = 2 ∧ t.buses = s.buses))) ∧
  (∀ (l : Lane) (c : Fin 2) (e : Fin 32) (v : Word) (s : State), (s.txState l c.val e.val = 1 ∨ s.txState l c.val e.val = 2) →
    exec (.scnTxCommit l c e v) s = .next s) ∧
  (∀ (l : Lane) (c : Fin 2) (e : Fin 32) (s : State), s.running l = true → Completes (.scnTxDrop l c e) s fun t =>
      t.txState l c.val e.val = 0 ∧ SameRegistersBut s t [scnTx l c.val e.val + SCN.TX3_STATE.ofs] ∧ t.evq = s.evq ∧
      t.mem = s.mem ∧ t.sk = s.sk) ∧
  (∀ (l : Lane) (c : Fin 2) (e : Fin 32) (s : State), s.running l = true → s.txState l c.val e.val = 2 →
    s.fg (scnTx l c.val e.val) SCN.TX3_LIFE ≠ 0 →
    s.fg (scnTx l c.val e.val) SCN.TX3_LIFE ≤ famGet (fun _ => 0) (s.scn l c.val).lives e.val → Completes (.scnTxExpiry l c e) s fun t =>
      t.txState l c.val e.val = 5 ∧ t.fb (scnB l c.val) SCN.EVT_TXEXP = true ∧
      SameRegistersBut s t [scnTx l c.val e.val + SCN.TX3_STATE.ofs, scnB l c.val + SCN.EVT_TXEXP.ofs] ∧
      t.evq = s.evq ++ [s.stamp { coll := .lane l, src := 0x185, inst := c.val, res := resLane l }] ∧ t.mem = s.mem ∧ t.sk = s.sk) ∧
  (∀ (l : Lane) (c : Fin 2) (slot : BitVec 10) (y : BitVec 8) (s : State), s.running l = true → s.scnState l c.val = 4 →
    Completes (.scnSlotPrepare l c slot y) s fun t =>
      let own := s.fb (scnB l c.val) SCN.CTRL_SYNCN = true ∧ s.fg (scnB l c.val) SCN.CTRL_SYNCSLOT = slot.toNat ∧ slot.toNat ≠ 1023
      let stat := slot.toNat ≠ 1023 ∧ slot.toNat = s.fg (s.scnNow l c.val) SCN.MODE3_STATSLOT ∧ l = (s.netTx c.val).lane
      t.evq = s.evq ∧ t.mem = s.mem ∧ t.sk = s.sk ∧
      (own → t.regs = s.regs ∧ ∃ p, (t.scn l c.val).prep = some p ∧ p.entry = s.txPick l c.val slot.toNat 0 ∧ p.f.kind = 1 ∧
        p.f.slot = slot.toNat ∧ p.f.cycle = BitVec.ofNat 16 (s.fg (scnB l c.val) SCN.STATUS_CYCLE) ∧
        p.f.mreqv = s.fb (scnB l c.val) SCN.STATUS_MREQV ∧
        framePay p.f = (match p.entry with | some e => s.txPayload l c.val e | none => [])) ∧
      (¬ own → stat → t.regs = s.regs ∧ ∃ p, (t.scn l c.val).prep = some p ∧ p.entry = none ∧ p.f.kind = 4 ∧
        framePay p.f = s.statPayload) ∧
      (¬ own → ¬ stat → ∀ e, s.txPick l c.val slot.toNat y.toNat = some e → t.regs = s.regs ∧
        ∃ p, (t.scn l c.val).prep = some p ∧ p.entry = some e ∧ p.f.kind = 0 ∧ framePay p.f = s.txPayload l c.val e) ∧
      (¬ own → ¬ stat → s.txPick l c.val slot.toNat y.toNat = none → (t.scn l c.val).prep = none ∧
        t.fg (scnB l c.val) SCN.COUNT_TXEMPTY = min (2 ^ SCN.COUNT_TXEMPTY.w - 1) (s.fg (scnB l c.val) SCN.COUNT_TXEMPTY + 1) ∧
        SameRegistersBut s t [scnB l c.val + SCN.COUNT_TXEMPTY.ofs])) ∧
  (∀ (l : Lane) (c : Fin 2) (now : Nat) (p : ScnPrep) (s : State), s.running l = true → (s.scn l c.val).prep = some p →
    Completes (.scnTransmitStart l c now) s fun t =>
      let x := s.scn l c.val
      let guard := s.fb (scnB l c.val) SCN.CTRL_GUARDEN = true
      let off := x.cut = true ∨ (guard ∧ x.blocked = true) ∨ (p.f.slot = 1023 ∧ x.mini ≠ some p.f.dynid.toNat)
      let shut := guard ∧ s.guardOpen l c.val p.f.slot now = false
      (t.scn l c.val).prep = none ∧ t.mem = s.mem ∧ t.sk = s.sk ∧
      (off → (t.scn l c.val).line = x.line ∧ t.regs = s.regs ∧ t.evq = s.evq) ∧
      (¬ off → shut → (t.scn l c.val).line = none ∧ (t.scn l c.val).cut = true ∧ t.fb (scnB l c.val) SCN.EVT_GUARD = true ∧
        SameRegistersBut s t [scnB l c.val + SCN.EVT_GUARD.ofs] ∧
        t.evq = s.evq ++ [s.stamp { coll := .lane l, src := 0x189, inst := c.val, res := 0x30 + c.val }]) ∧
      (¬ off → ¬ shut → (t.scn l c.val).line = some p.f ∧ t.evq = s.evq ∧ (p.entry = none → t.regs = s.regs) ∧
        ∀ e, p.entry = some e → t.txState l c.val e = (if s.fb (scnTx l c.val e) SCN.TX3_REPEAT then 2 else 3) ∧
          t.fg (scnTx l c.val e) SCN.TX2_SEQ = (s.fg (scnTx l c.val e) SCN.TX2_SEQ +
            if s.fb (scnTx l c.val e) SCN.TX3_AUTOSEQ then 1 else 0) % 2 ^ SCN.TX2_SEQ.w ∧
          SameRegistersBut s t [scnTx l c.val e + SCN.TX3_STATE.ofs, scnTx l c.val e + SCN.TX2_SEQ.ofs])) ∧
  (∀ (l : Lane) (c : Fin 2) (line : Bool) (k : Nat) (s : State), s.running l = true → 2 ≤ s.scnState l c.val →
    Completes (.scnMinislotBoundary l c line k) s fun t =>
      (t.scn l c.val).mini = (match (s.scn l c.val).mini with | none => some 0 | some j => some (if line then j else j + 1)) ∧
      (∀ p, (s.scn l c.val).prep = some p → p.f.slot ≠ 1023 → (t.scn l c.val).prep = some p) ∧
      t.regs = s.regs ∧ t.evq = s.evq ∧ t.mem = s.mem ∧ t.sk = s.sk) ∧
  (∀ (l : Lane) (c : Fin 2) (s : State), s.running l = true → s.fb (scnB l c.val) SCN.CTRL_GUARDEN = true → 2 ≤ s.scnState l c.val →
    Completes (.guardianViolation l c) s fun t =>
      (t.scn l c.val).cut = true ∧ (t.scn l c.val).prep = none ∧ (t.scn l c.val).line = none ∧
      t.fb (scnB l c.val) SCN.EVT_GUARD = true ∧ SameRegistersBut s t [scnB l c.val + SCN.EVT_GUARD.ofs] ∧ t.mem = s.mem ∧
      t.sk = s.sk ∧ t.evq = s.evq ++ [s.stamp { coll := .lane l, src := 0x189, inst := c.val, res := 0x30 + c.val }]) ∧
  (∀ (l : Lane) (n : Fin 16) (s : State), s.running l = true → s.fb (scnG l + 4 * n.val) SCNG.TRIG_EN = true →
    s.scnState l (s.fg (scnG l + 4 * n.val) SCNG.TRIG_CH) = 4 → s.fg (scnG l + 4 * n.val) SCNG.TRIG_SLOT <
      s.fg (s.scnNow l (s.fg (scnG l + 4 * n.val) SCNG.TRIG_CH)) SCN.MODE1_NSLOT → Completes (.scnSlotTrigger l n) s fun t =>
      famGet (fun _ => ([] : List Nat)) t.fired (laneNo l) = famGet (fun _ => ([] : List Nat)) s.fired (laneNo l) ++ [16 + n.val] ∧
      t.regs = s.regs ∧ t.evq = s.evq ∧ t.mem = s.mem ∧ t.sk = s.sk) ∧
  (∀ (l : Lane) (c : Fin 2) (w : Fin 512) (s : State), s.running l = true → Completes (.scnMissCounterRead l c w) s fun t =>
      t.readData = s.reg (scnB l c.val + 0x1000 + 4 * w.val) ∧ t.reg (scnB l c.val + 0x1000 + 4 * w.val) = 0 ∧
      SameRegistersBut s t [scnB l c.val + 0x1000 + 4 * w.val] ∧ t.evq = s.evq ∧ t.mem = s.mem ∧ t.sk = s.sk)

/-- A channel keeps the network's time. An enable is checked, and starts LISTEN or raises 0x180 (R398, R417); at the end of its listen
timer a cold-start node starts cycle 0 in COLDSTART (R398, R399). A discarded frame is counted with 0x186 (R386); a valid sync frame
of the sync table brings a listening node into INTEGRATE with its CYCLE (R400), any other valid frame restarts the timer (R398);
another node's cold-start frame makes a cold starter back off (R399); an accepted data frame is stored in the half that CUR did not
name (R388, R411). At the cycle's end the offset is the midpoint of the deviations (R402) and the states change as R399 to R401 say;
on agreement the mode requested is in force (R405). A request is carried from the next cycle, and a cancel clears it (R405). At a
cycle start SCN_CYCLE fires (R414), and the guardian judges the instant (R397). -/
def Obligations.NetworkNodesKeepTime : Prop :=
  (∀ (l : Lane) (c : Fin 2) (v : Word) (s : State), s.running l = true → (s.lane l).locked = false →
    let s1 := s.rowPut l false (0x40300000 + 0x2000 * c.val) v
    Completes (.scnEnWrite l c v) s fun t =>
      SameRegistersBut s t [scnB l c.val + SCN.CTRL_EN.ofs, scnB l c.val + SCN.STATUS_STATE.ofs] ∧ t.mem = s.mem ∧ t.sk = s.sk ∧
      (v.getLsbD 0 = false → t.fb (scnB l c.val) SCN.CTRL_EN = false ∧ t.scnState l c.val = 0 ∧ t.evq = s.evq) ∧
      (v.getLsbD 0 = true → s1.scnCfgOk l c.val = false → t.fb (scnB l c.val) SCN.CTRL_EN = false ∧ t.scnState l c.val = 0 ∧
        t.evq = s.evq ++ [s.stamp { coll := .lane l, src := 0x180, inst := c.val, res := resLane l }]) ∧
      (v.getLsbD 0 = true → s1.scnCfgOk l c.val = true → s.resPending l (0x30 + c.val) = false → s.scnState l c.val = 0 →
        t.fb (scnB l c.val) SCN.CTRL_EN = true ∧ t.scnState l c.val = 1 ∧ t.fg (scnB l c.val) SCN.STATUS_MODE = 0 ∧
        (t.scn l c.val).t0 = s.now ∧ t.evq = s.evq)) ∧
  (∀ (l : Lane) (c : Fin 2) (s : State), s.running l = true → s.scnState l c.val = 1 → s.fb (scnB l c.val) SCN.CTRL_CSN = true →
    (s.scn l c.val).t0 + (2 + s.fg (scnB l c.val) SCN.CTRL_CSRANK) * (100 * s.fg (scnMode l c.val 0) SCN.MODE0_CYCLEN) ≤ s.now →
    Completes (.scnListenTimeout l c) s fun t =>
      t.scnState l c.val = 2 ∧ t.fg (scnB l c.val) SCN.STATUS_CYCLE = 0 ∧ SameRegistersBut s t [scnB l c.val + SCN.STATUS_STATE.ofs] ∧
      t.evq = s.evq ∧ t.mem = s.mem ∧ t.sk = s.sk) ∧
  (∀ (l : Lane) (c : Fin 2) (f : ScnFrame) (sfd : Int) (s : State), s.running l = true → s.scnState l c.val ≠ 0 →
    frameOk f (s.fg (scnB l c.val) SCN.IDS_NETID) = false → Completes (.scnFrameRx l c f sfd) s fun t =>
      t.fg (scnB l c.val) SCN.COUNT_HDR = min (2 ^ SCN.COUNT_HDR.w - 1) (s.fg (scnB l c.val) SCN.COUNT_HDR + 1) ∧
      SameRegistersBut s t [scnB l c.val + SCN.COUNT_HDR.ofs] ∧ t.scns = s.scns ∧ t.mem = s.mem ∧ t.sk = s.sk ∧
      t.evq = s.evq ++ [s.stamp { coll := .lane l, src := 0x186, inst := c.val, res := resLane l }]) ∧
  (∀ (l : Lane) (c : Fin 2) (f : ScnFrame) (sfd : Int) (s : State), s.running l = true → s.scnState l c.val = 1 →
    frameOk f (s.fg (scnB l c.val) SCN.IDS_NETID) = true → Completes (.scnFrameRx l c f sfd) s fun t =>
      t.evq = s.evq ∧ t.mem = s.mem ∧ t.sk = s.sk ∧
      ((f.kind = 1 ∨ f.kind = 2) ∧ f.slot ∈ s.syncSlots l c.val → t.scnState l c.val = 3 ∧
        t.fg (scnB l c.val) SCN.STATUS_CYCLE = f.cycle.toNat ∧ SameRegistersBut s t [scnB l c.val + SCN.STATUS_STATE.ofs]) ∧
      (¬ ((f.kind = 1 ∨ f.kind = 2) ∧ f.slot ∈ s.syncSlots l c.val) → (t.scn l c.val).t0 = s.now ∧ t.regs = s.regs)) ∧
  (∀ (l : Lane) (c : Fin 2) (f : ScnFrame) (sfd : Int) (s : State), s.running l = true → s.scnState l c.val = 2 →
    frameOk f (s.fg (scnB l c.val) SCN.IDS_NETID) = true → f.kind = 2 → (s.scn l c.val).cs < 4 →
    Completes (.scnFrameRx l c f sfd) s fun t =>
      t.scnState l c.val = 1 ∧ t.fb (scnB l c.val) SCN.EVT_BACKOFF = true ∧ (t.scn l c.val).prep = none ∧
      (t.scn l c.val).t0 = s.now ∧ t.evq = s.evq ∧ t.mem = s.mem ∧ t.sk = s.sk) ∧
  (∀ (l : Lane) (c : Fin 2) (f : ScnFrame) (sfd : Int) (e : Nat) (s : State), s.running l = true →
    2 ≤ s.scnState l c.val → frameOk f (s.fg (scnB l c.val) SCN.IDS_NETID) = true → f.kind = 0 → f.slot ≠ 1023 →
    s.inSlot l c.val f sfd = true → f.cycle.toNat = s.fg (scnB l c.val) SCN.STATUS_CYCLE →
    f.mode.val = s.fg (scnB l c.val) SCN.STATUS_MODE → e < 64 → (∀ k < 64, s.rxTakes l c.val k f = true ↔ k = e) →
    Completes (.scnFrameRx l c f sfd) s fun t =>
      t.fg (scnRx l c.val e) SCN.RX3_CUR = 1 - s.fg (scnRx l c.val e) SCN.RX3_CUR ∧ t.fb (scnRx l c.val e) SCN.RX3_NEW = true ∧
      t.fg (scnRx l c.val e) SCN.RX3_CYCLE = f.cycle.toNat ∧
      t.fb (scnRx l c.val e) SCN.RX3_OVERLONG = decide (s.fg (scnRx l c.val e) SCN.RX1_SIZE < (framePay f).length) ∧
      f.slot ∈ (t.scn l c.val).got ∧ t.evq = s.evq ∧ t.mem = s.mem ∧ t.sk = s.sk) ∧
  (∀ (l : Lane) (c : Fin 2) (f : ScnFrame) (sfd : Int) (s : State), s.running l = true → 3 ≤ s.scnState l c.val →
    frameOk f (s.fg (scnB l c.val) SCN.IDS_NETID) = true → f.cycle.toNat ≠ s.fg (scnB l c.val) SCN.STATUS_CYCLE →
    exec (.scnFrameRx l c f sfd) s = .next s) ∧
  (∀ (l : Lane) (c : Fin 2) (d : Int) (s : State), s.running l = true → s.scnState l c.val = 4 → Completes (.scnCycleStart l c d) s fun t =>
      let late := s.fb (scnB l c.val) SCN.CTRL_GUARDEN = true ∧ (s.scn l c.val).first = false ∧
        200 * s.fg (s.scnNow l c.val) SCN.MODE3_GUARD < d.natAbs
      t.mem = s.mem ∧ t.sk = s.sk ∧ (t.scn l c.val).mini = none ∧
      (s.fg (scnG l) SCNG.GLOBAL_CYCSRC = c.val → 63 ∈ famGet (fun _ => ([] : List Nat)) t.fired (laneNo l)) ∧
      (¬ late → (t.scn l c.val).blocked = false ∧ t.evq = s.evq ∧ t.regs = s.regs) ∧
      (late → (t.scn l c.val).blocked = true ∧ t.fb (scnB l c.val) SCN.EVT_GUARD = true ∧
        SameRegistersBut s t [scnB l c.val + SCN.EVT_GUARD.ofs] ∧
        t.evq = s.evq ++ [s.stamp { coll := .lane l, src := 0x189, inst := c.val, res := 0x30 + c.val }])) ∧
  (∀ (l : Lane) (c : Fin 2) (s : State), s.running l = true → 2 ≤ s.scnState l c.val → s.fb (calB l) CAL.CTRL_OSCEN = false →
    agreed (s.agreeSlots l c.val) (s.scn l c.val).reqsPrev (s.scnReqs l c.val) = none →
    (s.fb (scnB l c.val) SCN.STATUS_MREQV = false ∨ (s.scn l c.val).carried < 15) → Completes (.scnCycleEnd l c) s fun t =>
      let x := s.scn l c.val
      let o := ((s.scnCorrect l c.val).1.map Int.natAbs).getD 0
      let far := s.fg (s.scnNow l c.val) SCN.MODE4_OFSLIM < o
      let near := (s.scnCorrect l c.val).1.isSome = true ∧ o ≤ s.fg (s.scnNow l c.val) SCN.MODE4_OFSLIM
      t.fg (scnB l c.val) SCN.STATUS_CYCLE = (s.fg (scnB l c.val) SCN.STATUS_CYCLE + 1) % 2 ^ SCN.STATUS_CYCLE.w ∧
      (t.scn l c.val).others = 0 ∧ t.mem = s.mem ∧ t.sk = s.sk ∧
      (x.others ≠ 0 → t.fg (scnB l c.val) SCN.OFFSET_VAL = unsigned SCN.OFFSET_VAL.w (midpoint ((s.scnDevs l c.val).map (·.2)))) ∧
      (s.scnState l c.val = 2 → 2 ≤ x.cs → x.saw = true → 1 ≤ x.pair → t.scnState l c.val = 4 ∧ t.evq = s.evq) ∧
      (s.scnState l c.val = 2 → x.saw = false → 15 ≤ x.cs → t.scnState l c.val = 1 ∧
        t.evq = s.evq ++ [s.stamp { coll := .lane l, src := 0x182, inst := c.val, res := resLane l }]) ∧
      (s.scnState l c.val = 3 → t.evq = s.evq ∧ (x.first = true → t.scnState l c.val = 3) ∧
        (x.first = false → near → t.scnState l c.val = 4) ∧ (x.first = false → ¬ near → t.scnState l c.val = 1)) ∧
      (s.scnState l c.val = 4 → ¬ far → (x.others ≠ 0 ∨ x.silent = 0) → t.scnState l c.val = 4 ∧ t.evq = s.evq) ∧
      (s.scnState l c.val = 4 → (far ∨ (x.others = 0 ∧ 1 ≤ x.silent)) → t.scnState l c.val = 1 ∧
        t.fb (scnB l c.val) SCN.EVT_SYNC_LOST = true ∧
        t.evq = s.evq ++ [s.stamp { coll := .lane l, src := 0x181, inst := c.val, res := 0x30 + c.val }])) ∧
  (∀ (l : Lane) (c : Fin 2) (m : Nat) (s : State), s.running l = true → s.scnState l c.val = 4 → s.fb (calB l) CAL.CTRL_OSCEN = false →
    agreed (s.agreeSlots l c.val) (s.scn l c.val).reqsPrev (s.scnReqs l c.val) = some m → m < 8 → (s.scn l c.val).others = 0 →
    (s.scn l c.val).silent = 0 → Completes (.scnCycleEnd l c) s fun t =>
      t.fg (scnB l c.val) SCN.STATUS_MODE = m ∧ t.fb (scnB l c.val) SCN.STATUS_MREQV = false ∧
      t.fb (scnB l c.val) SCN.EVT_MODE_SW = true ∧ t.scnState l c.val = 4 ∧ t.evq = s.evq ∧ t.mem = s.mem ∧ t.sk = s.sk) ∧
  (∀ d : Int, midpoint [d] = 8 * roundDiv (2 * d) 16) ∧
  (∀ a b c : Int, a ≤ b → b ≤ c → midpoint [a, b, c] = 8 * roundDiv (2 * b) 16 ∧ midpoint [c, a, b] = 8 * roundDiv (2 * b) 16) ∧
  (∀ (l : Lane) (c : Fin 2) (v : Word) (s : State), s.running l = true → v.getLsbD 3 = true →
    let may := s.fb (scnMode l c.val (v.toNat % 8)) SCN.MODE0_VALID = true ∧ v.toNat % 8 ≠ s.fg (scnB l c.val) SCN.STATUS_MODE
    (may → Completes (.scnModeRequest l c v) s fun t =>
      (t.scn l c.val).next = some (v.toNat % 8) ∧ t.regs = s.regs ∧ t.evq = s.evq ∧ t.mem = s.mem ∧ t.sk = s.sk) ∧
    (¬ may → exec (.scnModeRequest l c v) s = .next s)) ∧
  (∀ (l : Lane) (c : Fin 2) (s : State), s.running l = true → Completes (.scnModeCancel l c) s fun t =>
      (t.scn l c.val).next = none ∧ t.fb (scnB l c.val) SCN.STATUS_MREQV = false ∧
      SameRegistersBut s t [scnB l c.val + SCN.STATUS_MREQV.ofs] ∧ t.evq = s.evq ∧ t.mem = s.mem ∧ t.sk = s.sk)

/-- A star in HUB and ENFORCE forwards a data frame of its slot's owner in step with its cycle and mode and within GUARD, and drops
any other with 0x187 (R392), and a dynamic frame from another port than the map's (R393); in OPEN it forwards sync frames only, one
at a time (R395); a bad header is counted (R386). A late end, with 0x188, or a bad FCS spoils the outgoing copy (R394). At the
cycle's end two good cycles bring ENFORCE, and an offset beyond OFSLIM, or two cycles without two sync frames, OPEN with 0x18B
(R395); claims are granted (R407), and an agreed mode ends every grant (R405, R407). A granted slot lapses after 64 empty cycles
(R407). A lost link raises 0x18A; a link comes up on an enabled port of a star that runs (R379, R383). EN = 0 resets the star, whose
configuration stays (R378); lane W has none (R418). -/
def Obligations.StarsEnforceTheSchedule : Prop :=
  (∀ (n : DLane) (q : Fin 7) (f : ScnFrame) (sfd : Int) (s : State), s.starPort n q.val = true → s.running n.lane = true →
    Completes (.starFrameRx n q f sfd) s fun t =>
      let ok := frameHeadOk f (s.fg (scnB n.lane (dno n)) SCN.IDS_NETID)
      let drop := t.stars = s.stars ∧ t.fg (starP n q.val) STAR.DROP_OOS = min (2 ^ STAR.DROP_OOS.w - 1) (s.fg (starP n q.val) STAR.DROP_OOS + 1) ∧
        SameRegistersBut s t [starP n q.val + STAR.DROP_OOS.ofs]
      let on := (t.star n).fwd = some q.val ∧ (t.star n).line = some f ∧ t.evq = s.evq
      let oos := t.evq = s.evq ++ [s.stamp { coll := .lane n.lane, src := 0x187, inst := q.val, res := resLane n.lane }]
      let u := sfd - s.fg (starP n q.val) STAR.PORT_PDLY
      t.mem = s.mem ∧ t.sk = s.sk ∧
      (ok = false → t.fg (starP n q.val) STAR.DROP_HDR = min (2 ^ STAR.DROP_HDR.w - 1) (s.fg (starP n q.val) STAR.DROP_HDR + 1) ∧
        SameRegistersBut s t [starP n q.val + STAR.DROP_HDR.ofs] ∧ t.stars = s.stars ∧ t.evq = s.evq) ∧
      (ok = true → s.starEnd n = false → s.fb (starB n) STAR.STATUS_ENFORCE = true → f.slot ≠ 1023 → f.kind = 0 →
        let b := s.starNow n
        let o := s.slotOwner (dno n) (s.starMode n) f.slot
        let fits := f.slot < s.fg b SCN.MODE1_NSLOT ∧ f.cycle.toNat = s.fg (starB n) STAR.STATUS_CYCLE ∧ f.mode.val = s.starMode n ∧
          (u - 100 * (f.slot * s.fg b SCN.MODE1_SLOTLEN + s.fg b SCN.MODE3_ACTOFS)).natAbs ≤ 100 * s.fg b SCN.MODE3_GUARD ∧
          (o = q.val ∨ (o = 7 ∧ q.val = 4 + (s.star n).unit) ∨ (o = 8 ∧ ∃ g ∈ (s.star n).grants, g.1 = f.slot ∧ g.2.1 = q.val))
        (fits → on ∧ t.regs = s.regs) ∧ (¬ fits → drop ∧ oos)) ∧
      (ok = true → s.starEnd n = false → s.fb (starB n) STAR.STATUS_ENFORCE = true → f.slot = 1023 → f.dynid ≠ 0 →
        let fits := 0 ≤ u ∧ u ≤ 200 * s.fg (s.starNow n) SCN.MODE3_GUARD ∧ s.dynOwner n (s.starMode n) f.dynid.toNat = q.val
        (fits → on ∧ t.regs = s.regs) ∧ (¬ fits → drop ∧ oos)) ∧
      (ok = true → s.starEnd n = false → s.fb (starB n) STAR.STATUS_ENFORCE = false →
        (frameSync f = true → (s.star n).fwd = none → on) ∧
        ((frameSync f = false ∨ (s.star n).fwd ≠ none) → drop ∧ t.evq = s.evq)) ∧
      (ok = true → s.starEnd n = true → on)) ∧
  (∀ (n : DLane) (fin : Int) (f : ScnFrame) (q : Nat) (s : State), (s.star n).fwd = some q → (s.star n).line = some f →
    s.running n.lane = true → Completes (.starFrameEnd n fin) s fun t =>
      let late := s.fb (starB n) STAR.STATUS_ENFORCE = true ∧ s.starEnd n = false ∧ s.starLate n q f fin = true
      (t.star n).fwd = none ∧ t.mem = s.mem ∧ t.sk = s.sk ∧
      (late ∨ f.fcsOk = false → (t.star n).line = none ∧ SameRegistersBut s t [starP n q + STAR.DROP_OVR.ofs] ∧
        t.fg (starP n q) STAR.DROP_OVR = min (2 ^ STAR.DROP_OVR.w - 1) (s.fg (starP n q) STAR.DROP_OVR + 1)) ∧
      (¬ late → f.fcsOk = true → (t.star n).line = some f ∧ t.regs = s.regs) ∧
      (¬ late → t.evq = s.evq) ∧
      (late → t.evq = s.evq ++ [s.stamp { coll := .lane n.lane, src := 0x188, inst := q, res := resLane n.lane }])) ∧
  (∀ (n : DLane) (q : Nat) (f : ScnFrame) (fin : Int) (s : State), f.slot ≠ 1023 → (s.starLate n q f fin = true ↔
    100 * ((f.slot + 1) * s.fg (s.starNow n) SCN.MODE1_SLOTLEN : Int) < fin - s.fg (starP n q) STAR.PORT_PDLY)) ∧
  (∀ (n : DLane) (s : State), s.starOn n = true → (s.star n).timed = true → (s.star n).claims = [] → s.running n.lane = true →
    agreed (s.agreeSlots n.lane (dno n)) (s.star n).reqsPrev (s.star n).reqs = none → Completes (.starCycleEnd n) s fun t =>
      let x := s.star n
      let ds := x.devs.map (·.2)
      let lim := s.fg (s.starNow n) SCN.MODE4_OFSLIM
      let lost := (ds ≠ [] ∧ lim < (midpoint ds).natAbs) ∨ (ds.length < 2 ∧ 1 ≤ x.bad)
      t.fg (starB n) STAR.STATUS_NSYNC = min 15 ds.length ∧ (t.star n).devs = [] ∧ t.mem = s.mem ∧ t.sk = s.sk ∧
      t.fg (starB n) STAR.STATUS_CYCLE = (s.fg (starB n) STAR.STATUS_CYCLE + 1) % 2 ^ STAR.STATUS_CYCLE.w ∧
      (¬ lost → 2 ≤ (ds.filter fun d => decide (d.natAbs ≤ lim)).length → (t.star n).good = x.good + 1 ∧ t.evq = s.evq ∧
        t.fb (starB n) STAR.STATUS_ENFORCE = (decide (1 ≤ x.good) || s.fb (starB n) STAR.STATUS_ENFORCE)) ∧
      (¬ lost → (ds.filter fun d => decide (d.natAbs ≤ lim)).length < 2 → (t.star n).good = 0 ∧ t.evq = s.evq ∧
        t.fb (starB n) STAR.STATUS_ENFORCE = s.fb (starB n) STAR.STATUS_ENFORCE) ∧
      (lost → t.fb (starB n) STAR.STATUS_ENFORCE = false ∧ (t.star n).timed = false ∧ (t.star n).grants = [] ∧
        t.evq = s.evq ++ (if s.fb (starB n) STAR.STATUS_ENFORCE then
          [s.stamp { coll := .lane n.lane, src := 0x18b, inst := dno n, res := 0x30 + dno n }] else []))) ∧
  (∀ (n : DLane) (a b : Int) (p q k u : Nat) (s : State), s.starOn n = true → (s.star n).timed = true →
    (s.star n).devs = [(p, a), (q, b)] → (s.star n).claims = [(k, u)] → (s.star n).grants = [] → k < 1023 → u < 7 →
    (midpoint [a, b]).natAbs ≤ s.fg (s.starNow n) SCN.MODE4_OFSLIM → s.running n.lane = true →
    (agreed (s.agreeSlots n.lane (dno n)) (s.star n).reqsPrev (s.star n).reqs = none → Completes (.starCycleEnd n) s fun t =>
      (t.star n).grants = [(k, u, 0)] ∧ (t.star n).claims = [] ∧ t.fg (starB n) STAR.CLAIM_SLOT = k ∧ t.fg (starB n) STAR.CLAIM_PORT = u ∧
      t.fb (starB n) STAR.CLAIM_VALID = true ∧ t.evq = s.evq ∧ t.mem = s.mem ∧ t.sk = s.sk) ∧
    (∀ m < 8, agreed (s.agreeSlots n.lane (dno n)) (s.star n).reqsPrev (s.star n).reqs = some m →
      Completes (.starCycleEnd n) s fun t =>
        t.fg (starB n) STAR.STATUS_MODE = m ∧ (t.star n).grants = [] ∧ (t.star n).claims = [] ∧
        t.fb (starB n) STAR.CLAIM_VALID = false ∧ t.mem = s.mem ∧ t.sk = s.sk ∧
        t.evq = s.evq ++ [s.stamp { coll := .lane n.lane, src := 0x18c, inst := u, res := resLane n.lane }])) ∧
  (∀ (n : DLane) (slot : BitVec 10) (q k : Nat) (s : State), (s.star n).grants = [(slot.toNat, q, k)] → 64 ≤ k →
    Completes (.starGrantLapse n slot) s fun t =>
      (t.star n).grants = [] ∧ (s.fg (starB n) STAR.CLAIM_SLOT = slot.toNat → t.fb (starB n) STAR.CLAIM_VALID = false) ∧
      SameRegistersBut s t [starB n + STAR.CLAIM_VALID.ofs] ∧ t.evq = s.evq ∧ t.mem = s.mem ∧ t.sk = s.sk) ∧
  (∀ (n : DLane) (slot : BitVec 10) (q k : Nat) (s : State), (s.star n).grants = [(slot.toNat, q, k)] → k < 64 →
    exec (.starGrantLapse n slot) s = .next s) ∧
  (∀ (n : DLane) (q : Fin 4) (s : State), s.fb (starP n q.val) STAR.PORT_LINK = true → s.running n.lane = true →
    Completes (.starLinkLoss n q) s fun t =>
      t.fb (starP n q.val) STAR.PORT_LINK = false ∧ SameRegistersBut s t [starP n q.val + STAR.PORT_LINK.ofs] ∧ t.mem = s.mem ∧
      t.sk = s.sk ∧ t.evq = s.evq ++ [s.stamp { coll := .lane n.lane, src := 0x18a, inst := q.val, res := resLane n.lane }]) ∧
  (∀ (n : DLane) (q : Fin 4) (s : State),
    let may := s.starOn n = true ∧ s.fb (starP n q.val) STAR.PORT_PEN = true ∧ (s.starEnd n = false ∨ q = 0)
    (may → Completes (.starLinkUp n q) s fun t => t = s.fs (starP n q.val) STAR.PORT_LINK 1) ∧
    (¬ may → exec (.starLinkUp n q) s = .next s)) ∧
  (∀ (n : DLane) (v : Word) (s : State), s.running n.lane = true → (s.lane n.lane).locked = false → v.getLsbD 0 = false →
    Completes (.starEnWrite n.lane v) s fun t =>
      t.fb (starB n) STAR.CTRL_EN = false ∧ t.fb (starB n) STAR.STATUS_ENFORCE = false ∧ (t.star n).fwd = none ∧ (t.star n).grants = [] ∧
      (∀ q < 7, t.fb (starP n q) STAR.PORT_LINK = false ∧ t.fg (starP n q) STAR.DROP_OOS = 0 ∧
        t.fg (starP n q) STAR.PORT_PDLY = s.fg (starP n q) STAR.PORT_PDLY) ∧ t.evq = s.evq ∧ t.mem = s.mem ∧ t.sk = s.sk) ∧
  (∀ (n : DLane) (v : Word) (s : State), s.running n.lane = true → (s.lane n.lane).locked = false → v.getLsbD 0 = true →
    Completes (.starEnWrite n.lane v) s fun t =>
      t.fb (starB n) STAR.CTRL_EN = true ∧ SameRegistersBut s t [starB n + STAR.CTRL_EN.ofs] ∧ t.stars = s.stars ∧ t.evq = s.evq ∧
      t.mem = s.mem ∧ t.sk = s.sk) ∧
  (∀ (v : Word) (s : State), exec (.starEnWrite .W v) s = .next s)

/-! CAN FD -/

/-- A transmit element's life: a COMMIT is refused with 0x1C5 against R434, and in W as a unit output with 0x016 (R33), else it is
staged with its record, or READY; a CANCEL works until the SOF, and is marked late after it (R435); the READY element that wins
arbitration is sent, an EXCLUSIVE window's element once at its start, and a frame that does not fit raises 0x1C7 (R435, R439); a
success is SENT and lowers TEC, a failure adds 8 to TEC and is repeated, or FAILED when RETRY is spent (R435, R442). A potential
master sends the next cycle's reference message (R438). -/
def Obligations.CanElementsAreSent : Prop :=
  (∀ (l : Lane) (k : Fin 4) (e : Fin 32) (v : Word) (s : State), s.running l = true → canHas l k.val = true →
    (s.canState l k.val e.val = 0 ∨ 4 ≤ s.canState l k.val e.val) → v.getLsbD 0 = true →
    let x := canTx l k.val e.val
    Completes (.canTxCommit l k e v) s fun t =>
      t.mem = s.mem ∧ t.sk = s.sk ∧
      (¬ (l = .W ∧ s.fb x CANTX.UNITOUT = true) → s.canBad l k.val e.val = true →
        t.canState l k.val e.val = 5 ∧ t.fb (canB l k.val) CAN.EVT_TX_REFUSED = true ∧ t.buses = s.buses ∧
        SameRegistersBut s t [x + CANTX.STATE.ofs, canB l k.val + CAN.EVT_TX_REFUSED.ofs] ∧
        t.evq = s.evq ++ [s.stamp { coll := .lane l, src := 0x1c5, inst := k.val, res := 0x20 + k.val }]) ∧
      (l = .W → s.fb x CANTX.UNITOUT = true → t.canState l k.val e.val = 5 ∧ t.buses = s.buses ∧
        t.evq = s.evq ++ [s.stamp { coll := .lane l, src := 0x16, inst := k.val, res := resLane l }]) ∧
      (l ≠ .W → s.canBad l k.val e.val = false → t.evq = s.evq ∧ t.fg x CANTX.ATTEMPTS = 0 ∧ SameRegistersBut s t [x + CANTX.STATE.ofs] ∧
        (s.fb x CANTX.UNITOUT = false → t.canState l k.val e.val = 2 ∧ t.buses = s.buses) ∧
        (s.fb x CANTX.UNITOUT = true → (t.bus l).skQ = (s.bus l).skQ ++ [{ r := s.canRec l k.val e.val, elem := some e.val }] ∧
          (s.fb x CANTX.SAFETY = true → t.canState l k.val e.val = 1)))) ∧
  (∀ (l : Lane) (k : Fin 4) (e : Fin 32) (s : State), s.running l = true → canHas l k.val = true → Completes (.canTxCancel l k e) s fun t =>
      let u := s.canState l k.val e.val
      t.evq = s.evq ∧ t.mem = s.mem ∧ t.sk = s.sk ∧
      ((u = 1 ∨ u = 2) → t.canState l k.val e.val = 9 ∧ SameRegistersBut s t [canTx l k.val e.val + CANTX.STATE.ofs]) ∧
      (u = 3 → t.canState l k.val e.val = 3 ∧ t.fb (canTx l k.val e.val) CANTX.CANCEL_LATE = true ∧
        t.fb (canB l k.val) CAN.EVT_CANCEL_LATE = true) ∧
      ((u = 0 ∨ 4 ≤ u) → t = s)) ∧
  (∀ (l : Lane) (k : Fin 4) (m e : Nat) (s : State), s.canUp l k.val = true → s.fb (canB l k.val) CAN.CTRL_RESTRICT = false →
    (s.can l k.val).act = none → (s.can l k.val).ref = none → s.canBest l k.val (s.canReady l k.val) = some e →
    Completes (.canTxStart l k m) s fun t =>
      let fits := ∀ c, s.canColumn l k.val = some c → s.canFits l k.val e c = true
      t.mem = s.mem ∧ t.sk = s.sk ∧
      ((s.fg (canB l k.val) CAN.CTRL_TTMODE = 0 ∨ fits) → t.canState l k.val e = 3 ∧ (t.can l k.val).act = some e ∧
        t.fg (canTx l k.val e) CANTX.TS = s.utime l / 1000 % 2 ^ 32 ∧ t.evq = s.evq ∧
        t.fg (canTx l k.val e) CANTX.ATTEMPTS = min 15 (s.fg (canTx l k.val e) CANTX.ATTEMPTS + 1)) ∧
      (s.fg (canB l k.val) CAN.CTRL_TTMODE ≠ 0 → ¬ fits → (t.can l k.val).act = none ∧ t.fb (canB l k.val) CAN.EVT_TT_WINDOW = true ∧
        t.evq = s.evq ++ [s.stamp { coll := .lane l, src := 0x1c7, inst := k.val, res := 0x20 + k.val }])) ∧
  (∀ (l : Lane) (k : Nat) (es : List Nat) (s : State), ∀ e, s.canBest l k es = some e →
    e ∈ es ∧ ∀ d ∈ es, s.canField l k e ≤ s.canField l k d) ∧
  (∀ (l : Lane) (k : Fin 4) (e : Nat) (s : State), s.canUp l k.val = true → (s.can l k.val).act = some e → e < 32 →
    s.fg (canB l k.val) CAN.CTRL_LOOP = 0 → 1 ≤ s.fg (canB l k.val) CAN.STATUS_TEC → s.fg (canB l k.val) CAN.STATUS_TEC ≤ 127 →
    s.fg (canB l k.val) CAN.STATUS_REC ≤ 127 → Completes (.canTxSuccess l k) s fun t =>
      t.canState l k.val e = 4 ∧ (t.can l k.val).act = none ∧ t.fb (canB l k.val) CAN.EVT_TX_DONE = true ∧
      t.fg (canB l k.val) CAN.STATUS_TEC = s.fg (canB l k.val) CAN.STATUS_TEC - 1 ∧ t.fg (canB l k.val) CAN.STATUS_ACKRUN = 0 ∧
      t.fg (canB l k.val) CAN.STATUS_ERRSTATE = 0 ∧ t.evq = s.evq ∧ t.mem = s.mem ∧ t.sk = s.sk) ∧
  (∀ (l : Lane) (k : Fin 4) (c : Nat) (s : State), s.canUp l k.val = true → (s.can l k.val).act = none → (s.can l k.val).ref = some c →
    s.fg (canB l k.val) CAN.CTRL_LOOP = 0 → c < 64 → s.fg (canB l k.val) CAN.STATUS_TEC ≤ 127 → s.fg (canB l k.val) CAN.STATUS_REC ≤ 127 → Completes (.canTxSuccess l k) s fun t =>
      t.fg (canB l k.val) CAN.TTSTAT_CYCCNT = c ∧ t.fb (canB l k.val) CAN.TTSTAT_SYNCED = true ∧
      t.fb (canB l k.val) CAN.TTSTAT_MASTER = true ∧ (t.can l k.val).refAt = (s.can l k.val).sof ∧ (t.can l k.val).ref = none ∧
      t.evq = s.evq ∧ t.mem = s.mem ∧ t.sk = s.sk) ∧
  (∀ (l : Lane) (k : Fin 4) (e : Nat) (s : State), s.canUp l k.val = true → (s.can l k.val).act = some e → e < 32 →
    s.fg (canB l k.val) CAN.STATUS_ERRSTATE = 0 → s.fg (canB l k.val) CAN.STATUS_TEC ≤ 119 → s.fg (canB l k.val) CAN.STATUS_REC ≤ 127 →
    Completes (.canTxError l k false false) s fun t =>
      let r := s.fg (canB l k.val) CAN.TXCFG_RETRY
      let spent := (s.can l k.val).once = true ∨ s.fb (canTx l k.val e) CANTX.CANCEL_LATE = true ∨
        (r ≠ 0 ∧ r ≤ s.fg (canTx l k.val e) CANTX.ATTEMPTS)
      t.fg (canB l k.val) CAN.STATUS_TEC = s.fg (canB l k.val) CAN.STATUS_TEC + 8 ∧ (t.can l k.val).act = none ∧
      t.fg (canB l k.val) CAN.COUNT_ERRORS = min (2 ^ CAN.COUNT_ERRORS.w - 1) (s.fg (canB l k.val) CAN.COUNT_ERRORS + 1) ∧
      (spent → t.canState l k.val e = 6 ∧ t.fb (canB l k.val) CAN.EVT_TX_FAILED = true) ∧ (¬ spent → t.canState l k.val e = 2) ∧
      t.evq = s.evq ∧ t.mem = s.mem ∧ t.sk = s.sk) ∧
  (∀ (l : Lane) (k : Fin 4) (e : Nat) (s : State), s.canUp l k.val = true → (s.can l k.val).act = some e → e < 32 →
    s.fg (canB l k.val) CAN.CTRL_LOOP = 0 → s.fg (canB l k.val) CAN.STATUS_ERRSTATE = 1 → s.fg (canB l k.val) CAN.STATUS_ACKRUN ≠ 63 →
    128 ≤ s.fg (canB l k.val) CAN.STATUS_TEC → s.fg (canB l k.val) CAN.STATUS_TEC ≤ 247 → Completes (.canTxError l k true false) s fun t =>
      t.fg (canB l k.val) CAN.STATUS_TEC = s.fg (canB l k.val) CAN.STATUS_TEC ∧ t.evq = s.evq ∧ t.mem = s.mem ∧ t.sk = s.sk ∧
      t.fg (canB l k.val) CAN.STATUS_ACKRUN = min 255 (s.fg (canB l k.val) CAN.STATUS_ACKRUN + 1)) ∧
  (∀ (l : Lane) (k : Fin 4) (s : State), s.canUp l k.val = true → s.fg (canB l k.val) CAN.CTRL_TTMODE = 2 →
    s.fb (canB l k.val) CAN.CTRL_RESTRICT = false → (s.can l k.val).act = none → (s.can l k.val).ref = none →
    s.canRefDue l k.val = true → Completes (.canTtRefSend l k) s fun t =>
      (t.can l k.val).ref = some (if s.fb (canB l k.val) CAN.TTSTAT_SYNCED then
        (s.fg (canB l k.val) CAN.TTSTAT_CYCCNT + 1) % 2 ^ s.fg (canB l k.val) CAN.TTCFG_NCYC else 0) ∧
      (t.can l k.val).sof = s.utime l ∧ t.regs = s.regs ∧ t.evq = s.evq ∧ t.mem = s.mem ∧ t.sk = s.sk) ∧
  (∀ (l : Lane) (k : Fin 4) (col : Fin 32) (s : State), s.canUp l k.val = true → s.fg (canB l k.val) CAN.CTRL_TTMODE ≠ 0 →
    s.canColumn l k.val = some col.val → s.canCycTime l k.val = s.canMark l k.val col.val → s.fb (canB l k.val) CAN.CTRL_RESTRICT = false →
    (s.can l k.val).act = none → (s.can l k.val).ref = none → (s.can l k.val).dropWin = false →
    Completes (.canTtWindowStart l k col) s fun t =>
      let m := s.canEntry l k.val (s.fg (canB l k.val) CAN.TTSTAT_CYCCNT) col.val
      let e := m / 4 % 32
      t.mem = s.mem ∧ t.sk = s.sk ∧
      (m % 4 = 1 → s.canState l k.val e = 2 → s.canFits l k.val e col.val = true → t.canState l k.val e = 3 ∧ (t.can l k.val).act = some e ∧
        (t.can l k.val).once = true ∧ t.evq = s.evq) ∧
      (m % 4 = 1 → s.canState l k.val e = 2 → s.canFits l k.val e col.val = false → (t.can l k.val).act = none ∧
        t.evq = s.evq ++ [s.stamp { coll := .lane l, src := 0x1c7, inst := k.val, res := 0x20 + k.val }]) ∧
      (m % 4 ≠ 1 → (t.can l k.val).act = none ∧ t.regs = s.regs ∧ t.evq = s.evq))

/-- Reception and errors: a frame goes where the first filter element that matches sends it, into a FIFO until its 64 elements are
full, then lost with 0x1C4, or over the oldest, or into a buffer (R426 to R430); FD frames that CTRL.FD does not allow, and a
recessive res bit, make the controller wait outside the bus with 0x1C8 (R423); a reference message sets the cycle count (R438).
The error counters give error-passive with 0x1C2 and bus-off with 0x1C1 (R442), which RECOVER and 128 quiet times end (R443); a
lost reference raises 0x1C6 (R440); CTRL.EN is checked against R449 with 0x1C0. -/
def Obligations.CanReceptionAndErrors : Prop :=
  (∀ (l : Lane) (k q : Fin 4) (f : CanFrame) (ago : Nat) (d : CanDest) (s : State), s.canUp l k.val = true →
    s.fg (canB l k.val) CAN.CTRL_LOOP = 0 → s.can l k.val = {} → (f.fdf = true → f.resRecessive = false ∧ s.fb (canB l k.val) CAN.CTRL_FD = true) →
    s.fb (canB l k.val) CAN.CTRL_RESTRICT = true → s.fg (canB l k.val) CAN.CTRL_TTMODE = 0 → s.canFilter l k.val f = d →
    q.val < 2 → d.action = q.val + 1 → Completes (.canRxFrame l k f ago) s fun t =>
      let b := canB l k.val + 4 * q.val
      let full := s.fg b CAN.QSTAT_COUNT = 64
      let ovw := s.fb (canB l k.val) (if q.val = 0 then CAN.RXCFG_OVW0 else CAN.RXCFG_OVW1) = true
      let n := s.fg b CAN.QSTAT_NEXT
      let a := canB l k.val + (if q.val = 0 then 0x4000 else 0x5400) + 80 * n
      t.mem = s.mem ∧ t.sk = s.sk ∧
      (full → ¬ ovw → t.fg b CAN.QSTAT_NEXT = n ∧ t.fg b CAN.QSTAT_COUNT = 64 ∧ t.fg b CAN.QSTAT_HEAD = s.fg b CAN.QSTAT_HEAD) ∧
      (full → t.fg b CAN.QSTAT_DROPPED = min (2 ^ CAN.QSTAT_DROPPED.w - 1) (s.fg b CAN.QSTAT_DROPPED + 1) ∧
        t.evq = s.evq ++ [s.stamp { coll := .lane l, src := 0x1c4, inst := k.val, res := 0x20 + k.val }]) ∧
      (full → ovw → t.fg b CAN.QSTAT_HEAD = (s.fg b CAN.QSTAT_HEAD + 1) % 64) ∧
      (¬ full → t.fg b CAN.QSTAT_COUNT = s.fg b CAN.QSTAT_COUNT + 1 ∧ t.evq = s.evq) ∧
      (¬ full ∨ ovw → t.fg b CAN.QSTAT_NEXT = (n + 1) % 64 ∧ (t.reg a).toNat % 2 ^ 29 = f.id.toNat ∧ (t.reg a).getLsbD 29 = f.ide ∧
        t.fb (canB l k.val) (if q.val = 0 then CAN.EVT_Q0_NEW else CAN.EVT_Q1_NEW) = true)) ∧
  (∀ (l : Lane) (k : Fin 4) (f : CanFrame) (ago : Nat) (s : State), s.canUp l k.val = true → s.fg (canB l k.val) CAN.CTRL_LOOP = 0 →
    (s.can l k.val).act = none → f.fdf = true → (f.resRecessive = true ∨ s.fb (canB l k.val) CAN.CTRL_FD = false) →
    s.fb (canB l k.val) CAN.CTRL_RESERR = false → Completes (.canRxFrame l k f ago) s fun t =>
      (t.can l k.val).join = true ∧ t.fb (canB l k.val) CAN.EVT_PROTO_EXC = true ∧
      SameRegistersBut s t [canB l k.val + CAN.EVT_PROTO_EXC.ofs] ∧ t.mem = s.mem ∧ t.sk = s.sk ∧
      t.evq = s.evq ++ [s.stamp { coll := .lane l, src := 0x1c8, inst := k.val, res := 0x20 + k.val }]) ∧
  (∀ (l : Lane) (k : Fin 4) (f : CanFrame) (ago c : Nat) (s : State), s.canUp l k.val = true → s.fg (canB l k.val) CAN.CTRL_LOOP = 0 →
    s.can l k.val = {} → s.fb (canB l k.val) CAN.CTRL_RESTRICT = true → f.fdf = false → s.canRefCount l k.val f = some c →
    (s.canFilter l k.val f).action = 0 →
    Completes (.canRxFrame l k f ago) s fun t =>
      t.fg (canB l k.val) CAN.TTSTAT_CYCCNT = c % 64 ∧ t.fb (canB l k.val) CAN.TTSTAT_SYNCED = true ∧
      t.fb (canB l k.val) CAN.TTSTAT_MASTER = false ∧ (t.can l k.val).refAt = s.utime l - ago ∧ t.evq = s.evq ∧ t.mem = s.mem ∧ t.sk = s.sk) ∧
  (∀ (l : Lane) (k : Fin 4) (n : Nat) (s : State), s.canUp l k.val = true → s.fg (canB l k.val) CAN.CTRL_LOOP = 0 →
    (s.can l k.val).act = none → s.fb (canB l k.val) CAN.CTRL_RESTRICT = false → s.fg (canB l k.val) CAN.STATUS_TEC ≤ 127 →
    s.fg (canB l k.val) CAN.STATUS_ERRSTATE = 0 → Completes (.canRxError l k n) s fun t =>
      let r := s.fg (canB l k.val) CAN.STATUS_REC + n
      t.fg (canB l k.val) CAN.STATUS_REC = min 255 r ∧ t.mem = s.mem ∧ t.sk = s.sk ∧
      (r ≤ 127 → t.fg (canB l k.val) CAN.STATUS_ERRSTATE = 0 ∧ t.evq = s.evq) ∧
      (127 < r → t.fg (canB l k.val) CAN.STATUS_ERRSTATE = 1 ∧
        t.evq = s.evq ++ [s.stamp { coll := .lane l, src := 0x1c2, inst := k.val, res := 0x20 + k.val }])) ∧
  (∀ (l : Lane) (k : Fin 4) (s : State), s.canUp l k.val = true → (s.can l k.val).act ≠ none → s.fg (canB l k.val) CAN.CTRL_LOOP = 0 →
    248 ≤ s.fg (canB l k.val) CAN.STATUS_TEC → Completes (.canTxError l k false false) s fun t =>
      t.fg (canB l k.val) CAN.STATUS_ERRSTATE = 2 ∧ t.fg (canB l k.val) CAN.STATUS_TEC = 255 ∧ (t.can l k.val).act = none ∧
      t.fb (canB l k.val) CAN.EVT_BUS_OFF = true ∧ t.mem = s.mem ∧ t.sk = s.sk ∧
      t.evq = s.evq ++ [s.stamp { coll := .lane l, src := 0x1c1, inst := k.val, res := 0x20 + k.val }]) ∧
  (∀ (l : Lane) (k : Fin 4) (v : Word) (s : State), s.running l = true → v.getLsbD 0 = true → s.fg (canB l k.val) CAN.STATUS_ERRSTATE = 2 →
    (s.canBusOffOpen l k.val = true → exec (.canRecoverWrite l k v) s = .next s) ∧
    (s.canBusOffOpen l k.val = false → Completes (.canRecoverWrite l k v) s fun t => t = s.fs (canB l k.val) CAN.STATUS_ERRSTATE 3)) ∧
  (∀ (l : Lane) (k : Fin 4) (s : State), s.running l = true → s.fg (canB l k.val) CAN.STATUS_ERRSTATE = 3 →
    Completes (.canRecoveryDone l k) s fun t =>
      t.fg (canB l k.val) CAN.STATUS_ERRSTATE = 0 ∧ t.fg (canB l k.val) CAN.STATUS_TEC = 0 ∧ t.fg (canB l k.val) CAN.STATUS_REC = 0 ∧
      SameRegistersBut s t [canB l k.val + CAN.STATUS_TEC.ofs] ∧ t.evq = s.evq ∧ t.mem = s.mem ∧ t.sk = s.sk) ∧
  (∀ (l : Lane) (k : Fin 4) (s : State), s.running l = true → (s.can l k.val).join = true → (s.can l k.val).act = none →
    s.fb (canB l k.val) CAN.STATUS_STOPPED = false → Completes (.canReintegrate l k) s fun t =>
      (t.can l k.val).join = false ∧ t.regs = s.regs ∧ t.evq = s.evq ∧ t.mem = s.mem ∧ t.sk = s.sk) ∧
  (∀ (l : Lane) (k : Fin 4) (q : Fin 2) (v : Word) (s : State), s.running l = true →
    let b := canB l k.val + 4 * q.val
    let n := v.toNat % 128
    Completes (.canFifoRelease l k q v) s fun t =>
      ((n = 0 ∨ s.fg b CAN.QSTAT_COUNT < n) → t = s) ∧
      (n ≠ 0 → n ≤ s.fg b CAN.QSTAT_COUNT → s.fg b CAN.QSTAT_COUNT ≤ 64 → t.fg b CAN.QSTAT_COUNT = s.fg b CAN.QSTAT_COUNT - n ∧
        t.fb b CAN.QSTAT_FULL = false ∧ t.fg b CAN.QSTAT_HEAD = (s.fg b CAN.QSTAT_HEAD + n) % 64 ∧
        SameRegistersBut s t [b + CAN.QSTAT_COUNT.ofs] ∧ t.evq = s.evq ∧ t.mem = s.mem ∧ t.sk = s.sk)) ∧
  (∀ (l : Lane) (k : Fin 4) (s : State), s.canUp l k.val = true → s.fg (canB l k.val) CAN.CTRL_TTMODE = 1 →
    (s.can l k.val).refLost = false → s.fg (canB l k.val) CAN.TTCFG_BCLEN + 1024 ≤ s.canCycTime l k.val →
    Completes (.canTtRefLost l k) s fun t =>
      t.fb (canB l k.val) CAN.TTSTAT_SYNCED = false ∧ (t.can l k.val).refLost = true ∧ t.fb (canB l k.val) CAN.EVT_TT_REF_LOST = true ∧
      t.mem = s.mem ∧ t.sk = s.sk ∧ t.evq = s.evq ++ [s.stamp { coll := .lane l, src := 0x1c6, inst := k.val, res := 0x20 + k.val }]) ∧
  (∀ (l : Lane) (k : Fin 4) (v : Word) (s : State), s.running l = true → (s.lane l).locked = false → canHas l k.val = true →
    let s1 := s.rowPut l false (0x40400000 + 0x10000 * k.val) v
    Completes (.canEnWrite l k v) s fun t =>
      t.mem = s.mem ∧ t.sk = s.sk ∧
      (v.getLsbD 0 = true → s1.canCfgOk l k.val = true → s1.canClaim l k.val = none → t.fb (canB l k.val) CAN.CTRL_EN = true ∧ t.evq = s.evq) ∧
      (v.getLsbD 0 = true → s1.canCfgOk l k.val = false → t.fb (canB l k.val) CAN.CTRL_EN = false ∧ t.can l k.val = {} ∧
        t.evq = s.evq ++ [s.stamp { coll := .lane l, src := 0x1c0, inst := k.val, res := 0x20 + k.val }]) ∧
      (v.getLsbD 0 = false → t.fb (canB l k.val) CAN.CTRL_EN = false ∧ t.can l k.val = {} ∧ t.evq = s.evq))

/-! Memory, cores, DMA and the event recorder -/

/-- Memory and cores: INITDONE after the fill (R461), the scrubber's next 64 bytes (R462); an error in core SRAM, DRAM or MRAM is
counted, its address latched, and raised as corrected or uncorrectable (R476, R478), in local memory and CAN message RAM as R74
and R446 say; ERRADDR_L is read with ERRADDR_H latched. XFENCE waits until its core's stores are visible to every agent, and says so
after 20 µs with 0x109 (R467); mtimecmp makes the machine timer interrupt pending (R453). -/
def Obligations.MemoryErrorsAndFences : Prop :=
  (∀ (l : Lane) (s : State), s.running l = true → Completes (.dramFillDone l) s fun t => t = s.fs (memcB l) MEMC.STATUS_INITDONE 1) ∧
  (∀ (l : Lane) (s : State), s.running l = true → s.fg (memcB l) MEMC.CTRL_SCRUBINT ≠ 0 → Completes (.scrubRead l) s fun t =>
      (t.lane l).scrub = ((s.lane l).scrub + 64) % 0x200000000 ∧ t.regs = s.regs ∧ t.mem = s.mem ∧ t.evq = s.evq ∧ t.sk = s.sk) ∧
  (∀ (l : Lane) (a : Nat) (s : State) (m : EccMem) (k c u : Nat), s.running l = true →
    (m, k, c, u) ∈ [(EccMem.coreSram, 0, 0x102, 0x103), (.dram, 1, 0x104, 0x105), (.mram, 2, 0x106, 0x107)] → a < 2 ^ 40 →
    Completes (.memoryEccError l m a true) s (fun t =>
      t.fg (memcB l) MEMC.COUNT_UNCORR = min (2 ^ MEMC.COUNT_UNCORR.w - 1) (s.fg (memcB l) MEMC.COUNT_UNCORR + 1) ∧
      t.fg (memcB l) MEMC.ERRADDR_L_ADDR = a % 2 ^ 32 ∧ (t.lane l).errH = a / 2 ^ 32 + k * 2 ^ 8 + 2 ^ 11 ∧ t.mem = s.mem ∧ t.sk = s.sk ∧
      SameRegistersBut s t [memcB l + MEMC.COUNT_UNCORR.ofs, memcB l + MEMC.ERRADDR_L_ADDR.ofs] ∧
      t.evq = s.evq ++ [s.stamp { coll := .lane l, src := u, res := resLane l, detail := a % 2 ^ 32 }]) ∧
    Completes (.memoryEccError l m a false) s (fun t =>
      t.fg (memcB l) MEMC.COUNT_CORR = min (2 ^ MEMC.COUNT_CORR.w - 1) (s.fg (memcB l) MEMC.COUNT_CORR + 1) ∧
      ((s.lane l).errH.testBit 11 = false → t.fg (memcB l) MEMC.ERRADDR_L_ADDR = a % 2 ^ 32) ∧
      ((s.lane l).errH.testBit 11 = true → t.fg (memcB l) MEMC.ERRADDR_L_ADDR = s.fg (memcB l) MEMC.ERRADDR_L_ADDR) ∧
      t.mem = s.mem ∧ t.sk = s.sk ∧ t.evq = s.evq ++ [s.stamp { coll := .lane l, src := c, res := resLane l, detail := a % 2 ^ 32 }])) ∧
  (∀ (l : Lane) (a : Nat) (s : State), s.running l = true → Completes (.memoryEccError l .localMem a true) s (fun t =>
      a % 0x100000 / 8 ∈ (t.le l).bad ∧ t.regs = s.regs ∧ t.mem = s.mem ∧ t.sk = s.sk ∧
      t.evq = s.evq ++ [s.stamp { coll := .lane l, src := 0x85, res := resLane l }]) ∧
    Completes (.memoryEccError l .localMem a false) s (Raises s { coll := .lane l, src := 0x84, res := resLane l }) ∧
    Completes (.memoryEccError l .cache a false) s (Raises s { coll := .lane l, src := 0x101, res := resLane l, detail := a % 2 ^ 32 })) ∧
  (∀ (l : Lane) (k : Fin 4) (a : Nat) (s : State), s.running l = true → canHas l k.val = true →
    Completes (.memoryEccError l (.canRam k) a false) s
      (Raises s { coll := .lane l, src := 0x1c9, inst := k.val, res := 0x20 + k.val }) ∧
    Completes (.memoryEccError l (.canRam k) a true) s fun t => t.mem = s.mem ∧ t.sk = s.sk ∧
      t.evq = s.evq ++ [s.stamp { coll := .lane l, src := 0x1ca, inst := k.val, res := 0x20 + k.val }]) ∧
  (∀ (l : Lane) (s : State), s.running l = true → (s.lane l).errH < 2 ^ 32 → Completes (.erraddrLRead l) s fun t =>
      t.readData = s.reg (memcB l + 8) ∧ (t.reg (memcB l + 0xc)).toNat = (s.lane l).errH ∧ SameRegistersBut s t [memcB l + 0xc] ∧
      t.mem = s.mem ∧ t.evq = s.evq ∧ t.sk = s.sk) ∧
  (∀ (l : Lane) (c : Fin 3) (s : State), s.running l = true → c.val ∉ (s.lane l).fence → Completes (.xfence l c) s fun t =>
      c.val ∈ (t.lane l).fence ∧ t.regs = s.regs ∧ t.mem = s.mem ∧ t.evq = s.evq ∧ t.sk = s.sk) ∧
  (∀ (l : Lane) (c : Fin 3) (a : Nat) (bs : List Byte) (s : State), s.running l = true → (s.lane l).fence = [c.val] →
    (s.lane l).stores = [(a, bs)] → a + bs.length ≤ 2 ^ 40 → Completes (.xfenceDone l c) s fun t =>
      (t.lane l).fence = [] ∧ (t.lane l).stores = [] ∧ (∀ i < bs.length, t.rd8 (laneNo l) (a + i) = bs.getD i 0) ∧
      (∀ n b, b < 2 ^ 40 → ¬ (n = laneNo l ∧ a ≤ b ∧ b < a + bs.length) → t.rd8 n b = s.rd8 n b) ∧ t.regs = s.regs ∧ t.evq = s.evq ∧
      t.sk = s.sk) ∧
  (∀ (l : Lane) (c : Fin 3) (u : Nat) (s : State), s.running l = true → c.val ∈ (s.lane l).fence →
    (s.lane l).fenceAt.lookup c.val = some u → u + 20000 ≤ s.now → Completes (.xfenceTimeout l c) s fun t =>
      c.val ∈ (t.lane l).fence ∧ t.regs = s.regs ∧ t.mem = s.mem ∧ t.sk = s.sk ∧
      t.evq = s.evq ++ [s.stamp { coll := .lane l, src := 0x109, inst := c.val, res := resLane l }]) ∧
  (∀ (l : Lane) (c : Fin 3) (s : State), s.running l = true → c.val ∉ (s.lane l).mtip →
    s.mtimecmp l c.val ≤ s.utime l % 2 ^ 64 → Completes (.machineTimer l c) s fun t =>
      c.val ∈ (t.lane l).mtip ∧ t.regs = s.regs ∧ t.mem = s.mem ∧ t.evq = s.evq ∧ t.sk = s.sk)

/-- DMA and the recorder: GO starts the chain at DESC or sets REFUSED while BUSY, STOP ends it with CODE 7 (R471); a descriptor that
fails a check puts its channel in ERROR with the code and 0x110 (R469); one that completes has moved LEN bytes, has CODE 1 and fires
TRIG and IRQ (R470); an abort gives CODE 7 and 0x111. A row is the cycle and the channels' words at the write pointer (R473), or is
skipped with 0x119; FREEZE makes a freeze pending, or is lost with 0x118 with eight windows frozen; RELEASE frees windows (R474); an
enable against R475 raises 0x11A. -/
def Obligations.DmaAndRecorderMoveData : Prop :=
  (∀ (l : Lane) (n : Fin 16) (s : State), s.running l = true → Completes (.dmaGo l n) s fun t =>
      let b := dmaN l n.val
      t.mem = s.mem ∧ t.evq = s.evq ∧ t.sk = s.sk ∧ SameRegistersBut s t [b + DMA.STATUS_STATE.ofs] ∧
      (s.fg b DMA.STATUS_STATE = 1 → t.fb b DMA.STATUS_REFUSED = true ∧ t.dmas = s.dmas) ∧
      (s.fg b DMA.STATUS_STATE ≠ 1 → t.fg b DMA.STATUS_STATE = 1 ∧
        (t.dma l n.val).next = some (s.fg b DMA.DESC_L_ADDR + s.fg b DMA.DESC_H_ADDR * 2 ^ 32))) ∧
  (∀ (l : Lane) (n : Fin 16) (s : State), s.running l = true → s.fg (dmaN l n.val) DMA.STATUS_STATE = 1 → Completes (.dmaStop l n) s fun t =>
      t.mem = s.mem ∧ t.evq = s.evq ∧ t.sk = s.sk ∧ (t.dma l n.val).next = none ∧
      ((s.dma l n.val).fly = [] → t.fg (dmaN l n.val) DMA.STATUS_STATE = 3) ∧
      ((s.dma l n.val).fly ≠ [] → (t.dma l n.val).stop = true ∧ (t.dma l n.val).fly = (s.dma l n.val).fly ∧ t.regs = s.regs)) ∧
  (∀ (l : Lane) (n : Fin 16) (a : Nat) (s : State), s.running l = true → s.fg (dmaN l n.val) DMA.STATUS_STATE = 1 →
    (s.dma l n.val).stop = false → s.dmaHeld l n.val = false → (s.dma l n.val).next = some a → s.outstanding l < 128 →
    s.dmaCheck l a ≠ 0 → Completes (.dmaDescLoad l n) s fun t =>
      t.fg (dmaN l n.val) DMA.STATUS_STATE = 2 ∧ t.fg (dmaN l n.val) DMA.STATUS_CODE = s.dmaCheck l a ∧
      (t.fg (dmaB l) DMA.EVT_ERR).testBit n.val = true ∧ (t.dma l n.val).next = none ∧ t.sk = s.sk ∧
      (∀ k b, b < 2 ^ 40 → ¬ (k = laneNo l ∧ a + 28 ≤ b ∧ b < a + 32) → t.rd8 k b = s.rd8 k b) ∧
      t.evq = s.evq ++ [s.stamp { coll := .lane l, src := 0x110, inst := n.val, res := resLane l, detail := n.val }]) ∧
  (∀ (l : Lane) (a : Nat) (s : State),
    (descPlace a = false → s.dmaCheck l a = 6) ∧
    (descPlace a = true → (s.dmaWord l a 3 = 0 ∨ 2 ^ 4 ≤ s.dmaWord l a 4) → s.dmaCheck l a = 2) ∧
    (s.dmaCheck l a = 0 → 1 ≤ s.dmaWord l a 3 ∧ dmaBarred (s.dmaDesc l a).src = false ∧
      s.dmaMayWrite l (s.dmaDesc l a).dst (s.dmaDesc l a).len = true)) ∧
  (∀ (l : Lane) (n : Fin 16) (a : Nat) (s : State), s.running l = true → s.fg (dmaN l n.val) DMA.STATUS_STATE = 1 →
    (s.dma l n.val).stop = false → s.dmaHeld l n.val = false → (s.dma l n.val).next = some a → s.dmaCheck l a = 0 →
    (s.dmaDesc l a).ord = true → (s.dma l n.val).fly ≠ [] → s.outstanding l < 128 → Completes (.dmaDescLoad l n) s fun t =>
      (t.dma l n.val).fly = (s.dma l n.val).fly ++ [s.dmaDesc l a] ∧
      (t.dma l n.val).next = (if (s.dmaDesc l a).last then none else some (s.dmaNext l a)) ∧
      t.regs = s.regs ∧ t.mem = s.mem ∧ t.evq = s.evq ∧ t.sk = s.sk) ∧
  (∀ (l : Lane) (n : Fin 16) (d : DmaDesc) (s : State), s.running l = true → s.dmaHeld l n.val = false →
    (s.dma l n.val).stop = false → (s.dma l n.val).fly = [d] → d.wrote = false → d.data = none → inPeriph d.src = false →
    inPeriph d.dst = false → d.dst + d.len ≤ 2 ^ 40 → descPlace d.at_ = true → s.dmaMayWrite l (d.at_ + 28) 4 = true →
    (d.at_ + 32 ≤ d.dst ∨ d.dst + d.len ≤ d.at_ + 28) → s.fg (dmaN l n.val) DMA.STATUS_STATE = 1 → (s.lane l).reset = false →
    Completes (.dmaDescComplete l n) s fun t =>
      (∀ i < d.len, t.rd8 (laneNo l) (d.dst + i) = s.rd8 (laneNo l) (d.src + i)) ∧ t.rd32 (laneNo l) (d.at_ + 28) = 1 ∧
      (∀ k b, b < 2 ^ 40 → ¬ (k = laneNo l ∧ (d.dst ≤ b ∧ b < d.dst + d.len ∨ d.at_ + 28 ≤ b ∧ b < d.at_ + 32)) → t.rd8 k b = s.rd8 k b) ∧
      t.fg (dmaN l n.val) DMA.STATUS_DONE = (s.fg (dmaN l n.val) DMA.STATUS_DONE + 1) % 2 ^ 24 ∧ (t.dma l n.val).fly = [] ∧
      t.fg (dmaN l n.val) DMA.STATUS_STATE = (if d.last then 0 else 1) ∧
      famGet (fun _ => ([] : List Nat)) t.fired (laneNo l) =
        famGet (fun _ => ([] : List Nat)) s.fired (laneNo l) ++ (if d.trig then [62] else []) ∧
      (d.irq = true → (t.fg (dmaB l) DMA.EVT_DONE).testBit n.val = true) ∧ t.evq = s.evq ∧ t.sk = s.sk) ∧
  (∀ (l : Lane) (n : Fin 16) (d : DmaDesc) (ds : List DmaDesc) (w : Nat) (s : State), s.running l = true →
    (s.dma l n.val).fly = d :: ds → d.wrote = true → Completes (.dmaAbort l n w) s fun t =>
      t.fg (dmaN l n.val) DMA.STATUS_STATE = 2 ∧ t.fg (dmaN l n.val) DMA.STATUS_CODE = 7 ∧ t.dma l n.val = {} ∧ t.sk = s.sk ∧
      t.evq = s.evq ++ [s.stamp { coll := .lane l, src := 0x111, inst := n.val, res := resLane l, detail := n.val }]) ∧
  (∀ (l : Lane) (s : State), s.erDue l = true → s.bistIn l 67 = false →
    s.fg (erB l) ER.STATUS_FROZEN = 0 → s.fb (erB l) ER.STATUS_PENDING = false → s.fg (erB l) ER.CTRL_NCHC = 0 →
    (∀ c, 1 ≤ c → c < 8 → s.reg (erB l + 0x100 + 4 * c) = 0x20000000) → ringBase ≤ s.erPtr l → s.erPtr l + 64 ≤ dramEnd →
    (s.lane l).beaconCycle < 2 ^ 32 → Completes (.erRowCapture l) s fun t =>
      t.rd32 (laneNo l) (s.erPtr l) = BitVec.ofNat 32 (s.lane l).beaconCycle ∧
      (∀ c, 1 ≤ c → c < 8 → t.rd32 (laneNo l) (s.erPtr l + 4 * c) = s.rd32 (laneNo l) 0x20000000) ∧ t.erPtr l = s.erPtr l + 32 ∧
      (∀ k b, b < 2 ^ 40 → ¬ (k = laneNo l ∧ s.erPtr l ≤ b ∧ b < s.erPtr l + 32) → t.rd8 k b = s.rd8 k b) ∧
      (t.er l).last = some (s.lane l).beaconCycle ∧ t.erDue l = false ∧ t.evq = s.evq ∧ t.sk = s.sk) ∧
  (∀ (l : Lane) (s : State), s.erDue l = true → s.bistIn l 67 = true →
    Completes (.erRowCapture l) s fun t =>
      t.fg (erB l) ER.COUNT_SKIP = min (2 ^ ER.COUNT_SKIP.w - 1) (s.fg (erB l) ER.COUNT_SKIP + 1) ∧
      SameRegistersBut s t [erB l + ER.COUNT_SKIP.ofs] ∧ t.mem = s.mem ∧ t.evq = s.evq ∧ t.sk = s.sk) ∧
  (∀ (l : Lane) (s : State), s.erDue l = true → Completes (.erRowSkipped l) s fun t =>
      t.fg (erB l) ER.COUNT_SKIP = min (2 ^ ER.COUNT_SKIP.w - 1) (s.fg (erB l) ER.COUNT_SKIP + 1) ∧
      SameRegistersBut s t [erB l + ER.COUNT_SKIP.ofs] ∧ t.mem = s.mem ∧ t.sk = s.sk ∧
      t.evq = s.evq ++ [s.stamp { coll := .lane l, src := 0x119, res := resLane l }]) ∧
  (∀ (l : Lane) (s : State), s.running l = true → s.fb (erB l) ER.CTRL_EN = true → Completes (.erFreezeCmd l) s fun t =>
      t.mem = s.mem ∧ t.sk = s.sk ∧
      (s.fb (erB l) ER.STATUS_PENDING = true → t.regs = s.regs ∧ t.evq = s.evq) ∧
      (s.fb (erB l) ER.STATUS_PENDING = false → s.fg (erB l) ER.STATUS_FROZEN = 255 → t.evq =
        s.evq ++ [s.stamp { coll := .lane l, src := 0x118, res := resLane l }] ∧
        t.fg (erB l) ER.COUNT_FRZLOST = min (2 ^ ER.COUNT_FRZLOST.w - 1) (s.fg (erB l) ER.COUNT_FRZLOST + 1)) ∧
      (s.fb (erB l) ER.STATUS_PENDING = false → s.fg (erB l) ER.STATUS_FROZEN ≠ 255 → (s.er l).last = none →
        t.fb (erB l) ER.STATUS_PENDING = true ∧ (t.er l).cyc = s.sk.cycle ∧ (t.er l).sw = true ∧ t.evq = s.evq)) ∧
  (∀ (l : Lane) (v : Word) (s : State), s.running l = true → Completes (.erReleaseCmd l v) s fun t =>
      (∀ n < 8, (t.fg (erB l) ER.STATUS_FROZEN).testBit n = ((s.fg (erB l) ER.STATUS_FROZEN).testBit n && !v.getLsbD (8 + n)) ∧
        (v.getLsbD (8 + n) = true → t.reg (erB l + 0x40 + 16 * n) = 0)) ∧
      t.erPtr l = s.erPtr l ∧ t.mem = s.mem ∧ t.evq = s.evq ∧ t.sk = s.sk) ∧
  (∀ (l : Lane) (v : Word) (s : State), s.running l = true → (s.lane l).locked = false →
    let s1 := s.rowPut l false 0x40e00000 v
    Completes (.erEnWrite l v) s fun t =>
      t.mem = s.mem ∧ t.sk = s.sk ∧
      (v.getLsbD 0 = true → s1.erCfgOk l = true → t.fb (erB l) ER.CTRL_EN = true ∧ t.evq = s.evq ∧ ringBase ≤ t.erPtr l) ∧
      (v.getLsbD 0 = true → s1.erCfgOk l = false → t.fb (erB l) ER.CTRL_EN = false ∧
        t.evq = s.evq ++ [s.stamp { coll := .lane l, src := 0x11a, res := resLane l }]) ∧
      (v.getLsbD 0 = false → t.fb (erB l) ER.CTRL_EN = false ∧ t.fb (erB l) ER.STATUS_PENDING = false ∧
        t.fg (erB l) ER.STATUS_FROZEN = s.fg (erB l) ER.STATUS_FROZEN ∧ t.evq = s.evq))

/-! Interrupt controller -/

/-- Arrivals at a source's live view are counted to 255, the first one lost raises 0x141 (R480 to R482); software sources arrive on
SWSET; a level follows its onset and de-assertion; a read returns COUNT and clears it (R483). A presentation edge takes the highest
candidate above the running level, trap entry pushes it with its late mark, and EOI pops the running level or raises 0x140 (R486 to
R489). -/
def Obligations.InterruptsArePresentedInOrder : Prop :=
  (∀ (l : Lane) (i : Fin 384) (e : IcEdge) (s : State), s.running l = true →
    ((icType l i.val = some false ∧ e = .edge ∧ i.val ∈ (s.ic l).due) ∨
      (icType l i.val = some true ∧ e = .onset ∧ i.val ∉ (s.ic l).levels ∧ s.icCond l i.val = true)) →
    Completes (.icArrival l i e) s fun t =>
      let c := s.icRoute l i.val
      t.icCount l c (64 + i.val) = min 255 (s.icCount l c (64 + i.val) + 1) ∧ t.regs = s.regs ∧ t.mem = s.mem ∧ t.sk = s.sk ∧
      (e = .onset → i.val ∈ (t.ic l).levels) ∧ (s.icCount l c (64 + i.val) < 255 → t.evq = s.evq) ∧
      (s.icCount l c (64 + i.val) = 255 → icKey c (64 + i.val) ∉ (s.ic l).lost →
        t.evq = s.evq ++ [s.stamp { coll := .lane l, src := 0x141, inst := c, res := resLane l, detail := 64 + i.val }]) ∧
      (s.icCount l c (64 + i.val) = 255 → icKey c (64 + i.val) ∈ (s.ic l).lost → t.evq = s.evq)) ∧
  (∀ (l : Lane) (i : Fin 384) (s : State), s.running l = true → icType l i.val = some true → s.icCond l i.val = false →
    Completes (.icArrival l i .deassert) s fun t =>
      t.ic l = { s.ic l with levels := (s.ic l).levels.erase i.val } ∧ t.regs = s.regs ∧ t.mem = s.mem ∧ t.evq = s.evq ∧ t.sk = s.sk) ∧
  (∀ (l : Lane) (i : Fin 384) (e : IcEdge) (s : State), icType l i.val = none → exec (.icArrival l i e) s = .next s) ∧
  (∀ (l : Lane) (c : Fin 3) (hi : Bool) (v : Word) (s : State), s.running l = true →
    (∀ b < 32, v.getLsbD b = true → s.icCount l c.val ((if hi then 32 else 0) + b) < 255) → Completes (.icSwset l c hi v) s fun t =>
      (∀ b < 32, t.icCount l c.val ((if hi then 32 else 0) + b) =
        s.icCount l c.val ((if hi then 32 else 0) + b) + if v.getLsbD b then 1 else 0) ∧
      (∀ b < 32, t.icCount l c.val ((if hi then 0 else 32) + b) = s.icCount l c.val ((if hi then 0 else 32) + b)) ∧
      t.regs = s.regs ∧ t.mem = s.mem ∧ t.evq = s.evq ∧ t.sk = s.sk) ∧
  (∀ (l : Lane) (c : Fin 3) (q : Fin 448) (s : State), s.running l = true → s.icLive l c.val q.val = true → Completes (.icSrcRead l c q) s fun t =>
      t.readData = BitVec.ofNat 32 (s.icSrcWord l c.val q.val) ∧ t.icCount l c.val q.val = 0 ∧ t.regs = s.regs ∧ t.mem = s.mem ∧
      t.evq = s.evq ∧ t.sk = s.sk) ∧
  (∀ (l : Lane) (c : Fin 3) (q : Fin 448) (s : State), s.running l = true → s.icLive l c.val q.val = false →
    Completes (.icSrcRead l c q) s fun t => t.readData = 0 ∧ t.ics = s.ics) ∧
  (∀ (l : Lane) (c : Fin 3) (q : Nat) (s : State), s.running l = true → s.icCands l c.val = [q] → Completes (.icPresent l c) s fun t =>
      t.regs = s.regs ∧ t.mem = s.mem ∧ t.evq = s.evq ∧ t.sk = s.sk ∧
      ((s.ic l).pres.lookup c.val = none → s.icRunning l c.val ≤ s.icPrio l c.val q →
        (t.ic l).pres.lookup c.val = some { p := s.icPrio l c.val q, cand := [q] }) ∧
      (s.icPrio l c.val q < s.icRunning l c.val → t.ics = s.ics)) ∧
  (∀ (l : Lane) (c : Fin 3) (q : Nat) (s : State), q ∈ s.icCands l c.val ↔ q < 448 ∧ s.icLive l c.val q = true ∧
    s.icMask l c.val q = false ∧ (s.icPend l c.val q = true ∨ s.icCount l c.val q ≠ 0)) ∧
  (∀ (l : Lane) (c : Fin 3) (p : IcPres) (s : State), s.corePaused l c.val = false → (s.ic l).pres = [(c.val, p)] → p.p < 16 →
    Completes (.icTrapEntry l c) s fun t =>
      t.fg (icB l c.val) IC.STACK_INSERV = s.fg (icB l c.val) IC.STACK_INSERV ||| 2 ^ p.p ∧
      t.fg (icB l c.val) IC.STACK_LATEMASK = s.fg (icB l c.val) IC.STACK_LATEMASK ||| (if p.late then 2 ^ p.p else 0) ∧
      (t.ic l).pres = [] ∧ SameRegistersBut s t [icB l c.val + IC.STACK_INSERV.ofs] ∧ t.mem = s.mem ∧ t.evq = s.evq ∧ t.sk = s.sk) ∧
  (∀ (l : Lane) (c : Fin 3) (v : Word) (s : State), s.running l = true → Completes (.icEoi l c v) s fun t =>
      let p := v.toNat % 16
      let n := s.fg (icB l c.val) IC.STACK_INSERV
      t.mem = s.mem ∧ t.sk = s.sk ∧
      (n ≠ 0 → n.log2 = p → t.fg (icB l c.val) IC.STACK_INSERV = n - 2 ^ p ∧
        (t.fg (icB l c.val) IC.STACK_LATEMASK).testBit p = false ∧ SameRegistersBut s t [icB l c.val + IC.STACK_INSERV.ofs] ∧
        t.evq = s.evq) ∧
      ((n = 0 ∨ n.log2 ≠ p) → t.regs = s.regs ∧ t.evq = s.evq ++ [s.stamp { coll := .lane l, src := 0x140, inst := c.val, res := resLane l }]))

/-! Self-test and crypto -/

/-- A slice starts at its slot, or is deferred with 0x152 (R498); one that fails sets its bit of BIST.FAIL, raises 0x150, and the
lane is BROKEN and held in reset (R502), a restore that differs raises 0x151 (R496), a late sweep 0x153, an enable without SLOTINT
0x154 (R510). Crypto commands start in the states of R506 or are refused with 0x162 and CODE 1, or 6 while one runs; INSTALL arms
the trial, COMMIT makes the booted bank ACTIVE, ADVANCE raises the rollback counter to the booted version, at most 64; a failed OTP
read-back also raises 0x164. -/
def Obligations.SelfTestAndCrypto : Prop :=
  (∀ (l : Lane) (n : Fin 72) (s : State), s.sweeps l = true → sliceAbsent l n.val = false → s.fb (bistB l) BIST.STATUS_ACTIVE = false →
    s.sliceDue l n.val = true → (s.sliceDefer l n.val = true → Completes (.bistSliceStart l n) s fun t =>
      t.fg (bistB l) BIST.COUNT_DEFER = min (2 ^ BIST.COUNT_DEFER.w - 1) (s.fg (bistB l) BIST.COUNT_DEFER + 1) ∧
      SameRegistersBut s t [bistB l + BIST.COUNT_DEFER.ofs] ∧ t.mem = s.mem ∧ t.sk = s.sk ∧
      t.evq = s.evq ++ [s.stamp { coll := .lane l, src := 0x152, inst := n.val, res := resLane l }]) ∧
    (s.sliceDefer l n.val = false → n.val ≠ 66 → Completes (.bistSliceStart l n) s fun t =>
      t.bistIn l n.val = true ∧ t.fg (bistB l) BIST.STATUS_SLICE = n.val ∧ t.fg (bistB l) BIST.STATUS_SET = 1 ∧
      (n.val = 41 → t.fb (cryB l) CRY.STATUS_KEYOK = false) ∧
      SameRegistersBut s t [bistB l + BIST.STATUS_SLICE.ofs, cryB l + CRY.STATUS_KEYOK.ofs] ∧ t.mem = s.mem ∧ t.evq = s.evq ∧ t.sk = s.sk)) ∧
  (∀ (l : Lane) (n : Fin 72) (s : State), (sliceAbsent l n.val = true ∨ s.sweeps l = false) → exec (.bistSliceStart l n) s = .next s) ∧
  (∀ (l : Lane) (n : Fin 72) (key : Bool) (s : State), s.running l = true → s.bistIn l n.val = true → n.val ≠ 41 → n.val ≠ 71 →
    Completes (.bistSliceEnd l n true true key) s fun t =>
      t.fb (bistB l) BIST.STATUS_ACTIVE = false ∧ SameRegistersBut s t [bistB l + BIST.STATUS_ACTIVE.ofs] ∧ t.lanes = s.lanes ∧
      t.mem = s.mem ∧ t.evq = s.evq ∧ t.sk = s.sk) ∧
  (∀ (l : Lane) (key : Bool) (s : State), s.running l = true → s.bistIn l 41 = true → Completes (.bistSliceEnd l 41 true true key) s fun t =>
      t.fb (bistB l) BIST.STATUS_ACTIVE = false ∧ t.mem = s.mem ∧ t.sk = s.sk ∧
      (key = true → t.fb (cryB l) CRY.STATUS_KEYOK = true ∧ t.evq = s.evq) ∧
      (key = false → t.evq = s.evq ++ [s.stamp { coll := .lane l, src := 0x163, res := resLane l }])) ∧
  (∀ (l : Lane) (n : Fin 72) (key : Bool) (s : State), s.running l = true → s.bistIn l n.val = true →
    Completes (.bistSliceEnd l n false true key) s fun t =>
      (t.lane l).broken = true ∧ (t.lane l).reset = true ∧ LaneEvent t l 0x150 n.val) ∧
  (∀ (l : Lane) (n : Fin 72) (key : Bool) (s : State), s.running l = true → s.bistIn l n.val = true →
    Completes (.bistSliceEnd l n true false key) s fun t =>
      (t.lane l).broken = true ∧ (t.lane l).reset = true ∧ LaneEvent t l 0x151 n.val) ∧
  (∀ (l : Lane) (u : Nat) (s : State), s.sweeps l = true → (s.lane l).sweepAt = some u → u + 2 * 72 * s.slotLen l < s.utime l →
    Completes (.bistSweepLate l) s fun t => (t.lane l).sweepAt = none ∧ t.regs = s.regs ∧ t.mem = s.mem ∧ t.sk = s.sk ∧
      t.evq = s.evq ++ [s.stamp { coll := .lane l, src := 0x153, res := resLane l }]) ∧
  (∀ (l : Lane) (v : Word) (s : State), s.running l = true → (s.lane l).locked = false → Completes (.bistEnWrite l v) s fun t =>
      t.mem = s.mem ∧ t.sk = s.sk ∧ SameRegistersBut s t [bistB l + BIST.CTRL_EN.ofs] ∧
      t.fg (bistB l) BIST.CTRL_SLOTINT = v.toNat / 2 ^ 8 % 2 ^ 8 ∧
      (v.toNat / 2 ^ 8 % 2 ^ 8 = 0 → v.getLsbD 0 = true → t.fb (bistB l) BIST.CTRL_EN = false ∧
        t.evq = s.evq ++ [s.stamp { coll := .lane l, src := 0x154, res := resLane l }]) ∧
      ((v.toNat / 2 ^ 8 % 2 ^ 8 ≠ 0 ∨ v.getLsbD 0 = false) → t.fb (bistB l) BIST.CTRL_EN = v.getLsbD 0 ∧ t.evq = s.evq)) ∧
  (∀ (l : Lane) (c : Instr) (op : Nat) (ok : Bool) (s : State), s.running l = true → (c, op, ok) ∈ [
      (.cryAttest l, 1, (s.fb (cryB l) CRY.STATUS_KEYOK || s.bistIn l 41) && s.cryArgOk l),
      (.cryInstall l, 2, s.sk.st ∈ [UState.service, .cmpDegraded, .noWitness, .safeHold, .bench] ∧ (s.lane l).trial = false),
      (.cryCommit l, 3, s.sk.st ∈ [UState.service, .bench] ∧ (s.lane l).trial = true ∧
        s.fg (cryB l) CRY.BOOTINFO_BANK ≠ (s.lane l).active),
      (Instr.cryAdvance l, 4, s.sk.st ∈ [UState.service, .bench] ∧ (s.lane l).trial = false ∧
        s.fg (cryB l) CRY.BOOTINFO_BANK = (s.lane l).active)] →
    ((s.lane l).cryOp = 0 → ok = true → Completes c s fun t =>
      (t.lane l).cryOp = op ∧ t.fg (cryB l) CRY.STATUS_STATE = 1 ∧ t.fg (cryB l) CRY.STATUS_CODE = 0 ∧
      SameRegistersBut s t [cryB l + CRY.STATUS_STATE.ofs] ∧ t.mem = s.mem ∧ t.evq = s.evq ∧ t.sk = s.sk) ∧
    ((s.lane l).cryOp = 0 → ok = false → op ≠ 1 → Completes c s fun t =>
      t.fg (cryB l) CRY.STATUS_STATE = 3 ∧ t.fg (cryB l) CRY.STATUS_CODE = 1 ∧ t.lanes = s.lanes ∧ t.mem = s.mem ∧ t.sk = s.sk ∧
      t.evq = s.evq ++ [s.stamp { coll := .lane l, src := 0x162, res := resLane l }]) ∧
    ((s.lane l).cryOp ≠ 0 → Completes c s fun t =>
      t.fg (cryB l) CRY.STATUS_STATE = 3 ∧ t.fg (cryB l) CRY.STATUS_CODE = 6 ∧ t.lanes = s.lanes ∧ t.mem = s.mem ∧ t.sk = s.sk ∧
      t.evq = s.evq ++ [s.stamp { coll := .lane l, src := 0x162, res := resLane l }])) ∧
  (∀ (l : Lane) (k : Fin 16) (g : List Byte) (s : State), s.running l = true → (s.lane l).cryOp ≠ 0 → (s.lane l).cryOp ≠ 4 → k.val ≠ 0 →
    Completes (.cryCmdDone l k g) s fun t =>
      (t.lane l).cryOp = 0 ∧ t.fg (cryB l) CRY.STATUS_STATE = 3 ∧ t.fg (cryB l) CRY.STATUS_CODE = k.val ∧ t.mem = s.mem ∧ t.sk = s.sk ∧
      t.evq = s.evq ++ s.stamp { coll := .lane l, src := 0x162, res := resLane l } ::
        (if k.val = 7 then [s.stamp { coll := .lane l, src := 0x164, res := resLane l }] else [])) ∧
  (∀ (l : Lane) (g : List Byte) (s : State), s.running l = true → Completes (.cryCmdDone l 0 g) s fun t =>
      ((s.lane l).cryOp = 0 → t = s) ∧
      ((s.lane l).cryOp ≠ 0 → (t.lane l).cryOp = 0 ∧ t.fg (cryB l) CRY.STATUS_STATE = 2 ∧ t.fg (cryB l) CRY.STATUS_CODE = 0 ∧
        t.evq = s.evq ∧ t.sk = s.sk) ∧
      ((s.lane l).cryOp = 1 → g.length = 384 → s.cryArg l + 512 ≤ 2 ^ 40 →
        t.rd32 (laneNo l) (s.cryArg l) = 1 ∧ t.rd8 (laneNo l) (s.cryArg l + 4) = BitVec.ofNat 8 (laneNo l) ∧
        (∀ i < 32, t.rd8 (laneNo l) (s.cryArg l + 0x20 + i) = s.rd8 (laneNo l) (s.cryArg l + 0x20 + i))) ∧
      ((s.lane l).cryOp = 2 → (t.lane l).trial = true ∧ (t.lane l).tries = 0 ∧ (t.lane l).active = (s.lane l).active) ∧
      ((s.lane l).cryOp = 3 → (t.lane l).active = s.fg (cryB l) CRY.BOOTINFO_BANK ∧ (t.lane l).trial = false ∧ t.mem = s.mem) ∧
      ((s.lane l).cryOp = 4 → (t.lane l).rollback = max (s.lane l).rollback (min 64 (s.fg (cryB l) CRY.BOOTINFO_VERSION)) ∧ t.mem = s.mem))

/-! Register writes -/

/-- What a write leaves in a register: RW fields take the written bits, LK ones only in an unlocked lane, a 1 clears a W1C bit, RO,
WO and RC fields keep theirs (R6, R7); the routing of interrupts and the memory controller's registers have no other effect. A
misaligned register access, or one of another width than 32 bits, raises the lane's fault and has no effect (R5); an unmapped address
and a read-only area raise 0x100 and have none (R458); a store to core SRAM is visible at once or later, whole (R464, R465), a
misaligned one is not made (R451). -/
def Obligations.RegisterWritesFollowTheAccessCodes : Prop :=
  (∀ (n : Fin 3) (a : Nat) (r : RegRow) (f : FieldRow) (w v : Word) (k : Bool), rowAt n.val a = some r → f ∈ r.fields →
    (f.acc = .rw → (rowWrite r k w v).toNat / 2 ^ f.lo % 2 ^ f.w = if f.lk && k then w.toNat / 2 ^ f.lo % 2 ^ f.w else v.toNat / 2 ^ f.lo % 2 ^ f.w) ∧
    (f.acc = .w1c → ∀ b < f.w, (rowWrite r k w v).getLsbD (f.lo + b) = (w.getLsbD (f.lo + b) && !v.getLsbD (f.lo + b))) ∧
    ((f.acc = .ro ∨ f.acc = .wo ∨ f.acc = .rc) → (rowWrite r k w v).toNat / 2 ^ f.lo % 2 ^ f.w = w.toNat / 2 ^ f.lo % 2 ^ f.w)) ∧
  (∀ (l : Lane) (a : BitVec 40) (v : Word) (r : RegRow) (s : State), s.running l = true → (s.lane l).stores = [] →
    (0x40508000 ≤ a.toNat ∧ a.toNat < 0x40508600 ∨ 0x40d00000 ≤ a.toNat ∧ a.toNat < 0x40d00014) → a.toNat % 4 = 0 →
    rowAt (laneNo l) a.toNat = some r → Completes (.registerWrite l a v) s fun t =>
      t.reg (key (laneNo l) a.toNat) = rowWrite r (s.lane l).locked (s.reg (key (laneNo l) a.toNat)) v ∧
      SameRegistersBut s t [key (laneNo l) a.toNat] ∧ t.mem = s.mem ∧ t.evq = s.evq ∧ t.sk = s.sk) ∧
  (∀ (l : Lane) (a : BitVec 40) (v hi : Word) (size : Fin 4) (s : State), s.running l = true → (s.lane l).stores = [] →
    inRegRegion a.toNat = true → (a.toNat % 4 ≠ 0 ∨ size ≠ 2) → Completes (.registerWrite l a v size hi) s
      (Raises s { coll := .lane l, src := 0x10, res := resLane l })) ∧
  (∀ (l : Lane) (a : BitVec 40) (v : Word) (s : State), s.running l = true → (s.lane l).stores = [] →
    (mapped (laneNo l) a.toNat = false ∧ (inRegRegion a.toNat = true → a.toNat % 4 = 0) ∨ a.toNat % 4 = 0 ∧ (a.toNat < 0x40000 ∨
      0x13fc0000 ≤ a.toNat ∧ a.toNat < 0x13fffffc ∨ 0x210f8000 ≤ a.toNat ∧ a.toNat < 0x210ffffc)) →
    Completes (.registerWrite l a v) s (Raises s { coll := .lane l, src := 0x100, res := resLane l, detail := a.toNat % 2 ^ 32 })) ∧
  (∀ (l : Lane) (a : BitVec 40) (v : Word) (s : State), s.running l = true → (s.lane l).stores = [] →
    0x20000000 ≤ a.toNat → a.toNat + 4 ≤ 0x20200000 → Completes (.registerWrite l a v) s fun t =>
      t.regs = s.regs ∧ t.evq = s.evq ∧ t.sk = s.sk ∧
      (a.toNat % 4 ≠ 0 → t.mem = s.mem ∧ (t.lane l).stores = []) ∧
      (a.toNat % 4 = 0 → ((t.lane l).stores = [(a.toNat, natLe 4 v.toNat)] ∧ t.mem = s.mem) ∨
        ((t.lane l).stores = [] ∧ t.rd32 (laneNo l) a.toNat = v ∧
          ∀ n b, b < 2 ^ 40 → ¬ (n = laneNo l ∧ a.toNat ≤ b ∧ b < a.toNat + 4) → t.rd8 n b = s.rd8 n b)))
end

