-- ==== Sys2Proof/Laws/Dispatch.lean ====
section
/-! SUPPORT. One equation per command: `exec` on it is its meaning. Proofs rewrite with these and never unfold the dispatch. -/

namespace Sys2Proof.Machine

open Sys2Proof

@[simp] theorem exec_feedStart (s : State) (f : DLane) : exec (.feedStart f) s = execFeedStart f s := rfl
@[simp] theorem exec_feedValidLost (s : State) (f : DLane) : exec (.feedValidLost f) s = execFeedValidLost f s := rfl
@[simp] theorem exec_feedsBelowReset (s : State) : exec (.feedsBelowReset) s = execFeedsBelowReset s := rfl
@[simp] theorem exec_laneResetRelease (s : State) (l : Lane) (rail : Fin 7) (vhibLow : Bool) : exec (.laneResetRelease l rail vhibLow) s = execLaneResetRelease l rail vhibLow s := rfl
@[simp] theorem exec_railFaultReset (s : State) (l : Lane) (rail : Fin 7) : exec (.railFaultReset l rail) s = execRailFaultReset l rail s := rfl
@[simp] theorem exec_imageCheckDone (s : State) (l : Lane) (accepted : Bool) (version : Fin 65) (keySlot : Fin 4) (cfgDigest : BitVec 256) (headerDigest : BitVec 256) : exec (.imageCheckDone l accepted version keySlot cfgDigest headerDigest) s = execImageCheckDone l accepted version keySlot cfgDigest headerDigest s := rfl
@[simp] theorem exec_logScanDone (s : State) (l : Lane) : exec (.logScanDone l) s = execLogScanDone l s := rfl
@[simp] theorem exec_startIncomplete (s : State) : exec (.startIncomplete) s = execStartIncomplete s := rfl
@[simp] theorem exec_chorusTimeout (s : State) : exec (.chorusTimeout) s = execChorusTimeout s := rfl
@[simp] theorem exec_chorusCmpTestDone (s : State) (pass : Bool) : exec (.chorusCmpTestDone pass) s = execChorusCmpTestDone pass s := rfl
@[simp] theorem exec_startSweepDone (s : State) (l : Lane) (failed : List (Fin 72)) : exec (.startSweepDone l failed) s = execStartSweepDone l failed s := rfl
@[simp] theorem exec_cfgStartWrite (s : State) (l : Lane) (v : Word) : exec (.cfgStartWrite l v) s = execCfgStartWrite l v s := rfl
@[simp] theorem exec_cfgDataWrite (s : State) (l : Lane) (v : Word) : exec (.cfgDataWrite l v) s = execCfgDataWrite l v s := rfl
@[simp] theorem exec_digestWrite (s : State) (l : Lane) (n : Fin 8) (v : Word) : exec (.digestWrite l n v) s = execDigestWrite l n v s := rfl
@[simp] theorem exec_cfgHashDone (s : State) : exec (.cfgHashDone) s = execCfgHashDone s := rfl
@[simp] theorem exec_regParityError (s : State) : exec (.regParityError) s = execRegParityError s := rfl
@[simp] theorem exec_beacon (s : State) (periodA periodB periodW : Nat) (slipped : List (DLane × Fin 6)) : exec (.beacon periodA periodB periodW slipped) s = execBeacon periodA periodB periodW slipped s := rfl
@[simp] theorem exec_wakePin (s : State) (n : Fin 4) : exec (.wakePin n) s = execWakePin n s := rfl
@[simp] theorem exec_rtcAlarm (s : State) : exec (.rtcAlarm) s = execRtcAlarm s := rfl
@[simp] theorem exec_hibFeedSample (s : State) (belowA belowB : Bool) : exec (.hibFeedSample belowA belowB) s = execHibFeedSample belowA belowB s := rfl
@[simp] theorem exec_vorLow (s : State) : exec (.vorLow) s = execVorLow s := rfl
@[simp] theorem exec_hibPowerOnReset (s : State) : exec (.hibPowerOnReset) s = execHibPowerOnReset s := rfl
@[simp] theorem exec_temperatureThreshold (s : State) (l : Lane) (t : Int) : exec (.temperatureThreshold l t) s = execTemperatureThreshold l t s := rfl
@[simp] theorem exec_dramFillDone (s : State) (l : Lane) : exec (.dramFillDone l) s = execDramFillDone l s := rfl
@[simp] theorem exec_scrubRead (s : State) (l : Lane) : exec (.scrubRead l) s = execScrubRead l s := rfl
@[simp] theorem exec_memoryEccError (s : State) (l : Lane) (m : EccMem) (addr : Nat) (uncorrectable : Bool) : exec (.memoryEccError l m addr uncorrectable) s = execMemoryEccError l m addr uncorrectable s := rfl
@[simp] theorem exec_inputRecordPost (s : State) (l : Lane) (contacts : BitVec 32) : exec (.inputRecordPost l contacts) s = execInputRecordPost l contacts s := rfl
@[simp] theorem exec_exchRecordReceive (s : State) (l : Lane) (skinkClocks : Nat) : exec (.exchRecordReceive l skinkClocks) s = execExchRecordReceive l skinkClocks s := rfl
@[simp] theorem exec_exchDeadline (s : State) : exec (.exchDeadline) s = execExchDeadline s := rfl
@[simp] theorem exec_exchAbsentRun (s : State) (l : Lane) : exec (.exchAbsentRun l) s = execExchAbsentRun l s := rfl
@[simp] theorem exec_vectorReady (s : State) (l : Lane) : exec (.vectorReady l) s = execVectorReady l s := rfl
@[simp] theorem exec_siViewDiff (s : State) (l : Lane) (i : Fin 16) : exec (.siViewDiff l i) s = execSiViewDiff l i s := rfl
@[simp] theorem exec_triggerFire (s : State) (l : Lane) (src : Fin 64) : exec (.triggerFire l src) s = execTriggerFire l src s := rfl
@[simp] theorem exec_pendingTriggerStart (s : State) (l : Lane) (src : Fin 64) : exec (.pendingTriggerStart l src) s = execPendingTriggerStart l src s := rfl
@[simp] theorem exec_jobStallEnd (s : State) (l : Lane) (j : Fin 256) : exec (.jobStallEnd l j) s = execJobStallEnd l j s := rfl
@[simp] theorem exec_holdDone (s : State) (l : Lane) (j : Fin 256) : exec (.holdDone l j) s = execHoldDone l j s := rfl
@[simp] theorem exec_jobEndComplete (s : State) (l : Lane) (j : Fin 256) : exec (.jobEndComplete l j) s = execJobEndComplete l j s := rfl
@[simp] theorem exec_jobBudgetExpiry (s : State) (l : Lane) (j : Fin 256) : exec (.jobBudgetExpiry l j) s = execJobBudgetExpiry l j s := rfl
@[simp] theorem exec_doorbellWrite (s : State) (l : Lane) (v : Word) : exec (.doorbellWrite l v) s = execDoorbellWrite l v s := rfl
@[simp] theorem exec_cqHiRead (s : State) (l : Lane) : exec (.cqHiRead l) s = execCqHiRead l s := rfl
@[simp] theorem exec_laneTimerExpiry (s : State) (l : Lane) (n : Fin 16) : exec (.laneTimerExpiry l n) s = execLaneTimerExpiry l n s := rfl
@[simp] theorem exec_machineTimer (s : State) (l : Lane) (core : Fin 3) : exec (.machineTimer l core) s = execMachineTimer l core s := rfl
@[simp] theorem exec_nop (s : State) (l : Lane) (j : Fin 256) (w : DWord) : exec (.nop l j w) s = execNop l j w s := rfl
@[simp] theorem exec_end_ (s : State) (l : Lane) (j : Fin 256) (w : DWord) : exec (.end_ l j w) s = execEnd l j w s := rfl
@[simp] theorem exec_wait (s : State) (l : Lane) (j : Fin 256) (w : DWord) : exec (.wait l j w) s = execWait l j w s := rfl
@[simp] theorem exec_spawn (s : State) (l : Lane) (j : Fin 256) (w : DWord) : exec (.spawn l j w) s = execSpawn l j w s := rfl
@[simp] theorem exec_spawnArg (s : State) (l : Lane) (j : Fin 256) (w : DWord) : exec (.spawnArg l j w) s = execSpawnArg l j w s := rfl
@[simp] theorem exec_holdL (s : State) (l : Lane) (j : Fin 256) (w : DWord) : exec (.holdL l j w) s = execHoldL l j w s := rfl
@[simp] theorem exec_holdO (s : State) (l : Lane) (j : Fin 256) (w : DWord) : exec (.holdO l j w) s = execHoldO l j w s := rfl
@[simp] theorem exec_holdA (s : State) (l : Lane) (j : Fin 256) (w : DWord) : exec (.holdA l j w) s = execHoldA l j w s := rfl
@[simp] theorem exec_timeJ (s : State) (l : Lane) (j : Fin 256) (w : DWord) : exec (.timeJ l j w) s = execTimeJ l j w s := rfl
@[simp] theorem exec_timeL (s : State) (l : Lane) (j : Fin 256) (w : DWord) : exec (.timeL l j w) s = execTimeL l j w s := rfl
@[simp] theorem exec_timeH (s : State) (l : Lane) (j : Fin 256) (w : DWord) : exec (.timeH l j w) s = execTimeH l j w s := rfl
@[simp] theorem exec_brT (s : State) (l : Lane) (j : Fin 256) (w : DWord) : exec (.brT l j w) s = execBrT l j w s := rfl
@[simp] theorem exec_brF (s : State) (l : Lane) (j : Fin 256) (w : DWord) : exec (.brF l j w) s = execBrF l j w s := rfl
@[simp] theorem exec_jmp (s : State) (l : Lane) (j : Fin 256) (w : DWord) : exec (.jmp l j w) s = execJmp l j w s := rfl
@[simp] theorem exec_psetCc (s : State) (l : Lane) (j : Fin 256) (w : DWord) : exec (.psetCc l j w) s = execPsetCc l j w s := rfl
@[simp] theorem exec_psetCcz (s : State) (l : Lane) (j : Fin 256) (w : DWord) : exec (.psetCcz l j w) s = execPsetCcz l j w s := rfl
@[simp] theorem exec_psetaCc (s : State) (l : Lane) (j : Fin 256) (w : DWord) : exec (.psetaCc l j w) s = execPsetaCc l j w s := rfl
@[simp] theorem exec_psetaCcu (s : State) (l : Lane) (j : Fin 256) (w : DWord) : exec (.psetaCcu l j w) s = execPsetaCcu l j w s := rfl
@[simp] theorem exec_plog (s : State) (l : Lane) (j : Fin 256) (w : DWord) : exec (.plog l j w) s = execPlog l j w s := rfl
@[simp] theorem exec_ldb (s : State) (l : Lane) (j : Fin 256) (w : DWord) : exec (.ldb l j w) s = execLdb l j w s := rfl
@[simp] theorem exec_stb (s : State) (l : Lane) (j : Fin 256) (w : DWord) : exec (.stb l j w) s = execStb l j w s := rfl
@[simp] theorem exec_lda (s : State) (l : Lane) (j : Fin 256) (w : DWord) : exec (.lda l j w) s = execLda l j w s := rfl
@[simp] theorem exec_sta (s : State) (l : Lane) (j : Fin 256) (w : DWord) : exec (.sta l j w) s = execSta l j w s := rfl
@[simp] theorem exec_aopAddi (s : State) (l : Lane) (j : Fin 256) (w : DWord) : exec (.aopAddi l j w) s = execAopAddi l j w s := rfl
@[simp] theorem exec_aopAdd (s : State) (l : Lane) (j : Fin 256) (w : DWord) : exec (.aopAdd l j w) s = execAopAdd l j w s := rfl
@[simp] theorem exec_aopSub (s : State) (l : Lane) (j : Fin 256) (w : DWord) : exec (.aopSub l j w) s = execAopSub l j w s := rfl
@[simp] theorem exec_aopSet (s : State) (l : Lane) (j : Fin 256) (w : DWord) : exec (.aopSet l j w) s = execAopSet l j w s := rfl
@[simp] theorem exec_aopAndi (s : State) (l : Lane) (j : Fin 256) (w : DWord) : exec (.aopAndi l j w) s = execAopAndi l j w s := rfl
@[simp] theorem exec_aopShl (s : State) (l : Lane) (j : Fin 256) (w : DWord) : exec (.aopShl l j w) s = execAopShl l j w s := rfl
@[simp] theorem exec_aopSar (s : State) (l : Lane) (j : Fin 256) (w : DWord) : exec (.aopSar l j w) s = execAopSar l j w s := rfl
@[simp] theorem exec_in_ (s : State) (l : Lane) (j : Fin 256) (w : DWord) : exec (.in_ l j w) s = execIn l j w s := rfl
@[simp] theorem exec_out (s : State) (l : Lane) (j : Fin 256) (w : DWord) : exec (.out l j w) s = execOut l j w s := rfl
@[simp] theorem exec_badd (s : State) (l : Lane) (j : Fin 256) (w : DWord) : exec (.badd l j w) s = execBadd l j w s := rfl
@[simp] theorem exec_bsub (s : State) (l : Lane) (j : Fin 256) (w : DWord) : exec (.bsub l j w) s = execBsub l j w s := rfl
@[simp] theorem exec_bmul (s : State) (l : Lane) (j : Fin 256) (w : DWord) : exec (.bmul l j w) s = execBmul l j w s := rfl
@[simp] theorem exec_bmac (s : State) (l : Lane) (j : Fin 256) (w : DWord) : exec (.bmac l j w) s = execBmac l j w s := rfl
@[simp] theorem exec_bmsu (s : State) (l : Lane) (j : Fin 256) (w : DWord) : exec (.bmsu l j w) s = execBmsu l j w s := rfl
@[simp] theorem exec_bdot (s : State) (l : Lane) (j : Fin 256) (w : DWord) : exec (.bdot l j w) s = execBdot l j w s := rfl
@[simp] theorem exec_bsum (s : State) (l : Lane) (j : Fin 256) (w : DWord) : exec (.bsum l j w) s = execBsum l j w s := rfl
@[simp] theorem exec_bmaxr (s : State) (l : Lane) (j : Fin 256) (w : DWord) : exec (.bmaxr l j w) s = execBmaxr l j w s := rfl
@[simp] theorem exec_bneg (s : State) (l : Lane) (j : Fin 256) (w : DWord) : exec (.bneg l j w) s = execBneg l j w s := rfl
@[simp] theorem exec_babs (s : State) (l : Lane) (j : Fin 256) (w : DWord) : exec (.babs l j w) s = execBabs l j w s := rfl
@[simp] theorem exec_bmin (s : State) (l : Lane) (j : Fin 256) (w : DWord) : exec (.bmin l j w) s = execBmin l j w s := rfl
@[simp] theorem exec_bmax (s : State) (l : Lane) (j : Fin 256) (w : DWord) : exec (.bmax l j w) s = execBmax l j w s := rfl
@[simp] theorem exec_bclamp (s : State) (l : Lane) (j : Fin 256) (w : DWord) : exec (.bclamp l j w) s = execBclamp l j w s := rfl
@[simp] theorem exec_blerp (s : State) (l : Lane) (j : Fin 256) (w : DWord) : exec (.blerp l j w) s = execBlerp l j w s := rfl
@[simp] theorem exec_brcp (s : State) (l : Lane) (j : Fin 256) (w : DWord) : exec (.brcp l j w) s = execBrcp l j w s := rfl
@[simp] theorem exec_brsq (s : State) (l : Lane) (j : Fin 256) (w : DWord) : exec (.brsq l j w) s = execBrsq l j w s := rfl
@[simp] theorem exec_bnorm (s : State) (l : Lane) (j : Fin 256) (w : DWord) : exec (.bnorm l j w) s = execBnorm l j w s := rfl
@[simp] theorem exec_bexpE (s : State) (l : Lane) (j : Fin 256) (w : DWord) : exec (.bexpE l j w) s = execBexpE l j w s := rfl
@[simp] theorem exec_bexpC (s : State) (l : Lane) (j : Fin 256) (w : DWord) : exec (.bexpC l j w) s = execBexpC l j w s := rfl
@[simp] theorem exec_bexpS (s : State) (l : Lane) (j : Fin 256) (w : DWord) : exec (.bexpS l j w) s = execBexpS l j w s := rfl
@[simp] theorem exec_bperm (s : State) (l : Lane) (j : Fin 256) (w : DWord) : exec (.bperm l j w) s = execBperm l j w s := rfl
@[simp] theorem exec_bsplat (s : State) (l : Lane) (j : Fin 256) (w : DWord) : exec (.bsplat l j w) s = execBsplat l j w s := rfl
@[simp] theorem exec_bpick (s : State) (l : Lane) (j : Fin 256) (w : DWord) : exec (.bpick l j w) s = execBpick l j w s := rfl
@[simp] theorem exec_bins (s : State) (l : Lane) (j : Fin 256) (w : DWord) : exec (.bins l j w) s = execBins l j w s := rfl
@[simp] theorem exec_bsetc (s : State) (l : Lane) (j : Fin 256) (w : DWord) : exec (.bsetc l j w) s = execBsetc l j w s := rfl
@[simp] theorem exec_bsel (s : State) (l : Lane) (j : Fin 256) (w : DWord) : exec (.bsel l j w) s = execBsel l j w s := rfl
@[simp] theorem exec_bclarke (s : State) (l : Lane) (j : Fin 256) (w : DWord) : exec (.bclarke l j w) s = execBclarke l j w s := rfl
@[simp] theorem exec_bclarke2 (s : State) (l : Lane) (j : Fin 256) (w : DWord) : exec (.bclarke2 l j w) s = execBclarke2 l j w s := rfl
@[simp] theorem exec_bpark (s : State) (l : Lane) (j : Fin 256) (w : DWord) : exec (.bpark l j w) s = execBpark l j w s := rfl
@[simp] theorem exec_bipark (s : State) (l : Lane) (j : Fin 256) (w : DWord) : exec (.bipark l j w) s = execBipark l j w s := rfl
@[simp] theorem exec_bsvm (s : State) (l : Lane) (j : Fin 256) (w : DWord) : exec (.bsvm l j w) s = execBsvm l j w s := rfl
@[simp] theorem exec_bsincos (s : State) (l : Lane) (j : Fin 256) (w : DWord) : exec (.bsincos l j w) s = execBsincos l j w s := rfl
@[simp] theorem exec_batan2 (s : State) (l : Lane) (j : Fin 256) (w : DWord) : exec (.batan2 l j w) s = execBatan2 l j w s := rfl
@[simp] theorem exec_tlu (s : State) (l : Lane) (j : Fin 256) (w : DWord) : exec (.tlu l j w) s = execTlu l j w s := rfl
@[simp] theorem exec_tluA (s : State) (l : Lane) (j : Fin 256) (w : DWord) : exec (.tluA l j w) s = execTluA l j w s := rfl
@[simp] theorem exec_bint (s : State) (l : Lane) (j : Fin 256) (w : DWord) : exec (.bint l j w) s = execBint l j w s := rfl
@[simp] theorem exec_bintLu (s : State) (l : Lane) (j : Fin 256) (w : DWord) : exec (.bintLu l j w) s = execBintLu l j w s := rfl
@[simp] theorem exec_bfixW (s : State) (l : Lane) (j : Fin 256) (w : DWord) : exec (.bfixW l j w) s = execBfixW l j w s := rfl
@[simp] theorem exec_bfixD (s : State) (l : Lane) (j : Fin 256) (w : DWord) : exec (.bfixD l j w) s = execBfixD l j w s := rfl
@[simp] theorem exec_bfltW (s : State) (l : Lane) (j : Fin 256) (w : DWord) : exec (.bfltW l j w) s = execBfltW l j w s := rfl
@[simp] theorem exec_bfltD (s : State) (l : Lane) (j : Fin 256) (w : DWord) : exec (.bfltD l j w) s = execBfltD l j w s := rfl
@[simp] theorem exec_bfltA (s : State) (l : Lane) (j : Fin 256) (w : DWord) : exec (.bfltA l j w) s = execBfltA l j w s := rfl
@[simp] theorem exec_bconst (s : State) (l : Lane) (j : Fin 256) (w : DWord) : exec (.bconst l j w) s = execBconst l j w s := rfl
@[simp] theorem exec_axisRecordApply (s : State) (l : DLane) (n : Fin 6) : exec (.axisRecordApply l n) s = execAxisRecordApply l n s := rfl
@[simp] theorem exec_pwmCompareEvent (s : State) (l : DLane) (n : Fin 8) (ph : Fin 3) (rising : Bool) (c : Nat) (forming : Bool) : exec (.pwmCompareEvent l n ph rising c forming) s = execPwmCompareEvent l n ph rising c forming s := rfl
@[simp] theorem exec_driveUpdate (s : State) (l : DLane) (n : Fin 6) (centre : Bool) (ru rv rw : Int) (vbus : Nat × Nat) : exec (.driveUpdate l n centre ru rv rw vbus) s = execDriveUpdate l n centre ru rv rw vbus s := rfl
@[simp] theorem exec_peakTrip (s : State) (l : DLane) (n : Fin 6) (ph : Fin 3) (rising : Bool) (c : Nat) (uv : Nat) : exec (.peakTrip l n ph rising c uv) s = execPeakTrip l n ph rising c uv s := rfl
@[simp] theorem exec_axOvercurrent (s : State) (l : DLane) (n : Fin 6) : exec (.axOvercurrent l n) s = execAxOvercurrent l n s := rfl
@[simp] theorem exec_axSatLong (s : State) (l : DLane) (n : Fin 6) : exec (.axSatLong l n) s = execAxSatLong l n s := rfl
@[simp] theorem exec_axSenseRange (s : State) (l : DLane) (n : Fin 6) : exec (.axSenseRange l n) s = execAxSenseRange l n s := rfl
@[simp] theorem exec_axRecTimeout (s : State) (l : DLane) (n : Fin 6) : exec (.axRecTimeout l n) s = execAxRecTimeout l n s := rfl
@[simp] theorem exec_quadEdge (s : State) (l : DLane) (n : Fin 6) (both up : Bool) (clock : Nat) : exec (.quadEdge l n both up clock) s = execQuadEdge l n both up clock s := rfl
@[simp] theorem exec_indexPulse (s : State) (l : DLane) (n : Fin 6) (ba : Fin 4) (rested : Bool) : exec (.indexPulse l n ba rested) s = execIndexPulse l n ba rested s := rfl
@[simp] theorem exec_fbIndexMissing (s : State) (l : DLane) (n : Fin 6) : exec (.fbIndexMissing l n) s = execFbIndexMissing l n s := rfl
@[simp] theorem exec_hallChange (s : State) (l : DLane) (n : Fin 6) (code : Fin 8) : exec (.hallChange l n code) s = execHallChange l n code s := rfl
@[simp] theorem exec_fbSamplePoint (s : State) (l : DLane) (n : Fin 6) (atBeacon : Bool) (clock : Nat) : exec (.fbSamplePoint l n atBeacon clock) s = execFbSamplePoint l n atBeacon clock s := rfl
@[simp] theorem exec_ssiReadDone (s : State) (l : DLane) (n : Fin 6) (lineOk : Bool) (data : Word) (status : BitVec 4) : exec (.ssiReadDone l n lineOk data status) s = execSsiReadDone l n lineOk data status s := rfl
@[simp] theorem exec_sentFrame (s : State) (l : DLane) (n : Fin 6) (f : SentIn) (clock : Nat) : exec (.sentFrame l n f clock) s = execSentFrame l n f clock s := rfl
@[simp] theorem exec_fbSerialLost (s : State) (l : DLane) (n : Fin 6) : exec (.fbSerialLost l n) s = execFbSerialLost l n s := rfl
@[simp] theorem exec_homeWrite (s : State) (l : DLane) (n : Fin 6) : exec (.homeWrite l n) s = execHomeWrite l n s := rfl
@[simp] theorem exec_homecancelWrite (s : State) (l : DLane) (n : Fin 6) : exec (.homecancelWrite l n) s = execHomecancelWrite l n s := rfl
@[simp] theorem exec_homeComplete (s : State) (l : DLane) (n : Fin 6) : exec (.homeComplete l n) s = execHomeComplete l n s := rfl
@[simp] theorem exec_homeDrop (s : State) (l : DLane) (n : Fin 6) : exec (.homeDrop l n) s = execHomeDrop l n s := rfl
@[simp] theorem exec_compareArm (s : State) (l : DLane) (n : Fin 6) (j : Fin 8) (v : Word) : exec (.compareArm l n j v) s = execCompareArm l n j v s := rfl
@[simp] theorem exec_retentionCheckDone (s : State) (l : DLane) (n : Fin 6) : exec (.retentionCheckDone l n) s = execRetentionCheckDone l n s := rfl
@[simp] theorem exec_pgStep (s : State) (l : DLane) (n : Fin 6) : exec (.pgStep l n) s = execPgStep l n s := rfl
@[simp] theorem exec_pgMoveCmd (s : State) (l : DLane) (n : Fin 6) : exec (.pgMoveCmd l n) s = execPgMoveCmd l n s := rfl
@[simp] theorem exec_pgVelocityCmd (s : State) (l : DLane) (n : Fin 6) : exec (.pgVelocityCmd l n) s = execPgVelocityCmd l n s := rfl
@[simp] theorem exec_pgStopCmd (s : State) (l : DLane) (n : Fin 6) : exec (.pgStopCmd l n) s = execPgStopCmd l n s := rfl
@[simp] theorem exec_pgGearCmd (s : State) (l : DLane) (n : Fin 6) : exec (.pgGearCmd l n) s = execPgGearCmd l n s := rfl
@[simp] theorem exec_pgCancelCmd (s : State) (l : DLane) (n : Fin 6) : exec (.pgCancelCmd l n) s = execPgCancelCmd l n s := rfl
@[simp] theorem exec_calStartDone (s : State) (l : DLane) (n : Fin 6) (zero ref : List (List Int)) : exec (.calStartDone l n zero ref) s = execCalStartDone l n zero ref s := rfl
@[simp] theorem exec_calRefDone (s : State) (l : DLane) (n : Fin 6) (zero ref : List Int) : exec (.calRefDone l n zero ref) s = execCalRefDone l n zero ref s := rfl
@[simp] theorem exec_calConnect (s : State) (l : DLane) (n : Fin 6) : exec (.calConnect l n) s = execCalConnect l n s := rfl
@[simp] theorem exec_calOverlapDone (s : State) (l : DLane) (n : Fin 6) (rl ru : List Int) : exec (.calOverlapDone l n rl ru) s = execCalOverlapDone l n rl ru s := rfl
@[simp] theorem exec_calSwitch (s : State) (l : DLane) (n : Fin 6) : exec (.calSwitch l n) s = execCalSwitch l n s := rfl
@[simp] theorem exec_bemfTrimBit (s : State) (l : DLane) (p : Fin 2) (ph : Fin 3) (high : Bool) : exec (.bemfTrimBit l p ph high) s = execBemfTrimBit l p ph high s := rfl
@[simp] theorem exec_calBemfStale (s : State) (l : DLane) (p : Fin 2) (ph : Fin 3) : exec (.calBemfStale l p ph) s = execCalBemfStale l p ph s := rfl
@[simp] theorem exec_pumpRecordApply (s : State) (l : DLane) (p : Fin 2) : exec (.pumpRecordApply l p) s = execPumpRecordApply l p s := rfl
@[simp] theorem exec_pumpZcSample (s : State) (l : DLane) (p : Fin 2) (ph : Fin 3) (high : Bool) (t : Nat) (epk : Nat) (vbus : Nat × Nat) : exec (.pumpZcSample l p ph high t epk vbus) s = execPumpZcSample l p ph high t epk vbus s := rfl
@[simp] theorem exec_pumpCommutate (s : State) (l : DLane) (p : Fin 2) (t : Nat) : exec (.pumpCommutate l p t) s = execPumpCommutate l p t s := rfl
@[simp] theorem exec_pumpPiUpdate (s : State) (l : DLane) (p : Fin 2) (vbus : Nat × Nat) : exec (.pumpPiUpdate l p vbus) s = execPumpPiUpdate l p vbus s := rfl
@[simp] theorem exec_pumpIlimTrip (s : State) (l : DLane) (p : Fin 2) (rising : Bool) (c : Nat) (uv : Nat) : exec (.pumpIlimTrip l p rising c uv) s = execPumpIlimTrip l p rising c uv s := rfl
@[simp] theorem exec_ppIlimLong (s : State) (l : DLane) (p : Fin 2) : exec (.ppIlimLong l p) s = execPpIlimLong l p s := rfl
@[simp] theorem exec_ppBusHold (s : State) (l : DLane) (p : Fin 2) : exec (.ppBusHold l p) s = execPpBusHold l p s := rfl
@[simp] theorem exec_pumpCatchTimeout (s : State) (l : DLane) (p : Fin 2) : exec (.pumpCatchTimeout l p) s = execPumpCatchTimeout l p s := rfl
@[simp] theorem exec_pumpAlignEnd (s : State) (l : DLane) (p : Fin 2) (t : Nat) : exec (.pumpAlignEnd l p t) s = execPumpAlignEnd l p t s := rfl
@[simp] theorem exec_pumpStartTimeout (s : State) (l : DLane) (p : Fin 2) : exec (.pumpStartTimeout l p) s = execPumpStartTimeout l p s := rfl
@[simp] theorem exec_pumpCoastEnd (s : State) (l : DLane) (p : Fin 2) : exec (.pumpCoastEnd l p) s = execPumpCoastEnd l p s := rfl
@[simp] theorem exec_pumpBrakeEnd (s : State) (l : DLane) (p : Fin 2) : exec (.pumpBrakeEnd l p) s = execPumpBrakeEnd l p s := rfl
@[simp] theorem exec_ppRecTimeout (s : State) (l : DLane) (p : Fin 2) : exec (.ppRecTimeout l p) s = execPpRecTimeout l p s := rfl
@[simp] theorem exec_pumpStopped (s : State) (l : DLane) (p : Fin 2) : exec (.pumpStopped l p) s = execPumpStopped l p s := rfl
@[simp] theorem exec_cellShort (s : State) (l : DLane) (c : Fin 24) (hs : Bool) : exec (.cellShort l c hs) s = execCellShort l c hs s := rfl
@[simp] theorem exec_pcGateStuck (s : State) (l : DLane) (c : Fin 24) (hs : Bool) : exec (.pcGateStuck l c hs) s = execPcGateStuck l c hs s := rfl
@[simp] theorem exec_pcVgdUvlo (s : State) (l : DLane) : exec (.pcVgdUvlo l) s = execPcVgdUvlo l s := rfl
@[simp] theorem exec_cellUvlo (s : State) (l : DLane) (c : Fin 24) (hs : Bool) : exec (.cellUvlo l c hs) s = execCellUvlo l c hs s := rfl
@[simp] theorem exec_uvloRecover (s : State) (l : DLane) (sw : Option (Fin 24 × Bool)) : exec (.uvloRecover l sw) s = execUvloRecover l sw s := rfl
@[simp] theorem exec_pcCpLimit (s : State) (l : DLane) : exec (.pcCpLimit l) s = execPcCpLimit l s := rfl
@[simp] theorem exec_edgeMeasure (s : State) (l : DLane) (c : Fin 24) (hs : Bool) (ns : Nat) : exec (.edgeMeasure l c hs ns) s = execEdgeMeasure l c hs ns s := rfl
@[simp] theorem exec_pcAdaptLimit (s : State) (l : DLane) (c : Fin 24) : exec (.pcAdaptLimit l c) s = execPcAdaptLimit l c s := rfl
@[simp] theorem exec_cmpRecordArrive (s : State) (l : DLane) (xFault yFault : Bool) : exec (.cmpRecordArrive l xFault yFault) s = execCmpRecordArrive l xFault yFault s := rfl
@[simp] theorem exec_cmpWindowClose (s : State) (tag : BitVec 16) (kind : Nat) (index : Nat) (xFault yFault : Bool) : exec (.cmpWindowClose tag kind index xFault yFault) s = execCmpWindowClose tag kind index xFault yFault s := rfl
@[simp] theorem exec_cmpDlyFault (s : State) : exec (.cmpDlyFault) s = execCmpDlyFault s := rfl
@[simp] theorem exec_cmpInjNoRecord (s : State) : exec (.cmpInjNoRecord) s = execCmpInjNoRecord s := rfl
@[simp] theorem exec_voteRecordStore (s : State) : exec (.voteRecordStore) s = execVoteRecordStore s := rfl
@[simp] theorem exec_targetedTestDone (s : State) (l : DLane) (failed : List (Fin 72)) : exec (.targetedTestDone l failed) s = execTargetedTestDone l failed s := rfl
@[simp] theorem exec_ckptGo (s : State) (l : Lane) (v : Word) : exec (.ckptGo l v) s = execCkptGo l v s := rfl
@[simp] theorem exec_ckptXfer (s : State) (l : Lane) (v : Word) : exec (.ckptXfer l v) s = execCkptXfer l v s := rfl
@[simp] theorem exec_ckptSignaturePost (s : State) (l : Lane) : exec (.ckptSignaturePost l) s = execCkptSignaturePost l s := rfl
@[simp] theorem exec_ckptDeadline (s : State) : exec (.ckptDeadline) s = execCkptDeadline s := rfl
@[simp] theorem exec_verdictWrite (s : State) (l : Lane) (v : Word) : exec (.verdictWrite l v) s = execVerdictWrite l v s := rfl
@[simp] theorem exec_axolotlTimeout (s : State) : exec (.axolotlTimeout) s = execAxolotlTimeout s := rfl
@[simp] theorem exec_xfermaxExpiry (s : State) : exec (.xfermaxExpiry) s = execXfermaxExpiry s := rfl
@[simp] theorem exec_debugHalt (s : State) (l : Lane) : exec (.debugHalt l) s = execDebugHalt l s := rfl
@[simp] theorem exec_debugActivate (s : State) (l : Lane) : exec (.debugActivate l) s = execDebugActivate l s := rfl
@[simp] theorem exec_siLevelAccept (s : State) (i : Fin 16) (contactB closed : Bool) : exec (.siLevelAccept i contactB closed) s = execSiLevelAccept i contactB closed s := rfl
@[simp] theorem exec_siDiscrepancy (s : State) (i : Fin 16) : exec (.siDiscrepancy i) s = execSiDiscrepancy i s := rfl
@[simp] theorem exec_soOffpulseStart (s : State) (i : Fin 16) : exec (.soOffpulseStart i) s = execSoOffpulseStart i s := rfl
@[simp] theorem exec_soOffpulseEnd (s : State) (i : Fin 16) (rb : Readback) : exec (.soOffpulseEnd i rb) s = execSoOffpulseEnd i rb s := rfl
@[simp] theorem exec_soReadbackCheck (s : State) (i : Fin 16) (rb : Readback) : exec (.soReadbackCheck i rb) s = execSoReadbackCheck i rb s := rfl
@[simp] theorem exec_rampPeriod (s : State) : exec (.rampPeriod) s = execRampPeriod s := rfl
@[simp] theorem exec_holdRelease (s : State) : exec (.holdRelease) s = execHoldRelease s := rfl
@[simp] theorem exec_stateReqPark (s : State) : exec (.stateReqPark) s = execStateReqPark s := rfl
@[simp] theorem exec_stateReqHibernate (s : State) : exec (.stateReqHibernate) s = execStateReqHibernate s := rfl
@[simp] theorem exec_stateReqAxolotl (s : State) : exec (.stateReqAxolotl) s = execStateReqAxolotl s := rfl
@[simp] theorem exec_stateReqRestart (s : State) : exec (.stateReqRestart) s = execStateReqRestart s := rfl
@[simp] theorem exec_stateReqStop (s : State) : exec (.stateReqStop) s = execStateReqStop s := rfl
@[simp] theorem exec_sdCopyRx (s : State) (net : Fin 2) (slot : BitVec 10) (sender : BitVec 8) (seq : BitVec 16) (len : Nat) (crc : Word) : exec (.sdCopyRx net slot sender seq len crc) s = execSdCopyRx net slot sender seq len crc s := rfl
@[simp] theorem exec_sdSingle (s : State) (j : Fin 16) : exec (.sdSingle j) s = execSdSingle j s := rfl
@[simp] theorem exec_sdTimeout (s : State) (j : Fin 16) : exec (.sdTimeout j) s = execSdTimeout j s := rfl
@[simp] theorem exec_cmdPathLost (s : State) : exec (.cmdPathLost) s = execCmdPathLost s := rfl
@[simp] theorem exec_holdRegPeriod (s : State) : exec (.holdRegPeriod) s = execHoldRegPeriod s := rfl
@[simp] theorem exec_holdHallChange (s : State) (h : Fin 2) (code : Fin 8) : exec (.holdHallChange h code) s = execHoldHallChange h code s := rfl
@[simp] theorem exec_standstillReached (s : State) : exec (.standstillReached) s = execStandstillReached s := rfl
@[simp] theorem exec_speedCapExceeded (s : State) (l : DLane) (n : Fin 6) : exec (.speedCapExceeded l n) s = execSpeedCapExceeded l n s := rfl
@[simp] theorem exec_ssTimeout (s : State) : exec (.ssTimeout) s = execSsTimeout s := rfl
@[simp] theorem exec_faultEventEntry (s : State) : exec (.faultEventEntry) s = execFaultEventEntry s := rfl
@[simp] theorem exec_logWrite (s : State) (l : Lane) (readBackOk : Bool) : exec (.logWrite l readBackOk) s = execLogWrite l readBackOk s := rfl
@[simp] theorem exec_collectorCheckFail (s : State) (c : Coll) : exec (.collectorCheckFail c) s = execCollectorCheckFail c s := rfl
@[simp] theorem exec_fcPendAck (s : State) (l : Lane) (i : Fin 16) (v : Word) : exec (.fcPendAck l i v) s = execFcPendAck l i v s := rfl
@[simp] theorem exec_fcForceWrite (s : State) (l : Lane) (i : Fin 16) (v : Word) : exec (.fcForceWrite l i v) s = execFcForceWrite l i v s := rfl
@[simp] theorem exec_fcClassWrite (s : State) (l : Lane) (i : Fin 64) (v : Word) : exec (.fcClassWrite l i v) s = execFcClassWrite l i v s := rfl
@[simp] theorem exec_fcLogclr (s : State) (l : Lane) (v : Word) : exec (.fcLogclr l v) s = execFcLogclr l v s := rfl
@[simp] theorem exec_skfcAck (s : State) (l : Lane) (v : Word) : exec (.skfcAck l v) s = execSkfcAck l v s := rfl
@[simp] theorem exec_skfcForce (s : State) (l : Lane) (v : Word) : exec (.skfcForce l v) s = execSkfcForce l v s := rfl
@[simp] theorem exec_scnListenTimeout (s : State) (l : Lane) (c : Fin 2) : exec (.scnListenTimeout l c) s = execScnListenTimeout l c s := rfl
@[simp] theorem exec_scnCycleStart (s : State) (l : Lane) (c : Fin 2) (guardDev : Int) : exec (.scnCycleStart l c guardDev) s = execScnCycleStart l c guardDev s := rfl
@[simp] theorem exec_scnCycleEnd (s : State) (l : Lane) (c : Fin 2) : exec (.scnCycleEnd l c) s = execScnCycleEnd l c s := rfl
@[simp] theorem exec_scnSlotPrepare (s : State) (l : Lane) (c : Fin 2) (slot : BitVec 10) (dynid : BitVec 8) : exec (.scnSlotPrepare l c slot dynid) s = execScnSlotPrepare l c slot dynid s := rfl
@[simp] theorem exec_scnTransmitStart (s : State) (l : Lane) (c : Fin 2) (at_ : Nat) : exec (.scnTransmitStart l c at_) s = execScnTransmitStart l c at_ s := rfl
@[simp] theorem exec_scnMinislotBoundary (s : State) (l : Lane) (c : Fin 2) (frameOnLine : Bool) (k : Nat) : exec (.scnMinislotBoundary l c frameOnLine k) s = execScnMinislotBoundary l c frameOnLine k s := rfl
@[simp] theorem exec_scnFrameRx (s : State) (l : Lane) (c : Fin 2) (f : ScnFrame) (sfd : Int) : exec (.scnFrameRx l c f sfd) s = execScnFrameRx l c f sfd s := rfl
@[simp] theorem exec_starFrameRx (s : State) (n : DLane) (port : Fin 7) (f : ScnFrame) (sfd : Int) : exec (.starFrameRx n port f sfd) s = execStarFrameRx n port f sfd s := rfl
@[simp] theorem exec_starFrameEnd (s : State) (n : DLane) (endAt : Int) : exec (.starFrameEnd n endAt) s = execStarFrameEnd n endAt s := rfl
@[simp] theorem exec_starCycleEnd (s : State) (n : DLane) : exec (.starCycleEnd n) s = execStarCycleEnd n s := rfl
@[simp] theorem exec_starGrantLapse (s : State) (n : DLane) (slot : BitVec 10) : exec (.starGrantLapse n slot) s = execStarGrantLapse n slot s := rfl
@[simp] theorem exec_starLinkLoss (s : State) (n : DLane) (port : Fin 4) : exec (.starLinkLoss n port) s = execStarLinkLoss n port s := rfl
@[simp] theorem exec_starEnWrite (s : State) (l : Lane) (v : Word) : exec (.starEnWrite l v) s = execStarEnWrite l v s := rfl
@[simp] theorem exec_guardianViolation (s : State) (l : Lane) (c : Fin 2) : exec (.guardianViolation l c) s = execGuardianViolation l c s := rfl
@[simp] theorem exec_scnTxCommit (s : State) (l : Lane) (c : Fin 2) (e : Fin 32) (v : Word) : exec (.scnTxCommit l c e v) s = execScnTxCommit l c e v s := rfl
@[simp] theorem exec_scnTxDrop (s : State) (l : Lane) (c : Fin 2) (e : Fin 32) : exec (.scnTxDrop l c e) s = execScnTxDrop l c e s := rfl
@[simp] theorem exec_scnTxExpiry (s : State) (l : Lane) (c : Fin 2) (e : Fin 32) : exec (.scnTxExpiry l c e) s = execScnTxExpiry l c e s := rfl
@[simp] theorem exec_scnModeRequest (s : State) (l : Lane) (c : Fin 2) (v : Word) : exec (.scnModeRequest l c v) s = execScnModeRequest l c v s := rfl
@[simp] theorem exec_scnModeCancel (s : State) (l : Lane) (c : Fin 2) : exec (.scnModeCancel l c) s = execScnModeCancel l c s := rfl
@[simp] theorem exec_scnSlotTrigger (s : State) (l : Lane) (n : Fin 16) : exec (.scnSlotTrigger l n) s = execScnSlotTrigger l n s := rfl
@[simp] theorem exec_scnMissCounterRead (s : State) (l : Lane) (c : Fin 2) (w : Fin 512) : exec (.scnMissCounterRead l c w) s = execScnMissCounterRead l c w s := rfl
@[simp] theorem exec_canRxFrame (s : State) (l : Lane) (k : Fin 4) (f : CanFrame) (sofAgo : Nat) : exec (.canRxFrame l k f sofAgo) s = execCanRxFrame l k f sofAgo s := rfl
@[simp] theorem exec_canReintegrate (s : State) (l : Lane) (k : Fin 4) : exec (.canReintegrate l k) s = execCanReintegrate l k s := rfl
@[simp] theorem exec_canTxCommit (s : State) (l : Lane) (k : Fin 4) (e : Fin 32) (v : Word) : exec (.canTxCommit l k e v) s = execCanTxCommit l k e v s := rfl
@[simp] theorem exec_canTxCancel (s : State) (l : Lane) (k : Fin 4) (e : Fin 32) : exec (.canTxCancel l k e) s = execCanTxCancel l k e s := rfl
@[simp] theorem exec_canTxStart (s : State) (l : Lane) (k : Fin 4) (meas : Nat) : exec (.canTxStart l k meas) s = execCanTxStart l k meas s := rfl
@[simp] theorem exec_canTxSuccess (s : State) (l : Lane) (k : Fin 4) : exec (.canTxSuccess l k) s = execCanTxSuccess l k s := rfl
@[simp] theorem exec_canTxError (s : State) (l : Lane) (k : Fin 4) (ack : Bool) (dominantSeen : Bool) : exec (.canTxError l k ack dominantSeen) s = execCanTxError l k ack dominantSeen s := rfl
@[simp] theorem exec_canRecoverWrite (s : State) (l : Lane) (k : Fin 4) (v : Word) : exec (.canRecoverWrite l k v) s = execCanRecoverWrite l k v s := rfl
@[simp] theorem exec_canRecoveryDone (s : State) (l : Lane) (k : Fin 4) : exec (.canRecoveryDone l k) s = execCanRecoveryDone l k s := rfl
@[simp] theorem exec_canFifoRelease (s : State) (l : Lane) (k : Fin 4) (q : Fin 2) (v : Word) : exec (.canFifoRelease l k q v) s = execCanFifoRelease l k q v s := rfl
@[simp] theorem exec_canTtRefSend (s : State) (l : Lane) (k : Fin 4) : exec (.canTtRefSend l k) s = execCanTtRefSend l k s := rfl
@[simp] theorem exec_canTtWindowStart (s : State) (l : Lane) (k : Fin 4) (col : Fin 32) : exec (.canTtWindowStart l k col) s = execCanTtWindowStart l k col s := rfl
@[simp] theorem exec_canTtRefLost (s : State) (l : Lane) (k : Fin 4) : exec (.canTtRefLost l k) s = execCanTtRefLost l k s := rfl
@[simp] theorem exec_xfence (s : State) (l : Lane) (core : Fin 3) : exec (.xfence l core) s = execXfence l core s := rfl
@[simp] theorem exec_xfenceTimeout (s : State) (l : Lane) (core : Fin 3) : exec (.xfenceTimeout l core) s = execXfenceTimeout l core s := rfl
@[simp] theorem exec_dmaGo (s : State) (l : Lane) (ch : Fin 16) : exec (.dmaGo l ch) s = execDmaGo l ch s := rfl
@[simp] theorem exec_dmaStop (s : State) (l : Lane) (ch : Fin 16) : exec (.dmaStop l ch) s = execDmaStop l ch s := rfl
@[simp] theorem exec_dmaDescLoad (s : State) (l : Lane) (ch : Fin 16) : exec (.dmaDescLoad l ch) s = execDmaDescLoad l ch s := rfl
@[simp] theorem exec_dmaDescComplete (s : State) (l : Lane) (ch : Fin 16) : exec (.dmaDescComplete l ch) s = execDmaDescComplete l ch s := rfl
@[simp] theorem exec_dmaAbort (s : State) (l : Lane) (ch : Fin 16) (written : Nat) : exec (.dmaAbort l ch written) s = execDmaAbort l ch written s := rfl
@[simp] theorem exec_erRowCapture (s : State) (l : Lane) : exec (.erRowCapture l) s = execErRowCapture l s := rfl
@[simp] theorem exec_erRowSkipped (s : State) (l : Lane) : exec (.erRowSkipped l) s = execErRowSkipped l s := rfl
@[simp] theorem exec_erFreezeCmd (s : State) (l : Lane) : exec (.erFreezeCmd l) s = execErFreezeCmd l s := rfl
@[simp] theorem exec_erReleaseCmd (s : State) (l : Lane) (v : Word) : exec (.erReleaseCmd l v) s = execErReleaseCmd l v s := rfl
@[simp] theorem exec_icArrival (s : State) (l : Lane) (i : Fin 384) (e : IcEdge) : exec (.icArrival l i e) s = execIcArrival l i e s := rfl
@[simp] theorem exec_icSwset (s : State) (l : Lane) (core : Fin 3) (hi : Bool) (v : Word) : exec (.icSwset l core hi v) s = execIcSwset l core hi v s := rfl
@[simp] theorem exec_icPresent (s : State) (l : Lane) (core : Fin 3) : exec (.icPresent l core) s = execIcPresent l core s := rfl
@[simp] theorem exec_icTrapEntry (s : State) (l : Lane) (core : Fin 3) : exec (.icTrapEntry l core) s = execIcTrapEntry l core s := rfl
@[simp] theorem exec_icEoi (s : State) (l : Lane) (core : Fin 3) (v : Word) : exec (.icEoi l core v) s = execIcEoi l core v s := rfl
@[simp] theorem exec_icSrcRead (s : State) (l : Lane) (core : Fin 3) (src : Fin 448) : exec (.icSrcRead l core src) s = execIcSrcRead l core src s := rfl
@[simp] theorem exec_posLRead (s : State) (l : Lane) (n : Fin 12) : exec (.posLRead l n) s = execPosLRead l n s := rfl
@[simp] theorem exec_sposLRead (s : State) (l : DLane) (n : Fin 6) : exec (.sposLRead l n) s = execSposLRead l n s := rfl
@[simp] theorem exec_rtcRead (s : State) (l : Lane) : exec (.rtcRead l) s = execRtcRead l s := rfl
@[simp] theorem exec_erraddrLRead (s : State) (l : Lane) : exec (.erraddrLRead l) s = execErraddrLRead l s := rfl
@[simp] theorem exec_bistSliceStart (s : State) (l : Lane) (slice : Fin 72) : exec (.bistSliceStart l slice) s = execBistSliceStart l slice s := rfl
@[simp] theorem exec_bistSliceEnd (s : State) (l : Lane) (slice : Fin 72) (sigOk restoreOk keyOk : Bool) : exec (.bistSliceEnd l slice sigOk restoreOk keyOk) s = execBistSliceEnd l slice sigOk restoreOk keyOk s := rfl
@[simp] theorem exec_bistSweepLate (s : State) (l : Lane) : exec (.bistSweepLate l) s = execBistSweepLate l s := rfl
@[simp] theorem exec_cryAttest (s : State) (l : Lane) : exec (.cryAttest l) s = execCryAttest l s := rfl
@[simp] theorem exec_cryInstall (s : State) (l : Lane) : exec (.cryInstall l) s = execCryInstall l s := rfl
@[simp] theorem exec_cryCommit (s : State) (l : Lane) : exec (.cryCommit l) s = execCryCommit l s := rfl
@[simp] theorem exec_cryAdvance (s : State) (l : Lane) : exec (.cryAdvance l) s = execCryAdvance l s := rfl
@[simp] theorem exec_cryCmdDone (s : State) (l : Lane) (code : Fin 16) (signature : List Byte) : exec (.cryCmdDone l code signature) s = execCryCmdDone l code signature s := rfl
@[simp] theorem exec_axEnWrite (s : State) (l : DLane) (n : Fin 6) (v : Word) : exec (.axEnWrite l n v) s = execAxEnWrite l n v s := rfl
@[simp] theorem exec_fbEnWrite (s : State) (l : DLane) (n : Fin 6) (v : Word) : exec (.fbEnWrite l n v) s = execFbEnWrite l n v s := rfl
@[simp] theorem exec_pgEnWrite (s : State) (l : DLane) (n : Fin 6) (v : Word) : exec (.pgEnWrite l n v) s = execPgEnWrite l n v s := rfl
@[simp] theorem exec_ppEnWrite (s : State) (l : DLane) (p : Fin 2) (v : Word) : exec (.ppEnWrite l p v) s = execPpEnWrite l p v s := rfl
@[simp] theorem exec_calEnWrite (s : State) (l : Lane) (v : Word) : exec (.calEnWrite l v) s = execCalEnWrite l v s := rfl
@[simp] theorem exec_xchEnWrite (s : State) (l : Lane) (v : Word) : exec (.xchEnWrite l v) s = execXchEnWrite l v s := rfl
@[simp] theorem exec_ckptEnWrite (s : State) (l : Lane) (v : Word) : exec (.ckptEnWrite l v) s = execCkptEnWrite l v s := rfl
@[simp] theorem exec_scnEnWrite (s : State) (l : Lane) (c : Fin 2) (v : Word) : exec (.scnEnWrite l c v) s = execScnEnWrite l c v s := rfl
@[simp] theorem exec_canEnWrite (s : State) (l : Lane) (k : Fin 4) (v : Word) : exec (.canEnWrite l k v) s = execCanEnWrite l k v s := rfl
@[simp] theorem exec_erEnWrite (s : State) (l : Lane) (v : Word) : exec (.erEnWrite l v) s = execErEnWrite l v s := rfl
@[simp] theorem exec_bistEnWrite (s : State) (l : Lane) (v : Word) : exec (.bistEnWrite l v) s = execBistEnWrite l v s := rfl
@[simp] theorem exec_pcCfgWrite (s : State) (l : DLane) (ofs : BitVec 12) (v : Word) : exec (.pcCfgWrite l ofs v) s = execPcCfgWrite l ofs v s := rfl
@[simp] theorem exec_wakecfgWrite (s : State) (l : Lane) (v : Word) : exec (.wakecfgWrite l v) s = execWakecfgWrite l v s := rfl
@[simp] theorem exec_registerWrite (s : State) (l : Lane) (addr : BitVec 40) (v : Word) (size : Fin 4 := 2) (hi : Word := 0) : exec (.registerWrite l addr v size hi) s = execRegisterWrite l addr v size hi s := rfl
@[simp] theorem exec_vorValid (s : State) : exec (.vorValid) s = execVorValid s := rfl
@[simp] theorem exec_wakeOneFeedTimeout (s : State) : exec (.wakeOneFeedTimeout) s = execWakeOneFeedTimeout s := rfl
@[simp] theorem exec_feedFallsBelowReset (s : State) (f : DLane) : exec (.feedFallsBelowReset f) s = execFeedFallsBelowReset f s := rfl
@[simp] theorem exec_starLinkUp (s : State) (n : DLane) (port : Fin 4) : exec (.starLinkUp n port) s = execStarLinkUp n port s := rfl
@[simp] theorem exec_canRxError (s : State) (l : Lane) (k : Fin 4) (recAdd : Nat) : exec (.canRxError l k recAdd) s = execCanRxError l k recAdd s := rfl
@[simp] theorem exec_xfenceDone (s : State) (l : Lane) (core : Fin 3) : exec (.xfenceDone l core) s = execXfenceDone l core s := rfl
@[simp] theorem exec_skfcAgreeTimeout (s : State) : exec (.skfcAgreeTimeout) s = execSkfcAgreeTimeout s := rfl

end Sys2Proof.Machine
end

