-- ==== Sys2Proof/Laws/Fam.lean ====
section
/-! SUPPORT. The laws of sparse families: reading after writing, after deleting and after clearing, and the canonical form,
which every operation keeps. -/

namespace Sys2Proof.Machine

variable {α : Type}

/-- Setting is deleting where the value is the default, and inserting elsewhere. -/
theorem famSet_eq [DecidableEq α] (d : Nat → α) (l : List (Nat × α)) (k : Nat) (v : α) :
    famSet d l k v = if v = d k then famDel l k else famIns l k v := by
  induction l with
  | nil => by_cases h : v = d k <;> simp [famSet, famDel, famIns, h]
  | cons e t ih =>
    obtain ⟨a, w⟩ := e
    by_cases ha : a < k
    · by_cases h : v = d k
      · rw [if_pos h] at ih ⊢
        simp [famSet, famDel, ha, ih, Nat.ne_of_lt ha]
      · rw [if_neg h] at ih ⊢
        simp [famSet, famIns, ha, ih]
    · by_cases h : v = d k <;> simp [famSet, famIns, ha, h]

theorem famGet_famDel_same (d : Nat → α) (l : List (Nat × α)) (k : Nat) : famGet d (famDel l k) k = d k := by
  induction l with
  | nil => rfl
  | cons e t ih =>
    obtain ⟨a, v⟩ := e
    by_cases h : a = k <;> simp [famDel, famGet, h, ih]

theorem famGet_famDel_of_ne (d : Nat → α) (l : List (Nat × α)) {j k : Nat} (h : j ≠ k) :
    famGet d (famDel l k) j = famGet d l j := by
  induction l with
  | nil => rfl
  | cons e t ih =>
    obtain ⟨a, v⟩ := e
    by_cases ha : a = k
    · subst ha; simp [famDel, famGet, ih, Ne.symm h]
    · simp only [famDel, ha, if_false, famGet, ih]

theorem famGet_famIns_same (d : Nat → α) (l : List (Nat × α)) (k : Nat) (v : α) :
    famGet d (famIns l k v) k = v := by
  induction l with
  | nil => simp [famIns, famGet]
  | cons e t ih =>
    obtain ⟨a, w⟩ := e
    simp only [famIns]
    split
    · next h => simp [famGet, Nat.ne_of_lt h, ih]
    · split <;> simp [famGet]

theorem famGet_famIns_of_ne (d : Nat → α) (l : List (Nat × α)) {j k : Nat} (v : α) (h : j ≠ k) :
    famGet d (famIns l k v) j = famGet d l j := by
  induction l with
  | nil => simp [famIns, famGet, Ne.symm h]
  | cons e t ih =>
    obtain ⟨a, w⟩ := e
    simp only [famIns]
    split
    · by_cases hj : a = j <;> simp [famGet, hj, ih]
    · split
      · next h' => subst h'; simp [famGet, Ne.symm h]
      · simp [famGet, Ne.symm h]

/-- A number reads what was last written under it. -/
@[simp] theorem famGet_famSet_same [DecidableEq α] (d : Nat → α) (l : List (Nat × α)) (k : Nat) (v : α) :
    famGet d (famSet d l k v) k = v := by
  rw [famSet_eq]
  split
  · next h => rw [famGet_famDel_same, h]
  · exact famGet_famIns_same d l k v

/-- A write leaves every other number alone. -/
theorem famGet_famSet_of_ne [DecidableEq α] (d : Nat → α) (l : List (Nat × α)) {j k : Nat} (v : α) (h : j ≠ k) :
    famGet d (famSet d l k v) j = famGet d l j := by
  rw [famSet_eq]
  split
  · exact famGet_famDel_of_ne d l h
  · exact famGet_famIns_of_ne d l v h

/-- Reading after a write, both cases at once. -/
theorem famGet_famSet [DecidableEq α] (d : Nat → α) (l : List (Nat × α)) (j k : Nat) (v : α) :
    famGet d (famSet d l k v) j = if j = k then v else famGet d l j := by
  split
  · next h => subst h; simp
  · next h => exact famGet_famSet_of_ne d l v h

/-- A cleared number reads as it does unlisted; every other reads as before. -/
theorem famGet_famClear (d : Nat → α) (l : List (Nat × α)) (lo hi j : Nat) :
    famGet d (famClear l lo hi) j = if lo ≤ j ∧ j < hi then d j else famGet d l j := by
  induction l with
  | nil => simp [famClear, famGet]
  | cons e t ih =>
    obtain ⟨a, v⟩ := e
    simp only [famClear]
    by_cases ha : lo ≤ a ∧ a < hi
    · simp only [ha, and_self, if_true, ih]
      by_cases hj : lo ≤ j ∧ j < hi
      · simp [hj]
      · have : a ≠ j := by rintro rfl; exact hj ha
        simp [hj, famGet, this]
    · by_cases haj : a = j
      · subst haj; simp [ha, famGet]
      · simp [ha, famGet, haj, ih]

theorem famRising_mono {b c : Nat} (h : c ≤ b) (l : List (Nat × α)) (hl : famRising (some b) l = true) :
    famRising (some c) l = true := by
  cases l with
  | nil => rfl
  | cons e t =>
    obtain ⟨a, v⟩ := e
    simp only [famRising, Bool.and_eq_true, decide_eq_true_eq] at *
    exact ⟨by omega, hl.2⟩

theorem famRising_famDel {b : Nat} (l : List (Nat × α)) (k : Nat) (hl : famRising (some b) l = true) :
    famRising (some b) (famDel l k) = true := by
  induction l generalizing b with
  | nil => rfl
  | cons e t ih =>
    obtain ⟨a, v⟩ := e
    simp only [famRising, Bool.and_eq_true, decide_eq_true_eq] at hl
    simp only [famDel]
    split
    · exact ih (famRising_mono (by omega) t hl.2)
    · simp [famRising, hl.1, ih hl.2]

theorem famRising_famIns {b k : Nat} (l : List (Nat × α)) (v : α) (hk : b < k) (hl : famRising (some b) l = true) :
    famRising (some b) (famIns l k v) = true := by
  induction l generalizing b with
  | nil => simp [famIns, famRising, hk]
  | cons e t ih =>
    obtain ⟨a, w⟩ := e
    simp only [famRising, Bool.and_eq_true, decide_eq_true_eq] at hl
    simp only [famIns]
    split
    · next h => simp [famRising, hl.1, ih h hl.2]
    · split
      · next h => subst h; simp [famRising, hk, hl.2]
      · simp [famRising, hk, hl.2]; omega

theorem famRising_famClear {b : Nat} (l : List (Nat × α)) (lo hi : Nat) (hl : famRising (some b) l = true) :
    famRising (some b) (famClear l lo hi) = true := by
  induction l generalizing b with
  | nil => rfl
  | cons e t ih =>
    obtain ⟨a, v⟩ := e
    simp only [famRising, Bool.and_eq_true, decide_eq_true_eq] at hl
    simp only [famClear]
    split
    · exact ih (famRising_mono (by omega) t hl.2)
    · simp [famRising, hl.1, ih hl.2]

theorem famTight_famDel [DecidableEq α] (d : Nat → α) (l : List (Nat × α)) (k : Nat) (hl : famTight d l = true) :
    famTight d (famDel l k) = true := by
  induction l with
  | nil => rfl
  | cons e t ih =>
    obtain ⟨a, v⟩ := e
    simp only [famTight, Bool.and_eq_true] at hl
    simp only [famDel]
    split
    · exact ih hl.2
    · simp only [famTight, Bool.and_eq_true]; exact ⟨hl.1, ih hl.2⟩

theorem famTight_famIns [DecidableEq α] (d : Nat → α) (l : List (Nat × α)) (k : Nat) (v : α) (hv : v ≠ d k)
    (hl : famTight d l = true) : famTight d (famIns l k v) = true := by
  induction l with
  | nil => simp [famIns, famTight, hv]
  | cons e t ih =>
    obtain ⟨a, w⟩ := e
    simp only [famTight, Bool.and_eq_true] at hl
    simp only [famIns]
    split
    · simp only [famTight, Bool.and_eq_true]; exact ⟨hl.1, ih hl.2⟩
    · split
      · simp [famTight, hv, hl.2]
      · simp only [famTight, Bool.and_eq_true]; exact ⟨by simp [hv], hl⟩

theorem famTight_famClear [DecidableEq α] (d : Nat → α) (l : List (Nat × α)) (lo hi : Nat) (hl : famTight d l = true) :
    famTight d (famClear l lo hi) = true := by
  induction l with
  | nil => rfl
  | cons e t ih =>
    obtain ⟨a, v⟩ := e
    simp only [famTight, Bool.and_eq_true] at hl
    simp only [famClear]
    split
    · exact ih hl.2
    · simp only [famTight, Bool.and_eq_true]; exact ⟨hl.1, ih hl.2⟩

theorem famRising_none (l : List (Nat × α)) (b : Nat) (h : famRising (some b) l = true) : famRising none l = true := by
  cases l with
  | nil => rfl
  | cons e t =>
    obtain ⟨a, v⟩ := e
    simp only [famRising, Bool.and_eq_true] at *
    exact h.2

/-- A write keeps the canonical form. -/
theorem famWf_famSet [DecidableEq α] (d : Nat → α) (l : List (Nat × α)) (k : Nat) (v : α) (h : famWf d l = true) :
    famWf d (famSet d l k v) = true := by
  simp only [famWf, Bool.and_eq_true] at *
  obtain ⟨hr, ht⟩ := h
  rw [famSet_eq]
  split
  · refine ⟨?_, famTight_famDel d l k ht⟩
    cases l with
    | nil => rfl
    | cons e t =>
      obtain ⟨a, w⟩ := e
      simp only [famRising] at hr
      simp only [famDel]
      split
      · exact famRising_none _ a (famRising_famDel t k hr)
      · simp only [famRising]; exact famRising_famDel t k hr
  · next hv =>
    refine ⟨?_, famTight_famIns d l k v hv ht⟩
    cases l with
    | nil => rfl
    | cons e t =>
      obtain ⟨a, w⟩ := e
      simp only [famRising] at hr
      simp only [famIns]
      split
      · next h => simp only [famRising]; exact famRising_famIns t v h hr
      · split
        · next h => subst h; simpa only [famRising] using hr
        · next h1 h2 =>
          simp only [famRising, Bool.and_eq_true, decide_eq_true_eq]
          exact ⟨by omega, hr⟩

/-- Clearing a range keeps the canonical form. -/
theorem famWf_famClear [DecidableEq α] (d : Nat → α) (l : List (Nat × α)) (lo hi : Nat) (h : famWf d l = true) :
    famWf d (famClear l lo hi) = true := by
  simp only [famWf, Bool.and_eq_true] at *
  refine ⟨?_, famTight_famClear d l lo hi h.2⟩
  cases l with
  | nil => rfl
  | cons e t =>
    obtain ⟨a, w⟩ := e
    have hr := h.1
    simp only [famRising] at hr
    simp only [famClear]
    split
    · exact famRising_none _ a (famRising_famClear t lo hi hr)
    · simp only [famRising]; exact famRising_famClear t lo hi hr

end Sys2Proof.Machine
end

