-- ==== Sys2Proof/Laws/State.lean ====
section
/-! SUPPORT. The setters of the state, field by field and reader by reader: each changes what it names and nothing else. -/

namespace Sys2Proof.Machine

open Sys2Proof

variable (s : State)

/-! setLane -/

@[simp] theorem State.setLane_pending (l : Lane) (x : LaneSt) : (s.setLane l x).pending = s.pending := rfl
@[simp] theorem State.setLane_now (l : Lane) (x : LaneSt) : (s.setLane l x).now = s.now := rfl
@[simp] theorem State.setLane_free (l : Lane) (x : LaneSt) : (s.setLane l x).free = s.free := rfl
@[simp] theorem State.setLane_readData (l : Lane) (x : LaneSt) : (s.setLane l x).readData = s.readData := rfl
@[simp] theorem State.setLane_rtcAt (l : Lane) (x : LaneSt) : (s.setLane l x).rtcAt = s.rtcAt := rfl
@[simp] theorem State.setLane_regs (l : Lane) (x : LaneSt) : (s.setLane l x).regs = s.regs := rfl
@[simp] theorem State.setLane_mem (l : Lane) (x : LaneSt) : (s.setLane l x).mem = s.mem := rfl
@[simp] theorem State.setLane_evq (l : Lane) (x : LaneSt) : (s.setLane l x).evq = s.evq := rfl
@[simp] theorem State.setLane_sk (l : Lane) (x : LaneSt) : (s.setLane l x).sk = s.sk := rfl
@[simp] theorem State.setLane_tab (l : Lane) (x : LaneSt) : (s.setLane l x).tab = s.tab := rfl
@[simp] theorem State.setLane_sf (l : Lane) (x : LaneSt) : (s.setLane l x).sf = s.sf := rfl
@[simp] theorem State.setLane_xc (l : Lane) (x : LaneSt) : (s.setLane l x).xc = s.xc := rfl
@[simp] theorem State.setLane_cmp (l : Lane) (x : LaneSt) : (s.setLane l x).cmp = s.cmp := rfl
@[simp] theorem State.setLane_colls (l : Lane) (x : LaneSt) : (s.setLane l x).colls = s.colls := rfl
@[simp] theorem State.setLane_cells (l : Lane) (x : LaneSt) : (s.setLane l x).cells = s.cells := rfl
@[simp] theorem State.setLane_buses (l : Lane) (x : LaneSt) : (s.setLane l x).buses = s.buses := rfl
@[simp] theorem State.setLane_axes (l : Lane) (x : LaneSt) : (s.setLane l x).axes = s.axes := rfl
@[simp] theorem State.setLane_fbs (l : Lane) (x : LaneSt) : (s.setLane l x).fbs = s.fbs := rfl
@[simp] theorem State.setLane_fired (l : Lane) (x : LaneSt) : (s.setLane l x).fired = s.fired := rfl
@[simp] theorem State.setLane_cals (l : Lane) (x : LaneSt) : (s.setLane l x).cals = s.cals := rfl
@[simp] theorem State.setLane_pgs (l : Lane) (x : LaneSt) : (s.setLane l x).pgs = s.pgs := rfl
@[simp] theorem State.setLane_pps (l : Lane) (x : LaneSt) : (s.setLane l x).pps = s.pps := rfl
@[simp] theorem State.setLane_les (l : Lane) (x : LaneSt) : (s.setLane l x).les = s.les := rfl
@[simp] theorem State.setLane_jobs (l : Lane) (x : LaneSt) : (s.setLane l x).jobs = s.jobs := rfl
@[simp] theorem State.setLane_scns (l : Lane) (x : LaneSt) : (s.setLane l x).scns = s.scns := rfl
@[simp] theorem State.setLane_stars (l : Lane) (x : LaneSt) : (s.setLane l x).stars = s.stars := rfl
@[simp] theorem State.setLane_cans (l : Lane) (x : LaneSt) : (s.setLane l x).cans = s.cans := rfl
@[simp] theorem State.setLane_dmas (l : Lane) (x : LaneSt) : (s.setLane l x).dmas = s.dmas := rfl
@[simp] theorem State.setLane_ers (l : Lane) (x : LaneSt) : (s.setLane l x).ers = s.ers := rfl
@[simp] theorem State.setLane_ics (l : Lane) (x : LaneSt) : (s.setLane l x).ics = s.ics := rfl
@[simp] theorem State.setLane_coll (l : Lane) (x : LaneSt) (d : Coll) : (s.setLane l x).coll d = s.coll d := rfl
@[simp] theorem State.setLane_cell (l : Lane) (x : LaneSt) (d : DLane) (i : Nat) : (s.setLane l x).cell d i = s.cell d i := rfl
@[simp] theorem State.setLane_axis (l : Lane) (x : LaneSt) (d : DLane) (i : Nat) : (s.setLane l x).axis d i = s.axis d i := rfl
@[simp] theorem State.setLane_fbu (l : Lane) (x : LaneSt) (d : DLane) (i : Nat) : (s.setLane l x).fbu d i = s.fbu d i := rfl
@[simp] theorem State.setLane_calx (l : Lane) (x : LaneSt) (d : DLane) (i : Nat) : (s.setLane l x).calx d i = s.calx d i := rfl
@[simp] theorem State.setLane_pg (l : Lane) (x : LaneSt) (d : DLane) (i : Nat) : (s.setLane l x).pg d i = s.pg d i := rfl
@[simp] theorem State.setLane_pp (l : Lane) (x : LaneSt) (d : DLane) (i : Nat) : (s.setLane l x).pp d i = s.pp d i := rfl
@[simp] theorem State.setLane_le (l : Lane) (x : LaneSt) (m : Lane) : (s.setLane l x).le m = s.le m := rfl
@[simp] theorem State.setLane_job (l : Lane) (x : LaneSt) (m : Lane) (i : Nat) : (s.setLane l x).job m i = s.job m i := rfl
@[simp] theorem State.setLane_scn (l : Lane) (x : LaneSt) (m : Lane) (i : Nat) : (s.setLane l x).scn m i = s.scn m i := rfl
@[simp] theorem State.setLane_star (l : Lane) (x : LaneSt) (d : DLane) : (s.setLane l x).star d = s.star d := rfl
@[simp] theorem State.setLane_can (l : Lane) (x : LaneSt) (m : Lane) (i : Nat) : (s.setLane l x).can m i = s.can m i := rfl
@[simp] theorem State.setLane_dma (l : Lane) (x : LaneSt) (m : Lane) (i : Nat) : (s.setLane l x).dma m i = s.dma m i := rfl
@[simp] theorem State.setLane_er (l : Lane) (x : LaneSt) (m : Lane) : (s.setLane l x).er m = s.er m := rfl
@[simp] theorem State.setLane_ic (l : Lane) (x : LaneSt) (m : Lane) : (s.setLane l x).ic m = s.ic m := rfl
@[simp] theorem State.setLane_reg (l : Lane) (x : LaneSt) (q : Nat) : (s.setLane l x).reg q = s.reg q := rfl
@[simp] theorem State.setLane_rd8 (l : Lane) (x : LaneSt) (m i : Nat) : (s.setLane l x).rd8 m i = s.rd8 m i := rfl
@[simp] theorem State.setLane_fg (l : Lane) (x : LaneSt) (d : Nat) (g : Fld) : (s.setLane l x).fg d g = s.fg d g := rfl
@[simp] theorem State.setLane_fb (l : Lane) (x : LaneSt) (d : Nat) (g : Fld) : (s.setLane l x).fb d g = s.fb d g := rfl
@[simp] theorem State.setLane_fi (l : Lane) (x : LaneSt) (d : Nat) (g : Fld) : (s.setLane l x).fi d g = s.fi d g := rfl

/-! setColl -/

@[simp] theorem State.setColl_pending (c : Coll) (x : Collector) : (s.setColl c x).pending = s.pending := rfl
@[simp] theorem State.setColl_now (c : Coll) (x : Collector) : (s.setColl c x).now = s.now := rfl
@[simp] theorem State.setColl_free (c : Coll) (x : Collector) : (s.setColl c x).free = s.free := rfl
@[simp] theorem State.setColl_readData (c : Coll) (x : Collector) : (s.setColl c x).readData = s.readData := rfl
@[simp] theorem State.setColl_rtcAt (c : Coll) (x : Collector) : (s.setColl c x).rtcAt = s.rtcAt := rfl
@[simp] theorem State.setColl_regs (c : Coll) (x : Collector) : (s.setColl c x).regs = s.regs := rfl
@[simp] theorem State.setColl_mem (c : Coll) (x : Collector) : (s.setColl c x).mem = s.mem := rfl
@[simp] theorem State.setColl_evq (c : Coll) (x : Collector) : (s.setColl c x).evq = s.evq := rfl
@[simp] theorem State.setColl_sk (c : Coll) (x : Collector) : (s.setColl c x).sk = s.sk := rfl
@[simp] theorem State.setColl_tab (c : Coll) (x : Collector) : (s.setColl c x).tab = s.tab := rfl
@[simp] theorem State.setColl_sf (c : Coll) (x : Collector) : (s.setColl c x).sf = s.sf := rfl
@[simp] theorem State.setColl_xc (c : Coll) (x : Collector) : (s.setColl c x).xc = s.xc := rfl
@[simp] theorem State.setColl_cmp (c : Coll) (x : Collector) : (s.setColl c x).cmp = s.cmp := rfl
@[simp] theorem State.setColl_lanes (c : Coll) (x : Collector) : (s.setColl c x).lanes = s.lanes := rfl
@[simp] theorem State.setColl_cells (c : Coll) (x : Collector) : (s.setColl c x).cells = s.cells := rfl
@[simp] theorem State.setColl_buses (c : Coll) (x : Collector) : (s.setColl c x).buses = s.buses := rfl
@[simp] theorem State.setColl_axes (c : Coll) (x : Collector) : (s.setColl c x).axes = s.axes := rfl
@[simp] theorem State.setColl_fbs (c : Coll) (x : Collector) : (s.setColl c x).fbs = s.fbs := rfl
@[simp] theorem State.setColl_fired (c : Coll) (x : Collector) : (s.setColl c x).fired = s.fired := rfl
@[simp] theorem State.setColl_cals (c : Coll) (x : Collector) : (s.setColl c x).cals = s.cals := rfl
@[simp] theorem State.setColl_pgs (c : Coll) (x : Collector) : (s.setColl c x).pgs = s.pgs := rfl
@[simp] theorem State.setColl_pps (c : Coll) (x : Collector) : (s.setColl c x).pps = s.pps := rfl
@[simp] theorem State.setColl_les (c : Coll) (x : Collector) : (s.setColl c x).les = s.les := rfl
@[simp] theorem State.setColl_jobs (c : Coll) (x : Collector) : (s.setColl c x).jobs = s.jobs := rfl
@[simp] theorem State.setColl_scns (c : Coll) (x : Collector) : (s.setColl c x).scns = s.scns := rfl
@[simp] theorem State.setColl_stars (c : Coll) (x : Collector) : (s.setColl c x).stars = s.stars := rfl
@[simp] theorem State.setColl_cans (c : Coll) (x : Collector) : (s.setColl c x).cans = s.cans := rfl
@[simp] theorem State.setColl_dmas (c : Coll) (x : Collector) : (s.setColl c x).dmas = s.dmas := rfl
@[simp] theorem State.setColl_ers (c : Coll) (x : Collector) : (s.setColl c x).ers = s.ers := rfl
@[simp] theorem State.setColl_ics (c : Coll) (x : Collector) : (s.setColl c x).ics = s.ics := rfl
@[simp] theorem State.setColl_lane (c : Coll) (x : Collector) (m : Lane) : (s.setColl c x).lane m = s.lane m := rfl
@[simp] theorem State.setColl_cell (c : Coll) (x : Collector) (d : DLane) (i : Nat) : (s.setColl c x).cell d i = s.cell d i := rfl
@[simp] theorem State.setColl_axis (c : Coll) (x : Collector) (d : DLane) (i : Nat) : (s.setColl c x).axis d i = s.axis d i := rfl
@[simp] theorem State.setColl_fbu (c : Coll) (x : Collector) (d : DLane) (i : Nat) : (s.setColl c x).fbu d i = s.fbu d i := rfl
@[simp] theorem State.setColl_calx (c : Coll) (x : Collector) (d : DLane) (i : Nat) : (s.setColl c x).calx d i = s.calx d i := rfl
@[simp] theorem State.setColl_pg (c : Coll) (x : Collector) (d : DLane) (i : Nat) : (s.setColl c x).pg d i = s.pg d i := rfl
@[simp] theorem State.setColl_pp (c : Coll) (x : Collector) (d : DLane) (i : Nat) : (s.setColl c x).pp d i = s.pp d i := rfl
@[simp] theorem State.setColl_le (c : Coll) (x : Collector) (m : Lane) : (s.setColl c x).le m = s.le m := rfl
@[simp] theorem State.setColl_job (c : Coll) (x : Collector) (m : Lane) (i : Nat) : (s.setColl c x).job m i = s.job m i := rfl
@[simp] theorem State.setColl_scn (c : Coll) (x : Collector) (m : Lane) (i : Nat) : (s.setColl c x).scn m i = s.scn m i := rfl
@[simp] theorem State.setColl_star (c : Coll) (x : Collector) (d : DLane) : (s.setColl c x).star d = s.star d := rfl
@[simp] theorem State.setColl_can (c : Coll) (x : Collector) (m : Lane) (i : Nat) : (s.setColl c x).can m i = s.can m i := rfl
@[simp] theorem State.setColl_dma (c : Coll) (x : Collector) (m : Lane) (i : Nat) : (s.setColl c x).dma m i = s.dma m i := rfl
@[simp] theorem State.setColl_er (c : Coll) (x : Collector) (m : Lane) : (s.setColl c x).er m = s.er m := rfl
@[simp] theorem State.setColl_ic (c : Coll) (x : Collector) (m : Lane) : (s.setColl c x).ic m = s.ic m := rfl
@[simp] theorem State.setColl_reg (c : Coll) (x : Collector) (q : Nat) : (s.setColl c x).reg q = s.reg q := rfl
@[simp] theorem State.setColl_rd8 (c : Coll) (x : Collector) (m i : Nat) : (s.setColl c x).rd8 m i = s.rd8 m i := rfl
@[simp] theorem State.setColl_fg (c : Coll) (x : Collector) (d : Nat) (g : Fld) : (s.setColl c x).fg d g = s.fg d g := rfl
@[simp] theorem State.setColl_fb (c : Coll) (x : Collector) (d : Nat) (g : Fld) : (s.setColl c x).fb d g = s.fb d g := rfl
@[simp] theorem State.setColl_fi (c : Coll) (x : Collector) (d : Nat) (g : Fld) : (s.setColl c x).fi d g = s.fi d g := rfl
@[simp] theorem State.setColl_running (c : Coll) (x : Collector) (m : Lane) : (s.setColl c x).running m = s.running m := rfl

/-! setCell -/

@[simp] theorem State.setCell_pending (l : DLane) (c : Nat) (x : CellSt) : (s.setCell l c x).pending = s.pending := rfl
@[simp] theorem State.setCell_now (l : DLane) (c : Nat) (x : CellSt) : (s.setCell l c x).now = s.now := rfl
@[simp] theorem State.setCell_free (l : DLane) (c : Nat) (x : CellSt) : (s.setCell l c x).free = s.free := rfl
@[simp] theorem State.setCell_readData (l : DLane) (c : Nat) (x : CellSt) : (s.setCell l c x).readData = s.readData := rfl
@[simp] theorem State.setCell_rtcAt (l : DLane) (c : Nat) (x : CellSt) : (s.setCell l c x).rtcAt = s.rtcAt := rfl
@[simp] theorem State.setCell_regs (l : DLane) (c : Nat) (x : CellSt) : (s.setCell l c x).regs = s.regs := rfl
@[simp] theorem State.setCell_mem (l : DLane) (c : Nat) (x : CellSt) : (s.setCell l c x).mem = s.mem := rfl
@[simp] theorem State.setCell_evq (l : DLane) (c : Nat) (x : CellSt) : (s.setCell l c x).evq = s.evq := rfl
@[simp] theorem State.setCell_sk (l : DLane) (c : Nat) (x : CellSt) : (s.setCell l c x).sk = s.sk := rfl
@[simp] theorem State.setCell_tab (l : DLane) (c : Nat) (x : CellSt) : (s.setCell l c x).tab = s.tab := rfl
@[simp] theorem State.setCell_sf (l : DLane) (c : Nat) (x : CellSt) : (s.setCell l c x).sf = s.sf := rfl
@[simp] theorem State.setCell_xc (l : DLane) (c : Nat) (x : CellSt) : (s.setCell l c x).xc = s.xc := rfl
@[simp] theorem State.setCell_cmp (l : DLane) (c : Nat) (x : CellSt) : (s.setCell l c x).cmp = s.cmp := rfl
@[simp] theorem State.setCell_lanes (l : DLane) (c : Nat) (x : CellSt) : (s.setCell l c x).lanes = s.lanes := rfl
@[simp] theorem State.setCell_colls (l : DLane) (c : Nat) (x : CellSt) : (s.setCell l c x).colls = s.colls := rfl
@[simp] theorem State.setCell_buses (l : DLane) (c : Nat) (x : CellSt) : (s.setCell l c x).buses = s.buses := rfl
@[simp] theorem State.setCell_axes (l : DLane) (c : Nat) (x : CellSt) : (s.setCell l c x).axes = s.axes := rfl
@[simp] theorem State.setCell_fbs (l : DLane) (c : Nat) (x : CellSt) : (s.setCell l c x).fbs = s.fbs := rfl
@[simp] theorem State.setCell_fired (l : DLane) (c : Nat) (x : CellSt) : (s.setCell l c x).fired = s.fired := rfl
@[simp] theorem State.setCell_cals (l : DLane) (c : Nat) (x : CellSt) : (s.setCell l c x).cals = s.cals := rfl
@[simp] theorem State.setCell_pgs (l : DLane) (c : Nat) (x : CellSt) : (s.setCell l c x).pgs = s.pgs := rfl
@[simp] theorem State.setCell_pps (l : DLane) (c : Nat) (x : CellSt) : (s.setCell l c x).pps = s.pps := rfl
@[simp] theorem State.setCell_les (l : DLane) (c : Nat) (x : CellSt) : (s.setCell l c x).les = s.les := rfl
@[simp] theorem State.setCell_jobs (l : DLane) (c : Nat) (x : CellSt) : (s.setCell l c x).jobs = s.jobs := rfl
@[simp] theorem State.setCell_scns (l : DLane) (c : Nat) (x : CellSt) : (s.setCell l c x).scns = s.scns := rfl
@[simp] theorem State.setCell_stars (l : DLane) (c : Nat) (x : CellSt) : (s.setCell l c x).stars = s.stars := rfl
@[simp] theorem State.setCell_cans (l : DLane) (c : Nat) (x : CellSt) : (s.setCell l c x).cans = s.cans := rfl
@[simp] theorem State.setCell_dmas (l : DLane) (c : Nat) (x : CellSt) : (s.setCell l c x).dmas = s.dmas := rfl
@[simp] theorem State.setCell_ers (l : DLane) (c : Nat) (x : CellSt) : (s.setCell l c x).ers = s.ers := rfl
@[simp] theorem State.setCell_ics (l : DLane) (c : Nat) (x : CellSt) : (s.setCell l c x).ics = s.ics := rfl
@[simp] theorem State.setCell_lane (l : DLane) (c : Nat) (x : CellSt) (m : Lane) : (s.setCell l c x).lane m = s.lane m := rfl
@[simp] theorem State.setCell_coll (l : DLane) (c : Nat) (x : CellSt) (d : Coll) : (s.setCell l c x).coll d = s.coll d := rfl
@[simp] theorem State.setCell_axis (l : DLane) (c : Nat) (x : CellSt) (d : DLane) (i : Nat) : (s.setCell l c x).axis d i = s.axis d i := rfl
@[simp] theorem State.setCell_fbu (l : DLane) (c : Nat) (x : CellSt) (d : DLane) (i : Nat) : (s.setCell l c x).fbu d i = s.fbu d i := rfl
@[simp] theorem State.setCell_calx (l : DLane) (c : Nat) (x : CellSt) (d : DLane) (i : Nat) : (s.setCell l c x).calx d i = s.calx d i := rfl
@[simp] theorem State.setCell_pg (l : DLane) (c : Nat) (x : CellSt) (d : DLane) (i : Nat) : (s.setCell l c x).pg d i = s.pg d i := rfl
@[simp] theorem State.setCell_pp (l : DLane) (c : Nat) (x : CellSt) (d : DLane) (i : Nat) : (s.setCell l c x).pp d i = s.pp d i := rfl
@[simp] theorem State.setCell_le (l : DLane) (c : Nat) (x : CellSt) (m : Lane) : (s.setCell l c x).le m = s.le m := rfl
@[simp] theorem State.setCell_job (l : DLane) (c : Nat) (x : CellSt) (m : Lane) (i : Nat) : (s.setCell l c x).job m i = s.job m i := rfl
@[simp] theorem State.setCell_scn (l : DLane) (c : Nat) (x : CellSt) (m : Lane) (i : Nat) : (s.setCell l c x).scn m i = s.scn m i := rfl
@[simp] theorem State.setCell_star (l : DLane) (c : Nat) (x : CellSt) (d : DLane) : (s.setCell l c x).star d = s.star d := rfl
@[simp] theorem State.setCell_can (l : DLane) (c : Nat) (x : CellSt) (m : Lane) (i : Nat) : (s.setCell l c x).can m i = s.can m i := rfl
@[simp] theorem State.setCell_dma (l : DLane) (c : Nat) (x : CellSt) (m : Lane) (i : Nat) : (s.setCell l c x).dma m i = s.dma m i := rfl
@[simp] theorem State.setCell_er (l : DLane) (c : Nat) (x : CellSt) (m : Lane) : (s.setCell l c x).er m = s.er m := rfl
@[simp] theorem State.setCell_ic (l : DLane) (c : Nat) (x : CellSt) (m : Lane) : (s.setCell l c x).ic m = s.ic m := rfl
@[simp] theorem State.setCell_reg (l : DLane) (c : Nat) (x : CellSt) (q : Nat) : (s.setCell l c x).reg q = s.reg q := rfl
@[simp] theorem State.setCell_rd8 (l : DLane) (c : Nat) (x : CellSt) (m i : Nat) : (s.setCell l c x).rd8 m i = s.rd8 m i := rfl
@[simp] theorem State.setCell_fg (l : DLane) (c : Nat) (x : CellSt) (d : Nat) (g : Fld) : (s.setCell l c x).fg d g = s.fg d g := rfl
@[simp] theorem State.setCell_fb (l : DLane) (c : Nat) (x : CellSt) (d : Nat) (g : Fld) : (s.setCell l c x).fb d g = s.fb d g := rfl
@[simp] theorem State.setCell_fi (l : DLane) (c : Nat) (x : CellSt) (d : Nat) (g : Fld) : (s.setCell l c x).fi d g = s.fi d g := rfl
@[simp] theorem State.setCell_running (l : DLane) (c : Nat) (x : CellSt) (m : Lane) : (s.setCell l c x).running m = s.running m := rfl

/-! setAxis -/

@[simp] theorem State.setAxis_pending (l : DLane) (n : Nat) (x : AxisSt) : (s.setAxis l n x).pending = s.pending := rfl
@[simp] theorem State.setAxis_now (l : DLane) (n : Nat) (x : AxisSt) : (s.setAxis l n x).now = s.now := rfl
@[simp] theorem State.setAxis_free (l : DLane) (n : Nat) (x : AxisSt) : (s.setAxis l n x).free = s.free := rfl
@[simp] theorem State.setAxis_readData (l : DLane) (n : Nat) (x : AxisSt) : (s.setAxis l n x).readData = s.readData := rfl
@[simp] theorem State.setAxis_rtcAt (l : DLane) (n : Nat) (x : AxisSt) : (s.setAxis l n x).rtcAt = s.rtcAt := rfl
@[simp] theorem State.setAxis_regs (l : DLane) (n : Nat) (x : AxisSt) : (s.setAxis l n x).regs = s.regs := rfl
@[simp] theorem State.setAxis_mem (l : DLane) (n : Nat) (x : AxisSt) : (s.setAxis l n x).mem = s.mem := rfl
@[simp] theorem State.setAxis_evq (l : DLane) (n : Nat) (x : AxisSt) : (s.setAxis l n x).evq = s.evq := rfl
@[simp] theorem State.setAxis_sk (l : DLane) (n : Nat) (x : AxisSt) : (s.setAxis l n x).sk = s.sk := rfl
@[simp] theorem State.setAxis_tab (l : DLane) (n : Nat) (x : AxisSt) : (s.setAxis l n x).tab = s.tab := rfl
@[simp] theorem State.setAxis_sf (l : DLane) (n : Nat) (x : AxisSt) : (s.setAxis l n x).sf = s.sf := rfl
@[simp] theorem State.setAxis_xc (l : DLane) (n : Nat) (x : AxisSt) : (s.setAxis l n x).xc = s.xc := rfl
@[simp] theorem State.setAxis_cmp (l : DLane) (n : Nat) (x : AxisSt) : (s.setAxis l n x).cmp = s.cmp := rfl
@[simp] theorem State.setAxis_lanes (l : DLane) (n : Nat) (x : AxisSt) : (s.setAxis l n x).lanes = s.lanes := rfl
@[simp] theorem State.setAxis_colls (l : DLane) (n : Nat) (x : AxisSt) : (s.setAxis l n x).colls = s.colls := rfl
@[simp] theorem State.setAxis_cells (l : DLane) (n : Nat) (x : AxisSt) : (s.setAxis l n x).cells = s.cells := rfl
@[simp] theorem State.setAxis_buses (l : DLane) (n : Nat) (x : AxisSt) : (s.setAxis l n x).buses = s.buses := rfl
@[simp] theorem State.setAxis_fbs (l : DLane) (n : Nat) (x : AxisSt) : (s.setAxis l n x).fbs = s.fbs := rfl
@[simp] theorem State.setAxis_fired (l : DLane) (n : Nat) (x : AxisSt) : (s.setAxis l n x).fired = s.fired := rfl
@[simp] theorem State.setAxis_cals (l : DLane) (n : Nat) (x : AxisSt) : (s.setAxis l n x).cals = s.cals := rfl
@[simp] theorem State.setAxis_pgs (l : DLane) (n : Nat) (x : AxisSt) : (s.setAxis l n x).pgs = s.pgs := rfl
@[simp] theorem State.setAxis_pps (l : DLane) (n : Nat) (x : AxisSt) : (s.setAxis l n x).pps = s.pps := rfl
@[simp] theorem State.setAxis_les (l : DLane) (n : Nat) (x : AxisSt) : (s.setAxis l n x).les = s.les := rfl
@[simp] theorem State.setAxis_jobs (l : DLane) (n : Nat) (x : AxisSt) : (s.setAxis l n x).jobs = s.jobs := rfl
@[simp] theorem State.setAxis_scns (l : DLane) (n : Nat) (x : AxisSt) : (s.setAxis l n x).scns = s.scns := rfl
@[simp] theorem State.setAxis_stars (l : DLane) (n : Nat) (x : AxisSt) : (s.setAxis l n x).stars = s.stars := rfl
@[simp] theorem State.setAxis_cans (l : DLane) (n : Nat) (x : AxisSt) : (s.setAxis l n x).cans = s.cans := rfl
@[simp] theorem State.setAxis_dmas (l : DLane) (n : Nat) (x : AxisSt) : (s.setAxis l n x).dmas = s.dmas := rfl
@[simp] theorem State.setAxis_ers (l : DLane) (n : Nat) (x : AxisSt) : (s.setAxis l n x).ers = s.ers := rfl
@[simp] theorem State.setAxis_ics (l : DLane) (n : Nat) (x : AxisSt) : (s.setAxis l n x).ics = s.ics := rfl
@[simp] theorem State.setAxis_lane (l : DLane) (n : Nat) (x : AxisSt) (m : Lane) : (s.setAxis l n x).lane m = s.lane m := rfl
@[simp] theorem State.setAxis_coll (l : DLane) (n : Nat) (x : AxisSt) (d : Coll) : (s.setAxis l n x).coll d = s.coll d := rfl
@[simp] theorem State.setAxis_cell (l : DLane) (n : Nat) (x : AxisSt) (d : DLane) (i : Nat) : (s.setAxis l n x).cell d i = s.cell d i := rfl
@[simp] theorem State.setAxis_fbu (l : DLane) (n : Nat) (x : AxisSt) (d : DLane) (i : Nat) : (s.setAxis l n x).fbu d i = s.fbu d i := rfl
@[simp] theorem State.setAxis_calx (l : DLane) (n : Nat) (x : AxisSt) (d : DLane) (i : Nat) : (s.setAxis l n x).calx d i = s.calx d i := rfl
@[simp] theorem State.setAxis_pg (l : DLane) (n : Nat) (x : AxisSt) (d : DLane) (i : Nat) : (s.setAxis l n x).pg d i = s.pg d i := rfl
@[simp] theorem State.setAxis_pp (l : DLane) (n : Nat) (x : AxisSt) (d : DLane) (i : Nat) : (s.setAxis l n x).pp d i = s.pp d i := rfl
@[simp] theorem State.setAxis_le (l : DLane) (n : Nat) (x : AxisSt) (m : Lane) : (s.setAxis l n x).le m = s.le m := rfl
@[simp] theorem State.setAxis_job (l : DLane) (n : Nat) (x : AxisSt) (m : Lane) (i : Nat) : (s.setAxis l n x).job m i = s.job m i := rfl
@[simp] theorem State.setAxis_scn (l : DLane) (n : Nat) (x : AxisSt) (m : Lane) (i : Nat) : (s.setAxis l n x).scn m i = s.scn m i := rfl
@[simp] theorem State.setAxis_star (l : DLane) (n : Nat) (x : AxisSt) (d : DLane) : (s.setAxis l n x).star d = s.star d := rfl
@[simp] theorem State.setAxis_can (l : DLane) (n : Nat) (x : AxisSt) (m : Lane) (i : Nat) : (s.setAxis l n x).can m i = s.can m i := rfl
@[simp] theorem State.setAxis_dma (l : DLane) (n : Nat) (x : AxisSt) (m : Lane) (i : Nat) : (s.setAxis l n x).dma m i = s.dma m i := rfl
@[simp] theorem State.setAxis_er (l : DLane) (n : Nat) (x : AxisSt) (m : Lane) : (s.setAxis l n x).er m = s.er m := rfl
@[simp] theorem State.setAxis_ic (l : DLane) (n : Nat) (x : AxisSt) (m : Lane) : (s.setAxis l n x).ic m = s.ic m := rfl
@[simp] theorem State.setAxis_reg (l : DLane) (n : Nat) (x : AxisSt) (q : Nat) : (s.setAxis l n x).reg q = s.reg q := rfl
@[simp] theorem State.setAxis_rd8 (l : DLane) (n : Nat) (x : AxisSt) (m i : Nat) : (s.setAxis l n x).rd8 m i = s.rd8 m i := rfl
@[simp] theorem State.setAxis_fg (l : DLane) (n : Nat) (x : AxisSt) (d : Nat) (g : Fld) : (s.setAxis l n x).fg d g = s.fg d g := rfl
@[simp] theorem State.setAxis_fb (l : DLane) (n : Nat) (x : AxisSt) (d : Nat) (g : Fld) : (s.setAxis l n x).fb d g = s.fb d g := rfl
@[simp] theorem State.setAxis_fi (l : DLane) (n : Nat) (x : AxisSt) (d : Nat) (g : Fld) : (s.setAxis l n x).fi d g = s.fi d g := rfl
@[simp] theorem State.setAxis_running (l : DLane) (n : Nat) (x : AxisSt) (m : Lane) : (s.setAxis l n x).running m = s.running m := rfl

/-! setFbu -/

@[simp] theorem State.setFbu_pending (l : DLane) (n : Nat) (x : FbSt) : (s.setFbu l n x).pending = s.pending := rfl
@[simp] theorem State.setFbu_now (l : DLane) (n : Nat) (x : FbSt) : (s.setFbu l n x).now = s.now := rfl
@[simp] theorem State.setFbu_free (l : DLane) (n : Nat) (x : FbSt) : (s.setFbu l n x).free = s.free := rfl
@[simp] theorem State.setFbu_readData (l : DLane) (n : Nat) (x : FbSt) : (s.setFbu l n x).readData = s.readData := rfl
@[simp] theorem State.setFbu_rtcAt (l : DLane) (n : Nat) (x : FbSt) : (s.setFbu l n x).rtcAt = s.rtcAt := rfl
@[simp] theorem State.setFbu_regs (l : DLane) (n : Nat) (x : FbSt) : (s.setFbu l n x).regs = s.regs := rfl
@[simp] theorem State.setFbu_mem (l : DLane) (n : Nat) (x : FbSt) : (s.setFbu l n x).mem = s.mem := rfl
@[simp] theorem State.setFbu_evq (l : DLane) (n : Nat) (x : FbSt) : (s.setFbu l n x).evq = s.evq := rfl
@[simp] theorem State.setFbu_sk (l : DLane) (n : Nat) (x : FbSt) : (s.setFbu l n x).sk = s.sk := rfl
@[simp] theorem State.setFbu_tab (l : DLane) (n : Nat) (x : FbSt) : (s.setFbu l n x).tab = s.tab := rfl
@[simp] theorem State.setFbu_sf (l : DLane) (n : Nat) (x : FbSt) : (s.setFbu l n x).sf = s.sf := rfl
@[simp] theorem State.setFbu_xc (l : DLane) (n : Nat) (x : FbSt) : (s.setFbu l n x).xc = s.xc := rfl
@[simp] theorem State.setFbu_cmp (l : DLane) (n : Nat) (x : FbSt) : (s.setFbu l n x).cmp = s.cmp := rfl
@[simp] theorem State.setFbu_lanes (l : DLane) (n : Nat) (x : FbSt) : (s.setFbu l n x).lanes = s.lanes := rfl
@[simp] theorem State.setFbu_colls (l : DLane) (n : Nat) (x : FbSt) : (s.setFbu l n x).colls = s.colls := rfl
@[simp] theorem State.setFbu_cells (l : DLane) (n : Nat) (x : FbSt) : (s.setFbu l n x).cells = s.cells := rfl
@[simp] theorem State.setFbu_buses (l : DLane) (n : Nat) (x : FbSt) : (s.setFbu l n x).buses = s.buses := rfl
@[simp] theorem State.setFbu_axes (l : DLane) (n : Nat) (x : FbSt) : (s.setFbu l n x).axes = s.axes := rfl
@[simp] theorem State.setFbu_fired (l : DLane) (n : Nat) (x : FbSt) : (s.setFbu l n x).fired = s.fired := rfl
@[simp] theorem State.setFbu_cals (l : DLane) (n : Nat) (x : FbSt) : (s.setFbu l n x).cals = s.cals := rfl
@[simp] theorem State.setFbu_pgs (l : DLane) (n : Nat) (x : FbSt) : (s.setFbu l n x).pgs = s.pgs := rfl
@[simp] theorem State.setFbu_pps (l : DLane) (n : Nat) (x : FbSt) : (s.setFbu l n x).pps = s.pps := rfl
@[simp] theorem State.setFbu_les (l : DLane) (n : Nat) (x : FbSt) : (s.setFbu l n x).les = s.les := rfl
@[simp] theorem State.setFbu_jobs (l : DLane) (n : Nat) (x : FbSt) : (s.setFbu l n x).jobs = s.jobs := rfl
@[simp] theorem State.setFbu_scns (l : DLane) (n : Nat) (x : FbSt) : (s.setFbu l n x).scns = s.scns := rfl
@[simp] theorem State.setFbu_stars (l : DLane) (n : Nat) (x : FbSt) : (s.setFbu l n x).stars = s.stars := rfl
@[simp] theorem State.setFbu_cans (l : DLane) (n : Nat) (x : FbSt) : (s.setFbu l n x).cans = s.cans := rfl
@[simp] theorem State.setFbu_dmas (l : DLane) (n : Nat) (x : FbSt) : (s.setFbu l n x).dmas = s.dmas := rfl
@[simp] theorem State.setFbu_ers (l : DLane) (n : Nat) (x : FbSt) : (s.setFbu l n x).ers = s.ers := rfl
@[simp] theorem State.setFbu_ics (l : DLane) (n : Nat) (x : FbSt) : (s.setFbu l n x).ics = s.ics := rfl
@[simp] theorem State.setFbu_lane (l : DLane) (n : Nat) (x : FbSt) (m : Lane) : (s.setFbu l n x).lane m = s.lane m := rfl
@[simp] theorem State.setFbu_coll (l : DLane) (n : Nat) (x : FbSt) (d : Coll) : (s.setFbu l n x).coll d = s.coll d := rfl
@[simp] theorem State.setFbu_cell (l : DLane) (n : Nat) (x : FbSt) (d : DLane) (i : Nat) : (s.setFbu l n x).cell d i = s.cell d i := rfl
@[simp] theorem State.setFbu_axis (l : DLane) (n : Nat) (x : FbSt) (d : DLane) (i : Nat) : (s.setFbu l n x).axis d i = s.axis d i := rfl
@[simp] theorem State.setFbu_calx (l : DLane) (n : Nat) (x : FbSt) (d : DLane) (i : Nat) : (s.setFbu l n x).calx d i = s.calx d i := rfl
@[simp] theorem State.setFbu_pg (l : DLane) (n : Nat) (x : FbSt) (d : DLane) (i : Nat) : (s.setFbu l n x).pg d i = s.pg d i := rfl
@[simp] theorem State.setFbu_pp (l : DLane) (n : Nat) (x : FbSt) (d : DLane) (i : Nat) : (s.setFbu l n x).pp d i = s.pp d i := rfl
@[simp] theorem State.setFbu_le (l : DLane) (n : Nat) (x : FbSt) (m : Lane) : (s.setFbu l n x).le m = s.le m := rfl
@[simp] theorem State.setFbu_job (l : DLane) (n : Nat) (x : FbSt) (m : Lane) (i : Nat) : (s.setFbu l n x).job m i = s.job m i := rfl
@[simp] theorem State.setFbu_scn (l : DLane) (n : Nat) (x : FbSt) (m : Lane) (i : Nat) : (s.setFbu l n x).scn m i = s.scn m i := rfl
@[simp] theorem State.setFbu_star (l : DLane) (n : Nat) (x : FbSt) (d : DLane) : (s.setFbu l n x).star d = s.star d := rfl
@[simp] theorem State.setFbu_can (l : DLane) (n : Nat) (x : FbSt) (m : Lane) (i : Nat) : (s.setFbu l n x).can m i = s.can m i := rfl
@[simp] theorem State.setFbu_dma (l : DLane) (n : Nat) (x : FbSt) (m : Lane) (i : Nat) : (s.setFbu l n x).dma m i = s.dma m i := rfl
@[simp] theorem State.setFbu_er (l : DLane) (n : Nat) (x : FbSt) (m : Lane) : (s.setFbu l n x).er m = s.er m := rfl
@[simp] theorem State.setFbu_ic (l : DLane) (n : Nat) (x : FbSt) (m : Lane) : (s.setFbu l n x).ic m = s.ic m := rfl
@[simp] theorem State.setFbu_reg (l : DLane) (n : Nat) (x : FbSt) (q : Nat) : (s.setFbu l n x).reg q = s.reg q := rfl
@[simp] theorem State.setFbu_rd8 (l : DLane) (n : Nat) (x : FbSt) (m i : Nat) : (s.setFbu l n x).rd8 m i = s.rd8 m i := rfl
@[simp] theorem State.setFbu_fg (l : DLane) (n : Nat) (x : FbSt) (d : Nat) (g : Fld) : (s.setFbu l n x).fg d g = s.fg d g := rfl
@[simp] theorem State.setFbu_fb (l : DLane) (n : Nat) (x : FbSt) (d : Nat) (g : Fld) : (s.setFbu l n x).fb d g = s.fb d g := rfl
@[simp] theorem State.setFbu_fi (l : DLane) (n : Nat) (x : FbSt) (d : Nat) (g : Fld) : (s.setFbu l n x).fi d g = s.fi d g := rfl
@[simp] theorem State.setFbu_running (l : DLane) (n : Nat) (x : FbSt) (m : Lane) : (s.setFbu l n x).running m = s.running m := rfl

/-! setCal -/

@[simp] theorem State.setCal_pending (l : DLane) (n : Nat) (x : CalSt) : (s.setCal l n x).pending = s.pending := rfl
@[simp] theorem State.setCal_now (l : DLane) (n : Nat) (x : CalSt) : (s.setCal l n x).now = s.now := rfl
@[simp] theorem State.setCal_free (l : DLane) (n : Nat) (x : CalSt) : (s.setCal l n x).free = s.free := rfl
@[simp] theorem State.setCal_readData (l : DLane) (n : Nat) (x : CalSt) : (s.setCal l n x).readData = s.readData := rfl
@[simp] theorem State.setCal_rtcAt (l : DLane) (n : Nat) (x : CalSt) : (s.setCal l n x).rtcAt = s.rtcAt := rfl
@[simp] theorem State.setCal_regs (l : DLane) (n : Nat) (x : CalSt) : (s.setCal l n x).regs = s.regs := rfl
@[simp] theorem State.setCal_mem (l : DLane) (n : Nat) (x : CalSt) : (s.setCal l n x).mem = s.mem := rfl
@[simp] theorem State.setCal_evq (l : DLane) (n : Nat) (x : CalSt) : (s.setCal l n x).evq = s.evq := rfl
@[simp] theorem State.setCal_sk (l : DLane) (n : Nat) (x : CalSt) : (s.setCal l n x).sk = s.sk := rfl
@[simp] theorem State.setCal_tab (l : DLane) (n : Nat) (x : CalSt) : (s.setCal l n x).tab = s.tab := rfl
@[simp] theorem State.setCal_sf (l : DLane) (n : Nat) (x : CalSt) : (s.setCal l n x).sf = s.sf := rfl
@[simp] theorem State.setCal_xc (l : DLane) (n : Nat) (x : CalSt) : (s.setCal l n x).xc = s.xc := rfl
@[simp] theorem State.setCal_cmp (l : DLane) (n : Nat) (x : CalSt) : (s.setCal l n x).cmp = s.cmp := rfl
@[simp] theorem State.setCal_lanes (l : DLane) (n : Nat) (x : CalSt) : (s.setCal l n x).lanes = s.lanes := rfl
@[simp] theorem State.setCal_colls (l : DLane) (n : Nat) (x : CalSt) : (s.setCal l n x).colls = s.colls := rfl
@[simp] theorem State.setCal_cells (l : DLane) (n : Nat) (x : CalSt) : (s.setCal l n x).cells = s.cells := rfl
@[simp] theorem State.setCal_buses (l : DLane) (n : Nat) (x : CalSt) : (s.setCal l n x).buses = s.buses := rfl
@[simp] theorem State.setCal_axes (l : DLane) (n : Nat) (x : CalSt) : (s.setCal l n x).axes = s.axes := rfl
@[simp] theorem State.setCal_fbs (l : DLane) (n : Nat) (x : CalSt) : (s.setCal l n x).fbs = s.fbs := rfl
@[simp] theorem State.setCal_fired (l : DLane) (n : Nat) (x : CalSt) : (s.setCal l n x).fired = s.fired := rfl
@[simp] theorem State.setCal_pgs (l : DLane) (n : Nat) (x : CalSt) : (s.setCal l n x).pgs = s.pgs := rfl
@[simp] theorem State.setCal_pps (l : DLane) (n : Nat) (x : CalSt) : (s.setCal l n x).pps = s.pps := rfl
@[simp] theorem State.setCal_les (l : DLane) (n : Nat) (x : CalSt) : (s.setCal l n x).les = s.les := rfl
@[simp] theorem State.setCal_jobs (l : DLane) (n : Nat) (x : CalSt) : (s.setCal l n x).jobs = s.jobs := rfl
@[simp] theorem State.setCal_scns (l : DLane) (n : Nat) (x : CalSt) : (s.setCal l n x).scns = s.scns := rfl
@[simp] theorem State.setCal_stars (l : DLane) (n : Nat) (x : CalSt) : (s.setCal l n x).stars = s.stars := rfl
@[simp] theorem State.setCal_cans (l : DLane) (n : Nat) (x : CalSt) : (s.setCal l n x).cans = s.cans := rfl
@[simp] theorem State.setCal_dmas (l : DLane) (n : Nat) (x : CalSt) : (s.setCal l n x).dmas = s.dmas := rfl
@[simp] theorem State.setCal_ers (l : DLane) (n : Nat) (x : CalSt) : (s.setCal l n x).ers = s.ers := rfl
@[simp] theorem State.setCal_ics (l : DLane) (n : Nat) (x : CalSt) : (s.setCal l n x).ics = s.ics := rfl
@[simp] theorem State.setCal_lane (l : DLane) (n : Nat) (x : CalSt) (m : Lane) : (s.setCal l n x).lane m = s.lane m := rfl
@[simp] theorem State.setCal_coll (l : DLane) (n : Nat) (x : CalSt) (d : Coll) : (s.setCal l n x).coll d = s.coll d := rfl
@[simp] theorem State.setCal_cell (l : DLane) (n : Nat) (x : CalSt) (d : DLane) (i : Nat) : (s.setCal l n x).cell d i = s.cell d i := rfl
@[simp] theorem State.setCal_axis (l : DLane) (n : Nat) (x : CalSt) (d : DLane) (i : Nat) : (s.setCal l n x).axis d i = s.axis d i := rfl
@[simp] theorem State.setCal_fbu (l : DLane) (n : Nat) (x : CalSt) (d : DLane) (i : Nat) : (s.setCal l n x).fbu d i = s.fbu d i := rfl
@[simp] theorem State.setCal_pg (l : DLane) (n : Nat) (x : CalSt) (d : DLane) (i : Nat) : (s.setCal l n x).pg d i = s.pg d i := rfl
@[simp] theorem State.setCal_pp (l : DLane) (n : Nat) (x : CalSt) (d : DLane) (i : Nat) : (s.setCal l n x).pp d i = s.pp d i := rfl
@[simp] theorem State.setCal_le (l : DLane) (n : Nat) (x : CalSt) (m : Lane) : (s.setCal l n x).le m = s.le m := rfl
@[simp] theorem State.setCal_job (l : DLane) (n : Nat) (x : CalSt) (m : Lane) (i : Nat) : (s.setCal l n x).job m i = s.job m i := rfl
@[simp] theorem State.setCal_scn (l : DLane) (n : Nat) (x : CalSt) (m : Lane) (i : Nat) : (s.setCal l n x).scn m i = s.scn m i := rfl
@[simp] theorem State.setCal_star (l : DLane) (n : Nat) (x : CalSt) (d : DLane) : (s.setCal l n x).star d = s.star d := rfl
@[simp] theorem State.setCal_can (l : DLane) (n : Nat) (x : CalSt) (m : Lane) (i : Nat) : (s.setCal l n x).can m i = s.can m i := rfl
@[simp] theorem State.setCal_dma (l : DLane) (n : Nat) (x : CalSt) (m : Lane) (i : Nat) : (s.setCal l n x).dma m i = s.dma m i := rfl
@[simp] theorem State.setCal_er (l : DLane) (n : Nat) (x : CalSt) (m : Lane) : (s.setCal l n x).er m = s.er m := rfl
@[simp] theorem State.setCal_ic (l : DLane) (n : Nat) (x : CalSt) (m : Lane) : (s.setCal l n x).ic m = s.ic m := rfl
@[simp] theorem State.setCal_reg (l : DLane) (n : Nat) (x : CalSt) (q : Nat) : (s.setCal l n x).reg q = s.reg q := rfl
@[simp] theorem State.setCal_rd8 (l : DLane) (n : Nat) (x : CalSt) (m i : Nat) : (s.setCal l n x).rd8 m i = s.rd8 m i := rfl
@[simp] theorem State.setCal_fg (l : DLane) (n : Nat) (x : CalSt) (d : Nat) (g : Fld) : (s.setCal l n x).fg d g = s.fg d g := rfl
@[simp] theorem State.setCal_fb (l : DLane) (n : Nat) (x : CalSt) (d : Nat) (g : Fld) : (s.setCal l n x).fb d g = s.fb d g := rfl
@[simp] theorem State.setCal_fi (l : DLane) (n : Nat) (x : CalSt) (d : Nat) (g : Fld) : (s.setCal l n x).fi d g = s.fi d g := rfl
@[simp] theorem State.setCal_running (l : DLane) (n : Nat) (x : CalSt) (m : Lane) : (s.setCal l n x).running m = s.running m := rfl

/-! setPg -/

@[simp] theorem State.setPg_pending (l : DLane) (n : Nat) (x : PgSt) : (s.setPg l n x).pending = s.pending := rfl
@[simp] theorem State.setPg_now (l : DLane) (n : Nat) (x : PgSt) : (s.setPg l n x).now = s.now := rfl
@[simp] theorem State.setPg_free (l : DLane) (n : Nat) (x : PgSt) : (s.setPg l n x).free = s.free := rfl
@[simp] theorem State.setPg_readData (l : DLane) (n : Nat) (x : PgSt) : (s.setPg l n x).readData = s.readData := rfl
@[simp] theorem State.setPg_rtcAt (l : DLane) (n : Nat) (x : PgSt) : (s.setPg l n x).rtcAt = s.rtcAt := rfl
@[simp] theorem State.setPg_regs (l : DLane) (n : Nat) (x : PgSt) : (s.setPg l n x).regs = s.regs := rfl
@[simp] theorem State.setPg_mem (l : DLane) (n : Nat) (x : PgSt) : (s.setPg l n x).mem = s.mem := rfl
@[simp] theorem State.setPg_evq (l : DLane) (n : Nat) (x : PgSt) : (s.setPg l n x).evq = s.evq := rfl
@[simp] theorem State.setPg_sk (l : DLane) (n : Nat) (x : PgSt) : (s.setPg l n x).sk = s.sk := rfl
@[simp] theorem State.setPg_tab (l : DLane) (n : Nat) (x : PgSt) : (s.setPg l n x).tab = s.tab := rfl
@[simp] theorem State.setPg_sf (l : DLane) (n : Nat) (x : PgSt) : (s.setPg l n x).sf = s.sf := rfl
@[simp] theorem State.setPg_xc (l : DLane) (n : Nat) (x : PgSt) : (s.setPg l n x).xc = s.xc := rfl
@[simp] theorem State.setPg_cmp (l : DLane) (n : Nat) (x : PgSt) : (s.setPg l n x).cmp = s.cmp := rfl
@[simp] theorem State.setPg_lanes (l : DLane) (n : Nat) (x : PgSt) : (s.setPg l n x).lanes = s.lanes := rfl
@[simp] theorem State.setPg_colls (l : DLane) (n : Nat) (x : PgSt) : (s.setPg l n x).colls = s.colls := rfl
@[simp] theorem State.setPg_cells (l : DLane) (n : Nat) (x : PgSt) : (s.setPg l n x).cells = s.cells := rfl
@[simp] theorem State.setPg_buses (l : DLane) (n : Nat) (x : PgSt) : (s.setPg l n x).buses = s.buses := rfl
@[simp] theorem State.setPg_axes (l : DLane) (n : Nat) (x : PgSt) : (s.setPg l n x).axes = s.axes := rfl
@[simp] theorem State.setPg_fbs (l : DLane) (n : Nat) (x : PgSt) : (s.setPg l n x).fbs = s.fbs := rfl
@[simp] theorem State.setPg_fired (l : DLane) (n : Nat) (x : PgSt) : (s.setPg l n x).fired = s.fired := rfl
@[simp] theorem State.setPg_cals (l : DLane) (n : Nat) (x : PgSt) : (s.setPg l n x).cals = s.cals := rfl
@[simp] theorem State.setPg_pps (l : DLane) (n : Nat) (x : PgSt) : (s.setPg l n x).pps = s.pps := rfl
@[simp] theorem State.setPg_les (l : DLane) (n : Nat) (x : PgSt) : (s.setPg l n x).les = s.les := rfl
@[simp] theorem State.setPg_jobs (l : DLane) (n : Nat) (x : PgSt) : (s.setPg l n x).jobs = s.jobs := rfl
@[simp] theorem State.setPg_scns (l : DLane) (n : Nat) (x : PgSt) : (s.setPg l n x).scns = s.scns := rfl
@[simp] theorem State.setPg_stars (l : DLane) (n : Nat) (x : PgSt) : (s.setPg l n x).stars = s.stars := rfl
@[simp] theorem State.setPg_cans (l : DLane) (n : Nat) (x : PgSt) : (s.setPg l n x).cans = s.cans := rfl
@[simp] theorem State.setPg_dmas (l : DLane) (n : Nat) (x : PgSt) : (s.setPg l n x).dmas = s.dmas := rfl
@[simp] theorem State.setPg_ers (l : DLane) (n : Nat) (x : PgSt) : (s.setPg l n x).ers = s.ers := rfl
@[simp] theorem State.setPg_ics (l : DLane) (n : Nat) (x : PgSt) : (s.setPg l n x).ics = s.ics := rfl
@[simp] theorem State.setPg_lane (l : DLane) (n : Nat) (x : PgSt) (m : Lane) : (s.setPg l n x).lane m = s.lane m := rfl
@[simp] theorem State.setPg_coll (l : DLane) (n : Nat) (x : PgSt) (d : Coll) : (s.setPg l n x).coll d = s.coll d := rfl
@[simp] theorem State.setPg_cell (l : DLane) (n : Nat) (x : PgSt) (d : DLane) (i : Nat) : (s.setPg l n x).cell d i = s.cell d i := rfl
@[simp] theorem State.setPg_axis (l : DLane) (n : Nat) (x : PgSt) (d : DLane) (i : Nat) : (s.setPg l n x).axis d i = s.axis d i := rfl
@[simp] theorem State.setPg_fbu (l : DLane) (n : Nat) (x : PgSt) (d : DLane) (i : Nat) : (s.setPg l n x).fbu d i = s.fbu d i := rfl
@[simp] theorem State.setPg_calx (l : DLane) (n : Nat) (x : PgSt) (d : DLane) (i : Nat) : (s.setPg l n x).calx d i = s.calx d i := rfl
@[simp] theorem State.setPg_pp (l : DLane) (n : Nat) (x : PgSt) (d : DLane) (i : Nat) : (s.setPg l n x).pp d i = s.pp d i := rfl
@[simp] theorem State.setPg_le (l : DLane) (n : Nat) (x : PgSt) (m : Lane) : (s.setPg l n x).le m = s.le m := rfl
@[simp] theorem State.setPg_job (l : DLane) (n : Nat) (x : PgSt) (m : Lane) (i : Nat) : (s.setPg l n x).job m i = s.job m i := rfl
@[simp] theorem State.setPg_scn (l : DLane) (n : Nat) (x : PgSt) (m : Lane) (i : Nat) : (s.setPg l n x).scn m i = s.scn m i := rfl
@[simp] theorem State.setPg_star (l : DLane) (n : Nat) (x : PgSt) (d : DLane) : (s.setPg l n x).star d = s.star d := rfl
@[simp] theorem State.setPg_can (l : DLane) (n : Nat) (x : PgSt) (m : Lane) (i : Nat) : (s.setPg l n x).can m i = s.can m i := rfl
@[simp] theorem State.setPg_dma (l : DLane) (n : Nat) (x : PgSt) (m : Lane) (i : Nat) : (s.setPg l n x).dma m i = s.dma m i := rfl
@[simp] theorem State.setPg_er (l : DLane) (n : Nat) (x : PgSt) (m : Lane) : (s.setPg l n x).er m = s.er m := rfl
@[simp] theorem State.setPg_ic (l : DLane) (n : Nat) (x : PgSt) (m : Lane) : (s.setPg l n x).ic m = s.ic m := rfl
@[simp] theorem State.setPg_reg (l : DLane) (n : Nat) (x : PgSt) (q : Nat) : (s.setPg l n x).reg q = s.reg q := rfl
@[simp] theorem State.setPg_rd8 (l : DLane) (n : Nat) (x : PgSt) (m i : Nat) : (s.setPg l n x).rd8 m i = s.rd8 m i := rfl
@[simp] theorem State.setPg_fg (l : DLane) (n : Nat) (x : PgSt) (d : Nat) (g : Fld) : (s.setPg l n x).fg d g = s.fg d g := rfl
@[simp] theorem State.setPg_fb (l : DLane) (n : Nat) (x : PgSt) (d : Nat) (g : Fld) : (s.setPg l n x).fb d g = s.fb d g := rfl
@[simp] theorem State.setPg_fi (l : DLane) (n : Nat) (x : PgSt) (d : Nat) (g : Fld) : (s.setPg l n x).fi d g = s.fi d g := rfl
@[simp] theorem State.setPg_running (l : DLane) (n : Nat) (x : PgSt) (m : Lane) : (s.setPg l n x).running m = s.running m := rfl

/-! setPp -/

@[simp] theorem State.setPp_pending (l : DLane) (n : Nat) (x : PpSt) : (s.setPp l n x).pending = s.pending := rfl
@[simp] theorem State.setPp_now (l : DLane) (n : Nat) (x : PpSt) : (s.setPp l n x).now = s.now := rfl
@[simp] theorem State.setPp_free (l : DLane) (n : Nat) (x : PpSt) : (s.setPp l n x).free = s.free := rfl
@[simp] theorem State.setPp_readData (l : DLane) (n : Nat) (x : PpSt) : (s.setPp l n x).readData = s.readData := rfl
@[simp] theorem State.setPp_rtcAt (l : DLane) (n : Nat) (x : PpSt) : (s.setPp l n x).rtcAt = s.rtcAt := rfl
@[simp] theorem State.setPp_regs (l : DLane) (n : Nat) (x : PpSt) : (s.setPp l n x).regs = s.regs := rfl
@[simp] theorem State.setPp_mem (l : DLane) (n : Nat) (x : PpSt) : (s.setPp l n x).mem = s.mem := rfl
@[simp] theorem State.setPp_evq (l : DLane) (n : Nat) (x : PpSt) : (s.setPp l n x).evq = s.evq := rfl
@[simp] theorem State.setPp_sk (l : DLane) (n : Nat) (x : PpSt) : (s.setPp l n x).sk = s.sk := rfl
@[simp] theorem State.setPp_tab (l : DLane) (n : Nat) (x : PpSt) : (s.setPp l n x).tab = s.tab := rfl
@[simp] theorem State.setPp_sf (l : DLane) (n : Nat) (x : PpSt) : (s.setPp l n x).sf = s.sf := rfl
@[simp] theorem State.setPp_xc (l : DLane) (n : Nat) (x : PpSt) : (s.setPp l n x).xc = s.xc := rfl
@[simp] theorem State.setPp_cmp (l : DLane) (n : Nat) (x : PpSt) : (s.setPp l n x).cmp = s.cmp := rfl
@[simp] theorem State.setPp_lanes (l : DLane) (n : Nat) (x : PpSt) : (s.setPp l n x).lanes = s.lanes := rfl
@[simp] theorem State.setPp_colls (l : DLane) (n : Nat) (x : PpSt) : (s.setPp l n x).colls = s.colls := rfl
@[simp] theorem State.setPp_cells (l : DLane) (n : Nat) (x : PpSt) : (s.setPp l n x).cells = s.cells := rfl
@[simp] theorem State.setPp_buses (l : DLane) (n : Nat) (x : PpSt) : (s.setPp l n x).buses = s.buses := rfl
@[simp] theorem State.setPp_axes (l : DLane) (n : Nat) (x : PpSt) : (s.setPp l n x).axes = s.axes := rfl
@[simp] theorem State.setPp_fbs (l : DLane) (n : Nat) (x : PpSt) : (s.setPp l n x).fbs = s.fbs := rfl
@[simp] theorem State.setPp_fired (l : DLane) (n : Nat) (x : PpSt) : (s.setPp l n x).fired = s.fired := rfl
@[simp] theorem State.setPp_cals (l : DLane) (n : Nat) (x : PpSt) : (s.setPp l n x).cals = s.cals := rfl
@[simp] theorem State.setPp_pgs (l : DLane) (n : Nat) (x : PpSt) : (s.setPp l n x).pgs = s.pgs := rfl
@[simp] theorem State.setPp_les (l : DLane) (n : Nat) (x : PpSt) : (s.setPp l n x).les = s.les := rfl
@[simp] theorem State.setPp_jobs (l : DLane) (n : Nat) (x : PpSt) : (s.setPp l n x).jobs = s.jobs := rfl
@[simp] theorem State.setPp_scns (l : DLane) (n : Nat) (x : PpSt) : (s.setPp l n x).scns = s.scns := rfl
@[simp] theorem State.setPp_stars (l : DLane) (n : Nat) (x : PpSt) : (s.setPp l n x).stars = s.stars := rfl
@[simp] theorem State.setPp_cans (l : DLane) (n : Nat) (x : PpSt) : (s.setPp l n x).cans = s.cans := rfl
@[simp] theorem State.setPp_dmas (l : DLane) (n : Nat) (x : PpSt) : (s.setPp l n x).dmas = s.dmas := rfl
@[simp] theorem State.setPp_ers (l : DLane) (n : Nat) (x : PpSt) : (s.setPp l n x).ers = s.ers := rfl
@[simp] theorem State.setPp_ics (l : DLane) (n : Nat) (x : PpSt) : (s.setPp l n x).ics = s.ics := rfl
@[simp] theorem State.setPp_lane (l : DLane) (n : Nat) (x : PpSt) (m : Lane) : (s.setPp l n x).lane m = s.lane m := rfl
@[simp] theorem State.setPp_coll (l : DLane) (n : Nat) (x : PpSt) (d : Coll) : (s.setPp l n x).coll d = s.coll d := rfl
@[simp] theorem State.setPp_cell (l : DLane) (n : Nat) (x : PpSt) (d : DLane) (i : Nat) : (s.setPp l n x).cell d i = s.cell d i := rfl
@[simp] theorem State.setPp_axis (l : DLane) (n : Nat) (x : PpSt) (d : DLane) (i : Nat) : (s.setPp l n x).axis d i = s.axis d i := rfl
@[simp] theorem State.setPp_fbu (l : DLane) (n : Nat) (x : PpSt) (d : DLane) (i : Nat) : (s.setPp l n x).fbu d i = s.fbu d i := rfl
@[simp] theorem State.setPp_calx (l : DLane) (n : Nat) (x : PpSt) (d : DLane) (i : Nat) : (s.setPp l n x).calx d i = s.calx d i := rfl
@[simp] theorem State.setPp_pg (l : DLane) (n : Nat) (x : PpSt) (d : DLane) (i : Nat) : (s.setPp l n x).pg d i = s.pg d i := rfl
@[simp] theorem State.setPp_le (l : DLane) (n : Nat) (x : PpSt) (m : Lane) : (s.setPp l n x).le m = s.le m := rfl
@[simp] theorem State.setPp_job (l : DLane) (n : Nat) (x : PpSt) (m : Lane) (i : Nat) : (s.setPp l n x).job m i = s.job m i := rfl
@[simp] theorem State.setPp_scn (l : DLane) (n : Nat) (x : PpSt) (m : Lane) (i : Nat) : (s.setPp l n x).scn m i = s.scn m i := rfl
@[simp] theorem State.setPp_star (l : DLane) (n : Nat) (x : PpSt) (d : DLane) : (s.setPp l n x).star d = s.star d := rfl
@[simp] theorem State.setPp_can (l : DLane) (n : Nat) (x : PpSt) (m : Lane) (i : Nat) : (s.setPp l n x).can m i = s.can m i := rfl
@[simp] theorem State.setPp_dma (l : DLane) (n : Nat) (x : PpSt) (m : Lane) (i : Nat) : (s.setPp l n x).dma m i = s.dma m i := rfl
@[simp] theorem State.setPp_er (l : DLane) (n : Nat) (x : PpSt) (m : Lane) : (s.setPp l n x).er m = s.er m := rfl
@[simp] theorem State.setPp_ic (l : DLane) (n : Nat) (x : PpSt) (m : Lane) : (s.setPp l n x).ic m = s.ic m := rfl
@[simp] theorem State.setPp_reg (l : DLane) (n : Nat) (x : PpSt) (q : Nat) : (s.setPp l n x).reg q = s.reg q := rfl
@[simp] theorem State.setPp_rd8 (l : DLane) (n : Nat) (x : PpSt) (m i : Nat) : (s.setPp l n x).rd8 m i = s.rd8 m i := rfl
@[simp] theorem State.setPp_fg (l : DLane) (n : Nat) (x : PpSt) (d : Nat) (g : Fld) : (s.setPp l n x).fg d g = s.fg d g := rfl
@[simp] theorem State.setPp_fb (l : DLane) (n : Nat) (x : PpSt) (d : Nat) (g : Fld) : (s.setPp l n x).fb d g = s.fb d g := rfl
@[simp] theorem State.setPp_fi (l : DLane) (n : Nat) (x : PpSt) (d : Nat) (g : Fld) : (s.setPp l n x).fi d g = s.fi d g := rfl
@[simp] theorem State.setPp_running (l : DLane) (n : Nat) (x : PpSt) (m : Lane) : (s.setPp l n x).running m = s.running m := rfl

/-! setLe -/

@[simp] theorem State.setLe_pending (l : Lane) (x : LeSt) : (s.setLe l x).pending = s.pending := rfl
@[simp] theorem State.setLe_now (l : Lane) (x : LeSt) : (s.setLe l x).now = s.now := rfl
@[simp] theorem State.setLe_free (l : Lane) (x : LeSt) : (s.setLe l x).free = s.free := rfl
@[simp] theorem State.setLe_readData (l : Lane) (x : LeSt) : (s.setLe l x).readData = s.readData := rfl
@[simp] theorem State.setLe_rtcAt (l : Lane) (x : LeSt) : (s.setLe l x).rtcAt = s.rtcAt := rfl
@[simp] theorem State.setLe_regs (l : Lane) (x : LeSt) : (s.setLe l x).regs = s.regs := rfl
@[simp] theorem State.setLe_mem (l : Lane) (x : LeSt) : (s.setLe l x).mem = s.mem := rfl
@[simp] theorem State.setLe_evq (l : Lane) (x : LeSt) : (s.setLe l x).evq = s.evq := rfl
@[simp] theorem State.setLe_sk (l : Lane) (x : LeSt) : (s.setLe l x).sk = s.sk := rfl
@[simp] theorem State.setLe_tab (l : Lane) (x : LeSt) : (s.setLe l x).tab = s.tab := rfl
@[simp] theorem State.setLe_sf (l : Lane) (x : LeSt) : (s.setLe l x).sf = s.sf := rfl
@[simp] theorem State.setLe_xc (l : Lane) (x : LeSt) : (s.setLe l x).xc = s.xc := rfl
@[simp] theorem State.setLe_cmp (l : Lane) (x : LeSt) : (s.setLe l x).cmp = s.cmp := rfl
@[simp] theorem State.setLe_lanes (l : Lane) (x : LeSt) : (s.setLe l x).lanes = s.lanes := rfl
@[simp] theorem State.setLe_colls (l : Lane) (x : LeSt) : (s.setLe l x).colls = s.colls := rfl
@[simp] theorem State.setLe_cells (l : Lane) (x : LeSt) : (s.setLe l x).cells = s.cells := rfl
@[simp] theorem State.setLe_buses (l : Lane) (x : LeSt) : (s.setLe l x).buses = s.buses := rfl
@[simp] theorem State.setLe_axes (l : Lane) (x : LeSt) : (s.setLe l x).axes = s.axes := rfl
@[simp] theorem State.setLe_fbs (l : Lane) (x : LeSt) : (s.setLe l x).fbs = s.fbs := rfl
@[simp] theorem State.setLe_fired (l : Lane) (x : LeSt) : (s.setLe l x).fired = s.fired := rfl
@[simp] theorem State.setLe_cals (l : Lane) (x : LeSt) : (s.setLe l x).cals = s.cals := rfl
@[simp] theorem State.setLe_pgs (l : Lane) (x : LeSt) : (s.setLe l x).pgs = s.pgs := rfl
@[simp] theorem State.setLe_pps (l : Lane) (x : LeSt) : (s.setLe l x).pps = s.pps := rfl
@[simp] theorem State.setLe_jobs (l : Lane) (x : LeSt) : (s.setLe l x).jobs = s.jobs := rfl
@[simp] theorem State.setLe_scns (l : Lane) (x : LeSt) : (s.setLe l x).scns = s.scns := rfl
@[simp] theorem State.setLe_stars (l : Lane) (x : LeSt) : (s.setLe l x).stars = s.stars := rfl
@[simp] theorem State.setLe_cans (l : Lane) (x : LeSt) : (s.setLe l x).cans = s.cans := rfl
@[simp] theorem State.setLe_dmas (l : Lane) (x : LeSt) : (s.setLe l x).dmas = s.dmas := rfl
@[simp] theorem State.setLe_ers (l : Lane) (x : LeSt) : (s.setLe l x).ers = s.ers := rfl
@[simp] theorem State.setLe_ics (l : Lane) (x : LeSt) : (s.setLe l x).ics = s.ics := rfl
@[simp] theorem State.setLe_lane (l : Lane) (x : LeSt) (m : Lane) : (s.setLe l x).lane m = s.lane m := rfl
@[simp] theorem State.setLe_coll (l : Lane) (x : LeSt) (d : Coll) : (s.setLe l x).coll d = s.coll d := rfl
@[simp] theorem State.setLe_cell (l : Lane) (x : LeSt) (d : DLane) (i : Nat) : (s.setLe l x).cell d i = s.cell d i := rfl
@[simp] theorem State.setLe_axis (l : Lane) (x : LeSt) (d : DLane) (i : Nat) : (s.setLe l x).axis d i = s.axis d i := rfl
@[simp] theorem State.setLe_fbu (l : Lane) (x : LeSt) (d : DLane) (i : Nat) : (s.setLe l x).fbu d i = s.fbu d i := rfl
@[simp] theorem State.setLe_calx (l : Lane) (x : LeSt) (d : DLane) (i : Nat) : (s.setLe l x).calx d i = s.calx d i := rfl
@[simp] theorem State.setLe_pg (l : Lane) (x : LeSt) (d : DLane) (i : Nat) : (s.setLe l x).pg d i = s.pg d i := rfl
@[simp] theorem State.setLe_pp (l : Lane) (x : LeSt) (d : DLane) (i : Nat) : (s.setLe l x).pp d i = s.pp d i := rfl
@[simp] theorem State.setLe_job (l : Lane) (x : LeSt) (m : Lane) (i : Nat) : (s.setLe l x).job m i = s.job m i := rfl
@[simp] theorem State.setLe_scn (l : Lane) (x : LeSt) (m : Lane) (i : Nat) : (s.setLe l x).scn m i = s.scn m i := rfl
@[simp] theorem State.setLe_star (l : Lane) (x : LeSt) (d : DLane) : (s.setLe l x).star d = s.star d := rfl
@[simp] theorem State.setLe_can (l : Lane) (x : LeSt) (m : Lane) (i : Nat) : (s.setLe l x).can m i = s.can m i := rfl
@[simp] theorem State.setLe_dma (l : Lane) (x : LeSt) (m : Lane) (i : Nat) : (s.setLe l x).dma m i = s.dma m i := rfl
@[simp] theorem State.setLe_er (l : Lane) (x : LeSt) (m : Lane) : (s.setLe l x).er m = s.er m := rfl
@[simp] theorem State.setLe_ic (l : Lane) (x : LeSt) (m : Lane) : (s.setLe l x).ic m = s.ic m := rfl
@[simp] theorem State.setLe_reg (l : Lane) (x : LeSt) (q : Nat) : (s.setLe l x).reg q = s.reg q := rfl
@[simp] theorem State.setLe_rd8 (l : Lane) (x : LeSt) (m i : Nat) : (s.setLe l x).rd8 m i = s.rd8 m i := rfl
@[simp] theorem State.setLe_fg (l : Lane) (x : LeSt) (d : Nat) (g : Fld) : (s.setLe l x).fg d g = s.fg d g := rfl
@[simp] theorem State.setLe_fb (l : Lane) (x : LeSt) (d : Nat) (g : Fld) : (s.setLe l x).fb d g = s.fb d g := rfl
@[simp] theorem State.setLe_fi (l : Lane) (x : LeSt) (d : Nat) (g : Fld) : (s.setLe l x).fi d g = s.fi d g := rfl
@[simp] theorem State.setLe_running (l : Lane) (x : LeSt) (m : Lane) : (s.setLe l x).running m = s.running m := rfl

/-! setJob -/

@[simp] theorem State.setJob_pending (l : Lane) (j : Nat) (x : Job) : (s.setJob l j x).pending = s.pending := rfl
@[simp] theorem State.setJob_now (l : Lane) (j : Nat) (x : Job) : (s.setJob l j x).now = s.now := rfl
@[simp] theorem State.setJob_free (l : Lane) (j : Nat) (x : Job) : (s.setJob l j x).free = s.free := rfl
@[simp] theorem State.setJob_readData (l : Lane) (j : Nat) (x : Job) : (s.setJob l j x).readData = s.readData := rfl
@[simp] theorem State.setJob_rtcAt (l : Lane) (j : Nat) (x : Job) : (s.setJob l j x).rtcAt = s.rtcAt := rfl
@[simp] theorem State.setJob_regs (l : Lane) (j : Nat) (x : Job) : (s.setJob l j x).regs = s.regs := rfl
@[simp] theorem State.setJob_mem (l : Lane) (j : Nat) (x : Job) : (s.setJob l j x).mem = s.mem := rfl
@[simp] theorem State.setJob_evq (l : Lane) (j : Nat) (x : Job) : (s.setJob l j x).evq = s.evq := rfl
@[simp] theorem State.setJob_sk (l : Lane) (j : Nat) (x : Job) : (s.setJob l j x).sk = s.sk := rfl
@[simp] theorem State.setJob_tab (l : Lane) (j : Nat) (x : Job) : (s.setJob l j x).tab = s.tab := rfl
@[simp] theorem State.setJob_sf (l : Lane) (j : Nat) (x : Job) : (s.setJob l j x).sf = s.sf := rfl
@[simp] theorem State.setJob_xc (l : Lane) (j : Nat) (x : Job) : (s.setJob l j x).xc = s.xc := rfl
@[simp] theorem State.setJob_cmp (l : Lane) (j : Nat) (x : Job) : (s.setJob l j x).cmp = s.cmp := rfl
@[simp] theorem State.setJob_lanes (l : Lane) (j : Nat) (x : Job) : (s.setJob l j x).lanes = s.lanes := rfl
@[simp] theorem State.setJob_colls (l : Lane) (j : Nat) (x : Job) : (s.setJob l j x).colls = s.colls := rfl
@[simp] theorem State.setJob_cells (l : Lane) (j : Nat) (x : Job) : (s.setJob l j x).cells = s.cells := rfl
@[simp] theorem State.setJob_buses (l : Lane) (j : Nat) (x : Job) : (s.setJob l j x).buses = s.buses := rfl
@[simp] theorem State.setJob_axes (l : Lane) (j : Nat) (x : Job) : (s.setJob l j x).axes = s.axes := rfl
@[simp] theorem State.setJob_fbs (l : Lane) (j : Nat) (x : Job) : (s.setJob l j x).fbs = s.fbs := rfl
@[simp] theorem State.setJob_fired (l : Lane) (j : Nat) (x : Job) : (s.setJob l j x).fired = s.fired := rfl
@[simp] theorem State.setJob_cals (l : Lane) (j : Nat) (x : Job) : (s.setJob l j x).cals = s.cals := rfl
@[simp] theorem State.setJob_pgs (l : Lane) (j : Nat) (x : Job) : (s.setJob l j x).pgs = s.pgs := rfl
@[simp] theorem State.setJob_pps (l : Lane) (j : Nat) (x : Job) : (s.setJob l j x).pps = s.pps := rfl
@[simp] theorem State.setJob_les (l : Lane) (j : Nat) (x : Job) : (s.setJob l j x).les = s.les := rfl
@[simp] theorem State.setJob_scns (l : Lane) (j : Nat) (x : Job) : (s.setJob l j x).scns = s.scns := rfl
@[simp] theorem State.setJob_stars (l : Lane) (j : Nat) (x : Job) : (s.setJob l j x).stars = s.stars := rfl
@[simp] theorem State.setJob_cans (l : Lane) (j : Nat) (x : Job) : (s.setJob l j x).cans = s.cans := rfl
@[simp] theorem State.setJob_dmas (l : Lane) (j : Nat) (x : Job) : (s.setJob l j x).dmas = s.dmas := rfl
@[simp] theorem State.setJob_ers (l : Lane) (j : Nat) (x : Job) : (s.setJob l j x).ers = s.ers := rfl
@[simp] theorem State.setJob_ics (l : Lane) (j : Nat) (x : Job) : (s.setJob l j x).ics = s.ics := rfl
@[simp] theorem State.setJob_lane (l : Lane) (j : Nat) (x : Job) (m : Lane) : (s.setJob l j x).lane m = s.lane m := rfl
@[simp] theorem State.setJob_coll (l : Lane) (j : Nat) (x : Job) (d : Coll) : (s.setJob l j x).coll d = s.coll d := rfl
@[simp] theorem State.setJob_cell (l : Lane) (j : Nat) (x : Job) (d : DLane) (i : Nat) : (s.setJob l j x).cell d i = s.cell d i := rfl
@[simp] theorem State.setJob_axis (l : Lane) (j : Nat) (x : Job) (d : DLane) (i : Nat) : (s.setJob l j x).axis d i = s.axis d i := rfl
@[simp] theorem State.setJob_fbu (l : Lane) (j : Nat) (x : Job) (d : DLane) (i : Nat) : (s.setJob l j x).fbu d i = s.fbu d i := rfl
@[simp] theorem State.setJob_calx (l : Lane) (j : Nat) (x : Job) (d : DLane) (i : Nat) : (s.setJob l j x).calx d i = s.calx d i := rfl
@[simp] theorem State.setJob_pg (l : Lane) (j : Nat) (x : Job) (d : DLane) (i : Nat) : (s.setJob l j x).pg d i = s.pg d i := rfl
@[simp] theorem State.setJob_pp (l : Lane) (j : Nat) (x : Job) (d : DLane) (i : Nat) : (s.setJob l j x).pp d i = s.pp d i := rfl
@[simp] theorem State.setJob_le (l : Lane) (j : Nat) (x : Job) (m : Lane) : (s.setJob l j x).le m = s.le m := rfl
@[simp] theorem State.setJob_scn (l : Lane) (j : Nat) (x : Job) (m : Lane) (i : Nat) : (s.setJob l j x).scn m i = s.scn m i := rfl
@[simp] theorem State.setJob_star (l : Lane) (j : Nat) (x : Job) (d : DLane) : (s.setJob l j x).star d = s.star d := rfl
@[simp] theorem State.setJob_can (l : Lane) (j : Nat) (x : Job) (m : Lane) (i : Nat) : (s.setJob l j x).can m i = s.can m i := rfl
@[simp] theorem State.setJob_dma (l : Lane) (j : Nat) (x : Job) (m : Lane) (i : Nat) : (s.setJob l j x).dma m i = s.dma m i := rfl
@[simp] theorem State.setJob_er (l : Lane) (j : Nat) (x : Job) (m : Lane) : (s.setJob l j x).er m = s.er m := rfl
@[simp] theorem State.setJob_ic (l : Lane) (j : Nat) (x : Job) (m : Lane) : (s.setJob l j x).ic m = s.ic m := rfl
@[simp] theorem State.setJob_reg (l : Lane) (j : Nat) (x : Job) (q : Nat) : (s.setJob l j x).reg q = s.reg q := rfl
@[simp] theorem State.setJob_rd8 (l : Lane) (j : Nat) (x : Job) (m i : Nat) : (s.setJob l j x).rd8 m i = s.rd8 m i := rfl
@[simp] theorem State.setJob_fg (l : Lane) (j : Nat) (x : Job) (d : Nat) (g : Fld) : (s.setJob l j x).fg d g = s.fg d g := rfl
@[simp] theorem State.setJob_fb (l : Lane) (j : Nat) (x : Job) (d : Nat) (g : Fld) : (s.setJob l j x).fb d g = s.fb d g := rfl
@[simp] theorem State.setJob_fi (l : Lane) (j : Nat) (x : Job) (d : Nat) (g : Fld) : (s.setJob l j x).fi d g = s.fi d g := rfl
@[simp] theorem State.setJob_running (l : Lane) (j : Nat) (x : Job) (m : Lane) : (s.setJob l j x).running m = s.running m := rfl

/-! setScn -/

@[simp] theorem State.setScn_pending (l : Lane) (c : Nat) (x : ScnSt) : (s.setScn l c x).pending = s.pending := rfl
@[simp] theorem State.setScn_now (l : Lane) (c : Nat) (x : ScnSt) : (s.setScn l c x).now = s.now := rfl
@[simp] theorem State.setScn_free (l : Lane) (c : Nat) (x : ScnSt) : (s.setScn l c x).free = s.free := rfl
@[simp] theorem State.setScn_readData (l : Lane) (c : Nat) (x : ScnSt) : (s.setScn l c x).readData = s.readData := rfl
@[simp] theorem State.setScn_rtcAt (l : Lane) (c : Nat) (x : ScnSt) : (s.setScn l c x).rtcAt = s.rtcAt := rfl
@[simp] theorem State.setScn_regs (l : Lane) (c : Nat) (x : ScnSt) : (s.setScn l c x).regs = s.regs := rfl
@[simp] theorem State.setScn_mem (l : Lane) (c : Nat) (x : ScnSt) : (s.setScn l c x).mem = s.mem := rfl
@[simp] theorem State.setScn_evq (l : Lane) (c : Nat) (x : ScnSt) : (s.setScn l c x).evq = s.evq := rfl
@[simp] theorem State.setScn_sk (l : Lane) (c : Nat) (x : ScnSt) : (s.setScn l c x).sk = s.sk := rfl
@[simp] theorem State.setScn_tab (l : Lane) (c : Nat) (x : ScnSt) : (s.setScn l c x).tab = s.tab := rfl
@[simp] theorem State.setScn_sf (l : Lane) (c : Nat) (x : ScnSt) : (s.setScn l c x).sf = s.sf := rfl
@[simp] theorem State.setScn_xc (l : Lane) (c : Nat) (x : ScnSt) : (s.setScn l c x).xc = s.xc := rfl
@[simp] theorem State.setScn_cmp (l : Lane) (c : Nat) (x : ScnSt) : (s.setScn l c x).cmp = s.cmp := rfl
@[simp] theorem State.setScn_lanes (l : Lane) (c : Nat) (x : ScnSt) : (s.setScn l c x).lanes = s.lanes := rfl
@[simp] theorem State.setScn_colls (l : Lane) (c : Nat) (x : ScnSt) : (s.setScn l c x).colls = s.colls := rfl
@[simp] theorem State.setScn_cells (l : Lane) (c : Nat) (x : ScnSt) : (s.setScn l c x).cells = s.cells := rfl
@[simp] theorem State.setScn_buses (l : Lane) (c : Nat) (x : ScnSt) : (s.setScn l c x).buses = s.buses := rfl
@[simp] theorem State.setScn_axes (l : Lane) (c : Nat) (x : ScnSt) : (s.setScn l c x).axes = s.axes := rfl
@[simp] theorem State.setScn_fbs (l : Lane) (c : Nat) (x : ScnSt) : (s.setScn l c x).fbs = s.fbs := rfl
@[simp] theorem State.setScn_fired (l : Lane) (c : Nat) (x : ScnSt) : (s.setScn l c x).fired = s.fired := rfl
@[simp] theorem State.setScn_cals (l : Lane) (c : Nat) (x : ScnSt) : (s.setScn l c x).cals = s.cals := rfl
@[simp] theorem State.setScn_pgs (l : Lane) (c : Nat) (x : ScnSt) : (s.setScn l c x).pgs = s.pgs := rfl
@[simp] theorem State.setScn_pps (l : Lane) (c : Nat) (x : ScnSt) : (s.setScn l c x).pps = s.pps := rfl
@[simp] theorem State.setScn_les (l : Lane) (c : Nat) (x : ScnSt) : (s.setScn l c x).les = s.les := rfl
@[simp] theorem State.setScn_jobs (l : Lane) (c : Nat) (x : ScnSt) : (s.setScn l c x).jobs = s.jobs := rfl
@[simp] theorem State.setScn_stars (l : Lane) (c : Nat) (x : ScnSt) : (s.setScn l c x).stars = s.stars := rfl
@[simp] theorem State.setScn_cans (l : Lane) (c : Nat) (x : ScnSt) : (s.setScn l c x).cans = s.cans := rfl
@[simp] theorem State.setScn_dmas (l : Lane) (c : Nat) (x : ScnSt) : (s.setScn l c x).dmas = s.dmas := rfl
@[simp] theorem State.setScn_ers (l : Lane) (c : Nat) (x : ScnSt) : (s.setScn l c x).ers = s.ers := rfl
@[simp] theorem State.setScn_ics (l : Lane) (c : Nat) (x : ScnSt) : (s.setScn l c x).ics = s.ics := rfl
@[simp] theorem State.setScn_lane (l : Lane) (c : Nat) (x : ScnSt) (m : Lane) : (s.setScn l c x).lane m = s.lane m := rfl
@[simp] theorem State.setScn_coll (l : Lane) (c : Nat) (x : ScnSt) (d : Coll) : (s.setScn l c x).coll d = s.coll d := rfl
@[simp] theorem State.setScn_cell (l : Lane) (c : Nat) (x : ScnSt) (d : DLane) (i : Nat) : (s.setScn l c x).cell d i = s.cell d i := rfl
@[simp] theorem State.setScn_axis (l : Lane) (c : Nat) (x : ScnSt) (d : DLane) (i : Nat) : (s.setScn l c x).axis d i = s.axis d i := rfl
@[simp] theorem State.setScn_fbu (l : Lane) (c : Nat) (x : ScnSt) (d : DLane) (i : Nat) : (s.setScn l c x).fbu d i = s.fbu d i := rfl
@[simp] theorem State.setScn_calx (l : Lane) (c : Nat) (x : ScnSt) (d : DLane) (i : Nat) : (s.setScn l c x).calx d i = s.calx d i := rfl
@[simp] theorem State.setScn_pg (l : Lane) (c : Nat) (x : ScnSt) (d : DLane) (i : Nat) : (s.setScn l c x).pg d i = s.pg d i := rfl
@[simp] theorem State.setScn_pp (l : Lane) (c : Nat) (x : ScnSt) (d : DLane) (i : Nat) : (s.setScn l c x).pp d i = s.pp d i := rfl
@[simp] theorem State.setScn_le (l : Lane) (c : Nat) (x : ScnSt) (m : Lane) : (s.setScn l c x).le m = s.le m := rfl
@[simp] theorem State.setScn_job (l : Lane) (c : Nat) (x : ScnSt) (m : Lane) (i : Nat) : (s.setScn l c x).job m i = s.job m i := rfl
@[simp] theorem State.setScn_star (l : Lane) (c : Nat) (x : ScnSt) (d : DLane) : (s.setScn l c x).star d = s.star d := rfl
@[simp] theorem State.setScn_can (l : Lane) (c : Nat) (x : ScnSt) (m : Lane) (i : Nat) : (s.setScn l c x).can m i = s.can m i := rfl
@[simp] theorem State.setScn_dma (l : Lane) (c : Nat) (x : ScnSt) (m : Lane) (i : Nat) : (s.setScn l c x).dma m i = s.dma m i := rfl
@[simp] theorem State.setScn_er (l : Lane) (c : Nat) (x : ScnSt) (m : Lane) : (s.setScn l c x).er m = s.er m := rfl
@[simp] theorem State.setScn_ic (l : Lane) (c : Nat) (x : ScnSt) (m : Lane) : (s.setScn l c x).ic m = s.ic m := rfl
@[simp] theorem State.setScn_reg (l : Lane) (c : Nat) (x : ScnSt) (q : Nat) : (s.setScn l c x).reg q = s.reg q := rfl
@[simp] theorem State.setScn_rd8 (l : Lane) (c : Nat) (x : ScnSt) (m i : Nat) : (s.setScn l c x).rd8 m i = s.rd8 m i := rfl
@[simp] theorem State.setScn_fg (l : Lane) (c : Nat) (x : ScnSt) (d : Nat) (g : Fld) : (s.setScn l c x).fg d g = s.fg d g := rfl
@[simp] theorem State.setScn_fb (l : Lane) (c : Nat) (x : ScnSt) (d : Nat) (g : Fld) : (s.setScn l c x).fb d g = s.fb d g := rfl
@[simp] theorem State.setScn_fi (l : Lane) (c : Nat) (x : ScnSt) (d : Nat) (g : Fld) : (s.setScn l c x).fi d g = s.fi d g := rfl
@[simp] theorem State.setScn_running (l : Lane) (c : Nat) (x : ScnSt) (m : Lane) : (s.setScn l c x).running m = s.running m := rfl

/-! setStar -/

@[simp] theorem State.setStar_pending (l : DLane) (x : StarSt) : (s.setStar l x).pending = s.pending := rfl
@[simp] theorem State.setStar_now (l : DLane) (x : StarSt) : (s.setStar l x).now = s.now := rfl
@[simp] theorem State.setStar_free (l : DLane) (x : StarSt) : (s.setStar l x).free = s.free := rfl
@[simp] theorem State.setStar_readData (l : DLane) (x : StarSt) : (s.setStar l x).readData = s.readData := rfl
@[simp] theorem State.setStar_rtcAt (l : DLane) (x : StarSt) : (s.setStar l x).rtcAt = s.rtcAt := rfl
@[simp] theorem State.setStar_regs (l : DLane) (x : StarSt) : (s.setStar l x).regs = s.regs := rfl
@[simp] theorem State.setStar_mem (l : DLane) (x : StarSt) : (s.setStar l x).mem = s.mem := rfl
@[simp] theorem State.setStar_evq (l : DLane) (x : StarSt) : (s.setStar l x).evq = s.evq := rfl
@[simp] theorem State.setStar_sk (l : DLane) (x : StarSt) : (s.setStar l x).sk = s.sk := rfl
@[simp] theorem State.setStar_tab (l : DLane) (x : StarSt) : (s.setStar l x).tab = s.tab := rfl
@[simp] theorem State.setStar_sf (l : DLane) (x : StarSt) : (s.setStar l x).sf = s.sf := rfl
@[simp] theorem State.setStar_xc (l : DLane) (x : StarSt) : (s.setStar l x).xc = s.xc := rfl
@[simp] theorem State.setStar_cmp (l : DLane) (x : StarSt) : (s.setStar l x).cmp = s.cmp := rfl
@[simp] theorem State.setStar_lanes (l : DLane) (x : StarSt) : (s.setStar l x).lanes = s.lanes := rfl
@[simp] theorem State.setStar_colls (l : DLane) (x : StarSt) : (s.setStar l x).colls = s.colls := rfl
@[simp] theorem State.setStar_cells (l : DLane) (x : StarSt) : (s.setStar l x).cells = s.cells := rfl
@[simp] theorem State.setStar_buses (l : DLane) (x : StarSt) : (s.setStar l x).buses = s.buses := rfl
@[simp] theorem State.setStar_axes (l : DLane) (x : StarSt) : (s.setStar l x).axes = s.axes := rfl
@[simp] theorem State.setStar_fbs (l : DLane) (x : StarSt) : (s.setStar l x).fbs = s.fbs := rfl
@[simp] theorem State.setStar_fired (l : DLane) (x : StarSt) : (s.setStar l x).fired = s.fired := rfl
@[simp] theorem State.setStar_cals (l : DLane) (x : StarSt) : (s.setStar l x).cals = s.cals := rfl
@[simp] theorem State.setStar_pgs (l : DLane) (x : StarSt) : (s.setStar l x).pgs = s.pgs := rfl
@[simp] theorem State.setStar_pps (l : DLane) (x : StarSt) : (s.setStar l x).pps = s.pps := rfl
@[simp] theorem State.setStar_les (l : DLane) (x : StarSt) : (s.setStar l x).les = s.les := rfl
@[simp] theorem State.setStar_jobs (l : DLane) (x : StarSt) : (s.setStar l x).jobs = s.jobs := rfl
@[simp] theorem State.setStar_scns (l : DLane) (x : StarSt) : (s.setStar l x).scns = s.scns := rfl
@[simp] theorem State.setStar_cans (l : DLane) (x : StarSt) : (s.setStar l x).cans = s.cans := rfl
@[simp] theorem State.setStar_dmas (l : DLane) (x : StarSt) : (s.setStar l x).dmas = s.dmas := rfl
@[simp] theorem State.setStar_ers (l : DLane) (x : StarSt) : (s.setStar l x).ers = s.ers := rfl
@[simp] theorem State.setStar_ics (l : DLane) (x : StarSt) : (s.setStar l x).ics = s.ics := rfl
@[simp] theorem State.setStar_lane (l : DLane) (x : StarSt) (m : Lane) : (s.setStar l x).lane m = s.lane m := rfl
@[simp] theorem State.setStar_coll (l : DLane) (x : StarSt) (d : Coll) : (s.setStar l x).coll d = s.coll d := rfl
@[simp] theorem State.setStar_cell (l : DLane) (x : StarSt) (d : DLane) (i : Nat) : (s.setStar l x).cell d i = s.cell d i := rfl
@[simp] theorem State.setStar_axis (l : DLane) (x : StarSt) (d : DLane) (i : Nat) : (s.setStar l x).axis d i = s.axis d i := rfl
@[simp] theorem State.setStar_fbu (l : DLane) (x : StarSt) (d : DLane) (i : Nat) : (s.setStar l x).fbu d i = s.fbu d i := rfl
@[simp] theorem State.setStar_calx (l : DLane) (x : StarSt) (d : DLane) (i : Nat) : (s.setStar l x).calx d i = s.calx d i := rfl
@[simp] theorem State.setStar_pg (l : DLane) (x : StarSt) (d : DLane) (i : Nat) : (s.setStar l x).pg d i = s.pg d i := rfl
@[simp] theorem State.setStar_pp (l : DLane) (x : StarSt) (d : DLane) (i : Nat) : (s.setStar l x).pp d i = s.pp d i := rfl
@[simp] theorem State.setStar_le (l : DLane) (x : StarSt) (m : Lane) : (s.setStar l x).le m = s.le m := rfl
@[simp] theorem State.setStar_job (l : DLane) (x : StarSt) (m : Lane) (i : Nat) : (s.setStar l x).job m i = s.job m i := rfl
@[simp] theorem State.setStar_scn (l : DLane) (x : StarSt) (m : Lane) (i : Nat) : (s.setStar l x).scn m i = s.scn m i := rfl
@[simp] theorem State.setStar_can (l : DLane) (x : StarSt) (m : Lane) (i : Nat) : (s.setStar l x).can m i = s.can m i := rfl
@[simp] theorem State.setStar_dma (l : DLane) (x : StarSt) (m : Lane) (i : Nat) : (s.setStar l x).dma m i = s.dma m i := rfl
@[simp] theorem State.setStar_er (l : DLane) (x : StarSt) (m : Lane) : (s.setStar l x).er m = s.er m := rfl
@[simp] theorem State.setStar_ic (l : DLane) (x : StarSt) (m : Lane) : (s.setStar l x).ic m = s.ic m := rfl
@[simp] theorem State.setStar_reg (l : DLane) (x : StarSt) (q : Nat) : (s.setStar l x).reg q = s.reg q := rfl
@[simp] theorem State.setStar_rd8 (l : DLane) (x : StarSt) (m i : Nat) : (s.setStar l x).rd8 m i = s.rd8 m i := rfl
@[simp] theorem State.setStar_fg (l : DLane) (x : StarSt) (d : Nat) (g : Fld) : (s.setStar l x).fg d g = s.fg d g := rfl
@[simp] theorem State.setStar_fb (l : DLane) (x : StarSt) (d : Nat) (g : Fld) : (s.setStar l x).fb d g = s.fb d g := rfl
@[simp] theorem State.setStar_fi (l : DLane) (x : StarSt) (d : Nat) (g : Fld) : (s.setStar l x).fi d g = s.fi d g := rfl
@[simp] theorem State.setStar_running (l : DLane) (x : StarSt) (m : Lane) : (s.setStar l x).running m = s.running m := rfl

/-! setCan -/

@[simp] theorem State.setCan_pending (l : Lane) (k : Nat) (x : CanSt) : (s.setCan l k x).pending = s.pending := rfl
@[simp] theorem State.setCan_now (l : Lane) (k : Nat) (x : CanSt) : (s.setCan l k x).now = s.now := rfl
@[simp] theorem State.setCan_free (l : Lane) (k : Nat) (x : CanSt) : (s.setCan l k x).free = s.free := rfl
@[simp] theorem State.setCan_readData (l : Lane) (k : Nat) (x : CanSt) : (s.setCan l k x).readData = s.readData := rfl
@[simp] theorem State.setCan_rtcAt (l : Lane) (k : Nat) (x : CanSt) : (s.setCan l k x).rtcAt = s.rtcAt := rfl
@[simp] theorem State.setCan_regs (l : Lane) (k : Nat) (x : CanSt) : (s.setCan l k x).regs = s.regs := rfl
@[simp] theorem State.setCan_mem (l : Lane) (k : Nat) (x : CanSt) : (s.setCan l k x).mem = s.mem := rfl
@[simp] theorem State.setCan_evq (l : Lane) (k : Nat) (x : CanSt) : (s.setCan l k x).evq = s.evq := rfl
@[simp] theorem State.setCan_sk (l : Lane) (k : Nat) (x : CanSt) : (s.setCan l k x).sk = s.sk := rfl
@[simp] theorem State.setCan_tab (l : Lane) (k : Nat) (x : CanSt) : (s.setCan l k x).tab = s.tab := rfl
@[simp] theorem State.setCan_sf (l : Lane) (k : Nat) (x : CanSt) : (s.setCan l k x).sf = s.sf := rfl
@[simp] theorem State.setCan_xc (l : Lane) (k : Nat) (x : CanSt) : (s.setCan l k x).xc = s.xc := rfl
@[simp] theorem State.setCan_cmp (l : Lane) (k : Nat) (x : CanSt) : (s.setCan l k x).cmp = s.cmp := rfl
@[simp] theorem State.setCan_lanes (l : Lane) (k : Nat) (x : CanSt) : (s.setCan l k x).lanes = s.lanes := rfl
@[simp] theorem State.setCan_colls (l : Lane) (k : Nat) (x : CanSt) : (s.setCan l k x).colls = s.colls := rfl
@[simp] theorem State.setCan_cells (l : Lane) (k : Nat) (x : CanSt) : (s.setCan l k x).cells = s.cells := rfl
@[simp] theorem State.setCan_buses (l : Lane) (k : Nat) (x : CanSt) : (s.setCan l k x).buses = s.buses := rfl
@[simp] theorem State.setCan_axes (l : Lane) (k : Nat) (x : CanSt) : (s.setCan l k x).axes = s.axes := rfl
@[simp] theorem State.setCan_fbs (l : Lane) (k : Nat) (x : CanSt) : (s.setCan l k x).fbs = s.fbs := rfl
@[simp] theorem State.setCan_fired (l : Lane) (k : Nat) (x : CanSt) : (s.setCan l k x).fired = s.fired := rfl
@[simp] theorem State.setCan_cals (l : Lane) (k : Nat) (x : CanSt) : (s.setCan l k x).cals = s.cals := rfl
@[simp] theorem State.setCan_pgs (l : Lane) (k : Nat) (x : CanSt) : (s.setCan l k x).pgs = s.pgs := rfl
@[simp] theorem State.setCan_pps (l : Lane) (k : Nat) (x : CanSt) : (s.setCan l k x).pps = s.pps := rfl
@[simp] theorem State.setCan_les (l : Lane) (k : Nat) (x : CanSt) : (s.setCan l k x).les = s.les := rfl
@[simp] theorem State.setCan_jobs (l : Lane) (k : Nat) (x : CanSt) : (s.setCan l k x).jobs = s.jobs := rfl
@[simp] theorem State.setCan_scns (l : Lane) (k : Nat) (x : CanSt) : (s.setCan l k x).scns = s.scns := rfl
@[simp] theorem State.setCan_stars (l : Lane) (k : Nat) (x : CanSt) : (s.setCan l k x).stars = s.stars := rfl
@[simp] theorem State.setCan_dmas (l : Lane) (k : Nat) (x : CanSt) : (s.setCan l k x).dmas = s.dmas := rfl
@[simp] theorem State.setCan_ers (l : Lane) (k : Nat) (x : CanSt) : (s.setCan l k x).ers = s.ers := rfl
@[simp] theorem State.setCan_ics (l : Lane) (k : Nat) (x : CanSt) : (s.setCan l k x).ics = s.ics := rfl
@[simp] theorem State.setCan_lane (l : Lane) (k : Nat) (x : CanSt) (m : Lane) : (s.setCan l k x).lane m = s.lane m := rfl
@[simp] theorem State.setCan_coll (l : Lane) (k : Nat) (x : CanSt) (d : Coll) : (s.setCan l k x).coll d = s.coll d := rfl
@[simp] theorem State.setCan_cell (l : Lane) (k : Nat) (x : CanSt) (d : DLane) (i : Nat) : (s.setCan l k x).cell d i = s.cell d i := rfl
@[simp] theorem State.setCan_axis (l : Lane) (k : Nat) (x : CanSt) (d : DLane) (i : Nat) : (s.setCan l k x).axis d i = s.axis d i := rfl
@[simp] theorem State.setCan_fbu (l : Lane) (k : Nat) (x : CanSt) (d : DLane) (i : Nat) : (s.setCan l k x).fbu d i = s.fbu d i := rfl
@[simp] theorem State.setCan_calx (l : Lane) (k : Nat) (x : CanSt) (d : DLane) (i : Nat) : (s.setCan l k x).calx d i = s.calx d i := rfl
@[simp] theorem State.setCan_pg (l : Lane) (k : Nat) (x : CanSt) (d : DLane) (i : Nat) : (s.setCan l k x).pg d i = s.pg d i := rfl
@[simp] theorem State.setCan_pp (l : Lane) (k : Nat) (x : CanSt) (d : DLane) (i : Nat) : (s.setCan l k x).pp d i = s.pp d i := rfl
@[simp] theorem State.setCan_le (l : Lane) (k : Nat) (x : CanSt) (m : Lane) : (s.setCan l k x).le m = s.le m := rfl
@[simp] theorem State.setCan_job (l : Lane) (k : Nat) (x : CanSt) (m : Lane) (i : Nat) : (s.setCan l k x).job m i = s.job m i := rfl
@[simp] theorem State.setCan_scn (l : Lane) (k : Nat) (x : CanSt) (m : Lane) (i : Nat) : (s.setCan l k x).scn m i = s.scn m i := rfl
@[simp] theorem State.setCan_star (l : Lane) (k : Nat) (x : CanSt) (d : DLane) : (s.setCan l k x).star d = s.star d := rfl
@[simp] theorem State.setCan_dma (l : Lane) (k : Nat) (x : CanSt) (m : Lane) (i : Nat) : (s.setCan l k x).dma m i = s.dma m i := rfl
@[simp] theorem State.setCan_er (l : Lane) (k : Nat) (x : CanSt) (m : Lane) : (s.setCan l k x).er m = s.er m := rfl
@[simp] theorem State.setCan_ic (l : Lane) (k : Nat) (x : CanSt) (m : Lane) : (s.setCan l k x).ic m = s.ic m := rfl
@[simp] theorem State.setCan_reg (l : Lane) (k : Nat) (x : CanSt) (q : Nat) : (s.setCan l k x).reg q = s.reg q := rfl
@[simp] theorem State.setCan_rd8 (l : Lane) (k : Nat) (x : CanSt) (m i : Nat) : (s.setCan l k x).rd8 m i = s.rd8 m i := rfl
@[simp] theorem State.setCan_fg (l : Lane) (k : Nat) (x : CanSt) (d : Nat) (g : Fld) : (s.setCan l k x).fg d g = s.fg d g := rfl
@[simp] theorem State.setCan_fb (l : Lane) (k : Nat) (x : CanSt) (d : Nat) (g : Fld) : (s.setCan l k x).fb d g = s.fb d g := rfl
@[simp] theorem State.setCan_fi (l : Lane) (k : Nat) (x : CanSt) (d : Nat) (g : Fld) : (s.setCan l k x).fi d g = s.fi d g := rfl
@[simp] theorem State.setCan_running (l : Lane) (k : Nat) (x : CanSt) (m : Lane) : (s.setCan l k x).running m = s.running m := rfl

/-! setDma -/

@[simp] theorem State.setDma_pending (l : Lane) (n : Nat) (x : DmaSt) : (s.setDma l n x).pending = s.pending := rfl
@[simp] theorem State.setDma_now (l : Lane) (n : Nat) (x : DmaSt) : (s.setDma l n x).now = s.now := rfl
@[simp] theorem State.setDma_free (l : Lane) (n : Nat) (x : DmaSt) : (s.setDma l n x).free = s.free := rfl
@[simp] theorem State.setDma_readData (l : Lane) (n : Nat) (x : DmaSt) : (s.setDma l n x).readData = s.readData := rfl
@[simp] theorem State.setDma_rtcAt (l : Lane) (n : Nat) (x : DmaSt) : (s.setDma l n x).rtcAt = s.rtcAt := rfl
@[simp] theorem State.setDma_regs (l : Lane) (n : Nat) (x : DmaSt) : (s.setDma l n x).regs = s.regs := rfl
@[simp] theorem State.setDma_mem (l : Lane) (n : Nat) (x : DmaSt) : (s.setDma l n x).mem = s.mem := rfl
@[simp] theorem State.setDma_evq (l : Lane) (n : Nat) (x : DmaSt) : (s.setDma l n x).evq = s.evq := rfl
@[simp] theorem State.setDma_sk (l : Lane) (n : Nat) (x : DmaSt) : (s.setDma l n x).sk = s.sk := rfl
@[simp] theorem State.setDma_tab (l : Lane) (n : Nat) (x : DmaSt) : (s.setDma l n x).tab = s.tab := rfl
@[simp] theorem State.setDma_sf (l : Lane) (n : Nat) (x : DmaSt) : (s.setDma l n x).sf = s.sf := rfl
@[simp] theorem State.setDma_xc (l : Lane) (n : Nat) (x : DmaSt) : (s.setDma l n x).xc = s.xc := rfl
@[simp] theorem State.setDma_cmp (l : Lane) (n : Nat) (x : DmaSt) : (s.setDma l n x).cmp = s.cmp := rfl
@[simp] theorem State.setDma_lanes (l : Lane) (n : Nat) (x : DmaSt) : (s.setDma l n x).lanes = s.lanes := rfl
@[simp] theorem State.setDma_colls (l : Lane) (n : Nat) (x : DmaSt) : (s.setDma l n x).colls = s.colls := rfl
@[simp] theorem State.setDma_cells (l : Lane) (n : Nat) (x : DmaSt) : (s.setDma l n x).cells = s.cells := rfl
@[simp] theorem State.setDma_buses (l : Lane) (n : Nat) (x : DmaSt) : (s.setDma l n x).buses = s.buses := rfl
@[simp] theorem State.setDma_axes (l : Lane) (n : Nat) (x : DmaSt) : (s.setDma l n x).axes = s.axes := rfl
@[simp] theorem State.setDma_fbs (l : Lane) (n : Nat) (x : DmaSt) : (s.setDma l n x).fbs = s.fbs := rfl
@[simp] theorem State.setDma_fired (l : Lane) (n : Nat) (x : DmaSt) : (s.setDma l n x).fired = s.fired := rfl
@[simp] theorem State.setDma_cals (l : Lane) (n : Nat) (x : DmaSt) : (s.setDma l n x).cals = s.cals := rfl
@[simp] theorem State.setDma_pgs (l : Lane) (n : Nat) (x : DmaSt) : (s.setDma l n x).pgs = s.pgs := rfl
@[simp] theorem State.setDma_pps (l : Lane) (n : Nat) (x : DmaSt) : (s.setDma l n x).pps = s.pps := rfl
@[simp] theorem State.setDma_les (l : Lane) (n : Nat) (x : DmaSt) : (s.setDma l n x).les = s.les := rfl
@[simp] theorem State.setDma_jobs (l : Lane) (n : Nat) (x : DmaSt) : (s.setDma l n x).jobs = s.jobs := rfl
@[simp] theorem State.setDma_scns (l : Lane) (n : Nat) (x : DmaSt) : (s.setDma l n x).scns = s.scns := rfl
@[simp] theorem State.setDma_stars (l : Lane) (n : Nat) (x : DmaSt) : (s.setDma l n x).stars = s.stars := rfl
@[simp] theorem State.setDma_cans (l : Lane) (n : Nat) (x : DmaSt) : (s.setDma l n x).cans = s.cans := rfl
@[simp] theorem State.setDma_ers (l : Lane) (n : Nat) (x : DmaSt) : (s.setDma l n x).ers = s.ers := rfl
@[simp] theorem State.setDma_ics (l : Lane) (n : Nat) (x : DmaSt) : (s.setDma l n x).ics = s.ics := rfl
@[simp] theorem State.setDma_lane (l : Lane) (n : Nat) (x : DmaSt) (m : Lane) : (s.setDma l n x).lane m = s.lane m := rfl
@[simp] theorem State.setDma_coll (l : Lane) (n : Nat) (x : DmaSt) (d : Coll) : (s.setDma l n x).coll d = s.coll d := rfl
@[simp] theorem State.setDma_cell (l : Lane) (n : Nat) (x : DmaSt) (d : DLane) (i : Nat) : (s.setDma l n x).cell d i = s.cell d i := rfl
@[simp] theorem State.setDma_axis (l : Lane) (n : Nat) (x : DmaSt) (d : DLane) (i : Nat) : (s.setDma l n x).axis d i = s.axis d i := rfl
@[simp] theorem State.setDma_fbu (l : Lane) (n : Nat) (x : DmaSt) (d : DLane) (i : Nat) : (s.setDma l n x).fbu d i = s.fbu d i := rfl
@[simp] theorem State.setDma_calx (l : Lane) (n : Nat) (x : DmaSt) (d : DLane) (i : Nat) : (s.setDma l n x).calx d i = s.calx d i := rfl
@[simp] theorem State.setDma_pg (l : Lane) (n : Nat) (x : DmaSt) (d : DLane) (i : Nat) : (s.setDma l n x).pg d i = s.pg d i := rfl
@[simp] theorem State.setDma_pp (l : Lane) (n : Nat) (x : DmaSt) (d : DLane) (i : Nat) : (s.setDma l n x).pp d i = s.pp d i := rfl
@[simp] theorem State.setDma_le (l : Lane) (n : Nat) (x : DmaSt) (m : Lane) : (s.setDma l n x).le m = s.le m := rfl
@[simp] theorem State.setDma_job (l : Lane) (n : Nat) (x : DmaSt) (m : Lane) (i : Nat) : (s.setDma l n x).job m i = s.job m i := rfl
@[simp] theorem State.setDma_scn (l : Lane) (n : Nat) (x : DmaSt) (m : Lane) (i : Nat) : (s.setDma l n x).scn m i = s.scn m i := rfl
@[simp] theorem State.setDma_star (l : Lane) (n : Nat) (x : DmaSt) (d : DLane) : (s.setDma l n x).star d = s.star d := rfl
@[simp] theorem State.setDma_can (l : Lane) (n : Nat) (x : DmaSt) (m : Lane) (i : Nat) : (s.setDma l n x).can m i = s.can m i := rfl
@[simp] theorem State.setDma_er (l : Lane) (n : Nat) (x : DmaSt) (m : Lane) : (s.setDma l n x).er m = s.er m := rfl
@[simp] theorem State.setDma_ic (l : Lane) (n : Nat) (x : DmaSt) (m : Lane) : (s.setDma l n x).ic m = s.ic m := rfl
@[simp] theorem State.setDma_reg (l : Lane) (n : Nat) (x : DmaSt) (q : Nat) : (s.setDma l n x).reg q = s.reg q := rfl
@[simp] theorem State.setDma_rd8 (l : Lane) (n : Nat) (x : DmaSt) (m i : Nat) : (s.setDma l n x).rd8 m i = s.rd8 m i := rfl
@[simp] theorem State.setDma_fg (l : Lane) (n : Nat) (x : DmaSt) (d : Nat) (g : Fld) : (s.setDma l n x).fg d g = s.fg d g := rfl
@[simp] theorem State.setDma_fb (l : Lane) (n : Nat) (x : DmaSt) (d : Nat) (g : Fld) : (s.setDma l n x).fb d g = s.fb d g := rfl
@[simp] theorem State.setDma_fi (l : Lane) (n : Nat) (x : DmaSt) (d : Nat) (g : Fld) : (s.setDma l n x).fi d g = s.fi d g := rfl
@[simp] theorem State.setDma_running (l : Lane) (n : Nat) (x : DmaSt) (m : Lane) : (s.setDma l n x).running m = s.running m := rfl

/-! setEr -/

@[simp] theorem State.setEr_pending (l : Lane) (x : ErSt) : (s.setEr l x).pending = s.pending := rfl
@[simp] theorem State.setEr_now (l : Lane) (x : ErSt) : (s.setEr l x).now = s.now := rfl
@[simp] theorem State.setEr_free (l : Lane) (x : ErSt) : (s.setEr l x).free = s.free := rfl
@[simp] theorem State.setEr_readData (l : Lane) (x : ErSt) : (s.setEr l x).readData = s.readData := rfl
@[simp] theorem State.setEr_rtcAt (l : Lane) (x : ErSt) : (s.setEr l x).rtcAt = s.rtcAt := rfl
@[simp] theorem State.setEr_regs (l : Lane) (x : ErSt) : (s.setEr l x).regs = s.regs := rfl
@[simp] theorem State.setEr_mem (l : Lane) (x : ErSt) : (s.setEr l x).mem = s.mem := rfl
@[simp] theorem State.setEr_evq (l : Lane) (x : ErSt) : (s.setEr l x).evq = s.evq := rfl
@[simp] theorem State.setEr_sk (l : Lane) (x : ErSt) : (s.setEr l x).sk = s.sk := rfl
@[simp] theorem State.setEr_tab (l : Lane) (x : ErSt) : (s.setEr l x).tab = s.tab := rfl
@[simp] theorem State.setEr_sf (l : Lane) (x : ErSt) : (s.setEr l x).sf = s.sf := rfl
@[simp] theorem State.setEr_xc (l : Lane) (x : ErSt) : (s.setEr l x).xc = s.xc := rfl
@[simp] theorem State.setEr_cmp (l : Lane) (x : ErSt) : (s.setEr l x).cmp = s.cmp := rfl
@[simp] theorem State.setEr_lanes (l : Lane) (x : ErSt) : (s.setEr l x).lanes = s.lanes := rfl
@[simp] theorem State.setEr_colls (l : Lane) (x : ErSt) : (s.setEr l x).colls = s.colls := rfl
@[simp] theorem State.setEr_cells (l : Lane) (x : ErSt) : (s.setEr l x).cells = s.cells := rfl
@[simp] theorem State.setEr_buses (l : Lane) (x : ErSt) : (s.setEr l x).buses = s.buses := rfl
@[simp] theorem State.setEr_axes (l : Lane) (x : ErSt) : (s.setEr l x).axes = s.axes := rfl
@[simp] theorem State.setEr_fbs (l : Lane) (x : ErSt) : (s.setEr l x).fbs = s.fbs := rfl
@[simp] theorem State.setEr_fired (l : Lane) (x : ErSt) : (s.setEr l x).fired = s.fired := rfl
@[simp] theorem State.setEr_cals (l : Lane) (x : ErSt) : (s.setEr l x).cals = s.cals := rfl
@[simp] theorem State.setEr_pgs (l : Lane) (x : ErSt) : (s.setEr l x).pgs = s.pgs := rfl
@[simp] theorem State.setEr_pps (l : Lane) (x : ErSt) : (s.setEr l x).pps = s.pps := rfl
@[simp] theorem State.setEr_les (l : Lane) (x : ErSt) : (s.setEr l x).les = s.les := rfl
@[simp] theorem State.setEr_jobs (l : Lane) (x : ErSt) : (s.setEr l x).jobs = s.jobs := rfl
@[simp] theorem State.setEr_scns (l : Lane) (x : ErSt) : (s.setEr l x).scns = s.scns := rfl
@[simp] theorem State.setEr_stars (l : Lane) (x : ErSt) : (s.setEr l x).stars = s.stars := rfl
@[simp] theorem State.setEr_cans (l : Lane) (x : ErSt) : (s.setEr l x).cans = s.cans := rfl
@[simp] theorem State.setEr_dmas (l : Lane) (x : ErSt) : (s.setEr l x).dmas = s.dmas := rfl
@[simp] theorem State.setEr_ics (l : Lane) (x : ErSt) : (s.setEr l x).ics = s.ics := rfl
@[simp] theorem State.setEr_lane (l : Lane) (x : ErSt) (m : Lane) : (s.setEr l x).lane m = s.lane m := rfl
@[simp] theorem State.setEr_coll (l : Lane) (x : ErSt) (d : Coll) : (s.setEr l x).coll d = s.coll d := rfl
@[simp] theorem State.setEr_cell (l : Lane) (x : ErSt) (d : DLane) (i : Nat) : (s.setEr l x).cell d i = s.cell d i := rfl
@[simp] theorem State.setEr_axis (l : Lane) (x : ErSt) (d : DLane) (i : Nat) : (s.setEr l x).axis d i = s.axis d i := rfl
@[simp] theorem State.setEr_fbu (l : Lane) (x : ErSt) (d : DLane) (i : Nat) : (s.setEr l x).fbu d i = s.fbu d i := rfl
@[simp] theorem State.setEr_calx (l : Lane) (x : ErSt) (d : DLane) (i : Nat) : (s.setEr l x).calx d i = s.calx d i := rfl
@[simp] theorem State.setEr_pg (l : Lane) (x : ErSt) (d : DLane) (i : Nat) : (s.setEr l x).pg d i = s.pg d i := rfl
@[simp] theorem State.setEr_pp (l : Lane) (x : ErSt) (d : DLane) (i : Nat) : (s.setEr l x).pp d i = s.pp d i := rfl
@[simp] theorem State.setEr_le (l : Lane) (x : ErSt) (m : Lane) : (s.setEr l x).le m = s.le m := rfl
@[simp] theorem State.setEr_job (l : Lane) (x : ErSt) (m : Lane) (i : Nat) : (s.setEr l x).job m i = s.job m i := rfl
@[simp] theorem State.setEr_scn (l : Lane) (x : ErSt) (m : Lane) (i : Nat) : (s.setEr l x).scn m i = s.scn m i := rfl
@[simp] theorem State.setEr_star (l : Lane) (x : ErSt) (d : DLane) : (s.setEr l x).star d = s.star d := rfl
@[simp] theorem State.setEr_can (l : Lane) (x : ErSt) (m : Lane) (i : Nat) : (s.setEr l x).can m i = s.can m i := rfl
@[simp] theorem State.setEr_dma (l : Lane) (x : ErSt) (m : Lane) (i : Nat) : (s.setEr l x).dma m i = s.dma m i := rfl
@[simp] theorem State.setEr_ic (l : Lane) (x : ErSt) (m : Lane) : (s.setEr l x).ic m = s.ic m := rfl
@[simp] theorem State.setEr_reg (l : Lane) (x : ErSt) (q : Nat) : (s.setEr l x).reg q = s.reg q := rfl
@[simp] theorem State.setEr_rd8 (l : Lane) (x : ErSt) (m i : Nat) : (s.setEr l x).rd8 m i = s.rd8 m i := rfl
@[simp] theorem State.setEr_fg (l : Lane) (x : ErSt) (d : Nat) (g : Fld) : (s.setEr l x).fg d g = s.fg d g := rfl
@[simp] theorem State.setEr_fb (l : Lane) (x : ErSt) (d : Nat) (g : Fld) : (s.setEr l x).fb d g = s.fb d g := rfl
@[simp] theorem State.setEr_fi (l : Lane) (x : ErSt) (d : Nat) (g : Fld) : (s.setEr l x).fi d g = s.fi d g := rfl
@[simp] theorem State.setEr_running (l : Lane) (x : ErSt) (m : Lane) : (s.setEr l x).running m = s.running m := rfl

/-! setIc -/

@[simp] theorem State.setIc_pending (l : Lane) (x : IcSt) : (s.setIc l x).pending = s.pending := rfl
@[simp] theorem State.setIc_now (l : Lane) (x : IcSt) : (s.setIc l x).now = s.now := rfl
@[simp] theorem State.setIc_free (l : Lane) (x : IcSt) : (s.setIc l x).free = s.free := rfl
@[simp] theorem State.setIc_readData (l : Lane) (x : IcSt) : (s.setIc l x).readData = s.readData := rfl
@[simp] theorem State.setIc_rtcAt (l : Lane) (x : IcSt) : (s.setIc l x).rtcAt = s.rtcAt := rfl
@[simp] theorem State.setIc_regs (l : Lane) (x : IcSt) : (s.setIc l x).regs = s.regs := rfl
@[simp] theorem State.setIc_mem (l : Lane) (x : IcSt) : (s.setIc l x).mem = s.mem := rfl
@[simp] theorem State.setIc_evq (l : Lane) (x : IcSt) : (s.setIc l x).evq = s.evq := rfl
@[simp] theorem State.setIc_sk (l : Lane) (x : IcSt) : (s.setIc l x).sk = s.sk := rfl
@[simp] theorem State.setIc_tab (l : Lane) (x : IcSt) : (s.setIc l x).tab = s.tab := rfl
@[simp] theorem State.setIc_sf (l : Lane) (x : IcSt) : (s.setIc l x).sf = s.sf := rfl
@[simp] theorem State.setIc_xc (l : Lane) (x : IcSt) : (s.setIc l x).xc = s.xc := rfl
@[simp] theorem State.setIc_cmp (l : Lane) (x : IcSt) : (s.setIc l x).cmp = s.cmp := rfl
@[simp] theorem State.setIc_lanes (l : Lane) (x : IcSt) : (s.setIc l x).lanes = s.lanes := rfl
@[simp] theorem State.setIc_colls (l : Lane) (x : IcSt) : (s.setIc l x).colls = s.colls := rfl
@[simp] theorem State.setIc_cells (l : Lane) (x : IcSt) : (s.setIc l x).cells = s.cells := rfl
@[simp] theorem State.setIc_buses (l : Lane) (x : IcSt) : (s.setIc l x).buses = s.buses := rfl
@[simp] theorem State.setIc_axes (l : Lane) (x : IcSt) : (s.setIc l x).axes = s.axes := rfl
@[simp] theorem State.setIc_fbs (l : Lane) (x : IcSt) : (s.setIc l x).fbs = s.fbs := rfl
@[simp] theorem State.setIc_fired (l : Lane) (x : IcSt) : (s.setIc l x).fired = s.fired := rfl
@[simp] theorem State.setIc_cals (l : Lane) (x : IcSt) : (s.setIc l x).cals = s.cals := rfl
@[simp] theorem State.setIc_pgs (l : Lane) (x : IcSt) : (s.setIc l x).pgs = s.pgs := rfl
@[simp] theorem State.setIc_pps (l : Lane) (x : IcSt) : (s.setIc l x).pps = s.pps := rfl
@[simp] theorem State.setIc_les (l : Lane) (x : IcSt) : (s.setIc l x).les = s.les := rfl
@[simp] theorem State.setIc_jobs (l : Lane) (x : IcSt) : (s.setIc l x).jobs = s.jobs := rfl
@[simp] theorem State.setIc_scns (l : Lane) (x : IcSt) : (s.setIc l x).scns = s.scns := rfl
@[simp] theorem State.setIc_stars (l : Lane) (x : IcSt) : (s.setIc l x).stars = s.stars := rfl
@[simp] theorem State.setIc_cans (l : Lane) (x : IcSt) : (s.setIc l x).cans = s.cans := rfl
@[simp] theorem State.setIc_dmas (l : Lane) (x : IcSt) : (s.setIc l x).dmas = s.dmas := rfl
@[simp] theorem State.setIc_ers (l : Lane) (x : IcSt) : (s.setIc l x).ers = s.ers := rfl
@[simp] theorem State.setIc_lane (l : Lane) (x : IcSt) (m : Lane) : (s.setIc l x).lane m = s.lane m := rfl
@[simp] theorem State.setIc_coll (l : Lane) (x : IcSt) (d : Coll) : (s.setIc l x).coll d = s.coll d := rfl
@[simp] theorem State.setIc_cell (l : Lane) (x : IcSt) (d : DLane) (i : Nat) : (s.setIc l x).cell d i = s.cell d i := rfl
@[simp] theorem State.setIc_axis (l : Lane) (x : IcSt) (d : DLane) (i : Nat) : (s.setIc l x).axis d i = s.axis d i := rfl
@[simp] theorem State.setIc_fbu (l : Lane) (x : IcSt) (d : DLane) (i : Nat) : (s.setIc l x).fbu d i = s.fbu d i := rfl
@[simp] theorem State.setIc_calx (l : Lane) (x : IcSt) (d : DLane) (i : Nat) : (s.setIc l x).calx d i = s.calx d i := rfl
@[simp] theorem State.setIc_pg (l : Lane) (x : IcSt) (d : DLane) (i : Nat) : (s.setIc l x).pg d i = s.pg d i := rfl
@[simp] theorem State.setIc_pp (l : Lane) (x : IcSt) (d : DLane) (i : Nat) : (s.setIc l x).pp d i = s.pp d i := rfl
@[simp] theorem State.setIc_le (l : Lane) (x : IcSt) (m : Lane) : (s.setIc l x).le m = s.le m := rfl
@[simp] theorem State.setIc_job (l : Lane) (x : IcSt) (m : Lane) (i : Nat) : (s.setIc l x).job m i = s.job m i := rfl
@[simp] theorem State.setIc_scn (l : Lane) (x : IcSt) (m : Lane) (i : Nat) : (s.setIc l x).scn m i = s.scn m i := rfl
@[simp] theorem State.setIc_star (l : Lane) (x : IcSt) (d : DLane) : (s.setIc l x).star d = s.star d := rfl
@[simp] theorem State.setIc_can (l : Lane) (x : IcSt) (m : Lane) (i : Nat) : (s.setIc l x).can m i = s.can m i := rfl
@[simp] theorem State.setIc_dma (l : Lane) (x : IcSt) (m : Lane) (i : Nat) : (s.setIc l x).dma m i = s.dma m i := rfl
@[simp] theorem State.setIc_er (l : Lane) (x : IcSt) (m : Lane) : (s.setIc l x).er m = s.er m := rfl
@[simp] theorem State.setIc_reg (l : Lane) (x : IcSt) (q : Nat) : (s.setIc l x).reg q = s.reg q := rfl
@[simp] theorem State.setIc_rd8 (l : Lane) (x : IcSt) (m i : Nat) : (s.setIc l x).rd8 m i = s.rd8 m i := rfl
@[simp] theorem State.setIc_fg (l : Lane) (x : IcSt) (d : Nat) (g : Fld) : (s.setIc l x).fg d g = s.fg d g := rfl
@[simp] theorem State.setIc_fb (l : Lane) (x : IcSt) (d : Nat) (g : Fld) : (s.setIc l x).fb d g = s.fb d g := rfl
@[simp] theorem State.setIc_fi (l : Lane) (x : IcSt) (d : Nat) (g : Fld) : (s.setIc l x).fi d g = s.fi d g := rfl
@[simp] theorem State.setIc_running (l : Lane) (x : IcSt) (m : Lane) : (s.setIc l x).running m = s.running m := rfl

/-! setReg -/

@[simp] theorem State.setReg_pending (k : Nat) (v : Word) : (s.setReg k v).pending = s.pending := rfl
@[simp] theorem State.setReg_now (k : Nat) (v : Word) : (s.setReg k v).now = s.now := rfl
@[simp] theorem State.setReg_free (k : Nat) (v : Word) : (s.setReg k v).free = s.free := rfl
@[simp] theorem State.setReg_readData (k : Nat) (v : Word) : (s.setReg k v).readData = s.readData := rfl
@[simp] theorem State.setReg_rtcAt (k : Nat) (v : Word) : (s.setReg k v).rtcAt = s.rtcAt := rfl
@[simp] theorem State.setReg_mem (k : Nat) (v : Word) : (s.setReg k v).mem = s.mem := rfl
@[simp] theorem State.setReg_evq (k : Nat) (v : Word) : (s.setReg k v).evq = s.evq := rfl
@[simp] theorem State.setReg_sk (k : Nat) (v : Word) : (s.setReg k v).sk = s.sk := rfl
@[simp] theorem State.setReg_tab (k : Nat) (v : Word) : (s.setReg k v).tab = s.tab := rfl
@[simp] theorem State.setReg_sf (k : Nat) (v : Word) : (s.setReg k v).sf = s.sf := rfl
@[simp] theorem State.setReg_xc (k : Nat) (v : Word) : (s.setReg k v).xc = s.xc := rfl
@[simp] theorem State.setReg_cmp (k : Nat) (v : Word) : (s.setReg k v).cmp = s.cmp := rfl
@[simp] theorem State.setReg_lanes (k : Nat) (v : Word) : (s.setReg k v).lanes = s.lanes := rfl
@[simp] theorem State.setReg_colls (k : Nat) (v : Word) : (s.setReg k v).colls = s.colls := rfl
@[simp] theorem State.setReg_cells (k : Nat) (v : Word) : (s.setReg k v).cells = s.cells := rfl
@[simp] theorem State.setReg_buses (k : Nat) (v : Word) : (s.setReg k v).buses = s.buses := rfl
@[simp] theorem State.setReg_axes (k : Nat) (v : Word) : (s.setReg k v).axes = s.axes := rfl
@[simp] theorem State.setReg_fbs (k : Nat) (v : Word) : (s.setReg k v).fbs = s.fbs := rfl
@[simp] theorem State.setReg_fired (k : Nat) (v : Word) : (s.setReg k v).fired = s.fired := rfl
@[simp] theorem State.setReg_cals (k : Nat) (v : Word) : (s.setReg k v).cals = s.cals := rfl
@[simp] theorem State.setReg_pgs (k : Nat) (v : Word) : (s.setReg k v).pgs = s.pgs := rfl
@[simp] theorem State.setReg_pps (k : Nat) (v : Word) : (s.setReg k v).pps = s.pps := rfl
@[simp] theorem State.setReg_les (k : Nat) (v : Word) : (s.setReg k v).les = s.les := rfl
@[simp] theorem State.setReg_jobs (k : Nat) (v : Word) : (s.setReg k v).jobs = s.jobs := rfl
@[simp] theorem State.setReg_scns (k : Nat) (v : Word) : (s.setReg k v).scns = s.scns := rfl
@[simp] theorem State.setReg_stars (k : Nat) (v : Word) : (s.setReg k v).stars = s.stars := rfl
@[simp] theorem State.setReg_cans (k : Nat) (v : Word) : (s.setReg k v).cans = s.cans := rfl
@[simp] theorem State.setReg_dmas (k : Nat) (v : Word) : (s.setReg k v).dmas = s.dmas := rfl
@[simp] theorem State.setReg_ers (k : Nat) (v : Word) : (s.setReg k v).ers = s.ers := rfl
@[simp] theorem State.setReg_ics (k : Nat) (v : Word) : (s.setReg k v).ics = s.ics := rfl
@[simp] theorem State.setReg_lane (k : Nat) (v : Word) (m : Lane) : (s.setReg k v).lane m = s.lane m := rfl
@[simp] theorem State.setReg_coll (k : Nat) (v : Word) (d : Coll) : (s.setReg k v).coll d = s.coll d := rfl
@[simp] theorem State.setReg_cell (k : Nat) (v : Word) (d : DLane) (i : Nat) : (s.setReg k v).cell d i = s.cell d i := rfl
@[simp] theorem State.setReg_axis (k : Nat) (v : Word) (d : DLane) (i : Nat) : (s.setReg k v).axis d i = s.axis d i := rfl
@[simp] theorem State.setReg_fbu (k : Nat) (v : Word) (d : DLane) (i : Nat) : (s.setReg k v).fbu d i = s.fbu d i := rfl
@[simp] theorem State.setReg_calx (k : Nat) (v : Word) (d : DLane) (i : Nat) : (s.setReg k v).calx d i = s.calx d i := rfl
@[simp] theorem State.setReg_pg (k : Nat) (v : Word) (d : DLane) (i : Nat) : (s.setReg k v).pg d i = s.pg d i := rfl
@[simp] theorem State.setReg_pp (k : Nat) (v : Word) (d : DLane) (i : Nat) : (s.setReg k v).pp d i = s.pp d i := rfl
@[simp] theorem State.setReg_le (k : Nat) (v : Word) (m : Lane) : (s.setReg k v).le m = s.le m := rfl
@[simp] theorem State.setReg_job (k : Nat) (v : Word) (m : Lane) (i : Nat) : (s.setReg k v).job m i = s.job m i := rfl
@[simp] theorem State.setReg_scn (k : Nat) (v : Word) (m : Lane) (i : Nat) : (s.setReg k v).scn m i = s.scn m i := rfl
@[simp] theorem State.setReg_star (k : Nat) (v : Word) (d : DLane) : (s.setReg k v).star d = s.star d := rfl
@[simp] theorem State.setReg_can (k : Nat) (v : Word) (m : Lane) (i : Nat) : (s.setReg k v).can m i = s.can m i := rfl
@[simp] theorem State.setReg_dma (k : Nat) (v : Word) (m : Lane) (i : Nat) : (s.setReg k v).dma m i = s.dma m i := rfl
@[simp] theorem State.setReg_er (k : Nat) (v : Word) (m : Lane) : (s.setReg k v).er m = s.er m := rfl
@[simp] theorem State.setReg_ic (k : Nat) (v : Word) (m : Lane) : (s.setReg k v).ic m = s.ic m := rfl
@[simp] theorem State.setReg_rd8 (k : Nat) (v : Word) (m i : Nat) : (s.setReg k v).rd8 m i = s.rd8 m i := rfl
@[simp] theorem State.setReg_running (k : Nat) (v : Word) (m : Lane) : (s.setReg k v).running m = s.running m := rfl

/-! fs -/

@[simp] theorem State.fs_pending (b : Nat) (f : Fld) (n : Nat) : (s.fs b f n).pending = s.pending := rfl
@[simp] theorem State.fs_now (b : Nat) (f : Fld) (n : Nat) : (s.fs b f n).now = s.now := rfl
@[simp] theorem State.fs_free (b : Nat) (f : Fld) (n : Nat) : (s.fs b f n).free = s.free := rfl
@[simp] theorem State.fs_readData (b : Nat) (f : Fld) (n : Nat) : (s.fs b f n).readData = s.readData := rfl
@[simp] theorem State.fs_rtcAt (b : Nat) (f : Fld) (n : Nat) : (s.fs b f n).rtcAt = s.rtcAt := rfl
@[simp] theorem State.fs_mem (b : Nat) (f : Fld) (n : Nat) : (s.fs b f n).mem = s.mem := rfl
@[simp] theorem State.fs_evq (b : Nat) (f : Fld) (n : Nat) : (s.fs b f n).evq = s.evq := rfl
@[simp] theorem State.fs_sk (b : Nat) (f : Fld) (n : Nat) : (s.fs b f n).sk = s.sk := rfl
@[simp] theorem State.fs_tab (b : Nat) (f : Fld) (n : Nat) : (s.fs b f n).tab = s.tab := rfl
@[simp] theorem State.fs_sf (b : Nat) (f : Fld) (n : Nat) : (s.fs b f n).sf = s.sf := rfl
@[simp] theorem State.fs_xc (b : Nat) (f : Fld) (n : Nat) : (s.fs b f n).xc = s.xc := rfl
@[simp] theorem State.fs_cmp (b : Nat) (f : Fld) (n : Nat) : (s.fs b f n).cmp = s.cmp := rfl
@[simp] theorem State.fs_lanes (b : Nat) (f : Fld) (n : Nat) : (s.fs b f n).lanes = s.lanes := rfl
@[simp] theorem State.fs_colls (b : Nat) (f : Fld) (n : Nat) : (s.fs b f n).colls = s.colls := rfl
@[simp] theorem State.fs_cells (b : Nat) (f : Fld) (n : Nat) : (s.fs b f n).cells = s.cells := rfl
@[simp] theorem State.fs_buses (b : Nat) (f : Fld) (n : Nat) : (s.fs b f n).buses = s.buses := rfl
@[simp] theorem State.fs_axes (b : Nat) (f : Fld) (n : Nat) : (s.fs b f n).axes = s.axes := rfl
@[simp] theorem State.fs_fbs (b : Nat) (f : Fld) (n : Nat) : (s.fs b f n).fbs = s.fbs := rfl
@[simp] theorem State.fs_fired (b : Nat) (f : Fld) (n : Nat) : (s.fs b f n).fired = s.fired := rfl
@[simp] theorem State.fs_cals (b : Nat) (f : Fld) (n : Nat) : (s.fs b f n).cals = s.cals := rfl
@[simp] theorem State.fs_pgs (b : Nat) (f : Fld) (n : Nat) : (s.fs b f n).pgs = s.pgs := rfl
@[simp] theorem State.fs_pps (b : Nat) (f : Fld) (n : Nat) : (s.fs b f n).pps = s.pps := rfl
@[simp] theorem State.fs_les (b : Nat) (f : Fld) (n : Nat) : (s.fs b f n).les = s.les := rfl
@[simp] theorem State.fs_jobs (b : Nat) (f : Fld) (n : Nat) : (s.fs b f n).jobs = s.jobs := rfl
@[simp] theorem State.fs_scns (b : Nat) (f : Fld) (n : Nat) : (s.fs b f n).scns = s.scns := rfl
@[simp] theorem State.fs_stars (b : Nat) (f : Fld) (n : Nat) : (s.fs b f n).stars = s.stars := rfl
@[simp] theorem State.fs_cans (b : Nat) (f : Fld) (n : Nat) : (s.fs b f n).cans = s.cans := rfl
@[simp] theorem State.fs_dmas (b : Nat) (f : Fld) (n : Nat) : (s.fs b f n).dmas = s.dmas := rfl
@[simp] theorem State.fs_ers (b : Nat) (f : Fld) (n : Nat) : (s.fs b f n).ers = s.ers := rfl
@[simp] theorem State.fs_ics (b : Nat) (f : Fld) (n : Nat) : (s.fs b f n).ics = s.ics := rfl
@[simp] theorem State.fs_lane (b : Nat) (f : Fld) (n : Nat) (m : Lane) : (s.fs b f n).lane m = s.lane m := rfl
@[simp] theorem State.fs_coll (b : Nat) (f : Fld) (n : Nat) (d : Coll) : (s.fs b f n).coll d = s.coll d := rfl
@[simp] theorem State.fs_cell (b : Nat) (f : Fld) (n : Nat) (d : DLane) (i : Nat) : (s.fs b f n).cell d i = s.cell d i := rfl
@[simp] theorem State.fs_axis (b : Nat) (f : Fld) (n : Nat) (d : DLane) (i : Nat) : (s.fs b f n).axis d i = s.axis d i := rfl
@[simp] theorem State.fs_fbu (b : Nat) (f : Fld) (n : Nat) (d : DLane) (i : Nat) : (s.fs b f n).fbu d i = s.fbu d i := rfl
@[simp] theorem State.fs_calx (b : Nat) (f : Fld) (n : Nat) (d : DLane) (i : Nat) : (s.fs b f n).calx d i = s.calx d i := rfl
@[simp] theorem State.fs_pg (b : Nat) (f : Fld) (n : Nat) (d : DLane) (i : Nat) : (s.fs b f n).pg d i = s.pg d i := rfl
@[simp] theorem State.fs_pp (b : Nat) (f : Fld) (n : Nat) (d : DLane) (i : Nat) : (s.fs b f n).pp d i = s.pp d i := rfl
@[simp] theorem State.fs_le (b : Nat) (f : Fld) (n : Nat) (m : Lane) : (s.fs b f n).le m = s.le m := rfl
@[simp] theorem State.fs_job (b : Nat) (f : Fld) (n : Nat) (m : Lane) (i : Nat) : (s.fs b f n).job m i = s.job m i := rfl
@[simp] theorem State.fs_scn (b : Nat) (f : Fld) (n : Nat) (m : Lane) (i : Nat) : (s.fs b f n).scn m i = s.scn m i := rfl
@[simp] theorem State.fs_star (b : Nat) (f : Fld) (n : Nat) (d : DLane) : (s.fs b f n).star d = s.star d := rfl
@[simp] theorem State.fs_can (b : Nat) (f : Fld) (n : Nat) (m : Lane) (i : Nat) : (s.fs b f n).can m i = s.can m i := rfl
@[simp] theorem State.fs_dma (b : Nat) (f : Fld) (n : Nat) (m : Lane) (i : Nat) : (s.fs b f n).dma m i = s.dma m i := rfl
@[simp] theorem State.fs_er (b : Nat) (f : Fld) (n : Nat) (m : Lane) : (s.fs b f n).er m = s.er m := rfl
@[simp] theorem State.fs_ic (b : Nat) (f : Fld) (n : Nat) (m : Lane) : (s.fs b f n).ic m = s.ic m := rfl
@[simp] theorem State.fs_rd8 (b : Nat) (f : Fld) (n : Nat) (m i : Nat) : (s.fs b f n).rd8 m i = s.rd8 m i := rfl
@[simp] theorem State.fs_running (b : Nat) (f : Fld) (n : Nat) (m : Lane) : (s.fs b f n).running m = s.running m := rfl

/-! fsi -/

@[simp] theorem State.fsi_pending (b : Nat) (f : Fld) (z : Int) : (s.fsi b f z).pending = s.pending := rfl
@[simp] theorem State.fsi_now (b : Nat) (f : Fld) (z : Int) : (s.fsi b f z).now = s.now := rfl
@[simp] theorem State.fsi_free (b : Nat) (f : Fld) (z : Int) : (s.fsi b f z).free = s.free := rfl
@[simp] theorem State.fsi_readData (b : Nat) (f : Fld) (z : Int) : (s.fsi b f z).readData = s.readData := rfl
@[simp] theorem State.fsi_rtcAt (b : Nat) (f : Fld) (z : Int) : (s.fsi b f z).rtcAt = s.rtcAt := rfl
@[simp] theorem State.fsi_mem (b : Nat) (f : Fld) (z : Int) : (s.fsi b f z).mem = s.mem := rfl
@[simp] theorem State.fsi_evq (b : Nat) (f : Fld) (z : Int) : (s.fsi b f z).evq = s.evq := rfl
@[simp] theorem State.fsi_sk (b : Nat) (f : Fld) (z : Int) : (s.fsi b f z).sk = s.sk := rfl
@[simp] theorem State.fsi_tab (b : Nat) (f : Fld) (z : Int) : (s.fsi b f z).tab = s.tab := rfl
@[simp] theorem State.fsi_sf (b : Nat) (f : Fld) (z : Int) : (s.fsi b f z).sf = s.sf := rfl
@[simp] theorem State.fsi_xc (b : Nat) (f : Fld) (z : Int) : (s.fsi b f z).xc = s.xc := rfl
@[simp] theorem State.fsi_cmp (b : Nat) (f : Fld) (z : Int) : (s.fsi b f z).cmp = s.cmp := rfl
@[simp] theorem State.fsi_lanes (b : Nat) (f : Fld) (z : Int) : (s.fsi b f z).lanes = s.lanes := rfl
@[simp] theorem State.fsi_colls (b : Nat) (f : Fld) (z : Int) : (s.fsi b f z).colls = s.colls := rfl
@[simp] theorem State.fsi_cells (b : Nat) (f : Fld) (z : Int) : (s.fsi b f z).cells = s.cells := rfl
@[simp] theorem State.fsi_buses (b : Nat) (f : Fld) (z : Int) : (s.fsi b f z).buses = s.buses := rfl
@[simp] theorem State.fsi_axes (b : Nat) (f : Fld) (z : Int) : (s.fsi b f z).axes = s.axes := rfl
@[simp] theorem State.fsi_fbs (b : Nat) (f : Fld) (z : Int) : (s.fsi b f z).fbs = s.fbs := rfl
@[simp] theorem State.fsi_fired (b : Nat) (f : Fld) (z : Int) : (s.fsi b f z).fired = s.fired := rfl
@[simp] theorem State.fsi_cals (b : Nat) (f : Fld) (z : Int) : (s.fsi b f z).cals = s.cals := rfl
@[simp] theorem State.fsi_pgs (b : Nat) (f : Fld) (z : Int) : (s.fsi b f z).pgs = s.pgs := rfl
@[simp] theorem State.fsi_pps (b : Nat) (f : Fld) (z : Int) : (s.fsi b f z).pps = s.pps := rfl
@[simp] theorem State.fsi_les (b : Nat) (f : Fld) (z : Int) : (s.fsi b f z).les = s.les := rfl
@[simp] theorem State.fsi_jobs (b : Nat) (f : Fld) (z : Int) : (s.fsi b f z).jobs = s.jobs := rfl
@[simp] theorem State.fsi_scns (b : Nat) (f : Fld) (z : Int) : (s.fsi b f z).scns = s.scns := rfl
@[simp] theorem State.fsi_stars (b : Nat) (f : Fld) (z : Int) : (s.fsi b f z).stars = s.stars := rfl
@[simp] theorem State.fsi_cans (b : Nat) (f : Fld) (z : Int) : (s.fsi b f z).cans = s.cans := rfl
@[simp] theorem State.fsi_dmas (b : Nat) (f : Fld) (z : Int) : (s.fsi b f z).dmas = s.dmas := rfl
@[simp] theorem State.fsi_ers (b : Nat) (f : Fld) (z : Int) : (s.fsi b f z).ers = s.ers := rfl
@[simp] theorem State.fsi_ics (b : Nat) (f : Fld) (z : Int) : (s.fsi b f z).ics = s.ics := rfl
@[simp] theorem State.fsi_lane (b : Nat) (f : Fld) (z : Int) (m : Lane) : (s.fsi b f z).lane m = s.lane m := rfl
@[simp] theorem State.fsi_coll (b : Nat) (f : Fld) (z : Int) (d : Coll) : (s.fsi b f z).coll d = s.coll d := rfl
@[simp] theorem State.fsi_cell (b : Nat) (f : Fld) (z : Int) (d : DLane) (i : Nat) : (s.fsi b f z).cell d i = s.cell d i := rfl
@[simp] theorem State.fsi_axis (b : Nat) (f : Fld) (z : Int) (d : DLane) (i : Nat) : (s.fsi b f z).axis d i = s.axis d i := rfl
@[simp] theorem State.fsi_fbu (b : Nat) (f : Fld) (z : Int) (d : DLane) (i : Nat) : (s.fsi b f z).fbu d i = s.fbu d i := rfl
@[simp] theorem State.fsi_calx (b : Nat) (f : Fld) (z : Int) (d : DLane) (i : Nat) : (s.fsi b f z).calx d i = s.calx d i := rfl
@[simp] theorem State.fsi_pg (b : Nat) (f : Fld) (z : Int) (d : DLane) (i : Nat) : (s.fsi b f z).pg d i = s.pg d i := rfl
@[simp] theorem State.fsi_pp (b : Nat) (f : Fld) (z : Int) (d : DLane) (i : Nat) : (s.fsi b f z).pp d i = s.pp d i := rfl
@[simp] theorem State.fsi_le (b : Nat) (f : Fld) (z : Int) (m : Lane) : (s.fsi b f z).le m = s.le m := rfl
@[simp] theorem State.fsi_job (b : Nat) (f : Fld) (z : Int) (m : Lane) (i : Nat) : (s.fsi b f z).job m i = s.job m i := rfl
@[simp] theorem State.fsi_scn (b : Nat) (f : Fld) (z : Int) (m : Lane) (i : Nat) : (s.fsi b f z).scn m i = s.scn m i := rfl
@[simp] theorem State.fsi_star (b : Nat) (f : Fld) (z : Int) (d : DLane) : (s.fsi b f z).star d = s.star d := rfl
@[simp] theorem State.fsi_can (b : Nat) (f : Fld) (z : Int) (m : Lane) (i : Nat) : (s.fsi b f z).can m i = s.can m i := rfl
@[simp] theorem State.fsi_dma (b : Nat) (f : Fld) (z : Int) (m : Lane) (i : Nat) : (s.fsi b f z).dma m i = s.dma m i := rfl
@[simp] theorem State.fsi_er (b : Nat) (f : Fld) (z : Int) (m : Lane) : (s.fsi b f z).er m = s.er m := rfl
@[simp] theorem State.fsi_ic (b : Nat) (f : Fld) (z : Int) (m : Lane) : (s.fsi b f z).ic m = s.ic m := rfl
@[simp] theorem State.fsi_rd8 (b : Nat) (f : Fld) (z : Int) (m i : Nat) : (s.fsi b f z).rd8 m i = s.rd8 m i := rfl
@[simp] theorem State.fsi_running (b : Nat) (f : Fld) (z : Int) (m : Lane) : (s.fsi b f z).running m = s.running m := rfl

/-! wr8 -/

@[simp] theorem State.wr8_pending (l a : Nat) (v : Byte) : (s.wr8 l a v).pending = s.pending := rfl
@[simp] theorem State.wr8_now (l a : Nat) (v : Byte) : (s.wr8 l a v).now = s.now := rfl
@[simp] theorem State.wr8_free (l a : Nat) (v : Byte) : (s.wr8 l a v).free = s.free := rfl
@[simp] theorem State.wr8_readData (l a : Nat) (v : Byte) : (s.wr8 l a v).readData = s.readData := rfl
@[simp] theorem State.wr8_rtcAt (l a : Nat) (v : Byte) : (s.wr8 l a v).rtcAt = s.rtcAt := rfl
@[simp] theorem State.wr8_regs (l a : Nat) (v : Byte) : (s.wr8 l a v).regs = s.regs := rfl
@[simp] theorem State.wr8_evq (l a : Nat) (v : Byte) : (s.wr8 l a v).evq = s.evq := rfl
@[simp] theorem State.wr8_sk (l a : Nat) (v : Byte) : (s.wr8 l a v).sk = s.sk := rfl
@[simp] theorem State.wr8_tab (l a : Nat) (v : Byte) : (s.wr8 l a v).tab = s.tab := rfl
@[simp] theorem State.wr8_sf (l a : Nat) (v : Byte) : (s.wr8 l a v).sf = s.sf := rfl
@[simp] theorem State.wr8_xc (l a : Nat) (v : Byte) : (s.wr8 l a v).xc = s.xc := rfl
@[simp] theorem State.wr8_cmp (l a : Nat) (v : Byte) : (s.wr8 l a v).cmp = s.cmp := rfl
@[simp] theorem State.wr8_lanes (l a : Nat) (v : Byte) : (s.wr8 l a v).lanes = s.lanes := rfl
@[simp] theorem State.wr8_colls (l a : Nat) (v : Byte) : (s.wr8 l a v).colls = s.colls := rfl
@[simp] theorem State.wr8_cells (l a : Nat) (v : Byte) : (s.wr8 l a v).cells = s.cells := rfl
@[simp] theorem State.wr8_buses (l a : Nat) (v : Byte) : (s.wr8 l a v).buses = s.buses := rfl
@[simp] theorem State.wr8_axes (l a : Nat) (v : Byte) : (s.wr8 l a v).axes = s.axes := rfl
@[simp] theorem State.wr8_fbs (l a : Nat) (v : Byte) : (s.wr8 l a v).fbs = s.fbs := rfl
@[simp] theorem State.wr8_fired (l a : Nat) (v : Byte) : (s.wr8 l a v).fired = s.fired := rfl
@[simp] theorem State.wr8_cals (l a : Nat) (v : Byte) : (s.wr8 l a v).cals = s.cals := rfl
@[simp] theorem State.wr8_pgs (l a : Nat) (v : Byte) : (s.wr8 l a v).pgs = s.pgs := rfl
@[simp] theorem State.wr8_pps (l a : Nat) (v : Byte) : (s.wr8 l a v).pps = s.pps := rfl
@[simp] theorem State.wr8_les (l a : Nat) (v : Byte) : (s.wr8 l a v).les = s.les := rfl
@[simp] theorem State.wr8_jobs (l a : Nat) (v : Byte) : (s.wr8 l a v).jobs = s.jobs := rfl
@[simp] theorem State.wr8_scns (l a : Nat) (v : Byte) : (s.wr8 l a v).scns = s.scns := rfl
@[simp] theorem State.wr8_stars (l a : Nat) (v : Byte) : (s.wr8 l a v).stars = s.stars := rfl
@[simp] theorem State.wr8_cans (l a : Nat) (v : Byte) : (s.wr8 l a v).cans = s.cans := rfl
@[simp] theorem State.wr8_dmas (l a : Nat) (v : Byte) : (s.wr8 l a v).dmas = s.dmas := rfl
@[simp] theorem State.wr8_ers (l a : Nat) (v : Byte) : (s.wr8 l a v).ers = s.ers := rfl
@[simp] theorem State.wr8_ics (l a : Nat) (v : Byte) : (s.wr8 l a v).ics = s.ics := rfl
@[simp] theorem State.wr8_lane (l a : Nat) (v : Byte) (m : Lane) : (s.wr8 l a v).lane m = s.lane m := rfl
@[simp] theorem State.wr8_coll (l a : Nat) (v : Byte) (d : Coll) : (s.wr8 l a v).coll d = s.coll d := rfl
@[simp] theorem State.wr8_cell (l a : Nat) (v : Byte) (d : DLane) (i : Nat) : (s.wr8 l a v).cell d i = s.cell d i := rfl
@[simp] theorem State.wr8_axis (l a : Nat) (v : Byte) (d : DLane) (i : Nat) : (s.wr8 l a v).axis d i = s.axis d i := rfl
@[simp] theorem State.wr8_fbu (l a : Nat) (v : Byte) (d : DLane) (i : Nat) : (s.wr8 l a v).fbu d i = s.fbu d i := rfl
@[simp] theorem State.wr8_calx (l a : Nat) (v : Byte) (d : DLane) (i : Nat) : (s.wr8 l a v).calx d i = s.calx d i := rfl
@[simp] theorem State.wr8_pg (l a : Nat) (v : Byte) (d : DLane) (i : Nat) : (s.wr8 l a v).pg d i = s.pg d i := rfl
@[simp] theorem State.wr8_pp (l a : Nat) (v : Byte) (d : DLane) (i : Nat) : (s.wr8 l a v).pp d i = s.pp d i := rfl
@[simp] theorem State.wr8_le (l a : Nat) (v : Byte) (m : Lane) : (s.wr8 l a v).le m = s.le m := rfl
@[simp] theorem State.wr8_job (l a : Nat) (v : Byte) (m : Lane) (i : Nat) : (s.wr8 l a v).job m i = s.job m i := rfl
@[simp] theorem State.wr8_scn (l a : Nat) (v : Byte) (m : Lane) (i : Nat) : (s.wr8 l a v).scn m i = s.scn m i := rfl
@[simp] theorem State.wr8_star (l a : Nat) (v : Byte) (d : DLane) : (s.wr8 l a v).star d = s.star d := rfl
@[simp] theorem State.wr8_can (l a : Nat) (v : Byte) (m : Lane) (i : Nat) : (s.wr8 l a v).can m i = s.can m i := rfl
@[simp] theorem State.wr8_dma (l a : Nat) (v : Byte) (m : Lane) (i : Nat) : (s.wr8 l a v).dma m i = s.dma m i := rfl
@[simp] theorem State.wr8_er (l a : Nat) (v : Byte) (m : Lane) : (s.wr8 l a v).er m = s.er m := rfl
@[simp] theorem State.wr8_ic (l a : Nat) (v : Byte) (m : Lane) : (s.wr8 l a v).ic m = s.ic m := rfl
@[simp] theorem State.wr8_reg (l a : Nat) (v : Byte) (q : Nat) : (s.wr8 l a v).reg q = s.reg q := rfl
@[simp] theorem State.wr8_fg (l a : Nat) (v : Byte) (d : Nat) (g : Fld) : (s.wr8 l a v).fg d g = s.fg d g := rfl
@[simp] theorem State.wr8_fb (l a : Nat) (v : Byte) (d : Nat) (g : Fld) : (s.wr8 l a v).fb d g = s.fb d g := rfl
@[simp] theorem State.wr8_fi (l a : Nat) (v : Byte) (d : Nat) (g : Fld) : (s.wr8 l a v).fi d g = s.fi d g := rfl
@[simp] theorem State.wr8_running (l a : Nat) (v : Byte) (m : Lane) : (s.wr8 l a v).running m = s.running m := rfl

/-! Reading what was set -/

theorem laneNo_inj {l m : Lane} (h : laneNo l = laneNo m) : l = m := by cases l <;> cases m <;> simp_all [laneNo]

theorem dno_inj {l m : DLane} (h : dno l = dno m) : l = m := by cases l <;> cases m <;> simp_all [dno]

theorem collNo_inj {c d : Coll} (h : collNo c = collNo d) : c = d := by
  rcases c with (_ | _ | _) | _ <;> rcases d with (_ | _ | _) | _ <;> simp_all [collNo, laneNo]

@[simp] theorem State.lane_setLane_same (l : Lane) (x : LaneSt) : (s.setLane l x).lane l = x := by simp [State.lane, State.setLane]
@[simp] theorem State.coll_setColl_same (c : Coll) (x : Collector) : (s.setColl c x).coll c = x := by simp [State.coll, State.setColl]
@[simp] theorem State.cell_setCell_same (l : DLane) (c : Nat) (x : CellSt) : (s.setCell l c x).cell l c = x := by simp [State.cell, State.setCell]
@[simp] theorem State.axis_setAxis_same (l : DLane) (n : Nat) (x : AxisSt) : (s.setAxis l n x).axis l n = x := by simp [State.axis, State.setAxis]
@[simp] theorem State.fbu_setFbu_same (l : DLane) (n : Nat) (x : FbSt) : (s.setFbu l n x).fbu l n = x := by simp [State.fbu, State.setFbu]
@[simp] theorem State.calx_setCal_same (l : DLane) (n : Nat) (x : CalSt) : (s.setCal l n x).calx l n = x := by simp [State.calx, State.setCal]
@[simp] theorem State.pg_setPg_same (l : DLane) (n : Nat) (x : PgSt) : (s.setPg l n x).pg l n = x := by simp [State.pg, State.setPg]
@[simp] theorem State.pp_setPp_same (l : DLane) (n : Nat) (x : PpSt) : (s.setPp l n x).pp l n = x := by simp [State.pp, State.setPp]
@[simp] theorem State.le_setLe_same (l : Lane) (x : LeSt) : (s.setLe l x).le l = x := by simp [State.le, State.setLe]
@[simp] theorem State.job_setJob_same (l : Lane) (j : Nat) (x : Job) : (s.setJob l j x).job l j = x := by simp [State.job, State.setJob]
@[simp] theorem State.scn_setScn_same (l : Lane) (c : Nat) (x : ScnSt) : (s.setScn l c x).scn l c = x := by simp [State.scn, State.setScn]
@[simp] theorem State.star_setStar_same (l : DLane) (x : StarSt) : (s.setStar l x).star l = x := by simp [State.star, State.setStar]
@[simp] theorem State.can_setCan_same (l : Lane) (k : Nat) (x : CanSt) : (s.setCan l k x).can l k = x := by simp [State.can, State.setCan]
@[simp] theorem State.dma_setDma_same (l : Lane) (n : Nat) (x : DmaSt) : (s.setDma l n x).dma l n = x := by simp [State.dma, State.setDma]
@[simp] theorem State.er_setEr_same (l : Lane) (x : ErSt) : (s.setEr l x).er l = x := by simp [State.er, State.setEr]
@[simp] theorem State.ic_setIc_same (l : Lane) (x : IcSt) : (s.setIc l x).ic l = x := by simp [State.ic, State.setIc]

theorem State.lane_setLane (l m : Lane) (x : LaneSt) : (s.setLane l x).lane m = if m = l then x else s.lane m := by
  by_cases h : m = l
  · subst h; simp
  · have : laneNo m ≠ laneNo l := fun e => h (laneNo_inj e)
    simp [State.lane, State.setLane, famGet_famSet_of_ne _ _ _ this, h]

theorem State.coll_setColl (c d : Coll) (x : Collector) : (s.setColl c x).coll d = if d = c then x else s.coll d := by
  by_cases h : d = c
  · subst h; simp
  · have : collNo d ≠ collNo c := fun e => h (collNo_inj e)
    simp [State.coll, State.setColl, famGet_famSet_of_ne _ _ _ this, h]

theorem lk_inj {a b i j : Nat} (hi : i < 256) (hj : j < 256) (h : lk a i = lk b j) : a = b ∧ i = j := by
  unfold lk at h; omega

/-- Another unit of the same kind is left alone. -/
theorem State.cell_setCell_of_ne {l d : DLane} {n i : Nat} (x : CellSt) (hn : n < 256) (hi : i < 256) (h : d ≠ l ∨ i ≠ n) :
    (s.setCell l n x).cell d i = s.cell d i := by
  have : lk (dno d) i ≠ lk (dno l) n := fun e =>
    h.elim (fun k => k (dno_inj (lk_inj hi hn e).1)) (fun k => k (lk_inj hi hn e).2)
  simp [State.cell, State.setCell, famGet_famSet_of_ne _ _ _ this]

/-- Another unit of the same kind is left alone. -/
theorem State.axis_setAxis_of_ne {l d : DLane} {n i : Nat} (x : AxisSt) (hn : n < 256) (hi : i < 256) (h : d ≠ l ∨ i ≠ n) :
    (s.setAxis l n x).axis d i = s.axis d i := by
  have : lk (dno d) i ≠ lk (dno l) n := fun e =>
    h.elim (fun k => k (dno_inj (lk_inj hi hn e).1)) (fun k => k (lk_inj hi hn e).2)
  simp [State.axis, State.setAxis, famGet_famSet_of_ne _ _ _ this]

/-- Another unit of the same kind is left alone. -/
theorem State.fbu_setFbu_of_ne {l d : DLane} {n i : Nat} (x : FbSt) (hn : n < 256) (hi : i < 256) (h : d ≠ l ∨ i ≠ n) :
    (s.setFbu l n x).fbu d i = s.fbu d i := by
  have : lk (dno d) i ≠ lk (dno l) n := fun e =>
    h.elim (fun k => k (dno_inj (lk_inj hi hn e).1)) (fun k => k (lk_inj hi hn e).2)
  simp [State.fbu, State.setFbu, famGet_famSet_of_ne _ _ _ this]

/-- Another unit of the same kind is left alone. -/
theorem State.calx_setCal_of_ne {l d : DLane} {n i : Nat} (x : CalSt) (hn : n < 256) (hi : i < 256) (h : d ≠ l ∨ i ≠ n) :
    (s.setCal l n x).calx d i = s.calx d i := by
  have : lk (dno d) i ≠ lk (dno l) n := fun e =>
    h.elim (fun k => k (dno_inj (lk_inj hi hn e).1)) (fun k => k (lk_inj hi hn e).2)
  simp [State.calx, State.setCal, famGet_famSet_of_ne _ _ _ this]

/-- Another unit of the same kind is left alone. -/
theorem State.pg_setPg_of_ne {l d : DLane} {n i : Nat} (x : PgSt) (hn : n < 256) (hi : i < 256) (h : d ≠ l ∨ i ≠ n) :
    (s.setPg l n x).pg d i = s.pg d i := by
  have : lk (dno d) i ≠ lk (dno l) n := fun e =>
    h.elim (fun k => k (dno_inj (lk_inj hi hn e).1)) (fun k => k (lk_inj hi hn e).2)
  simp [State.pg, State.setPg, famGet_famSet_of_ne _ _ _ this]

/-- Another unit of the same kind is left alone. -/
theorem State.pp_setPp_of_ne {l d : DLane} {n i : Nat} (x : PpSt) (hn : n < 256) (hi : i < 256) (h : d ≠ l ∨ i ≠ n) :
    (s.setPp l n x).pp d i = s.pp d i := by
  have : lk (dno d) i ≠ lk (dno l) n := fun e =>
    h.elim (fun k => k (dno_inj (lk_inj hi hn e).1)) (fun k => k (lk_inj hi hn e).2)
  simp [State.pp, State.setPp, famGet_famSet_of_ne _ _ _ this]

/-- Another unit of the same kind is left alone. -/
theorem State.job_setJob_of_ne {l d : Lane} {n i : Nat} (x : Job) (hn : n < 256) (hi : i < 256) (h : d ≠ l ∨ i ≠ n) :
    (s.setJob l n x).job d i = s.job d i := by
  have : lk (laneNo d) i ≠ lk (laneNo l) n := fun e =>
    h.elim (fun k => k (laneNo_inj (lk_inj hi hn e).1)) (fun k => k (lk_inj hi hn e).2)
  simp [State.job, State.setJob, famGet_famSet_of_ne _ _ _ this]

/-- Another unit of the same kind is left alone. -/
theorem State.scn_setScn_of_ne {l d : Lane} {n i : Nat} (x : ScnSt) (hn : n < 256) (hi : i < 256) (h : d ≠ l ∨ i ≠ n) :
    (s.setScn l n x).scn d i = s.scn d i := by
  have : lk (laneNo d) i ≠ lk (laneNo l) n := fun e =>
    h.elim (fun k => k (laneNo_inj (lk_inj hi hn e).1)) (fun k => k (lk_inj hi hn e).2)
  simp [State.scn, State.setScn, famGet_famSet_of_ne _ _ _ this]

/-- Another unit of the same kind is left alone. -/
theorem State.can_setCan_of_ne {l d : Lane} {n i : Nat} (x : CanSt) (hn : n < 256) (hi : i < 256) (h : d ≠ l ∨ i ≠ n) :
    (s.setCan l n x).can d i = s.can d i := by
  have : lk (laneNo d) i ≠ lk (laneNo l) n := fun e =>
    h.elim (fun k => k (laneNo_inj (lk_inj hi hn e).1)) (fun k => k (lk_inj hi hn e).2)
  simp [State.can, State.setCan, famGet_famSet_of_ne _ _ _ this]

/-- Another unit of the same kind is left alone. -/
theorem State.dma_setDma_of_ne {l d : Lane} {n i : Nat} (x : DmaSt) (hn : n < 256) (hi : i < 256) (h : d ≠ l ∨ i ≠ n) :
    (s.setDma l n x).dma d i = s.dma d i := by
  have : lk (laneNo d) i ≠ lk (laneNo l) n := fun e =>
    h.elim (fun k => k (laneNo_inj (lk_inj hi hn e).1)) (fun k => k (lk_inj hi hn e).2)
  simp [State.dma, State.setDma, famGet_famSet_of_ne _ _ _ this]

end Sys2Proof.Machine
end

