-- ==== Sys2Proof/Laws/Events.lean ====
section
/-! SUPPORT. Counting, firing a trigger and raising an event, field by field and reader by reader. -/

namespace Sys2Proof.Machine

open Sys2Proof

variable (s : State)

/-- What raising an event can do: append it, stamped, or nothing. -/
theorem State.raise_cases (e : Event) : s.raise e = s ∨ s.raise e = { s with evq := s.evq ++ [s.stamp e] } := by
  unfold State.raise
  split
  · exact .inl rfl
  · split
    · split
      · exact .inl rfl
      · exact .inr rfl
    · exact .inr rfl

/-! fInc -/

@[simp] theorem State.fInc_pending (b : Nat) (f : Fld) : (s.fInc b f).pending = s.pending := by unfold State.fInc; split <;> rfl
@[simp] theorem State.fInc_now (b : Nat) (f : Fld) : (s.fInc b f).now = s.now := by unfold State.fInc; split <;> rfl
@[simp] theorem State.fInc_free (b : Nat) (f : Fld) : (s.fInc b f).free = s.free := by unfold State.fInc; split <;> rfl
@[simp] theorem State.fInc_readData (b : Nat) (f : Fld) : (s.fInc b f).readData = s.readData := by unfold State.fInc; split <;> rfl
@[simp] theorem State.fInc_rtcAt (b : Nat) (f : Fld) : (s.fInc b f).rtcAt = s.rtcAt := by unfold State.fInc; split <;> rfl
@[simp] theorem State.fInc_mem (b : Nat) (f : Fld) : (s.fInc b f).mem = s.mem := by unfold State.fInc; split <;> rfl
@[simp] theorem State.fInc_evq (b : Nat) (f : Fld) : (s.fInc b f).evq = s.evq := by unfold State.fInc; split <;> rfl
@[simp] theorem State.fInc_sk (b : Nat) (f : Fld) : (s.fInc b f).sk = s.sk := by unfold State.fInc; split <;> rfl
@[simp] theorem State.fInc_tab (b : Nat) (f : Fld) : (s.fInc b f).tab = s.tab := by unfold State.fInc; split <;> rfl
@[simp] theorem State.fInc_sf (b : Nat) (f : Fld) : (s.fInc b f).sf = s.sf := by unfold State.fInc; split <;> rfl
@[simp] theorem State.fInc_xc (b : Nat) (f : Fld) : (s.fInc b f).xc = s.xc := by unfold State.fInc; split <;> rfl
@[simp] theorem State.fInc_cmp (b : Nat) (f : Fld) : (s.fInc b f).cmp = s.cmp := by unfold State.fInc; split <;> rfl
@[simp] theorem State.fInc_lanes (b : Nat) (f : Fld) : (s.fInc b f).lanes = s.lanes := by unfold State.fInc; split <;> rfl
@[simp] theorem State.fInc_colls (b : Nat) (f : Fld) : (s.fInc b f).colls = s.colls := by unfold State.fInc; split <;> rfl
@[simp] theorem State.fInc_cells (b : Nat) (f : Fld) : (s.fInc b f).cells = s.cells := by unfold State.fInc; split <;> rfl
@[simp] theorem State.fInc_buses (b : Nat) (f : Fld) : (s.fInc b f).buses = s.buses := by unfold State.fInc; split <;> rfl
@[simp] theorem State.fInc_axes (b : Nat) (f : Fld) : (s.fInc b f).axes = s.axes := by unfold State.fInc; split <;> rfl
@[simp] theorem State.fInc_fbs (b : Nat) (f : Fld) : (s.fInc b f).fbs = s.fbs := by unfold State.fInc; split <;> rfl
@[simp] theorem State.fInc_fired (b : Nat) (f : Fld) : (s.fInc b f).fired = s.fired := by unfold State.fInc; split <;> rfl
@[simp] theorem State.fInc_cals (b : Nat) (f : Fld) : (s.fInc b f).cals = s.cals := by unfold State.fInc; split <;> rfl
@[simp] theorem State.fInc_pgs (b : Nat) (f : Fld) : (s.fInc b f).pgs = s.pgs := by unfold State.fInc; split <;> rfl
@[simp] theorem State.fInc_pps (b : Nat) (f : Fld) : (s.fInc b f).pps = s.pps := by unfold State.fInc; split <;> rfl
@[simp] theorem State.fInc_les (b : Nat) (f : Fld) : (s.fInc b f).les = s.les := by unfold State.fInc; split <;> rfl
@[simp] theorem State.fInc_jobs (b : Nat) (f : Fld) : (s.fInc b f).jobs = s.jobs := by unfold State.fInc; split <;> rfl
@[simp] theorem State.fInc_scns (b : Nat) (f : Fld) : (s.fInc b f).scns = s.scns := by unfold State.fInc; split <;> rfl
@[simp] theorem State.fInc_stars (b : Nat) (f : Fld) : (s.fInc b f).stars = s.stars := by unfold State.fInc; split <;> rfl
@[simp] theorem State.fInc_cans (b : Nat) (f : Fld) : (s.fInc b f).cans = s.cans := by unfold State.fInc; split <;> rfl
@[simp] theorem State.fInc_dmas (b : Nat) (f : Fld) : (s.fInc b f).dmas = s.dmas := by unfold State.fInc; split <;> rfl
@[simp] theorem State.fInc_ers (b : Nat) (f : Fld) : (s.fInc b f).ers = s.ers := by unfold State.fInc; split <;> rfl
@[simp] theorem State.fInc_ics (b : Nat) (f : Fld) : (s.fInc b f).ics = s.ics := by unfold State.fInc; split <;> rfl
@[simp] theorem State.fInc_lane (b : Nat) (f : Fld) (m : Lane) : (s.fInc b f).lane m = s.lane m := by unfold State.fInc; split <;> rfl
@[simp] theorem State.fInc_coll (b : Nat) (f : Fld) (d : Coll) : (s.fInc b f).coll d = s.coll d := by unfold State.fInc; split <;> rfl
@[simp] theorem State.fInc_cell (b : Nat) (f : Fld) (d : DLane) (i : Nat) : (s.fInc b f).cell d i = s.cell d i := by unfold State.fInc; split <;> rfl
@[simp] theorem State.fInc_axis (b : Nat) (f : Fld) (d : DLane) (i : Nat) : (s.fInc b f).axis d i = s.axis d i := by unfold State.fInc; split <;> rfl
@[simp] theorem State.fInc_fbu (b : Nat) (f : Fld) (d : DLane) (i : Nat) : (s.fInc b f).fbu d i = s.fbu d i := by unfold State.fInc; split <;> rfl
@[simp] theorem State.fInc_calx (b : Nat) (f : Fld) (d : DLane) (i : Nat) : (s.fInc b f).calx d i = s.calx d i := by unfold State.fInc; split <;> rfl
@[simp] theorem State.fInc_pg (b : Nat) (f : Fld) (d : DLane) (i : Nat) : (s.fInc b f).pg d i = s.pg d i := by unfold State.fInc; split <;> rfl
@[simp] theorem State.fInc_pp (b : Nat) (f : Fld) (d : DLane) (i : Nat) : (s.fInc b f).pp d i = s.pp d i := by unfold State.fInc; split <;> rfl
@[simp] theorem State.fInc_le (b : Nat) (f : Fld) (m : Lane) : (s.fInc b f).le m = s.le m := by unfold State.fInc; split <;> rfl
@[simp] theorem State.fInc_job (b : Nat) (f : Fld) (m : Lane) (i : Nat) : (s.fInc b f).job m i = s.job m i := by unfold State.fInc; split <;> rfl
@[simp] theorem State.fInc_scn (b : Nat) (f : Fld) (m : Lane) (i : Nat) : (s.fInc b f).scn m i = s.scn m i := by unfold State.fInc; split <;> rfl
@[simp] theorem State.fInc_star (b : Nat) (f : Fld) (d : DLane) : (s.fInc b f).star d = s.star d := by unfold State.fInc; split <;> rfl
@[simp] theorem State.fInc_can (b : Nat) (f : Fld) (m : Lane) (i : Nat) : (s.fInc b f).can m i = s.can m i := by unfold State.fInc; split <;> rfl
@[simp] theorem State.fInc_dma (b : Nat) (f : Fld) (m : Lane) (i : Nat) : (s.fInc b f).dma m i = s.dma m i := by unfold State.fInc; split <;> rfl
@[simp] theorem State.fInc_er (b : Nat) (f : Fld) (m : Lane) : (s.fInc b f).er m = s.er m := by unfold State.fInc; split <;> rfl
@[simp] theorem State.fInc_ic (b : Nat) (f : Fld) (m : Lane) : (s.fInc b f).ic m = s.ic m := by unfold State.fInc; split <;> rfl
@[simp] theorem State.fInc_rd8 (b : Nat) (f : Fld) (m i : Nat) : (s.fInc b f).rd8 m i = s.rd8 m i := by unfold State.fInc; split <;> rfl
@[simp] theorem State.fInc_running (b : Nat) (f : Fld) (m : Lane) : (s.fInc b f).running m = s.running m := by unfold State.fInc; split <;> rfl

/-! fsSat -/

@[simp] theorem State.fsSat_pending (b : Nat) (f : Fld) (z : Int) : (s.fsSat b f z).pending = s.pending := rfl
@[simp] theorem State.fsSat_now (b : Nat) (f : Fld) (z : Int) : (s.fsSat b f z).now = s.now := rfl
@[simp] theorem State.fsSat_free (b : Nat) (f : Fld) (z : Int) : (s.fsSat b f z).free = s.free := rfl
@[simp] theorem State.fsSat_readData (b : Nat) (f : Fld) (z : Int) : (s.fsSat b f z).readData = s.readData := rfl
@[simp] theorem State.fsSat_rtcAt (b : Nat) (f : Fld) (z : Int) : (s.fsSat b f z).rtcAt = s.rtcAt := rfl
@[simp] theorem State.fsSat_mem (b : Nat) (f : Fld) (z : Int) : (s.fsSat b f z).mem = s.mem := rfl
@[simp] theorem State.fsSat_evq (b : Nat) (f : Fld) (z : Int) : (s.fsSat b f z).evq = s.evq := rfl
@[simp] theorem State.fsSat_sk (b : Nat) (f : Fld) (z : Int) : (s.fsSat b f z).sk = s.sk := rfl
@[simp] theorem State.fsSat_tab (b : Nat) (f : Fld) (z : Int) : (s.fsSat b f z).tab = s.tab := rfl
@[simp] theorem State.fsSat_sf (b : Nat) (f : Fld) (z : Int) : (s.fsSat b f z).sf = s.sf := rfl
@[simp] theorem State.fsSat_xc (b : Nat) (f : Fld) (z : Int) : (s.fsSat b f z).xc = s.xc := rfl
@[simp] theorem State.fsSat_cmp (b : Nat) (f : Fld) (z : Int) : (s.fsSat b f z).cmp = s.cmp := rfl
@[simp] theorem State.fsSat_lanes (b : Nat) (f : Fld) (z : Int) : (s.fsSat b f z).lanes = s.lanes := rfl
@[simp] theorem State.fsSat_colls (b : Nat) (f : Fld) (z : Int) : (s.fsSat b f z).colls = s.colls := rfl
@[simp] theorem State.fsSat_cells (b : Nat) (f : Fld) (z : Int) : (s.fsSat b f z).cells = s.cells := rfl
@[simp] theorem State.fsSat_buses (b : Nat) (f : Fld) (z : Int) : (s.fsSat b f z).buses = s.buses := rfl
@[simp] theorem State.fsSat_axes (b : Nat) (f : Fld) (z : Int) : (s.fsSat b f z).axes = s.axes := rfl
@[simp] theorem State.fsSat_fbs (b : Nat) (f : Fld) (z : Int) : (s.fsSat b f z).fbs = s.fbs := rfl
@[simp] theorem State.fsSat_fired (b : Nat) (f : Fld) (z : Int) : (s.fsSat b f z).fired = s.fired := rfl
@[simp] theorem State.fsSat_cals (b : Nat) (f : Fld) (z : Int) : (s.fsSat b f z).cals = s.cals := rfl
@[simp] theorem State.fsSat_pgs (b : Nat) (f : Fld) (z : Int) : (s.fsSat b f z).pgs = s.pgs := rfl
@[simp] theorem State.fsSat_pps (b : Nat) (f : Fld) (z : Int) : (s.fsSat b f z).pps = s.pps := rfl
@[simp] theorem State.fsSat_les (b : Nat) (f : Fld) (z : Int) : (s.fsSat b f z).les = s.les := rfl
@[simp] theorem State.fsSat_jobs (b : Nat) (f : Fld) (z : Int) : (s.fsSat b f z).jobs = s.jobs := rfl
@[simp] theorem State.fsSat_scns (b : Nat) (f : Fld) (z : Int) : (s.fsSat b f z).scns = s.scns := rfl
@[simp] theorem State.fsSat_stars (b : Nat) (f : Fld) (z : Int) : (s.fsSat b f z).stars = s.stars := rfl
@[simp] theorem State.fsSat_cans (b : Nat) (f : Fld) (z : Int) : (s.fsSat b f z).cans = s.cans := rfl
@[simp] theorem State.fsSat_dmas (b : Nat) (f : Fld) (z : Int) : (s.fsSat b f z).dmas = s.dmas := rfl
@[simp] theorem State.fsSat_ers (b : Nat) (f : Fld) (z : Int) : (s.fsSat b f z).ers = s.ers := rfl
@[simp] theorem State.fsSat_ics (b : Nat) (f : Fld) (z : Int) : (s.fsSat b f z).ics = s.ics := rfl
@[simp] theorem State.fsSat_lane (b : Nat) (f : Fld) (z : Int) (m : Lane) : (s.fsSat b f z).lane m = s.lane m := rfl
@[simp] theorem State.fsSat_coll (b : Nat) (f : Fld) (z : Int) (d : Coll) : (s.fsSat b f z).coll d = s.coll d := rfl
@[simp] theorem State.fsSat_cell (b : Nat) (f : Fld) (z : Int) (d : DLane) (i : Nat) : (s.fsSat b f z).cell d i = s.cell d i := rfl
@[simp] theorem State.fsSat_axis (b : Nat) (f : Fld) (z : Int) (d : DLane) (i : Nat) : (s.fsSat b f z).axis d i = s.axis d i := rfl
@[simp] theorem State.fsSat_fbu (b : Nat) (f : Fld) (z : Int) (d : DLane) (i : Nat) : (s.fsSat b f z).fbu d i = s.fbu d i := rfl
@[simp] theorem State.fsSat_calx (b : Nat) (f : Fld) (z : Int) (d : DLane) (i : Nat) : (s.fsSat b f z).calx d i = s.calx d i := rfl
@[simp] theorem State.fsSat_pg (b : Nat) (f : Fld) (z : Int) (d : DLane) (i : Nat) : (s.fsSat b f z).pg d i = s.pg d i := rfl
@[simp] theorem State.fsSat_pp (b : Nat) (f : Fld) (z : Int) (d : DLane) (i : Nat) : (s.fsSat b f z).pp d i = s.pp d i := rfl
@[simp] theorem State.fsSat_le (b : Nat) (f : Fld) (z : Int) (m : Lane) : (s.fsSat b f z).le m = s.le m := rfl
@[simp] theorem State.fsSat_job (b : Nat) (f : Fld) (z : Int) (m : Lane) (i : Nat) : (s.fsSat b f z).job m i = s.job m i := rfl
@[simp] theorem State.fsSat_scn (b : Nat) (f : Fld) (z : Int) (m : Lane) (i : Nat) : (s.fsSat b f z).scn m i = s.scn m i := rfl
@[simp] theorem State.fsSat_star (b : Nat) (f : Fld) (z : Int) (d : DLane) : (s.fsSat b f z).star d = s.star d := rfl
@[simp] theorem State.fsSat_can (b : Nat) (f : Fld) (z : Int) (m : Lane) (i : Nat) : (s.fsSat b f z).can m i = s.can m i := rfl
@[simp] theorem State.fsSat_dma (b : Nat) (f : Fld) (z : Int) (m : Lane) (i : Nat) : (s.fsSat b f z).dma m i = s.dma m i := rfl
@[simp] theorem State.fsSat_er (b : Nat) (f : Fld) (z : Int) (m : Lane) : (s.fsSat b f z).er m = s.er m := rfl
@[simp] theorem State.fsSat_ic (b : Nat) (f : Fld) (z : Int) (m : Lane) : (s.fsSat b f z).ic m = s.ic m := rfl
@[simp] theorem State.fsSat_rd8 (b : Nat) (f : Fld) (z : Int) (m i : Nat) : (s.fsSat b f z).rd8 m i = s.rd8 m i := rfl
@[simp] theorem State.fsSat_running (b : Nat) (f : Fld) (z : Int) (m : Lane) : (s.fsSat b f z).running m = s.running m := rfl

/-! trig -/

@[simp] theorem State.trig_pending (t : Lane) (k : Nat) : (s.trig t k).pending = s.pending := by unfold State.trig; split <;> rfl
@[simp] theorem State.trig_now (t : Lane) (k : Nat) : (s.trig t k).now = s.now := by unfold State.trig; split <;> rfl
@[simp] theorem State.trig_free (t : Lane) (k : Nat) : (s.trig t k).free = s.free := by unfold State.trig; split <;> rfl
@[simp] theorem State.trig_readData (t : Lane) (k : Nat) : (s.trig t k).readData = s.readData := by unfold State.trig; split <;> rfl
@[simp] theorem State.trig_rtcAt (t : Lane) (k : Nat) : (s.trig t k).rtcAt = s.rtcAt := by unfold State.trig; split <;> rfl
@[simp] theorem State.trig_regs (t : Lane) (k : Nat) : (s.trig t k).regs = s.regs := by unfold State.trig; split <;> rfl
@[simp] theorem State.trig_mem (t : Lane) (k : Nat) : (s.trig t k).mem = s.mem := by unfold State.trig; split <;> rfl
@[simp] theorem State.trig_evq (t : Lane) (k : Nat) : (s.trig t k).evq = s.evq := by unfold State.trig; split <;> rfl
@[simp] theorem State.trig_sk (t : Lane) (k : Nat) : (s.trig t k).sk = s.sk := by unfold State.trig; split <;> rfl
@[simp] theorem State.trig_tab (t : Lane) (k : Nat) : (s.trig t k).tab = s.tab := by unfold State.trig; split <;> rfl
@[simp] theorem State.trig_sf (t : Lane) (k : Nat) : (s.trig t k).sf = s.sf := by unfold State.trig; split <;> rfl
@[simp] theorem State.trig_xc (t : Lane) (k : Nat) : (s.trig t k).xc = s.xc := by unfold State.trig; split <;> rfl
@[simp] theorem State.trig_cmp (t : Lane) (k : Nat) : (s.trig t k).cmp = s.cmp := by unfold State.trig; split <;> rfl
@[simp] theorem State.trig_lanes (t : Lane) (k : Nat) : (s.trig t k).lanes = s.lanes := by unfold State.trig; split <;> rfl
@[simp] theorem State.trig_colls (t : Lane) (k : Nat) : (s.trig t k).colls = s.colls := by unfold State.trig; split <;> rfl
@[simp] theorem State.trig_cells (t : Lane) (k : Nat) : (s.trig t k).cells = s.cells := by unfold State.trig; split <;> rfl
@[simp] theorem State.trig_buses (t : Lane) (k : Nat) : (s.trig t k).buses = s.buses := by unfold State.trig; split <;> rfl
@[simp] theorem State.trig_axes (t : Lane) (k : Nat) : (s.trig t k).axes = s.axes := by unfold State.trig; split <;> rfl
@[simp] theorem State.trig_fbs (t : Lane) (k : Nat) : (s.trig t k).fbs = s.fbs := by unfold State.trig; split <;> rfl
@[simp] theorem State.trig_cals (t : Lane) (k : Nat) : (s.trig t k).cals = s.cals := by unfold State.trig; split <;> rfl
@[simp] theorem State.trig_pgs (t : Lane) (k : Nat) : (s.trig t k).pgs = s.pgs := by unfold State.trig; split <;> rfl
@[simp] theorem State.trig_pps (t : Lane) (k : Nat) : (s.trig t k).pps = s.pps := by unfold State.trig; split <;> rfl
@[simp] theorem State.trig_les (t : Lane) (k : Nat) : (s.trig t k).les = s.les := by unfold State.trig; split <;> rfl
@[simp] theorem State.trig_jobs (t : Lane) (k : Nat) : (s.trig t k).jobs = s.jobs := by unfold State.trig; split <;> rfl
@[simp] theorem State.trig_scns (t : Lane) (k : Nat) : (s.trig t k).scns = s.scns := by unfold State.trig; split <;> rfl
@[simp] theorem State.trig_stars (t : Lane) (k : Nat) : (s.trig t k).stars = s.stars := by unfold State.trig; split <;> rfl
@[simp] theorem State.trig_cans (t : Lane) (k : Nat) : (s.trig t k).cans = s.cans := by unfold State.trig; split <;> rfl
@[simp] theorem State.trig_dmas (t : Lane) (k : Nat) : (s.trig t k).dmas = s.dmas := by unfold State.trig; split <;> rfl
@[simp] theorem State.trig_ers (t : Lane) (k : Nat) : (s.trig t k).ers = s.ers := by unfold State.trig; split <;> rfl
@[simp] theorem State.trig_ics (t : Lane) (k : Nat) : (s.trig t k).ics = s.ics := by unfold State.trig; split <;> rfl
@[simp] theorem State.trig_lane (t : Lane) (k : Nat) (m : Lane) : (s.trig t k).lane m = s.lane m := by unfold State.trig; split <;> rfl
@[simp] theorem State.trig_coll (t : Lane) (k : Nat) (d : Coll) : (s.trig t k).coll d = s.coll d := by unfold State.trig; split <;> rfl
@[simp] theorem State.trig_cell (t : Lane) (k : Nat) (d : DLane) (i : Nat) : (s.trig t k).cell d i = s.cell d i := by unfold State.trig; split <;> rfl
@[simp] theorem State.trig_axis (t : Lane) (k : Nat) (d : DLane) (i : Nat) : (s.trig t k).axis d i = s.axis d i := by unfold State.trig; split <;> rfl
@[simp] theorem State.trig_fbu (t : Lane) (k : Nat) (d : DLane) (i : Nat) : (s.trig t k).fbu d i = s.fbu d i := by unfold State.trig; split <;> rfl
@[simp] theorem State.trig_calx (t : Lane) (k : Nat) (d : DLane) (i : Nat) : (s.trig t k).calx d i = s.calx d i := by unfold State.trig; split <;> rfl
@[simp] theorem State.trig_pg (t : Lane) (k : Nat) (d : DLane) (i : Nat) : (s.trig t k).pg d i = s.pg d i := by unfold State.trig; split <;> rfl
@[simp] theorem State.trig_pp (t : Lane) (k : Nat) (d : DLane) (i : Nat) : (s.trig t k).pp d i = s.pp d i := by unfold State.trig; split <;> rfl
@[simp] theorem State.trig_le (t : Lane) (k : Nat) (m : Lane) : (s.trig t k).le m = s.le m := by unfold State.trig; split <;> rfl
@[simp] theorem State.trig_job (t : Lane) (k : Nat) (m : Lane) (i : Nat) : (s.trig t k).job m i = s.job m i := by unfold State.trig; split <;> rfl
@[simp] theorem State.trig_scn (t : Lane) (k : Nat) (m : Lane) (i : Nat) : (s.trig t k).scn m i = s.scn m i := by unfold State.trig; split <;> rfl
@[simp] theorem State.trig_star (t : Lane) (k : Nat) (d : DLane) : (s.trig t k).star d = s.star d := by unfold State.trig; split <;> rfl
@[simp] theorem State.trig_can (t : Lane) (k : Nat) (m : Lane) (i : Nat) : (s.trig t k).can m i = s.can m i := by unfold State.trig; split <;> rfl
@[simp] theorem State.trig_dma (t : Lane) (k : Nat) (m : Lane) (i : Nat) : (s.trig t k).dma m i = s.dma m i := by unfold State.trig; split <;> rfl
@[simp] theorem State.trig_er (t : Lane) (k : Nat) (m : Lane) : (s.trig t k).er m = s.er m := by unfold State.trig; split <;> rfl
@[simp] theorem State.trig_ic (t : Lane) (k : Nat) (m : Lane) : (s.trig t k).ic m = s.ic m := by unfold State.trig; split <;> rfl
@[simp] theorem State.trig_reg (t : Lane) (k : Nat) (q : Nat) : (s.trig t k).reg q = s.reg q := by unfold State.trig; split <;> rfl
@[simp] theorem State.trig_rd8 (t : Lane) (k : Nat) (m i : Nat) : (s.trig t k).rd8 m i = s.rd8 m i := by unfold State.trig; split <;> rfl
@[simp] theorem State.trig_fg (t : Lane) (k : Nat) (d : Nat) (g : Fld) : (s.trig t k).fg d g = s.fg d g := by unfold State.trig; split <;> rfl
@[simp] theorem State.trig_fb (t : Lane) (k : Nat) (d : Nat) (g : Fld) : (s.trig t k).fb d g = s.fb d g := by unfold State.trig; split <;> rfl
@[simp] theorem State.trig_fi (t : Lane) (k : Nat) (d : Nat) (g : Fld) : (s.trig t k).fi d g = s.fi d g := by unfold State.trig; split <;> rfl
@[simp] theorem State.trig_running (t : Lane) (k : Nat) (m : Lane) : (s.trig t k).running m = s.running m := by unfold State.trig; split <;> rfl

/-! raise -/

@[simp] theorem State.raise_pending (e : Event) : (s.raise e).pending = s.pending := by rcases s.raise_cases e with h | h <;> rw [h]
@[simp] theorem State.raise_now (e : Event) : (s.raise e).now = s.now := by rcases s.raise_cases e with h | h <;> rw [h]
@[simp] theorem State.raise_free (e : Event) : (s.raise e).free = s.free := by rcases s.raise_cases e with h | h <;> rw [h]
@[simp] theorem State.raise_readData (e : Event) : (s.raise e).readData = s.readData := by rcases s.raise_cases e with h | h <;> rw [h]
@[simp] theorem State.raise_rtcAt (e : Event) : (s.raise e).rtcAt = s.rtcAt := by rcases s.raise_cases e with h | h <;> rw [h]
@[simp] theorem State.raise_regs (e : Event) : (s.raise e).regs = s.regs := by rcases s.raise_cases e with h | h <;> rw [h]
@[simp] theorem State.raise_mem (e : Event) : (s.raise e).mem = s.mem := by rcases s.raise_cases e with h | h <;> rw [h]
@[simp] theorem State.raise_sk (e : Event) : (s.raise e).sk = s.sk := by rcases s.raise_cases e with h | h <;> rw [h]
@[simp] theorem State.raise_tab (e : Event) : (s.raise e).tab = s.tab := by rcases s.raise_cases e with h | h <;> rw [h]
@[simp] theorem State.raise_sf (e : Event) : (s.raise e).sf = s.sf := by rcases s.raise_cases e with h | h <;> rw [h]
@[simp] theorem State.raise_xc (e : Event) : (s.raise e).xc = s.xc := by rcases s.raise_cases e with h | h <;> rw [h]
@[simp] theorem State.raise_cmp (e : Event) : (s.raise e).cmp = s.cmp := by rcases s.raise_cases e with h | h <;> rw [h]
@[simp] theorem State.raise_lanes (e : Event) : (s.raise e).lanes = s.lanes := by rcases s.raise_cases e with h | h <;> rw [h]
@[simp] theorem State.raise_colls (e : Event) : (s.raise e).colls = s.colls := by rcases s.raise_cases e with h | h <;> rw [h]
@[simp] theorem State.raise_cells (e : Event) : (s.raise e).cells = s.cells := by rcases s.raise_cases e with h | h <;> rw [h]
@[simp] theorem State.raise_buses (e : Event) : (s.raise e).buses = s.buses := by rcases s.raise_cases e with h | h <;> rw [h]
@[simp] theorem State.raise_axes (e : Event) : (s.raise e).axes = s.axes := by rcases s.raise_cases e with h | h <;> rw [h]
@[simp] theorem State.raise_fbs (e : Event) : (s.raise e).fbs = s.fbs := by rcases s.raise_cases e with h | h <;> rw [h]
@[simp] theorem State.raise_fired (e : Event) : (s.raise e).fired = s.fired := by rcases s.raise_cases e with h | h <;> rw [h]
@[simp] theorem State.raise_cals (e : Event) : (s.raise e).cals = s.cals := by rcases s.raise_cases e with h | h <;> rw [h]
@[simp] theorem State.raise_pgs (e : Event) : (s.raise e).pgs = s.pgs := by rcases s.raise_cases e with h | h <;> rw [h]
@[simp] theorem State.raise_pps (e : Event) : (s.raise e).pps = s.pps := by rcases s.raise_cases e with h | h <;> rw [h]
@[simp] theorem State.raise_les (e : Event) : (s.raise e).les = s.les := by rcases s.raise_cases e with h | h <;> rw [h]
@[simp] theorem State.raise_jobs (e : Event) : (s.raise e).jobs = s.jobs := by rcases s.raise_cases e with h | h <;> rw [h]
@[simp] theorem State.raise_scns (e : Event) : (s.raise e).scns = s.scns := by rcases s.raise_cases e with h | h <;> rw [h]
@[simp] theorem State.raise_stars (e : Event) : (s.raise e).stars = s.stars := by rcases s.raise_cases e with h | h <;> rw [h]
@[simp] theorem State.raise_cans (e : Event) : (s.raise e).cans = s.cans := by rcases s.raise_cases e with h | h <;> rw [h]
@[simp] theorem State.raise_dmas (e : Event) : (s.raise e).dmas = s.dmas := by rcases s.raise_cases e with h | h <;> rw [h]
@[simp] theorem State.raise_ers (e : Event) : (s.raise e).ers = s.ers := by rcases s.raise_cases e with h | h <;> rw [h]
@[simp] theorem State.raise_ics (e : Event) : (s.raise e).ics = s.ics := by rcases s.raise_cases e with h | h <;> rw [h]
@[simp] theorem State.raise_lane (e : Event) (m : Lane) : (s.raise e).lane m = s.lane m := by simp only [State.lane, State.raise_lanes]
@[simp] theorem State.raise_coll (e : Event) (d : Coll) : (s.raise e).coll d = s.coll d := by simp only [State.coll, State.raise_colls]
@[simp] theorem State.raise_cell (e : Event) (d : DLane) (i : Nat) : (s.raise e).cell d i = s.cell d i := by simp only [State.cell, State.raise_cells]
@[simp] theorem State.raise_axis (e : Event) (d : DLane) (i : Nat) : (s.raise e).axis d i = s.axis d i := by simp only [State.axis, State.raise_axes]
@[simp] theorem State.raise_fbu (e : Event) (d : DLane) (i : Nat) : (s.raise e).fbu d i = s.fbu d i := by simp only [State.fbu, State.raise_fbs]
@[simp] theorem State.raise_calx (e : Event) (d : DLane) (i : Nat) : (s.raise e).calx d i = s.calx d i := by simp only [State.calx, State.raise_cals]
@[simp] theorem State.raise_pg (e : Event) (d : DLane) (i : Nat) : (s.raise e).pg d i = s.pg d i := by simp only [State.pg, State.raise_pgs]
@[simp] theorem State.raise_pp (e : Event) (d : DLane) (i : Nat) : (s.raise e).pp d i = s.pp d i := by simp only [State.pp, State.raise_pps]
@[simp] theorem State.raise_le (e : Event) (m : Lane) : (s.raise e).le m = s.le m := by simp only [State.le, State.raise_les]
@[simp] theorem State.raise_job (e : Event) (m : Lane) (i : Nat) : (s.raise e).job m i = s.job m i := by simp only [State.job, State.raise_jobs]
@[simp] theorem State.raise_scn (e : Event) (m : Lane) (i : Nat) : (s.raise e).scn m i = s.scn m i := by simp only [State.scn, State.raise_scns]
@[simp] theorem State.raise_star (e : Event) (d : DLane) : (s.raise e).star d = s.star d := by simp only [State.star, State.raise_stars]
@[simp] theorem State.raise_can (e : Event) (m : Lane) (i : Nat) : (s.raise e).can m i = s.can m i := by simp only [State.can, State.raise_cans]
@[simp] theorem State.raise_dma (e : Event) (m : Lane) (i : Nat) : (s.raise e).dma m i = s.dma m i := by simp only [State.dma, State.raise_dmas]
@[simp] theorem State.raise_er (e : Event) (m : Lane) : (s.raise e).er m = s.er m := by simp only [State.er, State.raise_ers]
@[simp] theorem State.raise_ic (e : Event) (m : Lane) : (s.raise e).ic m = s.ic m := by simp only [State.ic, State.raise_ics]
@[simp] theorem State.raise_reg (e : Event) (q : Nat) : (s.raise e).reg q = s.reg q := by simp only [State.reg, State.raise_regs]
@[simp] theorem State.raise_rd8 (e : Event) (m i : Nat) : (s.raise e).rd8 m i = s.rd8 m i := by simp only [State.rd8, State.raise_mem]
@[simp] theorem State.raise_fg (e : Event) (d : Nat) (g : Fld) : (s.raise e).fg d g = s.fg d g := by simp only [State.fg, State.reg, State.raise_regs]
@[simp] theorem State.raise_fb (e : Event) (d : Nat) (g : Fld) : (s.raise e).fb d g = s.fb d g := by simp only [State.fb, State.fg, State.reg, State.raise_regs]
@[simp] theorem State.raise_fi (e : Event) (d : Nat) (g : Fld) : (s.raise e).fi d g = s.fi d g := by simp only [State.fi, State.fg, State.reg, State.raise_regs]
@[simp] theorem State.raise_running (e : Event) (m : Lane) : (s.raise e).running m = s.running m := by simp only [State.running, State.lane, State.raise_lanes]

/-! raiseL -/

@[simp] theorem State.raiseL_pending (t : Lane) (src inst det : Nat) : (s.raiseL t src inst det).pending = s.pending := State.raise_pending s _
@[simp] theorem State.raiseL_now (t : Lane) (src inst det : Nat) : (s.raiseL t src inst det).now = s.now := State.raise_now s _
@[simp] theorem State.raiseL_free (t : Lane) (src inst det : Nat) : (s.raiseL t src inst det).free = s.free := State.raise_free s _
@[simp] theorem State.raiseL_readData (t : Lane) (src inst det : Nat) : (s.raiseL t src inst det).readData = s.readData := State.raise_readData s _
@[simp] theorem State.raiseL_rtcAt (t : Lane) (src inst det : Nat) : (s.raiseL t src inst det).rtcAt = s.rtcAt := State.raise_rtcAt s _
@[simp] theorem State.raiseL_regs (t : Lane) (src inst det : Nat) : (s.raiseL t src inst det).regs = s.regs := State.raise_regs s _
@[simp] theorem State.raiseL_mem (t : Lane) (src inst det : Nat) : (s.raiseL t src inst det).mem = s.mem := State.raise_mem s _
@[simp] theorem State.raiseL_sk (t : Lane) (src inst det : Nat) : (s.raiseL t src inst det).sk = s.sk := State.raise_sk s _
@[simp] theorem State.raiseL_tab (t : Lane) (src inst det : Nat) : (s.raiseL t src inst det).tab = s.tab := State.raise_tab s _
@[simp] theorem State.raiseL_sf (t : Lane) (src inst det : Nat) : (s.raiseL t src inst det).sf = s.sf := State.raise_sf s _
@[simp] theorem State.raiseL_xc (t : Lane) (src inst det : Nat) : (s.raiseL t src inst det).xc = s.xc := State.raise_xc s _
@[simp] theorem State.raiseL_cmp (t : Lane) (src inst det : Nat) : (s.raiseL t src inst det).cmp = s.cmp := State.raise_cmp s _
@[simp] theorem State.raiseL_lanes (t : Lane) (src inst det : Nat) : (s.raiseL t src inst det).lanes = s.lanes := State.raise_lanes s _
@[simp] theorem State.raiseL_colls (t : Lane) (src inst det : Nat) : (s.raiseL t src inst det).colls = s.colls := State.raise_colls s _
@[simp] theorem State.raiseL_cells (t : Lane) (src inst det : Nat) : (s.raiseL t src inst det).cells = s.cells := State.raise_cells s _
@[simp] theorem State.raiseL_buses (t : Lane) (src inst det : Nat) : (s.raiseL t src inst det).buses = s.buses := State.raise_buses s _
@[simp] theorem State.raiseL_axes (t : Lane) (src inst det : Nat) : (s.raiseL t src inst det).axes = s.axes := State.raise_axes s _
@[simp] theorem State.raiseL_fbs (t : Lane) (src inst det : Nat) : (s.raiseL t src inst det).fbs = s.fbs := State.raise_fbs s _
@[simp] theorem State.raiseL_fired (t : Lane) (src inst det : Nat) : (s.raiseL t src inst det).fired = s.fired := State.raise_fired s _
@[simp] theorem State.raiseL_cals (t : Lane) (src inst det : Nat) : (s.raiseL t src inst det).cals = s.cals := State.raise_cals s _
@[simp] theorem State.raiseL_pgs (t : Lane) (src inst det : Nat) : (s.raiseL t src inst det).pgs = s.pgs := State.raise_pgs s _
@[simp] theorem State.raiseL_pps (t : Lane) (src inst det : Nat) : (s.raiseL t src inst det).pps = s.pps := State.raise_pps s _
@[simp] theorem State.raiseL_les (t : Lane) (src inst det : Nat) : (s.raiseL t src inst det).les = s.les := State.raise_les s _
@[simp] theorem State.raiseL_jobs (t : Lane) (src inst det : Nat) : (s.raiseL t src inst det).jobs = s.jobs := State.raise_jobs s _
@[simp] theorem State.raiseL_scns (t : Lane) (src inst det : Nat) : (s.raiseL t src inst det).scns = s.scns := State.raise_scns s _
@[simp] theorem State.raiseL_stars (t : Lane) (src inst det : Nat) : (s.raiseL t src inst det).stars = s.stars := State.raise_stars s _
@[simp] theorem State.raiseL_cans (t : Lane) (src inst det : Nat) : (s.raiseL t src inst det).cans = s.cans := State.raise_cans s _
@[simp] theorem State.raiseL_dmas (t : Lane) (src inst det : Nat) : (s.raiseL t src inst det).dmas = s.dmas := State.raise_dmas s _
@[simp] theorem State.raiseL_ers (t : Lane) (src inst det : Nat) : (s.raiseL t src inst det).ers = s.ers := State.raise_ers s _
@[simp] theorem State.raiseL_ics (t : Lane) (src inst det : Nat) : (s.raiseL t src inst det).ics = s.ics := State.raise_ics s _
@[simp] theorem State.raiseL_lane (t : Lane) (src inst det : Nat) (m : Lane) : (s.raiseL t src inst det).lane m = s.lane m := State.raise_lane s _ m
@[simp] theorem State.raiseL_coll (t : Lane) (src inst det : Nat) (d : Coll) : (s.raiseL t src inst det).coll d = s.coll d := State.raise_coll s _ d
@[simp] theorem State.raiseL_cell (t : Lane) (src inst det : Nat) (d : DLane) (i : Nat) : (s.raiseL t src inst det).cell d i = s.cell d i := State.raise_cell s _ d i
@[simp] theorem State.raiseL_axis (t : Lane) (src inst det : Nat) (d : DLane) (i : Nat) : (s.raiseL t src inst det).axis d i = s.axis d i := State.raise_axis s _ d i
@[simp] theorem State.raiseL_fbu (t : Lane) (src inst det : Nat) (d : DLane) (i : Nat) : (s.raiseL t src inst det).fbu d i = s.fbu d i := State.raise_fbu s _ d i
@[simp] theorem State.raiseL_calx (t : Lane) (src inst det : Nat) (d : DLane) (i : Nat) : (s.raiseL t src inst det).calx d i = s.calx d i := State.raise_calx s _ d i
@[simp] theorem State.raiseL_pg (t : Lane) (src inst det : Nat) (d : DLane) (i : Nat) : (s.raiseL t src inst det).pg d i = s.pg d i := State.raise_pg s _ d i
@[simp] theorem State.raiseL_pp (t : Lane) (src inst det : Nat) (d : DLane) (i : Nat) : (s.raiseL t src inst det).pp d i = s.pp d i := State.raise_pp s _ d i
@[simp] theorem State.raiseL_le (t : Lane) (src inst det : Nat) (m : Lane) : (s.raiseL t src inst det).le m = s.le m := State.raise_le s _ m
@[simp] theorem State.raiseL_job (t : Lane) (src inst det : Nat) (m : Lane) (i : Nat) : (s.raiseL t src inst det).job m i = s.job m i := State.raise_job s _ m i
@[simp] theorem State.raiseL_scn (t : Lane) (src inst det : Nat) (m : Lane) (i : Nat) : (s.raiseL t src inst det).scn m i = s.scn m i := State.raise_scn s _ m i
@[simp] theorem State.raiseL_star (t : Lane) (src inst det : Nat) (d : DLane) : (s.raiseL t src inst det).star d = s.star d := State.raise_star s _ d
@[simp] theorem State.raiseL_can (t : Lane) (src inst det : Nat) (m : Lane) (i : Nat) : (s.raiseL t src inst det).can m i = s.can m i := State.raise_can s _ m i
@[simp] theorem State.raiseL_dma (t : Lane) (src inst det : Nat) (m : Lane) (i : Nat) : (s.raiseL t src inst det).dma m i = s.dma m i := State.raise_dma s _ m i
@[simp] theorem State.raiseL_er (t : Lane) (src inst det : Nat) (m : Lane) : (s.raiseL t src inst det).er m = s.er m := State.raise_er s _ m
@[simp] theorem State.raiseL_ic (t : Lane) (src inst det : Nat) (m : Lane) : (s.raiseL t src inst det).ic m = s.ic m := State.raise_ic s _ m
@[simp] theorem State.raiseL_reg (t : Lane) (src inst det : Nat) (q : Nat) : (s.raiseL t src inst det).reg q = s.reg q := State.raise_reg s _ q
@[simp] theorem State.raiseL_rd8 (t : Lane) (src inst det : Nat) (m i : Nat) : (s.raiseL t src inst det).rd8 m i = s.rd8 m i := State.raise_rd8 s _ m i
@[simp] theorem State.raiseL_fg (t : Lane) (src inst det : Nat) (d : Nat) (g : Fld) : (s.raiseL t src inst det).fg d g = s.fg d g := State.raise_fg s _ d g
@[simp] theorem State.raiseL_fb (t : Lane) (src inst det : Nat) (d : Nat) (g : Fld) : (s.raiseL t src inst det).fb d g = s.fb d g := State.raise_fb s _ d g
@[simp] theorem State.raiseL_fi (t : Lane) (src inst det : Nat) (d : Nat) (g : Fld) : (s.raiseL t src inst det).fi d g = s.fi d g := State.raise_fi s _ d g
@[simp] theorem State.raiseL_running (t : Lane) (src inst det : Nat) (m : Lane) : (s.raiseL t src inst det).running m = s.running m := State.raise_running s _ m

/-! raiseR -/

@[simp] theorem State.raiseR_pending (t : Lane) (src inst res det : Nat) : (s.raiseR t src inst res det).pending = s.pending := State.raise_pending s _
@[simp] theorem State.raiseR_now (t : Lane) (src inst res det : Nat) : (s.raiseR t src inst res det).now = s.now := State.raise_now s _
@[simp] theorem State.raiseR_free (t : Lane) (src inst res det : Nat) : (s.raiseR t src inst res det).free = s.free := State.raise_free s _
@[simp] theorem State.raiseR_readData (t : Lane) (src inst res det : Nat) : (s.raiseR t src inst res det).readData = s.readData := State.raise_readData s _
@[simp] theorem State.raiseR_rtcAt (t : Lane) (src inst res det : Nat) : (s.raiseR t src inst res det).rtcAt = s.rtcAt := State.raise_rtcAt s _
@[simp] theorem State.raiseR_regs (t : Lane) (src inst res det : Nat) : (s.raiseR t src inst res det).regs = s.regs := State.raise_regs s _
@[simp] theorem State.raiseR_mem (t : Lane) (src inst res det : Nat) : (s.raiseR t src inst res det).mem = s.mem := State.raise_mem s _
@[simp] theorem State.raiseR_sk (t : Lane) (src inst res det : Nat) : (s.raiseR t src inst res det).sk = s.sk := State.raise_sk s _
@[simp] theorem State.raiseR_tab (t : Lane) (src inst res det : Nat) : (s.raiseR t src inst res det).tab = s.tab := State.raise_tab s _
@[simp] theorem State.raiseR_sf (t : Lane) (src inst res det : Nat) : (s.raiseR t src inst res det).sf = s.sf := State.raise_sf s _
@[simp] theorem State.raiseR_xc (t : Lane) (src inst res det : Nat) : (s.raiseR t src inst res det).xc = s.xc := State.raise_xc s _
@[simp] theorem State.raiseR_cmp (t : Lane) (src inst res det : Nat) : (s.raiseR t src inst res det).cmp = s.cmp := State.raise_cmp s _
@[simp] theorem State.raiseR_lanes (t : Lane) (src inst res det : Nat) : (s.raiseR t src inst res det).lanes = s.lanes := State.raise_lanes s _
@[simp] theorem State.raiseR_colls (t : Lane) (src inst res det : Nat) : (s.raiseR t src inst res det).colls = s.colls := State.raise_colls s _
@[simp] theorem State.raiseR_cells (t : Lane) (src inst res det : Nat) : (s.raiseR t src inst res det).cells = s.cells := State.raise_cells s _
@[simp] theorem State.raiseR_buses (t : Lane) (src inst res det : Nat) : (s.raiseR t src inst res det).buses = s.buses := State.raise_buses s _
@[simp] theorem State.raiseR_axes (t : Lane) (src inst res det : Nat) : (s.raiseR t src inst res det).axes = s.axes := State.raise_axes s _
@[simp] theorem State.raiseR_fbs (t : Lane) (src inst res det : Nat) : (s.raiseR t src inst res det).fbs = s.fbs := State.raise_fbs s _
@[simp] theorem State.raiseR_fired (t : Lane) (src inst res det : Nat) : (s.raiseR t src inst res det).fired = s.fired := State.raise_fired s _
@[simp] theorem State.raiseR_cals (t : Lane) (src inst res det : Nat) : (s.raiseR t src inst res det).cals = s.cals := State.raise_cals s _
@[simp] theorem State.raiseR_pgs (t : Lane) (src inst res det : Nat) : (s.raiseR t src inst res det).pgs = s.pgs := State.raise_pgs s _
@[simp] theorem State.raiseR_pps (t : Lane) (src inst res det : Nat) : (s.raiseR t src inst res det).pps = s.pps := State.raise_pps s _
@[simp] theorem State.raiseR_les (t : Lane) (src inst res det : Nat) : (s.raiseR t src inst res det).les = s.les := State.raise_les s _
@[simp] theorem State.raiseR_jobs (t : Lane) (src inst res det : Nat) : (s.raiseR t src inst res det).jobs = s.jobs := State.raise_jobs s _
@[simp] theorem State.raiseR_scns (t : Lane) (src inst res det : Nat) : (s.raiseR t src inst res det).scns = s.scns := State.raise_scns s _
@[simp] theorem State.raiseR_stars (t : Lane) (src inst res det : Nat) : (s.raiseR t src inst res det).stars = s.stars := State.raise_stars s _
@[simp] theorem State.raiseR_cans (t : Lane) (src inst res det : Nat) : (s.raiseR t src inst res det).cans = s.cans := State.raise_cans s _
@[simp] theorem State.raiseR_dmas (t : Lane) (src inst res det : Nat) : (s.raiseR t src inst res det).dmas = s.dmas := State.raise_dmas s _
@[simp] theorem State.raiseR_ers (t : Lane) (src inst res det : Nat) : (s.raiseR t src inst res det).ers = s.ers := State.raise_ers s _
@[simp] theorem State.raiseR_ics (t : Lane) (src inst res det : Nat) : (s.raiseR t src inst res det).ics = s.ics := State.raise_ics s _
@[simp] theorem State.raiseR_lane (t : Lane) (src inst res det : Nat) (m : Lane) : (s.raiseR t src inst res det).lane m = s.lane m := State.raise_lane s _ m
@[simp] theorem State.raiseR_coll (t : Lane) (src inst res det : Nat) (d : Coll) : (s.raiseR t src inst res det).coll d = s.coll d := State.raise_coll s _ d
@[simp] theorem State.raiseR_cell (t : Lane) (src inst res det : Nat) (d : DLane) (i : Nat) : (s.raiseR t src inst res det).cell d i = s.cell d i := State.raise_cell s _ d i
@[simp] theorem State.raiseR_axis (t : Lane) (src inst res det : Nat) (d : DLane) (i : Nat) : (s.raiseR t src inst res det).axis d i = s.axis d i := State.raise_axis s _ d i
@[simp] theorem State.raiseR_fbu (t : Lane) (src inst res det : Nat) (d : DLane) (i : Nat) : (s.raiseR t src inst res det).fbu d i = s.fbu d i := State.raise_fbu s _ d i
@[simp] theorem State.raiseR_calx (t : Lane) (src inst res det : Nat) (d : DLane) (i : Nat) : (s.raiseR t src inst res det).calx d i = s.calx d i := State.raise_calx s _ d i
@[simp] theorem State.raiseR_pg (t : Lane) (src inst res det : Nat) (d : DLane) (i : Nat) : (s.raiseR t src inst res det).pg d i = s.pg d i := State.raise_pg s _ d i
@[simp] theorem State.raiseR_pp (t : Lane) (src inst res det : Nat) (d : DLane) (i : Nat) : (s.raiseR t src inst res det).pp d i = s.pp d i := State.raise_pp s _ d i
@[simp] theorem State.raiseR_le (t : Lane) (src inst res det : Nat) (m : Lane) : (s.raiseR t src inst res det).le m = s.le m := State.raise_le s _ m
@[simp] theorem State.raiseR_job (t : Lane) (src inst res det : Nat) (m : Lane) (i : Nat) : (s.raiseR t src inst res det).job m i = s.job m i := State.raise_job s _ m i
@[simp] theorem State.raiseR_scn (t : Lane) (src inst res det : Nat) (m : Lane) (i : Nat) : (s.raiseR t src inst res det).scn m i = s.scn m i := State.raise_scn s _ m i
@[simp] theorem State.raiseR_star (t : Lane) (src inst res det : Nat) (d : DLane) : (s.raiseR t src inst res det).star d = s.star d := State.raise_star s _ d
@[simp] theorem State.raiseR_can (t : Lane) (src inst res det : Nat) (m : Lane) (i : Nat) : (s.raiseR t src inst res det).can m i = s.can m i := State.raise_can s _ m i
@[simp] theorem State.raiseR_dma (t : Lane) (src inst res det : Nat) (m : Lane) (i : Nat) : (s.raiseR t src inst res det).dma m i = s.dma m i := State.raise_dma s _ m i
@[simp] theorem State.raiseR_er (t : Lane) (src inst res det : Nat) (m : Lane) : (s.raiseR t src inst res det).er m = s.er m := State.raise_er s _ m
@[simp] theorem State.raiseR_ic (t : Lane) (src inst res det : Nat) (m : Lane) : (s.raiseR t src inst res det).ic m = s.ic m := State.raise_ic s _ m
@[simp] theorem State.raiseR_reg (t : Lane) (src inst res det : Nat) (q : Nat) : (s.raiseR t src inst res det).reg q = s.reg q := State.raise_reg s _ q
@[simp] theorem State.raiseR_rd8 (t : Lane) (src inst res det : Nat) (m i : Nat) : (s.raiseR t src inst res det).rd8 m i = s.rd8 m i := State.raise_rd8 s _ m i
@[simp] theorem State.raiseR_fg (t : Lane) (src inst res det : Nat) (d : Nat) (g : Fld) : (s.raiseR t src inst res det).fg d g = s.fg d g := State.raise_fg s _ d g
@[simp] theorem State.raiseR_fb (t : Lane) (src inst res det : Nat) (d : Nat) (g : Fld) : (s.raiseR t src inst res det).fb d g = s.fb d g := State.raise_fb s _ d g
@[simp] theorem State.raiseR_fi (t : Lane) (src inst res det : Nat) (d : Nat) (g : Fld) : (s.raiseR t src inst res det).fi d g = s.fi d g := State.raise_fi s _ d g
@[simp] theorem State.raiseR_running (t : Lane) (src inst res det : Nat) (m : Lane) : (s.raiseR t src inst res det).running m = s.running m := State.raise_running s _ m

/-! raiseS -/

@[simp] theorem State.raiseS_pending (src inst res det : Nat) : (s.raiseS src inst res det).pending = s.pending := State.raise_pending s _
@[simp] theorem State.raiseS_now (src inst res det : Nat) : (s.raiseS src inst res det).now = s.now := State.raise_now s _
@[simp] theorem State.raiseS_free (src inst res det : Nat) : (s.raiseS src inst res det).free = s.free := State.raise_free s _
@[simp] theorem State.raiseS_readData (src inst res det : Nat) : (s.raiseS src inst res det).readData = s.readData := State.raise_readData s _
@[simp] theorem State.raiseS_rtcAt (src inst res det : Nat) : (s.raiseS src inst res det).rtcAt = s.rtcAt := State.raise_rtcAt s _
@[simp] theorem State.raiseS_regs (src inst res det : Nat) : (s.raiseS src inst res det).regs = s.regs := State.raise_regs s _
@[simp] theorem State.raiseS_mem (src inst res det : Nat) : (s.raiseS src inst res det).mem = s.mem := State.raise_mem s _
@[simp] theorem State.raiseS_sk (src inst res det : Nat) : (s.raiseS src inst res det).sk = s.sk := State.raise_sk s _
@[simp] theorem State.raiseS_tab (src inst res det : Nat) : (s.raiseS src inst res det).tab = s.tab := State.raise_tab s _
@[simp] theorem State.raiseS_sf (src inst res det : Nat) : (s.raiseS src inst res det).sf = s.sf := State.raise_sf s _
@[simp] theorem State.raiseS_xc (src inst res det : Nat) : (s.raiseS src inst res det).xc = s.xc := State.raise_xc s _
@[simp] theorem State.raiseS_cmp (src inst res det : Nat) : (s.raiseS src inst res det).cmp = s.cmp := State.raise_cmp s _
@[simp] theorem State.raiseS_lanes (src inst res det : Nat) : (s.raiseS src inst res det).lanes = s.lanes := State.raise_lanes s _
@[simp] theorem State.raiseS_colls (src inst res det : Nat) : (s.raiseS src inst res det).colls = s.colls := State.raise_colls s _
@[simp] theorem State.raiseS_cells (src inst res det : Nat) : (s.raiseS src inst res det).cells = s.cells := State.raise_cells s _
@[simp] theorem State.raiseS_buses (src inst res det : Nat) : (s.raiseS src inst res det).buses = s.buses := State.raise_buses s _
@[simp] theorem State.raiseS_axes (src inst res det : Nat) : (s.raiseS src inst res det).axes = s.axes := State.raise_axes s _
@[simp] theorem State.raiseS_fbs (src inst res det : Nat) : (s.raiseS src inst res det).fbs = s.fbs := State.raise_fbs s _
@[simp] theorem State.raiseS_fired (src inst res det : Nat) : (s.raiseS src inst res det).fired = s.fired := State.raise_fired s _
@[simp] theorem State.raiseS_cals (src inst res det : Nat) : (s.raiseS src inst res det).cals = s.cals := State.raise_cals s _
@[simp] theorem State.raiseS_pgs (src inst res det : Nat) : (s.raiseS src inst res det).pgs = s.pgs := State.raise_pgs s _
@[simp] theorem State.raiseS_pps (src inst res det : Nat) : (s.raiseS src inst res det).pps = s.pps := State.raise_pps s _
@[simp] theorem State.raiseS_les (src inst res det : Nat) : (s.raiseS src inst res det).les = s.les := State.raise_les s _
@[simp] theorem State.raiseS_jobs (src inst res det : Nat) : (s.raiseS src inst res det).jobs = s.jobs := State.raise_jobs s _
@[simp] theorem State.raiseS_scns (src inst res det : Nat) : (s.raiseS src inst res det).scns = s.scns := State.raise_scns s _
@[simp] theorem State.raiseS_stars (src inst res det : Nat) : (s.raiseS src inst res det).stars = s.stars := State.raise_stars s _
@[simp] theorem State.raiseS_cans (src inst res det : Nat) : (s.raiseS src inst res det).cans = s.cans := State.raise_cans s _
@[simp] theorem State.raiseS_dmas (src inst res det : Nat) : (s.raiseS src inst res det).dmas = s.dmas := State.raise_dmas s _
@[simp] theorem State.raiseS_ers (src inst res det : Nat) : (s.raiseS src inst res det).ers = s.ers := State.raise_ers s _
@[simp] theorem State.raiseS_ics (src inst res det : Nat) : (s.raiseS src inst res det).ics = s.ics := State.raise_ics s _
@[simp] theorem State.raiseS_lane (src inst res det : Nat) (m : Lane) : (s.raiseS src inst res det).lane m = s.lane m := State.raise_lane s _ m
@[simp] theorem State.raiseS_coll (src inst res det : Nat) (d : Coll) : (s.raiseS src inst res det).coll d = s.coll d := State.raise_coll s _ d
@[simp] theorem State.raiseS_cell (src inst res det : Nat) (d : DLane) (i : Nat) : (s.raiseS src inst res det).cell d i = s.cell d i := State.raise_cell s _ d i
@[simp] theorem State.raiseS_axis (src inst res det : Nat) (d : DLane) (i : Nat) : (s.raiseS src inst res det).axis d i = s.axis d i := State.raise_axis s _ d i
@[simp] theorem State.raiseS_fbu (src inst res det : Nat) (d : DLane) (i : Nat) : (s.raiseS src inst res det).fbu d i = s.fbu d i := State.raise_fbu s _ d i
@[simp] theorem State.raiseS_calx (src inst res det : Nat) (d : DLane) (i : Nat) : (s.raiseS src inst res det).calx d i = s.calx d i := State.raise_calx s _ d i
@[simp] theorem State.raiseS_pg (src inst res det : Nat) (d : DLane) (i : Nat) : (s.raiseS src inst res det).pg d i = s.pg d i := State.raise_pg s _ d i
@[simp] theorem State.raiseS_pp (src inst res det : Nat) (d : DLane) (i : Nat) : (s.raiseS src inst res det).pp d i = s.pp d i := State.raise_pp s _ d i
@[simp] theorem State.raiseS_le (src inst res det : Nat) (m : Lane) : (s.raiseS src inst res det).le m = s.le m := State.raise_le s _ m
@[simp] theorem State.raiseS_job (src inst res det : Nat) (m : Lane) (i : Nat) : (s.raiseS src inst res det).job m i = s.job m i := State.raise_job s _ m i
@[simp] theorem State.raiseS_scn (src inst res det : Nat) (m : Lane) (i : Nat) : (s.raiseS src inst res det).scn m i = s.scn m i := State.raise_scn s _ m i
@[simp] theorem State.raiseS_star (src inst res det : Nat) (d : DLane) : (s.raiseS src inst res det).star d = s.star d := State.raise_star s _ d
@[simp] theorem State.raiseS_can (src inst res det : Nat) (m : Lane) (i : Nat) : (s.raiseS src inst res det).can m i = s.can m i := State.raise_can s _ m i
@[simp] theorem State.raiseS_dma (src inst res det : Nat) (m : Lane) (i : Nat) : (s.raiseS src inst res det).dma m i = s.dma m i := State.raise_dma s _ m i
@[simp] theorem State.raiseS_er (src inst res det : Nat) (m : Lane) : (s.raiseS src inst res det).er m = s.er m := State.raise_er s _ m
@[simp] theorem State.raiseS_ic (src inst res det : Nat) (m : Lane) : (s.raiseS src inst res det).ic m = s.ic m := State.raise_ic s _ m
@[simp] theorem State.raiseS_reg (src inst res det : Nat) (q : Nat) : (s.raiseS src inst res det).reg q = s.reg q := State.raise_reg s _ q
@[simp] theorem State.raiseS_rd8 (src inst res det : Nat) (m i : Nat) : (s.raiseS src inst res det).rd8 m i = s.rd8 m i := State.raise_rd8 s _ m i
@[simp] theorem State.raiseS_fg (src inst res det : Nat) (d : Nat) (g : Fld) : (s.raiseS src inst res det).fg d g = s.fg d g := State.raise_fg s _ d g
@[simp] theorem State.raiseS_fb (src inst res det : Nat) (d : Nat) (g : Fld) : (s.raiseS src inst res det).fb d g = s.fb d g := State.raise_fb s _ d g
@[simp] theorem State.raiseS_fi (src inst res det : Nat) (d : Nat) (g : Fld) : (s.raiseS src inst res det).fi d g = s.fi d g := State.raise_fi s _ d g
@[simp] theorem State.raiseS_running (src inst res det : Nat) (m : Lane) : (s.raiseS src inst res det).running m = s.running m := State.raise_running s _ m

end Sys2Proof.Machine
end

