-- ==== Sys2Proof/Laws/Ops.lean ====
section
/-! SUPPORT. The laws of the shared operations: a register and a field after a write, a byte after a write, what raising an event
and firing a trigger do, and that every write keeps the canonical form. -/

namespace Sys2Proof.Machine

open Sys2Proof

variable (s : State)

/-! Registers -/

@[simp] theorem State.reg_setReg_same (k : Nat) (v : Word) : (s.setReg k v).reg k = v := by
  simp [State.reg, State.setReg]

/-- Another register reads as before. -/
theorem State.reg_setReg_of_ne {j k : Nat} (v : Word) (h : j ≠ k) : (s.setReg k v).reg j = s.reg j := by
  simp [State.reg, State.setReg, famGet_famSet_of_ne _ _ _ h]

theorem State.reg_fs_of_ne {j b : Nat} {f : Fld} (n : Nat) (h : j ≠ b + f.ofs) : (s.fs b f n).reg j = s.reg j :=
  s.reg_setReg_of_ne _ h

theorem State.reg_fsi_of_ne {j b : Nat} {f : Fld} (z : Int) (h : j ≠ b + f.ofs) : (s.fsi b f z).reg j = s.reg j :=
  s.reg_setReg_of_ne _ h

/-! Bits of a word -/

/-- Replacing w bits from lo up in a number below 2^32 keeps it below 2^32. -/
theorem setBits_toNat (v : Word) {lo w : Nat} (n : Nat) (h : lo + w ≤ 32) :
    (setBits v lo w n).toNat = v.toNat - v.toNat / 2 ^ lo % 2 ^ w * 2 ^ lo + n % 2 ^ w * 2 ^ lo := by
  have hv := v.isLt
  have hle : v.toNat / 2 ^ lo % 2 ^ w * 2 ^ lo ≤ v.toNat :=
    Nat.le_trans (Nat.mul_le_mul_right _ (Nat.mod_le _ _)) (Nat.div_mul_le_self _ _)
  have hn : n % 2 ^ w < 2 ^ w := Nat.mod_lt _ (Nat.two_pow_pos w)
  have hm : v.toNat / 2 ^ lo % 2 ^ w < 2 ^ w := Nat.mod_lt _ (Nat.two_pow_pos w)
  -- the top part, the field and the low part
  have e1 : v.toNat = 2 ^ lo * (v.toNat / 2 ^ lo) + v.toNat % 2 ^ lo := (Nat.div_add_mod _ _).symm
  have e2 : v.toNat / 2 ^ lo = 2 ^ w * (v.toNat / 2 ^ lo / 2 ^ w) + v.toNat / 2 ^ lo % 2 ^ w := (Nat.div_add_mod _ _).symm
  have hr : v.toNat % 2 ^ lo < 2 ^ lo := Nat.mod_lt _ (Nat.two_pow_pos lo)
  have hq : v.toNat / 2 ^ lo / 2 ^ w < 2 ^ (32 - (lo + w)) := by
    rw [Nat.div_div_eq_div_mul, ← Nat.pow_add]
    apply Nat.div_lt_of_lt_mul
    rw [← Nat.pow_add]
    have : lo + w + (32 - (lo + w)) = 32 := by omega
    rw [this]; exact hv
  have key : v.toNat - v.toNat / 2 ^ lo % 2 ^ w * 2 ^ lo + n % 2 ^ w * 2 ^ lo < 2 ^ 32 := by
    have hsub : v.toNat - v.toNat / 2 ^ lo % 2 ^ w * 2 ^ lo = 2 ^ lo * (2 ^ w * (v.toNat / 2 ^ lo / 2 ^ w)) + v.toNat % 2 ^ lo := by
      have : v.toNat = 2 ^ lo * (2 ^ w * (v.toNat / 2 ^ lo / 2 ^ w)) + 2 ^ lo * (v.toNat / 2 ^ lo % 2 ^ w) + v.toNat % 2 ^ lo := by
        rw [← Nat.mul_add, ← e2]; exact e1
      rw [Nat.mul_comm (v.toNat / 2 ^ lo % 2 ^ w)]
      omega
    rw [hsub]
    have p32 : (2 : Nat) ^ 32 = 2 ^ lo * (2 ^ w * 2 ^ (32 - (lo + w))) := by
      rw [← Nat.pow_add, ← Nat.pow_add]; congr 1; omega
    have h1 : 2 ^ w * (v.toNat / 2 ^ lo / 2 ^ w) + n % 2 ^ w + 1 ≤ 2 ^ w * 2 ^ (32 - (lo + w)) := by
      calc 2 ^ w * (v.toNat / 2 ^ lo / 2 ^ w) + n % 2 ^ w + 1
          ≤ 2 ^ w * (v.toNat / 2 ^ lo / 2 ^ w) + 2 ^ w := by omega
        _ = 2 ^ w * (v.toNat / 2 ^ lo / 2 ^ w + 1) := by rw [Nat.mul_add, Nat.mul_one]
        _ ≤ _ := Nat.mul_le_mul_left _ hq
    have h2 := Nat.mul_le_mul_left (2 ^ lo) h1
    rw [← p32] at h2
    rw [Nat.mul_add, Nat.mul_add, Nat.mul_one, Nat.mul_comm (2 ^ lo) (n % 2 ^ w)] at h2
    omega
  unfold setBits
  rw [BitVec.toNat_ofNat]
  exact Nat.mod_eq_of_lt key

/-- A replaced field reads as what was put there, modulo its width. -/
theorem setBits_read (v : Word) {lo w : Nat} (n : Nat) (h : lo + w ≤ 32) :
    (setBits v lo w n).toNat / 2 ^ lo % 2 ^ w = n % 2 ^ w := by
  rw [setBits_toNat v n h]
  have e1 : v.toNat = 2 ^ lo * (v.toNat / 2 ^ lo) + v.toNat % 2 ^ lo := (Nat.div_add_mod _ _).symm
  have e2 : v.toNat / 2 ^ lo = 2 ^ w * (v.toNat / 2 ^ lo / 2 ^ w) + v.toNat / 2 ^ lo % 2 ^ w := (Nat.div_add_mod _ _).symm
  have hr : v.toNat % 2 ^ lo < 2 ^ lo := Nat.mod_lt _ (Nat.two_pow_pos lo)
  have hs : v.toNat - v.toNat / 2 ^ lo % 2 ^ w * 2 ^ lo + n % 2 ^ w * 2 ^ lo =
      2 ^ lo * (2 ^ w * (v.toNat / 2 ^ lo / 2 ^ w) + n % 2 ^ w) + v.toNat % 2 ^ lo := by
    have : v.toNat = 2 ^ lo * (2 ^ w * (v.toNat / 2 ^ lo / 2 ^ w)) + 2 ^ lo * (v.toNat / 2 ^ lo % 2 ^ w) + v.toNat % 2 ^ lo := by
      rw [← Nat.mul_add, ← e2]; exact e1
    rw [Nat.mul_comm (v.toNat / 2 ^ lo % 2 ^ w), Nat.mul_comm (n % 2 ^ w), Nat.mul_add]
    omega
  rw [hs, Nat.mul_add_div (Nat.two_pow_pos lo), Nat.div_eq_of_lt hr, Nat.add_zero, Nat.mul_add_mod, Nat.mod_mod]

/-- A field apart from the one replaced reads as before. -/
theorem setBits_read_of_apart (v : Word) {lo w lo' w' : Nat} (n : Nat) (h : lo + w ≤ 32)
    (hd : lo' + w' ≤ lo ∨ lo + w ≤ lo') :
    (setBits v lo w n).toNat / 2 ^ lo' % 2 ^ w' = v.toNat / 2 ^ lo' % 2 ^ w' := by
  rw [setBits_toNat v n h]
  have e1 : v.toNat = 2 ^ lo * (v.toNat / 2 ^ lo) + v.toNat % 2 ^ lo := (Nat.div_add_mod _ _).symm
  have e2 : v.toNat / 2 ^ lo = 2 ^ w * (v.toNat / 2 ^ lo / 2 ^ w) + v.toNat / 2 ^ lo % 2 ^ w := (Nat.div_add_mod _ _).symm
  have hr : v.toNat % 2 ^ lo < 2 ^ lo := Nat.mod_lt _ (Nat.two_pow_pos lo)
  have hm : v.toNat / 2 ^ lo % 2 ^ w < 2 ^ w := Nat.mod_lt _ (Nat.two_pow_pos w)
  have hn : n % 2 ^ w < 2 ^ w := Nat.mod_lt _ (Nat.two_pow_pos w)
  have hv : v.toNat = 2 ^ lo * (2 ^ w * (v.toNat / 2 ^ lo / 2 ^ w)) + 2 ^ lo * (v.toNat / 2 ^ lo % 2 ^ w) + v.toNat % 2 ^ lo := by
    rw [← Nat.mul_add, ← e2]; exact e1
  have hs : v.toNat - v.toNat / 2 ^ lo % 2 ^ w * 2 ^ lo + n % 2 ^ w * 2 ^ lo =
      2 ^ lo * (2 ^ w * (v.toNat / 2 ^ lo / 2 ^ w) + n % 2 ^ w) + v.toNat % 2 ^ lo := by
    rw [Nat.mul_comm (v.toNat / 2 ^ lo % 2 ^ w), Nat.mul_comm (n % 2 ^ w), Nat.mul_add]
    omega
  rw [hs]
  rcases hd with hd | hd
  · -- below: the low part alone decides
    have aux : ∀ x r : Nat, (2 ^ lo * x + r) / 2 ^ lo' % 2 ^ w' = r / 2 ^ lo' % 2 ^ w' := by
      intro x r
      obtain ⟨k, hk⟩ : ∃ k, lo = lo' + (w' + k) := ⟨lo - lo' - w', by omega⟩
      rw [hk, Nat.pow_add, Nat.mul_assoc, Nat.mul_add_div (Nat.two_pow_pos lo'), Nat.pow_add, Nat.mul_assoc, Nat.mul_add_mod]
    rw [aux]
    conv => rhs; rw [e1, aux]
  · obtain ⟨k, hk⟩ : ∃ k, lo' = lo + (w + k) := ⟨lo' - lo - w, by omega⟩
    have aux : ∀ x : Nat, x < 2 ^ w →
        (2 ^ lo * (2 ^ w * (v.toNat / 2 ^ lo / 2 ^ w) + x) + v.toNat % 2 ^ lo) / 2 ^ lo' =
          v.toNat / 2 ^ lo / 2 ^ w / 2 ^ k := by
      intro x hx
      rw [hk, Nat.pow_add, ← Nat.div_div_eq_div_mul, Nat.mul_add_div (Nat.two_pow_pos lo), Nat.div_eq_of_lt hr, Nat.add_zero,
        Nat.pow_add, ← Nat.div_div_eq_div_mul, Nat.mul_add_div (Nat.two_pow_pos w), Nat.div_eq_of_lt hx, Nat.add_zero]
    rw [aux _ hn]
    conv => rhs; rw [hv, ← Nat.mul_add, aux _ hm]

/-- A field reads as it was set, modulo its width. -/
theorem State.fg_fs_same (b : Nat) (f : Fld) (n : Nat) (h : f.lo + f.w ≤ 32) : (s.fs b f n).fg b f = n % 2 ^ f.w := by
  simp only [State.fg, State.fs, State.reg_setReg_same]
  exact setBits_read _ n h

/-- A field of another register reads as before. -/
theorem State.fg_fs_of_ne {b c : Nat} {f g : Fld} (n : Nat) (h : c + g.ofs ≠ b + f.ofs) : (s.fs b f n).fg c g = s.fg c g := by
  simp only [State.fg, State.reg_fs_of_ne s n h]

/-- A field apart in the same register reads as before. -/
theorem State.fg_fs_of_apart {b c : Nat} {f g : Fld} (n : Nat) (hr : c + g.ofs = b + f.ofs) (hf : f.lo + f.w ≤ 32)
    (hd : g.lo + g.w ≤ f.lo ∨ f.lo + f.w ≤ g.lo) : (s.fs b f n).fg c g = s.fg c g := by
  simp only [State.fg, State.fs, hr, State.reg_setReg_same]
  exact setBits_read_of_apart _ n hf hd

/-- Two fields of one block that share no bit. -/
def Fld.apart (f g : Fld) : Bool := f.ofs != g.ofs || decide (g.lo + g.w ≤ f.lo) || decide (f.lo + f.w ≤ g.lo)

/-- A field of the same block that shares no bit with the one set reads as before. -/
theorem State.fg_fs_apart {b : Nat} {f g : Fld} (n : Nat) (hf : f.lo + f.w ≤ 32) (h : f.apart g = true) :
    (s.fs b f n).fg b g = s.fg b g := by
  simp only [Fld.apart, Bool.or_eq_true, bne_iff_ne, decide_eq_true_eq] at h
  by_cases ho : g.ofs = f.ofs
  · refine s.fg_fs_of_apart n (by rw [ho]) hf ?_
    rcases h with (h | h) | h
    · exact absurd ho.symm h
    · exact .inl h
    · exact .inr h
  · exact s.fg_fs_of_ne n (by omega)

theorem State.fb_fs_same (b : Nat) (f : Fld) (n : Nat) (h : f.lo + f.w ≤ 32) : (s.fs b f n).fb b f = (n % 2 ^ f.w != 0) := by
  simp [State.fb, s.fg_fs_same b f n h]

theorem State.fb_fs_apart {b : Nat} {f g : Fld} (n : Nat) (hf : f.lo + f.w ≤ 32) (h : f.apart g = true) :
    (s.fs b f n).fb b g = s.fb b g := by
  simp only [State.fb, s.fg_fs_apart n hf h]

/-- A counter counts one and saturates at its top value. -/
theorem State.fg_fInc_same (b : Nat) (f : Fld) (h : f.lo + f.w ≤ 32) :
    (s.fInc b f).fg b f = min (2 ^ f.w - 1) (s.fg b f + 1) := by
  have := Nat.two_pow_pos f.w
  unfold State.fInc
  split <;> rw [s.fg_fs_same _ _ _ h]
  · rw [Nat.mod_eq_of_lt ‹_›]; omega
  · rw [Nat.mod_eq_of_lt (by omega)]; omega

theorem State.fg_fInc_apart {b : Nat} {f g : Fld} (hf : f.lo + f.w ≤ 32) (h : f.apart g = true) :
    (s.fInc b f).fg b g = s.fg b g := by
  unfold State.fInc
  split <;> rw [s.fg_fs_apart _ hf h]

theorem State.reg_fInc_of_ne {j b : Nat} {f : Fld} (h : j ≠ b + f.ofs) : (s.fInc b f).reg j = s.reg j := by
  unfold State.fInc
  split <;> exact s.reg_fs_of_ne _ h

/-! Bytes of memory -/

theorem State.rd8_wr8_same (l a : Nat) (v : Byte) : (s.wr8 l a v).rd8 l a = v := by simp [State.rd8, State.wr8]

/-- Another byte reads as before. -/
theorem State.rd8_wr8_of_ne {l a m c : Nat} (v : Byte) (h : key m c ≠ key l a) : (s.wr8 l a v).rd8 m c = s.rd8 m c := by
  simp [State.rd8, State.wr8, famGet_famSet_of_ne _ _ _ h]

@[simp] theorem State.wrBytes_regs (l a : Nat) (bs : List Byte) : (s.wrBytes l a bs).regs = s.regs := by
  induction bs generalizing s a with
  | nil => rfl
  | cons b t ih => simp [State.wrBytes, ih]

/-- Bytes outside the ones written read as before. -/
theorem State.rd8_wrBytes_outside {l a m c : Nat} (bs : List Byte) (h : key m c < key l a ∨ key l a + bs.length ≤ key m c) :
    (s.wrBytes l a bs).rd8 m c = s.rd8 m c := by
  induction bs generalizing s a with
  | nil => rfl
  | cons b t ih =>
    simp only [State.wrBytes, List.length_cons] at *
    rw [ih, State.rd8_wr8_of_ne]
    · intro e; rcases h with h | h <;> omega
    · simp only [key] at *; omega

/-! Events and triggers -/

/-- A known source of a lane out of reset is raised. -/
theorem State.raise_of_lane {e : Event} {l : Lane} {c : Nat} (hc : e.coll = .lane l) (hk : defaultClass (.lane l) e.src = some c)
    (hr : (s.lane l).reset = false) : s.raise e = { s with evq := s.evq ++ [s.stamp e] } := by
  rcases e with ⟨coll, src⟩
  simp only at hc hk
  subst hc
  simp [State.raise, hk, hr, State.stamp]

/-- A known source of Skink is raised. -/
theorem State.raise_of_skink {e : Event} {c : Nat} (hc : e.coll = .skink) (hk : defaultClass .skink e.src = some c) :
    s.raise e = { s with evq := s.evq ++ [s.stamp e] } := by
  rcases e with ⟨coll, src⟩
  simp only at hc hk
  subst hc
  simp [State.raise, hk, State.stamp]

/-- A known source that names its lane. -/
theorem State.raiseL_evq {l : Lane} {src c : Nat} (inst d : Nat) (hk : defaultClass (.lane l) src = some c)
    (hr : (s.lane l).reset = false) :
    (s.raiseL l src inst d).evq = s.evq ++ [s.stamp { coll := .lane l, src := src, inst := inst, res := resLane l, detail := d }] := by
  unfold State.raiseL
  rw [s.raise_of_lane rfl hk hr]

/-- A known source of a lane that names another resource. -/
theorem State.raiseR_evq {l : Lane} {src c : Nat} (inst res d : Nat) (hk : defaultClass (.lane l) src = some c)
    (hr : (s.lane l).reset = false) :
    (s.raiseR l src inst res d).evq = s.evq ++ [s.stamp { coll := .lane l, src := src, inst := inst, res := res, detail := d }] := by
  unfold State.raiseR
  rw [s.raise_of_lane rfl hk hr]

/-- A known source of Skink. -/
theorem State.raiseS_evq {src c : Nat} (inst res d : Nat) (hk : defaultClass .skink src = some c) :
    (s.raiseS src inst res d).evq = s.evq ++ [s.stamp { coll := .skink, src := src, inst := inst, res := res, detail := d }] := by
  unfold State.raiseS
  rw [s.raise_of_skink rfl hk]

/-- Firing a trigger changes the list of fired sources alone. -/
theorem State.trig_eq (l : Lane) (i : Nat) : s.trig l i = { s with fired := (s.trig l i).fired } := by
  unfold State.trig; split <;> rfl

/-! The canonical form -/

theorem State.canonical_iff : s.canonical = true ↔ Registers.wf s.regs = true ∧ Memory.wf s.mem = true := by
  simp [State.canonical]

theorem State.setReg_canonical (k : Nat) (v : Word) (h : s.canonical = true) : (s.setReg k v).canonical = true := by
  rw [State.canonical_iff] at *
  exact ⟨famWf_famSet _ _ _ _ h.1, h.2⟩

theorem State.fs_canonical (b : Nat) (f : Fld) (n : Nat) (h : s.canonical = true) : (s.fs b f n).canonical = true :=
  s.setReg_canonical _ _ h

theorem State.wr8_canonical (l a : Nat) (v : Byte) (h : s.canonical = true) : (s.wr8 l a v).canonical = true := by
  rw [State.canonical_iff] at *
  exact ⟨h.1, famWf_famSet _ _ _ _ h.2⟩

theorem State.wrBytes_canonical (l a : Nat) (bs : List Byte) (h : s.canonical = true) : (s.wrBytes l a bs).canonical = true := by
  induction bs generalizing s a with
  | nil => exact h
  | cons b t ih => exact ih _ _ (s.wr8_canonical _ _ _ h)

end Sys2Proof.Machine
end

