-- ==== Sys2Proof/Machine/Csr.lean ====
section
/-! DEFINITION. The control and status registers of a lane's cores that the specification fixes (R450, R451, R453): what a CSR
instruction of core c of lane l reads, and what it writes. The table has no row for a core's instruction (assumption 10). -/

namespace Sys2Proof.Machine

open Sys2Proof

/-- misa: RV64IMAFDC with U mode (R450). -/
def misa : Nat := 0x800000000010112d

/-- mhartid: 4 × lane + core, for lanes A, B and W as 0, 1 and 2 (R450). -/
def mhartid (l : Lane) (core : Nat) : Nat := 4 * laneNo l + core

/-- What a CSR access comes to: a value, an illegal-instruction exception, or what the RISC-V specifications say of a register about
which R450 to R453 state nothing. -/
inductive CsrRead where
  | value (v : Nat)
  | illegal
  | standard
  deriving DecidableEq, Repr

/-- A number in the ranges that the privileged architecture leaves to custom use (R453). -/
def csrCustom (n : Nat) : Bool :=
  decide ((0x800 ≤ n ∧ n < 0x900) ∨ (0x7c0 ≤ n ∧ n < 0x800) ∨ (0xbc0 ≤ n ∧ n < 0xc00) ∨ (0xcc0 ≤ n ∧ n < 0xd00) ∨ (0xfc0 ≤ n ∧ n < 0x1000))

/-- A number that is reserved for S mode, of which satp is one: the cores have no S mode (R450). -/
def csrSuper (n : Nat) : Bool := n / 2 ^ 8 % 4 == 1

/-- The core may access CSR n in its mode: bits [9:8] of the number give the least mode, M mode from 2 on. -/
def State.csrMode (s : State) (l : Lane) (core n : Nat) : Bool := n / 2 ^ 8 % 4 == 0 || !(s.lane l).user.contains core

/-- The core's mxctl (R453). -/
def State.mxctl (s : State) (l : Lane) (core : Nat) : Nat := famGet (fun _ => 3) (s.lane l).mxctl core

/-- A read of CSR n (R450, R451, R453). -/
def State.csrRead (s : State) (l : Lane) (core n : Nat) : CsrRead :=
  if !s.csrMode l core n || csrSuper n then .illegal
  else if n = 0x301 then .value misa
  else if n = 0xf14 then .value (mhartid l core)
  else if n = 0x7c0 then .value (s.mxctl l core)
  else if n = 0x7c1 then .value (s.mtimecmp l core)
  else if n = 0xc01 ∨ n = 0xcc0 then .value (s.utime l % 2 ^ 64)
  else if n = 0xcc1 then .value (s.lane l).beaconCycle
  else if csrCustom n then .illegal
  else if (0xb03 ≤ n ∧ n < 0xb20) ∨ (0x323 ≤ n ∧ n < 0x340) then .value 0
  else .standard

/-- A write of v to CSR n (R450, R451, R453): none where it raises an illegal-instruction exception; a register about which R450 to
R453 state nothing is not in State. The machine timer interrupt is pending while time has reached mtimecmp. -/
def State.csrWrite (s : State) (l : Lane) (core n v : Nat) : Option State :=
  if s.csrRead l core n = .illegal ∨ 3 ≤ n / 2 ^ 10 then none
  else
    let x := s.lane l
    if n = 0x7c0 then some (s.setLane l { x with mxctl := famSet (fun _ => 3) x.mxctl core (v % 4) })
    else if n = 0x7c1 then
      let v := v % 2 ^ 64
      let mtip := x.mtip.filter fun c => c != core || decide (v ≤ s.utime l % 2 ^ 64)
      some (s.setLane l { x with timecmp := famSet (fun _ => 2 ^ 64 - 1) x.timecmp core v, mtip := mtip })
    else some s

end Sys2Proof.Machine
end

