-- ==== Sys2Proof/Machine/Tap.lean ====
section
/-! DEFINITION. The test access port of a lane (R543): what one clock of TCK does to the IEEE 1149.1 controller, its instruction
register, its bypass bit and its boundary-scan chain. The table has no row for a clock of TCK (assumption 147). -/

namespace Sys2Proof.Machine

open Sys2Proof

/-- The controller's next state (IEEE 1149.1). -/
def TapCtl.next : TapCtl → Bool → TapCtl
  | .testLogicReset, tms => if tms then .testLogicReset else .runTestIdle
  | .runTestIdle, tms => if tms then .selectDr else .runTestIdle
  | .selectDr, tms => if tms then .selectIr else .captureDr
  | .captureDr, tms => if tms then .exit1Dr else .shiftDr
  | .shiftDr, tms => if tms then .exit1Dr else .shiftDr
  | .exit1Dr, tms => if tms then .updateDr else .pauseDr
  | .pauseDr, tms => if tms then .exit2Dr else .pauseDr
  | .exit2Dr, tms => if tms then .updateDr else .shiftDr
  | .updateDr, tms => if tms then .selectDr else .runTestIdle
  | .selectIr, tms => if tms then .testLogicReset else .captureIr
  | .captureIr, tms => if tms then .exit1Ir else .shiftIr
  | .shiftIr, tms => if tms then .exit1Ir else .shiftIr
  | .exit1Ir, tms => if tms then .updateIr else .pauseIr
  | .pauseIr, tms => if tms then .exit2Ir else .pauseIr
  | .exit2Ir, tms => if tms then .updateIr else .shiftIr
  | .updateIr, tms => if tms then .selectDr else .runTestIdle

/-- The data register that an instruction selects (R543). -/
inductive TapReg where
  | bypass | boundary | dtmcs | dmi
  deriving DecidableEq, Repr

/-- The balls of a lane that its boundary-scan register covers: in a drive lane eight of each of axes 0 to 3, six of axes 4 and 5, the
multi-function balls, those of CAN0 and CAN1, and TDO; in lane W those of its CAN controllers, and TDO (R529, R531, R543). -/
def tapBalls (l : Lane) : Nat := if l = .W then 4 + 1 else 4 * 8 + 2 * 6 + 4 + 4 + 1

/-- What the instruction in force selects in lane l: EXTEST acts as BYPASS outside Bench, and so does every code of the table's
gaps. -/
def State.tapReg (s : State) (l : Lane) : TapReg :=
  match (s.lane l).tap.ir with
  | 0 => if s.sk.st = .bench then .boundary else .bypass
  | 1 => .boundary
  | 16 => .dtmcs
  | 17 => .dmi
  | _ => .bypass

/-- What the chain drives onto the lane's balls: under EXTEST in Bench its update stage (R543). -/
def State.tapDrives (s : State) (l : Lane) : Option (List Bool) :=
  if (s.lane l).tap.ir = 0 ∧ s.sk.st = .bench then some (s.lane l).tap.update else none

/-- Clock the bit that is shifted in through a register, from its top; the bit that leaves it at the bottom goes to TDO. -/
def tapShift (r : List Bool) (tdi : Bool) : List Bool × Bool := (r.tail ++ [tdi], r.headD false)

/-- One rising edge of TCK in lane l, with TMS, TDI and the levels of the chain's balls: TDO, and the state after it. A lane in reset has
its port in Test-Logic-Reset (R532), which selects BYPASS. What the registers of dtmcs and dmi shift out is the debug
specification's, and open here (R454). -/
def State.tapClock (s : State) (l : Lane) (tms tdi : Bool) (balls : List Bool) : Bool × State :=
  let x := s.lane l
  let t := x.tap
  let put := fun (s : State) (t : TapSt) => s.setLane l { s.lane l with tap := t }
  if x.reset then (false, put s {})
  else
    let t' : TapSt := { t with ctl := t.ctl.next tms }
    match t.ctl with
    | .testLogicReset => (false, put s { t' with ir := 31 })
    | .captureIr => (false, put s { t' with irShift := [true, false, false, false, false] })
    | .shiftIr => let (r, o) := tapShift t.irShift tdi; (o, put s { t' with irShift := r })
    | .updateIr =>
      let code := ((List.range 5).map fun i => if t.irShift.getD i false then 2 ^ i else 0).sum
      (false, put s { t' with ir := code })
    | .captureDr =>
      match s.tapReg l with
      | .bypass => (false, put s { t' with byp := false })
      | .boundary => (false, put s { t' with chain := (List.range (tapBalls l)).map fun i => balls.getD i false })
      | _ => (false, put s t')
    | .shiftDr =>
      match s.tapReg l with
      | .bypass => (t.byp, put s { t' with byp := tdi })
      | .boundary => let (r, o) := tapShift t.chain tdi; (o, put s { t' with chain := r })
      | _ => let (o, s) := s.takeBit; (o, put s t')
    | .updateDr => (false, put s (if s.tapReg l = .boundary then { t' with update := t.chain } else t'))
    | _ => (false, put s t')

end Sys2Proof.Machine
end

