-- ==== Sys2Proof/WellFormed.lean ====
section
/-! DEFINITION. Which commands are well formed: the conditions on their operands that the operands' types do not carry. -/

namespace Sys2Proof

open Sys2Proof.Machine

/-- The fields of an SCN frame fit their places in the header (R385). -/
def ScnFrame.wf (f : ScnFrame) : Bool := decide (f.kind < 16) && decide (f.slot < 1024) && decide (f.len < 2048)

/-- A CAN frame: a base identifier has 11 bits, an FD frame is no remote frame, only FD frames have BRS, ESI and res, and the data
are as long as the DLC says (R420, R427, R433). -/
def CanFrame.wf (f : CanFrame) : Bool :=
  (f.ide || decide (f.id.toNat < 2 ^ 11)) && !(f.fdf && f.rtr) && f.data.length == canLen f.fdf f.rtr f.dlc.val &&
  (f.fdf || !(f.brs || f.esi || f.resRecessive))

/-- An instruction word reaches the row of its form: opcode op and flags from lo to hi. A word in no form may reach any row; it ends
its job as ILLEGAL (R101, R102). -/
def wordOf (w : DWord) (op lo hi : Nat) : Bool :=
  let i := insOf w
  (formOf i).isNone || (i.op == op && decide (lo ≤ i.fl) && decide (i.fl ≤ hi))

/-- The command's operands fit its row. -/
def Instr.wf : Instr → Bool
  | .nop _ _ w => wordOf w 0x01 0 0
  | .end_ _ _ w => wordOf w 0x02 0 0
  | .wait _ _ w => wordOf w 0x03 0 0
  | .spawn _ _ w => wordOf w 0x04 0 0
  | .spawnArg _ _ w => wordOf w 0x04 1 1
  | .holdL _ _ w => wordOf w 0x05 1 1
  | .holdO _ _ w => wordOf w 0x05 2 2
  | .holdA _ _ w => wordOf w 0x05 3 3
  | .timeJ _ _ w => wordOf w 0x06 0 0
  | .timeL _ _ w => wordOf w 0x06 1 1
  | .timeH _ _ w => wordOf w 0x06 2 2
  | .brT _ _ w => wordOf w 0x08 0 0
  | .brF _ _ w => wordOf w 0x08 1 1
  | .jmp _ _ w => wordOf w 0x09 0 0
  | .psetCc _ _ w => wordOf w 0x0a 0 5
  | .psetCcz _ _ w => wordOf w 0x0a 8 13
  | .psetaCc _ _ w => wordOf w 0x0b 0 5
  | .psetaCcu _ _ w => wordOf w 0x0b 8 13
  | .plog _ _ w => wordOf w 0x0c 0 6
  | .ldb _ _ w => wordOf w 0x10 0 0
  | .stb _ _ w => wordOf w 0x11 0 0
  | .lda _ _ w => wordOf w 0x12 0 0
  | .sta _ _ w => wordOf w 0x13 0 0
  | .aopAddi _ _ w => wordOf w 0x14 0 0
  | .aopAdd _ _ w => wordOf w 0x14 1 1
  | .aopSub _ _ w => wordOf w 0x14 2 2
  | .aopSet _ _ w => wordOf w 0x14 3 3
  | .aopAndi _ _ w => wordOf w 0x14 4 4
  | .aopShl _ _ w => wordOf w 0x14 5 5
  | .aopSar _ _ w => wordOf w 0x14 6 6
  | .in_ _ _ w => wordOf w 0x18 0 0
  | .out _ _ w => wordOf w 0x19 0 0
  | .badd _ _ w => wordOf w 0x20 0 0
  | .bsub _ _ w => wordOf w 0x21 0 0
  | .bmul _ _ w => wordOf w 0x22 0 0
  | .bmac _ _ w => wordOf w 0x23 0 0
  | .bmsu _ _ w => wordOf w 0x24 0 0
  | .bdot _ _ w => wordOf w 0x25 0 0
  | .bsum _ _ w => wordOf w 0x26 0 0
  | .bmaxr _ _ w => wordOf w 0x27 0 0
  | .bneg _ _ w => wordOf w 0x28 0 0
  | .babs _ _ w => wordOf w 0x29 0 0
  | .bmin _ _ w => wordOf w 0x2a 0 0
  | .bmax _ _ w => wordOf w 0x2b 0 0
  | .bclamp _ _ w => wordOf w 0x2c 0 0
  | .blerp _ _ w => wordOf w 0x2d 0 0
  | .brcp _ _ w => wordOf w 0x2e 0 0
  | .brsq _ _ w => wordOf w 0x2f 0 0
  | .bnorm _ _ w => wordOf w 0x30 0 0
  | .bexpE _ _ w => wordOf w 0x31 0 0
  | .bexpC _ _ w => wordOf w 0x31 1 1
  | .bexpS _ _ w => wordOf w 0x31 2 2
  | .bperm _ _ w => wordOf w 0x38 0 7
  | .bsplat _ _ w => wordOf w 0x39 0 0
  | .bpick _ _ w => wordOf w 0x3a 0 0
  | .bins _ _ w => wordOf w 0x3b 0 0
  | .bsetc _ _ w => wordOf w 0x3c 0 0
  | .bsel _ _ w => wordOf w 0x3d 0 0
  | .bclarke _ _ w => wordOf w 0x40 0 0
  | .bclarke2 _ _ w => wordOf w 0x40 1 1
  | .bpark _ _ w => wordOf w 0x41 0 0
  | .bipark _ _ w => wordOf w 0x42 0 0
  | .bsvm _ _ w => wordOf w 0x43 0 0
  | .bsincos _ _ w => wordOf w 0x44 0 0
  | .batan2 _ _ w => wordOf w 0x45 0 0
  | .tlu _ _ w => wordOf w 0x48 0 0
  | .tluA _ _ w => wordOf w 0x48 1 1
  | .bint _ _ w => wordOf w 0x49 0 0
  | .bintLu _ _ w => wordOf w 0x49 1 1
  | .bfixW _ _ w => wordOf w 0x50 0 0
  | .bfixD _ _ w => wordOf w 0x50 1 1
  | .bfltW _ _ w => wordOf w 0x51 0 0
  | .bfltD _ _ w => wordOf w 0x51 1 1
  | .bfltA _ _ w => wordOf w 0x51 2 2
  | .bconst _ _ w => wordOf w 0x52 0 0
  | .startSweepDone _ f => f.Nodup
  | .beacon a b w sl => decide (0 < a) && decide (0 < b) && decide (0 < w) && sl.Nodup
  | .memoryEccError _ _ a _ => decide (a < 2 ^ 40)
  | .sentFrame _ _ f _ => f.nibbles.all (fun v => decide (v ≤ 16)) && decide (f.status ≤ 16) && decide (f.crc ≤ 16) && decide (f.nibbles.length ≤ 8)
  | .calStartDone _ _ z r => z.length == 4 && r.length == 4
  | .calRefDone _ _ z r => z.length == r.length && !z.isEmpty
  | .calOverlapDone _ _ z u => z.length == u.length && !z.isEmpty
  | .cmpWindowClose _ k i _ _ => decide (k < 16) && decide (i < 256)
  | .targetedTestDone _ f => f.Nodup
  | .sdCopyRx _ _ _ _ n _ => decide (n ≤ 1456)
  | .scnFrameRx _ _ f _ => f.wf
  | .starFrameRx _ _ f _ => f.wf
  | .canRxFrame _ _ f _ => f.wf
  | .cryCmdDone _ _ g => g.isEmpty || g.length == 384
  | .canRxError _ _ n => n == 1 || n == 8
  | .feedStart .. | .feedValidLost .. | .feedsBelowReset | .laneResetRelease .. | .railFaultReset .. | .imageCheckDone ..
  | .logScanDone .. | .startIncomplete | .chorusTimeout | .chorusCmpTestDone .. | .cfgStartWrite .. | .cfgDataWrite ..
  | .digestWrite .. | .cfgHashDone | .regParityError | .wakePin .. | .rtcAlarm | .hibFeedSample .. | .vorLow | .hibPowerOnReset
  | .temperatureThreshold .. | .dramFillDone .. | .scrubRead .. | .inputRecordPost .. | .exchRecordReceive .. | .exchDeadline
  | .exchAbsentRun .. | .vectorReady .. | .siViewDiff .. | .triggerFire .. | .pendingTriggerStart .. | .jobStallEnd ..
  | .holdDone .. | .jobEndComplete .. | .jobBudgetExpiry .. | .doorbellWrite .. | .cqHiRead .. | .laneTimerExpiry ..
  | .machineTimer .. | .axisRecordApply .. | .pwmCompareEvent .. | .driveUpdate .. | .peakTrip .. | .axOvercurrent ..
  | .axSatLong .. | .axSenseRange .. | .axRecTimeout .. | .quadEdge .. | .indexPulse .. | .fbIndexMissing .. | .hallChange ..
  | .fbSamplePoint .. | .ssiReadDone .. | .fbSerialLost .. | .homeWrite .. | .homecancelWrite .. | .homeComplete ..
  | .homeDrop .. | .compareArm .. | .retentionCheckDone .. | .pgStep .. | .pgMoveCmd .. | .pgVelocityCmd .. | .pgStopCmd ..
  | .pgGearCmd .. | .pgCancelCmd .. | .calConnect .. | .calSwitch .. | .bemfTrimBit .. | .calBemfStale ..
  | .pumpRecordApply .. | .pumpZcSample .. | .pumpCommutate .. | .pumpPiUpdate .. | .pumpIlimTrip .. | .ppIlimLong ..
  | .ppBusHold .. | .pumpCatchTimeout .. | .pumpAlignEnd .. | .pumpStartTimeout .. | .pumpCoastEnd .. | .pumpBrakeEnd ..
  | .ppRecTimeout .. | .pumpStopped .. | .cellShort .. | .pcGateStuck .. | .pcVgdUvlo .. | .cellUvlo .. | .uvloRecover ..
  | .pcCpLimit .. | .edgeMeasure .. | .pcAdaptLimit .. | .cmpRecordArrive .. | .cmpDlyFault | .cmpInjNoRecord | .voteRecordStore
  | .ckptGo .. | .ckptXfer .. | .ckptSignaturePost .. | .ckptDeadline | .verdictWrite .. | .axolotlTimeout | .xfermaxExpiry
  | .debugHalt .. | .debugActivate .. | .siLevelAccept .. | .siDiscrepancy .. | .soOffpulseStart .. | .soOffpulseEnd ..
  | .soReadbackCheck .. | .rampPeriod | .holdRelease | .stateReqPark | .stateReqHibernate | .stateReqAxolotl | .stateReqRestart
  | .stateReqStop | .sdSingle .. | .sdTimeout .. | .cmdPathLost | .holdRegPeriod | .holdHallChange .. | .standstillReached
  | .speedCapExceeded .. | .ssTimeout | .faultEventEntry | .logWrite .. | .collectorCheckFail .. | .fcPendAck ..
  | .fcForceWrite .. | .fcClassWrite .. | .fcLogclr .. | .skfcAck .. | .skfcForce .. | .scnListenTimeout .. | .scnCycleStart ..
  | .scnCycleEnd .. | .scnSlotPrepare .. | .scnTransmitStart .. | .scnMinislotBoundary .. | .starFrameEnd .. | .starCycleEnd ..
  | .starGrantLapse .. | .starLinkLoss .. | .starEnWrite .. | .guardianViolation .. | .scnTxCommit .. | .scnTxDrop ..
  | .scnTxExpiry .. | .scnModeRequest .. | .scnModeCancel .. | .scnSlotTrigger .. | .scnMissCounterRead .. | .canReintegrate ..
  | .canTxCommit .. | .canTxCancel .. | .canTxStart .. | .canTxSuccess .. | .canTxError .. | .canRecoverWrite ..
  | .canRecoveryDone .. | .canFifoRelease .. | .canTtRefSend .. | .canTtWindowStart .. | .canTtRefLost .. | .xfence ..
  | .xfenceTimeout .. | .dmaGo .. | .dmaStop .. | .dmaDescLoad .. | .dmaDescComplete .. | .dmaAbort .. | .erRowCapture ..
  | .erRowSkipped .. | .erFreezeCmd .. | .erReleaseCmd .. | .icArrival .. | .icSwset .. | .icPresent .. | .icTrapEntry ..
  | .icEoi .. | .icSrcRead .. | .posLRead .. | .sposLRead .. | .rtcRead .. | .erraddrLRead .. | .bistSliceStart ..
  | .bistSliceEnd .. | .bistSweepLate .. | .cryAttest .. | .cryInstall .. | .cryCommit .. | .cryAdvance .. | .axEnWrite ..
  | .fbEnWrite .. | .pgEnWrite .. | .ppEnWrite .. | .calEnWrite .. | .xchEnWrite .. | .ckptEnWrite .. | .scnEnWrite ..
  | .canEnWrite .. | .erEnWrite .. | .bistEnWrite .. | .pcCfgWrite .. | .wakecfgWrite .. | .registerWrite .. | .vorValid
  | .wakeOneFeedTimeout | .feedFallsBelowReset .. | .starLinkUp .. | .xfenceDone .. | .skfcAgreeTimeout => true

end Sys2Proof
end

