-- ==== Sys2Proof/Tests/Slice0.lean ====
section
/-! SUPPORT. Tests: states and operands that meet the hypotheses of the statements, words of instructions, ill-formed commands. -/

namespace Sys2Proof.Tests

open Sys2Proof Sys2Proof.Machine

set_option Elab.async false
set_option linter.unusedVariables false

/-- A lane that runs, with its rails and its gate supply in their windows. -/
def up : LaneSt := { reset := false, rails := true, enMem := true, enRun := true, vgdUp := true }

/-- The unit in Service with every lane running and every register at its reset value. -/
def svc : State := {
  State.reset with
  lanes := [(0, up), (1, up), (2, up)]
  sk := { st := .service, feedA := true, feedB := true, aboveA := true, aboveB := true, vor := true } }

/-- A configuration block with the words listed by offset, and 0 elsewhere. -/
def cfgOf (l : List (Nat × Nat)) : List Word := (List.range 128).map fun i => BitVec.ofNat 32 ((l.lookup (4 * i)).getD 0)

def skm (f : Skink → Skink) (s : State) : State := { s with sk := f s.sk }
def conf (l : List (Nat × Nat)) (s : State) : State := skm (fun k => { k with cfg := cfgOf l }) s
def lm (l : Lane) (f : LaneSt → LaneSt) (s : State) : State := s.setLane l (f (s.lane l))

/-- The unit in Tadpole with every lane in reset. -/
def tad : State := { State.reset with sk := { st := .tadpole, feedA := true, feedB := true, aboveA := true, aboveB := true, vor := true } }
def cho : State := svc.setSt .chorus
/-- s at model time n. -/
def later (n : Nat) (s : State) : State := { s with now := n }
def oneRec : OutRec := { kind := 2, index := 0, tag := 3, pay := [0, 0, 0, 0, 0, 0] }

/-- A configuration block whose every field lies in its range. -/
def goodCfg : List Word := cfgOf ([(0, 1), (4, 0x1010032), (8, 0x0a0a0a0a), (0xc, 0x10a0a), (0x14, 0x1018), (0x18, 0x40002), (0x1c, 20),
  (0xc0, 0x05000a00), (0xc4, 0x20100)] ++ (List.range 6).map (fun m => (0x20 + 4 * m, 0x100032)) ++
  (List.range 16).map (fun i => (0x40 + 4 * i, 0x10)) ++ (List.range 16).map (fun i => (0x80 + 4 * i, 0x232028)))

/-- Its SHA-256, and that of 512 zero bytes, computed outside the model. -/
def goodDig : List Word := [0xdf256770, 0xe97e2c40, 0x068a25c4, 0x5c50519a, 0x0bebb2ee, 0x843287ca, 0x1fb0ed7f, 0xcc184e06]
def zeroDig : List Word := [0x076a27c7, 0x9e5ace2a, 0x3d47f9dd, 0x2e83e4ff, 0x6ea8872b, 0x3c2218f6, 0x6c92b89b, 0x55f36560]

/-- Every lane has written the digest h. -/
def digests (h : List Word) (s : State) : State :=
  [Lane.A, .B, .W].foldl (fun s l => (List.range 8).foldl (fun s i => s.setReg (skOwnB l + 0x60 + 4 * i) (h.getD i 0))
    (lm l (fun x => { x with digestAll := true }) s)) s

/-- Chorus with the words ws received and the digest h written by every lane. -/
def checking (ws h : List Word) : State := digests h (skm (fun k => { k with loading := true, words := ws.reverse }) cho)

/-- Axis n of lane l enabled and aligned, its bus in range. -/
def axs (l : DLane) (n : Nat) (x : AxisSt := { busLow := false }) : State :=
  (((svc.fs (axB l n) AX.CTRL_EN 1).fs (axB l n) AX.STATUS_ALIGN 1).fs (axB l n) AX.STATUS_MODE 1).setAxis l n x

/-- Gate hs of cell c commanded on. -/
def gate (l : DLane) (c : Nat) (hs : Bool) (s : State) : State := s.setCell l c { cmdH := hs, cmdL := !hs }

/-- The records rs waiting for the drives of lane l. -/
def drv (l : DLane) (rs : List OutRec) (s : State) : State := s.setBus l.lane { drvQ := rs }

/-- An AXIS record of mode m. -/
def axRec (n tag m : Nat) : OutRec := { kind := 1, index := n, tag := tag, pay := [5, 6, 7, 8, BitVec.ofNat 32 (m * 256), 0] }

/-- A feedback unit enabled on quadrature, with soft limits -1,000 and 1,000 and CPR 100. -/
def fbs (l : DLane) (n : Nat) (x : FbSt := {}) : State :=
  let b := fuB l n
  (((((((svc.fs b FB.CTRL_EN 1).fs b FB.CTRL_QUAD 1).fs b FB.SOFTMIN_L_LO (2 ^ 32 - 1000)).fs b FB.SOFTMIN_H_HI 255).fs b FB.SOFTMAX_L_LO 1000).fs
    b FB.SOFTMAX_H_HI 0).fs (axB l n) AX.CPR_CPR 100).setFbu l n x
def ev (src : Nat) (res : Nat := 1) : Event := { coll := .lane .A, src := src, inst := 0, res := res }
def logIt : LogItem := { ev := ev 0x40, cfg := 1, cls := 1, esc := false, removed := false, after := .service, evid := 7, time := 0 }

/-- A drive lane's input record in which every axis stands at pos with the quality posq. -/
def drRec (pos posq : Byte) : List Byte :=
  (List.range 704).map fun i => if i < 64 then 0 else if (i - 64) % 104 = 0 then pos else if (i - 64) % 104 = 42 then posq else 0

/-- s with a vector of its cycle that carries lane A's record alone. -/
def withVec (r : List Byte) (s : State) : State :=
  let s := { s with xc := { s.xc with recA := some r } }
  { s with xc := { s.xc with vec := s.vectorBytes true, vecCycle := s.sk.cycle } }

/-- Profile generator n of lane l enabled in mode m. -/
def pgs (l : DLane) (n m : Nat) (x : PgSt := {}) : State :=
  ((((fbs l n).fs (pgB l n) PG.CTRL_EN 1).fs (pgB l n) PG.CTRL_FSTOP 0).fs (pgB l n) PG.STATUS_MODE m).setPg l n x

/-- Calibration of axis n of lane l running in phase p. -/
def cals (l : DLane) (n p : Nat) (x : CalSt := {}) : State :=
  (((axs l n).fs (calB l.lane) CAL.CTRL_EN 1).fs (calA l n) CAL.MAP_PHASE p).setCal l n x

/-- The same with decimation by 8, 8 reference samples, 2 of overlap, one to settle and a step of 4 cycles, at 10 µs of cycle c. -/
def calS (l : DLane) (n p c : Nat) (x : CalSt := {}) : State :=
  let b := calB l.lane
  later 10000 (skm (fun k => { k with cycle := c }) ((((((cals l n p x).fs b CAL.CFG_CALOSR 8).fs b CAL.CFG_NREF 1).fs b CAL.CFG_OVL 2).fs
    b CAL.CFG_SETTLE 1).fs b CAL.CTRL_STEPCYC 4))
def s8 (v : Int) : List Int := List.replicate 8 v

/-- Pump port p of lane l enabled in state st. -/
def pps (l : DLane) (p st : Nat) (x : PpSt := {}) : State :=
  ((svc.fs (ppB l p) PP.CTRL_EN 1).fs (ppB l p) PP.STATUS_STATE st).setPp l p x

/-- A PUMP record of mode m and speed v. -/
def ppRec (p tag m : Nat) (v : Word := 1000) : OutRec :=
  { kind := 2, index := p, tag := tag, pay := [v, 1, 1, 100, BitVec.ofNat 32 (m * 2 ^ 17), 0] }

/-- A SENT frame of six nibbles. -/
def sentF : SentIn := { calNs := 14000 * 12, status := 0, nibbles := [1, 2, 3, 4, 5, 15], crc := 14, pauseTicks := 0 }

/-- Axis A0 as it stood when its position was written to the retention area, before the check. -/
def retained : State :=
  { ((((fbs .A 0 { t := 7, retPend := true }).fs (axB .A 0) AX.CTRL_EN 1).fs (axB .A 0) AX.STATUS_ALIGN 2).fs hibB HIB.STATUS_VHIBLOSS 0) with
    mem := [(0x30000000, 1), (0x30000008, 5), (0x3000001c, 148), (0x3000001d, 129), (0x3000001e, 3), (0x3000001f, 213),
      (0x30000020, 7), (0x30000027, 1), (0x30000038, 145), (0x30000039, 156), (0x3000003a, 18), (0x3000003b, 118)] }

/-- Bus record b of lane l waits for Skink. -/
def skQ (l : Lane) (b : BusRec) (s : State) : State := s.setBus l { s.bus l with skQ := [b] }
def cmpm (f : Comparator → Comparator) (s : State) : State := { s with cmp := f s.cmp }
def axR (p : Word := 5) : OutRec := { kind := 1, index := 0, tag := 3, pay := [p, 0, 0, 0, 0, 0] }
def misD (a b : OutRec) : Decision := ⟨.mismatch, 1, 0, 3, 0, some a, some b, 0⟩
def ck (a : Word) (b : Word) : CkptOpen := { cycle := 4, sigA := some a, sigB := some b }
def posting : State := lm .W (fun x => { x with ckTag := 4 }) (svc.fs (ckptB .W) CKPT.STATUS_BUSY 1)
def axo (x : Axo) : State := skm (fun k => { k with st := .axolotl, axo := some x }) svc

/-- A loop engine with source 40 enabled for descriptor 5, whose event has come. -/
def firing (s : State) : State :=
  ({ (((s.fs (leB .A) LE.CTRL_EN 1).fs (trigB .A 40) LE.TRIGCFG_EN 1).fs (trigB .A 40) LE.TRIGCFG_DESC 5) with fired := [(0, [40])] }).setLe .A
    { newest := some 7 }
/-- Descriptor 5 with the entry e. -/
def desc5 (e : Word) (s : State) : State := s.wr32 0 (lmA (0xf6000 + 160)) e
/-- Lane A with every slot in the state st. -/
def fullSlots (x : Job) (s : State) : State := { s with jobs := (List.range 256).map fun n => (n, x) }

/-- An instruction word. -/
def dw (op d a b c fl imm : Nat) : DWord := BitVec.ofNat 64 ((((((op * 32 + d) * 32 + a) * 32 + b) * 32 + c) * 16 + fl) * 2 ^ 32 + imm)

/-- A running job with blocks in V1 to V5. -/
def busy : Job := {
  st := .running, pc := 0x100, a := [0, 7, 0x1000, 0x2000, 9, 6, 0xfc000, 1], p := [true, true, false, false, true, false, false, false]
  v := [(1, ⟨8, 0, [1, 2, 3, 4, 5, 6, 7, 8]⟩), (2, ⟨3, 5, [4194304, -4194305, 4194303, 0, 0, 0, 0, 0]⟩),
    (3, ⟨2, -3, [5000000, 3, 0, 0, 0, 0, 0, 0]⟩), (4, ⟨8, 2, [-4194304, 6, 7, 8, 9, 10, 11, 12]⟩), (5, ⟨8, 9, [8388607, 1, 1, 1, 1, 1, 1, 1]⟩)] }
def jb (x : Job := busy) : State := svc.setJob .A 0 x
/-- Words of memory at a local-memory address. -/
def lmw (a : Nat) (ws : List Word) (s : State) : State := (List.range ws.length).foldl (fun s i => s.wr32 0 (lmA (a + 4 * i)) (ws.getD i 0)) s
def loads : State := (lmw 0x1020 [0xfd030000, 0x12345678, 0xfffffffe, 0x7fffffff] (jb)).setLe .A { ring := [(0, 0)] }
def vgone : State := (jb { busy with vec := 4 }).setLe .A { ring := [(0, 8)] }

/-- SCN channel 0 of lane A in state st, with mode 0 of ten slots of 50 µs. -/
def net (st : Nat) (l : Lane := .A) (c : Nat := 0) (x : ScnSt := {}) : State :=
  ((((((svc.fs (scnB l c) SCN.CTRL_EN 1).fs (scnB l c) SCN.STATUS_STATE st).fs (scnMode l c 0) SCN.MODE1_NSLOT 10).fs (scnMode l c 0)
    SCN.MODE1_SLOTLEN 500).fs (scnMode l c 0) SCN.MODE0_VALID 1).fs (scnMode l c 0) SCN.MODE4_OFSLIM 1000).setScn l c x
def scnF (k slot : Nat) (ok : Bool := true) (p : List Byte := []) (sender : BitVec 8 := 1) : ScnFrame :=
  let f : ScnFrame := {
    kind := k, netid := 0, cycle := 0, mode := 0, mreqv := false, slot := slot, sender := sender, mreq := 0, dynid := 0, seq := 9, len := 0
    hcrc := 0, body := [], fcsOk := ok }
  frameSeal f p
/-- Star n in HUB with port q enabled and linked, its slot 3 owned by port 2. -/
def starS (n : DLane) (en : Bool) (x : StarSt := {}) : State :=
  ((((((net 4 n.lane (dno n)).fs (starB n) STAR.CTRL_EN 1).fs (starP n 2) STAR.PORT_PEN 1).fs (starP n 2) STAR.PORT_LINK 1).fs (starB n)
    STAR.STATUS_ENFORCE (if en then 1 else 0)).setReg (scnG n.lane + 0x8000) 0x02000000).setStar n x

/-- CAN controller 0 of lane l, enabled. -/
def canS (l : Lane := .A) (k : Nat := 0) (x : CanSt := {}) : State := (svc.fs (canB l k) CAN.CTRL_EN 1).setCan l k x
def canF (fdf : Bool := false) (d : Byte := 2) : CanFrame :=
  { id := 0x123, ide := false, rtr := false, esi := false, dlc := 1, brs := false, fdf := fdf, resRecessive := false, data := [d] }

/-- DMA channel n of lane A running. -/
def dmaS (n : Nat) (x : DmaSt) : State := (svc.fs (dmaN .A n) DMA.STATUS_STATE 1).setDma .A n x
/-- A descriptor at a, written word by word. -/
def wrd (a : Nat) (ws : List Word) (s : State) : State := (List.range ws.length).foldl (fun s i => s.wr32 0 (a + 4 * i) (ws.getD i 0)) s
def moving : DmaDesc := { at_ := 0x20000000, src := 0x20000100, dst := 0x20000200, len := 3, ord := false, trig := true, irq := true, last := true }
def recS : State :=
  ((((svc.fs (erB .A) ER.CTRL_EN 1).fs (erB .A) ER.CTRL_NCHC 0).setErPtr .A 0x180000000) |> fun s => (List.range 7).foldl (fun s c => s.setReg (erB .A + 0x104 + 4 * c) 0x20000000) s)
def slice (l : Lane) (n : Nat) : State := ((svc.fs (bistB l) BIST.CTRL_EN 1).fs (bistB l) BIST.STATUS_ACTIVE 1).fs (bistB l) BIST.STATUS_SLICE n
/-- A table at 0x1020: its header and values; the position -5 at 0x2020. -/
def tabS (ws : List Word) : State := lmw 0x2020 [0xfffffffb, 0xffffffff] (lmw 0x1020 ws jb)
def ring16 : List Word := [0xfd000010, 1000, 0, 0, 0, 0, 0, 0] ++ (List.range 16).map fun i => BitVec.ofNat 32 (i * 12345 % 2 ^ 24)
def line3 : List Word := [0xfd010003, 10, 100, 0, 0, 0, 0, 0, 0x100000, 0x123, 0xffff00]
/-- Lane l at n ns of its unit time. -/
def ut (l : Lane) (n : Nat) (s : State) : State := lm l (fun x => { x with unitTime := n * 2 ^ 40 }) s

/-- The hypotheses of StepRunsFrontCommand can be met. -/
theorem test_meets_StepRunsFrontCommand :
    (∃ (s : State) (c : Instr) (rest : List Instr), (s.pending = c :: rest)) :=
  ⟨{ svc with pending := [.rtcAlarm] }, .rtcAlarm, [], by decide +kernel⟩

/-- The hypotheses of IdleStepPassesTime can be met. -/
theorem test_meets_IdleStepPassesTime :
    (∃ (s : State), (s.pending = [])) :=
  ⟨svc, by decide +kernel⟩

/-- The hypotheses of EveryCommandAnswers can be met. -/
theorem test_meets_EveryCommandAnswers :
    (∃ (c : Instr) (s t : State), exec c s = .next t) :=
  ⟨.rtcAlarm, svc, svc, rfl⟩

/-- The hypotheses of StepKeepsCanonicalForm can be met. -/
theorem test_meets_StepKeepsCanonicalForm :
    (∃ s t : State, s.canonical = true ∧ step s = .next t) :=
  ⟨{ State.reset with pending := [.chorusTimeout] }, State.reset, by decide +kernel, rfl⟩

/-- The hypotheses of LockedUntilBothFeedsLost can be met. -/
theorem test_meets_LockedUntilBothFeedsLost :
    (∃ (e : Event) (s : State), (s.evq = [e]) ∧ (s.classOf e = 4) ∧ (e.restoring = false) ∧ (s.resRemoved e.res = false) ∧ (s.resRestoring e.res = false)) ∧
    (∃ (n : Nat) (s : State), (s.sk.locked = true) ∧ (s.sk.req = some ⟨4, n⟩)) ∧
    (∃ (c : Instr) (s t : State), s.sk.locked = true ∧ c ≠ .feedsBelowReset ∧ exec c s = .next t) :=
  ⟨⟨ev 0x40, { svc.setReg (fcB .A + 0x120) 5 with evq := [ev 0x40] }, by decide +kernel⟩,
   ⟨3, skm (fun k => { k with locked := true, req := some ⟨4, 3⟩ }) (svc.setSt .safeHold), by decide +kernel⟩,
   ⟨.rtcAlarm, skm (fun k => { k with locked := true }) svc, skm (fun k => { k with locked := true }) svc, by decide +kernel, nofun, rfl⟩⟩

/-- The hypotheses of FeedsAndSuppliesMoveTheUnit can be met. -/
theorem test_meets_FeedsAndSuppliesMoveTheUnit :
    (∃ (f : DLane) (s : State), (s.sk.st = .off) ∧ (f = .A)) ∧
    (∃ (f : DLane) (s : State), (s.sk.st = .off) ∧ (f = .B)) ∧
    (∃ (f : DLane) (s : State), (s.sk.st ≠ .off) ∧ (f = .A)) ∧
    (∃ (f : DLane) (s : State), (s.sk.st ≠ .off) ∧ (f = .B)) ∧
    (∃ (f : DLane) (s : State), (f = .A)) ∧
    (∃ (f : DLane) (s : State), (f = .B)) ∧
    (∃ (f : DLane) (s : State), ((f = .A → s.sk.feedA = true)) ∧ ((f = .B → s.sk.feedB = true)) ∧ (s.sk.st ≠ .off) ∧ (s.sk.st ≠ .hibernate)) ∧
    (∃ (l : Lane) (rail : Fin 7) (s : State), (rail.val ≠ 0) ∧ (s.sk.vor = true)) :=
  ⟨⟨.A, State.reset, by decide +kernel⟩,
   ⟨.B, State.reset, by decide +kernel⟩,
   ⟨.A, svc, by decide +kernel⟩,
   ⟨.B, skm (fun k => { k with feedB := false }) svc, by decide +kernel⟩,
   ⟨.A, svc, by decide +kernel⟩,
   ⟨.B, svc, by decide +kernel⟩,
   ⟨.A, svc, by decide +kernel⟩,
   ⟨.A, 1, svc, by decide +kernel⟩⟩

/-- The hypotheses of ResetsAndWakesStartTheUnit can be met. -/
theorem test_meets_ResetsAndWakesStartTheUnit :
    (∃ (l : Lane) (rail : Fin 7) (low : Bool) (s : State), ((s.lane l).reset = true) ∧ (s.sk.vor = true) ∧ (s.feedOf l = true) ∧ (s.sk.waitBoth = false) ∧ ((s.lane l).broken = false) ∧ (s.sk.leftOut = none) ∧ (s.sk.st = .tadpole) ∧ (s.past (famGet (fun _ => 0) s.sk.up (laneNo l)) (2 * 10 ^ 6) = true) ∧ (rail.val = 0)) ∧
    (∃ (l : Lane) (rail : Fin 7) (low : Bool) (s : State), ((s.lane l).reset = true) ∧ (s.sk.vor = true) ∧ (s.feedOf l = true) ∧ (s.sk.waitBoth = false) ∧ ((s.lane l).broken = false) ∧ (s.sk.leftOut = none) ∧ (s.sk.st = .tadpole) ∧ (s.past (famGet (fun _ => 0) s.sk.up (laneNo l)) (2 * 10 ^ 6) = true) ∧ (rail.val ≠ 0)) ∧
    (∃ (n : Fin 4) (s : State), ((s.fg hibB HIB.WAKECFG_EN).testBit n.val = true) ∧ (s.sk.st = .park)) ∧
    (∃ (n : Fin 4) (s : State), ((s.fg hibB HIB.WAKECFG_EN).testBit n.val = true) ∧ (s.sk.st = .hibernate)) ∧
    (∃ (s : State), (s.fb hibB HIB.WAKECFG_ALARMEN = true) ∧ (s.rtcSec = (s.reg (hibB + 0x110)).toNat) ∧ (s.sk.st = .park)) ∧
    (∃ (s : State), (s.sk.st = .hibernate) ∧ (s.sk.keepOff = false)) ∧
    (∃ (s : State), (s.sk.st = .tadpole) ∧ (s.sk.waitBoth = true) ∧ (s.sk.feedA = true) ∧ (s.sk.feedB = false) ∧ (s.past s.sk.wakeAt (500 * 10 ^ 6) = true)) :=
  ⟨⟨.A, 0, false, later 2000000 tad, by decide +kernel⟩,
   ⟨.W, 6, true, later 2000000 tad, by decide +kernel⟩,
   ⟨0, (svc.setSt .park).fs hibB HIB.WAKECFG_EN 15, by decide +kernel⟩,
   ⟨3, (svc.setSt .hibernate).fs hibB HIB.WAKECFG_EN 8, by decide +kernel⟩,
   ⟨(svc.setSt .park).fs hibB HIB.WAKECFG_ALARMEN 1, by decide +kernel⟩,
   ⟨svc.setSt .hibernate, by decide +kernel⟩,
   ⟨later 500000000 (skm (fun k => { k with waitBoth := true, feedB := false }) tad), by decide +kernel⟩⟩

/-- The hypotheses of HibernateDomainAndPowerRegisters can be met. -/
theorem test_meets_HibernateDomainAndPowerRegisters :
    (∃ (s : State), ((s.fg hibB HIB.STATUS_SLEEP = 0 ∨ s.fg hibB HIB.STATUS_SLEEP = 2))) ∧
    (∃ (s : State), (s.sk.st = .hibernate)) ∧
    (∃ (s : State), (s.sk.st ≠ .hibernate)) ∧
    (∃ (l : Lane) (v : Word) (s : State), ((s.lane l).reset = false) ∧ ((∃ n : Fin 4, v.getLsbD n.val = true ∧ v.toNat / 2 ^ (4 + 2 * n.val) % 4 = 3))) ∧
    (∃ (l : Lane) (v : Word) (s : State), ((s.lane l).reset = false) ∧ ((∀ n : Fin 4, v.getLsbD n.val = true → v.toNat / 2 ^ (4 + 2 * n.val) % 4 ≠ 3))) ∧
    (∃ (l : Lane) (s : State), ((s.lane l).reset = false)) ∧
    (∃ (l : Lane) (x : Int) (s : State), ((s.lane l).reset = false) ∧ (s.fi (pwrB l) PWR.TEMP_DIE ≤ 1080) ∧ (1080 < x) ∧ (x ≤ 1200)) ∧
    (∃ (l : Lane) (x : Int) (s : State), ((s.lane l).reset = false) ∧ (1080 < s.fi (pwrB l) PWR.TEMP_DIE) ∧ (s.fi (pwrB l) PWR.TEMP_DIE ≤ 1200) ∧ (1200 < x)) :=
  ⟨⟨(svc.wr8 0 0x30000000 5).wr8 1 0x30000100 7, by decide +kernel⟩,
   ⟨((svc.wr8 0 0x300000ff 5).wr8 1 0x30000100 7).setSt .hibernate, by decide +kernel⟩,
   ⟨svc, by decide +kernel⟩,
   ⟨.A, 0x31, svc, by decide +kernel⟩,
   ⟨.A, 0xffff2aaf, svc, by decide +kernel⟩,
   ⟨.W, svc, by decide +kernel⟩,
   ⟨.A, 1081, svc.fsi (pwrB .A) PWR.TEMP_DIE 1080, by decide +kernel⟩,
   ⟨.B, 1201, svc.fsi (pwrB .B) PWR.TEMP_DIE 1200, by decide +kernel⟩⟩

/-- The hypotheses of StartEndsInChorusServiceOrSafeHold can be met. -/
theorem test_meets_StartEndsInChorusServiceOrSafeHold :
    (∃ (l : Lane) (v : Fin 65) (k : Fin 4) (c : BitVec 256) (h : BitVec 256) (s : State), ((s.lane l).reset = false) ∧ ((s.lane l).verified = false) ∧ ((s.lane l).bootBad < 2) ∧ ((s.lane l).rollback ≤ v.val) ∧ (s.sk.st = .tadpole) ∧ ((∀ m, m ≠ l → (s.lane m).verified = true))) ∧
    (∃ (l : Lane) (v : Fin 65) (k : Fin 4) (c : BitVec 256) (h : BitVec 256) (s : State), ((s.lane l).reset = false) ∧ ((s.lane l).verified = false) ∧ ((s.lane l).bootBad < 2) ∧ ((s.lane l).rollback ≤ v.val) ∧ ((∃ m, m ≠ l ∧ (s.lane m).verified = false))) ∧
    (∃ (l : Lane) (v : Fin 65) (k : Fin 4) (c : BitVec 256) (h : BitVec 256) (s : State), ((s.lane l).reset = false) ∧ ((s.lane l).verified = false) ∧ ((s.lane l).bootBad = 1)) ∧
    (∃ (r : Nat) (s : State), (s.sk.st = .tadpole) ∧ (s.sk.relAt = some r) ∧ (s.past r (500 * 10 ^ 6) = true)) ∧
    (∃ (s : State), (s.sk.st = .chorus) ∧ (s.past s.sk.chorusAt (150 * 10 ^ 6) = true)) ∧
    (∃ (s : State), (s.sk.st = .chorus)) ∧
    (∃ (l : Lane) (n : Fin 72) (s : State), (s.sk.st = .chorus) ∧ ((s.lane l).reset = false) ∧ (sliceAbsent l n.val = false)) ∧
    (∃ (s : State), ((s.sk.st ≠ .tadpole ∨ s.sk.relAt = none))) ∧
    (∃ (s : State), ((s.sk.st ≠ .chorus ∨ s.past s.sk.chorusAt (150 * 10 ^ 6) = false))) ∧
    (∃ (s : State), (s.sk.st = .chorus) ∧ (s.sk.cfgOk = true) ∧ ((∀ l, (s.lane l).swept = true))) ∧
    (∃ (s : State), (s.sk.st = .chorus) ∧ (s.sk.cfgOk = false)) ∧
    (∃ (l : Lane) (s : State), (s.sk.st = .chorus) ∧ ((s.lane l).reset = false) ∧ (s.sk.cfgOk = true) ∧ (s.sk.cmpOk = true) ∧ ((∀ m, m ≠ l → (s.lane m).swept = true))) :=
  ⟨⟨.B, 64, 3, 5, 6, lm .A (fun x => { x with verified := true }) (lm .W (fun x => { x with verified := true }) (lm .B (fun x => { x with rollback := 64, bootBad := 1 }) (svc.setSt .tadpole))), by and_intros <;> first | decide +kernel | (intro x; cases x <;> decide +kernel) | exact ⟨.A, by decide +kernel⟩ | exact ⟨.B, by decide +kernel⟩⟩,
   ⟨.A, 3, 1, 5, 6, svc.setSt .tadpole, by and_intros <;> first | decide +kernel | (intro x; cases x <;> decide +kernel) | exact ⟨.A, by decide +kernel⟩ | exact ⟨.B, by decide +kernel⟩⟩,
   ⟨.W, 0, 0, 0, 0, lm .W (fun x => { x with bootBad := 1 }) (svc.setSt .tadpole), by decide +kernel⟩,
   ⟨0, later 500000000 (skm (fun k => { k with relAt := some 0 }) tad), by decide +kernel⟩,
   ⟨later 150000000 cho, by decide +kernel⟩,
   ⟨cho, by decide +kernel⟩,
   ⟨.A, 0, cho, by decide +kernel⟩,
   ⟨cho, by decide +kernel⟩,
   ⟨tad, by decide +kernel⟩,
   ⟨skm (fun k => { k with cfgOk := true }) { cho with lanes := [(0, { up with swept := true }), (1, { up with swept := true }), (2, { up with swept := true })] }, by and_intros <;> first | decide +kernel | (intro x; cases x <;> decide +kernel) | exact ⟨.A, by decide +kernel⟩ | exact ⟨.B, by decide +kernel⟩⟩,
   ⟨cho, by decide +kernel⟩,
   ⟨.B, skm (fun k => { k with cfgOk := true, cmpOk := true }) { cho with lanes := [(0, { up with swept := true }), (1, up), (2, { up with swept := true })] }, by and_intros <;> first | decide +kernel | (intro x; cases x <;> decide +kernel) | exact ⟨.A, by decide +kernel⟩ | exact ⟨.B, by decide +kernel⟩⟩⟩

/-- The hypotheses of ConfigurationLoadsAndIsChecked can be met. -/
theorem test_meets_ConfigurationLoadsAndIsChecked :
    (∃ (v : Word) (s : State), ((s.lane .A).reset = false) ∧ (s.sk.cfg = []) ∧ (v.getLsbD 0 = true)) ∧
    (∃ (v : Word) (s : State), ((s.lane .A).reset = false) ∧ (s.sk.cfg = []) ∧ (s.sk.loading = true) ∧ (s.sk.words.length < 128)) ∧
    (∃ (l : Lane) (v : Word) (s : State), ((l ≠ .A ∨ s.sk.cfg ≠ []))) ∧
    (∃ (l : Lane) (n : Fin 8) (v : Word) (s : State), ((s.lane l).reset = false) ∧ (s.sk.cfg = [])) ∧
    (∃ (s : State), (s.sk.st = .chorus) ∧ (s.sk.cfg = []) ∧ (s.sk.words.length = 128) ∧ ((∀ l, (s.lane l).digestAll = true)) ∧ ((∀ l, s.laneDigest l = (sha256 ((s.sk.words.reverse).flatMap fun w => natLe 4 w.toNat)))) ∧ (cfgInRange (s.sk.words.reverse) = true)) ∧
    (∃ (s : State), (s.sk.st = .chorus) ∧ (s.sk.cfg = []) ∧ (s.sk.words.length = 128) ∧ ((∀ l, (s.lane l).digestAll = true)) ∧ ((∀ l, s.laneDigest l = (sha256 ((s.sk.words.reverse).flatMap fun w => natLe 4 w.toNat)))) ∧ (cfgInRange (s.sk.words.reverse) = false)) ∧
    (∃ (s : State), (s.sk.st = .chorus) ∧ (s.sk.cfg = []) ∧ (s.sk.words.length = 128) ∧ ((∀ l, (s.lane l).digestAll = true)) ∧ ((∃ l, s.laneDigest l ≠ (sha256 ((s.sk.words.reverse).flatMap fun w => natLe 4 w.toNat))))) ∧
    (∃ (s : State), (s.sk.cfg ≠ [])) ∧
    (∃ (s : State), (s.sk.cfg = [])) :=
  ⟨⟨1, cho, by decide +kernel⟩,
   ⟨5, skm (fun k => { k with loading := true, words := List.replicate 127 7 }) cho, by decide +kernel⟩,
   ⟨.B, 1, cho, by decide +kernel⟩,
   ⟨.A, 7, 0x12345678, cho, by decide +kernel⟩,
   ⟨checking goodCfg goodDig, by and_intros <;> first | decide +kernel | (intro x; cases x <;> decide +kernel) | exact ⟨.A, by decide +kernel⟩ | exact ⟨.B, by decide +kernel⟩⟩,
   ⟨checking (cfgOf []) zeroDig, by and_intros <;> first | decide +kernel | (intro x; cases x <;> decide +kernel) | exact ⟨.A, by decide +kernel⟩ | exact ⟨.B, by decide +kernel⟩⟩,
   ⟨checking goodCfg zeroDig, by and_intros <;> first | decide +kernel | (intro x; cases x <;> decide +kernel) | exact ⟨.A, by decide +kernel⟩ | exact ⟨.B, by decide +kernel⟩⟩,
   ⟨conf [] cho, by decide +kernel⟩,
   ⟨cho, by decide +kernel⟩⟩

/-- The hypotheses of BeaconAdvancesTheUnitCycle can be met. -/
theorem test_meets_BeaconAdvancesTheUnitCycle :
    (∃ (pA : Nat) (pB : Nat) (pW : Nat) (slipped : List (DLane × Fin 6)) (s : State), (s.sk.st.active = true) ∧ (s.sk.req = none) ∧ (s.cmp.frozen = false)) ∧
    (∃ (pA : Nat) (pB : Nat) (pW : Nat) (slipped : List (DLane × Fin 6)) (s : State), (s.sk.st = .service) ∧ (s.sk.req = none) ∧ (s.sk.tNew = none) ∧ ((s.lane .A).reset = false) ∧ ((pA * 100 < s.sk.t * 98000 ∨ s.sk.t * 102000 < pA * 100))) ∧
    (∃ (pA : Nat) (pB : Nat) (pW : Nat) (s : State), (s.sk.tNew.isSome = true)) ∧
    (∃ (p : Nat) (s : State), (98000 * s.sk.t ≤ p * 100) ∧ (p * 100 ≤ 102000 * s.sk.t)) ∧
    (∃ (pA : Nat) (pB : Nat) (pW : Nat) (slipped : List (DLane × Fin 6)) (s : State) (h : Hold) (d : DLane) (m : Nat), ((s.sk.st = .singleA ∨ s.sk.st = .singleB)) ∧ (s.sk.req = none) ∧ (s.sk.axo = none) ∧ (s.sk.hold = some h) ∧ (h.left ≤ 1) ∧ (h.removed = some d) ∧ (m < 6)) :=
  ⟨⟨50000, 50000, 50000, [], { svc with cmp := { svc.cmp with votes := [{ oneRec with tag := 1 }, { oneRec with tag := 65 }, { oneRec with tag := 2 }] } }, by decide +kernel⟩,
   ⟨48999, 50000, 50000, [], svc, by decide +kernel⟩,
   ⟨1, 2, 3, skm (fun k => { k with tNew := some 30 }) svc, by decide +kernel⟩,
   ⟨49000, svc, by decide +kernel⟩,
   ⟨50000, 50000, 50000, [], skm (fun k => { k with st := .singleA, removed := [.B], hold := some { left := 1, removed := some .B } }) svc, { left := 1, removed := some .B }, .B, 5, by decide +kernel⟩⟩

/-- The hypotheses of RecordsArePostedAndPresent can be met. -/
theorem test_meets_RecordsArePostedAndPresent :
    (∃ (l : Lane) (c : BitVec 32) (s : State), ((s.lane l).reset = false) ∧ (s.fb (xchB l) XCH.CTRL_EN = true) ∧ ((s.inputRecord l c.toNat).1.length ≤ 1024)) ∧
    (∃ (l : Lane) (c : BitVec 32) (s : State), ((s.lane l).reset = false) ∧ (s.fb (xchB l) XCH.CTRL_EN = true) ∧ (1024 < (s.inputRecord l c.toNat).1.length)) ∧
    (∃ (l : Lane) (s : State), ((s.lane l).reset = false) ∧ (s.xc.vec ≠ []) ∧ ((s.le l).ready ≠ some s.xc.vecCycle)) ∧
    (∃ (l : Lane) (v : Word) (s : State), ((s.lane l).reset = false) ∧ ((s.lane l).locked = false) ∧ (v.getLsbD 0 = true) ∧ ((s.rowPut l false 0x50010000 v).xchCfgOk l = true)) ∧
    (∃ (l : Lane) (v : Word) (s : State), ((s.lane l).reset = false) ∧ ((s.lane l).locked = false) ∧ (v.getLsbD 0 = false)) ∧
    (∃ (l : Lane) (n : Nat) (r : List Byte) (s : State), (s.sk.st = .service) ∧ (s.xc.posted = [(laneNo l, r)]) ∧ (byteF r 0 2 = s.sk.cycle % 2 ^ 16) ∧ (n ≤ 288) ∧ (s.xc.published = false) ∧ ((s.xc.recA = none ∨ l = .A)) ∧ ((s.xc.recB = none ∨ l = .B)) ∧ ((s.xc.recW = none ∨ l = .W)) ∧ (l = .A)) ∧
    (∃ (l : Lane) (n : Nat) (r : List Byte) (s : State), (s.sk.st = .service) ∧ (s.xc.posted = [(laneNo l, r)]) ∧ (byteF r 0 2 = s.sk.cycle % 2 ^ 16) ∧ (n ≤ 288) ∧ (s.xc.published = false) ∧ ((s.xc.recA = none ∨ l = .A)) ∧ ((s.xc.recB = none ∨ l = .B)) ∧ ((s.xc.recW = none ∨ l = .W)) ∧ (l = .B)) ∧
    (∃ (l : Lane) (n : Nat) (r : List Byte) (s : State), (s.sk.st = .service) ∧ (s.xc.posted = [(laneNo l, r)]) ∧ (byteF r 0 2 = s.sk.cycle % 2 ^ 16) ∧ (n ≤ 288) ∧ (s.xc.published = false) ∧ ((s.xc.recA = none ∨ l = .A)) ∧ ((s.xc.recB = none ∨ l = .B)) ∧ ((s.xc.recW = none ∨ l = .W)) ∧ (l = .W)) ∧
    (∃ (n : Nat) (a : List Byte) (b : List Byte) (r : List Byte) (s : State), (s.sk.st = .service) ∧ (s.sk.axo = none) ∧ (s.sk.removed = []) ∧ (s.xc.posted = [(2, r)]) ∧ (byteF r 0 2 = s.sk.cycle % 2 ^ 16) ∧ (n ≤ 288) ∧ (s.xc.published = false) ∧ (s.xc.recA = some a) ∧ (s.xc.recB = some b)) ∧
    (∃ (l : Lane) (n : Nat) (r : List Byte) (s : State), (s.sk.st.active = true) ∧ (s.xc.posted = [(laneNo l, r)]) ∧ ((byteF r 0 2 ≠ s.sk.cycle % 2 ^ 16 ∨ 288 < n))) ∧
    (∃ (l : Lane) (n : Nat) (r : List Byte) (s : State), ((s.sk.st = .chorus ∨ s.sk.st = .safeHold)) ∧ (s.xc.posted = [(laneNo l, r)]) ∧ ((byteF r 0 2 ≠ s.sk.cycle % 2 ^ 16 ∨ 288 < n))) :=
  ⟨⟨.A, 7, svc.fs (xchB .A) XCH.CTRL_EN 1, by decide +kernel⟩,
   ⟨.A, 7, { (svc.fs (xchB .A) XCH.CTRL_EN 1).fs (xchB .A) XCH.CTRL_NETMAX 127 with xc := { svc.xc with net := [(0, List.replicate 14 { src := 1, seq := 0, w1 := 64, pay := List.replicate 64 0 })] } }, by decide +kernel⟩,
   ⟨.A, { svc with xc := { svc.xc with vec := [0], vecCycle := 9 } }, by decide +kernel⟩,
   ⟨.A, 0x321, svc, by decide +kernel⟩,
   ⟨.W, 0, svc, by decide +kernel⟩,
   ⟨.A, 288, [0, 0, 5], { svc with xc := { svc.xc with posted := [(0, [0, 0, 5])] } }, by decide +kernel⟩,
   ⟨.B, 288, [0, 0, 5], { svc with xc := { svc.xc with posted := [(1, [0, 0, 5])] } }, by decide +kernel⟩,
   ⟨.W, 0, [0, 0, 5], { svc with xc := { svc.xc with posted := [(2, [0, 0, 5])], recA := none, recB := none } }, by decide +kernel⟩,
   ⟨288, [1], [2, 3], [0, 0, 5], { svc with xc := { svc.xc with posted := [(2, [0, 0, 5])], recA := some [1], recB := some [2, 3] } }, by decide +kernel⟩,
   ⟨.B, 289, [0, 0, 5], { svc with xc := { svc.xc with posted := [(1, [0, 0, 5])] } }, by decide +kernel⟩,
   ⟨.B, 289, [0, 0, 5], { cho with xc := { svc.xc with posted := [(1, [0, 0, 5])] } }, by decide +kernel⟩⟩

/-- The hypotheses of DeadlinePublishesTheVector can be met. -/
theorem test_meets_DeadlinePublishesTheVector :
    (∃ (s : State), (s.sk.st = .service) ∧ (s.sk.axo = none) ∧ (s.xc.published = false) ∧ (s.sk.beaconAt + 6000 ≤ s.now) ∧ (s.xc.recA = none) ∧ (s.xc.recB = none) ∧ (s.xc.recW = none)) ∧
    (∃ (l : Lane) (s : State), (s.sk.st = .service) ∧ (3 ≤ famGet (fun _ => 0) s.xc.absRun (laneNo l)) ∧ (l ∉ s.xc.absRaised)) ∧
    (∃ (s : State) (a : List Byte) (b : List Byte) (w : List Byte), (s.sk.removed = []) ∧ (s.sk.axo = none) ∧ (s.xc.recA = some a) ∧ (s.xc.recB = some b) ∧ (s.xc.recW = some w) ∧ (32 + a.length + b.length < 65536) ∧ (w.length < 65536)) :=
  ⟨⟨later 6000 svc, by decide +kernel⟩,
   ⟨.A, { svc with xc := { svc.xc with absRun := [(0, 3)] } }, by decide +kernel⟩,
   ⟨{ svc with xc := { svc.xc with recA := some [1], recB := some [2, 3], recW := some [4, 5, 6] } }, [1], [2, 3], [4, 5, 6], by decide +kernel⟩⟩

/-- The hypotheses of SafeInputsAndOutputs can be met. -/
theorem test_meets_SafeInputsAndOutputs :
    (∃ (i : Fin 16) (b : Bool) (closed : Bool) (s : State), (s.sk.st = .service) ∧ (b = false)) ∧
    (∃ (i : Fin 16) (b : Bool) (closed : Bool) (s : State), (s.sk.st = .service) ∧ (b = true)) ∧
    (∃ (i : Fin 16) (b : Bool) (closed : Bool) (s : State), (s.sk.st = .service) ∧ ((s.si i.val).state = true)) ∧
    (∃ (i : Fin 16) (b : Bool) (closed : Bool) (s : State), (s.sk.st = .service) ∧ (s.cfgSiRole i.val ≠ 1)) ∧
    (∃ (i : Fin 16) (s : State), (s.sk.st = .park) ∧ (s.fb hibB HIB.WAKECFG_SIWAKE = true) ∧ (s.cfgSiMode i.val = 1) ∧ ((s.si i.val).state = true)) ∧
    (∃ (i : Fin 16) (s : State), (s.sk.st = .service) ∧ (s.cfgSiMode i.val ≠ 0) ∧ ((∃ r, (s.si i.val).disagree = some r ∧ s.past r (s.cfgSiDisc i.val * 10 ^ 6) = true)) ∧ ((s.si i.val).discRaised = false)) ∧
    (∃ (l : Lane) (i : Fin 16) (s : State), (s.sk.st = .service) ∧ ((∃ r, (s.si i.val).diff.lookup l = some r ∧ s.past r (s.cfgSiDisc i.val * 10 ^ 6) = true)) ∧ (l ∉ (s.si i.val).diffRaised)) ∧
    (∃ (i : Fin 16) (s : State), (s.sk.st = .service) ∧ (s.soLevel i.val = true)) ∧
    (∃ (i : Fin 16) (s : State), (s.sk.st = .service) ∧ (s.cfgSoEn i.val = true) ∧ ((s.so i.val).inTest = true) ∧ ((s.so i.val).failed = false) ∧ ((s.so i.val).on = true)) ∧
    (∃ (i : Fin 16) (s : State), ((s.so i.val).inTest = true)) ∧
    (∃ (i : Fin 16) (s : State), (s.sk.st = .service) ∧ (s.cfgSoEn i.val = true) ∧ ((s.so i.val).inTest = false) ∧ ((s.so i.val).failed = false)) ∧
    (∃ (i : Fin 16) (s : State), (s.sk.st = .service) ∧ (s.cfgSoEn i.val = true) ∧ ((s.so i.val).inTest = false) ∧ ((s.so i.val).failed = false)) :=
  ⟨⟨0, false, false, (conf [(0x40, 5)] svc).setSi 0 { a := true, state := true }, by decide +kernel⟩,
   ⟨15, true, true, svc, by decide +kernel⟩,
   ⟨0, false, false, (conf [(0x40, 5)] svc).setSi 0 { a := true, state := true }, by decide +kernel⟩,
   ⟨15, true, true, svc, by decide +kernel⟩,
   ⟨15, (conf [(0x7c, 5)] ((svc.setSt .park).fs hibB HIB.WAKECFG_SIWAKE 1)).setSi 15 { a := true, state := true }, by decide +kernel⟩,
   ⟨0, later 2560000000 ((conf [(0x40, 6)] svc).setSi 0 { a := true, disagree := some 0 }), by decide +kernel⟩,
   ⟨.W, 15, later 2560000000 (svc.setSi 15 { diff := [(.W, 0)] }), by decide +kernel⟩,
   ⟨0, (conf [(0x80, 1)] svc).setSo 0 { req := true, on := true }, by decide +kernel⟩,
   ⟨0, (conf [(0x80, 1)] svc).setSo 0 { req := true, on := true, inTest := true }, by decide +kernel⟩,
   ⟨15, (conf [(0xbc, 1)] svc).setSo 15 { req := true, on := true, inTest := true }, by decide +kernel⟩,
   ⟨0, (conf [(0x80, 1)] svc).setSo 0 { req := true, on := true }, by decide +kernel⟩,
   ⟨0, (conf [(0x80, 1)] svc).setSo 0 { req := true, on := true }, by decide +kernel⟩⟩

/-- The hypotheses of SafeStopEndsInSafeHold can be met. -/
theorem test_meets_SafeStopEndsInSafeHold :
    (∃ (s : State), (s.sk.st = .safeStop) ∧ (s.sf.rampOn = true) ∧ (s.sf.rampDone = false) ∧ (s.rampFull (s.sf.rampJ + 1) = false)) ∧
    (∃ (s : State), (s.sk.st = .safeStop) ∧ (s.sf.rampOn = true) ∧ (s.sf.rampDone = false) ∧ (s.rampFull (s.sf.rampJ + 1) = true) ∧ (s.sk.still = true)) ∧
    (∃ (s : State), (s.sk.st = .safeStop) ∧ (s.sk.stillRun = true) ∧ (s.past s.sk.stillAt (200 * 10 ^ 6) = true) ∧ (s.sf.rampDone = true)) ∧
    (∃ (s : State), (s.sk.st = .service) ∧ (s.sk.stillRun = true) ∧ (s.past s.sk.stillAt (200 * 10 ^ 6) = true)) ∧
    (∃ (s : State), (s.sk.st = .safeStop) ∧ (s.past s.sk.stopAt (s.cfgSsTimeout * 10 ^ 9) = true) ∧ ((s.sk.still = false ∨ s.sf.rampDone = false))) ∧
    (∃ (s : State), (s.sk.st = .safeHold) ∧ ((s.cfgParkEn = false ∨ s.sf.parkOff = true)) ∧ (s.past s.sf.parkAt (500 * 10 ^ 6) = true)) :=
  ⟨⟨conf [(0xc0, 0x0a006432)] { svc.setSt .safeStop with sf := { svc.sf with rampOn := true } }, by decide +kernel⟩,
   ⟨skm (fun k => { k with still := true }) (conf [(0xc0, 0x0a006432)] { svc.setSt .safeStop with sf := { svc.sf with rampOn := true, rampJ := 9 } }), by decide +kernel⟩,
   ⟨later 200000000 (skm (fun k => { k with stillRun := true }) { svc.setSt .safeStop with sf := { svc.sf with rampOn := true, rampDone := true } }), by decide +kernel⟩,
   ⟨later 200000000 (skm (fun k => { k with stillRun := true }) svc), by decide +kernel⟩,
   ⟨svc.setSt .safeStop, by decide +kernel⟩,
   ⟨later 500000000 (svc.setSt .safeHold), by decide +kernel⟩⟩

/-- The hypotheses of StateRequestsActOrAreRefused can be met. -/
theorem test_meets_StateRequestsActOrAreRefused :
    (∃ (n : Nat) (s : State), (s.sk.req = some ⟨1, n⟩) ∧ (s.sk.st = .service) ∧ (s.sk.still = true) ∧ (s.pumpsStopped = true)) ∧
    (∃ (n : Nat) (s : State), (s.sk.req = some ⟨2, n⟩) ∧ (s.sk.st = .safeHold) ∧ (s.sk.still = true) ∧ (s.pumpsStopped = true)) ∧
    (∃ (s : State), (s.sk.req = some ⟨3, 1⟩) ∧ (s.sk.st = .singleA) ∧ (s.sk.still = true) ∧ (s.sk.removed = [.B]) ∧ (s.feedOf .B = true) ∧ ((s.lane .B).broken = false) ∧ ((s.lane .B).attempts < 3)) ∧
    (∃ (n : Nat) (s : State), (s.sk.req = some ⟨4, n⟩) ∧ ((s.sk.st = .safeHold ∨ s.sk.st = .bench)) ∧ (s.sk.locked = false) ∧ ((∀ i, s.cfgSiRole i = 0))) ∧
    (∃ (n : Nat) (s : State), (s.sk.req = some ⟨4, n⟩) ∧ (s.sk.locked = true)) ∧
    (∃ (n : Nat) (s : State), (s.sk.req = some ⟨5, n⟩)) ∧
    (∃ (n : Nat) (s : State), (s.sk.req = some ⟨1, n⟩) ∧ ((s.sk.still = false ∨ s.pumpsStopped = false ∨ s.sk.st = .bench))) :=
  ⟨⟨0, skm (fun k => { k with req := some ⟨1, 0⟩, still := true }) svc, by decide +kernel⟩,
   ⟨0, skm (fun k => { k with st := .safeHold, req := some ⟨2, 0⟩, still := true }) svc, by decide +kernel⟩,
   ⟨skm (fun k => { k with st := .singleA, req := some ⟨3, 1⟩, still := true, removed := [.B] }) (lm .B (fun x => { x with reset := true, attempts := 2 }) svc), by decide +kernel⟩,
   ⟨0, skm (fun k => { k with st := .bench, req := some ⟨4, 0⟩ }) svc, by and_intros <;> first | decide +kernel | (intro i; simp [State.cfgSiRole, State.cfgF, blkField, skm, svc, State.reset])⟩,
   ⟨0, skm (fun k => { k with st := .safeHold, req := some ⟨4, 0⟩, locked := true }) svc, by decide +kernel⟩,
   ⟨0, skm (fun k => { k with req := some ⟨5, 0⟩ }) svc, by decide +kernel⟩,
   ⟨0, skm (fun k => { k with req := some ⟨1, 0⟩ }) svc, by decide +kernel⟩⟩

/-- The hypotheses of SafeDataNeedsTwoEqualCopies can be met. -/
theorem test_meets_SafeDataNeedsTwoEqualCopies :
    (∃ (j : Nat) (q : BitVec 16) (slot : BitVec 10) (sn : BitVec 8) (n : Nat) (crc : Word) (s : State), (s.sk.st = .service) ∧ (s.sk.byFeed = false) ∧ (s.sdFor slot.toNat sn.toNat = [j]) ∧ (n ≤ 64) ∧ ((s.sde j).copyA = []) ∧ ((s.sde j).copyB = []) ∧ (seqAdvances (s.sde j).last q.toNat = true)) ∧
    (∃ (j : Nat) (r : Nat) (q : BitVec 16) (slot : BitVec 10) (sn : BitVec 8) (n : Nat) (crc : Word) (s : State), (s.sk.st = .service) ∧ (s.sk.byFeed = false) ∧ (s.sdFor slot.toNat sn.toNat = [j]) ∧ (n ≤ 64) ∧ ((s.sde j).copyA = [⟨q.toNat, n, crc, r⟩]) ∧ (s.now ≤ r + s.cfgSdWin) ∧ ((s.sde j).copyB = []) ∧ (seqAdvances (s.sde j).last q.toNat = true)) ∧
    (∃ (j : Nat) (r : Nat) (q : BitVec 16) (slot : BitVec 10) (sn : BitVec 8) (n : Nat) (crc : Word) (crc' : Word) (s : State), (s.sk.st = .service) ∧ (s.sk.byFeed = false) ∧ (s.sdFor slot.toNat sn.toNat = [j]) ∧ (n ≤ 64) ∧ ((s.sde j).copyA = [⟨q.toNat, n, crc', r⟩]) ∧ (crc ≠ crc') ∧ (s.now ≤ r + s.cfgSdWin) ∧ ((s.sde j).copyB = []) ∧ (seqAdvances (s.sde j).last q.toNat = true)) ∧
    (∃ (j : Fin 16) (y : SdCopy) (s : State), (s.sk.st = .service) ∧ (j.val < s.cfgSdn) ∧ ((s.sde j.val).copyA = [y]) ∧ ((s.sde j.val).copyB = []) ∧ (y.at_ + s.cfgSdWin < s.now)) ∧
    (∃ (j : Fin 16) (s : State), (s.sk.st = .service) ∧ (j.val < s.cfgSdn)) :=
  ⟨⟨0, 1, 5, 9, 64, 0xabcd, conf [(0xc4, 0x020a01), (0xd0, 0x90005)] svc, by decide +kernel⟩,
   ⟨0, 0, 1, 5, 9, 0, 0xabcd, (conf [(0xc4, 0x020a01), (0xd0, 0x90005)] svc).setSde 0 { copyA := [⟨1, 0, 0xabcd, 0⟩] }, by decide +kernel⟩,
   ⟨0, 0, 1, 5, 9, 0, 0xabcd, 0xabce, (conf [(0xc4, 0x020a01), (0xd0, 0x90005)] svc).setSde 0 { copyA := [⟨1, 0, 0xabce, 0⟩] }, by decide +kernel⟩,
   ⟨15, ⟨1, 0, 0xabce, 0⟩, later 3000000000 ((conf [(0xc4, 0x020a10)] svc).setSde 15 { copyA := [⟨1, 0, 0xabce, 0⟩] }), by decide +kernel⟩,
   ⟨0, conf [(0xc4, 0x020a01)] svc, by decide +kernel⟩⟩

/-- The hypotheses of MonitorsAndPositionHold can be met. -/
theorem test_meets_MonitorsAndPositionHold :
    (∃ (s : State), (s.sk.cmdMon = true) ∧ (s.sk.st.active = true) ∧ (s.cmdAlive = false)) ∧
    (∃ (s : State), (s.cmdAlive = true)) ∧
    (∃ (l : DLane) (n : Fin 6) (s : State), (s.sk.st = .service) ∧ ((∃ r, s.sk.speeding.lookup (dno l, n.val) = some r ∧ s.past r (100 * 10 ^ 6) = true)) ∧ ((dno l, n.val) ∉ s.sk.speedRaised)) ∧
    (∃ (l : DLane) (n : Fin 6) (s : State), ((dno l, n.val) ∈ s.sk.speedRaised)) ∧
    (∃ (h : Fin 2) (code : Fin 8) (j : Nat) (k : Nat) (fwd : Bool) (s : State), (s.sk.st = .safeStop) ∧ ((s.holdReg h.val).engaged = true) ∧ ((s.holdReg h.val).off = false) ∧ (famGet (fun _ => 0) s.sf.hall h.val ≠ code.val) ∧ (hallSector code.val = some k) ∧ ((s.holdReg h.val).sector = some j) ∧ (hallStep j k = some fwd)) ∧
    (∃ (h : Fin 2) (code : Fin 8) (s : State), (s.sk.st = .safeStop) ∧ ((s.holdReg h.val).engaged = true) ∧ ((s.holdReg h.val).off = false) ∧ (famGet (fun _ => 0) s.sf.hall h.val ≠ code.val) ∧ (hallSector code.val = none)) ∧
    (∃ (s : State), (s.sf.regs = [])) ∧
    (∃ (s : State), ((s.holdReg 1).engaged = false) ∧ ((s.holdReg 0).engaged = true) ∧ ((s.holdReg 0).off = true) ∧ (s.cellLogic (s.holdReg 0).lane = true) ∧ (s.vgdOk (s.holdReg 0).lane = true)) ∧
    (∃ (s : State), ((s.holdReg 1).engaged = false) ∧ ((s.holdReg 0).engaged = true) ∧ ((s.holdReg 0).off = false) ∧ ((s.holdReg 0).e = 0) ∧ (s.cellLogic (s.holdReg 0).lane = true) ∧ (s.vgdOk (s.holdReg 0).lane = true) ∧ (s.cfgHoldMotor 0 < 6) ∧ ((s.axis (s.holdReg 0).lane (s.cfgHoldMotor 0)).tripped = false) ∧ ((∀ i < 3, s.cellOk (s.holdReg 0).lane (3 * s.cfgHoldMotor 0 + i) false = true))) :=
  ⟨⟨skm (fun k => { k with cmdMon := true }) svc, by decide +kernel⟩,
   ⟨(conf [(0xc4, 1), (0xd0, 0x1000000)] svc).setSde 0 { alive := true }, by decide +kernel⟩,
   ⟨.B, 5, later 100000000 (skm (fun k => { k with speeding := [((1, 5), 0)] }) svc), by decide +kernel⟩,
   ⟨.B, 5, skm (fun k => { k with speedRaised := [(1, 5)] }) svc, by decide +kernel⟩,
   ⟨0, 1, 0, 1, true, { svc.setSt .safeStop with sf := { svc.sf with regs := [(0, { engaged := true, sector := some 0 })] } }, by decide +kernel⟩,
   ⟨1, 7, conf [(0x10, 0x50)] { svc.setSt .safeStop with sf := { svc.sf with regs := [(1, { engaged := true, sector := some 0 })] } }, by decide +kernel⟩,
   ⟨svc, by decide +kernel⟩,
   ⟨{ svc.setSt .safeStop with sf := { svc.sf with regs := [(0, { engaged := true, off := true })] } }, by decide +kernel⟩,
   ⟨{ svc.setSt .safeStop with sf := { svc.sf with regs := [(0, { engaged := true })] } }, by decide +kernel⟩⟩

/-- The hypotheses of EventsAreEnteredAndEscalate can be met. -/
theorem test_meets_EventsAreEnteredAndEscalate :
    (∃ (l : Lane) (e : Event) (s : State), (s.evq = [e]) ∧ (e.coll = .lane l) ∧ ((s.lane l).reset = false) ∧ (e.restoring = false) ∧ (s.classOf e = 1) ∧ (s.resRemoved e.res = false) ∧ (s.resRestoring e.res = false) ∧ ((s.coll (.lane l)).fault = false) ∧ (((s.coll (.lane l)).src e.src).cls = 0) ∧ (s.tab.open_.length < 64) ∧ ((∀ x ∈ s.tab.open_, x.cls ≠ 1)) ∧ ((s.coll (.lane l)).queue.length < 64)) ∧
    (∃ (l : Lane) (e : Event) (x : TabEntry) (s : State), (s.evq = [e]) ∧ (e.coll = .lane l) ∧ ((s.lane l).reset = false) ∧ (e.restoring = false) ∧ (s.classOf e = 1) ∧ (s.resRemoved e.res = false) ∧ (s.resRestoring e.res = false) ∧ ((s.coll (.lane l)).fault = false) ∧ (((s.coll (.lane l)).src e.src).cls = 0) ∧ (s.tab.open_ = [x]) ∧ (x.cls = 1) ∧ ((x.coll ≠ e.coll ∨ x.src ≠ e.src)) ∧ (s.sk.st = .safeHold) ∧ (resMoves e.res = true)) ∧
    (∃ (l : Lane) (s : State), ((s.lane l).reset = false)) ∧
    (∃ (e : Event) (s : State), ((s.coll e.coll).fault = true)) :=
  ⟨⟨.A, ev 0x40, { svc with evq := [ev 0x40] }, by decide +kernel⟩,
   ⟨.A, ev 0x40, ⟨1, .lane .B, 0x43, 1, false⟩, { svc.setSt .safeHold with evq := [ev 0x40], tab := { svc.tab with open_ := [⟨1, .lane .B, 0x43, 1, false⟩], evidNext := 65535 } }, by decide +kernel⟩,
   ⟨.W, svc, by decide +kernel⟩,
   ⟨ev 0x40, svc.setColl (.lane .A) { fault := true }, by decide +kernel⟩⟩

/-- The hypotheses of ClassDecidesTheReaction can be met. -/
theorem test_meets_ClassDecidesTheReaction :
    (∃ (e : Event) (c : Nat) (s : State), (s.sk.st = .service) ∧ ((c = 3 ∨ c = 4))) ∧
    (∃ (e : Event) (s : State), (s.sk.st = .service) ∧ ((e.res = 2 ∨ e.res = 5 ∨ e.res = 7))) ∧
    (∃ (e : Event) (s : State), (s.sk.st = .service) ∧ (e.res = 3)) ∧
    (∃ (e : Event) (s : State), (s.sk.st = .service) ∧ (e.res = 8)) ∧
    (∃ (e : Event) (s : State), (s.sk.st.degraded = true) ∧ (resMoves e.res = true)) ∧
    (∃ (e : Event) (c : Nat) (s : State), (c ≤ 1)) ∧
    (∃ (l : Lane) (i : Nat) (c : Nat) (s : State), (0 < i) ∧ (i < 512) ∧ (defaultClass (.lane l) i = some c) ∧ (s.reg (fcB l + 0x100 + 4 * (i / 8)) = 0)) :=
  ⟨⟨ev 0x40, 3, gate .A 5 true svc, by decide +kernel⟩,
   ⟨ev 0x40 2, gate .B 0 true svc, by decide +kernel⟩,
   ⟨ev 0x40 3, svc, by decide +kernel⟩,
   ⟨ev 0x40 8, svc, by decide +kernel⟩,
   ⟨ev 0x40 1, gate .A 0 true (svc.setSt .noWitness), by decide +kernel⟩,
   ⟨ev 0x40, 1, svc, by decide +kernel⟩,
   ⟨.A, 0x40, 1, svc, by decide +kernel⟩⟩

/-- The hypotheses of LogIsWrittenClearedAndScanned can be met. -/
theorem test_meets_LogIsWrittenClearedAndScanned :
    (∃ (l : Lane) (it : LogItem) (q : List LogItem) (s : State), ((s.lane l).reset = false) ∧ (s.fb (fcB l) FC.STATUS_LOGREADY = true) ∧ ((s.coll (.lane l)).queue = it :: q) ∧ (it.cls = 1) ∧ (s.fb (erB l) ER.CTRL_EN = false)) ∧
    (∃ (l : Lane) (v : Word) (s : State), (v.getLsbD 0 = true) ∧ (s.sk.st = .bench) ∧ ((s.lane l).reset = false)) ∧
    (∃ (l : Lane) (v : Word) (s : State), (s.sk.st ≠ .bench)) ∧
    (∃ (l : Lane) (s : State), ((s.lane l).reset = false)) ∧
    (∃ (l : Lane) (s : State), ((s.lane l).reset = false) ∧ (s.logOk (laneNo l) 0 = false)) :=
  ⟨⟨.A, logIt, [], (svc.setColl (.lane .A) { queue := [logIt] }).fs (fcB .A) FC.STATUS_LOGREADY 1, by decide +kernel⟩,
   ⟨.A, 1, (svc.setSt .bench).wr8 0 0x13fc0000 7, by decide +kernel⟩,
   ⟨.A, 1, svc, by decide +kernel⟩,
   ⟨.B, svc, by decide +kernel⟩,
   ⟨.B, svc, by decide +kernel⟩⟩

/-- The hypotheses of CollectorRegisterWrites can be met. -/
theorem test_meets_CollectorRegisterWrites :
    (∃ (l : Lane) (i : Fin 16) (b : Nat) (s : State), (b < 32) ∧ ((s.lane l).reset = false) ∧ (((s.coll (.lane l)).src (32 * i.val + b)).cls ≠ 0)) ∧
    (∃ (l : Lane) (i : Fin 16) (b : Nat) (c : Nat) (s : State), (b < 32) ∧ ((s.lane l).reset = false) ∧ (defaultClass (.lane l) (32 * i.val + b) = some c)) ∧
    (∃ (l : Lane) (i : Fin 64) (v : Word) (s : State), ((s.lane l).reset = false) ∧ ((s.lane l).locked = false) ∧ ((∀ j < 8, v.toNat / 16 ^ j % 16 ≤ 5))) ∧
    (∃ (l : Lane) (i : Fin 64) (v : Word) (s : State), ((s.lane l).reset = false) ∧ ((s.lane l).locked = false) ∧ ((∃ j < 8, 5 < v.toNat / 16 ^ j % 16))) ∧
    (∃ (l : Lane) (i : Fin 64) (v : Word) (s : State), ((s.lane l).locked = true)) ∧
    (∃ (v : Word) (s : State), (s.sk.st = .service) ∧ (s.sk.removed = []) ∧ ((∀ l, (s.lane l).reset = false ∧ (s.lane l).broken = false)) ∧ (s.tab.waits = [])) ∧
    (∃ (v : Word) (r : Nat) (x : TabEntry) (s : State), (s.sk.st = .service) ∧ (s.sk.removed = []) ∧ ((∀ l, (s.lane l).reset = false ∧ (s.lane l).broken = false)) ∧ (s.tab.waits = [⟨false, v.toNat % 2 ^ 16, .A, r⟩]) ∧ (s.tab.open_ = [x]) ∧ (x.evid = v.toNat % 2 ^ 16) ∧ (x.coll = .lane .B)) ∧
    (∃ (v : Word) (s : State), (s.sk.st = .bench) ∧ (s.sk.removed = []) ∧ ((s.lane .A).reset = false) ∧ ((s.lane .A).broken = false) ∧ (s.tab.waits = []) ∧ (s.tab.open_ = [])) ∧
    (∃ (v : Word) (c : Nat) (s : State), (s.sk.st = .bench) ∧ (s.sk.removed = []) ∧ ((s.lane .A).reset = false) ∧ ((s.lane .A).broken = false) ∧ (s.tab.waits = []) ∧ (defaultClass .skink (v.toNat % 2 ^ 7) = some c)) ∧
    (∃ (a : AgreeWait) (s : State), (s.tab.waits = [a]) ∧ (s.past a.at_ (10 ^ 6) = true)) :=
  ⟨⟨.A, 2, 0, { svc.setColl (.lane .A) { pend := [(0x40, { cls := 1, evid := 3 })] } with tab := { svc.tab with open_ := [⟨3, .lane .A, 0x40, 1, false⟩] } }, by decide +kernel⟩,
   ⟨.A, 0, 1, 1, svc, by decide +kernel⟩,
   ⟨.A, 63, 0x55555555, svc, by decide +kernel⟩,
   ⟨.A, 63, 0x60000000, svc, by decide +kernel⟩,
   ⟨.A, 0, 0x5, lm .A (fun x => { x with locked := true }) svc, by decide +kernel⟩,
   ⟨5, svc, by and_intros <;> first | decide +kernel | (intro x; cases x <;> decide +kernel) | exact ⟨.A, by decide +kernel⟩ | exact ⟨.B, by decide +kernel⟩⟩,
   ⟨5, 0, ⟨5, .lane .B, 0x40, 2, false⟩, { svc with tab := { svc.tab with waits := [⟨false, 5, .A, 0⟩], open_ := [⟨5, .lane .B, 0x40, 2, false⟩] } }, by and_intros <;> first | decide +kernel | (intro x; cases x <;> decide +kernel) | exact ⟨.A, by decide +kernel⟩ | exact ⟨.B, by decide +kernel⟩⟩,
   ⟨5, svc.setSt .bench, by decide +kernel⟩,
   ⟨0x11, 3, svc.setSt .bench, by decide +kernel⟩,
   ⟨⟨false, 5, .A, 0⟩, { later 1000000 svc with tab := { svc.tab with waits := [⟨false, 5, .A, 0⟩] } }, by decide +kernel⟩⟩

/-- The hypotheses of CellProtectionTurnsGatesOff can be met. -/
theorem test_meets_CellProtectionTurnsGatesOff :
    (∃ (l : DLane) (c : Fin 24) (hs : Bool) (s : State), (s.running l.lane = true) ∧ (s.ownerEn l c.val = true) ∧ (s.gateTurns l c.val hs = true)) ∧
    (∃ (l : DLane) (c : Fin 24) (hs : Bool) (s : State), (s.fb (cellB l c.val) PC.CELL_STATUS_SHORT = true)) ∧
    (∃ (l : DLane) (c : Nat) (src : Nat) (s : State), (c < 24) ∧ ((s.lane l.lane).reset = false) ∧ ((s.cell l c).both = false)) ∧
    (∃ (l : DLane) (c : Nat) (src : Nat) (s : State), ((s.cell l c).both = true)) ∧
    (∃ (l : DLane) (c : Nat) (src : Nat) (hs : Bool) (ls : Bool) (s : State), (c < 24) ∧ (src < 4) ∧ (s.fg (cellB l c) PC.CELL_STATUS_SRC ≠ src) ∧ (0 < s.deadTime l c)) ∧
    (∃ (l : DLane) (c : Fin 24) (hs : Bool) (s : State), (s.running l.lane = true) ∧ (s.ownerEn l c.val = true)) ∧
    (∃ (l : DLane) (s : State), (s.running l.lane = true) ∧ ((s.lane l.lane).vgdUp = true)) ∧
    (∃ (l : DLane) (c : Fin 24) (hs : Bool) (s : State), (s.running l.lane = true)) ∧
    (∃ (l : DLane) (s : State), ((s.lane l.lane).rails = true) ∧ (s.running l.lane = true) ∧ ((s.lane l.lane).vgdHeld = true)) :=
  ⟨⟨.A, 2, true, gate .A 5 true (gate .A 0 false (gate .A 2 true (axs .A 0))), by decide +kernel⟩,
   ⟨.A, 23, true, svc.fs (cellB .A 23) PC.CELL_STATUS_SHORT 1, by decide +kernel⟩,
   ⟨.A, 23, 1, gate .A 23 true svc, by decide +kernel⟩,
   ⟨.A, 23, 1, svc.setCell .A 23 { cmdH := true, cmdL := true }, by decide +kernel⟩,
   ⟨.A, 2, 3, true, false, (gate .A 2 true (axs .A 0)).fs (axB .A 0) AX.PWMCFG_DEADT 10, by decide +kernel⟩,
   ⟨.B, 23, true, gate .B 23 true (svc.fs (ppB .B 1) PP.CTRL_EN 1), by decide +kernel⟩,
   ⟨.B, gate .B 23 true svc, by decide +kernel⟩,
   ⟨.B, 23, false, svc.fs (cellB .B 23) PC.CELL_STATUS_LSUV 1, by decide +kernel⟩,
   ⟨.A, lm .A (fun x => { x with vgdUp := false, vgdHeld := true }) svc, by decide +kernel⟩⟩

/-- The hypotheses of CellWarningsEdgesAndGateLaw can be met. -/
theorem test_meets_CellWarningsEdgesAndGateLaw :
    (∃ (l : DLane) (c : Fin 24) (hs : Bool) (s : State), (s.running l.lane = true) ∧ (s.ownerEn l c.val = true) ∧ (s.gateTurns l c.val hs = false)) ∧
    (∃ (l : DLane) (s : State), (s.running l.lane = true)) ∧
    (∃ (l : DLane) (c : Fin 24) (s : State), (s.running l.lane = true) ∧ (s.ownerEn l c.val = true) ∧ (64 ≤ (s.cell l c.val).limH) ∧ ((s.cell l c.val).atH = false)) ∧
    (∃ (l : DLane) (c : Fin 24) (s : State), ((s.cell l c.val).atH = true) ∧ ((s.cell l c.val).atL = true)) ∧
    (∃ (l : DLane) (c : Fin 24) (ns : Nat) (s : State), (s.running l.lane = true) ∧ (s.ownerEn l c.val = true) ∧ (s.gateTurns l c.val true = true)) ∧
    (∃ (l : DLane) (c : Fin 24) (v : Word) (s : State), (s.running l.lane = true) ∧ ((s.lane l.lane).locked = false) ∧ (pcCfgOk (0x104 + 32 * c.val) v = true)) ∧
    (∃ (l : DLane) (v : Word) (s : State), (s.running l.lane = true) ∧ ((s.lane l.lane).locked = false) ∧ (pcCfgOk 0 v = false)) ∧
    (∃ (code : Nat) (lo : Nat) (hi : Nat) (target : Nat) (band : Nat) (sum : Nat) (num : Nat), (lo ≤ code) ∧ (code ≤ hi) ∧ (num = 0)) ∧
    (∃ (code : Nat) (lo : Nat) (hi : Nat) (target : Nat) (band : Nat) (sum : Nat) (num : Nat), (lo ≤ code) ∧ (code ≤ hi) ∧ (0 < num) ∧ ((target + band + 1) * num ≤ sum)) ∧
    (∃ (code : Nat) (lo : Nat) (hi : Nat) (target : Nat) (band : Nat) (sum : Nat) (num : Nat), (lo ≤ code) ∧ (code ≤ hi) ∧ (0 < num) ∧ (target * num ≤ sum) ∧ (sum ≤ (target + band) * num)) :=
  ⟨⟨.A, 17, true, gate .A 17 false (axs .A 5), by decide +kernel⟩,
   ⟨.A, svc, by decide +kernel⟩,
   ⟨.A, 23, (svc.fs (ppB .A 1) PP.CTRL_EN 1).setCell .A 23 { limH := 64 }, by decide +kernel⟩,
   ⟨.A, 23, svc.setCell .A 23 { atH := true, atL := true }, by decide +kernel⟩,
   ⟨.A, 17, 256, gate .A 17 true (axs .A 5), by decide +kernel⟩,
   ⟨.A, 23, 0x0a001f00, svc, by decide +kernel⟩,
   ⟨.A, 79, svc, by decide +kernel⟩,
   ⟨10, 1, 20, 50, 5, 0, 0, by decide +kernel⟩,
   ⟨10, 1, 20, 50, 5, 56, 1, by decide +kernel⟩,
   ⟨10, 1, 20, 50, 5, 55, 1, by decide +kernel⟩⟩

/-- The hypotheses of AxisRecordsAreAppliedKeptOrDiscarded can be met. -/
theorem test_meets_AxisRecordsAreAppliedKeptOrDiscarded :
    (∃ (l : DLane) (n : Fin 6) (r : OutRec) (s : State), (s.axOn l n.val = true) ∧ ((famGet (fun _ => ({} : BusSt)) s.buses (dno l)).drvQ = [r]) ∧ (r.kind = 1) ∧ (r.index = n.val) ∧ (r.tag < 2 ^ 16) ∧ (recMode r = 3) ∧ (((s.axis l n.val).tagOk = true → older r.tag (s.fg (axB l n.val) AX.STATUS_LASTTAG) = false)) ∧ (s.drvHeld = false) ∧ ((s.axis l n.val).busLow = false)) ∧
    (∃ (l : DLane) (n : Fin 6) (r : OutRec) (s : State), (s.axOn l n.val = true) ∧ ((famGet (fun _ => ({} : BusSt)) s.buses (dno l)).drvQ = [r]) ∧ (r.kind = 1) ∧ (r.index = n.val) ∧ ((s.axis l n.val).tagOk = true) ∧ (older r.tag (s.fg (axB l n.val) AX.STATUS_LASTTAG) = true)) ∧
    (∃ (l : DLane) (n : Fin 6) (r : OutRec) (s : State), (s.axOn l n.val = true) ∧ ((famGet (fun _ => ({} : BusSt)) s.buses (dno l)).drvQ = [r]) ∧ (r.kind = 1) ∧ (r.index = n.val) ∧ (((s.axis l n.val).tagOk = true → older r.tag (s.fg (axB l n.val) AX.STATUS_LASTTAG) = false)) ∧ (s.sk.hold.isSome = true) ∧ ((s.axis l n.val).kept = none)) :=
  ⟨⟨.A, 5, axRec 5 65535 3, drv .A [axRec 5 65535 3] (axs .A 5), by decide +kernel⟩,
   ⟨.A, 0, axRec 0 1 3, drv .A [axRec 0 1 3] ((axs .A 0 { busLow := false, tagOk := true }).fs (axB .A 0) AX.STATUS_LASTTAG 2), by decide +kernel⟩,
   ⟨.B, 5, axRec 5 1 1, skm (fun k => { k with hold := some { left := 2 } }) (drv .B [axRec 5 1 1] (axs .B 5)), by decide +kernel⟩⟩

/-- The hypotheses of ReferencesAndCompareValuesAreBounded can be met. -/
theorem test_meets_ReferencesAndCompareValuesAreBounded :
    (∃ (l : DLane) (n : Nat) (r : OutRec) (s : State), (s.ownShare l n = 0)) ∧
    (∃ (l : DLane) (n : Nat) (r : OutRec) (s : State), (s.cfgMaxSpd n ≠ 0) ∧ (0 < (s.fbu l n).spdVal) ∧ (s.sk.capSpd * s.cfgMaxSpd n * 2 ^ s.fg (fuB l n) FB.SPDCFG_SPDQ < (s.fbu l n).spdVal.natAbs * 100 * 2 ^ 8)) :=
  ⟨⟨.A, 5, axRec 5 1 1, skm (fun k => { k with share := [(5, 0)] }) (axs .A 5), by decide +kernel⟩,
   ⟨.A, 0, axRec 0 1 1, (conf [(0x190, 256)] ((axs .A 0).fs (axB .A 0) AX.ILIM_FULL 100)).setFbu .A 0 { spdVal := 2 ^ 24 * 5 }, by decide +kernel⟩⟩

/-- The hypotheses of DriveUpdateAndCompareEvents can be met. -/
theorem test_meets_DriveUpdateAndCompareEvents :
    (∃ (l : DLane) (n : Fin 8) (ph : Fin 3) (c : Nat) (s : State), (n.val < 6) ∧ (s.axOn l n.val = true) ∧ (pwmCount (s.halfClocks l n.val) true c = true) ∧ (s.axFollows l n.val = true) ∧ ((s.axis l n.val).pwm.live.getD ph.val false = true) ∧ ((s.axis l n.val).pwm.hs.length = 3) ∧ ((s.axis l n.val).pwm.hs.getD ph.val false = false) ∧ ((s.axis l n.val).pwm.cmpV.getD ph.val 0 = c) ∧ (s.heldCell l (3 * n.val + ph.val) = false) ∧ (s.axDrives l n.val = true) ∧ (s.cellOk l (3 * n.val + ph.val) true = true)) ∧
    (∃ (l : DLane) (n : Fin 8) (ph : Fin 3) (c : Nat) (s : State), (n.val < 6) ∧ (s.axFollows l n.val = true) ∧ ((s.axis l n.val).tripped = false) ∧ ((s.axis l n.val).pwm.hs.getD ph.val false = true)) ∧
    (∃ (l : DLane) (n : Fin 8) (ph : Fin 3) (rising : Bool) (c : Nat) (s : State), (n.val < 6) ∧ (s.axOn l n.val = true) ∧ (pwmCount (s.halfClocks l n.val) rising c = true) ∧ (s.axFollows l n.val = false) ∧ (s.heldCell l (3 * n.val + ph.val) = false) ∧ ((s.axis l n.val).tripped = false) ∧ ((s.axis l n.val).pwm.live.length = 3) ∧ (pwmHit rising c ((s.axis l n.val).pwm.cmpV.getD ph.val 0) = true)) ∧
    (∃ (l : DLane) (n : Fin 8) (ph : Fin 3) (rising : Bool) (forming : Bool) (c : Nat) (s : State), (n.val < 6) ∧ (s.axOn l n.val = false)) ∧
    (∃ (l : DLane) (n : Fin 6) (ru : Int) (rv : Int) (rw : Int) (vb : Nat × Nat) (s : State), (s.axOn l n.val = true) ∧ ((s.axis l n.val).upd = 0)) ∧
    (∃ (l : DLane) (n : Fin 6) (ru : Int) (rv : Int) (rw : Int) (vb : Nat × Nat) (s : State), (s.axOn l n.val = true) ∧ ((s.axis l n.val).upd ≠ 0)) ∧
    (∃ (l : DLane) (n : Fin 6) (ru : Int) (rv : Int) (rw : Int) (vb : Nat × Nat) (s : State), (s.axOn l n.val = true) ∧ ((if s.fb (axB l n.val) AX.SENSCFG_BUSSEL then vb.2 else vb.1) < 4 * 2 ^ 12) ∧ (s.sf.regs = [])) :=
  ⟨⟨.A, 5, 2, 7, axs .A 5 { busLow := false, pwm := { rising := true, live := [true, true, true], cmpV := [0, 0, 7] } }, by decide +kernel⟩,
   ⟨.A, 0, 0, 7, axs .A 0 { busLow := false, pwm := { rising := true, live := [true, true, true], hs := [true, false, false] } }, by decide +kernel⟩,
   ⟨.A, 0, 0, true, 7, (axs .A 0 { busLow := false, pwm := { rising := true, live := [true, true, true], hs := [true, false, false] } }).fs (axB .A 0) AX.STATUS_MODE 0, by decide +kernel⟩,
   ⟨.A, 0, 0, true, false, 7, svc, by decide +kernel⟩,
   ⟨.A, 5, 3, 4, 5, (16384, 0), axs .A 5, by decide +kernel⟩,
   ⟨.B, 0, 3, 4, 5, (98304, 0), axs .B 0 { busLow := false, upd := 1 }, by decide +kernel⟩,
   ⟨.A, 0, 3, 4, 5, (16383, 65536), gate .A 2 true (axs .A 0), by decide +kernel⟩⟩

/-- The hypotheses of DriveFaultsAndEnable can be met. -/
theorem test_meets_DriveFaultsAndEnable :
    (∃ (l : DLane) (n : Fin 6) (ph : Fin 3) (rising : Bool) (c : Nat) (uv : Nat) (s : State), (s.axOn l n.val = true) ∧ ((s.axis l n.val).tripped = false) ∧ (pwmCount (s.halfClocks l n.val) rising c = true) ∧ (s.fg (axB l n.val) AX.OCP_THR * 1250 < uv) ∧ ((∀ e, (s.axis l n.val).pwm.edges.getD ph.val none = some e → e + s.fg (axB l n.val) AX.OCP_BLANK ≤ ((s.axis l n.val).pwm.moveTo (s.halfClocks l n.val) rising c).clk))) ∧
    (∃ (l : DLane) (n : Fin 6) (ph : Fin 3) (rising : Bool) (c : Nat) (uv : Nat) (s : State), (uv ≤ s.fg (axB l n.val) AX.OCP_THR * 1250) ∧ ((s.axis l n.val).tripped = false)) ∧
    (∃ (l : DLane) (n : Fin 6) (s : State), (s.axOn l n.val = true) ∧ ((s.axis l n.val).ocOff = false) ∧ (1 ≤ (s.axis l n.val).ocpRun) ∧ (s.fg (axB l n.val) AX.OCP_LIMIT ≤ (s.axis l n.val).ocpRun) ∧ (s.heldCell l (3 * n.val) = false)) ∧
    (∃ (l : DLane) (n : Fin 6) (s : State), (s.axOn l n.val = true) ∧ ((s.axis l n.val).satRun = 64)) ∧
    (∃ (l : DLane) (n : Fin 6) (s : State), (s.axOn l n.val = true) ∧ (s.rngCnt l n.val ∈ (s.axis l n.val).rngRun)) ∧
    (∃ (l : DLane) (n : Fin 6) (s : State), (s.axOn l n.val = true) ∧ (s.fg (axB l n.val) AX.RECCFG_RTMO ≠ 0) ∧ ((s.axis l n.val).since = s.fg (axB l n.val) AX.RECCFG_RTMO)) ∧
    (∃ (l : DLane) (n : Fin 6) (v : Word) (s : State), (s.running l.lane = true) ∧ ((s.lane l.lane).locked = false) ∧ (v.getLsbD 0 = true) ∧ (s.fb (axB l n.val) AX.CTRL_EN = false) ∧ (s.axCfgOk l n.val = true)) ∧
    (∃ (l : DLane) (n : Fin 6) (v : Word) (s : State), (s.running l.lane = true) ∧ ((s.lane l.lane).locked = false) ∧ (v.getLsbD 0 = true) ∧ (s.fb (axB l n.val) AX.CTRL_EN = false) ∧ (s.axCfgOk l n.val = false)) ∧
    (∃ (l : DLane) (n : Fin 6) (v : Word) (s : State), (s.running l.lane = true) ∧ ((s.lane l.lane).locked = false) ∧ (v.getLsbD 0 = true) ∧ (s.fb (axB l n.val) AX.CTRL_EN = true) ∧ (s.axCfgOk l n.val = false)) ∧
    (∃ (l : DLane) (n : Fin 6) (v : Word) (s : State), (s.running l.lane = true) ∧ ((s.lane l.lane).locked = false) ∧ (v.getLsbD 0 = false) ∧ (s.heldCell l (3 * n.val) = false)) ∧
    (∃ (l : DLane) (n : Nat) (s : State), ((s.fg (axB l n) AX.COMM_PP = 0 ∨ s.fg (axB l n) AX.CPR_CPR = 0 ∨ s.fg (axB l n) AX.ISCALE_ISCALE = 0 ∨ s.fg (axB l n) AX.ILIM_WIND = 0 ∨ s.fg (axB l n) AX.ILIM_FULL = 0 ∨ s.fg (axB l n) AX.SENSCFG_OSR < 8 ∨ 256 < s.fg (axB l n) AX.SENSCFG_OSR ∨ s.sk.t < 25 * 2 ^ s.fg (axB l n) AX.PWMCFG_DIV))) :=
  ⟨⟨.A, 5, 2, true, 300, 1000000, gate .A 17 true (axs .A 5), by decide +kernel⟩,
   ⟨.A, 5, 2, true, 300, 5, gate .A 17 true ((axs .A 5).fs (axB .A 5) AX.OCP_THR 1), by decide +kernel⟩,
   ⟨.A, 0, gate .A 0 true ((axs .A 0 { busLow := false, ocpRun := 4 }).fs (axB .A 0) AX.OCP_LIMIT 4), by decide +kernel⟩,
   ⟨.A, 5, axs .A 5 { busLow := false, satRun := 64 }, by decide +kernel⟩,
   ⟨.A, 5, (axs .A 5 { busLow := false, rngRun := [0, 3, 0] }).fs (axB .A 5) AX.SENSCFG_RNGCNT 3, by decide +kernel⟩,
   ⟨.A, 5, (axs .A 5 { busLow := false, since := 9 }).fs (axB .A 5) AX.RECCFG_RTMO 9, by decide +kernel⟩,
   ⟨.A, 5, 1, ((((((svc.fs (axB .A 5) AX.COMM_PP 1).fs (axB .A 5) AX.CPR_CPR 100).fs (axB .A 5) AX.ISCALE_ISCALE 1).fs (axB .A 5) AX.ILIM_WIND 1).fs (axB .A 5) AX.ILIM_FULL 1).fs (axB .A 5) AX.SENSCFG_OSR 8).fs (axB .A 5) AX.PWMCFG_DIV 1, by decide +kernel⟩,
   ⟨.A, 5, 1, svc, by decide +kernel⟩,
   ⟨.A, 5, 1, axs .A 5, by decide +kernel⟩,
   ⟨.A, 5, 0, gate .A 17 true (axs .A 5), by decide +kernel⟩,
   ⟨.A, 5, svc, by decide +kernel⟩⟩

/-- The hypotheses of PositionFollowsEdgesAndIndex can be met. -/
theorem test_meets_PositionFollowsEdgesAndIndex :
    (∃ (l : DLane) (n : Fin 6) (up : Bool) (clock : Nat) (d : Int) (s : State), (s.fbOn l n.val = true) ∧ (s.fb (fuB l n.val) FB.CTRL_QUAD = true) ∧ (s.fb (fuB l n.val) FB.CTRL_PSRC = false) ∧ (d = (if up = s.fb (fuB l n.val) FB.CTRL_DIR then -1 else 1)) ∧ (((s.fbu l n.val).t + d - s.counterOf (fuB l n.val) ((s.fbu l n.val).t + d)).natAbs ≤ 32767) ∧ ((s.fbu l n.val).t = (s.fbu l n.val).pos) ∧ ((s.fbu l n.val).t + d = s.counterOf (fuB l n.val) ((s.fbu l n.val).t + d))) ∧
    (∃ (l : DLane) (n : Fin 6) (up : Bool) (clock : Nat) (d : Int) (s : State), (s.fbOn l n.val = true) ∧ (s.fb (fuB l n.val) FB.CTRL_QUAD = true) ∧ (s.fb (fuB l n.val) FB.CTRL_PSRC = false) ∧ (d = (if up = s.fb (fuB l n.val) FB.CTRL_DIR then -1 else 1)) ∧ (((s.fbu l n.val).t + d - s.counterOf (fuB l n.val) ((s.fbu l n.val).t + d)).natAbs ≤ 32767) ∧ ((s.fbu l n.val).t = (s.fbu l n.val).pos) ∧ ((s.fbu l n.val).t + d ≠ s.counterOf (fuB l n.val) ((s.fbu l n.val).t + d))) ∧
    (∃ (l : DLane) (n : Fin 6) (clock : Nat) (s : State), (s.fbOn l n.val = true) ∧ (s.fb (fuB l n.val) FB.CTRL_QUAD = true) ∧ (s.fb (fuB l n.val) FB.CTRL_PSRC = false) ∧ (s.fb (fuB l n.val) FB.CTRL_DIR = false) ∧ (s.softMin (fuB l n.val) ≤ s.softMax (fuB l n.val)) ∧ ((s.fbu l n.val).t = s.softMax (fuB l n.val) + 32767) ∧ ((s.fbu l n.val).pos = s.softMax (fuB l n.val)) ∧ ((s.fbu l n.val).full = true)) ∧
    (∃ (l : DLane) (n : Fin 6) (clock : Nat) (s : State), (s.fbOn l n.val = true) ∧ (s.fb (fuB l n.val) FB.CTRL_QUAD = true) ∧ (s.fb (fuB l n.val) FB.CTRL_PSRC = false) ∧ (s.fb (fuB l n.val) FB.CTRL_DIR = false) ∧ (s.softMin (fuB l n.val) ≤ s.softMax (fuB l n.val)) ∧ ((s.fbu l n.val).t = s.softMax (fuB l n.val) + 32767) ∧ ((s.fbu l n.val).pos = s.softMax (fuB l n.val)) ∧ ((s.fbu l n.val).full = false)) ∧
    (∃ (l : DLane) (n : Fin 6) (up : Bool) (clock : Nat) (s : State), (s.fbOn l n.val = true) ∧ (s.fb (fuB l n.val) FB.CTRL_QUAD = true)) ∧
    (∃ (l : DLane) (n : Fin 6) (both : Bool) (up : Bool) (clock : Nat) (s : State), (s.fbOn l n.val = false)) ∧
    (∃ (l : DLane) (n : Fin 6) (ba : Fin 4) (rested : Bool) (s : State), (s.fbOn l n.val = true) ∧ (s.fb (fuB l n.val) FB.CTRL_QUAD = true) ∧ (((s.fbu l n.val).idxAny = true → rested = true)) ∧ (s.fb (fuB l n.val) FB.IDXCFG_IDXEN = true) ∧ (s.fb (fuB l n.val) FB.IDXCFG_IDXGATE = false) ∧ (s.fb (fuB l n.val) FB.STATUS_IDXREF = false) ∧ ((s.fbu l n.val).homeSt = 0)) ∧
    (∃ (l : DLane) (n : Fin 6) (ba : Fin 4) (s : State), ((s.fbu l n.val).idxAny = true)) ∧
    (∃ (l : DLane) (n : Fin 6) (ba : Fin 4) (rested : Bool) (r : Int) (sl : Int) (s : State), (s.fbOn l n.val = true) ∧ (((s.fbu l n.val).idxAny = true → rested = true)) ∧ (s.fb (fuB l n.val) FB.CTRL_QUAD = true) ∧ (s.fb (fuB l n.val) FB.IDXCFG_IDXEN = true) ∧ ((s.fb (fuB l n.val) FB.IDXCFG_IDXGATE = true → s.fg (fuB l n.val) FB.IDXCFG_IDXSTATE = ba.val)) ∧ (s.fb (fuB l n.val) FB.STATUS_IDXREF = true) ∧ ((s.fbu l n.val).homeSt = 0) ∧ (s.fg (axB l n.val) AX.CPR_CPR ≠ 0) ∧ (r = ((s.fbu l n.val).pos - (s.fbu l n.val).idxRef) % s.fg (axB l n.val) AX.CPR_CPR) ∧ (sl = (if (s.fg (axB l n.val) AX.CPR_CPR : Int) ≤ 2 * r then r - s.fg (axB l n.val) AX.CPR_CPR else r)) ∧ (sl ≠ 0) ∧ (sl.natAbs ≤ s.fg (fuB l n.val) FB.IDXCFG_SLIPTOL) ∧ (((s.fbu l n.val).t - sl - s.counterOf (fuB l n.val) ((s.fbu l n.val).t - sl)).natAbs ≤ 32767)) ∧
    (∃ (l : DLane) (n : Fin 6) (ba : Fin 4) (rested : Bool) (r : Int) (sl : Int) (s : State), (s.fbOn l n.val = true) ∧ (((s.fbu l n.val).idxAny = true → rested = true)) ∧ (s.fb (fuB l n.val) FB.CTRL_QUAD = true) ∧ (s.fb (fuB l n.val) FB.IDXCFG_IDXEN = true) ∧ ((s.fb (fuB l n.val) FB.IDXCFG_IDXGATE = true → s.fg (fuB l n.val) FB.IDXCFG_IDXSTATE = ba.val)) ∧ (s.fb (fuB l n.val) FB.STATUS_IDXREF = true) ∧ ((s.fbu l n.val).homeSt = 0) ∧ (s.fg (axB l n.val) AX.CPR_CPR ≠ 0) ∧ (r = ((s.fbu l n.val).pos - (s.fbu l n.val).idxRef) % s.fg (axB l n.val) AX.CPR_CPR) ∧ (sl = (if (s.fg (axB l n.val) AX.CPR_CPR : Int) ≤ 2 * r then r - s.fg (axB l n.val) AX.CPR_CPR else r)) ∧ (sl ≠ 0) ∧ (s.fg (fuB l n.val) FB.IDXCFG_SLIPTOL < sl.natAbs)) ∧
    (∃ (l : DLane) (n : Fin 6) (s : State), (s.fbOn l n.val = true) ∧ (s.fb (fuB l n.val) FB.STATUS_IDXREF = true) ∧ ((s.fbu l n.val).missRaised = false) ∧ (s.fg (axB l n.val) AX.CPR_CPR + s.fg (fuB l n.val) FB.IDXCFG_SLIPTOL < ((s.fbu l n.val).t - (s.fbu l n.val).tIdx).natAbs)) :=
  ⟨⟨.A, 5, true, 9, 1, fbs .A 5 { t := 999, pos := 999 }, by decide +kernel⟩,
   ⟨.A, 5, true, 9, 1, fbs .A 5 { t := 1000, pos := 1000 }, by decide +kernel⟩,
   ⟨.B, 0, 9, fbs .B 0 { t := 33767, pos := 1000, full := true }, by decide +kernel⟩,
   ⟨.B, 0, 9, fbs .B 0 { t := 33767, pos := 1000 }, by decide +kernel⟩,
   ⟨.B, 0, true, 9, (fbs .B 0 { t := 5 }).fs (fuB .B 0) FB.STATUS_POSQ 1, by decide +kernel⟩,
   ⟨.B, 0, true, true, 9, svc, by decide +kernel⟩,
   ⟨.B, 0, 3, true, ((fbs .B 0 { t := 5, pos := 5 }).fs (fuB .B 0) FB.IDXCFG_IDXEN 1).fs (fuB .B 0) FB.IDXCFG_IDXGATE 0, by decide +kernel⟩,
   ⟨.B, 0, 3, fbs .B 0 { idxAny := true }, by decide +kernel⟩,
   ⟨.B, 0, 3, false, 97, -3, ((((fbs .B 0 { t := 197, pos := 197 }).fs (fuB .B 0) FB.IDXCFG_IDXEN 1).fs (fuB .B 0) FB.STATUS_IDXREF 1).fs (fuB .B 0) FB.IDXCFG_SLIPTOL 3), by decide +kernel⟩,
   ⟨.B, 0, 3, true, 50, -50, ((((fbs .B 0 { t := 150, pos := 150, idxAny := true }).fs (fuB .B 0) FB.IDXCFG_IDXEN 1).fs (fuB .B 0) FB.STATUS_IDXREF 1).fs (fuB .B 0) FB.IDXCFG_SLIPTOL 3), by decide +kernel⟩,
   ⟨.A, 0, ((fbs .A 0 { t := 104, pos := 104 }).fs (fuB .A 0) FB.STATUS_IDXREF 1).fs (fuB .A 0) FB.IDXCFG_SLIPTOL 3, by decide +kernel⟩⟩

/-- The hypotheses of HomesAndCompareUnits can be met. -/
theorem test_meets_HomesAndCompareUnits :
    (∃ (l : DLane) (n : Fin 6) (s : State), (s.running l.lane = true) ∧ (((((s.fg (fuB l n.val) FB.HOMECYC_HOMECYC : Int) - s.sk.cycle) % 2 ^ 32) = 0 ∨ 2 ^ 31 ≤ (((s.fg (fuB l n.val) FB.HOMECYC_HOMECYC : Int) - s.sk.cycle) % 2 ^ 32)))) ∧
    (∃ (l : DLane) (n : Fin 6) (s : State), (s.running l.lane = true) ∧ (0 < (((s.fg (fuB l n.val) FB.HOMECYC_HOMECYC : Int) - s.sk.cycle) % 2 ^ 32)) ∧ ((((s.fg (fuB l n.val) FB.HOMECYC_HOMECYC : Int) - s.sk.cycle) % 2 ^ 32) < 2 ^ 31)) ∧
    (∃ (l : DLane) (n : Fin 6) (s : State), (s.running l.lane = true)) ∧
    (∃ (l : DLane) (n : Fin 6) (clock : Nat) (s : State), (s.fbOn l n.val = true) ∧ ((s.fbu l n.val).homeSt = 1) ∧ (s.sk.cycle = s.fg (fuB l n.val) FB.HOMECYC_HOMECYC)) ∧
    (∃ (l : DLane) (n : Fin 6) (s : State), (s.fbOn l n.val = true) ∧ ((s.fbu l n.val).homeSt = 2) ∧ ((s.fbu l n.val).homeDue = true) ∧ (s.softMin (fuB l n.val) ≤ s.fi (fuB l n.val) FB.HOMEOFS_HOMEOFS) ∧ (s.fi (fuB l n.val) FB.HOMEOFS_HOMEOFS ≤ s.softMax (fuB l n.val))) ∧
    (∃ (l : DLane) (n : Fin 6) (s : State), (s.fbOn l n.val = true) ∧ ((s.fbu l n.val).homeSt = 2) ∧ (2 * s.fg (axB l n.val) AX.CPR_CPR ≤ (s.fbu l n.val).travel)) ∧
    (∃ (l : DLane) (n : Fin 6) (j : Fin 8) (v : Word) (s : State), (s.running l.lane = true) ∧ (v.getLsbD 3 = true) ∧ (v.toNat % 4 = 1)) ∧
    (∃ (l : DLane) (n : Fin 6) (j : Fin 8) (clock : Nat) (s : State), (s.fbOn l n.val = true) ∧ (s.fb (fuB l n.val) FB.CTRL_QUAD = true) ∧ (s.fb (fuB l n.val) FB.CTRL_PSRC = false) ∧ (s.fb (fuB l n.val) FB.CTRL_DIR = false) ∧ (s.softMin (fuB l n.val) ≤ (s.fbu l n.val).t) ∧ ((s.fbu l n.val).t < s.softMax (fuB l n.val)) ∧ (s.fb (fuB l n.val + 16 * j.val) FB.CMP_CFG_ARM = true) ∧ (s.fg (fuB l n.val + 16 * j.val) FB.CMP_CFG_DIR = 1) ∧ (s.fb (fuB l n.val + 16 * j.val) FB.CMP_CFG_REPEAT = false) ∧ (famGet (fun _ => (0 : Int)) (s.fbu l n.val).cmpAt j.val = (s.fbu l n.val).t + 1) ∧ ((s.fbu l n.val).pos = (s.fbu l n.val).t) ∧ ((∀ i < 8, i ≠ j.val → s.fb (fuB l n.val + 16 * i) FB.CMP_CFG_ARM = false))) :=
  ⟨⟨.A, 0, (skm (fun k => { k with cycle := 5 }) (fbs .A 0)).fs (fuB .A 0) FB.HOMECYC_HOMECYC 5, by decide +kernel⟩,
   ⟨.A, 0, (skm (fun k => { k with cycle := 5 }) (fbs .A 0)).fs (fuB .A 0) FB.HOMECYC_HOMECYC (2 ^ 31 + 4), by decide +kernel⟩,
   ⟨.B, 5, (fbs .B 5 { homeSt := 1 }).fs (fuB .B 5) FB.STATUS_HOMEARM 1, by decide +kernel⟩,
   ⟨.B, 5, 9, (skm (fun k => { k with cycle := 5 }) (fbs .B 5 { homeSt := 1, t := 3 })).fs (fuB .B 5) FB.HOMECYC_HOMECYC 5, by decide +kernel⟩,
   ⟨.B, 5, (fbs .B 5 { homeSt := 2, homeDue := true, t := 3 }).fs (fuB .B 5) FB.HOMEOFS_HOMEOFS 1000, by decide +kernel⟩,
   ⟨.B, 5, fbs .B 5 { homeSt := 2, travel := 200, t := 3 }, by decide +kernel⟩,
   ⟨.B, 5, 7, 9, (svc.fs (fuB .B 5 + 112) FB.CMP_L_VLO 5).fs (fuB .B 5 + 112) FB.CMP_H_VHI 128, by decide +kernel⟩,
   ⟨.B, 5, 7, 9, ((fbs .B 5 { t := 999, pos := 999, cmpAt := [(7, 1000)] }).fs (fuB .B 5 + 112) FB.CMP_CFG_ARM 1).fs (fuB .B 5 + 112) FB.CMP_CFG_DIR 1, by decide +kernel⟩⟩

/-- The hypotheses of HallSerialAndSamplePoint can be met. -/
theorem test_meets_HallSerialAndSamplePoint :
    (∃ (l : DLane) (n : Fin 6) (code : Fin 8) (s : State), (s.fbOn l n.val = true) ∧ (s.fb (fuB l n.val) FB.CTRL_HALL = true) ∧ ((s.fbu l n.val).hall ≠ some code.val) ∧ ((code.val = 0 ∨ code.val = 7))) ∧
    (∃ (l : DLane) (n : Fin 6) (code : Fin 8) (h : Nat) (j : Nat) (k : Nat) (s : State), (s.fbOn l n.val = true) ∧ (s.fb (fuB l n.val) FB.CTRL_HALL = true) ∧ ((s.fbu l n.val).hall = some h) ∧ (hallSector h = some j) ∧ (hallSector code.val = some k) ∧ (j ≠ k) ∧ (hallStep j k = none)) ∧
    (∃ (l : DLane) (n : Fin 6) (data : Word) (st : BitVec 4) (s : State), (s.fbOn l n.val = true) ∧ (s.fg (fuB l n.val) FB.CTRL_SER = 1) ∧ ((s.fbu l n.val).reading = true)) ∧
    (∃ (l : DLane) (n : Fin 6) (data : Word) (st : BitVec 4) (v : Int) (s : State), (s.fbOn l n.val = true) ∧ (s.fg (fuB l n.val) FB.CTRL_SER = 1) ∧ ((s.fbu l n.val).reading = true) ∧ (s.fg (fuB l n.val) FB.SSICFG_STAT = 0) ∧ (s.fb (fuB l n.val) FB.SSICFG_GRAY = false) ∧ (s.fb (fuB l n.val) FB.SSICFG_INIT = false) ∧ ((s.fbu l n.val).vPrev = none) ∧ (v = ((data.toNat % 2 ^ s.fg (fuB l n.val) FB.SSICFG_BITS : Nat) : Int)) ∧ (s.softMin (fuB l n.val) ≤ v) ∧ (v ≤ s.softMax (fuB l n.val)) ∧ (s.fb (fuB l n.val) FB.CTRL_SERABS = true) ∧ (s.fg (fuB l n.val) FB.STATUS_POSQ = 0) ∧ ((s.fbu l n.val).retPend = false)) ∧
    (∃ (l : DLane) (n : Fin 6) (f : SentIn) (clock : Nat) (s : State), (s.fbOn l n.val = true) ∧ (s.fg (fuB l n.val) FB.CTRL_SER = 2) ∧ (s.sentOk (fuB l n.val) (s.fbu l n.val).calPrev f = false)) ∧
    (∃ (l : DLane) (n : Fin 6) (f : SentIn) (clock : Nat) (s : State), (s.fbOn l n.val = true) ∧ (s.fg (fuB l n.val) FB.CTRL_SER = 2) ∧ (s.sentOk (fuB l n.val) (s.fbu l n.val).calPrev f = true) ∧ (s.fb (fuB l n.val) FB.SENTCFG_INIT = false) ∧ ((s.fbu l n.val).vPrev = none) ∧ (s.softMin (fuB l n.val) ≤ 0) ∧ (2 ^ 24 ≤ s.softMax (fuB l n.val)) ∧ (s.fg (fuB l n.val) FB.SENTCFG_PNIB ≤ 6)) ∧
    (∃ (b : Nat) (p : Option Nat) (f : SentIn) (s : State), ((f.crc ≠ sentCrc4 (s.fb b FB.SENTCFG_CRCLEG) f.nibbles ∨ 15 < f.status ∨ (∃ x ∈ f.nibbles, 15 < x) ∨ f.nibbles.length ≠ s.fg b FB.SENTCFG_NIB))) ∧
    (∃ (b : Nat) (f : SentIn) (s : State), (f.crc = sentCrc4 (s.fb b FB.SENTCFG_CRCLEG) f.nibbles) ∧ ((∀ x ∈ f.status :: f.crc :: f.nibbles, x < 16)) ∧ (f.nibbles.length = s.fg b FB.SENTCFG_NIB) ∧ (f.calNs = 14000 * s.fg b FB.SENTCFG_TICK) ∧ (s.fb b FB.SENTCFG_PAUSE = false)) ∧
    (∃ (l : DLane) (n : Fin 6) (s : State), (s.fbOn l n.val = true) ∧ (3 ≤ (s.fbu l n.val).missed) ∧ ((s.fbu l n.val).lostRaised = false)) ∧
    (∃ (l : DLane) (n : Fin 6) (clock : Nat) (s : State), (s.fbOn l n.val = true) ∧ ((s.fbu l n.val).homeSt = 0)) :=
  ⟨⟨.A, 5, 7, ((fbs .A 5 { t := 4 }).fs (fuB .A 5) FB.CTRL_HALL 1), by decide +kernel⟩,
   ⟨.A, 0, 3, 5, 0, 2, ((fbs .A 0 { hall := some 5 }).fs (fuB .A 0) FB.CTRL_HALL 1), by decide +kernel⟩,
   ⟨.A, 0, 3, 5, ((fbs .A 0 { reading := true, t := 7 }).fs (fuB .A 0) FB.CTRL_SER 1), by decide +kernel⟩,
   ⟨.A, 0, 0xfffffc05, 5, 5, ((((fbs .A 0 { reading := true, t := 7 }).fs (fuB .A 0) FB.CTRL_SER 1).fs (fuB .A 0) FB.SSICFG_BITS 10).fs (fuB .A 0) FB.SSICFG_GRAY 0).fs (fuB .A 0) FB.CTRL_SERABS 1, by decide +kernel⟩,
   ⟨.A, 0, { sentF with crc := 13 }, 9, (fbs .A 0 { t := 7 }).fs (fuB .A 0) FB.CTRL_SER 2, by decide +kernel⟩,
   ⟨.A, 0, sentF, 9, ((((((((fbs .A 0 { t := 7 }).fs (fuB .A 0) FB.CTRL_SER 2).fs (fuB .A 0) FB.SENTCFG_NIB 6).fs (fuB .A 0) FB.SENTCFG_PNIB 6).fs (fuB .A 0) FB.SENTCFG_TICK 12).fs (fuB .A 0) FB.SENTCFG_PAUSE 0).fs (fuB .A 0) FB.SENTCFG_INIT 0).fs (fuB .A 0) FB.SOFTMAX_L_LO (2 ^ 24)).fs (fuB .A 0) FB.SOFTMAX_H_HI 0, by decide +kernel⟩,
   ⟨fuB .A 0, none, { sentF with crc := 13 }, svc, by decide +kernel⟩,
   ⟨fuB .A 0, sentF, ((svc.fs (fuB .A 0) FB.SENTCFG_NIB 6).fs (fuB .A 0) FB.SENTCFG_TICK 12).fs (fuB .A 0) FB.SENTCFG_PAUSE 0, by decide +kernel⟩,
   ⟨.A, 5, (fbs .A 5 { missed := 3 }).fs (fuB .A 5) FB.STATUS_POSQ 1, by decide +kernel⟩,
   ⟨.B, 5, 77, (fbs .B 5 { t := 1003, pos := 1000 }).fs (fuB .B 5) FB.STATUS_POSQ 2, by decide +kernel⟩⟩

set_option maxRecDepth 100000 in
/-- The hypotheses of FeedbackEnableReadAndRetention can be met. -/
theorem test_meets_FeedbackEnableReadAndRetention :
    (∃ (l : DLane) (n : Fin 6) (v : Word) (s : State), (s.running l.lane = true) ∧ ((s.lane l.lane).locked = false) ∧ (v.getLsbD 0 = true) ∧ ((s.rowPut l.lane false (0x40200000 + 0x1000 * n.val) v).fbCfgOk l n.val = true) ∧ ((s.rowPut l.lane false (0x40200000 + 0x1000 * n.val) v).fbClaim l n.val = none) ∧ (v.toNat / 2 ^ FB.CTRL_PSRC.lo % 2 = 1)) ∧
    (∃ (l : DLane) (n : Fin 6) (v : Word) (s : State), (s.running l.lane = true) ∧ ((s.lane l.lane).locked = false) ∧ (v.getLsbD 0 = true) ∧ ((s.rowPut l.lane false (0x40200000 + 0x1000 * n.val) v).fbCfgOk l n.val = true) ∧ ((s.rowPut l.lane false (0x40200000 + 0x1000 * n.val) v).fbClaim l n.val = none) ∧ (v.toNat / 2 ^ FB.CTRL_PSRC.lo % 2 = 0) ∧ (s.softMin (fuB l n.val) ≤ 0) ∧ (0 ≤ s.softMax (fuB l n.val)) ∧ ((∀ j < 8, s.fb (fuB l n.val + 16 * j) FB.CMP_CFG_ARM = false))) ∧
    (∃ (l : DLane) (n : Fin 6) (v : Word) (s : State), (s.running l.lane = true) ∧ ((s.lane l.lane).locked = false) ∧ (v.getLsbD 0 = true) ∧ ((s.rowPut l.lane false (0x40200000 + 0x1000 * n.val) v).fbCfgOk l n.val = false)) ∧
    (∃ (l : DLane) (n : Nat) (s : State), (s.fg (fuB l n) FB.CTRL_SER = 3 ∨ s.softMax (fuB l n) < s.softMin (fuB l n) ∨ 24 < s.fg (fuB l n) FB.SPDCFG_SPDQ ∨ (s.fg (fuB l n) FB.CTRL_PSRC = 0 ∧ s.fg (fuB l n) FB.CTRL_QUAD = 0))) ∧
    (∃ (l : DLane) (n : Fin 12) (s : State), (n.val < 6) ∧ (s.running l.lane = true)) ∧
    (∃ (n : Fin 12) (d : DLane) (s : State), (s.running .W = true) ∧ (s.running d.lane = true) ∧ ((d = .A ↔ n.val < 6))) ∧
    (∃ (l : DLane) (n : Fin 6) (s : State), (s.fbOn l n.val = true) ∧ ((s.fbu l n.val).retPend = true) ∧ (s.fb (fuB l n.val) FB.CTRL_HALL = false) ∧ (s.fb (fuB l n.val) FB.CTRL_PSRC = false) ∧ ((s.rd8 (dno l) (retAddr n.val + 7)).getLsbD 0 = true) ∧ (s.retOk l n.val = false)) ∧
    (∃ (l : DLane) (n : Fin 6) (s : State), (s.fbOn l n.val = true) ∧ ((s.fbu l n.val).retPend = true) ∧ (s.fb (fuB l n.val) FB.CTRL_HALL = false) ∧ (s.fb (fuB l n.val) FB.CTRL_PSRC = false) ∧ (s.retOk l n.val = true) ∧ (s.fg (fuB l n.val) FB.STATUS_POSQ = 0)) :=
  ⟨⟨.A, 5, 0x31, ((((fbs .A 5 { t := 6 }).fs (fuB .A 5) FB.CTRL_EN 0).fs (fuB .A 5) FB.SENTCFG_TICK 12).fs (fuB .A 5) FB.SENTCFG_NIB 6).fs (fuB .A 5) FB.SENTCFG_PNIB 3, by decide +kernel⟩,
   ⟨.A, 5, 3, (fbs .A 5 { t := 6 }).fs (fuB .A 5) FB.CTRL_EN 0, by decide +kernel⟩,
   ⟨.A, 5, 1, (fbs .A 5 { t := 6 }).fs (fuB .A 5) FB.CTRL_EN 0, by decide +kernel⟩,
   ⟨.A, 5, (fbs .A 5).fs (fuB .A 5) FB.SPDCFG_SPDQ 25, by decide +kernel⟩,
   ⟨.B, 5, fbs .B 5 { t := -1003 }, by decide +kernel⟩,
   ⟨11, .B, fbs .B 5 { t := -1003 }, by decide +kernel⟩,
   ⟨.A, 0, (fbs .A 0 { t := 7, retPend := true }).wr8 0 (retAddr 0 + 7) 1, by decide +kernel⟩,
   ⟨.A, 0, retained, by decide +kernel⟩⟩

/-- The hypotheses of ProfileCommandsAreStaged can be met. -/
theorem test_meets_ProfileCommandsAreStaged :
    (∃ (l : DLane) (n : Fin 6) (c : Instr) (op : Nat) (s : State), ((c, op) ∈ [(.pgMoveCmd l n, 1), (.pgVelocityCmd l n, 2), (.pgStopCmd l n, 3), (Instr.pgGearCmd l n, 4)]) ∧ (s.running l.lane = true) ∧ (0 < (((s.fg (pgB l n.val) PG.CMDCYC_CMDCYC : Int) - s.sk.cycle) % 2 ^ 32)) ∧ ((((s.fg (pgB l n.val) PG.CMDCYC_CMDCYC : Int) - s.sk.cycle) % 2 ^ 32) < 2 ^ 31)) ∧
    (∃ (l : DLane) (n : Fin 6) (c : Instr) (op : Nat) (s : State), ((c, op) ∈ [(.pgMoveCmd l n, 1), (.pgVelocityCmd l n, 2), (.pgStopCmd l n, 3), (Instr.pgGearCmd l n, 4)]) ∧ (s.running l.lane = true) ∧ (((((s.fg (pgB l n.val) PG.CMDCYC_CMDCYC : Int) - s.sk.cycle) % 2 ^ 32) = 0 ∨ 2 ^ 31 ≤ (((s.fg (pgB l n.val) PG.CMDCYC_CMDCYC : Int) - s.sk.cycle) % 2 ^ 32)))) ∧
    (∃ (l : DLane) (n : Fin 6) (s : State), (s.running l.lane = true) ∧ (0 < ((s.fg (pgB l n.val) PG.CMDCYC_CMDCYC : Int) - s.sk.cycle) % 2 ^ 32) ∧ (((s.fg (pgB l n.val) PG.CMDCYC_CMDCYC : Int) - s.sk.cycle) % 2 ^ 32 < 2 ^ 31)) ∧
    (∃ (l : DLane) (n : Fin 6) (v : Word) (s : State), (s.running l.lane = true) ∧ ((s.lane l.lane).locked = false) ∧ (v.getLsbD 0 = true) ∧ ((s.rowPut l.lane false (0x40140000 + 0x1000 * n.val) v).pgCfgOk l n.val = true)) ∧
    (∃ (l : DLane) (n : Fin 6) (v : Word) (s : State), (s.running l.lane = true) ∧ ((s.lane l.lane).locked = false) ∧ (v.getLsbD 0 = true) ∧ ((s.fg (pgB l n.val) PG.VLIM_LIM = 0 ∨ s.fg (pgB l n.val) PG.ALIM_LIM = 0 ∨ s.fg (pgB l n.val) PG.DLIMAX_LIM < s.fg (pgB l n.val) PG.ALIM_LIM ∨ s.fb (fuB l n.val) FB.CTRL_EN = false))) ∧
    (∃ (l : DLane) (n : Fin 6) (s : State), (s.running l.lane = true)) :=
  ⟨⟨.A, 5, .pgMoveCmd .A 5, 1, svc.fs (pgB .A 5) PG.CMDCYC_CMDCYC (2 ^ 31 - 1), by decide +kernel⟩,
   ⟨.A, 5, .pgMoveCmd .A 5, 1, svc.fs (pgB .A 5) PG.CMDCYC_CMDCYC (2 ^ 31), by decide +kernel⟩,
   ⟨.A, 5, (pgs .A 5 1 { cmd := some (1, 9) }).fs (pgB .A 5) PG.CMDCYC_CMDCYC 9, by decide +kernel⟩,
   ⟨.A, 5, 1, ((pgs .A 5 0).fs (pgB .A 5) PG.VLIM_LIM 1).fs (pgB .A 5) PG.ALIM_LIM 1 |>.fs (pgB .A 5) PG.DLIMAX_LIM 1, by decide +kernel⟩,
   ⟨.A, 5, 1, svc, by decide +kernel⟩,
   ⟨.B, 5, pgs .B 5 1 { p := -5 }, by decide +kernel⟩⟩

/-- The hypotheses of ProfileStepsMoveTheSetPoint can be met. -/
theorem test_meets_ProfileStepsMoveTheSetPoint :
    (∃ (l : DLane) (n : Fin 6) (r : List Byte) (s : State), (s.running l.lane = true) ∧ (s.pgLive l n.val = false) ∧ (s.vecLast.bind vecRef = some r)) ∧
    (∃ (l : DLane) (n : Fin 6) (s : State), (s.pgLive l n.val = true) ∧ (s.fg (pgB l n.val) PG.STATUS_MODE = 1) ∧ ((s.pg l n.val).cmd = none) ∧ (s.fb (pgB l n.val) PG.CTRL_FSTOP = false)) ∧
    (∃ (l : DLane) (n : Fin 6) (s : State), (s.pgLive l n.val = true) ∧ (s.fg (pgB l n.val) PG.STATUS_MODE = 1) ∧ ((s.pg l n.val).cmd = some (1, (s.sk.cycle + 1) % 2 ^ 32)) ∧ (s.fb (pgB l n.val) PG.CTRL_FSTOP = false)) ∧
    (∃ (l : DLane) (n : Fin 6) (s : State), (s.pgLive l n.val = true) ∧ (s.fg (pgB l n.val) PG.STATUS_MODE = 2) ∧ ((s.pg l n.val).op = 1) ∧ ((s.pg l n.val).cmd = none) ∧ (s.fb (pgB l n.val) PG.CTRL_FSTOP = false) ∧ (0 < (s.pg l n.val).t) ∧ (s.pgVeff l n.val s.nextCap = (s.pg l n.val).veff) ∧ ((s.pg l n.val).segs.length ≤ (runPlan (s.pg l n.val).p0 (s.pg l n.val).v0 ((s.pg l n.val).t + (s.sk.t : Rat) / 1000000) (s.pg l n.val).segs 0).2)) ∧
    (∃ (l : DLane) (n : Fin 6) (r : List Byte) (q : Rat) (s : State), (s.pgLive l n.val = true) ∧ (s.fg (pgB l n.val) PG.STATUS_MODE = 5) ∧ ((s.pg l n.val).cmd = none) ∧ (s.fb (pgB l n.val) PG.CTRL_FSTOP = false) ∧ (s.vecLast.bind vecRef = some r) ∧ (recPosq r (s.fg (pgB l n.val) PG.CTRL_MASTER) = 1) ∧ ((s.pg l n.val).breaks = []) ∧ ((s.pg l n.val).ratios = [q])) ∧
    (∃ (l : DLane) (n : Fin 6) (r : List Byte) (s : State), (s.pgLive l n.val = true) ∧ (s.fg (pgB l n.val) PG.STATUS_MODE = 5) ∧ (s.fb (pgB l n.val) PG.CTRL_FSTOP = false) ∧ (s.vecLast.bind vecRef = some r) ∧ (recPosq r (s.fg (pgB l n.val) PG.CTRL_MASTER) ≠ 1)) :=
  ⟨⟨.A, 5, drRec 7 1, withVec (drRec 7 1) svc, by decide +kernel⟩,
   ⟨.A, 5, pgs .A 5 1 { p := 3 }, by decide +kernel⟩,
   ⟨.A, 5, (((pgs .A 5 1 { p := 3, cmd := some (1, 1) }).fs (pgB .A 5) PG.TGT_L_TLO 1001).fs (pgB .A 5) PG.VLIM_LIM 100000).fs (pgB .A 5) PG.ALIM_LIM 100000 |>.fs (pgB .A 5) PG.DLIMAX_LIM 100000, by decide +kernel⟩,
   ⟨.A, 5, pgs .A 5 2 { op := 1, p := 3, goal := 4, v := 1, t := 1/2, segs := [{ dur := 1/2, a := 0 }] }, by decide +kernel⟩,
   ⟨.A, 5, drRec 7 1, 1/2, withVec (drRec 7 1) (pgs .A 5 5 { op := 4, ratios := [1/2], gp0 := 2 }), by decide +kernel⟩,
   ⟨.A, 5, drRec 7 2, withVec (drRec 7 2) (pgs .A 5 5 { op := 4, ratios := [1/2], gp0 := 2 }), by decide +kernel⟩⟩

/-- The hypotheses of CalibrationStepsRun can be met. -/
theorem test_meets_CalibrationStepsRun :
    (∃ (l : DLane) (n : Fin 6) (zero : List (List Int)) (ref : List (List Int)) (s : State), (s.calRuns l n.val = true) ∧ (s.fg (calA l n.val) CAL.MAP_PHASE = 1) ∧ (s.refOver l n.val = true) ∧ ((∀ x ∈ zero ++ ref, x.length = s.calNref l.lane)) ∧ ((∀ m < 4, (s.calRef l.lane (zero.getD m []) (ref.getD m [])).2 = true))) ∧
    (∃ (l : DLane) (n : Fin 6) (z : List Int) (r : List Int) (s : State), (s.calRuns l n.val = true) ∧ (s.fg (calA l n.val) CAL.MAP_PHASE = 2) ∧ (s.refOver l n.val = true) ∧ (z.length = s.calNref l.lane) ∧ (r.length = s.calNref l.lane) ∧ ((s.calRef l.lane z r).2 = true) ∧ ((∀ p ∈ (s.calx l n.val).first, p.1 ≠ s.fg (calA l n.val) CAL.MAP_SPARE))) ∧
    (∃ (l : DLane) (n : Fin 6) (z : List Int) (r : List Int) (s : State), (s.calRuns l n.val = true) ∧ (s.fg (calA l n.val) CAL.MAP_PHASE = 2) ∧ (s.refOver l n.val = true) ∧ (z.length = s.calNref l.lane) ∧ (r.length = s.calNref l.lane) ∧ ((s.calRef l.lane z r).2 = false)) ∧
    (∃ (l : DLane) (n : Fin 6) (z : List Int) (r : List Int) (f : Word) (s : State), (s.calRuns l n.val = true) ∧ (s.fg (calA l n.val) CAL.MAP_PHASE = 2) ∧ (s.refOver l n.val = true) ∧ (z.length = s.calNref l.lane) ∧ (r.length = s.calNref l.lane) ∧ ((s.calx l n.val).first = [(s.fg (calA l n.val) CAL.MAP_SPARE, f)]) ∧ (s.fg (calB l.lane) CAL.DRIFT_ODRIFT < (coefOfs (s.calRef l.lane z r).1 - coefOfs f).natAbs)) ∧
    (∃ (l : DLane) (n : Fin 6) (s : State), (s.calRuns l n.val = true) ∧ (s.fg (calA l n.val) CAL.MAP_PHASE = 4) ∧ ((s.calx l n.val).refDone = true) ∧ ((s.calx l n.val).inStep = true) ∧ (s.calNext l.lane = s.fg (calB l.lane) CAL.CTRL_OVLCYC) ∧ (s.windowDue l n.val 0 = true) ∧ (s.bistIn l.lane 66 = false)) ∧
    (∃ (l : DLane) (n : Fin 6) (z : List Int) (s : State), (s.calRuns l n.val = true) ∧ (s.fg (calA l n.val) CAL.MAP_PHASE = 5) ∧ ((s.calx l n.val).cand = none) ∧ ((s.calx l n.val).cancel = 0) ∧ (z ≠ []) ∧ (z.length = s.fg (calB l.lane) CAL.CFG_OVL) ∧ ((s.calx l n.val).conn + (s.calSettle l.lane + z.length) * s.calTau l.lane + 320 ≤ s.now) ∧ (s.reg (calA l n.val + 0x100 + 4 * s.fg (calA l n.val) CAL.MAP_SPARE) = 0) ∧ (s.reg (calA l n.val + 0x44 + 4 * s.fg (calA l n.val) CAL.MAP_NEXT) = 0) ∧ ((z.foldl max (z.headD 0) - z.foldl min (z.headD 0)) * 2 ^ 8 < s.fg (calB l.lane) CAL.TOL_MINSPAN * s.fg (calB l.lane) CAL.CFG_CALOSR ^ 3) ∧ ((∀ x ∈ z, 320 * |x| ≤ 250 * s.fg (calB l.lane) CAL.CFG_CALOSR ^ 3))) ∧
    (∃ (l : DLane) (n : Fin 6) (z : List Int) (s : State), (s.calRuns l n.val = true) ∧ (s.fg (calA l n.val) CAL.MAP_PHASE = 5) ∧ ((s.calx l n.val).cand = none) ∧ ((s.calx l n.val).cancel = 0) ∧ (z ≠ []) ∧ (z.length = s.fg (calB l.lane) CAL.CFG_OVL) ∧ ((s.calx l n.val).conn + (s.calSettle l.lane + z.length) * s.calTau l.lane + 320 ≤ s.now) ∧ (s.reg (calA l n.val + 0x100 + 4 * s.fg (calA l n.val) CAL.MAP_SPARE) = 0) ∧ (s.reg (calA l n.val + 0x44 + 4 * s.fg (calA l n.val) CAL.MAP_NEXT) = 0) ∧ ((z.foldl max (z.headD 0) - z.foldl min (z.headD 0)) * 2 ^ 8 < s.fg (calB l.lane) CAL.TOL_MINSPAN * s.fg (calB l.lane) CAL.CFG_CALOSR ^ 3) ∧ ((∃ x ∈ z, 250 * s.fg (calB l.lane) CAL.CFG_CALOSR ^ 3 < 320 * |x|))) ∧
    (∃ (l : DLane) (n : Fin 6) (w : Word) (s : State), (s.calRuns l n.val = true) ∧ ((s.calx l n.val).cand = some w) ∧ ((s.calx l n.val).switched = none) ∧ (s.fg (calA l n.val) CAL.MAP_NEXT = 0) ∧ (s.calNext l.lane = 1) ∧ (s.windowDue l n.val (s.windows l n.val - 1) = true)) ∧
    (∃ (l : Lane) (v : Word) (s : State), (s.running l = true) ∧ ((s.lane l).locked = false) ∧ (v.getLsbD 0 = true) ∧ ((s.rowPut l false 0x40800000 v).calCfgOk l = false)) ∧
    (∃ (l : Lane) (v : Word) (s : State), (s.running l = true) ∧ ((s.lane l).locked = false) ∧ (v.getLsbD 0 = true) ∧ ((s.rowPut l false 0x40800000 v).calCfgOk l = true)) ∧
    (∃ (l : DLane) (p : Fin 2) (ph : Fin 3) (high : Bool) (s : State), (s.fb (calB l.lane) CAL.CTRL_PPEN = true) ∧ (s.ppDrives l p.val = true) ∧ (s.ppSwitches l p.val = true) ∧ (s.ppFloats l p.val ph.val = false) ∧ (0 < (s.pp l p.val).pwm.cmpV.getD 0 0) ∧ (s.fg (calB l.lane) CAL.PPCFG_TRIMWIN ≤ (s.pp l p.val).pwm.cmpV.getD 0 0) ∧ ((famGet (fun _ => ({} : TrimSt)) (s.pp l p.val).trims ph.val).n + 1 < 8)) ∧
    (∃ (l : DLane) (p : Fin 2) (ph : Fin 3) (high : Bool) (s : State), (s.fb (calB l.lane) CAL.CTRL_PPEN = true) ∧ (s.ppDrives l p.val = true) ∧ (s.ppSwitches l p.val = true) ∧ (s.ppFloats l p.val ph.val = false) ∧ (0 < (s.pp l p.val).pwm.cmpV.getD 0 0) ∧ (s.fg (calB l.lane) CAL.PPCFG_TRIMWIN ≤ (s.pp l p.val).pwm.cmpV.getD 0 0) ∧ (8 ≤ (famGet (fun _ => ({} : TrimSt)) (s.pp l p.val).trims ph.val).n + 1)) ∧
    (∃ (l : DLane) (p : Fin 2) (ph : Fin 3) (s : State), (s.ppOn l p.val = true) ∧ (s.fb (calB l.lane) CAL.CTRL_PPEN = true) ∧ (s.ppState l p.val = 4) ∧ ((s.fg (calB l.lane + 4 * p.val) CAL.TRIM_STALE).testBit ph.val = false)) :=
  ⟨⟨.A, 5, List.replicate 4 (s8 0), List.replicate 4 (s8 320), calS .A 5 1 0, by decide +kernel⟩,
   ⟨.A, 5, s8 1, s8 321, (calS .A 5 2 0).fs (calA .A 5) CAL.MAP_SPARE 3, by decide +kernel⟩,
   ⟨.A, 5, s8 0, s8 0, (calS .A 5 2 0).fs (calA .A 5) CAL.MAP_SPARE 3, by decide +kernel⟩,
   ⟨.A, 5, s8 3, s8 323, 0, ((calS .A 5 2 0 { first := [(3, 0)] }).fs (calA .A 5) CAL.MAP_SPARE 3).fs (calB .A) CAL.DRIFT_ODRIFT 5, by decide +kernel⟩,
   ⟨.A, 5, ((calS .A 5 4 1 { refDone := true, inStep := true }).fs (calB .A) CAL.CTRL_OVLCYC 3).setAxis .A 5 { busLow := false, upd := 1, updAt := 10000 }, by decide +kernel⟩,
   ⟨.A, 5, [5, 6], (calS .A 5 5 0 { refDone := true, inStep := true }).fs (calB .A) CAL.TOL_MINSPAN 4, by decide +kernel⟩,
   ⟨.A, 5, [500, 501], (calS .A 5 5 0 { refDone := true, inStep := true }).fs (calB .A) CAL.TOL_MINSPAN 4, by decide +kernel⟩,
   ⟨.A, 5, 7, (((calS .A 5 6 3 { cand := some 7 }).fs (calA .A 5) CAL.MAP_SPARE 3).fs (axB .A 5) AX.PWMCFG_DIV 0).setAxis .A 5 { busLow := false, upd := 2, updAt := 10000 }, by decide +kernel⟩,
   ⟨.W, 1, svc, by decide +kernel⟩,
   ⟨.A, 0x30000a01, (((svc.fs (calB .A) CAL.CFG_CALOSR 8).fs (calB .A) CAL.CFG_NREF 1).fs (calB .A) CAL.CFG_OVL 8).fs (calB .A) CAL.CFG_SETTLE 1, by decide +kernel⟩,
   ⟨.A, 1, 1, true, (pps .A 1 4 { busLow := false, trims := [(1, { n := 6, v := 3 })], pwm := { cmpV := [300, 300, 300] } }).fs (calB .A) CAL.CTRL_PPEN 1, by decide +kernel⟩,
   ⟨.A, 1, 1, true, (pps .A 1 4 { busLow := false, trims := [(1, { n := 7, v := 127 })], pwm := { cmpV := [300, 300, 300] } }).fs (calB .A) CAL.CTRL_PPEN 1, by decide +kernel⟩,
   ⟨.B, 1, 2, (pps .B 1 4).fs (calB .B) CAL.CTRL_PPEN 1, by decide +kernel⟩⟩

/-- The hypotheses of PumpRecordsStartAndStopPorts can be met. -/
theorem test_meets_PumpRecordsStartAndStopPorts :
    (∃ (l : DLane) (p : Fin 2) (r : OutRec) (s : State), (s.ppOn l p.val = true) ∧ ((famGet (fun _ => ({} : BusSt)) s.buses (dno l)).drvQ = [r]) ∧ (r.kind = 2) ∧ (r.index = p.val) ∧ (((s.pp l p.val).tagOk = true → older r.tag (s.pp l p.val).tag = false)) ∧ (s.drvHeld = false) ∧ (s.ppState l p.val ≠ 7) ∧ ((r.pay.getD 4 0).toNat / 2 ^ 17 % 8 = 1) ∧ (s.ppState l p.val = 0) ∧ (s.ppStops = false) ∧ (recVal r 0 (s.fg (ppB l p.val) PP.RECCFG_QP) ≠ 0)) ∧
    (∃ (l : DLane) (p : Fin 2) (r : OutRec) (s : State), (s.ppOn l p.val = true) ∧ ((famGet (fun _ => ({} : BusSt)) s.buses (dno l)).drvQ = [r]) ∧ (r.kind = 2) ∧ (r.index = p.val) ∧ (((s.pp l p.val).tagOk = true → older r.tag (s.pp l p.val).tag = false)) ∧ (s.drvHeld = false) ∧ (s.ppState l p.val ≠ 7) ∧ ((r.pay.getD 4 0).toNat / 2 ^ 17 % 8 = 1) ∧ (s.ppState l p.val = 0) ∧ (s.ppStops = true)) ∧
    (∃ (l : DLane) (p : Fin 2) (r : OutRec) (s : State), (s.ppOn l p.val = true) ∧ ((famGet (fun _ => ({} : BusSt)) s.buses (dno l)).drvQ = [r]) ∧ (r.kind = 2) ∧ (r.index = p.val) ∧ (((s.pp l p.val).tagOk = true → older r.tag (s.pp l p.val).tag = false)) ∧ (s.drvHeld = false) ∧ (s.ppState l p.val ≠ 7) ∧ ((r.pay.getD 4 0).toNat / 2 ^ 17 % 8 = 0) ∧ ((∀ ph < 3, (famGet (fun _ => ({} : TrimSt)) (s.pp l p.val).trims ph).res = none))) ∧
    (∃ (l : DLane) (p : Fin 2) (r : OutRec) (s : State), (s.ppOn l p.val = true) ∧ ((famGet (fun _ => ({} : BusSt)) s.buses (dno l)).drvQ = [r]) ∧ (r.kind = 2) ∧ (r.index = p.val) ∧ (((s.pp l p.val).tagOk = true → older r.tag (s.pp l p.val).tag = false)) ∧ (s.drvHeld = false) ∧ (s.ppState l p.val ≠ 7) ∧ (1 < (r.pay.getD 4 0).toNat / 2 ^ 17 % 8)) ∧
    (∃ (l : DLane) (p : Fin 2) (r : OutRec) (s : State), (s.ppOn l p.val = true) ∧ ((famGet (fun _ => ({} : BusSt)) s.buses (dno l)).drvQ = [r]) ∧ (r.kind = 2) ∧ (r.index = p.val) ∧ ((s.pp l p.val).tagOk = true) ∧ (older r.tag (s.pp l p.val).tag = true)) ∧
    (∃ (l : DLane) (p : Fin 2) (r : OutRec) (s : State), (s.ppOn l p.val = true) ∧ ((famGet (fun _ => ({} : BusSt)) s.buses (dno l)).drvQ = [r]) ∧ (r.kind = 2) ∧ (r.index = p.val) ∧ (((s.pp l p.val).tagOk = true → older r.tag (s.pp l p.val).tag = false)) ∧ (s.sk.hold.isSome = true) ∧ (s.ppState l p.val ≠ 7) ∧ ((s.pp l p.val).kept = none)) ∧
    (∃ (l : DLane) (p : Fin 2) (s : State), (s.ppOn l p.val = true) ∧ (s.fg (ppB l p.val) PP.RECCFG_RTMO ≠ 0) ∧ ((s.pp l p.val).since = s.fg (ppB l p.val) PP.RECCFG_RTMO) ∧ (s.ppState l p.val ≠ 7)) ∧
    (∃ (l : DLane) (p : Fin 2) (n : Fin 8) (ph : Fin 3) (rising : Bool) (c : Nat) (s : State), (n.val = 6 + p.val) ∧ (s.ppOn l p.val = true) ∧ (pwmCount (s.ppHalf l p.val) rising c = true) ∧ ((s.pp l p.val).tripped = false) ∧ (s.ppState l p.val = 0) ∧ ((s.pp l p.val).pwm.live.getD ph.val false = true) ∧ (pwmHit rising c ((s.pp l p.val).pwm.cmpV.getD 0 0) = true)) ∧
    (∃ (l : DLane) (p : Fin 2) (v : Word) (s : State), (s.running l.lane = true) ∧ ((s.lane l.lane).locked = false) ∧ (v.getLsbD 0 = true) ∧ (s.fb (ppB l p.val) PP.CTRL_EN = false) ∧ (s.ppCfgOk l p.val = true)) ∧
    (∃ (l : DLane) (p : Fin 2) (v : Word) (s : State), (s.running l.lane = true) ∧ ((s.lane l.lane).locked = false) ∧ (v.getLsbD 0 = true) ∧ (s.fb (ppB l p.val) PP.CTRL_EN = false) ∧ ((s.fg (ppB l p.val) PP.MOTOR_PP = 0 ∨ s.fg (ppB l p.val) PP.MOTOR_KE = 0 ∨ s.fg (ppB l p.val) PP.SPDLIM_MAXSPD = 0 ∨ s.fg (ppB l p.val) PP.SPDLIM_MAXSPD < s.fg (ppB l p.val) PP.SPDLIM_STARTSPD))) :=
  ⟨⟨.A, 1, ppRec 1 65535 1, drv .A [ppRec 1 65535 1] (gate .A 22 true (pps .A 1 0)), by decide +kernel⟩,
   ⟨.A, 1, ppRec 1 65535 1, skm (fun k => { k with st := .safeHold }) (drv .A [ppRec 1 65535 1] (pps .A 1 0)), by decide +kernel⟩,
   ⟨.A, 1, ppRec 1 65535 0, drv .A [ppRec 1 65535 0] (gate .A 22 true (pps .A 1 4)), by decide +kernel⟩,
   ⟨.A, 1, ppRec 1 65535 2, drv .A [ppRec 1 65535 2] (gate .A 22 true (pps .A 1 4)), by decide +kernel⟩,
   ⟨.A, 1, ppRec 1 3 1, drv .A [ppRec 1 3 1] (pps .A 1 4 { tagOk := true, tag := 4 }), by decide +kernel⟩,
   ⟨.A, 1, ppRec 1 3 1, skm (fun k => { k with hold := some { left := 1 } }) (drv .A [ppRec 1 3 1] (pps .A 1 4)), by decide +kernel⟩,
   ⟨.B, 1, gate .B 21 false ((pps .B 1 4 { since := 7 }).fs (ppB .B 1) PP.RECCFG_RTMO 7), by decide +kernel⟩,
   ⟨.B, 1, 7, 2, true, 5, pps .B 1 0 { pwm := { live := [false, false, true] } }, by decide +kernel⟩,
   ⟨.B, 1, 1, ((((svc.fs (ppB .B 1) PP.MOTOR_PP 1).fs (ppB .B 1) PP.MOTOR_KE 1).fs (ppB .B 1) PP.SPDLIM_MAXSPD 1).fs (ppB .B 1) PP.SPDLIM_STARTSPD 1).fs (ppB .B 1) PP.PWMCFG_DIV 1, by decide +kernel⟩,
   ⟨.B, 1, 1, svc, by decide +kernel⟩⟩

/-- The hypotheses of PumpStartsTryAgainAndGiveUp can be met. -/
theorem test_meets_PumpStartsTryAgainAndGiveUp :
    (∃ (l : DLane) (p : Fin 2) (s : State), (s.ppOn l p.val = true) ∧ (s.ppState l p.val = 1) ∧ ((s.pp l p.val).sync = none)) ∧
    (∃ (l : DLane) (p : Fin 2) (s : State), (s.ppOn l p.val = true) ∧ (s.ppState l p.val = 6)) ∧
    (∃ (l : DLane) (p : Fin 2) (s : State), (s.ppOn l p.val = true) ∧ ((s.pp l p.val).coast = true) ∧ ((s.pp l p.val).retry = false)) ∧
    (∃ (l : DLane) (p : Fin 2) (s : State), (s.ppOn l p.val = true) ∧ ((s.pp l p.val).coast = true) ∧ ((s.pp l p.val).retry = true)) ∧
    (∃ (l : DLane) (p : Fin 2) (at_ : Nat) (s : State), (s.ppOn l p.val = true) ∧ (s.ppState l p.val = 2)) ∧
    (∃ (l : DLane) (p : Fin 2) (s : State), (s.ppOn l p.val = true) ∧ (s.ppState l p.val = 3) ∧ ((s.pp l p.val).coast = false) ∧ ((s.pp l p.val).retry = false) ∧ ((s.pp l p.val).fails < 2) ∧ ((∀ ph < 3, (famGet (fun _ => ({} : TrimSt)) (s.pp l p.val).trims ph).res = none))) ∧
    (∃ (l : DLane) (p : Fin 2) (s : State), (s.ppOn l p.val = true) ∧ (s.ppState l p.val = 3) ∧ ((s.pp l p.val).coast = false) ∧ ((s.pp l p.val).retry = false) ∧ (2 ≤ (s.pp l p.val).fails)) ∧
    (∃ (l : DLane) (p : Fin 2) (s : State), (s.ppOn l p.val = true) ∧ (s.ppState l p.val = 3) ∧ ((s.pp l p.val).coast = false) ∧ ((s.pp l p.val).retry = true) ∧ (2 ≤ (s.pp l p.val).fails)) ∧
    (∃ (l : DLane) (p : Fin 2) (s : State), (s.ppOn l p.val = true) ∧ ((s.ppState l p.val = 0 ∨ s.ppState l p.val = 7))) :=
  ⟨⟨.A, 1, (pps .A 1 1 { sref := -5 }).fs (ppB .A 1) PP.START_ALIGNDUTY 50, by decide +kernel⟩,
   ⟨.A, 1, pps .A 1 6, by decide +kernel⟩,
   ⟨.A, 0, pps .A 0 3 { coast := true }, by decide +kernel⟩,
   ⟨.A, 0, gate .A 18 true (pps .A 0 3 { coast := true, retry := true }), by decide +kernel⟩,
   ⟨.A, 0, 77, (pps .A 0 2).fs (ppB .A 0) PP.STATUS_DIR 1, by decide +kernel⟩,
   ⟨.A, 0, gate .A 18 true (pps .A 0 3 { fails := 1 }), by decide +kernel⟩,
   ⟨.A, 0, gate .A 18 true (pps .A 0 3 { fails := 2 }), by decide +kernel⟩,
   ⟨.A, 0, gate .A 18 true (pps .A 0 3 { retry := true, fails := 2 }), by decide +kernel⟩,
   ⟨.A, 0, pps .A 0 0, by decide +kernel⟩⟩

/-- The hypotheses of PumpRunsByItsCrossings can be met. -/
theorem test_meets_PumpRunsByItsCrossings :
    (∃ (l : DLane) (p : Fin 2) (ph : Fin 3) (tm : Nat) (epk : Nat) (z : Nat) (vbus : Nat × Nat) (s : State), (s.ppOn l p.val = true) ∧ (s.ppState l p.val = 4) ∧ (s.ppAllOff l p.val = false) ∧ (tm < s.ppDue l p.val) ∧ ((s.pp l p.val).got = false) ∧ (ph.val = stepFloat (s.fg (ppB l p.val) PP.STATUS_STEP)) ∧ ((s.pp l p.val).com < tm) ∧ ((s.pp l p.val).iv1 + (s.pp l p.val).iv2 ≤ 16 * (tm - (s.pp l p.val).com)) ∧ (s.fg (ppB l p.val) PP.PWMCFG_SFILT = 0) ∧ ((s.pp l p.val).run = 0) ∧ ((s.pp l p.val).zc = some z) ∧ ((s.pp l p.val).iv1 ≠ 0)) ∧
    (∃ (l : DLane) (p : Fin 2) (tm : Nat) (s : State), (s.ppOn l p.val = true) ∧ ((s.pp l p.val).busLow = false) ∧ (s.ppState l p.val = 4) ∧ (s.ppDue l p.val ≤ tm) ∧ ((s.pp l p.val).got = true)) ∧
    (∃ (l : DLane) (p : Fin 2) (tm : Nat) (s : State), (s.ppOn l p.val = true) ∧ ((s.pp l p.val).busLow = false) ∧ (s.ppState l p.val = 4) ∧ (s.ppDue l p.val ≤ tm) ∧ ((s.pp l p.val).got = false) ∧ ((s.pp l p.val).misses = 0)) ∧
    (∃ (l : DLane) (p : Fin 2) (tm : Nat) (s : State), (s.ppOn l p.val = true) ∧ ((s.pp l p.val).busLow = false) ∧ (s.ppState l p.val = 4) ∧ (s.ppDue l p.val ≤ tm) ∧ ((s.pp l p.val).got = false) ∧ ((s.pp l p.val).misses = 1)) ∧
    (∃ (l : DLane) (p : Fin 2) (rising : Bool) (c : Nat) (uv : Nat) (s : State), (s.ppOn l p.val = true) ∧ (pwmCount (s.ppHalf l p.val) rising c = true) ∧ (s.ppSwitches l p.val = true) ∧ ((s.pp l p.val).busLow = false) ∧ (((s.ppTurn l p.val rising c).pp l p.val).tripped = false) ∧ ((s.ppTurn l p.val rising c).ppBlanked l p.val ((s.ppTurn l p.val rising c).pp l p.val).pwm.clk = false) ∧ (s.fg (ppB l p.val) PP.ILIM_THR * 1250 < uv)) ∧
    (∃ (l : DLane) (p : Fin 2) (s : State), (s.ppOn l p.val = true) ∧ ((s.pp l p.val).ilimRaised = false) ∧ (s.ppLasts l p.val ((s.pp l p.val).ilimRun + if (s.pp l p.val).tripped then 1 else 0) 100000 = true)) ∧
    (∃ (l : DLane) (p : Fin 2) (s : State), (s.ppOn l p.val = true) ∧ (s.fb (ppB l p.val) PP.STATUS_BUSHOLD = true) ∧ (s.ppLasts l p.val (s.pp l p.val).holdRun 500000 = true) ∧ ((s.pp l p.val).holdRaised = false)) ∧
    (∃ (l : DLane) (p : Fin 2) (vbus : Nat × Nat) (s : State), (s.ppOn l p.val = true) ∧ (s.ppState l p.val = 4) ∧ (4 * 2 ^ 12 ≤ s.ppBus l p.val vbus) ∧ ((s.pp l p.val).busLow = false)) ∧
    (∃ (l : DLane) (p : Fin 2) (vbus : Nat × Nat) (s : State), (s.ppOn l p.val = true) ∧ (s.ppBus l p.val vbus < 4 * 2 ^ 12) ∧ ((∀ ph < 3, (famGet (fun _ => ({} : TrimSt)) (s.pp l p.val).trims ph).res = none))) :=
  ⟨⟨.A, 0, 2, 600, 500, 400, (98304, 0), gate .A 18 true ((pps .A 0 4 { busLow := false, zc := some 400, iv1 := 80, iv2 := 80, com := 560 }).fs (ppB .A 0) PP.PWMCFG_SFILT 0), by decide +kernel⟩,
   ⟨.A, 1, 1000, pps .A 1 4 { got := true, busLow := false }, by decide +kernel⟩,
   ⟨.A, 1, 1000, pps .A 1 4 { busLow := false }, by decide +kernel⟩,
   ⟨.A, 1, 1000, gate .A 21 true (pps .A 1 4 { busLow := false, misses := 1 }), by decide +kernel⟩,
   ⟨.A, 1, true, 5, 2000000, gate .A 23 true (pps .A 1 4 { busLow := false }), by decide +kernel⟩,
   ⟨.A, 1, pps .A 1 4 { ilimRun := 100000 }, by decide +kernel⟩,
   ⟨.A, 1, (pps .A 1 4 { holdRun := 100000 }).fs (ppB .A 1) PP.STATUS_BUSHOLD 1, by decide +kernel⟩,
   ⟨.A, 1, 16384, pps .A 1 4 { busLow := false, sref := 2 ^ 70, ref := 2 ^ 70, int := 2 ^ 70, dlim := 60000 }, by decide +kernel⟩,
   ⟨.A, 1, 16383, gate .A 21 true (pps .A 1 4 { busLow := false }), by decide +kernel⟩⟩

/-- The hypotheses of RecordsAreComparedInPairs can be met. -/
theorem test_meets_RecordsAreComparedInPairs :
    (∃ (l : DLane) (b : BusRec) (x : Bool) (y : Bool) (s : State), (s.sk.st = .service) ∧ (s.cmp.stopped = false) ∧ ((famGet (fun _ => ({} : BusSt)) s.buses (dno l)).skQ = [b]) ∧ (s.cmpStale b.r.tag = false) ∧ (s.cmp.closed = []) ∧ (s.cmp.pend = [])) ∧
    (∃ (a : BusRec) (b : BusRec) (n : Nat) (w : Nat) (s : State), (s.sk.st = .service) ∧ (s.cmp.stopped = false) ∧ ((famGet (fun _ => ({} : BusSt)) s.buses 1).skQ = [b]) ∧ (s.cmpStale b.r.tag = false) ∧ (s.cmp.closed = []) ∧ (s.cmp.pend = [⟨.A, n, a, w⟩]) ∧ (s.keyCount .B b.r = n) ∧ (a.r = b.r) ∧ (b.r.kind = 2) ∧ (s.cmp.inj = none) ∧ (s.cmp.held = [⟨2, b.r.index⟩])) ∧
    (∃ (a : BusRec) (b : BusRec) (n : Nat) (w : Nat) (s : State), (s.sk.st = .service) ∧ (s.cmp.stopped = false) ∧ (s.sk.axo = none) ∧ ((famGet (fun _ => ({} : BusSt)) s.buses 1).skQ = [b]) ∧ (s.cmpStale b.r.tag = false) ∧ (s.cmp.closed = []) ∧ (s.cmp.pend = [⟨.A, n, a, w⟩]) ∧ (s.keyCount .B b.r = n) ∧ (a.r.kind = 1) ∧ (b.r.kind = 1) ∧ (a.r.index = b.r.index) ∧ (b.r.index < 6) ∧ (a.r.tag = b.r.tag) ∧ (a.r.pay ≠ b.r.pay) ∧ (s.cmp.inj = none) ∧ (s.cmp.votes = []) ∧ (s.sk.hold = none) ∧ (s.cmp.held = []) ∧ (s.cmp.decisions = []) ∧ (s.classNow .skink 0x30 = 2)) ∧
    (∃ (x : Decision) (a : OutRec) (b : OutRec) (w : BusRec) (s : State), ((famGet (fun _ => ({} : BusSt)) s.buses 2).skQ = [w]) ∧ (s.cmp.frozen = false) ∧ (s.cmp.rearm = false) ∧ (s.isRemoved .W = false) ∧ (s.tagAge w.r.tag < 64) ∧ (s.cmp.votes = []) ∧ (s.sk.st = .service) ∧ (s.sk.axo = none) ∧ (s.cmp.decisions = [x]) ∧ (x.what = .mismatch) ∧ (x.recA = some a) ∧ (x.recB = some b) ∧ (x.n = 0) ∧ (x.kind = w.r.kind) ∧ (x.index = w.r.index) ∧ (x.tag = w.r.tag) ∧ (a = w.r) ∧ (b.pay ≠ w.r.pay)) ∧
    (∃ (p : CmpPend) (tag : BitVec 16) (s : State), (s.sk.st = .noWitness) ∧ (s.sk.axo = none) ∧ (s.cmp.pend = [p]) ∧ (p.b.r.kind = 1) ∧ (p.b.r.tag = tag.toNat) ∧ (s.windowOver p.at_ = true) ∧ (s.cmp.held = [])) ∧
    (∃ (l : DLane) (b : BusRec) (x : Bool) (y : Bool) (s : State), (s.sk.st = .service) ∧ (s.cmp.stopped = false) ∧ ((famGet (fun _ => ({} : BusSt)) s.buses (dno l)).skQ = [b]) ∧ (s.cmpStale b.r.tag = true)) ∧
    (∃ (l : DLane) (b : BusRec) (x : Bool) (y : Bool) (s : State), (s.sk.st = .service) ∧ (s.cmp.stopped = false) ∧ ((famGet (fun _ => ({} : BusSt)) s.buses (dno l)).skQ = [b]) ∧ (s.cmpStale b.r.tag = false) ∧ (s.cmp.closed = []) ∧ (64 ≤ s.cmp.pend.length) ∧ ((∀ p ∈ s.cmp.pend, p.lane = l))) :=
  ⟨⟨.B, { r := oneRec }, true, false, skQ .B { r := oneRec } svc, by decide +kernel⟩,
   ⟨{ r := oneRec }, { r := oneRec }, 0, 0, skQ .B { r := oneRec } (cmpm (fun c => { c with pend := [⟨.A, 0, { r := oneRec }, 0⟩], held := [⟨2, 0⟩] }) svc), by decide +kernel⟩,
   ⟨{ r := axR }, { r := axR 6 }, 0, 0, gate .A 1 true (skQ .B { r := axR 6 } (cmpm (fun c => { c with pend := [⟨.A, 0, { r := axR }, 0⟩] }) svc)), by decide +kernel⟩,
   ⟨misD axR (axR 6), axR, axR 6, { r := axR }, skQ .W { r := axR } (cmpm (fun c => { c with decisions := [misD axR (axR 6)] }) (skm (fun k => { k with cycle := 66 }) svc)), by decide +kernel⟩,
   ⟨⟨.A, 0, { r := axR }, 0⟩, 3, later 1000000 (cmpm (fun c => { c with pend := [⟨.A, 0, { r := axR }, 0⟩] }) (svc.setSt .noWitness)), by decide +kernel⟩,
   ⟨.A, { r := { oneRec with tag := 65472 } }, true, true, skQ .A { r := { oneRec with tag := 65472 } } svc, by decide +kernel⟩,
   ⟨.A, { r := oneRec }, false, false, skQ .A { r := oneRec } (cmpm (fun c => { c with pend := List.replicate 64 ⟨.A, 0, { r := axR }, 0⟩ }) svc), by decide +kernel⟩⟩

/-- The hypotheses of ComparatorTestsAndDebug can be met. -/
theorem test_meets_ComparatorTestsAndDebug :
    (∃ (s : State), (s.sk.cfg ≠ [])) ∧
    (∃ (d : InjDue) (s : State), (s.cmp.inj = some d) ∧ (1000 ≤ s.cyclesPast d.cycle)) ∧
    (∃ (l : DLane) (k : Nat) (i : Nat) (n : Fin 72) (s : State), (s.sk.targeted = some (l.lane, k, i)) ∧ (s.isRemoved l.lane = true) ∧ (n.val ∈ targetSlices k i)) ∧
    (∃ (l : DLane) (k : Nat) (i : Nat) (s : State), (s.sk.targeted = some (l.lane, k, i)) ∧ (s.isRemoved l.lane = true)) ∧
    (∃ (l : DLane) (k : Nat) (i : Nat) (n : Fin 72) (s : State), (s.sk.targeted = some (l.lane, k, i)) ∧ (s.isRemoved l.lane = false) ∧ (s.running l.lane = true) ∧ (n.val ∈ targetSlices k i)) ∧
    (∃ (l : Lane) (s : State), (s.running l = true) ∧ (s.sk.st = .bench)) ∧
    (∃ (l : Lane) (s : State), (s.running l = true) ∧ (s.sk.st ≠ .bench)) ∧
    (∃ (l : Lane) (s : State), (s.running l = true)) :=
  ⟨⟨conf [] svc, by decide +kernel⟩,
   ⟨⟨5⟩, cmpm (fun c => { c with inj := some ⟨5⟩ }) svc, by decide +kernel⟩,
   ⟨.A, 1, 0, 45, gate .A 23 true (skm (fun k => { k with targeted := some (.A, 1, 0), removed := [.A], st := .singleB }) svc), by decide +kernel⟩,
   ⟨.B, 16, 0, gate .B 23 true (skm (fun k => { k with targeted := some (.B, 16, 0), removed := [.B], st := .singleA }) svc), by decide +kernel⟩,
   ⟨.B, 16, 0, 44, skm (fun k => { k with targeted := some (.B, 16, 0), removed := [.A], st := .singleB }) svc, by decide +kernel⟩,
   ⟨.B, gate .B 7 false (svc.setSt .bench), by decide +kernel⟩,
   ⟨.W, svc, by decide +kernel⟩,
   ⟨.W, svc, by decide +kernel⟩⟩

/-- The hypotheses of CheckpointsJudgeTheLanes can be met. -/
theorem test_meets_CheckpointsJudgeTheLanes :
    (∃ (l : Lane) (v : Word) (s : State), (s.running l = true) ∧ (v.getLsbD 16 = true) ∧ (s.fb (ckptB l) CKPT.STATUS_BUSY = false) ∧ (s.fb (ckptB l) CKPT.CTRL_EN = true)) ∧
    (∃ (l : Lane) (v : Word) (s : State), (s.running l = true) ∧ (v.getLsbD 16 = true) ∧ ((s.fb (ckptB l) CKPT.STATUS_BUSY = true ∨ s.fb (ckptB l) CKPT.CTRL_EN = false))) ∧
    (∃ (l : Lane) (v : Word) (s : State), (s.running l = true) ∧ (v.getLsbD 17 = true) ∧ (s.inTransfer = false)) ∧
    (∃ (l : Lane) (v : Word) (s : State) (x : _), (s.running l = true) ∧ (v.getLsbD 17 = true) ∧ (s.inTransfer = true) ∧ (s.sk.axo = some x) ∧ (x.survivor = l) ∧ (s.fb (ckptB l) CKPT.STATUS_BUSY = false) ∧ (s.fb (ckptB l) CKPT.CTRL_EN = true)) ∧
    (∃ (k : CkptOpen) (a : Word) (b : Word) (s : State), (s.running .W = true) ∧ (s.fb (ckptB .W) CKPT.STATUS_BUSY = true) ∧ (s.bistIn .W 44 = false) ∧ (s.sk.axo = none) ∧ (s.sk.st = .service) ∧ (s.sk.removed = []) ∧ (s.cmp.ckpts = [k]) ∧ (k.cycle % 65536 = (s.lane .W).ckTag) ∧ (k.done = false) ∧ (k.sigA = some a) ∧ (k.sigB = some b) ∧ (a = b) ∧ (b = (crc32 (s.regionBytes .W)))) ∧
    (∃ (k : CkptOpen) (a : Word) (b : Word) (s : State), (s.running .W = true) ∧ (s.fb (ckptB .W) CKPT.STATUS_BUSY = true) ∧ (s.bistIn .W 44 = false) ∧ (s.sk.axo = none) ∧ (s.sk.st = .service) ∧ (s.sk.removed = []) ∧ (s.cmp.ckpts = [k]) ∧ (k.cycle % 65536 = (s.lane .W).ckTag) ∧ (k.done = false) ∧ (k.sigA = some a) ∧ (k.sigB = some b) ∧ (a = b) ∧ (b ≠ (crc32 (s.regionBytes .W)))) ∧
    (∃ (k : CkptOpen) (a : Word) (b : Word) (s : State), (s.running .W = true) ∧ (s.fb (ckptB .W) CKPT.STATUS_BUSY = true) ∧ (s.bistIn .W 44 = false) ∧ (s.sk.axo = none) ∧ (s.sk.st = .service) ∧ (s.sk.removed = []) ∧ (s.cmp.ckpts = [k]) ∧ (k.cycle % 65536 = (s.lane .W).ckTag) ∧ (k.done = false) ∧ (k.sigA = some a) ∧ (k.sigB = some b) ∧ (a ≠ b) ∧ ((crc32 (s.regionBytes .W)) = a)) ∧
    (∃ (k : CkptOpen) (a : Word) (b : Word) (s : State), (s.running .W = true) ∧ (s.fb (ckptB .W) CKPT.STATUS_BUSY = true) ∧ (s.bistIn .W 44 = false) ∧ (s.sk.axo = none) ∧ (s.sk.st = .service) ∧ (s.sk.removed = []) ∧ (s.cmp.ckpts = [k]) ∧ (k.cycle % 65536 = (s.lane .W).ckTag) ∧ (k.done = false) ∧ (k.sigA = some a) ∧ (k.sigB = some b) ∧ (a ≠ b) ∧ ((crc32 (s.regionBytes .W)) = b)) ∧
    (∃ (k : CkptOpen) (a : Word) (b : Word) (s : State), (s.running .W = true) ∧ (s.fb (ckptB .W) CKPT.STATUS_BUSY = true) ∧ (s.bistIn .W 44 = false) ∧ (s.sk.axo = none) ∧ (s.sk.st = .service) ∧ (s.sk.removed = []) ∧ (s.cmp.ckpts = [k]) ∧ (k.cycle % 65536 = (s.lane .W).ckTag) ∧ (k.done = false) ∧ (k.sigA = some a) ∧ (k.sigB = some b) ∧ (a ≠ b) ∧ ((crc32 (s.regionBytes .W)) ≠ a) ∧ ((crc32 (s.regionBytes .W)) ≠ b)) ∧
    (∃ (k : CkptOpen) (a : Word) (s : State), (s.sk.st = .service) ∧ (s.sk.axo = none) ∧ (s.sk.removed = []) ∧ ((∀ l, s.running l = true)) ∧ (s.cmp.ckpts = [k]) ∧ (k.done = false) ∧ (k.sigA = some a) ∧ (k.sigB = some a) ∧ (k.sigW = none) ∧ (s.cfgSigdl ≤ s.cyclesPast k.cycle)) ∧
    (∃ (k : CkptOpen) (v : Word) (s : State), (s.running .W = true) ∧ (s.sk.st = .cmpDegraded) ∧ (s.cmp.ckpts = [k]) ∧ (v.toNat % 65536 = k.cycle % 65536) ∧ (v.toNat / 65536 % 4 = 0)) ∧
    (∃ (k : CkptOpen) (v : Word) (s : State), (s.running .W = true) ∧ (s.sk.st = .cmpDegraded) ∧ (s.cmp.ckpts = [k]) ∧ (v.toNat % 65536 = k.cycle % 65536) ∧ (v.toNat / 65536 % 4 = 1)) ∧
    (∃ (k : CkptOpen) (v : Word) (s : State), (s.running .W = true) ∧ (s.sk.st = .cmpDegraded) ∧ (s.cmp.ckpts = [k]) ∧ (v.toNat % 65536 = k.cycle % 65536) ∧ (v.toNat / 65536 % 4 = 2)) ∧
    (∃ (k : CkptOpen) (v : Word) (s : State), (s.running .W = true) ∧ (s.sk.st = .cmpDegraded) ∧ (s.cmp.ckpts = [k]) ∧ (v.toNat % 65536 = k.cycle % 65536) ∧ (v.toNat / 65536 % 4 = 3)) ∧
    (∃ (l : Lane) (v : Word) (s : State), (l ≠ .W)) ∧
    (∃ (l : Lane) (v : Word) (s : State), (s.running l = true) ∧ ((s.lane l).locked = false) ∧ (v.getLsbD 0 = true) ∧ (s.regionOk l = true)) ∧
    (∃ (l : Lane) (v : Word) (s : State), (s.running l = true) ∧ ((s.lane l).locked = false) ∧ (v.getLsbD 0 = true) ∧ (s.regionOk l = false)) ∧
    (∃ (c : Instr) (x : Axo) (s : State), ((c = .axolotlTimeout ∧ x.at_ + 10 ^ 9 ≤ s.now ∨ c = .xfermaxExpiry ∧ s.cfgXferMax ≤ s.cyclesPast x.c)) ∧ (s.sk.st = .axolotl) ∧ (s.sk.axo = some x) ∧ (x.phase = .transfer)) ∧
    (∃ (s : State), (s.sk.st ≠ .axolotl)) :=
  ⟨⟨.W, 0x1ffff, svc.fs (ckptB .W) CKPT.CTRL_EN 1, by decide +kernel⟩,
   ⟨.A, 0x10003, svc, by decide +kernel⟩,
   ⟨.A, 0x20003, svc, by decide +kernel⟩,
   ⟨.B, 0x20003, (axo { lane := .A, held := .singleB, phase := .transfer }).fs (ckptB .B) CKPT.CTRL_EN 1, { lane := .A, held := .singleB, phase := .transfer }, by decide +kernel⟩,
   ⟨ck 0 0, 0, 0, cmpm (fun c => { c with ckpts := [ck 0 0] }) posting, by decide +kernel⟩,
   ⟨ck 5 5, 5, 5, cmpm (fun c => { c with ckpts := [ck 5 5] }) posting, by decide +kernel⟩,
   ⟨ck 0 5, 0, 5, cmpm (fun c => { c with ckpts := [ck 0 5] }) posting, by decide +kernel⟩,
   ⟨ck 5 0, 5, 0, cmpm (fun c => { c with ckpts := [ck 5 0] }) posting, by decide +kernel⟩,
   ⟨ck 5 6, 5, 6, cmpm (fun c => { c with ckpts := [ck 5 6] }) posting, by decide +kernel⟩,
   ⟨ck 5 5, 5, cmpm (fun c => { c with ckpts := [ck 5 5] }) svc, by and_intros <;> first | decide +kernel | (intro x; cases x <;> decide +kernel) | exact ⟨.A, by decide +kernel⟩ | exact ⟨.B, by decide +kernel⟩⟩,
   ⟨ck 5 6, 4, cmpm (fun c => { c with ckpts := [ck 5 6] }) (svc.setSt .cmpDegraded), by decide +kernel⟩,
   ⟨ck 5 6, 0x10004, cmpm (fun c => { c with ckpts := [ck 5 6] }) (svc.setSt .cmpDegraded), by decide +kernel⟩,
   ⟨ck 5 6, 0x20004, cmpm (fun c => { c with ckpts := [ck 5 6] }) (svc.setSt .cmpDegraded), by decide +kernel⟩,
   ⟨ck 5 6, 0x30004, cmpm (fun c => { c with ckpts := [ck 5 6] }) (svc.setSt .cmpDegraded), by decide +kernel⟩,
   ⟨.A, 5, svc, by decide +kernel⟩,
   ⟨.A, 1, svc, by decide +kernel⟩,
   ⟨.B, 0xffffffff, svc.fs (ckptB .B) CKPT.RGN_SIZE_SIZE 255, by decide +kernel⟩,
   ⟨.axolotlTimeout, { lane := .A, held := .singleB, phase := .transfer }, later 1000000000 (axo { lane := .A, held := .singleB, phase := .transfer }), by decide +kernel⟩,
   ⟨svc, by decide +kernel⟩⟩

/-- The hypotheses of TriggersStartJobs can be met. -/
theorem test_meets_TriggersStartJobs :
    (∃ (l : Lane) (i : Fin 64) (r : List Nat) (j : Nat) (d : Nat) (k : Nat) (js : List Nat) (s : State), (famGet (fun _ => ([] : List Nat)) s.fired (laneNo l) = i.val :: r) ∧ (s.fb (leB l) LE.CTRL_EN = true) ∧ (s.fb (trigB l i.val) LE.TRIGCFG_EN = true) ∧ (s.trigHit l i.val (s.eventNo l i.val).1 = true) ∧ ((∀ n < 256, (s.job l n).st ≠ .waiting)) ∧ ((s.le l).pend.lookup i.val = none) ∧ (s.trigDescs l i.val = [d]) ∧ ((s.le l).newest = some k) ∧ ((s.lane l).reset = false) ∧ (s.descFull l d = true)) ∧
    (∃ (l : Lane) (i : Fin 64) (r : List Nat) (j : Nat) (d : Nat) (k : Nat) (js : List Nat) (s : State), (famGet (fun _ => ([] : List Nat)) s.fired (laneNo l) = i.val :: r) ∧ (s.fb (leB l) LE.CTRL_EN = true) ∧ (s.fb (trigB l i.val) LE.TRIGCFG_EN = true) ∧ (s.trigHit l i.val (s.eventNo l i.val).1 = true) ∧ ((∀ n < 256, (s.job l n).st ≠ .waiting)) ∧ ((s.le l).pend.lookup i.val = none) ∧ (s.trigDescs l i.val = [d]) ∧ ((s.le l).newest = some k) ∧ ((s.lane l).reset = false) ∧ (s.descFull l d = false) ∧ (s.freeSlots l = [])) ∧
    (∃ (l : Lane) (i : Fin 64) (r : List Nat) (j : Nat) (d : Nat) (k : Nat) (js : List Nat) (s : State), (famGet (fun _ => ([] : List Nat)) s.fired (laneNo l) = i.val :: r) ∧ (s.fb (leB l) LE.CTRL_EN = true) ∧ (s.fb (trigB l i.val) LE.TRIGCFG_EN = true) ∧ (s.trigHit l i.val (s.eventNo l i.val).1 = true) ∧ ((∀ n < 256, (s.job l n).st ≠ .waiting)) ∧ ((s.le l).pend.lookup i.val = none) ∧ (s.trigDescs l i.val = [d]) ∧ ((s.le l).newest = some k) ∧ ((s.lane l).reset = false) ∧ (s.descFull l d = false) ∧ (s.freeSlots l = j :: js) ∧ ((s.descWord l d 0).toNat < 0xf6000) ∧ ((s.descWord l d 0).toNat % 8 = 0)) ∧
    (∃ (l : Lane) (i : Fin 64) (r : List Nat) (j : Nat) (d : Nat) (k : Nat) (js : List Nat) (s : State), (famGet (fun _ => ([] : List Nat)) s.fired (laneNo l) = i.val :: r) ∧ (s.fb (leB l) LE.CTRL_EN = true) ∧ (s.fb (trigB l i.val) LE.TRIGCFG_EN = true) ∧ (s.trigHit l i.val (s.eventNo l i.val).1 = true) ∧ ((∀ n < 256, (s.job l n).st ≠ .waiting)) ∧ ((s.le l).pend.lookup i.val = none) ∧ (s.trigDescs l i.val = [d]) ∧ ((s.le l).newest = some k) ∧ ((s.lane l).reset = false) ∧ (s.descFull l d = false) ∧ (s.freeSlots l = j :: js) ∧ (0xf6000 ≤ (s.descWord l d 0).toNat)) ∧
    (∃ (l : Lane) (i : Fin 64) (r : List Nat) (j : Nat) (d : Nat) (k : Nat) (js : List Nat) (s : State), (famGet (fun _ => ([] : List Nat)) s.fired (laneNo l) = i.val :: r) ∧ (s.fb (leB l) LE.CTRL_EN = true) ∧ (s.fb (trigB l i.val) LE.TRIGCFG_EN = true) ∧ (s.trigHit l i.val (s.eventNo l i.val).1 = true) ∧ ((∀ n < 256, (s.job l n).st ≠ .waiting)) ∧ ((s.le l).pend.lookup i.val = none) ∧ (s.trigDescs l i.val = [d]) ∧ ((s.le l).newest = some k) ∧ ((s.lane l).reset = false) ∧ (s.descFull l d = false) ∧ (s.freeSlots l = j :: js) ∧ ((s.descWord l d 0).toNat < 0xf6000) ∧ ((s.descWord l d 0).toNat % 8 ≠ 0)) ∧
    (∃ (l : Lane) (i : Fin 64) (r : List Nat) (h : HeldFire) (s : State), (famGet (fun _ => ([] : List Nat)) s.fired (laneNo l) = i.val :: r) ∧ (s.fb (leB l) LE.CTRL_EN = true) ∧ (s.fb (trigB l i.val) LE.TRIGCFG_EN = true) ∧ (s.trigHit l i.val (s.eventNo l i.val).1 = true) ∧ ((∀ n < 256, (s.job l n).st ≠ .waiting)) ∧ ((s.le l).pend.lookup i.val = some h) ∧ ((s.lane l).reset = false)) ∧
    (∃ (l : Lane) (i : Fin 64) (r : List Nat) (s : State), (famGet (fun _ => ([] : List Nat)) s.fired (laneNo l) = i.val :: r) ∧ ((s.fb (leB l) LE.CTRL_EN = false ∨ s.trigHit l i.val (s.eventNo l i.val).1 = false))) ∧
    (∃ (l : Lane) (i : Fin 64) (j : Fin 256) (s : State), (i.val ∈ famGet (fun _ => ([] : List Nat)) s.fired (laneNo l)) ∧ (s.fb (leB l) LE.CTRL_EN = true) ∧ (s.fb (trigB l i.val) LE.TRIGCFG_EN = false) ∧ (s.trigHit l i.val (s.eventNo l i.val).1 = true) ∧ ((∀ n < 256, n ≠ j.val → (s.job l n).st ≠ .waiting)) ∧ ((s.job l j.val).st = .waiting) ∧ ((s.job l j.val).wait = i.val) ∧ (leClk (s.job l j.val).waitT < leClk s.now) ∧ ((s.job l j.val).pc < 0xf6000)) ∧
    (∃ (l : Lane) (i : Fin 64) (h : HeldFire) (d : Nat) (j : Nat) (k : Nat) (js : List Nat) (s : State), ((s.le l).pend.lookup i.val = some h) ∧ (h.descs = [d]) ∧ (s.freeSlots l = j :: js) ∧ ((s.le l).newest = some k) ∧ ((s.descWord l d 0).toNat < 0xf6000) ∧ ((s.descWord l d 0).toNat % 8 = 0)) ∧
    (∃ (l : Lane) (n : Fin 16) (s : State), ((s.lane l).reset = false)) ∧
    (∃ (l : Lane) (v : Word) (s : State), ((s.lane l).reset = false)) :=
  ⟨⟨.A, 40, [], 0, 5, 7, (List.range 256).tail, (firing (desc5 0x108 svc)).setJob .A 3 { st := .running, desc := 5 }, by decide +kernel⟩,
   ⟨.A, 40, [], 0, 5, 7, [], firing (fullSlots { st := .running } svc), by decide +kernel⟩,
   ⟨.A, 40, [], 0, 5, 7, (List.range 256).tail, firing (desc5 0xf5ff8 svc), by decide +kernel⟩,
   ⟨.A, 40, [], 0, 5, 7, (List.range 256).tail, firing (desc5 0xf6000 svc), by decide +kernel⟩,
   ⟨.A, 40, [], 0, 5, 7, (List.range 256).tail, firing (desc5 0x104 svc), by decide +kernel⟩,
   ⟨.A, 40, [], ⟨3, [5]⟩, (firing svc).setLe .A { newest := some 7, pend := [(40, ⟨3, [5]⟩)] }, by decide +kernel⟩,
   ⟨.A, 40, [], (firing svc).fs (leB .A) LE.CTRL_EN 0, by decide +kernel⟩,
   ⟨.A, 40, 9, { ((firing svc).fs (trigB .A 40) LE.TRIGCFG_EN 0).setJob .A 9 { st := .waiting, wait := 40, pc := 0xf5ff8 } with now := 2 }, by decide +kernel⟩,
   ⟨.A, 40, ⟨3, [5]⟩, 5, 0, 7, (List.range 256).tail, (desc5 0x108 svc).setLe .A { newest := some 7, pend := [(40, ⟨3, [5]⟩)] }, by decide +kernel⟩,
   ⟨.W, 15, svc, by decide +kernel⟩,
   ⟨.W, 0xffffffff, svc, by decide +kernel⟩⟩

/-- The hypotheses of JobsEndAndPost can be met. -/
theorem test_meets_JobsEndAndPost :
    (∃ (l : Lane) (j : Fin 256) (r : OutRec) (s : State), ((s.job l j.val).st = .stallOut) ∧ ((s.job l j.val).out = some r) ∧ ((s.job l j.val).pc < 0xf6000) ∧ (s.busRoom l r = false)) ∧
    (∃ (l : Lane) (j : Fin 256) (r : OutRec) (s : State), ((s.job l j.val).st = .stallOut) ∧ ((s.job l j.val).out = some r) ∧ ((s.job l j.val).pc < 0xf6000) ∧ (s.busRoom l r = true)) ∧
    (∃ (l : Lane) (j : Fin 256) (a : Nat) (bs : List Byte) (s : State), ((s.job l j.val).fly = [.store a bs]) ∧ (((s.job l j.val).st = .holdL ∨ (s.job l j.val).st = .holdA ∧ s.busHas l j.val = false)) ∧ ((s.job l j.val).pc < 0xf6000)) ∧
    (∃ (l : Lane) (j : Fin 256) (s : State), (((s.job l j.val).st = .holdO ∨ (s.job l j.val).st = .holdA)) ∧ (s.busHas l j.val = true)) ∧
    (∃ (l : Lane) (j : Fin 256) (s : State), ((s.job l j.val).st = .ending) ∧ (s.busHas l j.val = false) ∧ ((s.job l j.val).fly = []) ∧ (((s.job l j.val).notify = false ∨ (s.le l).cq.length < 64))) ∧
    (∃ (l : Lane) (j : Fin 256) (s : State), ((s.job l j.val).st = .faulted) ∧ (64 ≤ (s.le l).cq.length)) ∧
    (∃ (l : Lane) (j : Fin 256) (s : State), ((s.job l j.val).st = .faulted) ∧ ((s.le l).cq.length < 64)) ∧
    (∃ (l : Lane) (j : Fin 256) (s : State), ((s.job l j.val).budget ≠ 0) ∧ (64 * (s.job l j.val).budget ≤ leClk (s.now - (s.job l j.val).startT)) ∧ ((s.job l j.val).fly = []) ∧ ((s.lane l).reset = false) ∧ ((s.job l j.val).st ∈ [JobState.running, .stallOut, .holdL, .holdO, .holdA, .waiting])) ∧
    (∃ (l : Lane) (c : CqEntry) (cs : List CqEntry) (s : State), ((s.le l).cq = c :: cs)) :=
  ⟨⟨.A, 255, oneRec, (svc.setJob .A 255 { st := .stallOut, out := some oneRec }).setBus .A { skQ := List.replicate 32 { r := oneRec } }, by decide +kernel⟩,
   ⟨.A, 255, oneRec, (svc.setJob .A 255 { st := .stallOut, out := some oneRec, pc := 0xf5ff8 }).setBus .A { skQ := List.replicate 31 { r := oneRec } }, by decide +kernel⟩,
   ⟨.B, 0, 0xf5ffc, [1, 2, 3, 4], svc.setJob .B 0 { st := .holdL, fly := [.store 0xf5ffc [1, 2, 3, 4]] }, by decide +kernel⟩,
   ⟨.A, 2, (svc.setJob .A 2 { st := .holdO }).setBus .A { drvQ := [{ oneRec with word1 := 2 * 65536 }] }, by decide +kernel⟩,
   ⟨.A, 2, (svc.setJob .A 2 { st := .ending, notify := true, ovf := true, tag := 9 }).setLe .A { cq := List.replicate 63 ⟨0, 0, 0, 0, false, 0⟩ }, by decide +kernel⟩,
   ⟨.A, 2, (svc.setJob .A 2 { st := .faulted, code := 3 }).setLe .A { cq := List.replicate 64 ⟨0, 0, 0, 0, false, 0⟩ }, by decide +kernel⟩,
   ⟨.A, 2, (svc.setJob .A 2 { st := .faulted, code := 3 }).setLe .A { cq := List.replicate 63 ⟨0, 0, 0, 0, false, 0⟩ }, by decide +kernel⟩,
   ⟨.W, 2, later 80 (svc.setJob .W 2 { st := .waiting, budget := 1, pc := 0x108 }), by decide +kernel⟩,
   ⟨.A, ⟨1, 2, 3, 4, true, 5⟩, [], svc.setLe .A { cq := [⟨1, 2, 3, 4, true, 5⟩] }, by decide +kernel⟩⟩

/-- The hypotheses of JobInstructionsStayInTheirJob can be met. -/
theorem test_meets_JobInstructionsStayInTheirJob :
    (∃ (l : Lane) (j : Fin 256) (w : DWord) (c : Instr) (op : Nat) (lo : Nat) (s : State), ((c, op, lo) ∈ dollithForms l j w) ∧ ((s.job l j.val).st ≠ .running)) ∧
    (∃ (l : Lane) (j : Fin 256) (w : DWord) (c : Instr) (op : Nat) (lo : Nat) (s : State), ((c, op, lo) ∈ dollithForms l j w) ∧ ((s.job l j.val).st = .running) ∧ ((s.lane l).reset = false) ∧ ((formOf (insOf w) = none ∨ ((formOf (insOf w)).any (fun f => f.op == op && f.lo == lo) = true ∧ legalWord w op lo = false))) ∧ ((s.job l j.val).fly = [])) ∧
    (∃ (l : Lane) (j : Fin 256) (w : DWord) (s : State), ((s.job l j.val).st = .running) ∧ ((s.lane l).reset = false) ∧ ((s.job l j.val).fly = []) ∧ (legalWord w 0x19 0 = true) ∧ (kindRange ((insOf w).im 0 4) ≤ (insOf w).im 8 8)) ∧
    (∃ (l : Lane) (j : Fin 256) (w : DWord) (c : Instr) (op : Nat) (n : Nat) (k : Nat) (wr : Bool) (s : State), ((c, op, wr, n) ∈ [(.ldb l j w, 0x10, false, 32), (.stb l j w, 0x11, true, 32), (.lda l j w, 0x12, false, 4), (Instr.sta l j w, 0x13, true, 4)]) ∧ ((s.job l j.val).st = .running) ∧ ((s.lane l).reset = false) ∧ ((s.job l j.val).fly = []) ∧ (legalWord w op 0 = true) ∧ (((0x100000 < ((((((s.job l j.val).a.getD (insOf w).a 0).toNat : Int) + (insOf w).ims 0 20) % 2 ^ 32).toNat) + n ∧ k = 1) ∨ (wr = true ∧ 0xf6000 < ((((((s.job l j.val).a.getD (insOf w).a 0).toNat : Int) + (insOf w).ims 0 20) % 2 ^ 32).toNat) + n ∧ k = 1) ∨ (((((((s.job l j.val).a.getD (insOf w).a 0).toNat : Int) + (insOf w).ims 0 20) % 2 ^ 32).toNat) + n ≤ (if wr then 0xf6000 else 0x100000) ∧ ((((((s.job l j.val).a.getD (insOf w).a 0).toNat : Int) + (insOf w).ims 0 20) % 2 ^ 32).toNat) % n ≠ 0 ∧ k = 2) ∨ (wr = false ∧ 0xfc000 ≤ ((((((s.job l j.val).a.getD (insOf w).a 0).toNat : Int) + (insOf w).ims 0 20) % 2 ^ 32).toNat) ∧ ((((((s.job l j.val).a.getD (insOf w).a 0).toNat : Int) + (insOf w).ims 0 20) % 2 ^ 32).toNat) + n ≤ 0x100000 ∧ ((((((s.job l j.val).a.getD (insOf w).a 0).toNat : Int) + (insOf w).ims 0 20) % 2 ^ 32).toNat) % n = 0 ∧ s.vecGone l (s.job l j.val) = true ∧ k = 5)))) ∧
    (∃ (l : Lane) (j : Fin 256) (w : DWord) (c : Instr) (op : Nat) (lo : Nat) (s : State), ((c, op, lo) ∈ dollithForms l j w) ∧ ((∀ f ∈ (s.job l j.val).fly, f.inBounds = true))) :=
  ⟨⟨.A, 0, dw 1 0 0 0 0 0 0, .nop .A 0 (dw 1 0 0 0 0 0 0), 1, 0, svc, by decide +kernel⟩,
   ⟨.A, 0, dw 0x1f 0 0 0 0 0 0, .nop .A 0 (dw 0x1f 0 0 0 0 0 0), 1, 0, jb, by decide +kernel⟩,
   ⟨.A, 0, dw 0x19 0 0 0 0 0 0x600, jb, by decide +kernel⟩,
   ⟨.A, 0, dw 0x10 0 0 0 0 0 0x80000, .ldb .A 0 (dw 0x10 0 0 0 0 0 0x80000), 0x10, 32, 1, false, jb, by decide +kernel⟩,
   ⟨.A, 0, dw 2 0 0 0 0 0 0, .end_ .A 0 (dw 2 0 0 0 0 0 0), 2, 0, jb { busy with fly := [.store 0xf5fff [1], .mirror oneRec] }, by decide +kernel⟩⟩

/-- The hypotheses of AddressAndPredicateResults can be met. -/
theorem test_meets_AddressAndPredicateResults :
    (∃ (l : Lane) (j : Fin 256) (w : DWord) (s : State), ((s.job l j.val).st = .running) ∧ ((s.job l j.val).pc + 8 < 0xf6000) ∧ (legalWord w 0x14 0 = true)) ∧
    (∃ (l : Lane) (j : Fin 256) (w : DWord) (s : State), ((s.job l j.val).st = .running) ∧ ((s.job l j.val).pc + 8 < 0xf6000) ∧ (legalWord w 0x14 1 = true)) ∧
    (∃ (l : Lane) (j : Fin 256) (w : DWord) (s : State), ((s.job l j.val).st = .running) ∧ ((s.job l j.val).pc + 8 < 0xf6000) ∧ (legalWord w 0x14 2 = true)) ∧
    (∃ (l : Lane) (j : Fin 256) (w : DWord) (s : State), ((s.job l j.val).st = .running) ∧ ((s.job l j.val).pc + 8 < 0xf6000) ∧ (legalWord w 0x14 3 = true)) ∧
    (∃ (l : Lane) (j : Fin 256) (w : DWord) (s : State), ((s.job l j.val).st = .running) ∧ ((s.job l j.val).pc + 8 < 0xf6000) ∧ (legalWord w 0x14 4 = true)) ∧
    (∃ (l : Lane) (j : Fin 256) (w : DWord) (s : State), ((s.job l j.val).st = .running) ∧ ((s.job l j.val).pc + 8 < 0xf6000) ∧ (legalWord w 0x14 5 = true)) ∧
    (∃ (l : Lane) (j : Fin 256) (w : DWord) (s : State), ((s.job l j.val).st = .running) ∧ ((s.job l j.val).pc + 8 < 0xf6000) ∧ (legalWord w 0x14 6 = true)) ∧
    (∃ (l : Lane) (j : Fin 256) (w : DWord) (s : State), ((s.job l j.val).st = .running) ∧ ((s.job l j.val).pc + 8 < 0xf6000) ∧ (legalWord w 0x06 0 = true) ∧ (s.now < (s.job l j.val).trigT + 5 * 2 ^ 30)) ∧
    (∃ (l : Lane) (j : Fin 256) (w : DWord) (s : State), ((s.job l j.val).st = .running) ∧ ((s.job l j.val).pc + 8 < 0xf6000) ∧ (legalWord w 0x06 1 = true)) ∧
    (∃ (l : Lane) (j : Fin 256) (w : DWord) (s : State), ((s.job l j.val).st = .running) ∧ ((s.job l j.val).pc + 8 < 0xf6000) ∧ (legalWord w 0x06 2 = true)) ∧
    (∃ (l : Lane) (j : Fin 256) (w : DWord) (s : State), ((s.job l j.val).st = .running) ∧ ((s.job l j.val).pc + 8 < 0xf6000) ∧ (legalWord w 0x31 0 = true)) ∧
    (∃ (l : Lane) (j : Fin 256) (w : DWord) (s : State), ((s.job l j.val).st = .running) ∧ ((s.job l j.val).pc + 8 < 0xf6000) ∧ (legalWord w 0x31 1 = true)) ∧
    (∃ (l : Lane) (j : Fin 256) (w : DWord) (s : State), ((s.job l j.val).st = .running) ∧ ((s.job l j.val).pc + 8 < 0xf6000) ∧ (legalWord w 0x0a 0 = true)) ∧
    (∃ (l : Lane) (j : Fin 256) (w : DWord) (s : State), ((s.job l j.val).st = .running) ∧ ((s.job l j.val).pc + 8 < 0xf6000) ∧ (legalWord w 0x0a 8 = true)) ∧
    (∃ (l : Lane) (j : Fin 256) (w : DWord) (s : State), ((s.job l j.val).st = .running) ∧ ((s.job l j.val).pc + 8 < 0xf6000) ∧ (legalWord w 0x0b 0 = true)) ∧
    (∃ (l : Lane) (j : Fin 256) (w : DWord) (s : State), ((s.job l j.val).st = .running) ∧ ((s.job l j.val).pc + 8 < 0xf6000) ∧ (legalWord w 0x0b 8 = true)) ∧
    (∃ (l : Lane) (j : Fin 256) (w : DWord) (s : State), ((s.job l j.val).st = .running) ∧ ((s.job l j.val).pc + 8 < 0xf6000) ∧ (legalWord w 0x0c 0 = true)) :=
  ⟨⟨.A, 0, dw 0x14 1 2 0 0 0 0x0, jb, by decide +kernel⟩,
   ⟨.A, 0, dw 0x14 1 2 3 0 1 0x0, jb, by decide +kernel⟩,
   ⟨.A, 0, dw 0x14 1 2 3 0 2 0x0, jb, by decide +kernel⟩,
   ⟨.A, 0, dw 0x14 1 0 0 0 3 0x0, jb, by decide +kernel⟩,
   ⟨.A, 0, dw 0x14 1 2 0 0 4 0x0, jb, by decide +kernel⟩,
   ⟨.A, 0, dw 0x14 1 2 0 0 5 0x0, jb, by decide +kernel⟩,
   ⟨.A, 0, dw 0x14 1 2 0 0 6 0x0, jb, by decide +kernel⟩,
   ⟨.A, 0, dw 0x6 1 0 0 0 0 0x0, jb, by decide +kernel⟩,
   ⟨.A, 0, dw 0x6 1 0 0 0 1 0x0, jb, by decide +kernel⟩,
   ⟨.A, 0, dw 0x6 1 0 0 0 2 0x0, jb, by decide +kernel⟩,
   ⟨.A, 0, dw 0x31 1 2 0 0 0 0x0, jb, by decide +kernel⟩,
   ⟨.A, 0, dw 0x31 1 2 0 0 1 0x0, jb, by decide +kernel⟩,
   ⟨.A, 0, dw 0xa 1 2 3 0 5 0x0, jb, by decide +kernel⟩,
   ⟨.A, 0, dw 0xa 1 2 0 0 13 0x0, jb, by decide +kernel⟩,
   ⟨.A, 0, dw 0xb 1 2 0 0 5 0x0, jb, by decide +kernel⟩,
   ⟨.A, 0, dw 0xb 1 2 0 0 13 0x0, jb, by decide +kernel⟩,
   ⟨.A, 0, dw 0xc 1 2 3 0 6 0x0, jb, by decide +kernel⟩⟩

/-- The hypotheses of FlowAndJobControl can be met. -/
theorem test_meets_FlowAndJobControl :
    (∃ (l : Lane) (j : Fin 256) (w : DWord) (s : State), ((s.job l j.val).st = .running) ∧ ((s.job l j.val).pc + 8 < 0xf6000) ∧ (legalWord w 0x01 0 = true)) ∧
    (∃ (l : Lane) (j : Fin 256) (w : DWord) (s : State), ((s.job l j.val).st = .running) ∧ ((s.job l j.val).pc + 8 < 0xf6000) ∧ (legalWord w 0x08 0 = true) ∧ ((s.job l j.val).pr (insOf w).a = false)) ∧
    (∃ (l : Lane) (j : Fin 256) (w : DWord) (s : State), ((s.job l j.val).st = .running) ∧ ((s.job l j.val).pc + 8 < 0xf6000) ∧ (legalWord w 0x08 0 = true) ∧ ((s.job l j.val).pr (insOf w).a = true) ∧ ((((((s.job l j.val).pc : Int) + 8 * (insOf w).ims 0 20) % 2 ^ 32).toNat) < 0xf6000)) ∧
    (∃ (l : Lane) (j : Fin 256) (w : DWord) (s : State), ((s.job l j.val).st = .running) ∧ ((s.job l j.val).pc + 8 < 0xf6000) ∧ (legalWord w 0x08 1 = true) ∧ ((s.job l j.val).pr (insOf w).a = true)) ∧
    (∃ (l : Lane) (j : Fin 256) (w : DWord) (s : State), ((s.job l j.val).st = .running) ∧ ((s.job l j.val).pc + 8 < 0xf6000) ∧ (legalWord w 0x08 1 = true) ∧ ((s.job l j.val).pr (insOf w).a = false) ∧ ((((((s.job l j.val).pc : Int) + 8 * (insOf w).ims 0 20) % 2 ^ 32).toNat) < 0xf6000)) ∧
    (∃ (l : Lane) (j : Fin 256) (w : DWord) (s : State), ((s.job l j.val).st = .running) ∧ ((s.job l j.val).pc + 8 < 0xf6000) ∧ (legalWord w 0x09 0 = true) ∧ ((insOf w).imm < 0xf6000)) ∧
    (∃ (l : Lane) (j : Fin 256) (w : DWord) (s : State), ((s.job l j.val).st = .running) ∧ ((s.job l j.val).pc + 8 < 0xf6000) ∧ (legalWord w 0x09 0 = true) ∧ (0xf6000 ≤ (insOf w).imm) ∧ ((s.job l j.val).fly = []) ∧ ((s.lane l).reset = false)) ∧
    (∃ (l : Lane) (j : Fin 256) (w : DWord) (s : State), ((s.job l j.val).st = .running) ∧ ((s.job l j.val).pc + 8 < 0xf6000) ∧ (legalWord w 0x03 0 = true)) ∧
    (∃ (l : Lane) (j : Fin 256) (w : DWord) (s : State), ((s.job l j.val).st = .running) ∧ ((s.job l j.val).pc + 8 < 0xf6000) ∧ (legalWord w 0x05 1 = true)) ∧
    (∃ (l : Lane) (j : Fin 256) (w : DWord) (s : State), ((s.job l j.val).st = .running) ∧ ((s.job l j.val).pc + 8 < 0xf6000) ∧ (legalWord w 0x05 2 = true)) ∧
    (∃ (l : Lane) (j : Fin 256) (w : DWord) (s : State), ((s.job l j.val).st = .running) ∧ ((s.job l j.val).pc + 8 < 0xf6000) ∧ (legalWord w 0x05 3 = true)) ∧
    (∃ (l : Lane) (j : Fin 256) (w : DWord) (s : State), ((s.job l j.val).st = .running) ∧ ((s.job l j.val).pc + 8 < 0xf6000) ∧ (legalWord w 0x02 0 = true) ∧ ((s.lane l).reset = false)) ∧
    (∃ (l : Lane) (j : Fin 256) (w : DWord) (s : State) (c : _) (a0 : _), ((s.job l j.val).st = .running) ∧ ((s.job l j.val).pc + 8 < 0xf6000) ∧ ((c, a0) ∈ [(.spawn l j w, none), (Instr.spawnArg l j w, some ((s.job l j.val).ar (insOf w).a))]) ∧ (legalWord w 0x04 (if a0.isSome then 1 else 0) = true) ∧ ((s.freeSlots l = [] ∨ s.descFull l ((insOf w).imm % 256) = true))) ∧
    (∃ (l : Lane) (j : Fin 256) (w : DWord) (s : State) (c : _) (a0 : _) (k : _) (ks : _), ((s.job l j.val).st = .running) ∧ ((s.job l j.val).pc + 8 < 0xf6000) ∧ ((c, a0) ∈ [(.spawn l j w, none), (Instr.spawnArg l j w, some ((s.job l j.val).ar (insOf w).a))]) ∧ (legalWord w 0x04 (if a0.isSome then 1 else 0) = true) ∧ (s.freeSlots l = k :: ks) ∧ (s.descFull l ((insOf w).imm % 256) = false) ∧ ((s.descWord l ((insOf w).imm % 256) 0).toNat < 0xf6000) ∧ ((s.descWord l ((insOf w).imm % 256) 0).toNat % 8 = 0) ∧ ((s.job l j.val).fly = [])) :=
  ⟨⟨.A, 0, dw 0x1 0 0 0 0 0 0x0, jb, by decide +kernel⟩,
   ⟨.A, 0, dw 0x8 0 2 0 0 0 0x1, jb, by decide +kernel⟩,
   ⟨.A, 0, dw 8 0 1 0 0 0 1, jb, by decide +kernel⟩,
   ⟨.A, 0, dw 8 0 1 0 0 1 1, jb, by decide +kernel⟩,
   ⟨.A, 0, dw 0x8 0 2 0 0 1 0x1, jb, by decide +kernel⟩,
   ⟨.A, 0, dw 0x9 0 0 0 0 0 0x200, jb, by decide +kernel⟩,
   ⟨.A, 0, dw 0x9 0 0 0 0 0 0xf6000, jb, by decide +kernel⟩,
   ⟨.A, 0, dw 0x3 0 0 0 0 0 0x0, jb, by decide +kernel⟩,
   ⟨.A, 0, dw 0x5 0 0 0 0 1 0x0, jb, by decide +kernel⟩,
   ⟨.A, 0, dw 0x5 0 0 0 0 2 0x0, jb, by decide +kernel⟩,
   ⟨.A, 0, dw 0x5 0 0 0 0 3 0x0, jb, by decide +kernel⟩,
   ⟨.A, 0, dw 0x2 0 0 0 0 0 0x0, jb, by decide +kernel⟩,
   ⟨.A, 0, dw 4 1 0 0 0 0 0xff, fullSlots busy svc, .spawn .A 0 (dw 4 1 0 0 0 0 0xff), none, by decide +kernel⟩,
   ⟨.A, 0, dw 4 1 2 0 0 1 5, jb, .spawnArg .A 0 (dw 4 1 2 0 0 1 5), some 0x1000, 1, (List.range 256).tail.tail, by decide +kernel⟩⟩

/-- The hypotheses of BlockResults can be met. -/
theorem test_meets_BlockResults :
    (∃ (l : Lane) (j : Fin 256) (w : DWord) (s : State), ((s.job l j.val).st = .running) ∧ ((s.job l j.val).pc + 8 < 0xf6000) ∧ (legalWord w 0x20 0 = true)) ∧
    (∃ (l : Lane) (j : Fin 256) (w : DWord) (s : State), ((s.job l j.val).st = .running) ∧ ((s.job l j.val).pc + 8 < 0xf6000) ∧ (legalWord w 0x21 0 = true)) ∧
    (∃ (l : Lane) (j : Fin 256) (w : DWord) (s : State), ((s.job l j.val).st = .running) ∧ ((s.job l j.val).pc + 8 < 0xf6000) ∧ (legalWord w 0x22 0 = true)) ∧
    (∃ (l : Lane) (j : Fin 256) (w : DWord) (s : State), ((s.job l j.val).st = .running) ∧ ((s.job l j.val).pc + 8 < 0xf6000) ∧ (legalWord w 0x23 0 = true)) ∧
    (∃ (l : Lane) (j : Fin 256) (w : DWord) (s : State), ((s.job l j.val).st = .running) ∧ ((s.job l j.val).pc + 8 < 0xf6000) ∧ (legalWord w 0x24 0 = true)) ∧
    (∃ (l : Lane) (j : Fin 256) (w : DWord) (s : State), ((s.job l j.val).st = .running) ∧ ((s.job l j.val).pc + 8 < 0xf6000) ∧ (legalWord w 0x25 0 = true)) ∧
    (∃ (l : Lane) (j : Fin 256) (w : DWord) (s : State), ((s.job l j.val).st = .running) ∧ ((s.job l j.val).pc + 8 < 0xf6000) ∧ (legalWord w 0x26 0 = true)) ∧
    (∃ (l : Lane) (j : Fin 256) (w : DWord) (s : State), ((s.job l j.val).st = .running) ∧ ((s.job l j.val).pc + 8 < 0xf6000) ∧ (legalWord w 0x27 0 = true)) ∧
    (∃ (l : Lane) (j : Fin 256) (w : DWord) (s : State), ((s.job l j.val).st = .running) ∧ ((s.job l j.val).pc + 8 < 0xf6000) ∧ (legalWord w 0x28 0 = true)) ∧
    (∃ (l : Lane) (j : Fin 256) (w : DWord) (s : State), ((s.job l j.val).st = .running) ∧ ((s.job l j.val).pc + 8 < 0xf6000) ∧ (legalWord w 0x29 0 = true)) ∧
    (∃ (l : Lane) (j : Fin 256) (w : DWord) (s : State), ((s.job l j.val).st = .running) ∧ ((s.job l j.val).pc + 8 < 0xf6000) ∧ (legalWord w 0x2a 0 = true)) ∧
    (∃ (l : Lane) (j : Fin 256) (w : DWord) (s : State), ((s.job l j.val).st = .running) ∧ ((s.job l j.val).pc + 8 < 0xf6000) ∧ (legalWord w 0x2b 0 = true)) ∧
    (∃ (l : Lane) (j : Fin 256) (w : DWord) (s : State), ((s.job l j.val).st = .running) ∧ ((s.job l j.val).pc + 8 < 0xf6000) ∧ (legalWord w 0x2c 0 = true)) ∧
    (∃ (l : Lane) (j : Fin 256) (w : DWord) (s : State), ((s.job l j.val).st = .running) ∧ ((s.job l j.val).pc + 8 < 0xf6000) ∧ (legalWord w 0x2d 0 = true)) ∧
    (∃ (l : Lane) (j : Fin 256) (w : DWord) (s : State), ((s.job l j.val).st = .running) ∧ ((s.job l j.val).pc + 8 < 0xf6000) ∧ (legalWord w 0x2e 0 = true)) ∧
    (∃ (l : Lane) (j : Fin 256) (w : DWord) (s : State), ((s.job l j.val).st = .running) ∧ ((s.job l j.val).pc + 8 < 0xf6000) ∧ (legalWord w 0x2f 0 = true)) ∧
    (∃ (l : Lane) (j : Fin 256) (w : DWord) (s : State), ((s.job l j.val).st = .running) ∧ ((s.job l j.val).pc + 8 < 0xf6000) ∧ (legalWord w 0x30 0 = true)) ∧
    (∃ (l : Lane) (j : Fin 256) (w : DWord) (s : State), ((s.job l j.val).st = .running) ∧ ((s.job l j.val).pc + 8 < 0xf6000) ∧ (legalWord w 0x31 2 = true)) ∧
    (∃ (l : Lane) (j : Fin 256) (w : DWord) (s : State), ((s.job l j.val).st = .running) ∧ ((s.job l j.val).pc + 8 < 0xf6000) ∧ (legalWord w 0x38 0 = true)) ∧
    (∃ (l : Lane) (j : Fin 256) (w : DWord) (s : State), ((s.job l j.val).st = .running) ∧ ((s.job l j.val).pc + 8 < 0xf6000) ∧ (legalWord w 0x39 0 = true)) ∧
    (∃ (l : Lane) (j : Fin 256) (w : DWord) (s : State), ((s.job l j.val).st = .running) ∧ ((s.job l j.val).pc + 8 < 0xf6000) ∧ (legalWord w 0x3a 0 = true)) ∧
    (∃ (l : Lane) (j : Fin 256) (w : DWord) (s : State), ((s.job l j.val).st = .running) ∧ ((s.job l j.val).pc + 8 < 0xf6000) ∧ (legalWord w 0x3b 0 = true)) ∧
    (∃ (l : Lane) (j : Fin 256) (w : DWord) (s : State), ((s.job l j.val).st = .running) ∧ ((s.job l j.val).pc + 8 < 0xf6000) ∧ (legalWord w 0x3c 0 = true)) ∧
    (∃ (l : Lane) (j : Fin 256) (w : DWord) (s : State), ((s.job l j.val).st = .running) ∧ ((s.job l j.val).pc + 8 < 0xf6000) ∧ (legalWord w 0x3d 0 = true)) ∧
    (∃ (l : Lane) (j : Fin 256) (w : DWord) (s : State), ((s.job l j.val).st = .running) ∧ ((s.job l j.val).pc + 8 < 0xf6000) ∧ (legalWord w 0x40 0 = true)) ∧
    (∃ (l : Lane) (j : Fin 256) (w : DWord) (s : State), ((s.job l j.val).st = .running) ∧ ((s.job l j.val).pc + 8 < 0xf6000) ∧ (legalWord w 0x40 1 = true)) ∧
    (∃ (l : Lane) (j : Fin 256) (w : DWord) (s : State), ((s.job l j.val).st = .running) ∧ ((s.job l j.val).pc + 8 < 0xf6000) ∧ (legalWord w 0x41 0 = true)) ∧
    (∃ (l : Lane) (j : Fin 256) (w : DWord) (s : State), ((s.job l j.val).st = .running) ∧ ((s.job l j.val).pc + 8 < 0xf6000) ∧ (legalWord w 0x42 0 = true)) ∧
    (∃ (l : Lane) (j : Fin 256) (w : DWord) (s : State), ((s.job l j.val).st = .running) ∧ ((s.job l j.val).pc + 8 < 0xf6000) ∧ (legalWord w 0x43 0 = true)) ∧
    (∃ (l : Lane) (j : Fin 256) (w : DWord) (s : State), ((s.job l j.val).st = .running) ∧ ((s.job l j.val).pc + 8 < 0xf6000) ∧ ((((s.job l j.val).blk (insOf w).b).val) 0 ≤ 0)) ∧
    (∃ (l : Lane) (j : Fin 256) (w : DWord) (s : State), ((s.job l j.val).st = .running) ∧ ((s.job l j.val).pc + 8 < 0xf6000) ∧ (legalWord w 0x44 0 = true)) ∧
    (∃ (l : Lane) (j : Fin 256) (w : DWord) (s : State), ((s.job l j.val).st = .running) ∧ ((s.job l j.val).pc + 8 < 0xf6000) ∧ (legalWord w 0x45 0 = true)) ∧
    (∃ (l : Lane) (j : Fin 256) (w : DWord) (s : State), (s.job l j.val).st = .running ∧ (s.job l j.val).pc + 8 < 0xf6000 ∧ legalWord w 0x49 0 = true) ∧
    (∃ (l : Lane) (j : Fin 256) (w : DWord) (s : State), (s.job l j.val).st = .running ∧ (s.job l j.val).pc + 8 < 0xf6000 ∧ legalWord w 0x49 1 = true) ∧
    (∃ (l : Lane) (j : Fin 256) (w : DWord) (s : State), ((s.job l j.val).st = .running) ∧ ((s.job l j.val).pc + 8 < 0xf6000) ∧ (legalWord w 0x51 2 = true)) ∧
    (∃ (l : Lane) (j : Fin 256) (w : DWord) (s : State), ((s.job l j.val).st = .running) ∧ ((s.job l j.val).pc + 8 < 0xf6000) ∧ (legalWord w 0x52 0 = true)) :=
  ⟨⟨.A, 0, dw 0x20 1 2 3 0 0 0x0, jb, by decide +kernel⟩,
   ⟨.A, 0, dw 0x21 1 2 3 0 0 0x0, jb, by decide +kernel⟩,
   ⟨.A, 0, dw 0x22 1 2 3 0 0 0x0, jb, by decide +kernel⟩,
   ⟨.A, 0, dw 0x23 1 2 3 4 0 0x0, jb, by decide +kernel⟩,
   ⟨.A, 0, dw 0x24 1 2 3 4 0 0x0, jb, by decide +kernel⟩,
   ⟨.A, 0, dw 0x25 1 2 3 0 0 0x0, jb, by decide +kernel⟩,
   ⟨.A, 0, dw 0x26 1 2 0 0 0 0x0, jb, by decide +kernel⟩,
   ⟨.A, 0, dw 0x27 1 2 0 0 0 0x0, jb, by decide +kernel⟩,
   ⟨.A, 0, dw 0x28 1 2 0 0 0 0x0, jb, by decide +kernel⟩,
   ⟨.A, 0, dw 0x29 1 2 0 0 0 0x0, jb, by decide +kernel⟩,
   ⟨.A, 0, dw 0x2a 1 2 3 0 0 0x0, jb, by decide +kernel⟩,
   ⟨.A, 0, dw 0x2b 1 2 3 0 0 0x0, jb, by decide +kernel⟩,
   ⟨.A, 0, dw 0x2c 1 2 3 4 0 0x0, jb, by decide +kernel⟩,
   ⟨.A, 0, dw 0x2d 1 2 3 4 0 0x0, jb, by decide +kernel⟩,
   ⟨.A, 0, dw 0x2e 1 2 0 0 0 0x0, jb, by decide +kernel⟩,
   ⟨.A, 0, dw 0x2f 1 2 0 0 0 0x0, jb, by decide +kernel⟩,
   ⟨.A, 0, dw 0x30 1 2 0 0 0 0x0, jb, by decide +kernel⟩,
   ⟨.A, 0, dw 0x31 1 2 0 0 2 0x0, jb, by decide +kernel⟩,
   ⟨.A, 0, dw 0x38 1 2 3 0 7 0x0, jb, by decide +kernel⟩,
   ⟨.A, 0, dw 0x39 1 2 0 0 0 0x0, jb, by decide +kernel⟩,
   ⟨.A, 0, dw 0x3a 1 2 0 0 0 0x0, jb, by decide +kernel⟩,
   ⟨.A, 0, dw 0x3b 1 2 3 0 0 0x0, jb, by decide +kernel⟩,
   ⟨.A, 0, dw 0x3c 1 2 0 0 0 0x0, jb, by decide +kernel⟩,
   ⟨.A, 0, dw 0x3d 1 2 3 4 0 0x0, jb, by decide +kernel⟩,
   ⟨.A, 0, dw 0x40 1 2 0 0 0 0x0, jb, by decide +kernel⟩,
   ⟨.A, 0, dw 0x40 1 2 0 0 1 0x0, jb, by decide +kernel⟩,
   ⟨.A, 0, dw 0x41 1 2 3 0 0 0x0, jb, by decide +kernel⟩,
   ⟨.A, 0, dw 0x42 1 2 3 0 0 0x0, jb, by decide +kernel⟩,
   ⟨.A, 0, dw 0x43 1 2 3 4 0 0x0, jb, by decide +kernel⟩,
   ⟨.A, 0, dw 0x26 1 2 0 0 0 0x0, jb, by decide +kernel⟩,
   ⟨.A, 0, dw 0x44 1 2 0 0 0 0x0, jb, by decide +kernel⟩,
   ⟨.A, 0, dw 0x45 1 2 3 0 0 0x0, jb, by decide +kernel⟩,
   ⟨.A, 0, dw 0x49 1 2 3 4 0 15, jb, by decide +kernel⟩,
   ⟨.A, 0, dw 0x49 1 2 3 4 1 8, jb, by decide +kernel⟩,
   ⟨.A, 0, dw 0x51 1 2 0 0 2 0x0, jb, by decide +kernel⟩,
   ⟨.A, 0, dw 0x52 1 0 0 0 0 0x123456, jb, by decide +kernel⟩⟩

/-- The hypotheses of MemoryAndOutput can be met. -/
theorem test_meets_MemoryAndOutput :
    (∃ (l : Lane) (j : Fin 256) (w : DWord) (s : State), ((s.job l j.val).st = .running) ∧ ((s.job l j.val).pc + 8 < 0xf6000) ∧ ((s.le l).bad = []) ∧ (legalWord w 0x12 0 = true) ∧ ((((((s.job l j.val).ar (insOf w).a).toNat + (insOf w).ims 0 20) % 2 ^ 32).toNat) + 4 ≤ 0x100000) ∧ ((((((s.job l j.val).ar (insOf w).a).toNat + (insOf w).ims 0 20) % 2 ^ 32).toNat) % 4 = 0) ∧ (s.vecGone l (s.job l j.val) = false)) ∧
    (∃ (l : Lane) (j : Fin 256) (w : DWord) (s : State), ((s.job l j.val).st = .running) ∧ ((s.job l j.val).pc + 8 < 0xf6000) ∧ ((s.le l).bad = []) ∧ (legalWord w 0x11 0 = true) ∧ ((((((s.job l j.val).ar (insOf w).a).toNat + (insOf w).ims 0 20) % 2 ^ 32).toNat) + 32 ≤ 0xf6000) ∧ ((((((s.job l j.val).ar (insOf w).a).toNat + (insOf w).ims 0 20) % 2 ^ 32).toNat) % 32 = 0)) ∧
    (∃ (l : Lane) (j : Fin 256) (w : DWord) (s : State), ((s.job l j.val).st = .running) ∧ ((s.job l j.val).pc + 8 < 0xf6000) ∧ ((s.le l).bad = []) ∧ (legalWord w 0x13 0 = true) ∧ ((((((s.job l j.val).ar (insOf w).a).toNat + (insOf w).ims 0 20) % 2 ^ 32).toNat) + 4 ≤ 0xf6000) ∧ ((((((s.job l j.val).ar (insOf w).a).toNat + (insOf w).ims 0 20) % 2 ^ 32).toNat) % 4 = 0)) ∧
    (∃ (l : Lane) (j : Fin 256) (w : DWord) (s : State) (k : _) (wd : _) (fl : _), ((s.job l j.val).st = .running) ∧ ((s.job l j.val).pc + 8 < 0xf6000) ∧ ((s.le l).bad = []) ∧ ((k, wd, fl) ∈ [(Instr.bfixW l j w, 32, 0), (.bfixD l j w, 64, 1)]) ∧ (legalWord w 0x50 fl = true) ∧ ((((((s.job l j.val).ar (insOf w).a).toNat + (insOf w).ims 0 20) % 2 ^ 32).toNat) + ((s.job l j.val).blk (insOf w).b).n * (wd / 8) ≤ 0xf6000) ∧ ((((((s.job l j.val).ar (insOf w).a).toNat + (insOf w).ims 0 20) % 2 ^ 32).toNat) % (wd / 8) = 0) ∧ (((s.job l j.val).blk (insOf w).b).n ≤ 8)) ∧
    (∃ (l : Lane) (j : Fin 256) (w : DWord) (s : State) (k : _) (wd : _) (fl : _), ((s.job l j.val).st = .running) ∧ ((s.job l j.val).pc + 8 < 0xf6000) ∧ ((s.le l).bad = []) ∧ ((k, wd, fl) ∈ [(Instr.bfltW l j w, 32, 0), (.bfltD l j w, 64, 1)]) ∧ (legalWord w 0x51 fl = true) ∧ ((((((s.job l j.val).ar (insOf w).a).toNat + (insOf w).ims 0 20) % 2 ^ 32).toNat) + (if (insOf w).imm / 2 ^ 28 % 8 = 0 then 8 else (insOf w).imm / 2 ^ 28 % 8) * (wd / 8) ≤ 0xfc000) ∧ ((((((s.job l j.val).ar (insOf w).a).toNat + (insOf w).ims 0 20) % 2 ^ 32).toNat) % (wd / 8) = 0)) ∧
    (∃ (l : Lane) (j : Fin 256) (w : DWord) (s : State), ((s.job l j.val).st = .running) ∧ ((s.job l j.val).pc + 8 < 0xf6000) ∧ ((s.le l).bad = []) ∧ (legalWord w 0x18 0 = true) ∧ ((((((s.job l j.val).ar (insOf w).a).toNat + (insOf w).ims 0 20) % 2 ^ 32).toNat) + 8 * (if (insOf w).imm / 2 ^ 28 % 8 = 0 then 8 else (insOf w).imm / 2 ^ 28 % 8) ≤ 0x100000) ∧ ((((((s.job l j.val).ar (insOf w).a).toNat + (insOf w).ims 0 20) % 2 ^ 32).toNat) % 8 = 0) ∧ (s.vecGone l (s.job l j.val) = false)) ∧
    (∃ (l : Lane) (j : Fin 256) (w : DWord) (s : State), ((s.job l j.val).st = .running) ∧ ((s.job l j.val).pc + 8 < 0xf6000) ∧ ((s.le l).bad = []) ∧ (legalWord w 0x19 0 = true) ∧ ((insOf w).imm / 2 ^ 8 % 2 ^ 8 < kindRange ((insOf w).imm % 16)) ∧ (s.busRoom l ({ kind := (insOf w).imm % 16, index := (insOf w).imm / 2 ^ 8 % 2 ^ 8, tag := (s.job l j.val).tag, word1 := min ((s.now - (s.job l j.val).trigT) * 4 / 5) 65535 + j.val * 2 ^ 16, pay := [BitVec.ofInt 32 ((fun e => max (-(2 ^ 31)) (min (2 ^ 31 - 1) ((fun e => roundDiv (((s.job l j.val).blk (insOf w).a).val e * 2 ^ (((BitVec.ofNat 8 ((insOf w).imm / 2 ^ 16)).toInt) + 128).toNat) (2 ^ 288)) e))) 0), BitVec.ofInt 32 ((fun e => max (-(2 ^ 31)) (min (2 ^ 31 - 1) ((fun e => roundDiv (((s.job l j.val).blk (insOf w).a).val e * 2 ^ (((BitVec.ofNat 8 ((insOf w).imm / 2 ^ 16)).toInt) + 128).toNat) (2 ^ 288)) e))) 1), BitVec.ofInt 32 ((fun e => max (-(2 ^ 31)) (min (2 ^ 31 - 1) ((fun e => roundDiv (((s.job l j.val).blk (insOf w).a).val e * 2 ^ (((BitVec.ofNat 8 ((insOf w).imm / 2 ^ 16)).toInt) + 128).toNat) (2 ^ 288)) e))) 2), BitVec.ofInt 32 ((fun e => max (-(2 ^ 31)) (min (2 ^ 31 - 1) ((fun e => roundDiv (((s.job l j.val).blk (insOf w).a).val e * 2 ^ (((BitVec.ofNat 8 ((insOf w).imm / 2 ^ 16)).toInt) + 128).toNat) (2 ^ 288)) e))) 3), (s.job l j.val).ar (insOf w).b, (s.job l j.val).ar (insOf w).c] }) = true)) ∧
    (∃ (l : Lane) (j : Fin 256) (w : DWord) (s : State), (s.job l j.val).st = .running ∧ (s.job l j.val).pc + 8 < 0xf6000 ∧ (s.le l).bad = [] ∧ legalWord w 0x19 0 = true ∧ (insOf w).imm / 2 ^ 8 % 2 ^ 8 < kindRange ((insOf w).imm % 16) ∧ ∀ r : OutRec, r.kind = (insOf w).imm % 16 → s.busRoom l r = false) ∧
    (∃ (l : Lane) (j : Fin 256) (w : DWord) (s : State), (s.job l j.val).st = .running ∧ (s.job l j.val).pc + 8 < 0xf6000 ∧ (s.le l).bad = [] ∧ legalWord w 0x48 0 = true ∧ ((((s.job l j.val).ar (insOf w).b).toNat + (BitVec.ofNat 16 ((insOf w).imm / 2 ^ 16)).toInt) % 2 ^ 32).toNat + 8 ≤ 0xfc000 ∧ ((((s.job l j.val).ar (insOf w).b).toNat + (BitVec.ofNat 16 ((insOf w).imm / 2 ^ 16)).toInt) % 2 ^ 32).toNat % 8 = 0 ∧ ((((s.job l j.val).ar (insOf w).a).toNat + (BitVec.ofNat 16 ((insOf w).imm)).toInt) % 2 ^ 32).toNat + 32 ≤ 0xfc000 ∧ ((((s.job l j.val).ar (insOf w).a).toNat + (BitVec.ofNat 16 ((insOf w).imm)).toInt) % 2 ^ 32).toNat % 32 = 0 ∧ headerOf (s.jobRead l (s.job l j.val) (((((s.job l j.val).ar (insOf w).a).toNat + (BitVec.ofNat 16 ((insOf w).imm)).toInt) % 2 ^ 32).toNat) 32) = none ∧ (s.job l j.val).fly = [] ∧ (s.lane l).reset = false) ∧
    (∃ (l : Lane) (j : Fin 256) (w : DWord) (s : State) (h : Header), (s.job l j.val).st = .running ∧ (s.job l j.val).pc + 8 < 0xf6000 ∧ (s.le l).bad = [] ∧ legalWord w 0x48 0 = true ∧ ((((s.job l j.val).ar (insOf w).b).toNat + (BitVec.ofNat 16 ((insOf w).imm / 2 ^ 16)).toInt) % 2 ^ 32).toNat + 8 ≤ 0xfc000 ∧ ((((s.job l j.val).ar (insOf w).b).toNat + (BitVec.ofNat 16 ((insOf w).imm / 2 ^ 16)).toInt) % 2 ^ 32).toNat % 8 = 0 ∧ ((((s.job l j.val).ar (insOf w).a).toNat + (BitVec.ofNat 16 ((insOf w).imm)).toInt) % 2 ^ 32).toNat + 32 ≤ 0xfc000 ∧ ((((s.job l j.val).ar (insOf w).a).toNat + (BitVec.ofNat 16 ((insOf w).imm)).toInt) % 2 ^ 32).toNat % 32 = 0 ∧ headerOf (s.jobRead l (s.job l j.val) (((((s.job l j.val).ar (insOf w).a).toNat + (BitVec.ofNat 16 ((insOf w).imm)).toInt) % 2 ^ 32).toNat) 32) = some h ∧ ((((s.job l j.val).ar (insOf w).a).toNat + (BitVec.ofNat 16 ((insOf w).imm)).toInt) % 2 ^ 32).toNat + 32 + 4 * h.n ≤ 0xfc000 ∧ h.kind = 0) ∧
    (∃ (l : Lane) (j : Fin 256) (w : DWord) (s : State) (h : Header), (s.job l j.val).st = .running ∧ (s.job l j.val).pc + 8 < 0xf6000 ∧ (s.le l).bad = [] ∧ legalWord w 0x48 1 = true ∧ ((((s.job l j.val).ar (insOf w).a).toNat + (BitVec.ofNat 16 ((insOf w).imm)).toInt) % 2 ^ 32).toNat + 32 ≤ 0xfc000 ∧ ((((s.job l j.val).ar (insOf w).a).toNat + (BitVec.ofNat 16 ((insOf w).imm)).toInt) % 2 ^ 32).toNat % 32 = 0 ∧ headerOf (s.jobRead l (s.job l j.val) (((((s.job l j.val).ar (insOf w).a).toNat + (BitVec.ofNat 16 ((insOf w).imm)).toInt) % 2 ^ 32).toNat) 32) = some h ∧ ((((s.job l j.val).ar (insOf w).a).toNat + (BitVec.ofNat 16 ((insOf w).imm)).toInt) % 2 ^ 32).toNat + 32 + 4 * h.n ≤ 0xfc000 ∧ h.kind = 1) :=
  ⟨⟨.A, 0, dw 0x12 1 2 0 0 0 0x24, loads, by decide +kernel⟩,
   ⟨.A, 0, dw 0x11 0 2 3 0 0 0x20, loads, by decide +kernel⟩,
   ⟨.A, 0, dw 0x13 0 2 3 0 0 0x24, loads, by decide +kernel⟩,
   ⟨.A, 0, dw 0x50 0 2 4 0 0 0x20, loads, .bfixW .A 0 (dw 0x50 0 2 4 0 0 0x20), 32, 0, by decide +kernel⟩,
   ⟨.A, 0, dw 0x51 1 2 0 0 1 0x17f00020, loads, .bfltD .A 0 (dw 0x51 1 2 0 0 1 0x17f00020), 64, 1, by decide +kernel⟩,
   ⟨.A, 0, dw 0x18 1 2 0 4 0 0x20, loads, by decide +kernel⟩,
   ⟨.A, 0, dw 0x19 0 2 3 4 0 0xf80102, loads, by decide +kernel⟩,
   ⟨.A, 0, dw 0x19 0 2 3 4 0 0xf80102, loads.setBus .A { skQ := List.replicate 32 { r := oneRec } }, by decide +kernel, by decide +kernel, by decide +kernel, by decide +kernel, by decide +kernel,
    fun r h => by have h2 : r.kind = 2 := h; unfold State.busRoom OutRec.toSkink; rw [h2]; simp only [] ; generalize r.toDrive Lane.A = q; cases q <;> decide +kernel⟩,
   ⟨.A, 0, dw 0x48 1 2 3 0 0 0x200020, loads, by decide +kernel⟩,
   ⟨.A, 0, dw 0x48 1 2 3 0 0 0x200020, tabS ring16, ⟨16, 0, -3, 1000, 0⟩, by decide +kernel⟩,
   ⟨.A, 0, dw 0x48 1 2 3 0 1 0x20, tabS line3, ⟨3, 1, -3, 10, 100⟩, by decide +kernel⟩⟩

/-- The hypotheses of BlocksAreRoundedOnce can be met. -/
theorem test_meets_BlocksAreRoundedOnce :
    (∃ (xs : List (Int × Nat)) (k : _), (1 ≤ xs.length) ∧ (xs.length ≤ 8) ∧ ((∀ x ∈ xs, 0 < x.2)) ∧ (xs.length ≤ k)) ∧
    (∃ (xs : List (Int × Nat)), (1 ≤ xs.length) ∧ (xs.length ≤ 8) ∧ ((∀ x ∈ xs, 0 < x.2)) ∧ ((roundBlk (xs.map fun x => .frac x.1 x.2)).2 = true)) ∧
    (∃ (b : Blk), (b.normal = true)) ∧
    (∃ (n : Nat) (d : Nat), (0 < d) ∧ (0 < (sqrtRound n d))) ∧
    (∃ (n : Nat) (d : Nat), (0 < d) ∧ (4 * n = (2 * (sqrtRound n d) + 1) ^ 2 * d ∨ (0 < (sqrtRound n d) ∧ (2 * (sqrtRound n d) - 1) ^ 2 * d = 4 * n))) :=
  ⟨⟨[(1, 3), (-5, 7)], 2, by decide +kernel⟩,
   ⟨[(2 ^ 200, 1), (-1, 2 ^ 300)], by decide +kernel⟩,
   ⟨{}, by decide +kernel⟩,
   ⟨2, 1, by decide +kernel⟩,
   ⟨1, 4, by decide +kernel⟩⟩

/-- The hypotheses of NetworkNodesSend can be met. -/
theorem test_meets_NetworkNodesSend :
    (∃ (l : Lane) (c : Fin 2) (e : Fin 32) (v : Word) (s : State), (s.running l = true) ∧ (s.txState l c.val e.val ≠ 1) ∧ (s.txState l c.val e.val ≠ 2) ∧ (v.getLsbD 0 = true)) ∧
    (∃ (l : Lane) (c : Fin 2) (e : Fin 32) (v : Word) (s : State), ((s.txState l c.val e.val = 1 ∨ s.txState l c.val e.val = 2))) ∧
    (∃ (l : Lane) (c : Fin 2) (e : Fin 32) (s : State), (s.running l = true)) ∧
    (∃ (l : Lane) (c : Fin 2) (e : Fin 32) (s : State), (s.running l = true) ∧ (s.txState l c.val e.val = 2) ∧ (s.fg (scnTx l c.val e.val) SCN.TX3_LIFE ≠ 0) ∧ (s.fg (scnTx l c.val e.val) SCN.TX3_LIFE ≤ famGet (fun _ => 0) (s.scn l c.val).lives e.val)) ∧
    (∃ (l : Lane) (c : Fin 2) (slot : BitVec 10) (y : BitVec 8) (s : State), (s.running l = true) ∧ (s.scnState l c.val = 4) ∧ ((s.fb (scnB l c.val) SCN.CTRL_SYNCN = true ∧ s.fg (scnB l c.val) SCN.CTRL_SYNCSLOT = slot.toNat ∧ slot.toNat ≠ 1023))) ∧
    (∃ (l : Lane) (c : Fin 2) (slot : BitVec 10) (y : BitVec 8) (s : State), (s.running l = true) ∧ (s.scnState l c.val = 4) ∧ (¬ (s.fb (scnB l c.val) SCN.CTRL_SYNCN = true ∧ s.fg (scnB l c.val) SCN.CTRL_SYNCSLOT = slot.toNat ∧ slot.toNat ≠ 1023)) ∧ ((slot.toNat ≠ 1023 ∧ slot.toNat = s.fg (s.scnNow l c.val) SCN.MODE3_STATSLOT ∧ l = (s.netTx c.val).lane))) ∧
    (∃ (l : Lane) (c : Fin 2) (slot : BitVec 10) (y : BitVec 8) (s : State), (s.running l = true) ∧ (s.scnState l c.val = 4) ∧ (¬ (s.fb (scnB l c.val) SCN.CTRL_SYNCN = true ∧ s.fg (scnB l c.val) SCN.CTRL_SYNCSLOT = slot.toNat ∧ slot.toNat ≠ 1023)) ∧ (¬ (slot.toNat ≠ 1023 ∧ slot.toNat = s.fg (s.scnNow l c.val) SCN.MODE3_STATSLOT ∧ l = (s.netTx c.val).lane)) ∧ (s.txPick l c.val slot.toNat y.toNat = none)) ∧
    (∃ (l : Lane) (c : Fin 2) (now : Nat) (p : ScnPrep) (s : State), (s.running l = true) ∧ ((s.scn l c.val).prep = some p) ∧ (((s.scn l c.val).cut = true ∨ ((s.fb (scnB l c.val) SCN.CTRL_GUARDEN = true) ∧ (s.scn l c.val).blocked = true) ∨ (p.f.slot = 1023 ∧ (s.scn l c.val).mini ≠ some p.f.dynid.toNat)))) ∧
    (∃ (l : Lane) (c : Fin 2) (now : Nat) (p : ScnPrep) (s : State), (s.running l = true) ∧ ((s.scn l c.val).prep = some p) ∧ (¬ ((s.scn l c.val).cut = true ∨ ((s.fb (scnB l c.val) SCN.CTRL_GUARDEN = true) ∧ (s.scn l c.val).blocked = true) ∨ (p.f.slot = 1023 ∧ (s.scn l c.val).mini ≠ some p.f.dynid.toNat))) ∧ (((s.fb (scnB l c.val) SCN.CTRL_GUARDEN = true) ∧ s.guardOpen l c.val p.f.slot now = false))) ∧
    (∃ (l : Lane) (c : Fin 2) (now : Nat) (p : ScnPrep) (s : State), (s.running l = true) ∧ ((s.scn l c.val).prep = some p) ∧ (¬ ((s.scn l c.val).cut = true ∨ ((s.fb (scnB l c.val) SCN.CTRL_GUARDEN = true) ∧ (s.scn l c.val).blocked = true) ∨ (p.f.slot = 1023 ∧ (s.scn l c.val).mini ≠ some p.f.dynid.toNat))) ∧ (¬ ((s.fb (scnB l c.val) SCN.CTRL_GUARDEN = true) ∧ s.guardOpen l c.val p.f.slot now = false)) ∧ (p.entry = none)) ∧
    (∃ (l : Lane) (c : Fin 2) (line : Bool) (k : Nat) (s : State), (s.running l = true) ∧ (2 ≤ s.scnState l c.val)) ∧
    (∃ (l : Lane) (c : Fin 2) (s : State), (s.running l = true) ∧ (s.fb (scnB l c.val) SCN.CTRL_GUARDEN = true) ∧ (2 ≤ s.scnState l c.val)) ∧
    (∃ (l : Lane) (n : Fin 16) (s : State), (s.running l = true) ∧ (s.fb (scnG l + 4 * n.val) SCNG.TRIG_EN = true) ∧ (s.scnState l (s.fg (scnG l + 4 * n.val) SCNG.TRIG_CH) = 4) ∧ (s.fg (scnG l + 4 * n.val) SCNG.TRIG_SLOT < s.fg (s.scnNow l (s.fg (scnG l + 4 * n.val) SCNG.TRIG_CH)) SCN.MODE1_NSLOT)) ∧
    (∃ (l : Lane) (c : Fin 2) (w : Fin 512) (s : State), (s.running l = true)) :=
  ⟨⟨.A, 0, 31, 1, (net 4).fs (scnTx .A 0 31) SCN.TX1_LEN 1457, by decide +kernel⟩,
   ⟨.A, 0, 5, 1, (net 4).setTx .A 0 5 2, by decide +kernel⟩,
   ⟨.A, 0, 5, (net 4).setTx .A 0 5 3, by decide +kernel⟩,
   ⟨.A, 0, 5, (((net 4).setTx .A 0 5 2).fs (scnTx .A 0 5) SCN.TX3_LIFE 2).setScn .A 0 { lives := [(5, 2)] }, by decide +kernel⟩,
   ⟨.A, 0, 3, 0, ((net 4).fs (scnB .A 0) SCN.CTRL_SYNCN 1).fs (scnB .A 0) SCN.CTRL_SYNCSLOT 3, by decide +kernel⟩,
   ⟨.A, 0, 4, 0, (net 4).fs (scnMode .A 0 0) SCN.MODE3_STATSLOT 4, by decide +kernel⟩,
   ⟨.A, 0, 6, 0, net 4, by decide +kernel⟩,
   ⟨.A, 0, 0, { f := scnF 0 3, entry := some 5 }, net 4 .A 0 { prep := some { f := scnF 0 3, entry := some 5 }, cut := true }, by decide +kernel⟩,
   ⟨.A, 0, 160000, { f := scnF 0 3, entry := some 5 }, ((net 4 .A 0 { prep := some { f := scnF 0 3, entry := some 5 } }).fs (scnB .A 0) SCN.CTRL_GUARDEN 1), by decide +kernel⟩,
   ⟨.A, 0, 0, { f := scnF 1 3, entry := none }, (net 4 .A 0 { prep := some { f := scnF 1 3, entry := none } }), by decide +kernel⟩,
   ⟨.A, 0, true, 3, net 4, by decide +kernel⟩,
   ⟨.A, 1, (net 2 .A 1).fs (scnB .A 1) SCN.CTRL_GUARDEN 1, by decide +kernel⟩,
   ⟨.A, 15, ((net 4).fs (scnG .A + 60) SCNG.TRIG_EN 1).fs (scnG .A + 60) SCNG.TRIG_SLOT 9, by decide +kernel⟩,
   ⟨.A, 0, 511, (net 4).setReg (scnB .A 0 + 0x1000 + 4 * 511) 77, by decide +kernel⟩⟩

/-- The hypotheses of NetworkNodesKeepTime can be met. -/
theorem test_meets_NetworkNodesKeepTime :
    (∃ (l : Lane) (c : Fin 2) (v : Word) (s : State), (s.running l = true) ∧ ((s.lane l).locked = false) ∧ (v.getLsbD 0 = false)) ∧
    (∃ (l : Lane) (c : Fin 2) (v : Word) (s : State), (s.running l = true) ∧ ((s.lane l).locked = false) ∧ (v.getLsbD 0 = true) ∧ ((s.rowPut l false (0x40300000 + 0x2000 * c.val) v).scnCfgOk l c.val = false)) ∧
    (∃ (l : Lane) (c : Fin 2) (v : Word) (s : State), (s.running l = true) ∧ ((s.lane l).locked = false) ∧ (v.getLsbD 0 = true) ∧ ((s.rowPut l false (0x40300000 + 0x2000 * c.val) v).scnCfgOk l c.val = true) ∧ (s.resPending l (0x30 + c.val) = false) ∧ (s.scnState l c.val = 0)) ∧
    (∃ (l : Lane) (c : Fin 2) (s : State), (s.running l = true) ∧ (s.scnState l c.val = 1) ∧ (s.fb (scnB l c.val) SCN.CTRL_CSN = true) ∧ ((s.scn l c.val).t0 + (2 + s.fg (scnB l c.val) SCN.CTRL_CSRANK) * (100 * s.fg (scnMode l c.val 0) SCN.MODE0_CYCLEN) ≤ s.now)) ∧
    (∃ (l : Lane) (c : Fin 2) (f : ScnFrame) (sfd : Int) (s : State), (s.running l = true) ∧ (s.scnState l c.val ≠ 0) ∧ (frameOk f (s.fg (scnB l c.val) SCN.IDS_NETID) = false)) ∧
    (∃ (l : Lane) (c : Fin 2) (f : ScnFrame) (sfd : Int) (s : State), (s.running l = true) ∧ (s.scnState l c.val = 1) ∧ (frameOk f (s.fg (scnB l c.val) SCN.IDS_NETID) = true) ∧ ((f.kind = 1 ∨ f.kind = 2) ∧ f.slot ∈ s.syncSlots l c.val)) ∧
    (∃ (l : Lane) (c : Fin 2) (f : ScnFrame) (sfd : Int) (s : State), (s.running l = true) ∧ (s.scnState l c.val = 1) ∧ (frameOk f (s.fg (scnB l c.val) SCN.IDS_NETID) = true) ∧ (¬ ((f.kind = 1 ∨ f.kind = 2) ∧ f.slot ∈ s.syncSlots l c.val))) ∧
    (∃ (l : Lane) (c : Fin 2) (f : ScnFrame) (sfd : Int) (s : State), (s.running l = true) ∧ (s.scnState l c.val = 2) ∧ (frameOk f (s.fg (scnB l c.val) SCN.IDS_NETID) = true) ∧ (f.kind = 2) ∧ ((s.scn l c.val).cs < 4)) ∧
    (∃ (l : Lane) (c : Fin 2) (f : ScnFrame) (sfd : Int) (e : Nat) (s : State), (s.running l = true) ∧ (2 ≤ s.scnState l c.val) ∧ (frameOk f (s.fg (scnB l c.val) SCN.IDS_NETID) = true) ∧ (f.kind = 0) ∧ (f.slot ≠ 1023) ∧ (s.inSlot l c.val f sfd = true) ∧ (f.cycle.toNat = s.fg (scnB l c.val) SCN.STATUS_CYCLE) ∧ (f.mode.val = s.fg (scnB l c.val) SCN.STATUS_MODE) ∧ (e < 64) ∧ ((∀ k < 64, s.rxTakes l c.val k f = true ↔ k = e))) ∧
    (∃ (l : Lane) (c : Fin 2) (f : ScnFrame) (sfd : Int) (s : State), (s.running l = true) ∧ (3 ≤ s.scnState l c.val) ∧ (frameOk f (s.fg (scnB l c.val) SCN.IDS_NETID) = true) ∧ (f.cycle.toNat ≠ s.fg (scnB l c.val) SCN.STATUS_CYCLE)) ∧
    (∃ (l : Lane) (c : Fin 2) (d : Int) (s : State), (s.running l = true) ∧ (s.scnState l c.val = 4) ∧ (s.fg (scnG l) SCNG.GLOBAL_CYCSRC = c.val)) ∧
    (∃ (l : Lane) (c : Fin 2) (d : Int) (s : State), (s.running l = true) ∧ (s.scnState l c.val = 4) ∧ (¬ (s.fb (scnB l c.val) SCN.CTRL_GUARDEN = true ∧ (s.scn l c.val).first = false ∧ 200 * s.fg (s.scnNow l c.val) SCN.MODE3_GUARD < d.natAbs))) ∧
    (∃ (l : Lane) (c : Fin 2) (d : Int) (s : State), (s.running l = true) ∧ (s.scnState l c.val = 4) ∧ ((s.fb (scnB l c.val) SCN.CTRL_GUARDEN = true ∧ (s.scn l c.val).first = false ∧ 200 * s.fg (s.scnNow l c.val) SCN.MODE3_GUARD < d.natAbs))) ∧
    (∃ (l : Lane) (c : Fin 2) (s : State), (s.running l = true) ∧ (2 ≤ s.scnState l c.val) ∧ (s.fb (calB l) CAL.CTRL_OSCEN = false) ∧ (agreed (s.agreeSlots l c.val) (s.scn l c.val).reqsPrev (s.scnReqs l c.val) = none) ∧ ((s.fb (scnB l c.val) SCN.STATUS_MREQV = false ∨ (s.scn l c.val).carried < 15)) ∧ ((s.scn l c.val).others ≠ 0)) ∧
    (∃ (l : Lane) (c : Fin 2) (s : State), (s.running l = true) ∧ (2 ≤ s.scnState l c.val) ∧ (s.fb (calB l) CAL.CTRL_OSCEN = false) ∧ (agreed (s.agreeSlots l c.val) (s.scn l c.val).reqsPrev (s.scnReqs l c.val) = none) ∧ ((s.fb (scnB l c.val) SCN.STATUS_MREQV = false ∨ (s.scn l c.val).carried < 15)) ∧ (s.scnState l c.val = 2) ∧ (2 ≤ (s.scn l c.val).cs) ∧ ((s.scn l c.val).saw = true) ∧ (1 ≤ (s.scn l c.val).pair)) ∧
    (∃ (l : Lane) (c : Fin 2) (s : State), (s.running l = true) ∧ (2 ≤ s.scnState l c.val) ∧ (s.fb (calB l) CAL.CTRL_OSCEN = false) ∧ (agreed (s.agreeSlots l c.val) (s.scn l c.val).reqsPrev (s.scnReqs l c.val) = none) ∧ ((s.fb (scnB l c.val) SCN.STATUS_MREQV = false ∨ (s.scn l c.val).carried < 15)) ∧ (s.scnState l c.val = 2) ∧ ((s.scn l c.val).saw = false) ∧ (15 ≤ (s.scn l c.val).cs)) ∧
    (∃ (l : Lane) (c : Fin 2) (s : State), (s.running l = true) ∧ (2 ≤ s.scnState l c.val) ∧ (s.fb (calB l) CAL.CTRL_OSCEN = false) ∧ (agreed (s.agreeSlots l c.val) (s.scn l c.val).reqsPrev (s.scnReqs l c.val) = none) ∧ ((s.fb (scnB l c.val) SCN.STATUS_MREQV = false ∨ (s.scn l c.val).carried < 15)) ∧ (s.scnState l c.val = 3) ∧ ((s.scn l c.val).first = true)) ∧
    (∃ (l : Lane) (c : Fin 2) (s : State), (s.running l = true) ∧ (2 ≤ s.scnState l c.val) ∧ (s.fb (calB l) CAL.CTRL_OSCEN = false) ∧ (agreed (s.agreeSlots l c.val) (s.scn l c.val).reqsPrev (s.scnReqs l c.val) = none) ∧ ((s.fb (scnB l c.val) SCN.STATUS_MREQV = false ∨ (s.scn l c.val).carried < 15)) ∧ (s.scnState l c.val = 3) ∧ ((s.scn l c.val).first = false) ∧ (((s.scnCorrect l c.val).1.isSome = true ∧ (((s.scnCorrect l c.val).1.map Int.natAbs).getD 0) ≤ s.fg (s.scnNow l c.val) SCN.MODE4_OFSLIM))) ∧
    (∃ (l : Lane) (c : Fin 2) (s : State), (s.running l = true) ∧ (2 ≤ s.scnState l c.val) ∧ (s.fb (calB l) CAL.CTRL_OSCEN = false) ∧ (agreed (s.agreeSlots l c.val) (s.scn l c.val).reqsPrev (s.scnReqs l c.val) = none) ∧ ((s.fb (scnB l c.val) SCN.STATUS_MREQV = false ∨ (s.scn l c.val).carried < 15)) ∧ (s.scnState l c.val = 3) ∧ ((s.scn l c.val).first = false) ∧ (¬ ((s.scnCorrect l c.val).1.isSome = true ∧ (((s.scnCorrect l c.val).1.map Int.natAbs).getD 0) ≤ s.fg (s.scnNow l c.val) SCN.MODE4_OFSLIM))) ∧
    (∃ (l : Lane) (c : Fin 2) (s : State), (s.running l = true) ∧ (2 ≤ s.scnState l c.val) ∧ (s.fb (calB l) CAL.CTRL_OSCEN = false) ∧ (agreed (s.agreeSlots l c.val) (s.scn l c.val).reqsPrev (s.scnReqs l c.val) = none) ∧ ((s.fb (scnB l c.val) SCN.STATUS_MREQV = false ∨ (s.scn l c.val).carried < 15)) ∧ (s.scnState l c.val = 4) ∧ (¬ (s.fg (s.scnNow l c.val) SCN.MODE4_OFSLIM < (((s.scnCorrect l c.val).1.map Int.natAbs).getD 0))) ∧ (((s.scn l c.val).others ≠ 0 ∨ (s.scn l c.val).silent = 0))) ∧
    (∃ (l : Lane) (c : Fin 2) (s : State), (s.running l = true) ∧ (2 ≤ s.scnState l c.val) ∧ (s.fb (calB l) CAL.CTRL_OSCEN = false) ∧ (agreed (s.agreeSlots l c.val) (s.scn l c.val).reqsPrev (s.scnReqs l c.val) = none) ∧ ((s.fb (scnB l c.val) SCN.STATUS_MREQV = false ∨ (s.scn l c.val).carried < 15)) ∧ (s.scnState l c.val = 4) ∧ (((s.fg (s.scnNow l c.val) SCN.MODE4_OFSLIM < (((s.scnCorrect l c.val).1.map Int.natAbs).getD 0)) ∨ ((s.scn l c.val).others = 0 ∧ 1 ≤ (s.scn l c.val).silent)))) ∧
    (∃ (l : Lane) (c : Fin 2) (m : Nat) (s : State), (s.running l = true) ∧ (s.scnState l c.val = 4) ∧ (s.fb (calB l) CAL.CTRL_OSCEN = false) ∧ (agreed (s.agreeSlots l c.val) (s.scn l c.val).reqsPrev (s.scnReqs l c.val) = some m) ∧ (m < 8) ∧ ((s.scn l c.val).others = 0) ∧ ((s.scn l c.val).silent = 0)) ∧
    (∃ (a : Int) (b : Int) (c : Int), (a ≤ b) ∧ (b ≤ c)) ∧
    (∃ (l : Lane) (c : Fin 2) (v : Word) (s : State), (s.running l = true) ∧ (v.getLsbD 3 = true) ∧ ((s.fb (scnMode l c.val (v.toNat % 8)) SCN.MODE0_VALID = true ∧ v.toNat % 8 ≠ s.fg (scnB l c.val) SCN.STATUS_MODE))) ∧
    (∃ (l : Lane) (c : Fin 2) (v : Word) (s : State), (s.running l = true) ∧ (v.getLsbD 3 = true) ∧ (¬ (s.fb (scnMode l c.val (v.toNat % 8)) SCN.MODE0_VALID = true ∧ v.toNat % 8 ≠ s.fg (scnB l c.val) SCN.STATUS_MODE))) ∧
    (∃ (l : Lane) (c : Fin 2) (s : State), (s.running l = true)) :=
  ⟨⟨.A, 0, 0, net 4, by decide +kernel⟩,
   ⟨.A, 0, 1, svc, by decide +kernel⟩,
   ⟨.A, 0, 1, (((((((((svc.fs (scnMode .A 0 0) SCN.MODE0_VALID 1).fs (scnMode .A 0 0) SCN.MODE0_CYCLEN 10000).fs (scnMode .A 0 0) SCN.MODE1_NSLOT 10).fs (scnMode .A 0 0) SCN.MODE1_SLOTLEN 500).fs (scnMode .A 0 0) SCN.MODE3_GUARD 10).fs (scnMode .A 0 0) SCN.MODE3_ACTOFS 20).fs (scnMode .A 0 0) SCN.MODE3_STATSLOT 1023).fs (scnMode .A 0 0) SCN.MODE4_OFSLIM 100).fs (scnMode .A 0 0) SCN.MODE2_MINILEN 20), by decide +kernel⟩,
   ⟨.A, 0, later (200 * 100) (((net 1).fs (scnB .A 0) SCN.CTRL_CSN 1).fs (scnMode .A 0 0) SCN.MODE0_CYCLEN 100), by decide +kernel⟩,
   ⟨.A, 0, scnF 0 3 false, 0, net 4, by decide +kernel⟩,
   ⟨.A, 0, scnF 1 3, 0, ((net 1).fs (scnB .A 0) SCN.SYNC_EN 1).fs (scnB .A 0) SCN.SYNC_SLOT 3, by decide +kernel⟩,
   ⟨.A, 0, scnF 0 3, 0, later 5 (net 1), by decide +kernel⟩,
   ⟨.A, 0, scnF 2 3, 0, net 2 .A 0 { cs := 3 }, by decide +kernel⟩,
   ⟨.A, 0, scnF 0 3 true [1, 2], 160000, 7, (((net 4).fs (scnRx .A 0 7) SCN.RX1_EN 1).fs (scnRx .A 0 7) SCN.RX0_SLOT 3).fs (scnRx .A 0 7) SCN.RX0_MODEMASK 1 |>.fs (scnRx .A 0 7) SCN.RX1_SIZE 1, by decide +kernel⟩,
   ⟨.A, 0, scnF 1 3, 160000, (net 4).fs (scnB .A 0) SCN.STATUS_CYCLE 2, by decide +kernel⟩,
   ⟨.A, 0, 2000, ((net 4 .A 0 { first := false, blocked := true }).fs (scnB .A 0) SCN.CTRL_GUARDEN 1).fs (scnMode .A 0 0) SCN.MODE3_GUARD 10, by decide +kernel⟩,
   ⟨.A, 0, 2000, ((net 4 .A 0 { first := false, blocked := true }).fs (scnB .A 0) SCN.CTRL_GUARDEN 1).fs (scnMode .A 0 0) SCN.MODE3_GUARD 10, by decide +kernel⟩,
   ⟨.A, 0, -2001, ((net 4 .A 0 { first := false }).fs (scnB .A 0) SCN.CTRL_GUARDEN 1).fs (scnMode .A 0 0) SCN.MODE3_GUARD 10, by decide +kernel⟩,
   ⟨.A, 0, net 2 .A 0 { cs := 2, saw := true, pair := 1, others := 1, devs := [(3, 100)], first := false }, by decide +kernel⟩,
   ⟨.A, 0, net 2 .A 0 { cs := 2, saw := true, pair := 1, others := 1, devs := [(3, 100)], first := false }, by decide +kernel⟩,
   ⟨.A, 0, net 2 .A 0 { cs := 15 }, by decide +kernel⟩,
   ⟨.A, 0, net 3 .A 0 { first := true }, by decide +kernel⟩,
   ⟨.A, 0, net 3 .A 0 { first := false, devs := [(3, 100), (4, -50)], others := 2 }, by decide +kernel⟩,
   ⟨.A, 0, (net 3 .A 0 { first := false, devs := [(3, 1200), (4, 1300)], others := 2 }), by decide +kernel⟩,
   ⟨.A, 0, net 4 .A 0 { first := false }, by decide +kernel⟩,
   ⟨.A, 0, net 4 .A 0 { first := false, silent := 1 }, by decide +kernel⟩,
   ⟨.A, 0, 3, ((net 4 .A 0 { first := false, reqsPrev := [(3, some 3)], reqs := [(3, some 3)] }).fs (scnB .A 0) SCN.SYNC_EN 1).fs (scnB .A 0) SCN.SYNC_SLOT 3, by decide +kernel⟩,
   ⟨-4, 3, 9, by decide +kernel⟩,
   ⟨.A, 0, 9, (net 4).fs (scnMode .A 0 1) SCN.MODE0_VALID 1, by decide +kernel⟩,
   ⟨.A, 0, 9, net 4, by decide +kernel⟩,
   ⟨.A, 1, (net 4 .A 1 { next := some 3 }).fs (scnB .A 1) SCN.STATUS_MREQV 1, by decide +kernel⟩⟩

/-- The hypotheses of StarsEnforceTheSchedule can be met. -/
theorem test_meets_StarsEnforceTheSchedule :
    (∃ (n : DLane) (q : Fin 7) (f : ScnFrame) (sfd : Int) (s : State), (s.starPort n q.val = true) ∧ (s.running n.lane = true) ∧ ((frameHeadOk f (s.fg (scnB n.lane (dno n)) SCN.IDS_NETID)) = false)) ∧
    (∃ (n : DLane) (q : Fin 7) (f : ScnFrame) (sfd : Int) (s : State), (s.starPort n q.val = true) ∧ (s.running n.lane = true) ∧ ((frameHeadOk f (s.fg (scnB n.lane (dno n)) SCN.IDS_NETID)) = true) ∧ (s.starEnd n = false) ∧ (s.fb (starB n) STAR.STATUS_ENFORCE = true) ∧ (f.slot ≠ 1023) ∧ (f.kind = 0) ∧ ((f.slot < s.fg (s.starNow n) SCN.MODE1_NSLOT ∧ f.cycle.toNat = s.fg (starB n) STAR.STATUS_CYCLE ∧ f.mode.val = s.starMode n ∧ ((sfd - s.fg (starP n q.val) STAR.PORT_PDLY) - 100 * (f.slot * s.fg (s.starNow n) SCN.MODE1_SLOTLEN + s.fg (s.starNow n) SCN.MODE3_ACTOFS)).natAbs ≤ 100 * s.fg (s.starNow n) SCN.MODE3_GUARD ∧ ((s.slotOwner (dno n) (s.starMode n) f.slot) = q.val ∨ ((s.slotOwner (dno n) (s.starMode n) f.slot) = 7 ∧ q.val = 4 + (s.star n).unit) ∨ ((s.slotOwner (dno n) (s.starMode n) f.slot) = 8 ∧ ∃ g ∈ (s.star n).grants, g.1 = f.slot ∧ g.2.1 = q.val))))) ∧
    (∃ (n : DLane) (q : Fin 7) (f : ScnFrame) (sfd : Int) (s : State), (s.starPort n q.val = true) ∧ (s.running n.lane = true) ∧ ((frameHeadOk f (s.fg (scnB n.lane (dno n)) SCN.IDS_NETID)) = true) ∧ (s.starEnd n = false) ∧ (s.fb (starB n) STAR.STATUS_ENFORCE = true) ∧ (f.slot ≠ 1023) ∧ (f.kind = 0) ∧ (¬ (f.slot < s.fg (s.starNow n) SCN.MODE1_NSLOT ∧ f.cycle.toNat = s.fg (starB n) STAR.STATUS_CYCLE ∧ f.mode.val = s.starMode n ∧ ((sfd - s.fg (starP n q.val) STAR.PORT_PDLY) - 100 * (f.slot * s.fg (s.starNow n) SCN.MODE1_SLOTLEN + s.fg (s.starNow n) SCN.MODE3_ACTOFS)).natAbs ≤ 100 * s.fg (s.starNow n) SCN.MODE3_GUARD ∧ ((s.slotOwner (dno n) (s.starMode n) f.slot) = q.val ∨ ((s.slotOwner (dno n) (s.starMode n) f.slot) = 7 ∧ q.val = 4 + (s.star n).unit) ∨ ((s.slotOwner (dno n) (s.starMode n) f.slot) = 8 ∧ ∃ g ∈ (s.star n).grants, g.1 = f.slot ∧ g.2.1 = q.val))))) ∧
    (∃ (n : DLane) (q : Fin 7) (f : ScnFrame) (sfd : Int) (s : State), (s.starPort n q.val = true) ∧ (s.running n.lane = true) ∧ ((frameHeadOk f (s.fg (scnB n.lane (dno n)) SCN.IDS_NETID)) = true) ∧ (s.starEnd n = false) ∧ (s.fb (starB n) STAR.STATUS_ENFORCE = true) ∧ (f.slot = 1023) ∧ (f.dynid ≠ 0) ∧ ((0 ≤ (sfd - s.fg (starP n q.val) STAR.PORT_PDLY) ∧ (sfd - s.fg (starP n q.val) STAR.PORT_PDLY) ≤ 200 * s.fg (s.starNow n) SCN.MODE3_GUARD ∧ s.dynOwner n (s.starMode n) f.dynid.toNat = q.val))) ∧
    (∃ (n : DLane) (q : Fin 7) (f : ScnFrame) (sfd : Int) (s : State), (s.starPort n q.val = true) ∧ (s.running n.lane = true) ∧ ((frameHeadOk f (s.fg (scnB n.lane (dno n)) SCN.IDS_NETID)) = true) ∧ (s.starEnd n = false) ∧ (s.fb (starB n) STAR.STATUS_ENFORCE = true) ∧ (f.slot = 1023) ∧ (f.dynid ≠ 0) ∧ (¬ (0 ≤ (sfd - s.fg (starP n q.val) STAR.PORT_PDLY) ∧ (sfd - s.fg (starP n q.val) STAR.PORT_PDLY) ≤ 200 * s.fg (s.starNow n) SCN.MODE3_GUARD ∧ s.dynOwner n (s.starMode n) f.dynid.toNat = q.val))) ∧
    (∃ (n : DLane) (q : Fin 7) (f : ScnFrame) (sfd : Int) (s : State), (s.starPort n q.val = true) ∧ (s.running n.lane = true) ∧ ((frameHeadOk f (s.fg (scnB n.lane (dno n)) SCN.IDS_NETID)) = true) ∧ (s.starEnd n = false) ∧ (s.fb (starB n) STAR.STATUS_ENFORCE = false) ∧ (frameSync f = true) ∧ ((s.star n).fwd = none)) ∧
    (∃ (n : DLane) (q : Fin 7) (f : ScnFrame) (sfd : Int) (s : State), (s.starPort n q.val = true) ∧ (s.running n.lane = true) ∧ ((frameHeadOk f (s.fg (scnB n.lane (dno n)) SCN.IDS_NETID)) = true) ∧ (s.starEnd n = false) ∧ (s.fb (starB n) STAR.STATUS_ENFORCE = false) ∧ ((frameSync f = false ∨ (s.star n).fwd ≠ none))) ∧
    (∃ (n : DLane) (q : Fin 7) (f : ScnFrame) (sfd : Int) (s : State), (s.starPort n q.val = true) ∧ (s.running n.lane = true) ∧ ((frameHeadOk f (s.fg (scnB n.lane (dno n)) SCN.IDS_NETID)) = true) ∧ (s.starEnd n = true)) ∧
    (∃ (n : DLane) (fin : Int) (f : ScnFrame) (q : Nat) (s : State), ((s.star n).fwd = some q) ∧ ((s.star n).line = some f) ∧ (s.running n.lane = true) ∧ ((s.fb (starB n) STAR.STATUS_ENFORCE = true ∧ s.starEnd n = false ∧ s.starLate n q f fin = true) ∨ f.fcsOk = false)) ∧
    (∃ (n : DLane) (fin : Int) (f : ScnFrame) (q : Nat) (s : State), ((s.star n).fwd = some q) ∧ ((s.star n).line = some f) ∧ (s.running n.lane = true) ∧ (¬ (s.fb (starB n) STAR.STATUS_ENFORCE = true ∧ s.starEnd n = false ∧ s.starLate n q f fin = true)) ∧ (f.fcsOk = true)) ∧
    (∃ (n : DLane) (fin : Int) (f : ScnFrame) (q : Nat) (s : State), ((s.star n).fwd = some q) ∧ ((s.star n).line = some f) ∧ (s.running n.lane = true) ∧ ((s.fb (starB n) STAR.STATUS_ENFORCE = true ∧ s.starEnd n = false ∧ s.starLate n q f fin = true))) ∧
    (∃ (n : DLane) (q : Nat) (f : ScnFrame) (fin : Int) (s : State), (f.slot ≠ 1023)) ∧
    (∃ (n : DLane) (s : State), (s.starOn n = true) ∧ ((s.star n).timed = true) ∧ ((s.star n).claims = []) ∧ (s.running n.lane = true) ∧ (agreed (s.agreeSlots n.lane (dno n)) (s.star n).reqsPrev (s.star n).reqs = none) ∧ (¬ ((((s.star n).devs.map (·.2)) ≠ [] ∧ (s.fg (s.starNow n) SCN.MODE4_OFSLIM) < (midpoint ((s.star n).devs.map (·.2))).natAbs) ∨ (((s.star n).devs.map (·.2)).length < 2 ∧ 1 ≤ (s.star n).bad))) ∧ (2 ≤ (((s.star n).devs.map (·.2)).filter fun d => decide (d.natAbs ≤ (s.fg (s.starNow n) SCN.MODE4_OFSLIM))).length)) ∧
    (∃ (n : DLane) (s : State), (s.starOn n = true) ∧ ((s.star n).timed = true) ∧ ((s.star n).claims = []) ∧ (s.running n.lane = true) ∧ (agreed (s.agreeSlots n.lane (dno n)) (s.star n).reqsPrev (s.star n).reqs = none) ∧ (¬ ((((s.star n).devs.map (·.2)) ≠ [] ∧ (s.fg (s.starNow n) SCN.MODE4_OFSLIM) < (midpoint ((s.star n).devs.map (·.2))).natAbs) ∨ (((s.star n).devs.map (·.2)).length < 2 ∧ 1 ≤ (s.star n).bad))) ∧ ((((s.star n).devs.map (·.2)).filter fun d => decide (d.natAbs ≤ (s.fg (s.starNow n) SCN.MODE4_OFSLIM))).length < 2)) ∧
    (∃ (n : DLane) (s : State), (s.starOn n = true) ∧ ((s.star n).timed = true) ∧ ((s.star n).claims = []) ∧ (s.running n.lane = true) ∧ (agreed (s.agreeSlots n.lane (dno n)) (s.star n).reqsPrev (s.star n).reqs = none) ∧ (((((s.star n).devs.map (·.2)) ≠ [] ∧ (s.fg (s.starNow n) SCN.MODE4_OFSLIM) < (midpoint ((s.star n).devs.map (·.2))).natAbs) ∨ (((s.star n).devs.map (·.2)).length < 2 ∧ 1 ≤ (s.star n).bad)))) ∧
    (∃ (n : DLane) (a : Int) (b : Int) (p : Nat) (q : Nat) (k : Nat) (u : Nat) (s : State), (s.starOn n = true) ∧ ((s.star n).timed = true) ∧ ((s.star n).devs = [(p, a), (q, b)]) ∧ ((s.star n).claims = [(k, u)]) ∧ ((s.star n).grants = []) ∧ (k < 1023) ∧ (u < 7) ∧ ((midpoint [a, b]).natAbs ≤ s.fg (s.starNow n) SCN.MODE4_OFSLIM) ∧ (s.running n.lane = true) ∧ (agreed (s.agreeSlots n.lane (dno n)) (s.star n).reqsPrev (s.star n).reqs = none)) ∧
    (∃ (n : DLane) (slot : BitVec 10) (q : Nat) (k : Nat) (s : State), ((s.star n).grants = [(slot.toNat, q, k)]) ∧ (64 ≤ k) ∧ (s.fg (starB n) STAR.CLAIM_SLOT = slot.toNat)) ∧
    (∃ (n : DLane) (slot : BitVec 10) (q : Nat) (k : Nat) (s : State), ((s.star n).grants = [(slot.toNat, q, k)]) ∧ (k < 64)) ∧
    (∃ (n : DLane) (q : Fin 4) (s : State), (s.fb (starP n q.val) STAR.PORT_LINK = true) ∧ (s.running n.lane = true)) ∧
    (∃ (n : DLane) (q : Fin 4) (s : State), ((s.starOn n = true ∧ s.fb (starP n q.val) STAR.PORT_PEN = true ∧ (s.starEnd n = false ∨ q = 0)))) ∧
    (∃ (n : DLane) (q : Fin 4) (s : State), (¬ (s.starOn n = true ∧ s.fb (starP n q.val) STAR.PORT_PEN = true ∧ (s.starEnd n = false ∨ q = 0)))) ∧
    (∃ (n : DLane) (v : Word) (s : State), (s.running n.lane = true) ∧ ((s.lane n.lane).locked = false) ∧ (v.getLsbD 0 = false)) ∧
    (∃ (n : DLane) (v : Word) (s : State), (s.running n.lane = true) ∧ ((s.lane n.lane).locked = false) ∧ (v.getLsbD 0 = true)) :=
  ⟨⟨.A, 2, { scnF 0 3 with netid := 1 }, 0, starS .A true, by decide +kernel⟩,
   ⟨.A, 2, scnF 0 3, 150000, starS .A true, by decide +kernel⟩,
   ⟨.A, 2, scnF 0 4, 200000, starS .A true, by decide +kernel⟩,
   ⟨.A, 2, frameSeal { scnF 0 1023 with dynid := 5 } [], 0, (starS .A true).setReg (starB .A + 0xa004) 0x200, by decide +kernel⟩,
   ⟨.A, 2, frameSeal { scnF 0 1023 with dynid := 5 } [], 100, starS .A true, by decide +kernel⟩,
   ⟨.A, 2, scnF 1 3, 0, starS .A false, by decide +kernel⟩,
   ⟨.A, 2, scnF 0 3, 0, starS .A false, by decide +kernel⟩,
   ⟨.A, 0, scnF 0 3, 0, (((starS .A true).fs (starB .A) STAR.CTRL_OPMODE 1).fs (starP .A 0) STAR.PORT_PEN 1).fs (starP .A 0) STAR.PORT_LINK 1, by decide +kernel⟩,
   ⟨.A, 200001, scnF 0 3, 2, starS .A true { fwd := some 2, line := some (scnF 0 3) }, by decide +kernel⟩,
   ⟨.A, 200000, scnF 0 3, 2, starS .A true { fwd := some 2, line := some (scnF 0 3) }, by decide +kernel⟩,
   ⟨.A, 200001, scnF 0 3, 2, starS .A true { fwd := some 2, line := some (scnF 0 3) }, by decide +kernel⟩,
   ⟨.A, 2, scnF 0 3, 200001, starS .A true, by decide +kernel⟩,
   ⟨.B, starS .B false { timed := true, devs := [(3, 100), (4, -100)], good := 1 }, by decide +kernel⟩,
   ⟨.B, starS .B true { timed := true, devs := [(3, 900)], good := 3 }, by decide +kernel⟩,
   ⟨.B, starS .B true { timed := true, devs := [(3, 1200), (4, 1100)] }, by decide +kernel⟩,
   ⟨.A, 8, 9, 3, 4, 1022, 6, starS .A true { timed := true, devs := [(3, 8), (4, 9)], claims := [(1022, 6)] }, by decide +kernel⟩,
   ⟨.A, 0, 2, 64, starS .A true { grants := [(0, 2, 64)] }, by decide +kernel⟩,
   ⟨.A, 4, 2, 63, starS .A true { grants := [(4, 2, 63)] }, by decide +kernel⟩,
   ⟨.A, 2, starS .A true, by decide +kernel⟩,
   ⟨.A, 2, starS .A true, by decide +kernel⟩,
   ⟨.A, 2, (starS .A true).fs (starB .A) STAR.CTRL_OPMODE 1, by decide +kernel⟩,
   ⟨.A, 0, starS .A true, by decide +kernel⟩,
   ⟨.A, 1, (starS .A true).fs (starB .A) STAR.CTRL_EN 0, by decide +kernel⟩⟩

/-- The hypotheses of CanElementsAreSent can be met. -/
theorem test_meets_CanElementsAreSent :
    (∃ (l : Lane) (k : Fin 4) (e : Fin 32) (v : Word) (s : State), (s.running l = true) ∧ (canHas l k.val = true) ∧ ((s.canState l k.val e.val = 0 ∨ 4 ≤ s.canState l k.val e.val)) ∧ (v.getLsbD 0 = true) ∧ (¬ (l = .W ∧ s.fb (canTx l k.val e.val) CANTX.UNITOUT = true)) ∧ (s.canBad l k.val e.val = true)) ∧
    (∃ (l : Lane) (k : Fin 4) (e : Fin 32) (v : Word) (s : State), (s.running l = true) ∧ (canHas l k.val = true) ∧ ((s.canState l k.val e.val = 0 ∨ 4 ≤ s.canState l k.val e.val)) ∧ (v.getLsbD 0 = true) ∧ (l = .W) ∧ (s.fb (canTx l k.val e.val) CANTX.UNITOUT = true)) ∧
    (∃ (l : Lane) (k : Fin 4) (e : Fin 32) (v : Word) (s : State), (s.running l = true) ∧ (canHas l k.val = true) ∧ ((s.canState l k.val e.val = 0 ∨ 4 ≤ s.canState l k.val e.val)) ∧ (v.getLsbD 0 = true) ∧ (l ≠ .W) ∧ (s.canBad l k.val e.val = false) ∧ (s.fb (canTx l k.val e.val) CANTX.UNITOUT = false)) ∧
    (∃ (l : Lane) (k : Fin 4) (e : Fin 32) (v : Word) (s : State), (s.running l = true) ∧ (canHas l k.val = true) ∧ ((s.canState l k.val e.val = 0 ∨ 4 ≤ s.canState l k.val e.val)) ∧ (v.getLsbD 0 = true) ∧ (l ≠ .W) ∧ (s.canBad l k.val e.val = false) ∧ (s.fb (canTx l k.val e.val) CANTX.UNITOUT = true) ∧ (s.fb (canTx l k.val e.val) CANTX.SAFETY = true)) ∧
    (∃ (l : Lane) (k : Fin 4) (e : Fin 32) (s : State), (s.running l = true) ∧ (canHas l k.val = true) ∧ (((s.canState l k.val e.val) = 1 ∨ (s.canState l k.val e.val) = 2))) ∧
    (∃ (l : Lane) (k : Fin 4) (e : Fin 32) (s : State), (s.running l = true) ∧ (canHas l k.val = true) ∧ ((s.canState l k.val e.val) = 3)) ∧
    (∃ (l : Lane) (k : Fin 4) (e : Fin 32) (s : State), (s.running l = true) ∧ (canHas l k.val = true) ∧ (((s.canState l k.val e.val) = 0 ∨ 4 ≤ (s.canState l k.val e.val)))) ∧
    (∃ (l : Lane) (k : Fin 4) (m : Nat) (e : Nat) (s : State), (s.canUp l k.val = true) ∧ (s.fb (canB l k.val) CAN.CTRL_RESTRICT = false) ∧ ((s.can l k.val).act = none) ∧ ((s.can l k.val).ref = none) ∧ (s.canBest l k.val (s.canReady l k.val) = some e) ∧ ((s.fg (canB l k.val) CAN.CTRL_TTMODE = 0 ∨ (∀ c, s.canColumn l k.val = some c → s.canFits l k.val e c = true)))) ∧
    (∃ (l : Lane) (k : Fin 4) (m : Nat) (e : Nat) (s : State), (s.canUp l k.val = true) ∧ (s.fb (canB l k.val) CAN.CTRL_RESTRICT = false) ∧ ((s.can l k.val).act = none) ∧ ((s.can l k.val).ref = none) ∧ (s.canBest l k.val (s.canReady l k.val) = some e) ∧ (s.fg (canB l k.val) CAN.CTRL_TTMODE ≠ 0) ∧ (¬ (∀ c, s.canColumn l k.val = some c → s.canFits l k.val e c = true))) ∧
    (∃ (l : Lane) (k : Nat) (es : List Nat) (s : State) (e : _), (s.canBest l k es = some e)) ∧
    (∃ (l : Lane) (k : Fin 4) (e : Nat) (s : State), (s.canUp l k.val = true) ∧ ((s.can l k.val).act = some e) ∧ (e < 32) ∧ (s.fg (canB l k.val) CAN.CTRL_LOOP = 0) ∧ (1 ≤ s.fg (canB l k.val) CAN.STATUS_TEC) ∧ (s.fg (canB l k.val) CAN.STATUS_TEC ≤ 127) ∧ (s.fg (canB l k.val) CAN.STATUS_REC ≤ 127)) ∧
    (∃ (l : Lane) (k : Fin 4) (c : Nat) (s : State), (s.canUp l k.val = true) ∧ ((s.can l k.val).act = none) ∧ ((s.can l k.val).ref = some c) ∧ (s.fg (canB l k.val) CAN.CTRL_LOOP = 0) ∧ (c < 64) ∧ (s.fg (canB l k.val) CAN.STATUS_TEC ≤ 127) ∧ (s.fg (canB l k.val) CAN.STATUS_REC ≤ 127)) ∧
    (∃ (l : Lane) (k : Fin 4) (e : Nat) (s : State), (s.canUp l k.val = true) ∧ ((s.can l k.val).act = some e) ∧ (e < 32) ∧ (s.fg (canB l k.val) CAN.STATUS_ERRSTATE = 0) ∧ (s.fg (canB l k.val) CAN.STATUS_TEC ≤ 119) ∧ (s.fg (canB l k.val) CAN.STATUS_REC ≤ 127) ∧ (((s.can l k.val).once = true ∨ s.fb (canTx l k.val e) CANTX.CANCEL_LATE = true ∨ ((s.fg (canB l k.val) CAN.TXCFG_RETRY) ≠ 0 ∧ (s.fg (canB l k.val) CAN.TXCFG_RETRY) ≤ s.fg (canTx l k.val e) CANTX.ATTEMPTS)))) ∧
    (∃ (l : Lane) (k : Fin 4) (e : Nat) (s : State), (s.canUp l k.val = true) ∧ ((s.can l k.val).act = some e) ∧ (e < 32) ∧ (s.fg (canB l k.val) CAN.STATUS_ERRSTATE = 0) ∧ (s.fg (canB l k.val) CAN.STATUS_TEC ≤ 119) ∧ (s.fg (canB l k.val) CAN.STATUS_REC ≤ 127) ∧ (¬ ((s.can l k.val).once = true ∨ s.fb (canTx l k.val e) CANTX.CANCEL_LATE = true ∨ ((s.fg (canB l k.val) CAN.TXCFG_RETRY) ≠ 0 ∧ (s.fg (canB l k.val) CAN.TXCFG_RETRY) ≤ s.fg (canTx l k.val e) CANTX.ATTEMPTS)))) ∧
    (∃ (l : Lane) (k : Fin 4) (e : Nat) (s : State), (s.canUp l k.val = true) ∧ ((s.can l k.val).act = some e) ∧ (e < 32) ∧ (s.fg (canB l k.val) CAN.CTRL_LOOP = 0) ∧ (s.fg (canB l k.val) CAN.STATUS_ERRSTATE = 1) ∧ (s.fg (canB l k.val) CAN.STATUS_ACKRUN ≠ 63) ∧ (128 ≤ s.fg (canB l k.val) CAN.STATUS_TEC) ∧ (s.fg (canB l k.val) CAN.STATUS_TEC ≤ 247)) ∧
    (∃ (l : Lane) (k : Fin 4) (s : State), (s.canUp l k.val = true) ∧ (s.fg (canB l k.val) CAN.CTRL_TTMODE = 2) ∧ (s.fb (canB l k.val) CAN.CTRL_RESTRICT = false) ∧ ((s.can l k.val).act = none) ∧ ((s.can l k.val).ref = none) ∧ (s.canRefDue l k.val = true)) ∧
    (∃ (l : Lane) (k : Fin 4) (col : Fin 32) (s : State), (s.canUp l k.val = true) ∧ (s.fg (canB l k.val) CAN.CTRL_TTMODE ≠ 0) ∧ (s.canColumn l k.val = some col.val) ∧ (s.canCycTime l k.val = s.canMark l k.val col.val) ∧ (s.fb (canB l k.val) CAN.CTRL_RESTRICT = false) ∧ ((s.can l k.val).act = none) ∧ ((s.can l k.val).ref = none) ∧ ((s.can l k.val).dropWin = false) ∧ ((s.canEntry l k.val (s.fg (canB l k.val) CAN.TTSTAT_CYCCNT) col.val) % 4 = 1) ∧ (s.canState l k.val ((s.canEntry l k.val (s.fg (canB l k.val) CAN.TTSTAT_CYCCNT) col.val) / 4 % 32) = 2) ∧ (s.canFits l k.val ((s.canEntry l k.val (s.fg (canB l k.val) CAN.TTSTAT_CYCCNT) col.val) / 4 % 32) col.val = true)) ∧
    (∃ (l : Lane) (k : Fin 4) (col : Fin 32) (s : State), (s.canUp l k.val = true) ∧ (s.fg (canB l k.val) CAN.CTRL_TTMODE ≠ 0) ∧ (s.canColumn l k.val = some col.val) ∧ (s.canCycTime l k.val = s.canMark l k.val col.val) ∧ (s.fb (canB l k.val) CAN.CTRL_RESTRICT = false) ∧ ((s.can l k.val).act = none) ∧ ((s.can l k.val).ref = none) ∧ ((s.can l k.val).dropWin = false) ∧ ((s.canEntry l k.val (s.fg (canB l k.val) CAN.TTSTAT_CYCCNT) col.val) % 4 = 1) ∧ (s.canState l k.val ((s.canEntry l k.val (s.fg (canB l k.val) CAN.TTSTAT_CYCCNT) col.val) / 4 % 32) = 2) ∧ (s.canFits l k.val ((s.canEntry l k.val (s.fg (canB l k.val) CAN.TTSTAT_CYCCNT) col.val) / 4 % 32) col.val = false)) ∧
    (∃ (l : Lane) (k : Fin 4) (col : Fin 32) (s : State), (s.canUp l k.val = true) ∧ (s.fg (canB l k.val) CAN.CTRL_TTMODE ≠ 0) ∧ (s.canColumn l k.val = some col.val) ∧ (s.canCycTime l k.val = s.canMark l k.val col.val) ∧ (s.fb (canB l k.val) CAN.CTRL_RESTRICT = false) ∧ ((s.can l k.val).act = none) ∧ ((s.can l k.val).ref = none) ∧ ((s.can l k.val).dropWin = false) ∧ ((s.canEntry l k.val (s.fg (canB l k.val) CAN.TTSTAT_CYCCNT) col.val) % 4 ≠ 1)) :=
  ⟨⟨.A, 3, 31, 1, (canS .A 3).fs (canTx .A 3 31) CANTX.FDF 1, by decide +kernel⟩,
   ⟨.W, 1, 0, 1, (canS .W 1).fs (canTx .W 1 0) CANTX.UNITOUT 1, by decide +kernel⟩,
   ⟨.A, 0, 0, 1, canS, by decide +kernel⟩,
   ⟨.B, 0, 0, 1, ((canS .B).fs (canTx .B 0 0) CANTX.UNITOUT 1).fs (canTx .B 0 0) CANTX.SAFETY 1, by decide +kernel⟩,
   ⟨.A, 0, 3, canS.setCanTx .A 0 3 1, by decide +kernel⟩,
   ⟨.A, 0, 3, canS.setCanTx .A 0 3 3, by decide +kernel⟩,
   ⟨.A, 0, 3, canS.setCanTx .A 0 3 4, by decide +kernel⟩,
   ⟨.A, 0, 100, 3, canS.setCanTx .A 0 3 2, by decide +kernel⟩,
   ⟨.A, 0, 100, 3, ((((canS.setCanTx .A 0 3 2).fs (canB .A 0) CAN.CTRL_TTMODE 1).fs (canB .A 0) CAN.TTSTAT_SYNCED 1).fs (canB .A 0) CAN.TTCFG_BCLEN 20).setReg (canB .A 0 + 0x9000) 2, by decide +kernel⟩,
   ⟨.A, 0, [3, 5], (canS.fs (canTx .A 0 3) CANTX.ID 6).fs (canTx .A 0 5) CANTX.ID 6, 3, by decide +kernel⟩,
   ⟨.A, 0, 3, ((canS .A 0 { act := some 3 }).setCanTx .A 0 3 3).fs (canB .A 0) CAN.STATUS_TEC 127, by decide +kernel⟩,
   ⟨.B, 2, 63, (canS .B 2 { ref := some 63, sof := 77 }), by decide +kernel⟩,
   ⟨.A, 0, 3, ((canS .A 0 { act := some 3, once := true }).setCanTx .A 0 3 3).fs (canB .A 0) CAN.STATUS_TEC 119, by decide +kernel⟩,
   ⟨.A, 0, 3, (canS .A 0 { act := some 3 }).setCanTx .A 0 3 3, by decide +kernel⟩,
   ⟨.A, 0, 3, (((canS .A 0 { act := some 3 }).setCanTx .A 0 3 3).fs (canB .A 0) CAN.STATUS_TEC 128).fs (canB .A 0) CAN.STATUS_ERRSTATE 1, by decide +kernel⟩,
   ⟨.A, 0, canS.fs (canB .A 0) CAN.CTRL_TTMODE 2, by decide +kernel⟩,
   ⟨.A, 0, 0, ((((canS.setCanTx .A 0 3 2).fs (canB .A 0) CAN.CTRL_TTMODE 1).fs (canB .A 0) CAN.TTSTAT_SYNCED 1).fs (canB .A 0) CAN.TTCFG_BCLEN 1000).setReg (canB .A 0 + 0x9000) 13, by decide +kernel⟩,
   ⟨.A, 0, 0, ((((canS.setCanTx .A 0 3 2).fs (canB .A 0) CAN.CTRL_TTMODE 1).fs (canB .A 0) CAN.TTSTAT_SYNCED 1).fs (canB .A 0) CAN.TTCFG_BCLEN 20).setReg (canB .A 0 + 0x9000) 13, by decide +kernel⟩,
   ⟨.A, 0, 0, ((((canS.setCanTx .A 0 3 2).fs (canB .A 0) CAN.CTRL_TTMODE 1).fs (canB .A 0) CAN.TTSTAT_SYNCED 1).fs (canB .A 0) CAN.TTCFG_BCLEN 1000), by decide +kernel⟩⟩

/-- The hypotheses of CanReceptionAndErrors can be met. -/
theorem test_meets_CanReceptionAndErrors :
    (∃ (l : Lane) (k : Fin 4) (q : Fin 4) (f : CanFrame) (ago : Nat) (d : CanDest) (s : State), (s.canUp l k.val = true) ∧ (s.fg (canB l k.val) CAN.CTRL_LOOP = 0) ∧ (s.can l k.val = {}) ∧ ((f.fdf = true → f.resRecessive = false ∧ s.fb (canB l k.val) CAN.CTRL_FD = true)) ∧ (s.fb (canB l k.val) CAN.CTRL_RESTRICT = true) ∧ (s.fg (canB l k.val) CAN.CTRL_TTMODE = 0) ∧ (s.canFilter l k.val f = d) ∧ (q.val < 2) ∧ (d.action = q.val + 1) ∧ ((s.fg (canB l k.val + 4 * q.val) CAN.QSTAT_COUNT = 64)) ∧ (¬ (s.fb (canB l k.val) (if q.val = 0 then CAN.RXCFG_OVW0 else CAN.RXCFG_OVW1) = true))) ∧
    (∃ (l : Lane) (k : Fin 4) (q : Fin 4) (f : CanFrame) (ago : Nat) (d : CanDest) (s : State), (s.canUp l k.val = true) ∧ (s.fg (canB l k.val) CAN.CTRL_LOOP = 0) ∧ (s.can l k.val = {}) ∧ ((f.fdf = true → f.resRecessive = false ∧ s.fb (canB l k.val) CAN.CTRL_FD = true)) ∧ (s.fb (canB l k.val) CAN.CTRL_RESTRICT = true) ∧ (s.fg (canB l k.val) CAN.CTRL_TTMODE = 0) ∧ (s.canFilter l k.val f = d) ∧ (q.val < 2) ∧ (d.action = q.val + 1) ∧ ((s.fg (canB l k.val + 4 * q.val) CAN.QSTAT_COUNT = 64)) ∧ ((s.fb (canB l k.val) (if q.val = 0 then CAN.RXCFG_OVW0 else CAN.RXCFG_OVW1) = true))) ∧
    (∃ (l : Lane) (k : Fin 4) (q : Fin 4) (f : CanFrame) (ago : Nat) (d : CanDest) (s : State), (s.canUp l k.val = true) ∧ (s.fg (canB l k.val) CAN.CTRL_LOOP = 0) ∧ (s.can l k.val = {}) ∧ ((f.fdf = true → f.resRecessive = false ∧ s.fb (canB l k.val) CAN.CTRL_FD = true)) ∧ (s.fb (canB l k.val) CAN.CTRL_RESTRICT = true) ∧ (s.fg (canB l k.val) CAN.CTRL_TTMODE = 0) ∧ (s.canFilter l k.val f = d) ∧ (q.val < 2) ∧ (d.action = q.val + 1) ∧ (¬ (s.fg (canB l k.val + 4 * q.val) CAN.QSTAT_COUNT = 64))) ∧
    (∃ (l : Lane) (k : Fin 4) (q : Fin 4) (f : CanFrame) (ago : Nat) (d : CanDest) (s : State), (s.canUp l k.val = true) ∧ (s.fg (canB l k.val) CAN.CTRL_LOOP = 0) ∧ (s.can l k.val = {}) ∧ ((f.fdf = true → f.resRecessive = false ∧ s.fb (canB l k.val) CAN.CTRL_FD = true)) ∧ (s.fb (canB l k.val) CAN.CTRL_RESTRICT = true) ∧ (s.fg (canB l k.val) CAN.CTRL_TTMODE = 0) ∧ (s.canFilter l k.val f = d) ∧ (q.val < 2) ∧ (d.action = q.val + 1) ∧ (¬ (s.fg (canB l k.val + 4 * q.val) CAN.QSTAT_COUNT = 64) ∨ (s.fb (canB l k.val) (if q.val = 0 then CAN.RXCFG_OVW0 else CAN.RXCFG_OVW1) = true))) ∧
    (∃ (l : Lane) (k : Fin 4) (f : CanFrame) (ago : Nat) (s : State), (s.canUp l k.val = true) ∧ (s.fg (canB l k.val) CAN.CTRL_LOOP = 0) ∧ ((s.can l k.val).act = none) ∧ (f.fdf = true) ∧ ((f.resRecessive = true ∨ s.fb (canB l k.val) CAN.CTRL_FD = false)) ∧ (s.fb (canB l k.val) CAN.CTRL_RESERR = false)) ∧
    (∃ (l : Lane) (k : Fin 4) (f : CanFrame) (ago : Nat) (c : Nat) (s : State), (s.canUp l k.val = true) ∧ (s.fg (canB l k.val) CAN.CTRL_LOOP = 0) ∧ (s.can l k.val = {}) ∧ (s.fb (canB l k.val) CAN.CTRL_RESTRICT = true) ∧ (f.fdf = false) ∧ (s.canRefCount l k.val f = some c) ∧ ((s.canFilter l k.val f).action = 0)) ∧
    (∃ (l : Lane) (k : Fin 4) (n : Nat) (s : State), (s.canUp l k.val = true) ∧ (s.fg (canB l k.val) CAN.CTRL_LOOP = 0) ∧ ((s.can l k.val).act = none) ∧ (s.fb (canB l k.val) CAN.CTRL_RESTRICT = false) ∧ (s.fg (canB l k.val) CAN.STATUS_TEC ≤ 127) ∧ (s.fg (canB l k.val) CAN.STATUS_ERRSTATE = 0) ∧ ((s.fg (canB l k.val) CAN.STATUS_REC + n) ≤ 127)) ∧
    (∃ (l : Lane) (k : Fin 4) (n : Nat) (s : State), (s.canUp l k.val = true) ∧ (s.fg (canB l k.val) CAN.CTRL_LOOP = 0) ∧ ((s.can l k.val).act = none) ∧ (s.fb (canB l k.val) CAN.CTRL_RESTRICT = false) ∧ (s.fg (canB l k.val) CAN.STATUS_TEC ≤ 127) ∧ (s.fg (canB l k.val) CAN.STATUS_ERRSTATE = 0) ∧ (127 < (s.fg (canB l k.val) CAN.STATUS_REC + n))) ∧
    (∃ (l : Lane) (k : Fin 4) (s : State), (s.canUp l k.val = true) ∧ ((s.can l k.val).act ≠ none) ∧ (s.fg (canB l k.val) CAN.CTRL_LOOP = 0) ∧ (248 ≤ s.fg (canB l k.val) CAN.STATUS_TEC)) ∧
    (∃ (l : Lane) (k : Fin 4) (v : Word) (s : State), (s.running l = true) ∧ (v.getLsbD 0 = true) ∧ (s.fg (canB l k.val) CAN.STATUS_ERRSTATE = 2) ∧ (s.canBusOffOpen l k.val = true)) ∧
    (∃ (l : Lane) (k : Fin 4) (v : Word) (s : State), (s.running l = true) ∧ (v.getLsbD 0 = true) ∧ (s.fg (canB l k.val) CAN.STATUS_ERRSTATE = 2) ∧ (s.canBusOffOpen l k.val = false)) ∧
    (∃ (l : Lane) (k : Fin 4) (s : State), (s.running l = true) ∧ (s.fg (canB l k.val) CAN.STATUS_ERRSTATE = 3)) ∧
    (∃ (l : Lane) (k : Fin 4) (s : State), (s.running l = true) ∧ ((s.can l k.val).join = true) ∧ ((s.can l k.val).act = none) ∧ (s.fb (canB l k.val) CAN.STATUS_STOPPED = false)) ∧
    (∃ (l : Lane) (k : Fin 4) (q : Fin 2) (v : Word) (s : State), (s.running l = true) ∧ (((v.toNat % 128) = 0 ∨ s.fg (canB l k.val + 4 * q.val) CAN.QSTAT_COUNT < (v.toNat % 128)))) ∧
    (∃ (l : Lane) (k : Fin 4) (q : Fin 2) (v : Word) (s : State), (s.running l = true) ∧ ((v.toNat % 128) ≠ 0) ∧ ((v.toNat % 128) ≤ s.fg (canB l k.val + 4 * q.val) CAN.QSTAT_COUNT) ∧ (s.fg (canB l k.val + 4 * q.val) CAN.QSTAT_COUNT ≤ 64)) ∧
    (∃ (l : Lane) (k : Fin 4) (s : State), (s.canUp l k.val = true) ∧ (s.fg (canB l k.val) CAN.CTRL_TTMODE = 1) ∧ ((s.can l k.val).refLost = false) ∧ (s.fg (canB l k.val) CAN.TTCFG_BCLEN + 1024 ≤ s.canCycTime l k.val)) ∧
    (∃ (l : Lane) (k : Fin 4) (v : Word) (s : State), (s.running l = true) ∧ ((s.lane l).locked = false) ∧ (canHas l k.val = true) ∧ (v.getLsbD 0 = true) ∧ ((s.rowPut l false (0x40400000 + 0x10000 * k.val) v).canCfgOk l k.val = true) ∧ ((s.rowPut l false (0x40400000 + 0x10000 * k.val) v).canClaim l k.val = none)) ∧
    (∃ (l : Lane) (k : Fin 4) (v : Word) (s : State), (s.running l = true) ∧ ((s.lane l).locked = false) ∧ (canHas l k.val = true) ∧ (v.getLsbD 0 = true) ∧ ((s.rowPut l false (0x40400000 + 0x10000 * k.val) v).canCfgOk l k.val = false)) ∧
    (∃ (l : Lane) (k : Fin 4) (v : Word) (s : State), (s.running l = true) ∧ ((s.lane l).locked = false) ∧ (canHas l k.val = true) ∧ (v.getLsbD 0 = false)) :=
  ⟨⟨.A, 0, 0, canF, 100, ⟨1, 0, none, false⟩, ((canS.fs (canB .A 0) CAN.CTRL_RESTRICT 1).fs (canB .A 0) CAN.RXCFG_DEFAULT 1).fs (canB .A 0) CAN.QSTAT_COUNT 64, by decide +kernel⟩,
   ⟨.A, 0, 1, canF true, 100, ⟨2, 0, none, false⟩, (((((canS.fs (canB .A 0) CAN.CTRL_RESTRICT 1).fs (canB .A 0) CAN.CTRL_FD 1).fs (canB .A 0) CAN.RXCFG_DEFAULT 2).fs (canB .A 0 + 4) CAN.QSTAT_COUNT 64).fs (canB .A 0) CAN.RXCFG_OVW1 1).fs (canB .A 0 + 4) CAN.QSTAT_HEAD 63, by decide +kernel⟩,
   ⟨.A, 0, 0, canF, 100, ⟨1, 0, none, false⟩, (canS.fs (canB .A 0) CAN.CTRL_RESTRICT 1).fs (canB .A 0) CAN.RXCFG_DEFAULT 1, by decide +kernel⟩,
   ⟨.A, 0, 0, canF, 100, ⟨1, 0, none, false⟩, (canS.fs (canB .A 0) CAN.CTRL_RESTRICT 1).fs (canB .A 0) CAN.RXCFG_DEFAULT 1, by decide +kernel⟩,
   ⟨.A, 0, canF true, 100, canS, by decide +kernel⟩,
   ⟨.A, 0, canF, 100, 2, ((((canS.fs (canB .A 0) CAN.CTRL_RESTRICT 1).fs (canB .A 0) CAN.CTRL_TTMODE 1).fs (canB .A 0) CAN.TTREF_REFID 0x123).fs (canB .A 0) CAN.TTCFG_NCYC 2), by decide +kernel⟩,
   ⟨.A, 0, 8, canS.fs (canB .A 0) CAN.STATUS_REC 119, by decide +kernel⟩,
   ⟨.A, 0, 8, canS.fs (canB .A 0) CAN.STATUS_REC 120, by decide +kernel⟩,
   ⟨.A, 0, ((canS .A 0 { act := some 3 }).setCanTx .A 0 3 3).fs (canB .A 0) CAN.STATUS_TEC 248, by decide +kernel⟩,
   ⟨.A, 0, 1, { canS.fs (canB .A 0) CAN.STATUS_ERRSTATE 2 with evq := [{ coll := .lane .A, src := 0x1c1, res := 0x20 }] }, by decide +kernel⟩,
   ⟨.A, 0, 1, canS.fs (canB .A 0) CAN.STATUS_ERRSTATE 2, by decide +kernel⟩,
   ⟨.A, 0, (canS.fs (canB .A 0) CAN.STATUS_ERRSTATE 3).fs (canB .A 0) CAN.STATUS_TEC 255, by decide +kernel⟩,
   ⟨.A, 0, canS .A 0 { join := true }, by decide +kernel⟩,
   ⟨.A, 0, 1, 3, canS.fs (canB .A 0 + 4) CAN.QSTAT_COUNT 2, by decide +kernel⟩,
   ⟨.A, 0, 1, 64, canS.fs (canB .A 0 + 4) CAN.QSTAT_COUNT 64, by decide +kernel⟩,
   ⟨.A, 0, ut .A 1000000000 (canS.fs (canB .A 0) CAN.CTRL_TTMODE 1), by decide +kernel⟩,
   ⟨.W, 1, 1, svc, by decide +kernel⟩,
   ⟨.A, 3, 0x301, svc, by decide +kernel⟩,
   ⟨.A, 3, 0, canS .A 3, by decide +kernel⟩⟩

/-- The hypotheses of MemoryErrorsAndFences can be met. -/
theorem test_meets_MemoryErrorsAndFences :
    (∃ (l : Lane) (s : State), (s.running l = true)) ∧
    (∃ (l : Lane) (s : State), (s.running l = true) ∧ (s.fg (memcB l) MEMC.CTRL_SCRUBINT ≠ 0)) ∧
    (∃ (l : Lane) (a : Nat) (s : State) (m : EccMem) (k : Nat) (c : Nat) (u : Nat), (s.running l = true) ∧ ((m, k, c, u) ∈ [(EccMem.coreSram, 0, 0x102, 0x103), (.dram, 1, 0x104, 0x105), (.mram, 2, 0x106, 0x107)]) ∧ (a < 2 ^ 40)) ∧
    (∃ (l : Lane) (a : Nat) (s : State), (s.running l = true)) ∧
    (∃ (l : Lane) (k : Fin 4) (a : Nat) (s : State), (s.running l = true) ∧ (canHas l k.val = true)) ∧
    (∃ (l : Lane) (s : State), (s.running l = true) ∧ ((s.lane l).errH < 2 ^ 32)) ∧
    (∃ (l : Lane) (c : Fin 3) (s : State), (s.running l = true) ∧ (c.val ∉ (s.lane l).fence)) ∧
    (∃ (l : Lane) (c : Fin 3) (a : Nat) (bs : List Byte) (s : State), (s.running l = true) ∧ ((s.lane l).fence = [c.val]) ∧ ((s.lane l).stores = [(a, bs)]) ∧ (a + bs.length ≤ 2 ^ 40)) ∧
    (∃ (l : Lane) (c : Fin 3) (u : Nat) (s : State), (s.running l = true) ∧ (c.val ∈ (s.lane l).fence) ∧ ((s.lane l).fenceAt.lookup c.val = some u) ∧ (u + 20000 ≤ s.now)) ∧
    (∃ (l : Lane) (c : Fin 3) (s : State), (s.running l = true) ∧ (c.val ∉ (s.lane l).mtip) ∧ (s.mtimecmp l c.val ≤ s.utime l % 2 ^ 64)) :=
  ⟨⟨.W, svc, by decide +kernel⟩,
   ⟨.W, lm .W (fun x => { x with scrub := 0x1ffffffc0 }) (svc.fs (memcB .W) MEMC.CTRL_SCRUBINT 1), by decide +kernel⟩,
   ⟨.A, 0x123456789a, svc, .dram, 1, 0x104, 0x105, by decide +kernel⟩,
   ⟨.A, 0x210fffff, svc, by decide +kernel⟩,
   ⟨.W, 1, 0x40410000, svc, by decide +kernel⟩,
   ⟨.A, lm .A (fun x => { x with errH := 2 ^ 32 - 1 }) svc, by decide +kernel⟩,
   ⟨.A, 2, svc, by decide +kernel⟩,
   ⟨.A, 2, 2 ^ 40 - 2, [1, 2], lm .A (fun x => { x with fence := [2], stores := [(2 ^ 40 - 2, [1, 2])] }) svc, by decide +kernel⟩,
   ⟨.A, 0, 0, later 20000 (lm .A (fun x => { x with fence := [0], fenceAt := [(0, 0)] }) svc), by decide +kernel⟩,
   ⟨.A, 0, ut .A 7 (lm .A (fun x => { x with timecmp := [(0, 7)] }) svc), by decide +kernel⟩⟩

/-- The hypotheses of DmaAndRecorderMoveData can be met. -/
theorem test_meets_DmaAndRecorderMoveData :
    (∃ (l : Lane) (n : Fin 16) (s : State), (s.running l = true) ∧ (s.fg (dmaN l n.val) DMA.STATUS_STATE = 1)) ∧
    (∃ (l : Lane) (n : Fin 16) (s : State), (s.running l = true) ∧ (s.fg (dmaN l n.val) DMA.STATUS_STATE ≠ 1)) ∧
    (∃ (l : Lane) (n : Fin 16) (s : State), (s.running l = true) ∧ (s.fg (dmaN l n.val) DMA.STATUS_STATE = 1) ∧ ((s.dma l n.val).fly = [])) ∧
    (∃ (l : Lane) (n : Fin 16) (s : State), (s.running l = true) ∧ (s.fg (dmaN l n.val) DMA.STATUS_STATE = 1) ∧ ((s.dma l n.val).fly ≠ [])) ∧
    (∃ (l : Lane) (n : Fin 16) (a : Nat) (s : State), (s.running l = true) ∧ (s.fg (dmaN l n.val) DMA.STATUS_STATE = 1) ∧ ((s.dma l n.val).stop = false) ∧ (s.dmaHeld l n.val = false) ∧ ((s.dma l n.val).next = some a) ∧ (s.outstanding l < 128) ∧ (s.dmaCheck l a ≠ 0)) ∧
    (∃ (l : Lane) (a : Nat) (s : State), (descPlace a = false)) ∧
    (∃ (l : Lane) (a : Nat) (s : State), (descPlace a = true) ∧ ((s.dmaWord l a 3 = 0 ∨ 2 ^ 4 ≤ s.dmaWord l a 4))) ∧
    (∃ (l : Lane) (a : Nat) (s : State), (s.dmaCheck l a = 0)) ∧
    (∃ (l : Lane) (n : Fin 16) (a : Nat) (s : State), (s.running l = true) ∧ (s.fg (dmaN l n.val) DMA.STATUS_STATE = 1) ∧ ((s.dma l n.val).stop = false) ∧ (s.dmaHeld l n.val = false) ∧ ((s.dma l n.val).next = some a) ∧ (s.dmaCheck l a = 0) ∧ ((s.dmaDesc l a).ord = true) ∧ ((s.dma l n.val).fly ≠ []) ∧ (s.outstanding l < 128)) ∧
    (∃ (l : Lane) (n : Fin 16) (d : DmaDesc) (s : State), (s.running l = true) ∧ (s.dmaHeld l n.val = false) ∧ ((s.dma l n.val).stop = false) ∧ ((s.dma l n.val).fly = [d]) ∧ (d.wrote = false) ∧ (d.data = none) ∧ (inPeriph d.src = false) ∧ (inPeriph d.dst = false) ∧ (d.dst + d.len ≤ 2 ^ 40) ∧ (descPlace d.at_ = true) ∧ (s.dmaMayWrite l (d.at_ + 28) 4 = true) ∧ ((d.at_ + 32 ≤ d.dst ∨ d.dst + d.len ≤ d.at_ + 28)) ∧ (s.fg (dmaN l n.val) DMA.STATUS_STATE = 1) ∧ ((s.lane l).reset = false) ∧ (d.irq = true)) ∧
    (∃ (l : Lane) (n : Fin 16) (d : DmaDesc) (ds : List DmaDesc) (w : Nat) (s : State), (s.running l = true) ∧ ((s.dma l n.val).fly = d :: ds) ∧ (d.wrote = true)) ∧
    (∃ (l : Lane) (s : State), (s.erDue l = true) ∧ (s.bistIn l 67 = false) ∧ (s.fg (erB l) ER.STATUS_FROZEN = 0) ∧ (s.fb (erB l) ER.STATUS_PENDING = false) ∧ (s.fg (erB l) ER.CTRL_NCHC = 0) ∧ ((∀ c, 1 ≤ c → c < 8 → s.reg (erB l + 0x100 + 4 * c) = 0x20000000)) ∧ (ringBase ≤ s.erPtr l) ∧ (s.erPtr l + 64 ≤ dramEnd) ∧ ((s.lane l).beaconCycle < 2 ^ 32)) ∧
    (∃ (l : Lane) (s : State), (s.erDue l = true) ∧ (s.bistIn l 67 = true)) ∧
    (∃ (l : Lane) (s : State), (s.erDue l = true)) ∧
    (∃ (l : Lane) (s : State), (s.running l = true) ∧ (s.fb (erB l) ER.CTRL_EN = true) ∧ (s.fb (erB l) ER.STATUS_PENDING = true)) ∧
    (∃ (l : Lane) (s : State), (s.running l = true) ∧ (s.fb (erB l) ER.CTRL_EN = true) ∧ (s.fb (erB l) ER.STATUS_PENDING = false) ∧ (s.fg (erB l) ER.STATUS_FROZEN = 255)) ∧
    (∃ (l : Lane) (s : State), (s.running l = true) ∧ (s.fb (erB l) ER.CTRL_EN = true) ∧ (s.fb (erB l) ER.STATUS_PENDING = false) ∧ (s.fg (erB l) ER.STATUS_FROZEN ≠ 255) ∧ ((s.er l).last = none)) ∧
    (∃ (l : Lane) (v : Word) (s : State), (s.running l = true)) ∧
    (∃ (l : Lane) (v : Word) (s : State), (s.running l = true) ∧ ((s.lane l).locked = false) ∧ (v.getLsbD 0 = true) ∧ ((s.rowPut l false 0x40e00000 v).erCfgOk l = true)) ∧
    (∃ (l : Lane) (v : Word) (s : State), (s.running l = true) ∧ ((s.lane l).locked = false) ∧ (v.getLsbD 0 = true) ∧ ((s.rowPut l false 0x40e00000 v).erCfgOk l = false)) ∧
    (∃ (l : Lane) (v : Word) (s : State), (s.running l = true) ∧ ((s.lane l).locked = false) ∧ (v.getLsbD 0 = false)) :=
  ⟨⟨.A, 0, dmaS 0 {}, by decide +kernel⟩,
   ⟨.A, 15, svc, by decide +kernel⟩,
   ⟨.A, 0, dmaS 0 { next := some 32 }, by decide +kernel⟩,
   ⟨.A, 0, dmaS 0 { fly := [moving] }, by decide +kernel⟩,
   ⟨.A, 0, 0x20000010, dmaS 0 { next := some 0x20000010 }, by decide +kernel⟩,
   ⟨.A, 33, svc, by decide +kernel⟩,
   ⟨.A, 0x20000000, wrd 0x20000000 [0x20000100, 0, 0x20000200, 3, 16] svc, by decide +kernel⟩,
   ⟨.A, 0x20000000, wrd 0x20000000 [0x20000100, 0, 0x20000200, 3, 9] svc, by decide +kernel⟩,
   ⟨.A, 0, 0x20000000, wrd 0x20000000 [0x20000100, 0, 0x20000200, 3, 9] (dmaS 0 { next := some 0x20000000, fly := [moving] }), by decide +kernel⟩,
   ⟨.A, 0, moving, wrd 0x20000100 [0x12345678] (dmaS 0 { fly := [moving] }), by decide +kernel⟩,
   ⟨.A, 0, { moving with wrote := true }, [moving], 3, dmaS 0 { fly := [{ moving with wrote := true }, moving] }, by decide +kernel⟩,
   ⟨.A, later 40950 (lm .A (fun x => { x with beaconCycle := 2 ^ 32 - 1 }) (wrd 0x20000000 [0xabcdef01] recS)), by decide +kernel⟩,
   ⟨.A, later 40950 (lm .A (fun x => { x with beaconCycle := 1 }) ((recS.fs (bistB .A) BIST.STATUS_ACTIVE 1).fs (bistB .A) BIST.STATUS_SLICE 67)), by decide +kernel⟩,
   ⟨.A, later 40950 (lm .A (fun x => { x with beaconCycle := 1 }) (recS.fs (erB .A) ER.CTRL_CAPDLY 4095)), by decide +kernel⟩,
   ⟨.A, recS.fs (erB .A) ER.STATUS_PENDING 1, by decide +kernel⟩,
   ⟨.A, recS.fs (erB .A) ER.STATUS_FROZEN 255, by decide +kernel⟩,
   ⟨.A, recS, by decide +kernel⟩,
   ⟨.A, 0x8100, (recS.fs (erB .A) ER.STATUS_FROZEN 255).setReg (erB .A + 0x40 + 16 * 7) 5, by decide +kernel⟩,
   ⟨.A, 1, recS.fs (erB .A) ER.CTRL_EN 0, by decide +kernel⟩,
   ⟨.A, 0xffff, recS.fs (erB .A) ER.CTRL_EN 0, by decide +kernel⟩,
   ⟨.A, 0, recS.fs (erB .A) ER.STATUS_PENDING 1, by decide +kernel⟩⟩

/-- The hypotheses of InterruptsArePresentedInOrder can be met. -/
theorem test_meets_InterruptsArePresentedInOrder :
    (∃ (l : Lane) (i : Fin 384) (e : IcEdge) (s : State), (s.running l = true) ∧ (((icType l i.val = some false ∧ e = .edge ∧ i.val ∈ (s.ic l).due) ∨ (icType l i.val = some true ∧ e = .onset ∧ i.val ∉ (s.ic l).levels ∧ s.icCond l i.val = true))) ∧ (e = .onset)) ∧
    (∃ (l : Lane) (i : Fin 384) (e : IcEdge) (s : State), (s.running l = true) ∧ (((icType l i.val = some false ∧ e = .edge ∧ i.val ∈ (s.ic l).due) ∨ (icType l i.val = some true ∧ e = .onset ∧ i.val ∉ (s.ic l).levels ∧ s.icCond l i.val = true))) ∧ (s.icCount l (s.icRoute l i.val) (64 + i.val) < 255)) ∧
    (∃ (l : Lane) (i : Fin 384) (e : IcEdge) (s : State), (s.running l = true) ∧ (((icType l i.val = some false ∧ e = .edge ∧ i.val ∈ (s.ic l).due) ∨ (icType l i.val = some true ∧ e = .onset ∧ i.val ∉ (s.ic l).levels ∧ s.icCond l i.val = true))) ∧ (s.icCount l (s.icRoute l i.val) (64 + i.val) = 255) ∧ (icKey (s.icRoute l i.val) (64 + i.val) ∉ (s.ic l).lost)) ∧
    (∃ (l : Lane) (i : Fin 384) (e : IcEdge) (s : State), (s.running l = true) ∧ (((icType l i.val = some false ∧ e = .edge ∧ i.val ∈ (s.ic l).due) ∨ (icType l i.val = some true ∧ e = .onset ∧ i.val ∉ (s.ic l).levels ∧ s.icCond l i.val = true))) ∧ (s.icCount l (s.icRoute l i.val) (64 + i.val) = 255) ∧ (icKey (s.icRoute l i.val) (64 + i.val) ∈ (s.ic l).lost)) ∧
    (∃ (l : Lane) (i : Fin 384) (s : State), (s.running l = true) ∧ (icType l i.val = some true) ∧ (s.icCond l i.val = false)) ∧
    (∃ (l : Lane) (i : Fin 384) (e : IcEdge) (s : State), (icType l i.val = none)) ∧
    (∃ (l : Lane) (c : Fin 3) (hi : Bool) (v : Word) (s : State), (s.running l = true) ∧ ((∀ b < 32, v.getLsbD b = true → s.icCount l c.val ((if hi then 32 else 0) + b) < 255))) ∧
    (∃ (l : Lane) (c : Fin 3) (q : Fin 448) (s : State), (s.running l = true) ∧ (s.icLive l c.val q.val = true)) ∧
    (∃ (l : Lane) (c : Fin 3) (q : Fin 448) (s : State), (s.running l = true) ∧ (s.icLive l c.val q.val = false)) ∧
    (∃ (l : Lane) (c : Fin 3) (q : Nat) (s : State), (s.running l = true) ∧ (s.icCands l c.val = [q]) ∧ ((s.ic l).pres.lookup c.val = none) ∧ (s.icRunning l c.val ≤ s.icPrio l c.val q)) ∧
    (∃ (l : Lane) (c : Fin 3) (q : Nat) (s : State), (s.running l = true) ∧ (s.icCands l c.val = [q]) ∧ (s.icPrio l c.val q < s.icRunning l c.val)) ∧
    (∃ (l : Lane) (c : Fin 3) (p : IcPres) (s : State), (s.corePaused l c.val = false) ∧ ((s.ic l).pres = [(c.val, p)]) ∧ (p.p < 16)) ∧
    (∃ (l : Lane) (c : Fin 3) (v : Word) (s : State), (s.running l = true) ∧ ((s.fg (icB l c.val) IC.STACK_INSERV) ≠ 0) ∧ ((s.fg (icB l c.val) IC.STACK_INSERV).log2 = (v.toNat % 16))) ∧
    (∃ (l : Lane) (c : Fin 3) (v : Word) (s : State), (s.running l = true) ∧ (((s.fg (icB l c.val) IC.STACK_INSERV) = 0 ∨ (s.fg (icB l c.val) IC.STACK_INSERV).log2 ≠ (v.toNat % 16)))) :=
  ⟨⟨.A, 0, .onset, svc.setLe .A { cq := [⟨0, 0, 0, 0, false, 0⟩] }, by decide +kernel⟩,
   ⟨.A, 0, .onset, svc.setLe .A { cq := [⟨0, 0, 0, 0, false, 0⟩] }, by decide +kernel⟩,
   ⟨.W, 0, .onset, (svc.setIc .W { count := [(192, 255)] }).setLe .W { cq := [⟨0, 0, 0, 0, false, 0⟩] }, by decide +kernel⟩,
   ⟨.W, 0, .onset, (svc.setIc .W { count := [(192, 255)], lost := [192] }).setLe .W { cq := [⟨0, 0, 0, 0, false, 0⟩] }, by decide +kernel⟩,
   ⟨.W, 0, svc.setIc .W { levels := [0, 3] }, by decide +kernel⟩,
   ⟨.W, 16, .edge, svc, by decide +kernel⟩,
   ⟨.A, 2, true, 0x80000001, svc.setIc .A { count := [(160, 254)] }, by decide +kernel⟩,
   ⟨.A, 0, 447, svc, by decide +kernel⟩,
   ⟨.A, 1, 447, svc, by decide +kernel⟩,
   ⟨.A, 0, 5, (svc.setIc .A { count := [(5, 1)] }).setReg (icB .A 0 + 0x80) 0, by decide +kernel⟩,
   ⟨.A, 0, 5, ((svc.setIc .A { count := [(5, 1)] }).setReg (icB .A 0 + 0x80) 0).fs (icB .A 0) IC.STACK_INSERV 1, by decide +kernel⟩,
   ⟨.A, 1, { p := 15, cand := [3], late := true }, svc.setIc .A { pres := [(1, { p := 15, cand := [3], late := true })] }, by decide +kernel⟩,
   ⟨.A, 1, 15, svc.fs (icB .A 1) IC.STACK_INSERV 0x8001, by decide +kernel⟩,
   ⟨.A, 1, 14, svc.fs (icB .A 1) IC.STACK_INSERV 0x8001, by decide +kernel⟩⟩

/-- The hypotheses of SelfTestAndCrypto can be met. -/
theorem test_meets_SelfTestAndCrypto :
    (∃ (l : Lane) (n : Fin 72) (s : State), (s.sweeps l = true) ∧ (sliceAbsent l n.val = false) ∧ (s.fb (bistB l) BIST.STATUS_ACTIVE = false) ∧ (s.sliceDue l n.val = true) ∧ (s.sliceDefer l n.val = true)) ∧
    (∃ (l : Lane) (n : Fin 72) (s : State), (s.sweeps l = true) ∧ (sliceAbsent l n.val = false) ∧ (s.fb (bistB l) BIST.STATUS_ACTIVE = false) ∧ (s.sliceDue l n.val = true) ∧ (s.sliceDefer l n.val = false) ∧ (n.val ≠ 66) ∧ (n.val = 41)) ∧
    (∃ (l : Lane) (n : Fin 72) (s : State), ((sliceAbsent l n.val = true ∨ s.sweeps l = false))) ∧
    (∃ (l : Lane) (n : Fin 72) (key : Bool) (s : State), (s.running l = true) ∧ (s.bistIn l n.val = true) ∧ (n.val ≠ 41) ∧ (n.val ≠ 71)) ∧
    (∃ (l : Lane) (key : Bool) (s : State), (s.running l = true) ∧ (s.bistIn l 41 = true) ∧ (key = true)) ∧
    (∃ (l : Lane) (key : Bool) (s : State), (s.running l = true) ∧ (s.bistIn l 41 = true) ∧ (key = false)) ∧
    (∃ (l : Lane) (n : Fin 72) (key : Bool) (s : State), (s.running l = true) ∧ (s.bistIn l n.val = true)) ∧
    (∃ (l : Lane) (n : Fin 72) (key : Bool) (s : State), (s.running l = true) ∧ (s.bistIn l n.val = true)) ∧
    (∃ (l : Lane) (u : Nat) (s : State), (s.sweeps l = true) ∧ ((s.lane l).sweepAt = some u) ∧ (u + 2 * 72 * s.slotLen l < s.utime l)) ∧
    (∃ (l : Lane) (v : Word) (s : State), (s.running l = true) ∧ ((s.lane l).locked = false) ∧ (v.toNat / 2 ^ 8 % 2 ^ 8 = 0) ∧ (v.getLsbD 0 = true)) ∧
    (∃ (l : Lane) (v : Word) (s : State), (s.running l = true) ∧ ((s.lane l).locked = false) ∧ ((v.toNat / 2 ^ 8 % 2 ^ 8 ≠ 0 ∨ v.getLsbD 0 = false))) ∧
    (∃ (l : Lane) (c : Instr) (op : Nat) (ok : Bool) (s : State), s.running l = true ∧ (c, op, ok) ∈ [(.cryAttest l, 1, (s.fb (cryB l) CRY.STATUS_KEYOK || s.bistIn l 41) && s.cryArgOk l), (.cryInstall l, 2, s.sk.st ∈ [UState.service, .cmpDegraded, .noWitness, .safeHold, .bench] ∧ (s.lane l).trial = false), (.cryCommit l, 3, s.sk.st ∈ [UState.service, .bench] ∧ (s.lane l).trial = true ∧ s.fg (cryB l) CRY.BOOTINFO_BANK ≠ (s.lane l).active), (Instr.cryAdvance l, 4, s.sk.st ∈ [UState.service, .bench] ∧ (s.lane l).trial = false ∧ s.fg (cryB l) CRY.BOOTINFO_BANK = (s.lane l).active)] ∧ (s.lane l).cryOp = 0 ∧ ok = true) ∧
    (∃ (l : Lane) (c : Instr) (op : Nat) (ok : Bool) (s : State), s.running l = true ∧ (c, op, ok) ∈ [(.cryAttest l, 1, (s.fb (cryB l) CRY.STATUS_KEYOK || s.bistIn l 41) && s.cryArgOk l), (.cryInstall l, 2, s.sk.st ∈ [UState.service, .cmpDegraded, .noWitness, .safeHold, .bench] ∧ (s.lane l).trial = false), (.cryCommit l, 3, s.sk.st ∈ [UState.service, .bench] ∧ (s.lane l).trial = true ∧ s.fg (cryB l) CRY.BOOTINFO_BANK ≠ (s.lane l).active), (Instr.cryAdvance l, 4, s.sk.st ∈ [UState.service, .bench] ∧ (s.lane l).trial = false ∧ s.fg (cryB l) CRY.BOOTINFO_BANK = (s.lane l).active)] ∧ (s.lane l).cryOp = 0 ∧ ok = false ∧ op ≠ 1) ∧
    (∃ (l : Lane) (c : Instr) (op : Nat) (ok : Bool) (s : State), s.running l = true ∧ (c, op, ok) ∈ [(.cryAttest l, 1, (s.fb (cryB l) CRY.STATUS_KEYOK || s.bistIn l 41) && s.cryArgOk l), (.cryInstall l, 2, s.sk.st ∈ [UState.service, .cmpDegraded, .noWitness, .safeHold, .bench] ∧ (s.lane l).trial = false), (.cryCommit l, 3, s.sk.st ∈ [UState.service, .bench] ∧ (s.lane l).trial = true ∧ s.fg (cryB l) CRY.BOOTINFO_BANK ≠ (s.lane l).active), (Instr.cryAdvance l, 4, s.sk.st ∈ [UState.service, .bench] ∧ (s.lane l).trial = false ∧ s.fg (cryB l) CRY.BOOTINFO_BANK = (s.lane l).active)] ∧ (s.lane l).cryOp ≠ 0) ∧
    (∃ (l : Lane) (k : Fin 16) (g : List Byte) (s : State), (s.running l = true) ∧ ((s.lane l).cryOp ≠ 0) ∧ ((s.lane l).cryOp ≠ 4) ∧ (k.val ≠ 0)) ∧
    (∃ (l : Lane) (g : List Byte) (s : State), (s.running l = true) ∧ ((s.lane l).cryOp = 0)) ∧
    (∃ (l : Lane) (g : List Byte) (s : State), (s.running l = true) ∧ ((s.lane l).cryOp ≠ 0)) ∧
    (∃ (l : Lane) (g : List Byte) (s : State), (s.running l = true) ∧ ((s.lane l).cryOp = 1) ∧ (g.length = 384) ∧ (s.cryArg l + 512 ≤ 2 ^ 40)) ∧
    (∃ (l : Lane) (g : List Byte) (s : State), (s.running l = true) ∧ ((s.lane l).cryOp = 2)) ∧
    (∃ (l : Lane) (g : List Byte) (s : State), (s.running l = true) ∧ ((s.lane l).cryOp = 3)) ∧
    (∃ (l : Lane) (g : List Byte) (s : State), (s.running l = true) ∧ ((s.lane l).cryOp = 4)) :=
  ⟨⟨.A, 71, lm .A (fun x => { x with bistNext := 71 }) (skm (fun k => { k with hold := some { left := 1 } }) (svc.fs (bistB .A) BIST.CTRL_EN 1)), by decide +kernel⟩,
   ⟨.A, 41, lm .A (fun x => { x with bistNext := 41 }) (svc.fs (bistB .A) BIST.CTRL_EN 1), by decide +kernel⟩,
   ⟨.W, 51, svc.fs (bistB .W) BIST.CTRL_EN 1, by decide +kernel⟩,
   ⟨.A, 70, false, slice .A 70, by decide +kernel⟩,
   ⟨.A, true, slice .A 41, by decide +kernel⟩,
   ⟨.A, false, slice .A 41, by decide +kernel⟩,
   ⟨.A, 71, true, slice .A 71, by decide +kernel⟩,
   ⟨.A, 0, true, slice .A 0, by decide +kernel⟩,
   ⟨.A, 5, ut .A 145000000 (lm .A (fun x => { x with sweepAt := some 5 }) ((svc.fs (bistB .A) BIST.CTRL_EN 1).fs (bistB .A) BIST.CTRL_SLOTINT 1)), by decide +kernel⟩,
   ⟨.A, 1, svc, by decide +kernel⟩,
   ⟨.A, 0xff01, svc, by decide +kernel⟩,
   ⟨.A, .cryInstall .A, 2, true, svc, by decide +kernel⟩,
   ⟨.A, .cryCommit .A, 3, false, svc, by decide +kernel⟩,
   ⟨.A, .cryAdvance .A, 4, true, lm .A (fun x => { x with cryOp := 2 }) svc, by decide +kernel⟩,
   ⟨.A, 7, [], lm .A (fun x => { x with cryOp := 3 }) svc, by decide +kernel⟩,
   ⟨.A, [], svc, by decide +kernel⟩,
   ⟨.A, List.replicate 384 5, lm .A (fun x => { x with cryOp := 1 }) (svc.fs (cryB .A) CRY.ARG_L_ADDR 0x20000000), by decide +kernel⟩,
   ⟨.A, List.replicate 384 5, lm .A (fun x => { x with cryOp := 1 }) (svc.fs (cryB .A) CRY.ARG_L_ADDR 0x20000000), by decide +kernel⟩,
   ⟨.A, [], lm .A (fun x => { x with cryOp := 2 }) svc, by decide +kernel⟩,
   ⟨.A, [], lm .A (fun x => { x with cryOp := 3, trial := true }) (svc.fs (cryB .A) CRY.BOOTINFO_BANK 1), by decide +kernel⟩,
   ⟨.A, [], lm .A (fun x => { x with cryOp := 4 }) (svc.fs (cryB .A) CRY.BOOTINFO_VERSION 64), by decide +kernel⟩⟩

/-- The hypotheses of RegisterWritesFollowTheAccessCodes can be met. -/
theorem test_meets_RegisterWritesFollowTheAccessCodes :
    (∃ (n : Fin 3) (a : Nat) (r : RegRow) (f : FieldRow) (w : Word) (v : Word) (k : Bool), (rowAt n.val a = some r) ∧ (f ∈ r.fields) ∧ (f.acc = .rw)) ∧
    (∃ (n : Fin 3) (a : Nat) (r : RegRow) (f : FieldRow) (w : Word) (v : Word) (k : Bool), (rowAt n.val a = some r) ∧ (f ∈ r.fields) ∧ (f.acc = .w1c)) ∧
    (∃ (n : Fin 3) (a : Nat) (r : RegRow) (f : FieldRow) (w : Word) (v : Word) (k : Bool), (rowAt n.val a = some r) ∧ (f ∈ r.fields) ∧ ((f.acc = .ro ∨ f.acc = .wo ∨ f.acc = .rc))) ∧
    (∃ (l : Lane) (a : BitVec 40) (v : Word) (r : RegRow) (s : State), (s.running l = true) ∧ ((s.lane l).stores = []) ∧ ((0x40508000 ≤ a.toNat ∧ a.toNat < 0x40508600 ∨ 0x40d00000 ≤ a.toNat ∧ a.toNat < 0x40d00014)) ∧ (a.toNat % 4 = 0) ∧ (rowAt (laneNo l) a.toNat = some r)) ∧
    (∃ (l : Lane) (a : BitVec 40) (v : Word) (hi : Word) (size : Fin 4) (s : State), (s.running l = true) ∧ ((s.lane l).stores = []) ∧ (inRegRegion a.toNat = true) ∧ ((a.toNat % 4 ≠ 0 ∨ size ≠ 2))) ∧
    (∃ (l : Lane) (a : BitVec 40) (v : Word) (s : State), (s.running l = true) ∧ ((s.lane l).stores = []) ∧ ((mapped (laneNo l) a.toNat = false ∧ (inRegRegion a.toNat = true → a.toNat % 4 = 0) ∨ a.toNat % 4 = 0 ∧ (a.toNat < 0x40000 ∨ 0x13fc0000 ≤ a.toNat ∧ a.toNat < 0x13fffffc ∨ 0x210f8000 ≤ a.toNat ∧ a.toNat < 0x210ffffc)))) ∧
    (∃ (l : Lane) (a : BitVec 40) (v : Word) (s : State), (s.running l = true) ∧ ((s.lane l).stores = []) ∧ (0x20000000 ≤ a.toNat) ∧ (a.toNat + 4 ≤ 0x20200000) ∧ (a.toNat % 4 ≠ 0)) ∧
    (∃ (l : Lane) (a : BitVec 40) (v : Word) (s : State), (s.running l = true) ∧ ((s.lane l).stores = []) ∧ (0x20000000 ≤ a.toNat) ∧ (a.toNat + 4 ≤ 0x20200000) ∧ (a.toNat % 4 = 0)) :=
  ⟨⟨0, 0x21100000, ⟨0, 4, 1, [⟨0, 1, .rw, true, 0⟩]⟩, ⟨0, 1, .rw, true, 0⟩, 0, 1, true, by decide +kernel⟩,
   ⟨0, 0x40400060, ⟨0x60, 4, 2, [⟨0, 32, .w1c, false, 0⟩]⟩, ⟨0, 32, .w1c, false, 0⟩, 0, 1, false, by decide +kernel⟩,
   ⟨0, 0x21100004, ⟨4, 4, 1, [⟨0, 9, .ro, false, 0⟩, ⟨9, 4, .ro, false, 8⟩, ⟨13, 1, .ro, false, 0⟩, ⟨14, 1, .ro, false, 0⟩]⟩, ⟨0, 9, .ro, false, 0⟩, 0, 1, false, by decide +kernel⟩,
   ⟨.A, 0x405085fc, 3, ⟨0x8000, 4, 384, [⟨0, 2, .rw, true, 0⟩]⟩, svc, by decide +kernel⟩,
   ⟨.A, 0x21100002, 5, 0, 2, svc, by decide +kernel⟩,
   ⟨.A, 0x3fffc, 5, svc, by decide +kernel⟩,
   ⟨.A, 0x20000001, 5, svc, by decide +kernel⟩,
   ⟨.A, 0x201ffffc, 5, svc, by decide +kernel⟩⟩

/-! Words and results the specification writes out -/

/-- The word of chapter 04's example BMAC V17, V16, V11, V14. -/
theorem test_word_bmac :
    insOf 0x238c16e000000000 = ⟨0x23, 17, 16, 11, 14, 0, 0⟩ ∧ legalWord 0x238c16e000000000 0x23 0 = true := by decide +kernel

/-- The OUT word of the worked example of chapter 04: AXIS, index 0, V30, A3, A4, QOUT 16. -/
theorem test_word_out :
    insOf 0x1907864000100001 = ⟨0x19, 0, 30, 3, 4, 0, 0x100001⟩ ∧ legalWord 0x1907864000100001 0x19 0 = true := by decide +kernel

/-- The block of chapter 03's worked example: 1570.796327, 0.0008 and 0.0001 get the exponent 11 and these mantissas. -/
theorem test_block_of_three :
    roundBlk [.frac 1570796327 1000000, .frac 8 10000, .frac 1 10000] = (⟨3, 11, [6433982, 3, 0, 0, 0, 0, 0, 0]⟩, false) := by
  decide +kernel

/-- The second element alone has the exponent -10 (chapter 03). -/
theorem test_block_of_one : (roundBlk [.frac 8 10000]).1 = ⟨1, -10, [6871948, 0, 0, 0, 0, 0, 0, 0]⟩ := by decide +kernel

/-- The SHA-256 of three bytes, from the standard's own example. -/
theorem test_sha256_abc :
    sha256 [0x61, 0x62, 0x63] =
      [0xba7816bf, 0x8f01cfea, 0x414140de, 0x5dae2223, 0xb00361a3, 0x96177a9c, 0xb410ff61, 0xf20015ad] := by
  decide +kernel

/-- Reset keeps every store in its canonical form. -/
theorem test_reset_canonical : State.reset.canonical = true := by decide +kernel

/-- Reset waits for no command. -/
theorem test_reset_pending : State.reset.pending = [] := rfl

/-! Well-formed commands -/

/-- A word reaches its own form's row alone. -/
theorem test_wf_word : (Instr.bmac .A 0 0x238c16e000000000).wf = true ∧ (Instr.badd .A 0 0x238c16e000000000).wf = false := by
  decide +kernel

/-- The flags choose between BINT and BINT.LU. -/
theorem test_wf_bint : (Instr.bint .A 0 (dw 0x49 1 2 3 4 0 15)).wf = true ∧ (Instr.bint .A 0 (dw 0x49 1 2 3 4 1 15)).wf = false ∧
    (Instr.bintLu .A 0 (dw 0x49 1 2 3 4 1 15)).wf = true := by
  decide +kernel

/-- A beacon's periods are not 0, and no axis slips twice. -/
theorem test_wf_beacon : (Instr.beacon 50 50 50 []).wf = true ∧ (Instr.beacon 0 50 50 []).wf = false ∧
    (Instr.beacon 50 0 50 []).wf = false ∧ (Instr.beacon 50 50 0 []).wf = false ∧ (Instr.beacon 50 50 50 [(.A, 1), (.A, 1)]).wf = false := by
  decide +kernel

/-- A memory address has 40 bits. -/
theorem test_wf_address : (Instr.memoryEccError .A .dram 0 true).wf = true ∧ (Instr.memoryEccError .A .dram (2 ^ 40) true).wf = false := by
  decide +kernel

/-- A slice fails at most once in a sweep. -/
theorem test_wf_slices : (Instr.startSweepDone .A [3, 3]).wf = false ∧ (Instr.targetedTestDone .A [3, 3]).wf = false := by decide +kernel

/-- A SENT frame of nine nibbles, and nibbles decoded to 17. -/
theorem test_wf_sent : (Instr.sentFrame .A 0 sentF 0).wf = true ∧ (Instr.sentFrame .A 0 { sentF with nibbles := List.replicate 9 0 } 0).wf = false ∧
    (Instr.sentFrame .A 0 { sentF with nibbles := [17] } 0).wf = false ∧ (Instr.sentFrame .A 0 { sentF with status := 17 } 0).wf = false ∧
    (Instr.sentFrame .A 0 { sentF with crc := 17 } 0).wf = false := by
  decide +kernel

/-- Calibration measures four units at its start, and as many samples of each kind. -/
theorem test_wf_cal : (Instr.calStartDone .A 0 [[0], [0], [0], [0]] [[0], [0], [0]]).wf = false ∧
    (Instr.calStartDone .A 0 [[0], [0], [0]] [[0], [0], [0], [0]]).wf = false ∧ (Instr.calRefDone .A 0 [1] []).wf = false ∧
    (Instr.calOverlapDone .A 0 [1] []).wf = false ∧ (Instr.calOverlapDone .A 0 [] []).wf = false := by
  decide +kernel

/-- A comparator key has a kind of four bits and an index of eight. -/
theorem test_wf_key : (Instr.cmpWindowClose 0 15 255 true true).wf = true ∧ (Instr.cmpWindowClose 0 16 0 true true).wf = false ∧
    (Instr.cmpWindowClose 0 0 256 true true).wf = false := by
  decide +kernel

/-- Frames longer than their network carries. -/
theorem test_wf_long : (Instr.sdCopyRx 0 0 0 0 1457 0).wf = false ∧
    (Instr.scnFrameRx .A 0 { scnF 0 1 with len := 2048 } 0).wf = false ∧
    (Instr.canRxFrame .A 0 { canF with data := List.replicate 9 0 } 0).wf = false := by
  decide +kernel

/-- Frame headers out of their ranges. -/
theorem test_wf_header : (Instr.scnFrameRx .A 0 (scnF 1 3) 0).wf = true ∧ (Instr.scnFrameRx .A 0 (scnF 16 3) 0).wf = false ∧
    (Instr.starFrameRx .A 0 (scnF 1 1024) 0).wf = false := by
  decide +kernel

/-- CAN frames: a base identifier of 12 bits, an FD remote frame, a classical frame with a rate switch. -/
theorem test_wf_can : (Instr.canRxFrame .A 0 canF 0).wf = true ∧ (Instr.canRxFrame .A 0 { canF with id := 0x800 } 0).wf = false ∧
    (Instr.canRxFrame .A 0 { canF true with rtr := true } 0).wf = false ∧ (Instr.canRxFrame .A 0 { canF with brs := true } 0).wf = false := by
  decide +kernel

/-- A receive error adds 1 or 8, and a signature has 384 bytes. -/
theorem test_wf_rest : (Instr.canRxError .A 0 8).wf = true ∧ (Instr.canRxError .A 0 2).wf = false ∧ (Instr.cryCmdDone .A 0 [0]).wf = false := by
  decide +kernel

end Sys2Proof.Tests
end

section
/-! SUPPORT. Turning the unit off: what no step of it changes, and what Safe Hold leaves. -/

namespace Sys2Proof.Machine

open Sys2Proof

/-- What every step of turning things off leaves alone: memory and the unit's state stay, no event on its way is lost, and no
lane held in reset is released. -/
structure State.WindsDown (s t : State) : Prop where
  mem : t.mem = s.mem
  st : t.sk.st = s.sk.st
  evq : ∀ e ∈ s.evq, e ∈ t.evq
  held : ∀ l, (s.lane l).reset = true → (t.lane l).reset = true

namespace State.WindsDown

variable {s t u : State}

theorem refl (s : State) : s.WindsDown s := ⟨rfl, rfl, fun _ h => h, fun _ h => h⟩

theorem trans (h : s.WindsDown t) (g : t.WindsDown u) : s.WindsDown u :=
  ⟨g.mem.trans h.mem, g.st.trans h.st, fun e he => g.evq e (h.evq e he), fun l hl => g.held l (h.held l hl)⟩

/-- A step that leaves memory, the unit's state, the events and the lanes alone. -/
theorem frame (h : s.WindsDown t) (hm : u.mem = t.mem := by rfl) (hk : u.sk.st = t.sk.st := by rfl)
    (he : u.evq = t.evq := by rfl) (hl : u.lanes = t.lanes := by rfl) : s.WindsDown u :=
  h.trans ⟨hm, hk, by rw [he]; exact fun _ h => h, fun l h => by simpa [State.lane, hl] using h⟩

theorem ite {p : Prop} [Decidable p] (ht : s.WindsDown t) (hu : s.WindsDown u) : s.WindsDown (if p then t else u) := by
  split
  · exact ht
  · exact hu

theorem foldl {α : Type} {f : State → α → State} (hf : ∀ s a, State.WindsDown s (f s a)) (l : List α) (h : s.WindsDown t) :
    s.WindsDown (l.foldl f t) := by
  induction l generalizing t with
  | nil => exact h
  | cons a l ih => exact ih (h.trans (hf _ _))

/-! Events and registers -/

theorem raise (h : s.WindsDown t) (e : Event) : s.WindsDown (t.raise e) := by
  rcases t.raise_cases e with g | g <;> rw [g]
  · exact h
  · exact h.trans ⟨rfl, rfl, fun _ he => List.mem_append_left _ he, fun _ h => h⟩

theorem raiseL (h : s.WindsDown t) (l : Lane) (src inst d : Nat) : s.WindsDown (t.raiseL l src inst d) := h.raise _

theorem raiseR (h : s.WindsDown t) (l : Lane) (src inst res d : Nat) : s.WindsDown (t.raiseR l src inst res d) := h.raise _

theorem fs (h : s.WindsDown t) (b : Nat) (f : Fld) (n : Nat) : s.WindsDown (t.fs b f n) := h.frame

theorem fInc (h : s.WindsDown t) (b : Nat) (f : Fld) : s.WindsDown (t.fInc b f) := h.frame (by simp) (by simp) (by simp) (by simp)

/-! Cells and ports -/

theorem setPp (h : s.WindsDown t) (l : DLane) (p : Nat) (x : PpSt) : s.WindsDown (t.setPp l p x) := h.frame

theorem cellCmd (h : s.WindsDown t) (l : DLane) (c src : Nat) (hs ls : Bool) : s.WindsDown (t.cellCmd l c src hs ls) := by
  have interlock := WindsDown.ite (p := (hs && ls && !(t.cell l c).both) = true)
    (((h.fInc (cellB l c) PC.CELL_COUNT_INTERLOCK).fs (cellB l c) PC.CELL_EVT_INTERLOCK 1).raiseR l.lane 0xe0 c (cellRes l c) 0) h
  exact interlock.frame

theorem cellsFloat (h : s.WindsDown t) (l : DLane) (c n : Nat) : s.WindsDown (t.cellsFloat l c n) := by
  induction n generalizing t c with
  | zero => exact h
  | succ n ih => exact ih (h.cellCmd l c _ false false) _

theorem cellsBack (h : s.WindsDown t) (l : DLane) (m : Nat) : s.WindsDown (t.cellsBack l m) :=
  foldl (fun s _ => ite ((refl s).cellCmd _ _ _ _ _) (refl s)) _ h

theorem trimApply (h : s.WindsDown t) (l : DLane) (p ph : Nat) : s.WindsDown (t.trimApply l p ph) := by
  unfold State.trimApply
  extract_lets x t b
  generalize (if State.fb _ b CAL.CTRL_PPEN then t.res else none) = res
  cases res with
  | none => exact h
  | some c => exact ite ((h.frame).raiseR _ _ _ _ _) h.frame

theorem ppTrims (h : s.WindsDown t) (old : State) (l : DLane) (p : Nat) : s.WindsDown (t.ppTrims old l p) :=
  foldl (fun s _ => ite ((refl s).trimApply _ _ _) (refl s)) _ h

theorem portState (h : s.WindsDown t) (l : DLane) (p st : Nat) : s.WindsDown (t.portState l p st) :=
  (((h.fs _ _ _).fs _ _ _).fs _ _ _).fs _ _ _

theorem portRest (h : s.WindsDown t) (l : DLane) (p st : Nat) : s.WindsDown (t.portRest l p st) := by
  unfold State.portRest
  exact (((h.cellsFloat l (18 + 3 * p) 3).portState l p st).setPp l p _).ppTrims _ _ _

theorem portToOff (h : s.WindsDown t) (l : DLane) (p : Nat) : s.WindsDown (t.portToOff l p) :=
  ite (h.cellsFloat _ _ _) (h.portRest _ _ _)

theorem portsOff (h : s.WindsDown t) : s.WindsDown t.portsOff :=
  (((h.portToOff .A 0).portToOff .A 1).portToOff .B 0).portToOff .B 1

theorem cmpStop (h : s.WindsDown t) : s.WindsDown t.cmpStop := h.frame

theorem holdsOff (h : s.WindsDown t) : s.WindsDown t.holdsOff := by
  have back := foldl (f := fun (s : State) (p : Nat × HoldReg) => if p.2.engaged then s.cellsBack p.2.lane (s.cfgHoldMotor p.1) else s)
    (fun s _ => ite ((refl s).cellsBack _ _) (refl s)) t.sf.regs h
  exact back.frame

/-! Lanes -/

/-- A lane's state is replaced by one that is in reset wherever the lane was. -/
theorem setLane (h : s.WindsDown t) (l : Lane) (x : LaneSt) (hx : (t.lane l).reset = true → x.reset = true) :
    s.WindsDown (t.setLane l x) := by
  refine h.trans ⟨rfl, rfl, fun _ h => h, fun m hm => ?_⟩
  rw [State.lane_setLane]
  split
  · next e => exact hx (e ▸ hm)
  · exact hm

theorem lockAll (h : s.WindsDown t) : s.WindsDown t.lockAll := by
  have lock (u : State) (hu : s.WindsDown u) (l : Lane) : s.WindsDown (u.setLane l { u.lane l with locked := true }) :=
    hu.setLane l _ id
  exact lock _ (lock _ (lock _ h .A) .B) .W

theorem tapsLost (h : s.WindsDown t) (l : Lane) : s.WindsDown (t.tapsLost l) := by
  unfold State.tapsLost
  split
  · exact ite (foldl (fun s _ => (refl s).raiseL _ _ _ _) _ h) h
  · exact h

theorem holdReset (h : s.WindsDown t) (l : Lane) : s.WindsDown (t.holdReset l) := by
  unfold State.holdReset
  exact ((h.tapsLost l).frame).setLane l _ fun _ => rfl

theorem skinkReset (h : s.WindsDown t) (l : Lane) : s.WindsDown (t.skinkReset l) := (h.holdReset l).fs _ _ _

theorem axoDrop (h : s.WindsDown t) : s.WindsDown t.axoDrop := by
  unfold State.axoDrop
  split
  · exact (h.frame).skinkReset _
  · exact h

end State.WindsDown

@[simp] theorem State.skinkReset_lane_reset (s : State) (l : Lane) : ((s.skinkReset l).lane l).reset = true := by
  simp [State.skinkReset, State.holdReset, LaneSt.afterReset]

/-! Safe Hold -/

@[simp] theorem State.holdsOff_regs (s : State) : s.holdsOff.sf.regs = [] := rfl

/-- What Safe Hold leaves where the unit comes to it from elsewhere than Safe Stop (R53): memory, every event on its way and every
reset stay, and no regulator is engaged. -/
theorem State.enterSafeHold_spec {s : State} (h : s.sk.st ≠ .safeStop) :
    s.enterSafeHold.sk.st = .safeHold ∧ s.enterSafeHold.sf.regs = [] ∧ s.enterSafeHold.mem = s.mem ∧
      (∀ e ∈ s.evq, e ∈ s.enterSafeHold.evq) ∧ ∀ l, (s.lane l).reset = true → (s.enterSafeHold.lane l).reset = true := by
  have stopped := (((WindsDown.ite (p := s.sk.st = .chorus) (WindsDown.refl s).lockAll (.refl s)).axoDrop).portsOff).cmpStop
  unfold State.enterSafeHold
  dsimp only
  generalize State.cmpStop _ = w at stopped ⊢
  simp only [if_neg (stopped.st.trans_ne h)]
  have off := stopped.holdsOff
  have free := w.holdsOff_regs
  generalize w.holdsOff = u at off free ⊢
  exact ⟨rfl, free, off.mem, off.evq, off.held⟩

/-- With no regulator engaged, in a state that does not drive, nothing lets a cell switch. -/
theorem State.unitGatesOff_of_inactive {s : State} (hst : s.sk.st.active = false) (hr : s.sf.regs = []) : s.unitGatesOff := by
  intro l i _ _ hs
  have notHeld : s.heldCell l i = false := by simp [State.heldCell, State.holdOf, hr, famGet]
  have notFree : s.cellFree l i = false := by
    simp [State.cellFree, notHeld, State.axDrives, State.ppDrives, State.laneDrives, hst]
  simp [State.gateOn, State.gateTurns, notFree]

theorem State.enterSafeHold_unitGatesOff {s : State} (h : s.sk.st ≠ .safeStop) : s.enterSafeHold.unitGatesOff := by
  obtain ⟨hst, hr, -⟩ := State.enterSafeHold_spec h
  exact unitGatesOff_of_inactive (by rw [hst]; rfl) hr

end Sys2Proof.Machine
end

section
/-! SUPPORT. A start: what the report of a verified image, the checks of Chorus and their time limits leave (R40, R504, R505). -/

namespace Sys2Proof.Machine

open Sys2Proof

/-! The sections of an image -/

@[simp] theorem State.rdBytes_setLane (s : State) (l : Lane) (x : LaneSt) (n a k : Nat) :
    (s.setLane l x).rdBytes n a k = s.rdBytes n a k := by
  induction k generalizing a with
  | zero => rfl
  | succ k ih => simp [State.rdBytes, ih]

@[simp] theorem State.wrBytes_setLane (s : State) (l : Lane) (x : LaneSt) (n a : Nat) (bs : List Byte) :
    (s.setLane l x).wrBytes n a bs = (s.wrBytes n a bs).setLane l x := by
  induction bs generalizing s a with
  | nil => rfl
  | cons b bs ih => exact ih (s.wr8 n a b) _

/-- Written bytes change memory alone. -/
theorem State.wrBytes_only_mem (s : State) (n a : Nat) (bs : List Byte) : ∃ m, s.wrBytes n a bs = { s with mem := m } := by
  induction bs generalizing s a with
  | nil => exact ⟨s.mem, rfl⟩
  | cons b bs ih => exact ih (s.wr8 n a b) _

/-- Loading an image's sections changes memory alone. -/
theorem State.loadImage_only_mem (s : State) (l : Lane) (bank : Nat) : ∃ m : List Host.Cell, s.loadImage l bank = { s with mem := m } := by
  refine List.foldlRecOn (motive := fun t : State => ∃ m : List Host.Cell, t = { s with mem := m }) _ _ ⟨s.mem, rfl⟩ ?_
  rintro _ ⟨m, rfl⟩ i -
  exact State.wrBytes_only_mem _ _ _ _

/-- The image that is loaded does not depend on what a lane holds besides its memory. -/
@[simp] theorem State.loadImage_setLane (s : State) (l m : Lane) (x : LaneSt) (bank : Nat) :
    (s.setLane m x).loadImage l bank = (s.loadImage l bank).setLane m x := by
  simp only [State.loadImage, State.rdBytes_setLane]
  exact List.foldl_hom (fun t : State => t.setLane m x) fun t i => by simp

/-! The report of a verified image -/

/-- What a boot from the other bank adds to the report, FALLBACK and 0x160, leaves Skink, memory, the lanes and every other field of
the crypto block alone. -/
theorem State.reportFallback_frame (t : State) (l : Lane) (first : Prop) [Decidable first] :
    ∃ u, u = (if first then t else (t.fs (cryB l) CRY.BOOTINFO_FALLBACK 1).raiseL l 0x160 255) ∧
      u.sk = t.sk ∧ u.mem = t.mem ∧ (∀ m, u.lane m = t.lane m) ∧
      ∀ g, CRY.BOOTINFO_FALLBACK.apart g = true → u.fg (cryB l) g = t.fg (cryB l) g := by
  refine ⟨_, rfl, ?_⟩
  split
  · exact ⟨rfl, rfl, fun _ => rfl, fun _ _ => rfl⟩
  · exact ⟨by simp, by simp, by simp, fun g hg => by rw [State.raiseL_fg, State.fg_fs_apart _ _ (by decide) hg]⟩

/-- An accepted image (R504, R505): its sections are loaded, the report stands in the lane's registers, and the cores start in M
mode. The third report ends Tadpole. -/
theorem execImageCheckDone_accepted {l : Lane} {v : Fin 65} {k : Fin 4} {c h : BitVec 256} {s : State} (hr : (s.lane l).reset = false)
    (hv : (s.lane l).verified = false) (hb : (s.lane l).bootBad < 2) (hroll : (s.lane l).rollback ≤ v.val) :
    ∃ t : State, execImageCheckDone l true v k c h s = .next
        (if t.sk.st = .tadpole ∧ (t.lane .A).verified ∧ (t.lane .B).verified ∧ (t.lane .W).verified then t.enterChorus else t) ∧
      t.sk = s.sk ∧ t.mem = (s.loadImage l (if (s.lane l).bootBad = 0 then (s.lane l).bootPref else 1 - (s.lane l).bootPref)).mem ∧
      (t.lane l).verified = true ∧ (t.lane l).user = [] ∧ (∀ m, m ≠ l → t.lane m = s.lane m) ∧
      t.fg (cryB l) CRY.BOOTINFO_VERSION = v.val ∧ t.fg (cryB l) CRY.BOOTINFO_KEYSLOT = k.val ∧
      t.fg (cryB l) CRY.STATUS_KEYOK = 1 := by
  unfold execImageCheckDone
  simp only [hr, hv, hroll, Nat.not_le.mpr hb, Bool.false_eq_true, or_self, if_false, Bool.true_and, decide_true, if_true,
    State.loadImage_setLane]
  generalize (if (s.lane l).bootBad = 0 then (s.lane l).bootPref else 1 - (s.lane l).bootPref) = bank
  obtain ⟨m, hm⟩ := s.loadImage_only_mem l bank
  rw [hm]
  have hver : v.val % 2 ^ 7 = v.val := Nat.mod_eq_of_lt (by omega)
  have hkey : k.val % 2 ^ 2 = k.val := Nat.mod_eq_of_lt (by omega)
  obtain ⟨u, hu, hsk, hmem, hlane, hfg⟩ := State.reportFallback_frame _ l ((s.lane l).bootBad = 0)
  rw [← hu]
  refine ⟨_, rfl, by simp [hsk], by simp [hmem], ?_, ?_, fun m hm => ?_, ?_, ?_, ?_⟩
  · simp [hlane]
  · simp [hlane]
  · simp [hlane, State.lane_setLane, hm]; rfl
  all_goals simp (disch := decide) only [State.fg_fs_apart, State.fg_fs_same, hfg]
  · exact hver
  · exact hkey
  · rfl

/-- A refused second bank (R505): 0x161, and no bank is left. -/
theorem execImageCheckDone_refused {l : Lane} {v : Fin 65} {k : Fin 4} {c h : BitVec 256} {s : State} (hr : (s.lane l).reset = false)
    (hv : (s.lane l).verified = false) (hb : (s.lane l).bootBad = 1) :
    execImageCheckDone l false v k c h s = .next ((s.setLane l { s.lane l with bootBad := 2 }).raiseL l 0x161 255) := by
  simp [execImageCheckDone, hr, hv, hb]

/-! Chorus -/

@[simp] theorem State.enterChorus_st (s : State) : s.enterChorus.sk.st = .chorus := rfl
@[simp] theorem State.enterChorus_mem (s : State) : s.enterChorus.mem = s.mem := rfl
@[simp] theorem State.enterChorus_fg (s : State) (b : Nat) (f : Fld) : s.enterChorus.fg b f = s.fg b f := rfl

/-- A change made to lane A's state, then B's, then W's, reaches each lane once. -/
theorem State.lane_setLane_all (s : State) (f : LaneSt → LaneSt) (l : Lane) :
    let g := fun (t : State) m => t.setLane m (f (t.lane m))
    (g (g (g s .A) .B) .W).lane l = f (s.lane l) := by
  cases l <;> simp [State.lane_setLane]

@[simp] theorem State.enterChorus_lane (s : State) (l : Lane) : s.enterChorus.lane l = { s.lane l with swept := false } :=
  State.lane_setLane_all (s.setSk { s.sk with st := .chorus, chorusAt := s.now, cfgOk := false, cmpOk := false })
    (fun x => { x with swept := false }) l

@[simp] theorem State.lockAll_lane (s : State) (l : Lane) : s.lockAll.lane l = { s.lane l with locked := true } :=
  s.lane_setLane_all (fun x => { x with locked := true }) l

/-- The unit leaves Chorus for Bench or for Service, with every lane's LK fields locked (R7, R40). -/
theorem State.leaveChorus_spec (s : State) : s.leaveChorus.sk.st = (if s.cfgBench then .bench else .service) ∧
    (∀ l, (s.leaveChorus.lane l).locked = true) ∧ s.leaveChorus.regs = s.regs ∧ s.leaveChorus.mem = s.mem := by
  have hb : s.lockAll.cfgBench = s.cfgBench := rfl
  unfold State.leaveChorus
  dsimp only
  rw [hb]
  split
  · exact ⟨rfl, fun l => congrArg LaneSt.locked (s.lockAll_lane l), rfl, rfl⟩
  · exact ⟨rfl, fun l => congrArg LaneSt.locked (s.lockAll_lane l), rfl, rfl⟩

theorem State.chorusAll_iff (s : State) : s.chorusAll = true ↔ s.sk.cfgOk = true ∧ s.sk.cmpOk = true ∧ ∀ l, (s.lane l).swept = true := by
  simp only [State.chorusAll, Bool.and_eq_true, and_assoc]
  refine and_congr_right fun _ => and_congr_right fun _ => ⟨fun ⟨hA, hB, hW⟩ l => ?_, fun h => ⟨h .A, h .B, h .W⟩⟩
  cases l
  · exact hA
  · exact hB
  · exact hW

theorem State.chorusCheck_of_all {s : State} (hst : s.sk.st = .chorus) (h : s.chorusAll = true) : s.chorusCheck = s.leaveChorus :=
  if_pos ⟨hst, h⟩

theorem State.chorusCheck_of_not_all {s : State} (h : s.chorusAll = false) : s.chorusCheck = s :=
  if_neg fun g => by simp [h] at g

/-- A fault of Skink takes the unit to Safe Hold with every gate off. -/
theorem State.raiseS_enterSafeHold {s : State} {src c : Nat} (hc : defaultClass .skink src = some c) (hst : s.sk.st ≠ .safeStop) :
    (s.raiseS src).enterSafeHold.sk.st = .safeHold ∧ (s.raiseS src).enterSafeHold.unitGatesOff ∧
      SkinkEvent (s.raiseS src).enterSafeHold src 255 ∧ (s.raiseS src).enterSafeHold.mem = s.mem := by
  have hst' : (s.raiseS src).sk.st ≠ .safeStop := by rwa [State.raiseS_sk]
  obtain ⟨hold, -, hmem, hevq, -⟩ := State.enterSafeHold_spec hst'
  have raised : s.stamp { coll := .skink, src := src } ∈ (s.raiseS src).evq := by
    rw [s.raiseS_evq _ _ _ hc]
    exact List.mem_append_right _ List.mem_cons_self
  exact ⟨hold, State.enterSafeHold_unitGatesOff hst', ⟨_, hevq _ raised, rfl, rfl, rfl⟩, hmem.trans (s.raiseS_mem ..)⟩

/-- A passed comparator test is one of the checks of Chorus (R309). -/
theorem execChorusCmpTestDone_pass {s : State} (hst : s.sk.st = .chorus) :
    execChorusCmpTestDone true s = .next (s.setSk { s.sk with cmpOk := true }).chorusCheck := by
  rw [execChorusCmpTestDone, if_pos hst, if_pos rfl]

/-! The start sweep -/

/-- A sweep is counted in BIST.STATUS. -/
def State.sweepCount (s : State) (l : Lane) : State :=
  let t := (s.fs (bistB l) BIST.STATUS_SET 2).fs (bistB l) BIST.STATUS_SLICE 71
  if t.fg (bistB l) BIST.STATUS_SWEEPS < 65535 then t.fInc (bistB l) BIST.STATUS_SWEEPS else t

/-- The count changes registers alone. -/
theorem State.sweepCount_frame (s : State) (l : Lane) : (s.sweepCount l).mem = s.mem ∧ (s.sweepCount l).sk = s.sk ∧
    (s.sweepCount l).evq = s.evq ∧ (s.sweepCount l).lanes = s.lanes := by
  unfold State.sweepCount
  dsimp only
  split <;> simp

/-- START_SWEEP_DONE in Chorus (R499): a clean sweep is the lane's part of the checks; a failed one resets the lane and ends Chorus
in Safe Hold. -/
theorem execStartSweepDone_chorus {l : Lane} {s : State} (failed : List (Fin 72)) (hst : s.sk.st = .chorus)
    (hr : (s.lane l).reset = false) :
    let bad := (failed.map (fun i => i.val)).filter (fun n => !sliceAbsent l n)
    let t := (bad.foldl (fun s n => s.sliceFail l n) s).sweepCount l
    execStartSweepDone l failed s = .next
      (if bad.isEmpty then (t.setLane l { t.lane l with swept := true }).chorusCheck else (t.skinkReset l).enterSafeHold) := by
  simp only [execStartSweepDone, hr, hst, Bool.false_eq_true, if_false, if_true]
  rfl

end Sys2Proof.Machine
end

section
/-! PROOF. The ends of a start. -/

namespace Sys2Proof.Machine

open Sys2Proof

/-- An accepted image completes, with its report and its sections; the third report alone ends Tadpole (R504, R505, R40). -/
theorem imageCheckDone_accepted_completes (l : Lane) (v : Fin 65) (k : Fin 4) (c h : BitVec 256) (s : State)
    (hr : (s.lane l).reset = false) (hv : (s.lane l).verified = false) (hb : (s.lane l).bootBad < 2)
    (hroll : (s.lane l).rollback ≤ v.val) : Completes (.imageCheckDone l true v k c h) s fun t =>
      (t.lane l).verified = true ∧ t.fg (cryB l) CRY.BOOTINFO_VERSION = v.val ∧ t.fg (cryB l) CRY.BOOTINFO_KEYSLOT = k.val ∧
      t.fg (cryB l) CRY.STATUS_KEYOK = 1 ∧ (t.lane l).user = [] ∧
      t.mem = (s.loadImage l (if (s.lane l).bootBad = 0 then (s.lane l).bootPref else 1 - (s.lane l).bootPref)).mem ∧
      (s.sk.st = .tadpole → (∀ m, m ≠ l → (s.lane m).verified = true) → t.sk.st = .chorus) ∧
      ((∃ m, m ≠ l ∧ (s.lane m).verified = false) → t.sk = s.sk) := by
  obtain ⟨t, ht, hsk, hmem, hver, huser, hother, hversion, hslot, hkey⟩ :=
    execImageCheckDone_accepted (k := k) (c := c) (h := h) hr hv hb hroll
  refine ⟨_, (exec_imageCheckDone ..).trans ht, ?_⟩
  split
  · next third =>
    obtain ⟨-, hA, hB, hW⟩ := third
    refine ⟨by simpa using hver, hversion, hslot, hkey, by simpa using huser, hmem, fun _ _ => rfl, ?_⟩
    rintro ⟨m, hm, hnot⟩
    rw [← hother m hm] at hnot
    cases m
    · simp [hA] at hnot
    · simp [hB] at hnot
    · simp [hW] at hnot
  · next notThird =>
    refine ⟨hver, hversion, hslot, hkey, huser, hmem, fun hst hall => absurd ?_ notThird, fun _ => hsk⟩
    have verified (m : Lane) : (t.lane m).verified = true := by
      by_cases hm : m = l
      · exact hm ▸ hver
      · rw [hother m hm]; exact hall m hm
    exact ⟨hsk ▸ hst, verified .A, verified .B, verified .W⟩

/-- A second refusal completes with 0x161 and no other effect than the count of refused banks (R505). -/
theorem imageCheckDone_refused_completes (l : Lane) (v : Fin 65) (k : Fin 4) (c h : BitVec 256) (s : State)
    (hr : (s.lane l).reset = false) (hv : (s.lane l).verified = false) (hb : (s.lane l).bootBad = 1) :
    Completes (.imageCheckDone l false v k c h) s fun t =>
      (t.lane l).verified = false ∧ (t.lane l).bootBad = 2 ∧ t.sk = s.sk ∧ t.regs = s.regs ∧ t.mem = s.mem ∧
      t.evq = s.evq ++ [s.stamp { coll := .lane l, src := 0x161, res := resLane l }] := by
  refine ⟨_, (exec_imageCheckDone ..).trans (execImageCheckDone_refused hr hv hb), by simp [hv], by simp, by simp, by simp, by simp, ?_⟩
  rw [State.raiseL_evq _ 255 0 rfl (by simpa using hr)]
  rfl

/-- A failed slice in Chorus completes in Safe Hold, with the lane in reset and 0x150 on its way (R40, R499, R502). -/
theorem startSweepDone_failed_completes (l : Lane) (n : Fin 72) (s : State) (hst : s.sk.st = .chorus) (hr : (s.lane l).reset = false)
    (hn : sliceAbsent l n.val = false) : Completes (.startSweepDone l [n]) s fun t =>
      t.sk.st = .safeHold ∧ (t.lane l).reset = true ∧ LaneEvent t l 0x150 n.val := by
  have hexec := execStartSweepDone_chorus [n] hst hr
  simp only [List.map_cons, List.map_nil, List.filter_cons, hn, Bool.not_false, if_true, List.filter_nil, List.foldl_cons,
    List.foldl_nil, List.isEmpty_cons, Bool.false_eq_true, if_false] at hexec
  have raised : s.stamp { coll := .lane l, src := 0x150, inst := n, res := resLane l } ∈ (s.sliceFail l n).evq := by
    unfold State.sliceFail
    rw [(s.sliceFailQuiet l n).raiseL_evq (src := 0x150) n 0 rfl hr]
    exact List.mem_append_right _ List.mem_cons_self
  obtain ⟨hmem, hsk, hevq, hlanes⟩ := (s.sliceFail l n).sweepCount_frame l
  have down := ((State.WindsDown.refl _).frame hmem (by rw [hsk]) hevq hlanes).skinkReset l
  have chorus : (s.sliceFail l n).sk.st = .chorus := by simpa [State.sliceFail, State.sliceFailQuiet] using hst
  obtain ⟨hold, -, -, kept, held⟩ := State.enterSafeHold_spec (down.st.trans_ne (by simp [chorus]))
  refine ⟨_, (exec_startSweepDone ..).trans hexec, hold, held l (State.skinkReset_lane_reset _ l), ?_⟩
  exact ⟨_, kept _ (down.evq _ raised), rfl, rfl, rfl⟩

/-- A clean sweep, the last check of Chorus, completes with the unit in Service or Bench and every lane locked (R7, R40). -/
theorem startSweepDone_last_completes (l : Lane) (s : State) (hst : s.sk.st = .chorus) (hr : (s.lane l).reset = false)
    (hcfg : s.sk.cfgOk = true) (hcmp : s.sk.cmpOk = true) (hswept : ∀ m, m ≠ l → (s.lane m).swept = true) :
    Completes (.startSweepDone l []) s fun t =>
      t.sk.st = (if s.cfgBench then .bench else .service) ∧ (∀ m, (t.lane m).locked = true) ∧ t.mem = s.mem := by
  have hexec := execStartSweepDone_chorus [] hst hr
  simp only [List.map_nil, List.filter_nil, List.foldl_nil, List.isEmpty_nil, if_true] at hexec
  obtain ⟨hmem, hsk, -, hlanes⟩ := s.sweepCount_frame l
  have hlane (m : Lane) : (s.sweepCount l).lane m = s.lane m := by simp only [State.lane, hlanes]
  generalize s.sweepCount l = t at *
  have all : (t.setLane l { t.lane l with swept := true }).chorusAll = true := by
    refine (State.chorusAll_iff _).2 ⟨by simpa [hsk] using hcfg, by simpa [hsk] using hcmp, fun m => ?_⟩
    by_cases hm : m = l
    · simp [hm]
    · simp [State.lane_setLane, hm, hlane, hswept m hm]
  rw [State.chorusCheck_of_all (by simp [hsk, hst]) all] at hexec
  obtain ⟨hend, hlocked, -, hm⟩ := (t.setLane l { t.lane l with swept := true }).leaveChorus_spec
  refine ⟨_, (exec_startSweepDone ..).trans hexec, ?_, hlocked, hm.trans hmem⟩
  simpa [State.cfgBench, State.cfgF, hsk] using hend

/-- Settles O10: an accepted image is reported and the third report ends Tadpole, the time limits and a failed test of Chorus end in
Safe Hold with every gate off, and the last of the checks locks the lanes and ends Chorus. -/
theorem startEndsInChorusServiceOrSafeHold : Obligations.StartEndsInChorusServiceOrSafeHold := by
  unfold Obligations.StartEndsInChorusServiceOrSafeHold
  refine ⟨⟨imageCheckDone_accepted_completes, imageCheckDone_refused_completes⟩,
    ⟨?_, ?_, ?_, startSweepDone_failed_completes, ?_, ?_⟩, ?_, ?_, startSweepDone_last_completes⟩
  · intro r s hst hrel hpast
    have due : s.sk.relAt.any (s.past · (500 * 10 ^ 6)) = true := by rw [hrel, Option.any_some, hpast]
    refine ⟨_, ?_, State.raiseS_enterSafeHold rfl (by simp [hst])⟩
    rw [exec_startIncomplete, execStartIncomplete, if_pos ⟨hst, due⟩]
  · intro s hst hpast
    refine ⟨_, ?_, State.raiseS_enterSafeHold rfl (by simp [hst])⟩
    rw [exec_chorusTimeout, execChorusTimeout, if_pos ⟨hst, hpast⟩]
  · intro s hst
    have hne : s.sk.st ≠ .safeStop := by simp [hst]
    obtain ⟨hold, -, hmem, -⟩ := State.enterSafeHold_spec hne
    refine ⟨_, ?_, hold, State.enterSafeHold_unitGatesOff hne, hmem⟩
    rw [exec_chorusCmpTestDone, execChorusCmpTestDone, if_pos hst, if_neg Bool.false_ne_true]
  · rintro s (hst | hrel)
    · simp [execStartIncomplete, hst]
    · simp [execStartIncomplete, hrel]
  · rintro s (hst | hpast)
    · simp [execChorusTimeout, hst]
    · rw [exec_chorusTimeout, execChorusTimeout, if_neg fun due => by simp only [hpast, Bool.false_eq_true, and_false] at due]
  · intro s hst hcfg hswept
    have all : (s.setSk { s.sk with cmpOk := true }).chorusAll = true := (State.chorusAll_iff _).2 ⟨hcfg, rfl, hswept⟩
    refine ⟨_, ?_, (s.setSk { s.sk with cmpOk := true }).leaveChorus_spec⟩
    rw [exec_chorusCmpTestDone, execChorusCmpTestDone_pass hst, State.chorusCheck_of_all (by exact hst) all]
  · intro s hst hcfg
    have notAll : (s.setSk { s.sk with cmpOk := true }).chorusAll = false := by simp [State.chorusAll, State.setSk, hcfg]
    refine ⟨_, ?_, rfl⟩
    rw [exec_chorusCmpTestDone, execChorusCmpTestDone_pass hst, State.chorusCheck_of_not_all notAll]
    rfl

end Sys2Proof.Machine
end

section
/-! SUPPORT. What a write leaves in a register, field by field (R6, R7). -/

namespace Sys2Proof.Machine

open Sys2Proof

/-! The register tables -/

/-- The fields of a row lie in a word and share no bit. -/
def RegRow.wf (r : RegRow) : Bool :=
  decide (∀ f ∈ r.fields, f.lo + f.w ≤ 32) && decide (r.fields.Pairwise fun f g => f.lo + f.w ≤ g.lo ∨ g.lo + g.w ≤ f.lo)

/-- The tables of the blocks (R456, R457). -/
def registerTables : List (List RegRow) :=
  [rowsLE, rowsAX, rowsPG, rowsPP, rowsFB, rowsSCN, rowsSCNG, rowsSTAR, [], rowsSCNM, rowsCAN, rowsIC, rowsICS, rowsFC, rowsBIST, rowsCAL,
    rowsPWR ++ rowsHIB, rowsPC, rowsDMA, rowsCRY, rowsMEMC, rowsER, rowsSK, rowsXCH, rowsCKPT, rowsCMPS, rowsSKFC]

theorem registerTables_wf : ∀ rows ∈ registerTables, ∀ r ∈ rows, r.wf = true := by decide +kernel

theorem forall_mem_ite {α : Type} {P : α → Prop} {c : Prop} [Decidable c] {x y : Option α} (hx : ∀ p ∈ x, P p)
    (hy : ∀ p ∈ y, P p) : ∀ p ∈ (if c then x else y), P p := by
  split
  · exact hx
  · exact hy

theorem blockOf_mem_registerTables (l a : Nat) : ∀ p ∈ blockOf l a, p.2 ∈ registerTables := by
  have star : (if l < 2 then rowsSTAR else []) ∈ registerTables := by
    split <;> simp only [registerTables, List.mem_cons, true_or, or_true]
  unfold blockOf
  repeat' apply forall_mem_ite
  all_goals simp only [reduceCtorEq, Option.mem_def, Option.some.injEq, forall_eq', false_imp_iff, implies_true, star]
  all_goals simp only [registerTables, List.mem_cons, true_or, or_true]

theorem findRow_mem {rows : List RegRow} {o : Nat} {r : RegRow} (h : findRow rows o = some r) : r ∈ rows := by
  induction rows with
  | nil => cases h
  | cons q rows ih =>
    rw [findRow] at h
    split at h
    · cases h; exact List.mem_cons_self
    · exact List.mem_cons_of_mem _ (ih h)

/-- A mapped address belongs to a block, and its row is well formed. -/
theorem rowAt_some {l a : Nat} {r : RegRow} (h : rowAt l a = some r) : inRegs l a = true ∧ r.wf = true := by
  unfold rowAt at h
  split at h
  · cases h
  · next base rows hb =>
    exact ⟨by simp [inRegs, hb], registerTables_wf rows (blockOf_mem_registerTables l a _ hb) r (findRow_mem h)⟩

/-! A row's write, field by field -/

/-- The bits of a field of a word. -/
def FieldRow.read (f : FieldRow) (w : Word) : Nat := w.toNat / 2 ^ f.lo % 2 ^ f.w

theorem FieldRow.testBit_read (f : FieldRow) (w : Word) {b : Nat} (hb : b < f.w) : (f.read w).testBit b = w.getLsbD (f.lo + b) := by
  simp [FieldRow.read, Nat.testBit_mod_two_pow, Nat.testBit_div_two_pow, hb, BitVec.getLsbD, Nat.add_comm]

/-- The part of a row's write that is one field's. -/
def FieldRow.write (f : FieldRow) (locked : Bool) (old v acc : Word) : Word :=
  match f.acc with
  | .rw => if f.lk && locked then acc else setBits acc f.lo f.w (f.read v)
  | .w1c => setBits acc f.lo f.w (Nat.bitwise (fun a b => a && !b) (f.read old) (f.read v))
  | .ro | .wo | .rc => acc

theorem rowWrite_eq_foldl (r : RegRow) (locked : Bool) (old v : Word) :
    rowWrite r locked old v = r.fields.foldl (fun acc f => f.write locked old v acc) old := rfl

/-- A field apart from the one written keeps its bits. -/
theorem FieldRow.read_write_of_apart {f g : FieldRow} (locked : Bool) (old v acc : Word) (hg : g.lo + g.w ≤ 32)
    (h : f.lo + f.w ≤ g.lo ∨ g.lo + g.w ≤ f.lo) : f.read (g.write locked old v acc) = f.read acc := by
  unfold FieldRow.write
  split
  · split
    · rfl
    · exact setBits_read_of_apart _ _ hg h
  · exact setBits_read_of_apart _ _ hg h
  all_goals rfl

theorem FieldRow.read_foldl_of_apart {f : FieldRow} {fs : List FieldRow} (locked : Bool) (old v acc : Word)
    (h : ∀ g ∈ fs, g.lo + g.w ≤ 32 ∧ (f.lo + f.w ≤ g.lo ∨ g.lo + g.w ≤ f.lo)) :
    f.read (fs.foldl (fun acc g => g.write locked old v acc) acc) = f.read acc := by
  induction fs generalizing acc with
  | nil => rfl
  | cons g fs ih =>
    obtain ⟨hg, hapart⟩ := h g List.mem_cons_self
    rw [List.foldl_cons, ih _ fun g' hg' => h g' (List.mem_cons_of_mem _ hg'), read_write_of_apart _ _ _ _ hg hapart]

section

variable {n a : Nat} {r : RegRow} {f : FieldRow} (hrow : rowAt n a = some r) (hf : f ∈ r.fields) (locked : Bool) (old v : Word)

include hrow hf

/-- Each field of a mapped register lies in the word and is written as if it were alone. -/
theorem FieldRow.read_rowWrite : f.lo + f.w ≤ 32 ∧
    ∃ acc, f.read acc = f.read old ∧ f.read (rowWrite r locked old v) = f.read (f.write locked old v acc) := by
  obtain ⟨-, hr⟩ := rowAt_some hrow
  simp only [RegRow.wf, Bool.and_eq_true, decide_eq_true_eq] at hr
  obtain ⟨fits, apart⟩ := hr
  refine ⟨fits f hf, ?_⟩
  obtain ⟨pre, post, hfields⟩ := List.append_of_mem hf
  rw [rowWrite_eq_foldl]
  rw [hfields] at fits apart ⊢
  obtain ⟨-, after, before⟩ := List.pairwise_append.1 apart
  rw [List.foldl_append, List.foldl_cons]
  refine ⟨_, ?_, read_foldl_of_apart _ _ _ _ fun g hg => ⟨fits g (by simp [hg]), List.rel_of_pairwise_cons after hg⟩⟩
  exact read_foldl_of_apart _ _ _ _ fun g hg => ⟨fits g (by simp [hg]), (before g hg f List.mem_cons_self).symm⟩

theorem read_rowWrite_rw (h : f.acc = .rw) :
    f.read (rowWrite r locked old v) = if f.lk && locked then f.read old else f.read v := by
  obtain ⟨fits, acc, hacc, hw⟩ := FieldRow.read_rowWrite hrow hf locked old v
  rw [hw, FieldRow.write, h]
  dsimp only
  split
  · exact hacc
  · exact (setBits_read _ _ fits).trans (Nat.mod_mod _ _)

theorem getLsbD_rowWrite_w1c (h : f.acc = .w1c) {b : Nat} (hb : b < f.w) :
    (rowWrite r locked old v).getLsbD (f.lo + b) = (old.getLsbD (f.lo + b) && !v.getLsbD (f.lo + b)) := by
  obtain ⟨fits, acc, -, hw⟩ := FieldRow.read_rowWrite hrow hf locked old v
  have field : f.read (rowWrite r locked old v) = Nat.bitwise (fun a b => a && !b) (f.read old) (f.read v) % 2 ^ f.w := by
    rw [hw, FieldRow.write, h]
    exact setBits_read _ _ fits
  rw [← f.testBit_read _ hb, ← f.testBit_read _ hb, ← f.testBit_read _ hb, field, Nat.testBit_mod_two_pow, Nat.testBit_bitwise rfl]
  simp [hb]

theorem read_rowWrite_kept (h : f.acc = .ro ∨ f.acc = .wo ∨ f.acc = .rc) : f.read (rowWrite r locked old v) = f.read old := by
  obtain ⟨-, acc, hacc, hw⟩ := FieldRow.read_rowWrite hrow hf locked old v
  rw [hw, ← hacc, FieldRow.write]
  rcases h with h | h | h <;> rw [h]

end

end Sys2Proof.Machine
end

section
/-! SUPPORT. What a core's write does over the bus: which addresses hold memory, which registers, and when a store is visible. -/

namespace Sys2Proof.Machine

open Sys2Proof

/-! The map -/

theorem inMem_of_inRegRegion {a : Nat} (h : inRegRegion a = true) : inMem a = false := by
  simp only [inRegRegion, decide_eq_true_eq] at h
  simp only [inMem, inRom, inMram, inSram, inLocal, inRet, inDram, Bool.or_eq_false_iff, decide_eq_false_iff_not]
  simp only [dramBase]
  omega

/-- The routing of interrupts and the memory controller: registers whose write has no other effect. -/
def plainRegister (a : Nat) : Prop := 0x40508000 ≤ a ∧ a < 0x40508600 ∨ 0x40d00000 ≤ a ∧ a < 0x40d00014

/-- Memory that no core may write: Tadpole ROM, and the read-only tops of MRAM and of local memory, but for their last bytes. -/
def readOnlyMemory (a : Nat) : Prop :=
  a < 0x40000 ∨ 0x13fc0000 ≤ a ∧ a < 0x13fffffc ∨ 0x210f8000 ≤ a ∧ a < 0x210ffffc

theorem plainRegister.inRegRegion {a : Nat} (h : plainRegister a) : inRegRegion a = true := by
  simp only [plainRegister] at h
  simp only [Machine.inRegRegion, decide_eq_true_eq]
  omega

theorem plainRegister.homeOf {a : Nat} (h : plainRegister a) (l : Nat) : homeOf l a = l := by
  simp only [plainRegister] at h
  simp only [Machine.homeOf, Bool.and_eq_true, decide_eq_true_eq]
  simp (disch := omega) only [if_neg]

theorem State.writeReg_plainRegister (s : State) (l : Lane) {a : Nat} (h : plainRegister a) (v : Word) :
    s.writeReg l a v = s.plainWrite l a v := by
  unfold State.writeReg
  rcases h with h | h <;> simp (disch := omega) only [if_pos, if_neg]

section

variable {s : State} {l : Lane} {a : Nat}

/-! Stores -/

theorem State.storesDrift_of_nil (h : (s.lane l).stores = []) : s.storesDrift l = s := by simp [State.storesDrift, h]

theorem State.storeRoom_of_nil (h : (s.lane l).stores = []) : s.storeRoom l = s := by simp [State.storeRoom, h]

/-- Breaking reservations leaves memory, registers, events, Skink and the waiting stores alone. -/
theorem State.breakResv_frame (s : State) (l : Lane) (a n : Nat) :
    (s.breakResv l a n).mem = s.mem ∧ (s.breakResv l a n).regs = s.regs ∧ (s.breakResv l a n).evq = s.evq ∧
      (s.breakResv l a n).sk = s.sk ∧ ∀ m, ((s.breakResv l a n).lane m).stores = (s.lane m).stores := by
  unfold State.breakResv
  dsimp only
  split
  · exact ⟨rfl, rfl, rfl, rfl, fun _ => rfl⟩
  · refine ⟨rfl, rfl, rfl, rfl, fun m => ?_⟩
    rw [State.lane_setLane]
    split
    · next h => rw [h]
    · rfl

/-- Bytes that become visible change memory, and leave registers, events, Skink and the waiting stores alone. -/
theorem State.memPut_frame (s : State) (l : Lane) (a : Nat) (bs : List Byte) :
    (s.memPut l a bs).mem = (s.wrBytes (laneNo l) a bs).mem ∧ (s.memPut l a bs).regs = s.regs ∧ (s.memPut l a bs).evq = s.evq ∧
      (s.memPut l a bs).sk = s.sk ∧ ∀ m, ((s.memPut l a bs).lane m).stores = (s.lane m).stores := by
  obtain ⟨m, hm⟩ := s.wrBytes_only_mem (laneNo l) a bs
  unfold State.memPut
  dsimp only
  rw [hm]
  split <;> exact State.breakResv_frame _ l a bs.length

/-- With one store waiting, it goes on waiting or becomes visible, whole (R465). -/
theorem State.storesDrift_of_one (s : State) {bs : List Byte} (h : (s.lane l).stores = [(a, bs)]) :
    s.storesDrift l = { s with free := s.free + 1 } ∨
      ∃ t : State, s.storesDrift l = t.memPut l a bs ∧ t.mem = s.mem ∧ t.regs = s.regs ∧ t.evq = s.evq ∧ t.sk = s.sk ∧
        (t.lane l).stores = [] := by
  unfold State.storesDrift
  simp only [h, List.cons_ne_nil, if_false, State.takeNat, List.length_singleton]
  rcases Nat.mod_two_eq_zero_or_one (Config.freeNat s.free) with hk | hk
  · right
    simp only [hk]
    exact ⟨_, rfl, rfl, rfl, rfl, rfl, by simp⟩
  · left
    simp [hk]

/-! Accesses -/

/-- A register access of another width, or misaligned, raises the lane's fault (R5). -/
theorem State.busWrite_misaligned (n v : Nat) (hr : inRegRegion a = true) (h : a % 4 ≠ 0 ∨ n ≠ 4) :
    s.busWrite l a n v = s.raiseL l 0x10 255 := by
  have bad : (inRegRegion a && (n != 4 || a % 4 != 0)) = true := by
    rcases h with h | h <;> simp [hr, h]
  simp [State.busWrite, inMem_of_inRegRegion hr, bad]

theorem State.busWrite_register (v : Nat) (hr : inRegRegion a = true) (ha : a % 4 = 0) (hm : inRegs (laneNo l) a = true) :
    s.busWrite l a 4 v = s.writeReg l a (BitVec.ofNat 32 v) := by
  simp [State.busWrite, inMem_of_inRegRegion hr, ha, hm]

/-- An access that nothing maps raises 0x100 (R458). -/
theorem State.busWrite_unmapped (v : Nat) (hm : mapped (laneNo l) a = false) (ha : inRegRegion a = true → a % 4 = 0) :
    s.busWrite l a 4 v = s.raiseL l 0x100 255 (a % 2 ^ 32) := by
  simp only [mapped, Bool.or_eq_false_iff] at hm
  obtain ⟨⟨hmem, hregs⟩, -⟩ := hm
  simp only [State.busWrite, hmem, hregs, Bool.false_eq_true, if_false, bne_self_eq_false, Bool.false_or, Bool.and_eq_true, bne_iff_ne]
  exact if_neg fun ⟨hr, hodd⟩ => hodd (ha hr)

/-- An aligned store to read-only memory raises 0x100 (R458). -/
theorem State.busWrite_readOnly (v : Nat) (hs : (s.lane l).stores = []) (ha : a % 4 = 0) (h : readOnlyMemory a) :
    s.busWrite l a 4 v = s.raiseL l 0x100 255 (a % 2 ^ 32) := by
  simp only [readOnlyMemory] at h
  have hmem : inMem a = true := by
    simp only [inMem, inRom, inMram, inSram, inLocal, inRet, Bool.or_eq_true, decide_eq_true_eq]
    omega
  have hret : inRet a = false := by
    simp only [inRet, decide_eq_false_iff_not]
    omega
  have hwrite : s.coreMayWrite l a = false := by
    simp only [State.coreMayWrite, inSram, inDram, Bool.or_eq_false_iff, Bool.and_eq_false_imp, decide_eq_false_iff_not, decide_eq_true_eq]
    simp only [dramBase]
    omega
  have barred : ((List.range (natLe 4 v).length).all fun i => s.coreMayWrite l (a + i)) = false := by
    rw [List.all_eq_false]
    exact ⟨0, by simp [natLe], by simp [hwrite]⟩
  simp [State.busWrite, hmem, ha, State.coreStore, State.storeRoom_of_nil hs, hret, barred]

/-- An aligned store to core SRAM waits to become visible (R464, R465). -/
theorem State.busWrite_sram (v : Nat) (hs : (s.lane l).stores = []) (ha : a % 4 = 0) (hlo : 0x20000000 ≤ a) (hhi : a + 4 ≤ 0x20200000) :
    s.busWrite l a 4 v = s.setLane l { s.lane l with stores := [(a, natLe 4 v)] } := by
  have hmem : inMem a = true := by
    simp only [inMem, inRom, inMram, inSram, inLocal, inRet, Bool.or_eq_true, decide_eq_true_eq]
    omega
  have hret : inRet a = false := by
    simp only [inRet, decide_eq_false_iff_not]
    omega
  have allowed : ((List.range (natLe 4 v).length).all fun i => s.coreMayWrite l (a + i)) = true := by
    rw [List.all_eq_true]
    intro i hi
    have hlen : i < 4 := by simpa [natLe] using hi
    have hsram : inSram (a + i) = true := by
      simp only [inSram, decide_eq_true_eq]
      omega
    simp [State.coreMayWrite, hsram]
  simp [State.busWrite, hmem, ha, State.coreStore, State.storeRoom_of_nil hs, hret, allowed, hs]

theorem State.busWrite_misalignedStore (v : Nat) (hm : inMem a = true) (ha : a % 4 ≠ 0) : s.busWrite l a 4 v = s := by
  simp [State.busWrite, hm, ha]

end

end Sys2Proof.Machine
end

section
/-! PROOF. Register writes and their access codes. -/

namespace Sys2Proof.Machine

open Sys2Proof

/-! Bytes read back -/

@[simp] theorem length_natLe (n x : Nat) : (natLe n x).length = n := by
  induction n generalizing x with
  | zero => rfl
  | succ n ih => simp [natLe, ih]

theorem leNat_natLe (n x : Nat) : leNat (natLe n x) = x % 256 ^ n := by
  induction n generalizing x with
  | zero => simp [natLe, leNat, Nat.mod_one]
  | succ n ih => rw [natLe, leNat, ih, Nat.pow_succ', Nat.mod_mul, BitVec.toNat_ofNat]

/-- Bytes read back as they were written. -/
theorem State.rdBytes_wrBytes_same (s : State) (l a : Nat) (bs : List Byte) : (s.wrBytes l a bs).rdBytes l a bs.length = bs := by
  induction bs generalizing s a with
  | nil => rfl
  | cons b bs ih =>
    have first : ((s.wr8 l a b).wrBytes l (a + 1) bs).rd8 l a = b := by
      rw [State.rd8_wrBytes_outside _ _ (.inl (by simp only [key]; omega)), State.rd8_wr8_same]
    rw [State.wrBytes, List.length_cons, State.rdBytes, ih, first]

theorem State.rd32_wrBytes_same (s : State) (l a : Nat) (v : Word) : (s.wrBytes l a (natLe 4 v.toNat)).rd32 l a = v := by
  have h := s.rdBytes_wrBytes_same l a (natLe 4 v.toNat)
  rw [length_natLe] at h
  rw [State.rd32, h, leNat_natLe]
  exact BitVec.eq_of_toNat_eq (by simpa using v.isLt)

theorem State.rd8_congr {s t : State} (h : s.mem = t.mem) (l a : Nat) : s.rd8 l a = t.rd8 l a := by rw [State.rd8, State.rd8, h]

theorem State.rdBytes_congr {s t : State} (h : s.mem = t.mem) (l a n : Nat) : s.rdBytes l a n = t.rdBytes l a n := by
  induction n generalizing a with
  | zero => rfl
  | succ n ih => rw [State.rdBytes, State.rdBytes, ih, State.rd8_congr h]

/-! The commands -/

section

variable {s : State} {l : Lane} {a : BitVec 40}

/-- A core's write of a lane that runs. -/
theorem exec_registerWrite_of_running (hrun : s.running l = true) (v hi : Word) (size : Fin 4) :
    exec (.registerWrite l a v size hi) s = .next ((s.busWrite l a.toNat (2 ^ size.val) (v.toNat + hi.toNat * 2 ^ 32)).storesDrift l) := by
  rw [exec_registerWrite s l a v size hi, execRegisterWrite, if_pos hrun]

/-- A 32-bit write of a lane that runs. -/
theorem exec_registerWrite_word (hrun : s.running l = true) (v : Word) :
    exec (.registerWrite l a v) s = .next ((s.busWrite l a.toNat 4 v.toNat).storesDrift l) := by
  simpa using exec_registerWrite_of_running (a := a) hrun v 0 2

theorem State.reset_of_running (hrun : s.running l = true) : (s.lane l).reset = false := by simpa [State.running] using hrun

/-- A lane's fault, raised while no store waits, is all that happens. -/
theorem State.storesDrift_raiseL (hrun : s.running l = true) (hs : (s.lane l).stores = []) {src c : Nat} (inst d : Nat)
    (hc : defaultClass (.lane l) src = some c) :
    Raises s { coll := .lane l, src := src, inst := inst, res := resLane l, detail := d } ((s.raiseL l src inst d).storesDrift l) := by
  rw [State.storesDrift_of_nil (by simpa using hs)]
  exact s.raise_of_lane rfl hc (State.reset_of_running hrun)

theorem registerWrite_plain_completes (v : Word) (r : RegRow) (hrun : s.running l = true) (hs : (s.lane l).stores = [])
    (hplain : plainRegister a.toNat) (ha : a.toNat % 4 = 0) (hrow : rowAt (laneNo l) a.toNat = some r) :
    Completes (.registerWrite l a v) s fun t =>
      t.reg (key (laneNo l) a.toNat) = rowWrite r (s.lane l).locked (s.reg (key (laneNo l) a.toNat)) v ∧
      SameRegistersBut s t [key (laneNo l) a.toNat] ∧ t.mem = s.mem ∧ t.evq = s.evq ∧ t.sk = s.sk := by
  have written : s.busWrite l a.toNat 4 v.toNat =
      s.setReg (key (laneNo l) a.toNat) (rowWrite r (s.lane l).locked (s.reg (key (laneNo l) a.toNat)) v) := by
    rw [State.busWrite_register _ hplain.inRegRegion ha (rowAt_some hrow).1, State.writeReg_plainRegister _ _ hplain]
    simp [State.plainWrite, State.rowPut, hrow, hplain.homeOf]
  refine ⟨_, exec_registerWrite_word hrun v, ?_⟩
  rw [written, State.storesDrift_of_nil (by simpa using hs)]
  refine ⟨State.reg_setReg_same .., fun k hk => State.reg_setReg_of_ne _ _ (by simpa using hk), rfl, rfl, rfl⟩

theorem registerWrite_misaligned_completes (v hi : Word) (size : Fin 4) (hrun : s.running l = true) (hs : (s.lane l).stores = [])
    (hr : inRegRegion a.toNat = true) (h : a.toNat % 4 ≠ 0 ∨ size ≠ 2) :
    Completes (.registerWrite l a v size hi) s (Raises s { coll := .lane l, src := 0x10, res := resLane l }) := by
  have width : ∀ n : Fin 4, n ≠ 2 → 2 ^ n.val ≠ 4 := by decide
  refine ⟨_, exec_registerWrite_of_running hrun v hi size, ?_⟩
  rw [State.busWrite_misaligned _ _ hr (h.imp_right (width size))]
  exact State.storesDrift_raiseL hrun hs 255 0 rfl

theorem registerWrite_unmapped_completes (v : Word) (hrun : s.running l = true) (hs : (s.lane l).stores = [])
    (h : mapped (laneNo l) a.toNat = false ∧ (inRegRegion a.toNat = true → a.toNat % 4 = 0) ∨ a.toNat % 4 = 0 ∧ readOnlyMemory a.toNat) :
    Completes (.registerWrite l a v) s (Raises s { coll := .lane l, src := 0x100, res := resLane l, detail := a.toNat % 2 ^ 32 }) := by
  have refused : s.busWrite l a.toNat 4 v.toNat = s.raiseL l 0x100 255 (a.toNat % 2 ^ 32) := by
    rcases h with ⟨hm, ha⟩ | ⟨ha, hro⟩
    · exact State.busWrite_unmapped _ hm ha
    · exact State.busWrite_readOnly _ hs ha hro
  refine ⟨_, exec_registerWrite_word hrun v, ?_⟩
  rw [refused]
  exact State.storesDrift_raiseL hrun hs 255 _ rfl

/-- A store to core SRAM (R451, R464, R465): not made where it is misaligned; else it waits, or is visible whole. -/
theorem registerWrite_sram_completes (v : Word) (hrun : s.running l = true) (hs : (s.lane l).stores = [])
    (hlo : 0x20000000 ≤ a.toNat) (hhi : a.toNat + 4 ≤ 0x20200000) : Completes (.registerWrite l a v) s fun t =>
      t.regs = s.regs ∧ t.evq = s.evq ∧ t.sk = s.sk ∧
      (a.toNat % 4 ≠ 0 → t.mem = s.mem ∧ (t.lane l).stores = []) ∧
      (a.toNat % 4 = 0 → ((t.lane l).stores = [(a.toNat, natLe 4 v.toNat)] ∧ t.mem = s.mem) ∨
        ((t.lane l).stores = [] ∧ t.rd32 (laneNo l) a.toNat = v ∧
          ∀ n b, b < 2 ^ 40 → ¬ (n = laneNo l ∧ a.toNat ≤ b ∧ b < a.toNat + 4) → t.rd8 n b = s.rd8 n b)) := by
  refine ⟨_, exec_registerWrite_word hrun v, ?_⟩
  by_cases ha : a.toNat % 4 = 0
  · rw [State.busWrite_sram _ hs ha hlo hhi]
    have one := congrArg LaneSt.stores (s.lane_setLane_same l { s.lane l with stores := [(a.toNat, natLe 4 v.toNat)] })
    rcases State.storesDrift_of_one _ one with waits | ⟨t, visible, hmem, hregs, hevq, hsk, hstores⟩
    · rw [waits]
      exact ⟨rfl, rfl, rfl, fun h => absurd ha h, fun _ => .inl ⟨one, rfl⟩⟩
    · rw [visible]
      obtain ⟨hm, hr, he, hk, hst⟩ := t.memPut_frame l a.toNat (natLe 4 v.toNat)
      refine ⟨hr.trans hregs, he.trans hevq, hk.trans hsk, fun h => absurd ha h, fun _ => .inr ⟨(hst l).trans hstores, ?_, ?_⟩⟩
      · rw [State.rd32, State.rdBytes_congr hm]
        exact t.rd32_wrBytes_same _ _ v
      · intro n b hb hout
        rw [State.rd8_congr hm, State.rd8_wrBytes_outside, State.rd8_congr hmem]
        · rfl
        · simp only [key, length_natLe]
          omega
  · have hmem : inMem a.toNat = true := by
      have : inSram a.toNat = true := by simp only [inSram, decide_eq_true_eq]; omega
      simp [inMem, this]
    rw [State.busWrite_misalignedStore _ hmem ha, State.storesDrift_of_nil hs]
    exact ⟨rfl, rfl, rfl, fun _ => ⟨rfl, hs⟩, fun h => absurd h ha⟩

end

/-- Settles O60: each field of a row is written as if it were alone, and a core's write is a plain register write, a refused access, or
a store that waits or is visible whole. -/
theorem registerWritesFollowTheAccessCodes : Obligations.RegisterWritesFollowTheAccessCodes := by
  unfold Obligations.RegisterWritesFollowTheAccessCodes
  refine ⟨?_, ?_, ?_, ?_, ?_⟩
  · intro n a r f w v k hrow hf
    exact ⟨read_rowWrite_rw hrow hf k w v, fun h b hb => getLsbD_rowWrite_w1c hrow hf k w v h hb, read_rowWrite_kept hrow hf k w v⟩
  · intro l a v r s hrun hs hplain ha hrow
    exact registerWrite_plain_completes v r hrun hs hplain ha hrow
  · intro l a v hi size s hrun hs hr h
    exact registerWrite_misaligned_completes v hi size hrun hs hr h
  · intro l a v s hrun hs h
    exact registerWrite_unmapped_completes v hrun hs h
  · intro l a v s hrun hs hlo hhi
    exact registerWrite_sram_completes v hrun hs hlo hhi

end Sys2Proof.Machine
end

section
/-! SUPPORT. A field read after a write of a known size, the state at which an event is stamped, and the registers that a command
leaves alone. -/

namespace Sys2Proof.Machine

open Sys2Proof

/-! Fields -/

theorem State.fg_lt (s : State) (b : Nat) (f : Fld) : s.fg b f < 2 ^ f.w := Nat.mod_lt _ (Nat.two_pow_pos _)

/-- A field reads as it was set where the number fits. -/
theorem State.fg_fs_fits (s : State) (b : Nat) {f : Fld} {n : Nat} (hf : f.lo + f.w ≤ 32) (hn : n < 2 ^ f.w) :
    (s.fs b f n).fg b f = n := by
  rw [s.fg_fs_same b f n hf, Nat.mod_eq_of_lt hn]

theorem State.fb_fs_one (s : State) (b : Nat) {f : Fld} (hf : f.lo + f.w ≤ 32) (hw : f.w ≠ 0) : (s.fs b f 1).fb b f = true := by
  rw [State.fb, s.fg_fs_fits b hf (Nat.one_lt_two_pow hw)]
  rfl

/-! Stamps -/

@[simp] theorem State.fs_stamp (s : State) (b : Nat) (f : Fld) (n : Nat) (e : Event) : (s.fs b f n).stamp e = s.stamp e := rfl

@[simp] theorem State.fInc_stamp (s : State) (b : Nat) (f : Fld) (e : Event) : (s.fInc b f).stamp e = s.stamp e := by
  simp [State.stamp]

/-! Registers left alone -/

namespace SameRegistersBut

variable {s t u : State} {ks : List Nat}

theorem refl (s : State) (ks : List Nat) : SameRegistersBut s s ks := fun _ _ => rfl

theorem trans (h : SameRegistersBut s t ks) (g : SameRegistersBut t u ks) : SameRegistersBut s u ks :=
  fun k hk => (g k hk).trans (h k hk)

theorem mono {js : List Nat} (h : SameRegistersBut s t js) (hjk : js ⊆ ks) : SameRegistersBut s t ks :=
  fun k hk => h k fun hj => hk (hjk hj)

theorem of_regs (h : SameRegistersBut s t ks) (hu : u.regs = t.regs) : SameRegistersBut s u ks :=
  fun k hk => by rw [State.reg, hu]; exact h k hk

/-- One more field is set, of a register that the list names. -/
theorem fs {b : Nat} {f : Fld} (h : SameRegistersBut s t ks) (n : Nat) (hk : b + f.ofs ∈ ks) : SameRegistersBut s (t.fs b f n) ks :=
  fun k hn => (t.reg_fs_of_ne n fun e => hn (by rwa [e])).trans (h k hn)

/-- A field of a register that the list does not name reads as before. -/
theorem fg (h : SameRegistersBut s t ks) {b : Nat} {f : Fld} (hk : b + f.ofs ∉ ks) : t.fg b f = s.fg b f := by
  rw [State.fg, State.fg, h _ hk]

end SameRegistersBut

end Sys2Proof.Machine
end

section
/-! PROOF. Axis records. -/

namespace Sys2Proof.Machine

open Sys2Proof

/-! Gates -/

/-- A command that does not put both gates of a cell on changes the cell and its source, and raises nothing. -/
theorem State.cellCmd_of_not_both (s : State) (l : DLane) (c src : Nat) {hs ls : Bool} (h : (hs && ls) = false) :
    s.cellCmd l c src hs ls =
      (s.setCell l c ((s.cell l c).command s.now (s.fg (cellB l c) PC.CELL_STATUS_SRC != src) hs ls)).fs (cellB l c)
        PC.CELL_STATUS_SRC src := by
  simp [State.cellCmd, h]

/-- The registers that show the command sources of an axis's three cells. -/
def axisSources (l : DLane) (n : Nat) : List Nat := (List.range 3).map fun i => cellB l (3 * n + i) + PC.CELL_STATUS_SRC.ofs

theorem mem_axisSources (l : DLane) (n : Nat) {ph : Nat} (h : ph < 3) :
    cellB l (3 * n + ph) + PC.CELL_STATUS_SRC.ofs ∈ axisSources l n :=
  List.mem_map.mpr ⟨ph, List.mem_range.mpr h, rfl⟩

/-- The axis's own registers are not among them. -/
theorem axB_not_mem_axisSources (l : DLane) (n : Nat) (hn : n < 6) (f : Fld) (hf : f.ofs < 0x1000) : axB l n + f.ofs ∉ axisSources l n := by
  simp only [axisSources, List.mem_map, List.mem_range, not_exists, not_and, axB, cellB, pcB, key, PC.CELL_STATUS_SRC]
  omega

/-- The axis with other times of its edges. -/
def AxisSt.edged (x : AxisSt) (e : List (Option Nat)) : AxisSt := { x with pwm := { x.pwm with edges := e } }

/-- What commanding the gates of an axis leaves: memory, events, Skink, every register but the sources of its cells, and the axis but
for the times of its edges. -/
structure State.GatesFollow (s t : State) (l : DLane) (n : Nat) : Prop where
  mem : t.mem = s.mem
  evq : t.evq = s.evq
  sk : t.sk = s.sk
  regs : SameRegistersBut s t (axisSources l n)
  axis : ∃ e, t.axis l n = (s.axis l n).edged e

namespace State.GatesFollow

variable {s t u : State} {l : DLane} {n : Nat}

theorem refl (s : State) (l : DLane) (n : Nat) : s.GatesFollow s l n := ⟨rfl, rfl, rfl, .refl _ _, _, rfl⟩

theorem trans (h : s.GatesFollow t l n) (g : t.GatesFollow u l n) : s.GatesFollow u l n := by
  obtain ⟨e, he⟩ := h.axis
  obtain ⟨d, hd⟩ := g.axis
  exact ⟨g.mem.trans h.mem, g.evq.trans h.evq, g.sk.trans h.sk, h.regs.trans g.regs, d, hd.trans (by rw [he]; rfl)⟩

end State.GatesFollow

theorem State.cellCmd_follows (s : State) (l : DLane) (n src : Nat) {ph : Nat} {hs ls : Bool} (hph : ph < 3) (h : (hs && ls) = false) :
    s.GatesFollow (s.cellCmd l (3 * n + ph) src hs ls) l n := by
  rw [State.cellCmd_of_not_both _ _ _ _ h]
  exact ⟨rfl, rfl, rfl, ((SameRegistersBut.refl _ _).of_regs rfl).fs _ (mem_axisSources l n hph), _, rfl⟩

theorem State.setEdges_follows (s : State) (l : DLane) (n : Nat) (e : List (Option Nat)) :
    s.GatesFollow (s.setAxis l n ((s.axis l n).edged e)) l n :=
  ⟨rfl, rfl, rfl, fun _ _ => rfl, e, State.axis_setAxis_same ..⟩

theorem State.axGate_follows (s : State) (l : DLane) (n : Nat) {ph : Nat} (hph : ph < 3) : s.GatesFollow (s.axGate l n ph) l n := by
  have complements (on h : Bool) : ((on && h) && (on && !h)) = false := by cases on <;> cases h <;> rfl
  unfold State.axGate
  dsimp only
  split
  · exact .refl s l n
  · refine State.GatesFollow.trans ?_ (State.cellCmd_follows _ l n 1 hph (complements _ _))
    split
    · exact .refl s l n
    · exact s.setEdges_follows l n _

theorem State.axGates_follows (s : State) (l : DLane) (n : Nat) : s.GatesFollow (s.axGates l n) l n :=
  ((s.axGate_follows l n (by decide)).trans (State.axGate_follows _ l n (by decide))).trans (State.axGate_follows _ l n (by decide))

/-! A SHORT record in force -/

/-- The axis with new compare values that its phases follow. -/
def AxisSt.follows (x : AxisSt) (v : List Nat) : AxisSt := { x with pwm := { x.pwm with cmpV := v, live := [true, true, true] } }

/-- The axis with a record that was applied and is not a CURRENT one. -/
def AxisSt.took (x : AxisSt) (r : OutRec) : AxisSt :=
  { x with used := some r, kept := none, tagOk := true, since := 0, intD := 0, intQ := 0 }

/-- With SHORT in force, every phase follows a compare value that the counter never reaches (R148). -/
theorem State.actRec_of_short (s : State) (l : DLane) (n : Nat) (r : OutRec) (upd : Bool) (hm : s.fg (axB l n) AX.STATUS_MODE = 3) :
    s.actRec l n r upd = (s.setAxis l n ((s.axis l n).follows (List.replicate 3 (s.halfClocks l n + 1)))).axGates l n := by
  simp [State.actRec, State.putCmp, State.axFollows, hm, AxisSt.follows]

theorem State.takeRec_of_short (s : State) (l : DLane) (n : Nat) {r : OutRec} (hm : recMode r = 3) :
    s.takeRec l n r = ((s.fs (axB l n) AX.STATUS_MODE 3).fs (axB l n) AX.STATUS_LASTTAG r.tag).setAxis l n ((s.axis l n).took r) := by
  simp [State.takeRec, State.modeOf, hm, AxisSt.took]

/-- What applying a SHORT record leaves: MODE, LASTTAG and the sources of the cells, the axis with its new record, and nothing else
(R28, R148). -/
theorem State.applyShort_spec (s : State) (l : DLane) {n : Nat} (hn : n < 6) {r : OutRec} (hm : recMode r = 3) (htag : r.tag < 2 ^ 16) :
    ∃ t, (s.takeRec l n r).actRec l n r false = t ∧
      t.fg (axB l n) AX.STATUS_MODE = 3 ∧ t.fg (axB l n) AX.STATUS_LASTTAG = r.tag ∧
      (∃ e, t.axis l n = (((s.axis l n).took r).follows (List.replicate 3 (s.halfClocks l n + 1))).edged e) ∧
      SameRegistersBut s t ([axB l n + AX.STATUS_MODE.ofs, axB l n + AX.STATUS_LASTTAG.ofs] ++ axisSources l n) ∧
      t.mem = s.mem ∧ t.evq = s.evq ∧ t.sk = s.sk := by
  rw [s.takeRec_of_short l n hm]
  set u := ((s.fs (axB l n) AX.STATUS_MODE 3).fs (axB l n) AX.STATUS_LASTTAG r.tag).setAxis l n ((s.axis l n).took r) with hu
  have mode : u.fg (axB l n) AX.STATUS_MODE = 3 := by
    rw [hu, State.setAxis_fg, State.fg_fs_apart _ _ (by decide) (by decide), State.fg_fs_fits _ _ (by decide) (by decide)]
  have tag : u.fg (axB l n) AX.STATUS_LASTTAG = r.tag := by
    rw [hu, State.setAxis_fg, State.fg_fs_fits _ _ (by decide) htag]
  have half : u.halfClocks l n = s.halfClocks l n := by
    rw [State.halfClocks, hu, State.setAxis_fg, State.fg_fs_apart _ _ (by decide) (by decide),
      State.fg_fs_apart _ _ (by decide) (by decide)]
    rfl
  have axis : u.axis l n = (s.axis l n).took r := State.axis_setAxis_same ..
  rw [u.actRec_of_short l n r false mode, half, axis]
  set v := u.setAxis l n (((s.axis l n).took r).follows (List.replicate 3 (s.halfClocks l n + 1))) with hv
  have regs : SameRegistersBut s v [axB l n + AX.STATUS_MODE.ofs, axB l n + AX.STATUS_LASTTAG.ofs] :=
    (((SameRegistersBut.refl _ _).fs _ (by simp)).fs _ (by simp)).of_regs rfl
  obtain ⟨hmem, hevq, hsk, hregs, e, haxis⟩ := v.axGates_follows l n
  have same (f : Fld) (hf : f.ofs < 0x1000) : (v.axGates l n).fg (axB l n) f = u.fg (axB l n) f := by
    rw [hregs.fg (axB_not_mem_axisSources l n hn f hf), hv, State.setAxis_fg]
  rw [hv, State.axis_setAxis_same, ← hv] at haxis
  exact ⟨_, rfl, (same _ (by decide)).trans mode, (same _ (by decide)).trans tag, ⟨e, haxis⟩,
    (regs.mono (List.subset_append_left _ _)).trans (hregs.mono (List.subset_append_right _ _)), hmem, hevq, hsk⟩

/-! AXIS_RECORD_APPLY -/

section

variable {l : DLane} {n : Fin 6} {r : OutRec} {s : State}

/-- The state once a drive has read the records on its way but q. -/
def State.drvLeft (s : State) (l : DLane) (q : List OutRec) : State :=
  { s with buses := famSet (fun _ => ({} : BusSt)) s.buses (dno l) { famGet (fun _ => ({} : BusSt)) s.buses (dno l) with drvQ := q } }

theorem takeFirst_singleton {kind index : Nat} {r : OutRec} (hk : r.kind = kind) (hi : r.index = index) :
    takeFirst kind index [r] = some (r, []) := by
  simp [takeFirst, hk, hi]

variable (hon : s.axOn l n.val = true) (hq : (famGet (fun _ => ({} : BusSt)) s.buses (dno l)).drvQ = [r]) (hk : r.kind = 1)
  (hi : r.index = n.val)

include hon hq hk hi

/-- A record older than the last applied is discarded (R29). -/
theorem execAxisRecordApply_of_older (htag : (s.axis l n.val).tagOk = true)
    (hold : older r.tag (s.fg (axB l n.val) AX.STATUS_LASTTAG) = true) :
    execAxisRecordApply l n s = .next ((s.drvLeft l []).axStale l n.val) := by
  have on : ¬ (!s.axOn l n.val) = true := by simp [hon]
  have stale : ((s.axis l n.val).tagOk && older r.tag (s.fg (axB l n.val) AX.STATUS_LASTTAG)) = true := by simp [htag, hold]
  simp only [execAxisRecordApply, hq, takeFirst_singleton hk hi]
  exact (if_neg on).trans (if_pos stale)

variable (hnew : (s.axis l n.val).tagOk = true → older r.tag (s.fg (axB l n.val) AX.STATUS_LASTTAG) = false)

include hnew

/-- During a hold the first record is kept (R151). -/
theorem execAxisRecordApply_of_held (hheld : s.drvHeld = true) (hkept : (s.axis l n.val).kept = none) :
    execAxisRecordApply l n s = .next ((s.drvLeft l []).setAxis l n.val { s.axis l n.val with kept := some r }) := by
  have on : ¬ (!s.axOn l n.val) = true := by simp [hon]
  have fresh : ¬ ((s.axis l n.val).tagOk && older r.tag (s.fg (axB l n.val) AX.STATUS_LASTTAG)) = true := by simpa using hnew
  have held : (s.drvHeld || (s.axis l n.val).busLow) = true := by simp [hheld]
  simp only [execAxisRecordApply, hq, takeFirst_singleton hk hi]
  refine (if_neg on).trans ((if_neg fresh).trans ((if_pos held).trans ?_))
  split
  · next k h => exact absurd (hkept.symm.trans h) (by simp)
  · rfl

/-- Where nothing holds the drive, the record is applied (R28, R145). -/
theorem execAxisRecordApply_of_free (hheld : s.drvHeld = false) (hbus : (s.axis l n.val).busLow = false) :
    execAxisRecordApply l n s =
      .next ((((s.drvLeft l []).axSnap l n.val).takeRec l n.val r).actRec l n.val r false) := by
  have on : ¬ (!s.axOn l n.val) = true := by simp [hon]
  have fresh : ¬ ((s.axis l n.val).tagOk && older r.tag (s.fg (axB l n.val) AX.STATUS_LASTTAG)) = true := by simpa using hnew
  have free : ¬ (s.drvHeld || (s.axis l n.val).busLow) = true := by simp [hheld, hbus]
  simp only [execAxisRecordApply, hq, takeFirst_singleton hk hi]
  exact (if_neg on).trans ((if_neg fresh).trans (if_neg free))

end

/-- A discarded record changes its count, EVT.STALE and the events alone (R29). -/
theorem State.axStale_spec (s : State) (l : DLane) (n : Nat) (hrun : s.running l.lane = true) :
    (s.axStale l n).axis l n = s.axis l n ∧ (s.axStale l n).fg (axB l n) AX.STATUS_LASTTAG = s.fg (axB l n) AX.STATUS_LASTTAG ∧
      (s.axStale l n).fb (axB l n) AX.EVT_STALE = true ∧ (s.axStale l n).mem = s.mem ∧ (s.axStale l n).sk = s.sk ∧
      (s.axStale l n).evq = s.evq ++ [s.stamp { coll := .lane l.lane, src := 0x17, inst := n, res := resLane l.lane }] := by
  have hr : (((s.fInc (axB l n) AX.COUNT_STALE).fs (axB l n) AX.EVT_STALE 1).lane l.lane).reset = false := by
    simpa using State.reset_of_running hrun
  unfold State.axStale
  refine ⟨by simp, ?_, ?_, by simp, by simp, ?_⟩
  · rw [State.raiseL_fg, State.fg_fs_apart _ _ (by decide) (by decide), State.fg_fInc_apart _ (by decide) (by decide)]
  · rw [State.raiseL_fb, State.fb_fs_one _ _ (by decide) (by decide)]
  · rw [State.raiseL_evq (c := 1) _ _ _ rfl hr]
    simp

/-- Settles O26: a SHORT record is applied where nothing holds the drive, an older one is discarded, and during a hold the first is
kept. -/
theorem axisRecordsAreAppliedKeptOrDiscarded : Obligations.AxisRecordsAreAppliedKeptOrDiscarded := by
  unfold Obligations.AxisRecordsAreAppliedKeptOrDiscarded
  refine ⟨?_, ?_, ?_⟩
  · intro l n r s hon hq hk hi htag hm hnew hheld hbus
    obtain ⟨t, ht, hmode, hlast, ⟨e, haxis⟩, hregs, hmem, hevq, hsk⟩ :=
      ((s.drvLeft l []).axSnap l n.val).applyShort_spec l n.isLt hm htag
    refine ⟨t, ?_, hmode, hlast, ?_⟩
    · rw [exec_axisRecordApply, execAxisRecordApply_of_free hon hq hk hi hnew hheld hbus, ht]
    · rw [haxis]
      exact ⟨rfl, rfl, rfl, rfl, rfl, rfl, rfl, hregs, hmem, hevq, hsk⟩
  · intro l n r s hon hq hk hi htag hold
    have hrun : s.running l.lane = true := by
      simp only [State.axOn, Bool.and_eq_true] at hon
      exact hon.1
    exact ⟨_, (exec_axisRecordApply ..).trans (execAxisRecordApply_of_older hon hq hk hi htag hold),
      (s.drvLeft l []).axStale_spec l n.val hrun⟩
  · intro l n r s hon hq hk hi hnew hhold hkept
    have hheld : s.drvHeld = true := by simp [State.drvHeld, hhold]
    have axis := (s.drvLeft l []).axis_setAxis_same l n.val { s.axis l n.val with kept := some r }
    exact ⟨_, (exec_axisRecordApply ..).trans (execAxisRecordApply_of_held hon hq hk hi hnew hheld hkept),
      by rw [axis], by rw [axis], rfl, rfl, rfl, rfl⟩

end Sys2Proof.Machine
end

section
/-! SUPPORT. The CAN controllers: the fields of a controller and of its TX elements, its events, error counters and attempts. -/

namespace Sys2Proof.Machine

open Sys2Proof

variable (s : State) (l : Lane) (k : Nat)

/-! A controller's own fields and those of its TX elements -/

section

variable (e : Nat) {f g : Fld} (n : Nat)

/-- The controller's registers lie below its TX elements. -/
theorem canTx_ne_canB (hf : f.ofs < 0x7c00) : canTx l k e + g.ofs ≠ canB l k + f.ofs := by
  simp only [canTx]
  omega

@[simp] theorem State.fg_canTx_fs_canB (hf : f.ofs < 0x7c00) : (s.fs (canB l k) f n).fg (canTx l k e) g = s.fg (canTx l k e) g :=
  s.fg_fs_of_ne n (canTx_ne_canB l k e hf)

@[simp] theorem State.fg_canB_fs_canTx (hf : f.ofs < 0x7c00) : (s.fs (canTx l k e) g n).fg (canB l k) f = s.fg (canB l k) f :=
  s.fg_fs_of_ne n (canTx_ne_canB l k e hf).symm

@[simp] theorem State.fb_canTx_fs_canB (hf : f.ofs < 0x7c00) : (s.fs (canB l k) f n).fb (canTx l k e) g = s.fb (canTx l k e) g := by
  rw [State.fb, s.fg_canTx_fs_canB l k e n hf, State.fb]

@[simp] theorem State.fg_canTx_fInc_canB (hf : f.ofs < 0x7c00) : (s.fInc (canB l k) f).fg (canTx l k e) g = s.fg (canTx l k e) g := by
  unfold State.fInc
  split <;> exact s.fg_canTx_fs_canB l k e _ hf

end

/-! Events -/

@[simp] theorem State.canEvent_mem (f : Fld) (src : Nat) : (s.canEvent l k f src).mem = s.mem := by simp [State.canEvent, State.canRaise]
@[simp] theorem State.canEvent_sk (f : Fld) (src : Nat) : (s.canEvent l k f src).sk = s.sk := by simp [State.canEvent, State.canRaise]
@[simp] theorem State.canEvent_can (f : Fld) (src : Nat) (m : Lane) (i : Nat) : (s.canEvent l k f src).can m i = s.can m i := by
  simp [State.canEvent, State.canRaise]

theorem State.canEvent_fb {f : Fld} (src : Nat) (hf : f.lo + f.w ≤ 32) (hw : f.w ≠ 0) : (s.canEvent l k f src).fb (canB l k) f = true := by
  rw [State.canEvent, State.canRaise, State.raiseR_fb, State.fb_fs_one _ _ hf hw]

/-- A source of a running lane's controller is raised and names the controller (R445). -/
theorem State.canRaise_evq {src c : Nat} (hk : defaultClass (.lane l) src = some c) (hrun : s.running l = true) :
    (s.canRaise l k src).evq = s.evq ++ [s.stamp { coll := .lane l, src := src, inst := k, res := 0x20 + k }] :=
  s.raiseR_evq k (0x20 + k) 0 hk (State.reset_of_running hrun)

theorem State.canEvent_evq {f : Fld} {src c : Nat} (hk : defaultClass (.lane l) src = some c) (hrun : s.running l = true) :
    (s.canEvent l k f src).evq = s.evq ++ [s.stamp { coll := .lane l, src := src, inst := k, res := 0x20 + k }] := by
  rw [State.canEvent, State.canRaise_evq _ l k hk (by simpa using hrun)]
  simp

/-! The error counters (R442, R444) -/

/-- Below error-passive, new counters are taken and raise nothing. -/
theorem State.canCounts_of_active {tec rec_ : Nat} (ht : tec ≤ 127) (hr : rec_ ≤ 127) : s.canCounts l k tec rec_ =
    ((s.fs (canB l k) CAN.STATUS_TEC tec).fs (canB l k) CAN.STATUS_REC rec_).fs (canB l k) CAN.STATUS_ERRSTATE 0 := by
  unfold State.canCounts
  simp (disch := omega) only [Nat.min_eq_right, if_neg]

/-- An error-passive controller whose TEC stays above 127 stays so, and raises nothing. -/
theorem State.canCounts_of_passive {tec : Nat} (rec_ : Nat) (ht : 127 < tec) (ht' : tec ≤ 255)
    (hp : s.fg (canB l k) CAN.STATUS_ERRSTATE = 1) :
    s.canCounts l k tec rec_ = (s.fs (canB l k) CAN.STATUS_TEC tec).fs (canB l k) CAN.STATUS_REC (min 255 rec_) := by
  have passive : ((s.fs (canB l k) CAN.STATUS_TEC tec).fs (canB l k) CAN.STATUS_REC (min 255 rec_)).fg (canB l k) CAN.STATUS_ERRSTATE = 1 := by
    rw [State.fg_fs_apart _ _ (by decide) (by decide), State.fg_fs_apart _ _ (by decide) (by decide), hp]
  unfold State.canCounts
  simp [Nat.min_eq_right ht', Nat.not_lt.mpr ht', ht, passive]

/-- An acknowledged transmission lowers TEC and ends the run of ACK errors (R444). -/
theorem State.canTxCount_of_active (ht : s.fg (canB l k) CAN.STATUS_TEC ≤ 127) (hr : s.fg (canB l k) CAN.STATUS_REC ≤ 127) :
    s.canTxCount l k = ((((s.fs (canB l k) CAN.STATUS_ACKRUN 0).fs (canB l k) CAN.STATUS_NOPART 0).fs (canB l k) CAN.STATUS_TEC
      (s.fg (canB l k) CAN.STATUS_TEC - 1)).fs (canB l k) CAN.STATUS_REC (s.fg (canB l k) CAN.STATUS_REC)).fs (canB l k)
      CAN.STATUS_ERRSTATE 0 := by
  have kept {f : Fld} (ha : CAN.STATUS_ACKRUN.apart f = true) (hn : CAN.STATUS_NOPART.apart f = true) :
      ((s.fs (canB l k) CAN.STATUS_ACKRUN 0).fs (canB l k) CAN.STATUS_NOPART 0).fg (canB l k) f = s.fg (canB l k) f := by
    rw [State.fg_fs_apart _ _ (by decide) hn, State.fg_fs_apart _ _ (by decide) ha]
  unfold State.canTxCount
  dsimp only
  rw [kept (by decide) (by decide), kept (by decide) (by decide), State.canCounts_of_active _ l k (by omega) hr]

/-! Attempts (R435, R437) -/

/-- The SOF of element e: ACTIVE, one attempt more, its time stamp, and nothing raised. -/
theorem State.canSof_spec (e : Nat) (once : Bool) :
    let t := s.canSof l k e once
    t.canState l k e = 3 ∧ (t.can l k).act = some e ∧ (t.can l k).once = once ∧
      t.fg (canTx l k e) CANTX.TS = s.utime l / 1000 % 2 ^ 32 ∧
      t.fg (canTx l k e) CANTX.ATTEMPTS = min 15 (s.fg (canTx l k e) CANTX.ATTEMPTS + 1) ∧
      t.mem = s.mem ∧ t.sk = s.sk ∧ t.evq = s.evq := by
  intro t
  have stamp : s.canStamp l 0 < 2 ^ CANTX.TS.w := Nat.mod_lt _ (by decide)
  refine ⟨?_, ?_, ?_, ?_, ?_, ?_, ?_, ?_⟩
  · simp (disch := decide) only [t, State.canSof, State.canState, State.setCanTx, State.setCan_fg, State.fg_fs_apart,
      State.fg_fInc_apart, State.fg_fs_fits]
  · simp [t, State.canSof]
  · simp [t, State.canSof]
  · simp only [t, State.canSof, State.setCan_fg, State.fg_fs_fits _ _ (by decide : CANTX.TS.lo + CANTX.TS.w ≤ 32) stamp]
    rfl
  · simp (disch := decide) only [t, State.canSof, State.setCanTx, State.setCan_fg, State.fg_fs_apart, State.fg_fInc_same]
    rfl
  · simp [t, State.canSof, State.setCanTx]
  · simp [t, State.canSof, State.setCanTx]
  · simp [t, State.canSof, State.setCanTx]

/-- Measuring the delay leaves the elements, what the controller keeps, memory, Skink and the events alone (R422). -/
theorem State.canMeasure_frame (e meas : Nat) :
    let t := s.canMeasure l k e meas
    t.mem = s.mem ∧ t.sk = s.sk ∧ t.evq = s.evq ∧ t.can l k = s.can l k ∧ ∀ f, t.fg (canTx l k e) f = s.fg (canTx l k e) f := by
  unfold State.canMeasure
  dsimp only
  split
  · exact ⟨rfl, rfl, rfl, State.fs_can .., fun f => s.fg_canTx_fs_canB l k e _ (by decide)⟩
  · exact ⟨rfl, rfl, rfl, rfl, fun _ => rfl⟩

/-- The attempt at the ACTIVE element e is over for good: it is not to be repeated, it has been cancelled, or RETRY is spent (R435, R439). -/
def State.canSpent (s : State) (l : Lane) (k e : Nat) : Prop :=
  (s.can l k).once = true ∨ s.fb (canTx l k e) CANTX.CANCEL_LATE = true ∨
    (s.fg (canB l k) CAN.TXCFG_RETRY ≠ 0 ∧ s.fg (canB l k) CAN.TXCFG_RETRY ≤ s.fg (canTx l k e) CANTX.ATTEMPTS)

theorem State.canSpent_iff (e : Nat) : s.canSpent l k e ↔ (false || (s.can l k).once || s.fb (canTx l k e) CANTX.CANCEL_LATE ||
    (s.fg (canB l k) CAN.TXCFG_RETRY != 0 &&
      decide (s.fg (canB l k) CAN.TXCFG_RETRY ≤ s.fg (canTx l k e) CANTX.ATTEMPTS))) = true := by
  simp [State.canSpent, or_assoc]

/-- The controller with nothing on its way. -/
def State.canIdle (s : State) (l : Lane) (k : Nat) : State := s.setCan l k { s.can l k with act := none, once := false, ref := none }

theorem State.canFailed_of_spent {e : Nat} (hact : (s.can l k).act = some e) (h : s.canSpent l k e) :
    s.canFailed l k false = ((s.canIdle l k).setCanTx l k e 6).fs (canB l k) CAN.EVT_TX_FAILED 1 := by
  unfold State.canFailed
  simp only [hact]
  exact if_pos ((s.canSpent_iff l k e).mp h)

theorem State.canFailed_of_not_spent {e : Nat} (hact : (s.can l k).act = some e) (h : ¬ s.canSpent l k e) :
    s.canFailed l k false = (s.canIdle l k).setCanTx l k e 2 := by
  unfold State.canFailed
  simp only [hact]
  exact if_neg fun hs => h ((s.canSpent_iff l k e).mpr hs)

/-- What a failed attempt at the ACTIVE element e leaves: nothing on its way, the element repeated or FAILED, and nothing raised. -/
theorem State.canFailed_spec {e : Nat} (hact : (s.can l k).act = some e) :
    let t := s.canFailed l k false
    (t.can l k).act = none ∧ t.mem = s.mem ∧ t.sk = s.sk ∧ t.evq = s.evq ∧
      (∀ f : Fld, f.ofs < 0x7c00 → CAN.EVT_TX_FAILED.apart f = true → t.fg (canB l k) f = s.fg (canB l k) f) ∧
      (s.canSpent l k e → t.canState l k e = 6 ∧ t.fb (canB l k) CAN.EVT_TX_FAILED = true) ∧
      (¬ s.canSpent l k e → t.canState l k e = 2) := by
  by_cases h : s.canSpent l k e
  · simp only [s.canFailed_of_spent l k hact h, State.setCanTx, State.canState]
    refine ⟨by simp [State.canIdle], rfl, rfl, rfl, fun f hf ha => ?_, fun _ => ⟨?_, ?_⟩, fun hn => absurd h hn⟩
    · rw [State.fg_fs_apart _ _ (by decide) ha, State.fg_canB_fs_canTx _ _ _ _ _ hf, State.canIdle, State.setCan_fg]
    · rw [State.fg_canTx_fs_canB _ _ _ _ _ (by decide), State.fg_fs_fits _ _ (by decide) (by decide)]
    · exact State.fb_fs_one _ _ (by decide) (by decide)
  · simp only [s.canFailed_of_not_spent l k hact h, State.setCanTx, State.canState]
    refine ⟨by simp [State.canIdle], rfl, rfl, rfl, fun f hf _ => ?_, fun hs => absurd hs h, fun _ => ?_⟩
    · rw [State.fg_canB_fs_canTx _ _ _ _ _ hf, State.canIdle, State.setCan_fg]
    · exact State.fg_fs_fits _ _ (by decide) (by decide)

/-! Arbitration (R435) -/

/-- The best of a list of elements is one of them, and no field of theirs is lower. -/
theorem State.canBest_min {es : List Nat} {e : Nat} (h : s.canBest l k es = some e) :
    e ∈ es ∧ ∀ d ∈ es, s.canField l k e ≤ s.canField l k d := by
  induction es generalizing e with
  | nil => simp [State.canBest] at h
  | cons c cs ih =>
    rw [State.canBest] at h
    cases hd : s.canBest l k cs with
    | none =>
      have none_left : cs = [] := by
        cases cs with
        | nil => rfl
        | cons b bs =>
          rw [State.canBest] at hd
          split at hd
          · split at hd <;> simp at hd
          · simp at hd
      simp only [hd, Option.some.injEq] at h
      simp [none_left, h]
    | some d =>
      obtain ⟨hmem, hmin⟩ := ih hd
      simp only [hd] at h
      split at h <;> cases h
      · exact ⟨List.mem_cons_of_mem _ hmem, List.forall_mem_cons.mpr ⟨by omega, hmin⟩⟩
      · exact ⟨List.mem_cons_self, List.forall_mem_cons.mpr ⟨Nat.le_refl _, fun b hb => by have := hmin b hb; omega⟩⟩

/-! Commit (R433, R434) -/

/-- The registers of element e's record do not include its word 2. -/
theorem State.canRec_congr {t : State} {e : Nat} (h : SameRegistersBut s t [canTx l k e + CANTX.STATE.ofs]) :
    t.canRec l k e = s.canRec l k e := by
  have field {f : Fld} (hf : f.ofs ≠ 8) : t.fg (canTx l k e) f = s.fg (canTx l k e) f :=
    h.fg (by simpa [CANTX.STATE] using hf)
  have word (i : Nat) : t.reg (canB l k + (0x7c00 + 80 * e + 16 + i) / 4 * 4) = s.reg (canB l k + (0x7c00 + 80 * e + 16 + i) / 4 * 4) :=
    h _ (by simp only [List.mem_singleton, canTx, CANTX.STATE]; omega)
  simp (disch := decide) only [State.canRec, State.canPayload, State.canBytes, State.fb, field, word]

/-- A commit that is refused: STATE 5 and EVT.TX_REFUSED. -/
def State.canRefuse (s : State) (l : Lane) (k e : Nat) : State := (s.setCanTx l k e 5).fs (canB l k) CAN.EVT_TX_REFUSED 1

theorem State.canRefuse_canState (e : Nat) : (s.canRefuse l k e).canState l k e = 5 := by
  rw [State.canState, State.canRefuse, State.fg_canTx_fs_canB _ _ _ _ _ (by decide), State.setCanTx,
    State.fg_fs_fits _ _ (by decide) (by decide)]

theorem State.canRefuse_evt (e : Nat) : (s.canRefuse l k e).fb (canB l k) CAN.EVT_TX_REFUSED = true :=
  State.fb_fs_one _ _ (by decide) (by decide)

theorem State.canRefuse_regs (e : Nat) :
    SameRegistersBut s (s.canRefuse l k e) [canTx l k e + CANTX.STATE.ofs, canB l k + CAN.EVT_TX_REFUSED.ofs] :=
  ((SameRegistersBut.refl _ _).fs _ (by simp)).fs _ (by simp)

theorem State.bus_toSkink_same (b : BusRec) : ((s.toSkink l b).bus l).skQ = (s.bus l).skQ ++ [b] := by
  simp [State.toSkink, State.bus]

/-- A commit that is not refused leaves memory and Skink alone. -/
theorem State.canCommit_frame (e : Nat) : (s.canCommit l k e).mem = s.mem ∧ (s.canCommit l k e).sk = s.sk := by
  unfold State.canCommit
  dsimp only
  split
  · exact ⟨rfl, rfl⟩
  · split <;> exact ⟨rfl, rfl⟩

/-- A commit that is not refused, outside W: the element is READY, or staged with its record (R433, R434). -/
theorem State.canCommit_spec {e : Nat} (hl : l ≠ .W) :
    let t := s.canCommit l k e
    let x := canTx l k e
    t.evq = s.evq ∧ t.fg x CANTX.ATTEMPTS = 0 ∧ SameRegistersBut s t [x + CANTX.STATE.ofs] ∧
      (s.fb x CANTX.UNITOUT = false → t.canState l k e = 2 ∧ t.buses = s.buses) ∧
      (s.fb x CANTX.UNITOUT = true → (t.bus l).skQ = (s.bus l).skQ ++ [{ r := s.canRec l k e, elem := some e }] ∧
        (s.fb x CANTX.SAFETY = true → t.canState l k e = 1)) := by
  dsimp only
  set u := (s.fs (canTx l k e) CANTX.ATTEMPTS 0).fs (canTx l k e) CANTX.CANCEL_LATE 0 with hu
  have attempts (st : Nat) : (u.setCanTx l k e st).fg (canTx l k e) CANTX.ATTEMPTS = 0 := by
    simp (disch := decide) only [hu, State.setCanTx, State.fg_fs_apart, State.fg_fs_fits]
  have cleared : SameRegistersBut s u [canTx l k e + CANTX.STATE.ofs] :=
    ((SameRegistersBut.refl _ _).fs _ (List.mem_singleton.mpr rfl)).fs _ (List.mem_singleton.mpr rfl)
  have regs (st : Nat) : SameRegistersBut s (u.setCanTx l k e st) [canTx l k e + CANTX.STATE.ofs] :=
    cleared.fs _ (List.mem_singleton.mpr rfl)
  have word1 {f : Fld} (ha : CANTX.ATTEMPTS.apart f = true) (hc : CANTX.CANCEL_LATE.apart f = true) :
      u.fb (canTx l k e) f = s.fb (canTx l k e) f := by
    rw [hu, State.fb_fs_apart _ _ (by decide) hc, State.fb_fs_apart _ _ (by decide) ha]
  have unit := word1 (f := CANTX.UNITOUT) (by decide) (by decide)
  cases h : s.fb (canTx l k e) CANTX.UNITOUT with
  | false =>
    have ready : s.canCommit l k e = u.setCanTx l k e 2 := by
      simp [State.canCommit, ← hu, unit, h, hl]
    rw [ready]
    exact ⟨rfl, attempts 2, regs 2, fun _ => ⟨State.fg_fs_fits _ _ (by decide) (by decide), rfl⟩, nofun⟩
  | true =>
    have staged : s.canCommit l k e = (u.setCanTx l k e
        (if s.fb (canTx l k e) CANTX.SAFETY then 1 else if u.canTxLane l k then 2 else 7)).toSkink l
        { r := s.canRec l k e, elem := some e } := by
      simp [State.canCommit, ← hu, unit, h, word1 (f := CANTX.SAFETY) (by decide) (by decide), s.canRec_congr l k cleared]
    rw [staged]
    refine ⟨rfl, attempts _, (regs _).of_regs rfl, nofun, fun _ => ⟨State.bus_toSkink_same .., fun hs => ?_⟩⟩
    rw [if_pos hs]
    exact State.fg_fs_fits _ _ (by decide) (by decide)

/-! Windows (R439) -/

/-- Whether a frame fits depends on what the controller keeps only by the last reference message. -/
theorem State.canFits_setCan {x : CanSt} (hx : x.refAt = (s.can l k).refAt) (e c : Nat) :
    (s.setCan l k x).canFits l k e c = s.canFits l k e c := by
  have since : (s.setCan l k x).canSinceRef l k = s.canSinceRef l k := by
    simp [State.canSinceRef, State.utime, hx]
  unfold State.canFits
  rw [since]
  rfl

theorem State.running_of_canUp {s : State} {l : Lane} {k : Nat} (h : s.canUp l k = true) : s.running l = true := by
  simp only [State.canUp, Bool.and_eq_true] at h
  obtain ⟨⟨⟨⟨⟨hrun, -⟩, -⟩, -⟩, -⟩, -⟩ := h
  exact hrun

end Sys2Proof.Machine
end

section
/-! PROOF. The life of a CAN transmit element. -/

namespace Sys2Proof.Machine

open Sys2Proof

section

variable {l : Lane} {k : Fin 4} {s : State}

/-! Commit and cancel -/

/-- A commit of an element that is neither STAGED, READY nor ACTIVE. -/
theorem execCanTxCommit_of_open {e : Fin 32} {v : Word} (hrun : s.running l = true) (hhas : canHas l k.val = true)
    (hst : s.canState l k.val e.val = 0 ∨ 4 ≤ s.canState l k.val e.val) (hv : v.getLsbD 0 = true) :
    execCanTxCommit l k e v s =
      if l = .W ∧ s.fb (canTx l k.val e.val) CANTX.UNITOUT then .next ((s.canRefuse l k.val e.val).raiseL l 0x16 k.val)
      else if s.canBad l k.val e.val then .next ((s.canRefuse l k.val e.val).canRaise l k.val 0x1c5)
      else .next (s.canCommit l k.val e.val) := by
  have taken : ¬ (!s.running l || !canHas l k.val ||
      (decide (1 ≤ s.canState l k.val e.val) && decide (s.canState l k.val e.val ≤ 3)) || !v.getLsbD 0) = true := by
    simp only [hrun, hhas, hv, Bool.not_true, Bool.false_or, Bool.or_false, Bool.and_eq_true, decide_eq_true_eq]
    omega
  exact if_neg taken

theorem canTxCommit_completes (e : Fin 32) (v : Word) (hrun : s.running l = true) (hhas : canHas l k.val = true)
    (hst : s.canState l k.val e.val = 0 ∨ 4 ≤ s.canState l k.val e.val) (hv : v.getLsbD 0 = true) :
    let x := canTx l k.val e.val
    Completes (.canTxCommit l k e v) s fun t =>
      t.mem = s.mem ∧ t.sk = s.sk ∧
      (¬ (l = .W ∧ s.fb x CANTX.UNITOUT = true) → s.canBad l k.val e.val = true →
        t.canState l k.val e.val = 5 ∧ t.fb (canB l k.val) CAN.EVT_TX_REFUSED = true ∧ t.buses = s.buses ∧
        SameRegistersBut s t [x + CANTX.STATE.ofs, canB l k.val + CAN.EVT_TX_REFUSED.ofs] ∧
        t.evq = s.evq ++ [s.stamp { coll := .lane l, src := 0x1c5, inst := k.val, res := 0x20 + k.val }]) ∧
      (l = .W → s.fb x CANTX.UNITOUT = true → t.canState l k.val e.val = 5 ∧ t.buses = s.buses ∧
        t.evq = s.evq ++ [s.stamp { coll := .lane l, src := 0x16, inst := k.val, res := resLane l }]) ∧
      (l ≠ .W → s.canBad l k.val e.val = false → t.evq = s.evq ∧ t.fg x CANTX.ATTEMPTS = 0 ∧ SameRegistersBut s t [x + CANTX.STATE.ofs] ∧
        (s.fb x CANTX.UNITOUT = false → t.canState l k.val e.val = 2 ∧ t.buses = s.buses) ∧
        (s.fb x CANTX.UNITOUT = true → (t.bus l).skQ = (s.bus l).skQ ++ [{ r := s.canRec l k.val e.val, elem := some e.val }] ∧
          (s.fb x CANTX.SAFETY = true → t.canState l k.val e.val = 1))) := by
  intro x
  unfold Completes
  rw [exec_canTxCommit, execCanTxCommit_of_open hrun hhas hst hv]
  have state := s.canRefuse_canState l k.val e.val
  by_cases hw : l = .W ∧ s.fb x CANTX.UNITOUT = true
  · rw [if_pos hw]
    refine ⟨_, rfl, by simp; rfl, by simp; rfl, fun h => absurd hw h, fun _ _ => ⟨?_, by simp; rfl, ?_⟩, fun h => absurd hw.1 h⟩
    · rw [State.canState, State.raiseL_fg]
      exact state
    · exact State.raiseL_evq (c := 1) _ _ _ rfl (State.reset_of_running hrun)
  · rw [if_neg hw]
    cases hbad : s.canBad l k.val e.val with
    | true =>
      refine ⟨_, rfl, by simp [State.canRaise]; rfl, by simp [State.canRaise]; rfl,
        fun _ _ => ⟨?_, ?_, by simp [State.canRaise]; rfl, ?_, ?_⟩, fun h g => absurd ⟨h, g⟩ hw, nofun⟩
      · rw [State.canState, State.canRaise, State.raiseR_fg]
        exact state
      · rw [State.canRaise, State.raiseR_fb]
        exact s.canRefuse_evt l k.val e.val
      · exact (s.canRefuse_regs l k.val e.val).of_regs (State.raiseR_regs ..)
      · exact State.canRaise_evq (c := 1) _ l k.val rfl hrun
    | false =>
      obtain ⟨hmem, hsk⟩ := s.canCommit_frame l k.val e.val
      exact ⟨_, rfl, hmem, hsk, nofun, fun h g => absurd ⟨h, g⟩ hw, fun hl _ => s.canCommit_spec l k.val hl⟩

theorem canTxCancel_completes (e : Fin 32) (hrun : s.running l = true) (hhas : canHas l k.val = true) :
    let u := s.canState l k.val e.val
    Completes (.canTxCancel l k e) s fun t =>
      t.evq = s.evq ∧ t.mem = s.mem ∧ t.sk = s.sk ∧
      ((u = 1 ∨ u = 2) → t.canState l k.val e.val = 9 ∧ SameRegistersBut s t [canTx l k.val e.val + CANTX.STATE.ofs]) ∧
      (u = 3 → t.canState l k.val e.val = 3 ∧ t.fb (canTx l k.val e.val) CANTX.CANCEL_LATE = true ∧
        t.fb (canB l k.val) CAN.EVT_CANCEL_LATE = true) ∧
      ((u = 0 ∨ 4 ≤ u) → t = s) := by
  intro u
  have allowed : ¬ (!s.running l || !canHas l k.val) = true := by simp [hrun, hhas]
  unfold Completes
  rw [exec_canTxCancel, execCanTxCancel, if_neg allowed]
  by_cases h3 : u = 3
  · rw [if_pos h3]
    refine ⟨_, rfl, rfl, rfl, rfl, by omega, fun _ => ⟨?_, ?_, State.fb_fs_one _ _ (by decide) (by decide)⟩, by omega⟩
    · rw [State.canState, State.fg_canTx_fs_canB _ _ _ _ _ (by decide), State.fg_fs_apart _ _ (by decide) (by decide)]
      exact h3
    · rw [State.fb_canTx_fs_canB _ _ _ _ _ (by decide), State.fb_fs_one _ _ (by decide) (by decide)]
  · rw [if_neg h3]
    by_cases h12 : u = 1 ∨ u = 2
    · rw [if_pos h12]
      exact ⟨_, rfl, rfl, rfl, rfl, fun _ => ⟨State.fg_fs_fits _ _ (by decide) (by decide), (SameRegistersBut.refl _ _).fs _ (by simp)⟩,
        fun h => absurd h h3, by omega⟩
    · rw [if_neg h12]
      exact ⟨_, rfl, rfl, rfl, rfl, fun h => absurd h h12, fun h => absurd h h3, fun _ => rfl⟩

/-! The SOF -/

theorem canTxStart_completes (m e : Nat) (hup : s.canUp l k.val = true) (hres : s.fb (canB l k.val) CAN.CTRL_RESTRICT = false)
    (hact : (s.can l k.val).act = none) (href : (s.can l k.val).ref = none)
    (hbest : s.canBest l k.val (s.canReady l k.val) = some e) : Completes (.canTxStart l k m) s fun t =>
      let fits := ∀ c, s.canColumn l k.val = some c → s.canFits l k.val e c = true
      t.mem = s.mem ∧ t.sk = s.sk ∧
      ((s.fg (canB l k.val) CAN.CTRL_TTMODE = 0 ∨ fits) → t.canState l k.val e = 3 ∧ (t.can l k.val).act = some e ∧
        t.fg (canTx l k.val e) CANTX.TS = s.utime l / 1000 % 2 ^ 32 ∧ t.evq = s.evq ∧
        t.fg (canTx l k.val e) CANTX.ATTEMPTS = min 15 (s.fg (canTx l k.val e) CANTX.ATTEMPTS + 1)) ∧
      (s.fg (canB l k.val) CAN.CTRL_TTMODE ≠ 0 → ¬ fits → (t.can l k.val).act = none ∧ t.fb (canB l k.val) CAN.EVT_TT_WINDOW = true ∧
        t.evq = s.evq ++ [s.stamp { coll := .lane l, src := 0x1c7, inst := k.val, res := 0x20 + k.val }]) := by
  have free : ¬ (!s.canUp l k.val || s.fb (canB l k.val) CAN.CTRL_RESTRICT || (s.can l k.val).act.isSome ||
      (s.can l k.val).ref.isSome) = true := by simp [hup, hres, hact, href]
  have misfit : (s.canColumn l k.val).any (fun c => !s.canFits l k.val e c) = true ↔
      ¬ ∀ c, s.canColumn l k.val = some c → s.canFits l k.val e c = true := by
    cases s.canColumn l k.val <;> simp
  unfold Completes
  rw [exec_canTxStart, execCanTxStart]
  dsimp only
  rw [if_neg free]
  simp only [hbest, misfit]
  by_cases h : s.fg (canB l k.val) CAN.CTRL_TTMODE ≠ 0 ∧ ¬ ∀ c, s.canColumn l k.val = some c → s.canFits l k.val e c = true
  · obtain ⟨htt, hfit⟩ := h
    rw [if_pos ⟨htt, hfit⟩]
    exact ⟨_, rfl, by simp, by simp, fun g => (g.elim htt hfit).elim, fun _ _ => ⟨by simp [hact],
      s.canEvent_fb l k.val _ (by decide) (by decide), s.canEvent_evq (c := 1) l k.val rfl (State.running_of_canUp hup)⟩⟩
  · rw [if_neg h]
    obtain ⟨hstate, hsent, -, hts, hatt, hmem, hsk, hevq⟩ := s.canSof_spec l k.val e false
    obtain ⟨hmem', hsk', hevq', hcan', hfg'⟩ := (s.canSof l k.val e false).canMeasure_frame l k.val e m
    exact ⟨_, rfl, hmem'.trans hmem, hsk'.trans hsk, fun _ => ⟨(hfg' _).trans hstate, (congrArg CanSt.act hcan').trans hsent,
      (hfg' _).trans hts, hevq'.trans hevq, (hfg' _).trans hatt⟩, fun htt hfit => absurd ⟨htt, hfit⟩ h⟩

/-! Success -/

/-- What an acknowledged transmission leaves of an error-active controller: TEC one less, ACKRUN 0, and nothing else but its status. -/
theorem State.canTxCount_spec (s : State) (l : Lane) (k : Nat) (ht : s.fg (canB l k) CAN.STATUS_TEC ≤ 127)
    (hr : s.fg (canB l k) CAN.STATUS_REC ≤ 127) :
    let t := s.canTxCount l k
    t.mem = s.mem ∧ t.sk = s.sk ∧ t.evq = s.evq ∧ t.can l k = s.can l k ∧
      (∀ f : Fld, f.ofs ≠ CAN.STATUS_TEC.ofs → t.fg (canB l k) f = s.fg (canB l k) f) ∧
      t.fg (canB l k) CAN.STATUS_TEC = s.fg (canB l k) CAN.STATUS_TEC - 1 ∧ t.fg (canB l k) CAN.STATUS_ACKRUN = 0 ∧
      t.fg (canB l k) CAN.STATUS_ERRSTATE = 0 := by
  have fits : s.fg (canB l k) CAN.STATUS_TEC - 1 < 2 ^ CAN.STATUS_TEC.w := Nat.lt_of_le_of_lt (Nat.sub_le _ _) (s.fg_lt _ _)
  have word : canB l k + CAN.STATUS_TEC.ofs ∈ [canB l k + CAN.STATUS_TEC.ofs] := List.mem_singleton_self _
  rw [s.canTxCount_of_active l k ht hr]
  refine ⟨by simp, by simp, by simp, by simp, fun f hf => ?_, ?_, ?_, ?_⟩
  · have status := (((((SameRegistersBut.refl s [canB l k + CAN.STATUS_TEC.ofs]).fs (f := CAN.STATUS_ACKRUN) 0 word).fs
      (f := CAN.STATUS_NOPART) 0 word).fs (f := CAN.STATUS_TEC) (s.fg (canB l k) CAN.STATUS_TEC - 1) word).fs
      (f := CAN.STATUS_REC) (s.fg (canB l k) CAN.STATUS_REC) word).fs (f := CAN.STATUS_ERRSTATE) 0 word
    exact status.fg (by simpa using hf)
  · rw [State.fg_fs_apart _ _ (by decide) (by decide), State.fg_fs_apart _ _ (by decide) (by decide), State.fg_fs_fits _ _ (by decide) fits]
  · simp (disch := decide) only [State.fg_fs_apart, State.fg_fs_fits]
  · exact State.fg_fs_fits _ _ (by decide) (by decide)

/-- The element being sent has succeeded. -/
def State.canSent (s : State) (l : Lane) (k e : Nat) : State :=
  (((s.canTxCount l k).fs (canTx l k e) CANTX.STATE 4).fs (canB l k) CAN.EVT_TX_DONE 1).setCan l k
    { s.can l k with act := none, once := false }

theorem canTxSuccess_element_completes (e : Nat) (hup : s.canUp l k.val = true) (hact : (s.can l k.val).act = some e)
    (hloop : s.fg (canB l k.val) CAN.CTRL_LOOP = 0) (ht : s.fg (canB l k.val) CAN.STATUS_TEC ≤ 127)
    (hr : s.fg (canB l k.val) CAN.STATUS_REC ≤ 127) : Completes (.canTxSuccess l k) s fun t =>
      t.canState l k.val e = 4 ∧ (t.can l k.val).act = none ∧ t.fb (canB l k.val) CAN.EVT_TX_DONE = true ∧
      t.fg (canB l k.val) CAN.STATUS_TEC = s.fg (canB l k.val) CAN.STATUS_TEC - 1 ∧ t.fg (canB l k.val) CAN.STATUS_ACKRUN = 0 ∧
      t.fg (canB l k.val) CAN.STATUS_ERRSTATE = 0 ∧ t.evq = s.evq ∧ t.mem = s.mem ∧ t.sk = s.sk := by
  obtain ⟨hmem, hsk, hevq, hcan, hfg, htec, hrun, herr⟩ := s.canTxCount_spec l k.val ht hr
  have kept {f : Fld} (hf : f.ofs < 0x7c00) (ha : CAN.EVT_TX_DONE.apart f = true) :
      (s.canSent l k.val e).fg (canB l k.val) f = (s.canTxCount l k.val).fg (canB l k.val) f := by
    rw [State.canSent, State.setCan_fg, State.fg_fs_apart _ _ (by decide) ha, State.fg_canB_fs_canTx _ _ _ _ _ hf]
  have loop : (s.canSent l k.val e).fg (canB l k.val) CAN.CTRL_LOOP = 0 := by
    rw [kept (by decide) (by decide), hfg _ (by decide), hloop]
  refine ⟨s.canSent l k.val e, ?_, ?_, ?_, ?_, (kept (by decide) (by decide)).trans htec, (kept (by decide) (by decide)).trans hrun,
    (kept (by decide) (by decide)).trans herr, by simp [State.canSent, hevq],
    by simp [State.canSent, hmem], by simp [State.canSent, hsk]⟩
  · rw [exec_canTxSuccess, execCanTxSuccess]
    simp only [hup, hact, State.setCanTx, State.fs_can, hcan, Bool.not_true, Bool.false_eq_true, if_false]
    exact congrArg Host.Outcome.next (if_pos loop)
  · rw [State.canState, State.canSent, State.setCan_fg, State.fg_canTx_fs_canB _ _ _ _ _ (by decide),
      State.fg_fs_fits _ _ (by decide) (by decide)]
  · simp [State.canSent]
  · rw [State.canSent, State.setCan_fb, State.fb_fs_one _ _ (by decide) (by decide)]

/-- A reference message in force (R438): what it leaves. -/
theorem State.canRef_spec (s : State) (l : Lane) (k : Nat) {c : Nat} (at_ : Nat) (hc : c < 64) :
    let t := s.canRef l k c at_ true
    t.fg (canB l k) CAN.TTSTAT_CYCCNT = c ∧ t.fb (canB l k) CAN.TTSTAT_SYNCED = true ∧ t.fb (canB l k) CAN.TTSTAT_MASTER = true ∧
      (t.can l k).refAt = at_ ∧ (t.can l k).ref = none ∧ t.evq = s.evq ∧ t.mem = s.mem ∧ t.sk = s.sk := by
  simp only [State.canRef, State.setCan_fg, State.setCan_fb, State.can_setCan_same, if_true]
  refine ⟨?_, ?_, State.fb_fs_one _ _ (by decide) (by decide), trivial, trivial, rfl, rfl, rfl⟩
  · rw [State.fg_fs_apart _ _ (by decide) (by decide), State.fg_fs_apart _ _ (by decide) (by decide), State.fg_fs_fits _ _ (by decide) hc]
  · rw [State.fb_fs_apart _ _ (by decide) (by decide), State.fb_fs_one _ _ (by decide) (by decide)]

theorem canTxSuccess_reference_completes (c : Nat) (hup : s.canUp l k.val = true) (hact : (s.can l k.val).act = none)
    (href : (s.can l k.val).ref = some c) (hloop : s.fg (canB l k.val) CAN.CTRL_LOOP = 0) (hc : c < 64)
    (ht : s.fg (canB l k.val) CAN.STATUS_TEC ≤ 127) (hr : s.fg (canB l k.val) CAN.STATUS_REC ≤ 127) :
    Completes (.canTxSuccess l k) s fun t =>
      t.fg (canB l k.val) CAN.TTSTAT_CYCCNT = c ∧ t.fb (canB l k.val) CAN.TTSTAT_SYNCED = true ∧
      t.fb (canB l k.val) CAN.TTSTAT_MASTER = true ∧ (t.can l k.val).refAt = (s.can l k.val).sof ∧ (t.can l k.val).ref = none ∧
      t.evq = s.evq ∧ t.mem = s.mem ∧ t.sk = s.sk := by
  obtain ⟨hmem, hsk, hevq, -⟩ := s.canTxCount_spec l k.val ht hr
  obtain ⟨hcyc, hsync, hmaster, hat, hnone, hevq', hmem', hsk'⟩ :=
    (s.canTxCount l k.val).canRef_spec l k.val (s.can l k.val).sof hc
  refine ⟨(s.canTxCount l k.val).canRef l k.val c (s.can l k.val).sof true, ?_, hcyc, hsync, hmaster, hat, hnone, hevq'.trans hevq,
    hmem'.trans hmem, hsk'.trans hsk⟩
  rw [exec_canTxSuccess, execCanTxSuccess]
  simp only [hup, hact, href, Bool.not_true, Bool.false_eq_true, if_false]
  exact if_pos hloop

/-! Failure -/

theorem State.canSpent_congr {s t : State} {l : Lane} {k e : Nat} (hcan : t.can l k = s.can l k)
    (hretry : t.fg (canB l k) CAN.TXCFG_RETRY = s.fg (canB l k) CAN.TXCFG_RETRY)
    (htx : ∀ f, t.fg (canTx l k e) f = s.fg (canTx l k e) f) : t.canSpent l k e ↔ s.canSpent l k e := by
  rw [State.canSpent, State.canSpent, State.fb, State.fb, hcan, hretry, htx, htx]

/-- A run of ACK errors that does not reach 64 raises nothing (R444). -/
theorem State.canAckRun_of_ne (s : State) (l : Lane) (k : Nat) (h : s.fg (canB l k) CAN.STATUS_ACKRUN ≠ 63) :
    s.canAckRun l k = s.fs (canB l k) CAN.STATUS_ACKRUN (min 255 (s.fg (canB l k) CAN.STATUS_ACKRUN + 1)) := by
  simp [State.canAckRun, h]

/-- A transmit error of an error-active controller adds 8 to TEC, and the attempt has failed (R442). -/
theorem execCanTxError_of_active {e : Nat} (hup : s.canUp l k.val = true) (hact : (s.can l k.val).act = some e)
    (ht : s.fg (canB l k.val) CAN.STATUS_TEC ≤ 119) (hr : s.fg (canB l k.val) CAN.STATUS_REC ≤ 127) :
    execCanTxError l k false false s = .next (((((s.fInc (canB l k.val) CAN.COUNT_ERRORS).fs (canB l k.val) CAN.STATUS_TEC
      (s.fg (canB l k.val) CAN.STATUS_TEC + 8)).fs (canB l k.val) CAN.STATUS_REC (s.fg (canB l k.val) CAN.STATUS_REC)).fs
      (canB l k.val) CAN.STATUS_ERRSTATE 0).canFailed l k.val false) := by
  have tec : (s.fInc (canB l k.val) CAN.COUNT_ERRORS).fg (canB l k.val) CAN.STATUS_TEC = s.fg (canB l k.val) CAN.STATUS_TEC :=
    s.fg_fInc_apart (by decide) (by decide)
  have rec_ : (s.fInc (canB l k.val) CAN.COUNT_ERRORS).fg (canB l k.val) CAN.STATUS_REC = s.fg (canB l k.val) CAN.STATUS_REC :=
    s.fg_fInc_apart (by decide) (by decide)
  have small : ¬ 255 < s.fg (canB l k.val) CAN.STATUS_TEC + 8 := by omega
  unfold execCanTxError
  simp only [hup, hact, tec, rec_, small, Bool.not_true, Option.isNone_some, Bool.false_and, Bool.or_false,
    Bool.false_eq_true, if_false, decide_false]
  rw [State.canCounts_of_active _ l k.val (by omega) hr]

theorem canTxError_active_completes (e : Nat) (hup : s.canUp l k.val = true) (hact : (s.can l k.val).act = some e)
    (ht : s.fg (canB l k.val) CAN.STATUS_TEC ≤ 119) (hr : s.fg (canB l k.val) CAN.STATUS_REC ≤ 127) :
    Completes (.canTxError l k false false) s fun t =>
      t.fg (canB l k.val) CAN.STATUS_TEC = s.fg (canB l k.val) CAN.STATUS_TEC + 8 ∧ (t.can l k.val).act = none ∧
      t.fg (canB l k.val) CAN.COUNT_ERRORS = min (2 ^ CAN.COUNT_ERRORS.w - 1) (s.fg (canB l k.val) CAN.COUNT_ERRORS + 1) ∧
      (s.canSpent l k.val e → t.canState l k.val e = 6 ∧ t.fb (canB l k.val) CAN.EVT_TX_FAILED = true) ∧
      (¬ s.canSpent l k.val e → t.canState l k.val e = 2) ∧
      t.evq = s.evq ∧ t.mem = s.mem ∧ t.sk = s.sk := by
  refine ⟨_, (exec_canTxError ..).trans (execCanTxError_of_active hup hact ht hr), ?_⟩
  set b := canB l k.val
  set v := (((s.fInc b CAN.COUNT_ERRORS).fs b CAN.STATUS_TEC (s.fg b CAN.STATUS_TEC + 8)).fs b CAN.STATUS_REC
    (s.fg b CAN.STATUS_REC)).fs b CAN.STATUS_ERRSTATE 0 with hv
  have can : v.can l k.val = s.can l k.val := by simp [hv]
  have tec : v.fg b CAN.STATUS_TEC = s.fg b CAN.STATUS_TEC + 8 := by
    rw [hv, State.fg_fs_apart _ _ (by decide) (by decide), State.fg_fs_apart _ _ (by decide) (by decide),
      State.fg_fs_fits _ _ (by decide) (Nat.lt_of_le_of_lt (Nat.add_le_add_right ht 8) (by decide))]
  have errors : v.fg b CAN.COUNT_ERRORS = min (2 ^ CAN.COUNT_ERRORS.w - 1) (s.fg b CAN.COUNT_ERRORS + 1) := by
    simp (disch := decide) only [hv, State.fg_fs_apart, State.fg_fInc_same]
  have spent : v.canSpent l k.val e ↔ s.canSpent l k.val e :=
    State.canSpent_congr can (by simp (disch := decide) only [hv, b, State.fg_fs_apart, State.fg_fInc_apart])
      fun f => by simp (disch := decide) only [hv, b, State.fg_canTx_fs_canB, State.fg_canTx_fInc_canB]
  obtain ⟨hidle, hmem, hsk, hevq, hfg, hspent, hagain⟩ := v.canFailed_spec l k.val (e := e) (by rw [can, hact])
  rw [spent] at hspent hagain
  exact ⟨(hfg _ (by decide) (by decide)).trans tec, hidle, (hfg _ (by decide) (by decide)).trans errors, hspent, hagain,
    hevq.trans (by simp [hv]), hmem.trans (by simp [hv]), hsk.trans (by simp [hv])⟩

/-- An ACK error of an error-passive controller that sees no dominant bit leaves TEC alone (R442, R444). -/
theorem execCanTxError_of_passive {e : Nat} (hup : s.canUp l k.val = true) (hact : (s.can l k.val).act = some e)
    (hloop : s.fg (canB l k.val) CAN.CTRL_LOOP = 0) (hp : s.fg (canB l k.val) CAN.STATUS_ERRSTATE = 1)
    (hrun : s.fg (canB l k.val) CAN.STATUS_ACKRUN ≠ 63) (ht : 128 ≤ s.fg (canB l k.val) CAN.STATUS_TEC)
    (ht' : s.fg (canB l k.val) CAN.STATUS_TEC ≤ 247) :
    execCanTxError l k true false s = .next (((((s.fInc (canB l k.val) CAN.COUNT_ERRORS).fs (canB l k.val) CAN.STATUS_ACKRUN
      (min 255 (s.fg (canB l k.val) CAN.STATUS_ACKRUN + 1))).fs (canB l k.val) CAN.STATUS_TEC
      (s.fg (canB l k.val) CAN.STATUS_TEC)).fs (canB l k.val) CAN.STATUS_REC
      (min 255 (s.fg (canB l k.val) CAN.STATUS_REC))).canFailed l k.val false) := by
  set b := canB l k.val with hb
  have counted {f : Fld} (hf : CAN.COUNT_ERRORS.apart f = true) : (s.fInc b CAN.COUNT_ERRORS).fg b f = s.fg b f :=
    s.fg_fInc_apart (by decide) hf
  have run := (s.fInc b CAN.COUNT_ERRORS).canAckRun_of_ne l k.val (by rwa [← hb, counted (by decide)])
  rw [← hb, counted (by decide)] at run
  have kept {f : Fld} (hf : CAN.COUNT_ERRORS.apart f = true) (ha : CAN.STATUS_ACKRUN.apart f = true) :
      ((s.fInc b CAN.COUNT_ERRORS).fs b CAN.STATUS_ACKRUN (min 255 (s.fg b CAN.STATUS_ACKRUN + 1))).fg b f = s.fg b f := by
    rw [State.fg_fs_apart _ _ (by decide) ha, counted hf]
  have small : ¬ 255 < s.fg b CAN.STATUS_TEC := by omega
  unfold execCanTxError
  simp only [← hb, hup, hact, hloop, hp, run, kept (f := CAN.STATUS_TEC) (by decide) (by decide),
    kept (f := CAN.STATUS_REC) (by decide) (by decide), small, Bool.not_true, Option.isNone_some, Bool.false_and, Bool.true_and,
    Bool.false_or, bne_self_eq_false, BEq.rfl, Bool.not_false, if_true, Nat.add_zero, Bool.false_eq_true, if_false, decide_false]
  rw [State.canCounts_of_passive _ l k.val _ (by omega) (by omega) (by rw [← hb, kept (by decide) (by decide), hp])]

theorem canTxError_passive_completes (e : Nat) (hup : s.canUp l k.val = true) (hact : (s.can l k.val).act = some e)
    (hloop : s.fg (canB l k.val) CAN.CTRL_LOOP = 0) (hp : s.fg (canB l k.val) CAN.STATUS_ERRSTATE = 1)
    (hrun : s.fg (canB l k.val) CAN.STATUS_ACKRUN ≠ 63) (ht : 128 ≤ s.fg (canB l k.val) CAN.STATUS_TEC)
    (ht' : s.fg (canB l k.val) CAN.STATUS_TEC ≤ 247) : Completes (.canTxError l k true false) s fun t =>
      t.fg (canB l k.val) CAN.STATUS_TEC = s.fg (canB l k.val) CAN.STATUS_TEC ∧ t.evq = s.evq ∧ t.mem = s.mem ∧ t.sk = s.sk ∧
      t.fg (canB l k.val) CAN.STATUS_ACKRUN = min 255 (s.fg (canB l k.val) CAN.STATUS_ACKRUN + 1) := by
  refine ⟨_, (exec_canTxError ..).trans (execCanTxError_of_passive hup hact hloop hp hrun ht ht'), ?_⟩
  set b := canB l k.val
  set v := (((s.fInc b CAN.COUNT_ERRORS).fs b CAN.STATUS_ACKRUN (min 255 (s.fg b CAN.STATUS_ACKRUN + 1))).fs b CAN.STATUS_TEC
    (s.fg b CAN.STATUS_TEC)).fs b CAN.STATUS_REC (min 255 (s.fg b CAN.STATUS_REC)) with hv
  have tec : v.fg b CAN.STATUS_TEC = s.fg b CAN.STATUS_TEC := by
    rw [hv, State.fg_fs_apart _ _ (by decide) (by decide), State.fg_fs_fits _ _ (by decide) (s.fg_lt _ _)]
  have run : v.fg b CAN.STATUS_ACKRUN = min 255 (s.fg b CAN.STATUS_ACKRUN + 1) := by
    rw [hv, State.fg_fs_apart _ _ (by decide) (by decide), State.fg_fs_apart _ _ (by decide) (by decide),
      State.fg_fs_fits _ _ (by decide) (Nat.lt_of_le_of_lt (Nat.min_le_left _ _) (by decide))]
  obtain ⟨-, hmem, hsk, hevq, hfg, -⟩ := v.canFailed_spec l k.val (e := e) (by simpa [hv] using hact)
  exact ⟨(hfg _ (by decide) (by decide)).trans tec, hevq.trans (by simp [hv]), hmem.trans (by simp [hv]), hsk.trans (by simp [hv]),
    (hfg _ (by decide) (by decide)).trans run⟩

/-! The schedule -/

theorem canTtRefSend_completes (hup : s.canUp l k.val = true) (htt : s.fg (canB l k.val) CAN.CTRL_TTMODE = 2)
    (hres : s.fb (canB l k.val) CAN.CTRL_RESTRICT = false) (hact : (s.can l k.val).act = none) (href : (s.can l k.val).ref = none)
    (hdue : s.canRefDue l k.val = true) : Completes (.canTtRefSend l k) s fun t =>
      (t.can l k.val).ref = some (if s.fb (canB l k.val) CAN.TTSTAT_SYNCED then
        (s.fg (canB l k.val) CAN.TTSTAT_CYCCNT + 1) % 2 ^ s.fg (canB l k.val) CAN.TTCFG_NCYC else 0) ∧
      (t.can l k.val).sof = s.utime l ∧ t.regs = s.regs ∧ t.evq = s.evq ∧ t.mem = s.mem ∧ t.sk = s.sk := by
  have owed : ¬ (!s.canUp l k.val || s.fg (canB l k.val) CAN.CTRL_TTMODE != 2 || s.fb (canB l k.val) CAN.CTRL_RESTRICT ||
      (s.can l k.val).act.isSome || (s.can l k.val).ref.isSome || !s.canRefDue l k.val) = true := by
    simp [hup, htt, hres, hact, href, hdue]
  refine ⟨_, (exec_canTtRefSend ..).trans (if_neg owed), ?_, ?_, rfl, rfl, rfl, rfl⟩ <;> rw [State.can_setCan_same]
  rfl

theorem canTtWindowStart_completes (col : Fin 32) (hup : s.canUp l k.val = true) (htt : s.fg (canB l k.val) CAN.CTRL_TTMODE ≠ 0)
    (hcol : s.canColumn l k.val = some col.val) (hmark : s.canCycTime l k.val = s.canMark l k.val col.val)
    (hres : s.fb (canB l k.val) CAN.CTRL_RESTRICT = false) (hact : (s.can l k.val).act = none) (href : (s.can l k.val).ref = none)
    (hdrop : (s.can l k.val).dropWin = false) : Completes (.canTtWindowStart l k col) s fun t =>
      let m := s.canEntry l k.val (s.fg (canB l k.val) CAN.TTSTAT_CYCCNT) col.val
      let e := m / 4 % 32
      t.mem = s.mem ∧ t.sk = s.sk ∧
      (m % 4 = 1 → s.canState l k.val e = 2 → s.canFits l k.val e col.val = true → t.canState l k.val e = 3 ∧
        (t.can l k.val).act = some e ∧ (t.can l k.val).once = true ∧ t.evq = s.evq) ∧
      (m % 4 = 1 → s.canState l k.val e = 2 → s.canFits l k.val e col.val = false → (t.can l k.val).act = none ∧
        t.evq = s.evq ++ [s.stamp { coll := .lane l, src := 0x1c7, inst := k.val, res := 0x20 + k.val }]) ∧
      (m % 4 ≠ 1 → (t.can l k.val).act = none ∧ t.regs = s.regs ∧ t.evq = s.evq) := by
  have mark : ¬ (!s.canUp l k.val || s.fg (canB l k.val) CAN.CTRL_TTMODE == 0 || s.canColumn l k.val != some col.val ||
      s.canCycTime l k.val != s.canMark l k.val col.val) = true := by
    simp [hup, htt, hcol, hmark]
  unfold Completes
  rw [exec_canTtWindowStart, execCanTtWindowStart]
  dsimp only
  rw [if_neg mark]
  have hrun := State.running_of_canUp hup
  set u := s.setCan l k.val { s.can l k.val with dropWin := false } with hu
  set m := s.canEntry l k.val (s.fg (canB l k.val) CAN.TTSTAT_CYCCNT) col.val
  have idle : (u.can l k.val).act = none := by rw [hu, State.can_setCan_same]; exact hact
  by_cases h : m % 4 ≠ 1 ∨ s.canState l k.val (m / 4 % 32) ≠ 2
  · exact ⟨u, if_pos (h.imp_right .inl), rfl, rfl, fun h1 h2 => (h.elim (· h1) (· h2)).elim, fun h1 h2 => (h.elim (· h1) (· h2)).elim,
      fun _ => ⟨idle, rfl, rfl⟩⟩
  · obtain ⟨h1, h2⟩ := not_or.mp h
    have start : ¬ (m % 4 ≠ 1 ∨ s.canState l k.val (m / 4 % 32) ≠ 2 ∨ (s.can l k.val).act.isSome = true ∨
        (s.can l k.val).ref.isSome = true ∨ s.fb (canB l k.val) CAN.CTRL_RESTRICT = true ∨ (s.can l k.val).dropWin = true) := by
      simpa [hact, href, hres, hdrop] using h
    have fits : u.canFits l k.val (m / 4 % 32) col.val = s.canFits l k.val (m / 4 % 32) col.val := 
      s.canFits_setCan l k.val (x := { s.can l k.val with dropWin := false }) rfl _ _
    cases hfit : s.canFits l k.val (m / 4 % 32) col.val with
    | true =>
      obtain ⟨hstate, hsent, honce, -, -, hmem, hsk, hevq⟩ := u.canSof_spec l k.val (m / 4 % 32) true
      exact ⟨_, (if_neg start).trans (if_pos (fits.trans hfit)), hmem, hsk, fun _ _ _ => ⟨hstate, hsent, honce, hevq⟩, nofun,
        fun hn => absurd hn h1⟩
    | false =>
      have misfit : ¬ u.canFits l k.val (m / 4 % 32) col.val = true := by simp [fits, hfit]
      exact ⟨_, (if_neg start).trans (if_neg misfit), State.canEvent_mem .., State.canEvent_sk .., nofun,
        fun _ _ _ => ⟨by rw [State.canEvent_can, idle], u.canEvent_evq (c := 1) l k.val rfl hrun⟩,
        fun hn => absurd hn h1⟩

end

/-- Settles O54: an element's commit, cancel, SOF, success and failure, the reference message of a potential master, and the start of a
window. A frame's arbitration field decides among READY elements. -/
theorem canElementsAreSent : Obligations.CanElementsAreSent := by
  unfold Obligations.CanElementsAreSent
  refine ⟨?_, ?_, ?_, ?_, ?_, ?_, ?_, ?_, ?_, ?_⟩
  · intro l k e v s hrun hhas hst hv
    exact canTxCommit_completes e v hrun hhas hst hv
  · intro l k e s hrun hhas
    exact canTxCancel_completes e hrun hhas
  · intro l k m e s hup hres hact href hbest
    exact canTxStart_completes m e hup hres hact href hbest
  · intro l k es s e h
    exact s.canBest_min l k h
  · intro l k e s hup hact _ hloop _ ht hr
    exact canTxSuccess_element_completes e hup hact hloop ht hr
  · intro l k c s hup hact href hloop hc ht hr
    exact canTxSuccess_reference_completes c hup hact href hloop hc ht hr
  · intro l k e s hup hact _ _ ht hr
    exact canTxError_active_completes e hup hact ht hr
  · intro l k e s hup hact _ hloop hp hrun ht ht'
    exact canTxError_passive_completes e hup hact hloop hp hrun ht ht'
  · intro l k s hup htt hres hact href hdue
    exact canTtRefSend_completes hup htt hres hact href hdue
  · intro l k col s hup htt hcol hmark hres hact href hdrop
    exact canTtWindowStart_completes col hup htt hcol hmark hres hact href hdrop

end Sys2Proof.Machine
end

section
/-! SUPPORT. What the operations and commands leave of Skink: folds, choices and outcomes, then the unit, the fault collection and the
comparison. Where an operation leaves Skink alone, its lemma says so of the whole of it; where it does not, of LOCKED (R37). A proof
says -implicitDefEqProofs where the kernel would otherwise compare two large states by unfolding them. -/

namespace Sys2Proof.Machine

open Sys2Proof

/-! Choices, outcomes and folds -/

@[simp] theorem State.sk_ite (c : Prop) [Decidable c] (s t : State) : (if c then s else t).sk = if c then s.sk else t.sk :=
  apply_ite _ c s t

@[simp] theorem Skink.locked_ite (c : Prop) [Decidable c] (s t : Skink) :
    (if c then s else t).locked = if c then s.locked else t.locked := apply_ite _ c s t

@[simp] theorem nextOr_next (s t : State) : nextOr s (.next t) = t := by rw [nextOr]

@[simp] theorem nextOr_ite (c : Prop) [Decidable c] (s : State) (x y : Host.Outcome State Fault Refusal) :
    nextOr s (if c then x else y) = if c then nextOr s x else nextOr s y := apply_ite _ c x y

@[simp] theorem State.setSk_sk (s : State) (k : Skink) : (s.setSk k).sk = k := rfl

/-- Each application of f leaves Skink as it is. -/
def KeepsSk {α : Type} (f : State → α → State) : Prop := ∀ s a, (f s a).sk = s.sk

@[simp] theorem keepsSk_iff {α : Type} (f : State → α → State) : KeepsSk f ↔ ∀ s a, (f s a).sk = s.sk := ⟨fun h => h, fun h => h⟩

@[simp] theorem foldl_sk {α : Type} {f : State → α → State} (hf : KeepsSk f) (l : List α) (s : State) :
    (l.foldl f s).sk = s.sk := by
  induction l generalizing s with
  | nil => rfl
  | cons a l ih => exact (ih _).trans (hf s a)

/-- Each application of f leaves LOCKED as it is. -/
def KeepsLocked {α : Type} (f : State → α → State) : Prop := ∀ s a, (f s a).sk.locked = s.sk.locked

@[simp] theorem keepsLocked_iff {α : Type} (f : State → α → State) : KeepsLocked f ↔ ∀ s a, (f s a).sk.locked = s.sk.locked :=
  ⟨fun h => h, fun h => h⟩

@[simp] theorem foldl_locked {α : Type} {f : State → α → State} (hf : KeepsLocked f) (l : List α) (s : State) :
    (l.foldl f s).sk.locked = s.sk.locked := by
  induction l generalizing s with
  | nil => rfl
  | cons a l ih => exact (ih _).trans (hf s a)

/-! Bytes, stores and free values -/

@[simp] theorem State.rowPut_sk (s : State) (l : Lane) (locked : Bool) (a : ℕ) (v : Word) : (s.rowPut l locked a v).sk = s.sk := by
  unfold State.rowPut; split <;> simp

@[simp] theorem State.wrBytes_sk (s : State) (l a : ℕ) (xs : List Byte) : (s.wrBytes l a xs).sk = s.sk := by
  induction xs generalizing s l a with
  | nil => rfl
  | cons x xs ih => simp -implicitDefEqProofs [State.wrBytes, ih]

@[simp] theorem State.takeBit_sk (s : State) : s.takeBit.2.sk = s.sk := by simp [State.takeBit]
@[simp] theorem State.takeNat_sk (s : State) : s.takeNat.2.sk = s.sk := by simp [State.takeNat]
@[simp] theorem State.breakResv_sk (s : State) (l : Lane) (a n : ℕ) : (s.breakResv l a n).sk = s.sk := by simp [State.breakResv]
@[simp] theorem State.memPut_sk (s : State) (l : Lane) (a : ℕ) (bs : List Byte) : (s.memPut l a bs).sk = s.sk := by simp [State.memPut]

@[simp] theorem State.storesDrift_sk (s : State) (l : Lane) : (s.storesDrift l).sk = s.sk := by
  dsimp only [State.storesDrift]; (repeat' split) <;> simp

@[simp] theorem State.storeRoom_sk (s : State) (l : Lane) : (s.storeRoom l).sk = s.sk := by simp [State.storeRoom]
@[simp] theorem State.icEdge_sk (s : State) (l : Lane) (i : ℕ) : (s.icEdge l i).sk = s.sk := by simp [State.icEdge]

/-! Configuration -/

@[simp] theorem State.setSi_sk (s : State) (i : ℕ) (x : SafeIn) : (s.setSi i x).sk = s.sk := by simp [State.setSi]
@[simp] theorem State.siStart_sk (s : State) : s.siStart.sk = s.sk := by simp [State.siStart]

/-! Retention -/

@[simp] theorem State.retLane_sk (s : State) (l : DLane) (z : ℕ) : (s.retLane l z).sk = s.sk := by simp [State.retLane]
@[simp] theorem State.retWrite_sk (s : State) (z : ℕ) : (s.retWrite z).sk = s.sk := by simp [State.retWrite]

/-! Staged records -/

@[simp] theorem State.scnListen_sk (s : State) (l : Lane) (c : ℕ) : (s.scnListen l c).sk = s.sk := by simp [State.scnListen]
@[simp] theorem State.toSkink_sk (s : State) (l : Lane) (b : BusRec) : (s.toSkink l b).sk = s.sk := by simp [State.toSkink]
@[simp] theorem State.setTx_sk (s : State) (l : Lane) (c e st : ℕ) : (s.setTx l c e st).sk = s.sk := by simp [State.setTx]
@[simp] theorem State.netAdd_sk (s : State) (l : Lane) (e : NetEntry) : (s.netAdd l e).sk = s.sk := by simp [State.netAdd]
@[simp] theorem State.setCanTx_sk (s : State) (l : Lane) (k e st : ℕ) : (s.setCanTx l k e st).sk = s.sk := by simp [State.setCanTx]

@[simp] theorem State.frameOut_sk (s : State) (l : Lane) (b : BusRec) (ok : Bool) : (s.frameOut l b ok).sk = s.sk := by
  unfold State.frameOut; split <;> simp

@[simp] theorem State.releaseElem_sk (s : State) (l : Lane) (b : BusRec) : (s.releaseElem l b).sk = s.sk := by simp [State.releaseElem]
@[simp] theorem State.discardElem_sk (s : State) (l : Lane) (b : BusRec) : (s.discardElem l b).sk = s.sk := by simp [State.discardElem]
@[simp] theorem State.dropStaged_sk (s : State) (l : Lane) : (s.dropStaged l).sk = s.sk := by simp [State.dropStaged]
@[simp] theorem State.stopNet_sk (s : State) (l : Lane) (c : ℕ) : (s.stopNet l c).sk = s.sk := by simp [State.stopNet]
@[simp] theorem State.stopCan_sk (s : State) (l : Lane) (k : ℕ) : (s.stopCan l k).sk = s.sk := by simp [State.stopCan]
@[simp] theorem State.netResume_sk (s : State) (l : Lane) (c : ℕ) : (s.netResume l c).sk = s.sk := by simp [State.netResume]
@[simp] theorem State.canResume_sk (s : State) (l : Lane) (k : ℕ) : (s.canResume l k).sk = s.sk := by simp [State.canResume]

/-! Turning things off -/

@[simp] theorem State.cellCmd_sk (s : State) (l : DLane) (c src : ℕ) (hs ls : Bool) : (s.cellCmd l c src hs ls).sk = s.sk := by simp [State.cellCmd]
@[simp] theorem State.cellFloat_sk (s : State) (l : DLane) (c : ℕ) : (s.cellFloat l c).sk = s.sk := by simp [State.cellFloat]

@[simp] theorem State.cellsFloat_sk (s : State) (l : DLane) (c n : ℕ) : (s.cellsFloat l c n).sk = s.sk := by
  induction n generalizing s l c with
  | zero => rfl
  | succ n ih => simp -implicitDefEqProofs [State.cellsFloat, ih]

@[simp] theorem State.cellsBack_sk (s : State) (l : DLane) (m : ℕ) : (s.cellsBack l m).sk = s.sk := by simp [State.cellsBack]
@[simp] theorem State.sliceFailQuiet_sk (s : State) (l : Lane) (n : ℕ) : (s.sliceFailQuiet l n).sk = s.sk := by simp [State.sliceFailQuiet]

@[simp] theorem State.trimApply_sk (s : State) (l : DLane) (p ph : ℕ) : (s.trimApply l p ph).sk = s.sk := by
  dsimp only [State.trimApply]; split <;> simp

@[simp] theorem State.ppTrims_sk (s old : State) (l : DLane) (p : ℕ) : (s.ppTrims old l p).sk = s.sk := by simp [State.ppTrims]
@[simp] theorem State.portState_sk (s : State) (l : DLane) (p st : ℕ) : (s.portState l p st).sk = s.sk := by simp [State.portState]
@[simp] theorem State.portRest_sk (s : State) (l : DLane) (p st : ℕ) : (s.portRest l p st).sk = s.sk := by simp -implicitDefEqProofs [State.portRest]
@[simp] theorem State.portOff_sk (s : State) (l : DLane) (p : ℕ) : (s.portOff l p).sk = s.sk := by simp -implicitDefEqProofs [State.portOff]
@[simp] theorem State.portToOff_sk (s : State) (l : DLane) (p : ℕ) : (s.portToOff l p).sk = s.sk := by simp [State.portToOff]
@[simp] theorem State.stopPort_sk (s : State) (l : DLane) (p : ℕ) : (s.stopPort l p).sk = s.sk := by simp [State.stopPort]
@[simp] theorem State.portsOff_sk (s : State) : s.portsOff.sk = s.sk := by simp [State.portsOff]
@[simp] theorem State.dramStart_sk (s : State) (l : Lane) (kept : Bool) : (s.dramStart l kept).sk = s.sk := by simp [State.dramStart]

@[simp] theorem State.erFrozen_sk (s : State) (l : Lane) : (s.erFrozen l).sk = s.sk := by
  unfold State.erFrozen; split <;> simp

@[simp] theorem State.erCheck_sk (s : State) (l : Lane) : (s.erCheck l).sk = s.sk := by
  dsimp only [State.erCheck]; split <;> simp

@[simp] theorem State.erTrigger_sk (s : State) (l : Lane) (src coll : ℕ) (sw : Bool) : (s.erTrigger l src coll sw).sk = s.sk := by
  simp [State.erTrigger]

@[simp] theorem State.erLogged_sk (s : State) (l : Lane) (it : LogItem) : (s.erLogged l it).sk = s.sk := by simp [State.erLogged]
@[simp] theorem State.laneClear_sk (s : State) (l : ℕ) : (s.laneClear l).sk = s.sk := by simp [State.laneClear]
@[simp] theorem State.starReset_sk (s : State) (l : DLane) : (s.starReset l).sk = s.sk := by simp [State.starReset]
@[simp] theorem State.ocRelease_sk (s : State) (l : DLane) : (s.ocRelease l).sk = s.sk := by simp [State.ocRelease]
@[simp] theorem State.cellRelease_sk (s : State) (l : DLane) (f : Fld) : (s.cellRelease l f).sk = s.sk := by simp [State.cellRelease]
@[simp] theorem State.portRelease_sk (s : State) (l : DLane) (p : ℕ) : (s.portRelease l p).sk = s.sk := by simp [State.portRelease]

@[simp] theorem State.releaseLane_sk (s : State) (l : Lane) (src : ℕ) : (s.releaseLane l src).sk = s.sk := by
  unfold State.releaseLane; split <;> simp

@[simp] theorem State.sdNet_sk (s : State) (l j q n : ℕ) : (s.sdNet l j q n).sk = s.sk := by
  dsimp only [State.sdNet]; (repeat' split) <;> simp

/-! The unit -/

@[simp] theorem State.tapsLost_sk (s : State) (l : Lane) : (s.tapsLost l).sk = s.sk := by
  unfold State.tapsLost; split <;> simp

@[simp] theorem State.holdReset_sk (s : State) (l : Lane) : (s.holdReset l).sk = s.sk := by simp [State.holdReset]
@[simp] theorem State.skinkReset_sk (s : State) (l : Lane) : (s.skinkReset l).sk = s.sk := by simp [State.skinkReset]
@[simp] theorem State.closeLane_sk (s : State) (l : Lane) : (s.closeLane l).sk = s.sk := by simp [State.closeLane]
@[simp] theorem State.cmpStop_sk (s : State) : s.cmpStop.sk = s.sk := by simp [State.cmpStop]
@[simp] theorem State.soAllOff_sk (s : State) : s.soAllOff.sk = s.sk := by simp [State.soAllOff]
@[simp] theorem State.holdsOff_sk (s : State) : s.holdsOff.sk = s.sk := by simp [State.holdsOff]

@[simp] theorem State.engage_sk (s : State) (h : ℕ) : (s.engage h).sk = s.sk := by
  dsimp only [State.engage]; (repeat' split) <;> simp

@[simp] theorem State.axoDrop_locked (s : State) : s.axoDrop.sk.locked = s.sk.locked := by
  unfold State.axoDrop; split <;> simp

@[simp] theorem State.enterSafeStop_locked (s : State) : s.enterSafeStop.sk.locked = s.sk.locked := by simp [State.enterSafeStop]
@[simp] theorem State.lockAll_sk (s : State) : s.lockAll.sk = s.sk := by simp [State.lockAll]
@[simp] theorem State.enterSafeHold_locked (s : State) : s.enterSafeHold.sk.locked = s.sk.locked := by simp [State.enterSafeHold]
@[simp] theorem State.stopDone_locked (s : State) : s.stopDone.sk.locked = s.sk.locked := by simp [State.stopDone]
@[simp] theorem State.resetAll_sk (s : State) : s.resetAll.sk = s.sk := by simp [State.resetAll]
@[simp] theorem State.enterTadpole_locked (s : State) : s.enterTadpole.sk.locked = s.sk.locked := by simp [State.enterTadpole]
@[simp] theorem State.enterChorus_locked (s : State) : s.enterChorus.sk.locked = s.sk.locked := by simp [State.enterChorus]
@[simp] theorem State.leaveChorus_locked (s : State) : s.leaveChorus.sk.locked = s.sk.locked := by simp [State.leaveChorus]
@[simp] theorem State.chorusCheck_locked (s : State) : s.chorusCheck.sk.locked = s.sk.locked := by simp [State.chorusCheck]
@[simp] theorem State.skinkOff_locked (s : State) : s.skinkOff.sk.locked = s.sk.locked := rfl
@[simp] theorem State.lanePowerOff_sk (s : State) (l : Lane) (mem : Bool) : (s.lanePowerOff l mem).sk = s.sk := by simp [State.lanePowerOff]

@[simp] theorem State.removeLane_locked (s : State) (l : Lane) (tested : Bool) : (s.removeLane l tested).sk.locked = s.sk.locked := by
  simp [State.removeLane]

@[simp] theorem State.enterSingle_locked (s : State) (l : DLane) (d : ℕ) (byFeed : Bool) (test : Option (ℕ × ℕ)) :
    (s.enterSingle l d byFeed test).sk.locked = s.sk.locked := by simp [State.enterSingle]

@[simp] theorem State.enterNoWitness_locked (s : State) : s.enterNoWitness.sk.locked = s.sk.locked := by simp [State.enterNoWitness]
@[simp] theorem State.enterCmpDegraded_locked (s : State) : s.enterCmpDegraded.sk.locked = s.sk.locked := by simp [State.enterCmpDegraded]

@[simp] theorem State.axoFail_locked (s : State) : s.axoFail.sk.locked = s.sk.locked := by
  unfold State.axoFail; split <;> simp

@[simp] theorem State.goDown_sk (s : State) (z : ℕ) : (s.goDown z).sk = s.sk := by simp [State.goDown]
@[simp] theorem State.enterPark_locked (s : State) : s.enterPark.sk.locked = s.sk.locked := by simp [State.enterPark]
@[simp] theorem State.enterHibernate_locked (s : State) : s.enterHibernate.sk.locked = s.sk.locked := by simp [State.enterHibernate]
@[simp] theorem State.lanesUp_locked (s : State) (ls : List ℕ) : (s.lanesUp ls).sk.locked = s.sk.locked := by simp [State.lanesUp]
@[simp] theorem State.wake_locked (s : State) (cause : ℕ) : (s.wake cause).sk.locked = s.sk.locked := by simp [State.wake]

/-! Faults -/

@[simp] theorem State.stopRes_sk (s : State) (c : Coll) (r : ℕ) : (s.stopRes c r).sk = s.sk := by
  dsimp only [State.stopRes]; (repeat' split) <;> simp

@[simp] theorem State.benchLaneOff_sk (s : State) (d : DLane) (code : ℕ) : (s.benchLaneOff d code).sk = s.sk := by simp [State.benchLaneOff]

@[simp] theorem State.stopUnit_locked (s : State) : s.stopUnit.sk.locked = s.sk.locked := by
  unfold State.stopUnit; split <;> simp

@[simp] theorem State.degrade_locked (s : State) (e : Event) : (s.degrade e).sk.locked = s.sk.locked := by
  unfold State.degrade; split <;> simp

@[simp] theorem State.react2_locked (s : State) (e : Event) : (s.react2 e).sk.locked = s.sk.locked := by
  dsimp only [State.react2]; (repeat' split) <;> simp

@[simp] theorem State.reactBench_locked (s : State) (e : Event) (cls : ℕ) : (s.reactBench e cls).sk.locked = s.sk.locked := by
  dsimp only [State.reactBench]; (repeat' split) <;> simp

theorem State.react_locked {s : State} (h : s.sk.locked = true) (e : Event) (cls : ℕ) : (s.react e cls).sk.locked = true := by
  unfold State.react
  split_ifs
  · exact h
  · rfl
  · rwa [State.reactBench_locked]
  · rwa [State.react2_locked]
  · rwa [State.stopUnit_locked]

@[simp] theorem State.queueLog_sk (s : State) (l : Lane) (it : LogItem) : (s.queueLog l it).sk = s.sk := by simp [State.queueLog]

@[simp] theorem State.logEvent_sk (s : State) (it : LogItem) : (s.logEvent it).sk = s.sk := by
  unfold State.logEvent; split <;> simp

@[simp] theorem State.release_sk (s : State) (c : Coll) (i : ℕ) : (s.release c i).sk = s.sk := by
  unfold State.release; split <;> simp -implicitDefEqProofs

@[simp] theorem State.note_sk (s : State) (e : Event) (it : LogItem) : (s.note e it).sk = s.sk := by simp [State.note]

theorem State.enterFresh_locked {s : State} (h : s.sk.locked = true) (e : Event) (cfg c : ℕ) (removed : Bool) :
    (s.enterFresh e cfg c removed).sk.locked = true := by
  unfold State.enterFresh
  split
  · simpa using h
  · simp only [State.logEvent_sk]
    refine State.react_locked ?_ _ _
    simpa using h

theorem State.repeatOf_locked {s : State} (h : s.sk.locked = true) (e : Event) (c : ℕ) : (s.repeatOf e c).sk.locked = true :=
  State.react_locked (by simpa using h) _ _

theorem State.enter_locked {s : State} (h : s.sk.locked = true) (e : Event) : (s.enter e).sk.locked = true := by
  unfold State.enter
  dsimp only
  split_ifs
  · simpa using State.enterFresh_locked h e _ 0 true
  · exact State.enterFresh_locked h e _ 0 true
  · exact State.repeatOf_locked h e _
  · exact State.enterFresh_locked h e _ _ false

theorem execFaultEventEntry_locked {s : State} (h : s.sk.locked = true) : (nextOr s (execFaultEventEntry s)).sk.locked = true := by
  unfold execFaultEventEntry
  split
  · simpa using h
  · simpa using State.enter_locked (by simpa using h) _

@[simp] theorem State.freeBytes_sk (s : State) (l a n : ℕ) : (s.freeBytes l a n).sk = s.sk := by
  induction n generalizing s l a with
  | zero => rfl
  | succ n ih => simp -implicitDefEqProofs [State.freeBytes, ih]

@[simp] theorem State.logStep_sk (s : State) (l : Lane) (i : ℕ) (valid : Bool) : (s.logStep l i valid).sk = s.sk := by simp [State.logStep]

@[simp] theorem execLogWrite_sk (l : Lane) (ok : Bool) (s : State) : (nextOr s (execLogWrite l ok s)).sk = s.sk := by
  dsimp only [execLogWrite]; split <;> simp

@[simp] theorem execLogScanDone_sk (l : Lane) (s : State) : (nextOr s (execLogScanDone l s)).sk = s.sk := by simp [execLogScanDone]
@[simp] theorem State.ackLane_sk (s : State) (l : Lane) (i : ℕ) : (s.ackLane l i).sk = s.sk := by simp [State.ackLane]

@[simp] theorem execFcPendAck_sk (l : Lane) (i : Fin 16) (v : Word) (s : State) : (nextOr s (execFcPendAck l i v s)).sk = s.sk := by
  simp [execFcPendAck]

@[simp] theorem execFcForceWrite_sk (l : Lane) (i : Fin 16) (v : Word) (s : State) : (nextOr s (execFcForceWrite l i v s)).sk = s.sk := by
  simp [execFcForceWrite]

@[simp] theorem execFcClassWrite_sk (l : Lane) (i : Fin 64) (v : Word) (s : State) : (nextOr s (execFcClassWrite l i v s)).sk = s.sk := by
  simp [execFcClassWrite]

@[simp] theorem execFcLogclr_sk (l : Lane) (v : Word) (s : State) : (nextOr s (execFcLogclr l v s)).sk = s.sk := by simp [execFcLogclr]

@[simp] theorem State.skfcAct_sk (s : State) (force : Bool) (v : ℕ) : (s.skfcAct force v).sk = s.sk := by
  dsimp only [State.skfcAct]; (repeat' split) <;> simp

@[simp] theorem State.skfcWrite_sk (s : State) (l : Lane) (force : Bool) (v : ℕ) : (s.skfcWrite l force v).sk = s.sk := by simp [State.skfcWrite]
@[simp] theorem execSkfcAck_sk (l : Lane) (v : Word) (s : State) : (nextOr s (execSkfcAck l v s)).sk = s.sk := by simp [execSkfcAck]
@[simp] theorem execSkfcForce_sk (l : Lane) (v : Word) (s : State) : (nextOr s (execSkfcForce l v s)).sk = s.sk := by simp [execSkfcForce]

@[simp] theorem execSkfcAgreeTimeout_sk (s : State) : (nextOr s (execSkfcAgreeTimeout s)).sk = s.sk := by
  cases h : s.tab.waits <;> simp [execSkfcAgreeTimeout, h]

@[simp] theorem execCollectorCheckFail_sk (c : Coll) (s : State) : (nextOr s (execCollectorCheckFail c s)).sk = s.sk := by
  unfold execCollectorCheckFail; split <;> simp

/-! Cells -/

@[simp] theorem execCellShort_sk (l : DLane) (c : Fin 24) (hs : Bool) (s : State) : (nextOr s (execCellShort l c hs s)).sk = s.sk := by
  simp [execCellShort]

@[simp] theorem execPcGateStuck_sk (l : DLane) (c : Fin 24) (hs : Bool) (s : State) : (nextOr s (execPcGateStuck l c hs s)).sk = s.sk := by
  simp [execPcGateStuck]

@[simp] theorem execPcVgdUvlo_sk (l : DLane) (s : State) : (nextOr s (execPcVgdUvlo l s)).sk = s.sk := by simp [execPcVgdUvlo]

@[simp] theorem execCellUvlo_sk (l : DLane) (c : Fin 24) (hs : Bool) (s : State) : (nextOr s (execCellUvlo l c hs s)).sk = s.sk := by
  simp [execCellUvlo]

@[simp] theorem execUvloRecover_sk (l : DLane) (sw : Option (Fin 24 × Bool)) (s : State) : (nextOr s (execUvloRecover l sw s)).sk = s.sk := by
  unfold execUvloRecover; split <;> simp

@[simp] theorem execPcCpLimit_sk (l : DLane) (s : State) : (nextOr s (execPcCpLimit l s)).sk = s.sk := by simp [execPcCpLimit]

@[simp] theorem execEdgeMeasure_sk (l : DLane) (c : Fin 24) (hs : Bool) (ns : ℕ) (s : State) : (nextOr s (execEdgeMeasure l c hs ns s)).sk = s.sk := by
  simp [execEdgeMeasure]

@[simp] theorem State.cellBeacon_sk (s : State) (l : DLane) (c : ℕ) : (s.cellBeacon l c).sk = s.sk := by simp [State.cellBeacon]
@[simp] theorem execPcAdaptLimit_sk (l : DLane) (c : Fin 24) (s : State) : (nextOr s (execPcAdaptLimit l c s)).sk = s.sk := by simp [execPcAdaptLimit]

@[simp] theorem execPcCfgWrite_sk (l : DLane) (ofs : BitVec 12) (v : Word) (s : State) : (nextOr s (execPcCfgWrite l ofs v s)).sk = s.sk := by
  simp [execPcCfgWrite]

/-! Alignment -/

@[simp] theorem State.setAlign_sk (s : State) (l : DLane) (n a : ℕ) : (s.setAlign l n a).sk = s.sk := by simp [State.setAlign]
@[simp] theorem State.sampleSpeed_sk (s : State) (l : DLane) (n : ℕ) : (s.sampleSpeed l n).sk = s.sk := by simp [State.sampleSpeed]

@[simp] theorem State.sampleAngle_sk (s : State) (l : DLane) (n : ℕ) (t : ℤ) (p : Option (ℤ × ℕ)) : (s.sampleAngle l n t p).sk = s.sk := by
  simp [State.sampleAngle]

@[simp] theorem State.hallCheck_sk (s : State) (l : DLane) (n : ℕ) (th edge : ℤ) : (s.hallCheck l n th edge).sk = s.sk := by simp [State.hallCheck]

@[simp] theorem State.axisHall_sk (s : State) (l : DLane) (n : ℕ) (old : Option ℕ) (code : ℕ) (t : ℤ) : (s.axisHall l n old code t).sk = s.sk := by
  dsimp only [State.axisHall]; (repeat' split) <;> simp

@[simp] theorem State.axisRead_sk (s : State) (l : DLane) (n : ℕ) (valid : Bool) : (s.axisRead l n valid).sk = s.sk := by simp [State.axisRead]
@[simp] theorem State.axisSsi_sk (s : State) (l : DLane) (n : ℕ) (p : Option ℤ) (ns : ℕ) : (s.axisSsi l n p ns).sk = s.sk := by simp [State.axisSsi]

/-! Safe inputs, outputs, data and requests -/

@[simp] theorem execSiLevelAccept_locked (i : Fin 16) (contactB closed : Bool) (s : State) :
    (nextOr s (execSiLevelAccept i contactB closed s)).sk.locked = s.sk.locked := by simp [execSiLevelAccept]

@[simp] theorem execSiDiscrepancy_sk (i : Fin 16) (s : State) : (nextOr s (execSiDiscrepancy i s)).sk = s.sk := by
  dsimp only [execSiDiscrepancy]; split <;> simp

@[simp] theorem execSiViewDiff_sk (l : Lane) (i : Fin 16) (s : State) : (nextOr s (execSiViewDiff l i s)).sk = s.sk := by
  dsimp only [execSiViewDiff]; split <;> simp

@[simp] theorem State.setSo_sk (s : State) (i : ℕ) (x : SafeOut) : (s.setSo i x).sk = s.sk := by simp [State.setSo]
@[simp] theorem State.soApply_sk (s : State) (i : ℕ) (on : Bool) : (s.soApply i on).sk = s.sk := by simp [State.soApply]
@[simp] theorem State.soFail_sk (s : State) (i : ℕ) : (s.soFail i).sk = s.sk := by simp [State.soFail]

@[simp] theorem State.soRb_sk (s : State) (i : ℕ) (rb : Readback) : (s.soRb i rb).sk = s.sk := by
  unfold State.soRb; split <;> simp

@[simp] theorem execSoOffpulseStart_sk (i : Fin 16) (s : State) : (nextOr s (execSoOffpulseStart i s)).sk = s.sk := by simp [execSoOffpulseStart]

@[simp] theorem execSoOffpulseEnd_sk (i : Fin 16) (rb : Readback) (s : State) : (nextOr s (execSoOffpulseEnd i rb s)).sk = s.sk := by
  simp [execSoOffpulseEnd]

@[simp] theorem execSoReadbackCheck_sk (i : Fin 16) (rb : Readback) (s : State) : (nextOr s (execSoReadbackCheck i rb s)).sk = s.sk := by
  simp [execSoReadbackCheck]

@[simp] theorem execRampPeriod_locked (s : State) : (nextOr s (execRampPeriod s)).sk.locked = s.sk.locked := by simp [execRampPeriod]
@[simp] theorem execHoldRelease_sk (s : State) : (nextOr s (execHoldRelease s)).sk = s.sk := by simp [execHoldRelease]
@[simp] theorem execSsTimeout_locked (s : State) : (nextOr s (execSsTimeout s)).sk.locked = s.sk.locked := by simp [execSsTimeout]

@[simp] theorem execStandstillReached_locked (s : State) : (nextOr s (execStandstillReached s)).sk.locked = s.sk.locked := by
  simp [execStandstillReached]

@[simp] theorem execSpeedCapExceeded_locked (l : DLane) (n : Fin 6) (s : State) : (nextOr s (execSpeedCapExceeded l n s)).sk.locked = s.sk.locked :=
  by
  dsimp only [execSpeedCapExceeded]; split <;> simp

@[simp] theorem State.soReq_sk (s : State) (r : OutRec) : (s.soReq r).sk = s.sk := by simp [State.soReq]
@[simp] theorem State.stateReq_locked (s : State) (r : OutRec) : (s.stateReq r).sk.locked = s.sk.locked := by simp [State.stateReq]
@[simp] theorem State.reqDone_locked (s : State) : s.reqDone.sk.locked = s.sk.locked := by simp [State.reqDone]
@[simp] theorem execStateReqPark_locked (s : State) : (nextOr s (execStateReqPark s)).sk.locked = s.sk.locked := by simp [execStateReqPark]

@[simp] theorem execStateReqHibernate_locked (s : State) : (nextOr s (execStateReqHibernate s)).sk.locked = s.sk.locked := by
  simp [execStateReqHibernate]

@[simp] theorem execStateReqAxolotl_locked (s : State) : (nextOr s (execStateReqAxolotl s)).sk.locked = s.sk.locked := by
  unfold execStateReqAxolotl; split <;> simp

@[simp] theorem execStateReqRestart_locked (s : State) : (nextOr s (execStateReqRestart s)).sk.locked = s.sk.locked := by simp [execStateReqRestart]
@[simp] theorem execStateReqStop_locked (s : State) : (nextOr s (execStateReqStop s)).sk.locked = s.sk.locked := by simp [execStateReqStop]
@[simp] theorem State.setSde_sk (s : State) (j : ℕ) (x : SafeData) : (s.setSde j x).sk = s.sk := by simp [State.setSde]
@[simp] theorem State.sdConfirm_sk (s : State) (j q net : ℕ) (single : Bool) : (s.sdConfirm j q net single).sk = s.sk := by simp [State.sdConfirm]

@[simp] theorem State.sdCopy_sk (s : State) (j net q len : ℕ) (crc : Word) : (s.sdCopy j net q len crc).sk = s.sk := by
  dsimp only [State.sdCopy]; (repeat' split) <;> simp -implicitDefEqProofs

@[simp] theorem execSdCopyRx_sk (net : Fin 2) (slot : BitVec 10) (sender : BitVec 8) (seq : BitVec 16) (len : ℕ) (crc : Word) (s : State) :
    (nextOr s (execSdCopyRx net slot sender seq len crc s)).sk = s.sk := by simp [execSdCopyRx]

@[simp] theorem execSdSingle_sk (j : Fin 16) (s : State) : (nextOr s (execSdSingle j s)).sk = s.sk := by
  dsimp only [execSdSingle]; split <;> simp

@[simp] theorem execSdTimeout_sk (j : Fin 16) (s : State) : (nextOr s (execSdTimeout j s)).sk = s.sk := by simp [execSdTimeout]
@[simp] theorem execCmdPathLost_sk (s : State) : (nextOr s (execCmdPathLost s)).sk = s.sk := by simp [execCmdPathLost]
@[simp] theorem State.setHold_sk (s : State) (h : ℕ) (x : HoldReg) : (s.setHold h x).sk = s.sk := by simp [State.setHold]
@[simp] theorem State.holdCells_sk (s : State) (h : ℕ) : (s.holdCells h).sk = s.sk := by simp [State.holdCells]
@[simp] theorem State.holdMove_sk (s : State) (h : ℕ) : (s.holdMove h).sk = s.sk := by simp [State.holdMove]
@[simp] theorem State.holdTripEnd_sk (s : State) (l : DLane) (m : ℕ) : (s.holdTripEnd l m).sk = s.sk := by simp [State.holdTripEnd]
@[simp] theorem State.holdPeriod_sk (s : State) (h : ℕ) : (s.holdPeriod h).sk = s.sk := by simp [State.holdPeriod]
@[simp] theorem execHoldRegPeriod_sk (s : State) : (nextOr s (execHoldRegPeriod s)).sk = s.sk := by simp [execHoldRegPeriod]

@[simp] theorem execHoldHallChange_sk (h : Fin 2) (code : Fin 8) (s : State) : (nextOr s (execHoldHallChange h code s)).sk = s.sk := by
  dsimp only [execHoldHallChange]; (repeat' split) <;> simp

/-! Comparison and checkpoints -/

@[simp] theorem State.setCmp_sk (s : State) (c : Comparator) : (s.setCmp c).sk = s.sk := by simp [State.setCmp]
@[simp] theorem State.keyNext_sk (s : State) (l : DLane) (r : OutRec) : (s.keyNext l r).sk = s.sk := by simp [State.keyNext]
@[simp] theorem State.holdOutput_sk (s : State) (r : OutRec) : (s.holdOutput r).sk = s.sk := by simp [State.holdOutput]
@[simp] theorem State.unholdOutput_sk (s : State) (r : OutRec) : (s.unholdOutput r).sk = s.sk := by simp [State.unholdOutput]
@[simp] theorem State.shareReq_locked (s : State) (r : OutRec) : (s.shareReq r).sk.locked = s.sk.locked := by simp [State.shareReq]
@[simp] theorem State.recordActs_locked (s : State) (r : OutRec) : (s.recordActs r).sk.locked = s.sk.locked := by simp [State.recordActs]
@[simp] theorem State.noteMis_sk (s : State) (kind index tag dec : ℕ) : (s.noteMis kind index tag dec).sk = s.sk := by simp [State.noteMis]
@[simp] theorem State.freezeVotes_sk (s : State) : s.freezeVotes.sk = s.sk := by simp [State.freezeVotes]

@[simp] theorem State.decideAgainst_locked (s : State) (src : ℕ) (d : DLane) (dis : Bool) (x : Decision) :
    (s.decideAgainst src d dis x).sk.locked = s.sk.locked := by simp [State.decideAgainst]

@[simp] theorem State.undecided_sk (s : State) (x : Decision) : (s.undecided x).sk = s.sk := by simp [State.undecided]

@[simp] theorem State.voteFrames_sk (s : State) (x : Decision) (ok : Bool) : (s.voteFrames x ok).sk = s.sk := by
  dsimp only [State.voteFrames]; (repeat' split) <;> simp

@[simp] theorem State.decideVote_locked (s : State) (x : Decision) (w : Option OutRec) : (s.decideVote x w).sk.locked = s.sk.locked := by
  have hout (t : State) (r : Option OutRec) : ((r.map t.holdOutput).getD t).sk = t.sk := by cases r <;> simp
  unfold State.decideVote
  dsimp only
  split <;> simp [hout]

@[simp] theorem State.askVote_locked (s : State) (x : Decision) (final : Bool) : (s.askVote x final).sk.locked = s.sk.locked := by
  simp [State.askVote]

@[simp] theorem State.detect_locked (s : State) (x : Decision) (r : OutRec) (final : Bool) : (s.detect x r final).sk.locked = s.sk.locked := by
  simp [State.detect]

@[simp] theorem State.injectTest_sk (s : State) (a b : OutRec) (xFault yFault : Bool) : (s.injectTest a b xFault yFault).sk = s.sk := by
  unfold State.injectTest; split <;> simp

@[simp] theorem execCmpInjNoRecord_sk (s : State) : (nextOr s (execCmpInjNoRecord s)).sk = s.sk := by
  cases h : s.cmp.inj <;> simp [execCmpInjNoRecord, h]

@[simp] theorem execCmpDlyFault_sk (s : State) : (nextOr s (execCmpDlyFault s)).sk = s.sk := by simp [execCmpDlyFault]

@[simp] theorem State.comparePair_locked (s : State) (n at_ : ℕ) (a b : BusRec) (xFault yFault : Bool) :
    (s.comparePair n at_ a b xFault yFault).sk.locked = s.sk.locked := by simp [State.comparePair]

@[simp] theorem State.cmpArrive_locked (s : State) (l : DLane) (b : BusRec) (xFault yFault : Bool) :
    (s.cmpArrive l b xFault yFault).sk.locked = s.sk.locked := by
  dsimp only [State.cmpArrive]
  split
  · simp
  split
  · simp
  split <;> simp

@[simp] theorem State.looseArrive_locked (s : State) (l : DLane) (r : OutRec) : (s.looseArrive l r).sk.locked = s.sk.locked := by
  simp [State.looseArrive]

@[simp] theorem execCmpRecordArrive_locked (l : DLane) (xFault yFault : Bool) (s : State) :
    (nextOr s (execCmpRecordArrive l xFault yFault s)).sk.locked = s.sk.locked := by
  dsimp only [execCmpRecordArrive]; (repeat' split) <;> simp

@[simp] theorem execCmpWindowClose_locked (tag : BitVec 16) (kind index : ℕ) (xFault yFault : Bool) (s : State) :
    (nextOr s (execCmpWindowClose tag kind index xFault yFault s)).sk.locked = s.sk.locked := by
  dsimp only [execCmpWindowClose]; (repeat' split) <;> simp

@[simp] theorem execVoteRecordStore_locked (s : State) : (nextOr s (execVoteRecordStore s)).sk.locked = s.sk.locked := by
  dsimp only [execVoteRecordStore]; (repeat' split) <;> simp

@[simp] theorem execTargetedTestDone_locked (l : DLane) (failed : List (Fin 72)) (s : State) :
    (nextOr s (execTargetedTestDone l failed s)).sk.locked = s.sk.locked := by
  unfold execTargetedTestDone; split <;> simp

@[simp] theorem execCkptGo_sk (l : Lane) (v : Word) (s : State) : (nextOr s (execCkptGo l v s)).sk = s.sk := by simp [execCkptGo]

@[simp] theorem execCkptXfer_sk (l : Lane) (v : Word) (s : State) : (nextOr s (execCkptXfer l v s)).sk = s.sk := by
  dsimp only [execCkptXfer]; (repeat' split) <;> simp

@[simp] theorem State.copyRegion_sk (s : State) (a b : Lane) : (s.copyRegion a b).sk = s.sk := by simp [State.copyRegion]
@[simp] theorem State.showSigs_sk (s : State) (k : CkptOpen) : (s.showSigs k).sk = s.sk := by simp [State.showSigs]

@[simp] theorem State.revote_locked (s : State) (k : CkptOpen) : (s.revote k).sk.locked = s.sk.locked := by
  dsimp only [State.revote]; (repeat' split) <;> simp

@[simp] theorem State.sigOutcome_sk (s : State) (k : CkptOpen) : (s.sigOutcome k).sk = s.sk := by
  dsimp only [State.sigOutcome]; split <;> simp

@[simp] theorem State.sigCompare_locked (s : State) (k : CkptOpen) (due : Bool) : (s.sigCompare k due).sk.locked = s.sk.locked := by
  simp [State.sigCompare]

@[simp] theorem State.transferJudge_locked (s : State) : s.transferJudge.sk.locked = s.sk.locked := by
  dsimp only [State.transferJudge]; (repeat' split) <;> simp

@[simp] theorem State.sigArrive_locked (s : State) (l : Lane) (tag : ℕ) (sig : Word) : (s.sigArrive l tag sig).sk.locked = s.sk.locked := by
  unfold State.sigArrive; split <;> simp

@[simp] theorem execCkptSignaturePost_locked (l : Lane) (s : State) : (nextOr s (execCkptSignaturePost l s)).sk.locked = s.sk.locked := by
  dsimp only [execCkptSignaturePost]; (repeat' split) <;> simp

@[simp] theorem execCkptDeadline_locked (s : State) : (nextOr s (execCkptDeadline s)).sk.locked = s.sk.locked := by
  unfold execCkptDeadline; split <;> simp

@[simp] theorem execVerdictWrite_sk (l : Lane) (v : Word) (s : State) : (nextOr s (execVerdictWrite l v s)).sk = s.sk := by
  dsimp only [execVerdictWrite]; (repeat' split) <;> simp

@[simp] theorem execCkptEnWrite_sk (l : Lane) (v : Word) (s : State) : (nextOr s (execCkptEnWrite l v s)).sk = s.sk := by simp [execCkptEnWrite]

@[simp] theorem execAxolotlTimeout_locked (s : State) : (nextOr s (execAxolotlTimeout s)).sk.locked = s.sk.locked := by
  unfold execAxolotlTimeout; split <;> simp

@[simp] theorem execXfermaxExpiry_locked (s : State) : (nextOr s (execXfermaxExpiry s)).sk.locked = s.sk.locked := by
  unfold execXfermaxExpiry; split <;> simp

@[simp] theorem execDebugHalt_sk (l : Lane) (s : State) : (nextOr s (execDebugHalt l s)).sk = s.sk := by simp [execDebugHalt]
@[simp] theorem execDebugActivate_sk (l : Lane) (s : State) : (nextOr s (execDebugActivate l s)).sk = s.sk := by simp [execDebugActivate]

end Sys2Proof.Machine
end

section
/-! SUPPORT. What feedback, axes and live calibration leave of Skink. -/

namespace Sys2Proof.Machine

open Sys2Proof

/-! Feedback -/

@[simp] theorem State.doubt_sk (s : State) (b : ℕ) : (s.doubt b).sk = s.sk := by simp [State.doubt]

@[simp] theorem State.cmpFire_sk (s : State) (l : DLane) (u j : ℕ) (p q : ℤ) (n : ℕ) : (s.cmpFire l u j p q n).sk = s.sk := by
  induction n generalizing s l u j p q with
  | zero => rfl
  | succ n ih => simp -implicitDefEqProofs [State.cmpFire, ih]

@[simp] theorem State.cmpMove_sk (s : State) (l : DLane) (u : ℕ) (p q : ℤ) : (s.cmpMove l u p q).sk = s.sk := by simp [State.cmpMove]
@[simp] theorem State.moveTo_sk (s : State) (l : DLane) (u : ℕ) (t : ℤ) : (s.moveTo l u t).sk = s.sk := by simp [State.moveTo]
@[simp] theorem State.addTravel_sk (s : State) (l : DLane) (u n : ℕ) : (s.addTravel l u n).sk = s.sk := by simp [State.addTravel]

@[simp] theorem execQuadEdge_sk (l : DLane) (n : Fin 6) (both up : Bool) (clock : ℕ) (s : State) :
    (nextOr s (execQuadEdge l n both up clock s)).sk = s.sk := by simp [execQuadEdge]

@[simp] theorem execIndexPulse_sk (l : DLane) (n : Fin 6) (ba : Fin 4) (rested : Bool) (s : State) :
    (nextOr s (execIndexPulse l n ba rested s)).sk = s.sk := by simp [execIndexPulse]

@[simp] theorem execFbIndexMissing_sk (l : DLane) (n : Fin 6) (s : State) : (nextOr s (execFbIndexMissing l n s)).sk = s.sk := by
  simp [execFbIndexMissing]

@[simp] theorem State.hallTo_sk (s : State) (l : DLane) (n code : ℕ) : (s.hallTo l n code).sk = s.sk := by
  dsimp only [State.hallTo]; (repeat' split) <;> simp

@[simp] theorem execHallChange_sk (l : DLane) (n : Fin 6) (code : Fin 8) (s : State) : (nextOr s (execHallChange l n code s)).sk = s.sk := by
  simp [execHallChange]

@[simp] theorem State.fbSpeed_sk (s : State) (l : DLane) (n : ℕ) : (s.fbSpeed l n).sk = s.sk := by
  dsimp only [State.fbSpeed]; split <;> simp

@[simp] theorem execFbSamplePoint_sk (l : DLane) (n : Fin 6) (atBeacon : Bool) (clock : ℕ) (s : State) :
    (nextOr s (execFbSamplePoint l n atBeacon clock s)).sk = s.sk := by simp [execFbSamplePoint]

@[simp] theorem State.serBad_sk (s : State) (l : DLane) (n : ℕ) (jump : Bool) : (s.serBad l n jump).sk = s.sk := by simp [State.serBad]
@[simp] theorem State.serValue_sk (s : State) (l : DLane) (n v w : ℕ) (init : Bool) : (s.serValue l n v w init).sk = s.sk := by simp [State.serValue]

@[simp] theorem State.ssiSample_sk (s : State) (l : DLane) (n : ℕ) (old : FbSt) (posq : ℕ) : (s.ssiSample l n old posq).sk = s.sk := by
  dsimp only [State.ssiSample]; split <;> simp

@[simp] theorem execSsiReadDone_sk (l : DLane) (n : Fin 6) (lineOk : Bool) (data : Word) (status : BitVec 4) (s : State) :
    (nextOr s (execSsiReadDone l n lineOk data status s)).sk = s.sk := by simp [execSsiReadDone]

@[simp] theorem execSentFrame_sk (l : DLane) (n : Fin 6) (f : SentIn) (clock : ℕ) (s : State) : (nextOr s (execSentFrame l n f clock s)).sk = s.sk :=
  by
  dsimp only [execSentFrame]; (repeat' split) <;> simp -implicitDefEqProofs

@[simp] theorem execFbSerialLost_sk (l : DLane) (n : Fin 6) (s : State) : (nextOr s (execFbSerialLost l n s)).sk = s.sk := by simp [execFbSerialLost]
@[simp] theorem execHomeWrite_sk (l : DLane) (n : Fin 6) (s : State) : (nextOr s (execHomeWrite l n s)).sk = s.sk := by simp [execHomeWrite]

@[simp] theorem execHomecancelWrite_sk (l : DLane) (n : Fin 6) (s : State) : (nextOr s (execHomecancelWrite l n s)).sk = s.sk := by
  simp [execHomecancelWrite]

@[simp] theorem State.disarmAll_sk (s : State) (l : DLane) (u : ℕ) : (s.disarmAll l u).sk = s.sk := by simp [State.disarmAll]

@[simp] theorem execHomeComplete_sk (l : DLane) (n : Fin 6) (s : State) : (nextOr s (execHomeComplete l n s)).sk = s.sk := by
  simp -implicitDefEqProofs [execHomeComplete]

@[simp] theorem execHomeDrop_sk (l : DLane) (n : Fin 6) (s : State) : (nextOr s (execHomeDrop l n s)).sk = s.sk := by simp [execHomeDrop]

@[simp] theorem execCompareArm_sk (l : DLane) (n : Fin 6) (j : Fin 8) (v : Word) (s : State) : (nextOr s (execCompareArm l n j v s)).sk = s.sk := by
  simp [execCompareArm]

@[simp] theorem execPosLRead_sk (l : Lane) (n : Fin 12) (s : State) : (nextOr s (execPosLRead l n s)).sk = s.sk := by
  dsimp only [execPosLRead]; (repeat' split) <;> simp

/-! Compare events -/

@[simp] theorem State.axGate_sk (s : State) (l : DLane) (n ph : ℕ) : (s.axGate l n ph).sk = s.sk := by simp [State.axGate]
@[simp] theorem State.axGates_sk (s : State) (l : DLane) (n : ℕ) : (s.axGates l n).sk = s.sk := by simp [State.axGates]
@[simp] theorem State.axTurn_sk (s : State) (l : DLane) (n : ℕ) (rising : Bool) (c : ℕ) : (s.axTurn l n rising c).sk = s.sk := by simp [State.axTurn]
@[simp] theorem State.putCmp_sk (s : State) (l : DLane) (n : ℕ) (v : List ℕ) : (s.putCmp l n v).sk = s.sk := by simp [State.putCmp]
@[simp] theorem State.axSnap_sk (s : State) (l : DLane) (n : ℕ) : (s.axSnap l n).sk = s.sk := by simp [State.axSnap]

@[simp] theorem State.axCompare_sk (s : State) (l : DLane) (n ph : ℕ) (rising : Bool) (c : ℕ) (forming : Bool) :
    (s.axCompare l n ph rising c forming).sk = s.sk := by simp [State.axCompare]

@[simp] theorem State.ppGate_sk (s : State) (l : DLane) (p i : ℕ) : (s.ppGate l p i).sk = s.sk := by simp [State.ppGate]
@[simp] theorem State.ppGates_sk (s : State) (l : DLane) (p : ℕ) : (s.ppGates l p).sk = s.sk := by simp [State.ppGates]
@[simp] theorem State.ppForm_sk (s : State) (l : DLane) (p : ℕ) : (s.ppForm l p).sk = s.sk := by simp [State.ppForm]
@[simp] theorem State.ppTurn_sk (s : State) (l : DLane) (p : ℕ) (rising : Bool) (c : ℕ) : (s.ppTurn l p rising c).sk = s.sk := by simp [State.ppTurn]

@[simp] theorem State.ppCompare_sk (s : State) (l : DLane) (p ph : ℕ) (rising : Bool) (c : ℕ) (forming : Bool) :
    (s.ppCompare l p ph rising c forming).sk = s.sk := by simp [State.ppCompare]

@[simp] theorem execPwmCompareEvent_sk (l : DLane) (n : Fin 8) (ph : Fin 3) (rising : Bool) (c : ℕ) (forming : Bool) (s : State) :
    (nextOr s (execPwmCompareEvent l n ph rising c forming s)).sk = s.sk := by simp [execPwmCompareEvent]

/-! Axes -/

@[simp] theorem State.putVolts_sk (s : State) (l : DLane) (n : ℕ) (vd vq : ℤ) : (s.putVolts l n vd vq).sk = s.sk := by simp [State.putVolts]
@[simp] theorem State.evalPi_sk (s : State) (l : DLane) (n : ℕ) (r : OutRec) (upd : Bool) : (s.evalPi l n r upd).sk = s.sk := by simp [State.evalPi]

@[simp] theorem State.actRec_sk (s : State) (l : DLane) (n : ℕ) (r : OutRec) (upd : Bool) : (s.actRec l n r upd).sk = s.sk := by
  dsimp only [State.actRec]; split <;> simp

@[simp] theorem State.axStale_sk (s : State) (l : DLane) (n : ℕ) : (s.axStale l n).sk = s.sk := by simp [State.axStale]
@[simp] theorem State.takeRec_sk (s : State) (l : DLane) (n : ℕ) (r : OutRec) : (s.takeRec l n r).sk = s.sk := by simp [State.takeRec]

@[simp] theorem State.takeKept_sk (s : State) (l : DLane) (n : ℕ) : (s.takeKept l n).sk = s.sk := by
  unfold State.takeKept; split <;> simp

@[simp] theorem State.axKept_sk (s : State) (l : DLane) (n : ℕ) : (s.axKept l n).sk = s.sk := by
  unfold State.axKept; split <;> simp

@[simp] theorem execAxisRecordApply_sk (l : DLane) (n : Fin 6) (s : State) : (nextOr s (execAxisRecordApply l n s)).sk = s.sk := by
  dsimp only [execAxisRecordApply]; (repeat' split) <;> simp -implicitDefEqProofs

@[simp] theorem State.calUpdate_sk (s : State) (l : DLane) (n : ℕ) (atB : Bool) : (s.calUpdate l n atB).sk = s.sk := by
  dsimp only [State.calUpdate]; (repeat' split) <;> simp

@[simp] theorem State.sense_sk (s : State) (l : DLane) (n : ℕ) (rs : List ℤ) (vbus : ℕ) : (s.sense l n rs vbus).sk = s.sk := by simp [State.sense]

@[simp] theorem execDriveUpdate_sk (l : DLane) (n : Fin 6) (centre : Bool) (ru rv rw : ℤ) (vbus : ℕ × ℕ) (s : State) :
    (nextOr s (execDriveUpdate l n centre ru rv rw vbus s)).sk = s.sk := by
  dsimp only [execDriveUpdate]
  split
  · simp
  · rw [nextOr_next, State.trig_sk]
    split <;> simp -implicitDefEqProofs

@[simp] theorem execPeakTrip_sk (l : DLane) (n : Fin 6) (ph : Fin 3) (rising : Bool) (c uv : ℕ) (s : State) :
    (nextOr s (execPeakTrip l n ph rising c uv s)).sk = s.sk := by simp [execPeakTrip]

@[simp] theorem execAxOvercurrent_sk (l : DLane) (n : Fin 6) (s : State) : (nextOr s (execAxOvercurrent l n s)).sk = s.sk := by
  simp [execAxOvercurrent]

@[simp] theorem execAxSatLong_sk (l : DLane) (n : Fin 6) (s : State) : (nextOr s (execAxSatLong l n s)).sk = s.sk := by simp [execAxSatLong]
@[simp] theorem execAxSenseRange_sk (l : DLane) (n : Fin 6) (s : State) : (nextOr s (execAxSenseRange l n s)).sk = s.sk := by simp [execAxSenseRange]
@[simp] theorem execAxRecTimeout_sk (l : DLane) (n : Fin 6) (s : State) : (nextOr s (execAxRecTimeout l n s)).sk = s.sk := by simp [execAxRecTimeout]
@[simp] theorem State.calBegin_sk (s : State) (l : DLane) (n : ℕ) : (s.calBegin l n).sk = s.sk := by simp [State.calBegin]
@[simp] theorem State.calEnd_sk (s : State) (l : DLane) (n : ℕ) : (s.calEnd l n).sk = s.sk := by simp [State.calEnd]

@[simp] theorem State.alignKeep_sk (s : State) (l : DLane) (n : ℕ) : (s.alignKeep l n).sk = s.sk := by
  dsimp only [State.alignKeep]; split <;> simp

@[simp] theorem State.alignStart_sk (s : State) (l : DLane) (n : ℕ) : (s.alignStart l n).sk = s.sk := by simp [State.alignStart]
@[simp] theorem State.axDisable_sk (s : State) (l : DLane) (n : ℕ) : (s.axDisable l n).sk = s.sk := by simp [State.axDisable]

@[simp] theorem execAxEnWrite_sk (l : DLane) (n : Fin 6) (v : Word) (s : State) : (nextOr s (execAxEnWrite l n v s)).sk = s.sk := by
  simp [execAxEnWrite]

/-! Calibration -/

@[simp] theorem State.refFail_sk (s : State) (l : DLane) (n m : ℕ) : (s.refFail l n m).sk = s.sk := by simp [State.refFail]
@[simp] theorem State.putRef_sk (s : State) (l : DLane) (n m : ℕ) (w : Word) : (s.putRef l n m w).sk = s.sk := by simp [State.putRef]

@[simp] theorem execCalStartDone_sk (l : DLane) (n : Fin 6) (zero ref : List (List ℤ)) (s : State) :
    (nextOr s (execCalStartDone l n zero ref s)).sk = s.sk := by simp -implicitDefEqProofs [execCalStartDone]

@[simp] theorem State.calDrift_sk (s : State) (l : DLane) (n m : ℕ) (w : Word) : (s.calDrift l n m w).sk = s.sk := by
  dsimp only [State.calDrift]; split <;> simp

@[simp] theorem execCalRefDone_sk (l : DLane) (n : Fin 6) (zero ref : List ℤ) (s : State) : (nextOr s (execCalRefDone l n zero ref s)).sk = s.sk := by
  simp [execCalRefDone]

@[simp] theorem State.calCancel_sk (s : State) (l : DLane) (n why : ℕ) : (s.calCancel l n why).sk = s.sk := by simp [State.calCancel]
@[simp] theorem execCalConnect_sk (l : DLane) (n : Fin 6) (s : State) : (nextOr s (execCalConnect l n s)).sk = s.sk := by simp [execCalConnect]

@[simp] theorem execCalOverlapDone_sk (l : DLane) (n : Fin 6) (rl ru : List ℤ) (s : State) : (nextOr s (execCalOverlapDone l n rl ru s)).sk = s.sk := by
  simp [execCalOverlapDone]

@[simp] theorem execCalSwitch_sk (l : DLane) (n : Fin 6) (s : State) : (nextOr s (execCalSwitch l n s)).sk = s.sk := by simp [execCalSwitch]

@[simp] theorem State.calBeacon_sk (s : State) (l : DLane) (n : ℕ) : (s.calBeacon l n).sk = s.sk := by
  dsimp only [State.calBeacon]; (repeat' split) <;> simp -implicitDefEqProofs

@[simp] theorem State.calHandover_sk (s : State) (l : Lane) : (s.calHandover l).sk = s.sk := by
  unfold State.calHandover; split <;> simp

@[simp] theorem execCalEnWrite_sk (l : Lane) (v : Word) (s : State) : (nextOr s (execCalEnWrite l v s)).sk = s.sk := by
  rw [execCalEnWrite]
  cases asDrive l <;> simp -implicitDefEqProofs

end Sys2Proof.Machine
end

section
/-! SUPPORT. What jobs, profiles, pump ports and the exchange leave of Skink. -/

namespace Sys2Proof.Machine

open Sys2Proof

/-! Jobs -/

@[simp] theorem State.lmWrite_sk (s : State) (l : Lane) (ofs : ℕ) (bs : List Byte) : (s.lmWrite l ofs bs).sk = s.sk := by simp [State.lmWrite]

@[simp] theorem State.mirrorPut_sk (s : State) (l : Lane) (r : OutRec) : (s.mirrorPut l r).sk = s.sk := by
  dsimp only [State.mirrorPut]; split <;> simp

@[simp] theorem State.land_sk (s : State) (l : Lane) (xs : Fly) : (s.land l xs).sk = s.sk := by
  unfold State.land; split <;> simp

@[simp] theorem State.landAll_sk (s : State) (l : Lane) (fs : List Fly) : (s.landAll l fs).sk = s.sk := by simp [State.landAll]

@[simp] theorem State.drift_sk (s : State) (l : Lane) (x : Job) : (s.drift l x).1.sk = s.sk := by
  dsimp only [State.drift]; (repeat' split) <;> simp

@[simp] theorem State.setBus_sk (s : State) (l : Lane) (b : BusSt) : (s.setBus l b).sk = s.sk := by simp [State.setBus]
@[simp] theorem State.busPut_sk (s : State) (l : Lane) (r : OutRec) : (s.busPut l r).sk = s.sk := by simp [State.busPut]

@[simp] theorem State.jobFault_sk (s : State) (l : Lane) (j : ℕ) (x : Job) (code faddr : ℕ) : (s.jobFault l j x code faddr).sk = s.sk := by
  simp [State.jobFault]

@[simp] theorem State.jobRun_sk (s : State) (l : Lane) (j : ℕ) (x : Job) : (s.jobRun l j x).sk = s.sk := by simp [State.jobRun]

@[simp] theorem State.startJob_sk (s : State) (l : Lane) (j d src trigT tag vec : ℕ) (spawned : Bool) (arg : Option Word) :
    (s.startJob l j d src trigT tag vec spawned arg).sk = s.sk := by simp [State.startJob]

@[simp] theorem State.newestVec_sk (s : State) (l : Lane) : (s.newestVec l).2.sk = s.sk := by
  unfold State.newestVec; split <;> simp

@[simp] theorem State.startAll_sk (s : State) (l : Lane) (src trigT vec : ℕ) (ds js : List ℕ) :
    (s.startAll l src trigT vec ds js).sk = s.sk := by
  induction ds generalizing s js with
  | nil => rw [State.startAll]; simp
  | cons d ds ih => cases js <;> simp [State.startAll, ih]

@[simp] theorem State.wakeAll_sk (s : State) (l : Lane) (i : ℕ) : (s.wakeAll l i).sk = s.sk := by simp [State.wakeAll]

@[simp] theorem State.skipFull_sk (s : State) (l : Lane) (ds : List ℕ) : (s.skipFull l ds).2.sk = s.sk := by
  induction ds generalizing s with
  | nil => rfl
  | cons d ds ih => unfold State.skipFull; split <;> simp [ih]

@[simp] theorem State.serveFire_sk (s : State) (l : Lane) (i : ℕ) : (s.serveFire l i).sk = s.sk := by
  dsimp only [State.serveFire]; (repeat' split) <;> simp

@[simp] theorem State.eventNo_sk (s : State) (l : Lane) (i : ℕ) : (s.eventNo l i).2.sk = s.sk := by
  unfold State.eventNo; split <;> simp

@[simp] theorem execTriggerFire_sk (l : Lane) (src : Fin 64) (s : State) : (nextOr s (execTriggerFire l src s)).sk = s.sk := by simp [execTriggerFire]

@[simp] theorem execPendingTriggerStart_sk (l : Lane) (src : Fin 64) (s : State) : (nextOr s (execPendingTriggerStart l src s)).sk = s.sk := by
  unfold execPendingTriggerStart; split <;> simp

@[simp] theorem execJobStallEnd_sk (l : Lane) (j : Fin 256) (s : State) : (nextOr s (execJobStallEnd l j s)).sk = s.sk := by
  dsimp only [execJobStallEnd]; split <;> simp

@[simp] theorem execHoldDone_sk (l : Lane) (j : Fin 256) (s : State) : (nextOr s (execHoldDone l j s)).sk = s.sk := by
  dsimp only [execHoldDone]; split <;> simp

@[simp] theorem State.jobPost_sk (s : State) (l : Lane) (j : ℕ) (x : Job) (post : Bool) (code faddr : ℕ) :
    (s.jobPost l j x post code faddr).sk = s.sk := by simp [State.jobPost]

@[simp] theorem execJobEndComplete_sk (l : Lane) (j : Fin 256) (s : State) : (nextOr s (execJobEndComplete l j s)).sk = s.sk := by
  dsimp only [execJobEndComplete]; split <;> simp

@[simp] theorem execJobBudgetExpiry_sk (l : Lane) (j : Fin 256) (s : State) : (nextOr s (execJobBudgetExpiry l j s)).sk = s.sk := by
  dsimp only [execJobBudgetExpiry]; (repeat' split) <;> simp

@[simp] theorem execDoorbellWrite_sk (l : Lane) (v : Word) (s : State) : (nextOr s (execDoorbellWrite l v s)).sk = s.sk := by simp [execDoorbellWrite]
@[simp] theorem execCqHiRead_sk (l : Lane) (s : State) : (nextOr s (execCqHiRead l s)).sk = s.sk := by simp [execCqHiRead]

@[simp] theorem execLaneTimerExpiry_sk (l : Lane) (n : Fin 16) (s : State) : (nextOr s (execLaneTimerExpiry l n s)).sk = s.sk := by
  simp [execLaneTimerExpiry]

/-! Profiles -/

@[simp] theorem State.pgEv_sk (s : State) (l : DLane) (n : ℕ) (f : Fld) : (s.pgEv l n f).sk = s.sk := by simp [State.pgEv]
@[simp] theorem State.pgStage_sk (s : State) (l : DLane) (n : ℕ) : (s.pgStage l n).sk = s.sk := by simp [State.pgStage]
@[simp] theorem State.pgMode_sk (s : State) (l : DLane) (n m : ℕ) : (s.pgMode l n m).sk = s.sk := by simp [State.pgMode]
@[simp] theorem State.pgPlan_sk (s : State) (l : DLane) (n : ℕ) : (s.pgPlan l n).sk = s.sk := by simp [State.pgPlan]
@[simp] theorem State.pgCheck_sk (s : State) (l : DLane) (n : ℕ) : (s.pgCheck l n).sk = s.sk := by simp [State.pgCheck]
@[simp] theorem State.pgRest_sk (s : State) (l : DLane) (n m : ℕ) : (s.pgRest l n m).sk = s.sk := by simp [State.pgRest]
@[simp] theorem State.pgAdvance_sk (s : State) (l : DLane) (n : ℕ) : (s.pgAdvance l n).sk = s.sk := by simp [State.pgAdvance]
@[simp] theorem State.gearRefuse_sk (s : State) (l : DLane) (n : ℕ) : (s.gearRefuse l n).sk = s.sk := by simp [State.gearRefuse]

@[simp] theorem State.pgGear_sk (s : State) (l : DLane) (n : ℕ) (ref ref2 : Option (List Byte)) : (s.pgGear l n ref ref2).sk = s.sk := by
  unfold State.pgGear; split <;> simp

@[simp] theorem State.gearStep_sk (s : State) (l : DLane) (n : ℕ) (ref : Option (List Byte)) : (s.gearStep l n ref).sk = s.sk := by
  simp -implicitDefEqProofs [State.gearStep]

@[simp] theorem State.pgStop_sk (s : State) (l : DLane) (n cap : ℕ) : (s.pgStop l n cap).sk = s.sk := by simp [State.pgStop]
@[simp] theorem State.cmdRefuse_sk (s : State) (l : DLane) (n : ℕ) : (s.cmdRefuse l n).sk = s.sk := by simp [State.cmdRefuse]

@[simp] theorem State.pgCommand_sk (s : State) (l : DLane) (n op cap : ℕ) (ref ref2 : Option (List Byte)) :
    (s.pgCommand l n op cap ref ref2).sk = s.sk := by simp [State.pgCommand]

@[simp] theorem State.pgShow_sk (s : State) (l : DLane) (n : ℕ) : (s.pgShow l n).sk = s.sk := by simp [State.pgShow]
@[simp] theorem State.pgTrack_sk (s : State) (l : DLane) (n : ℕ) (ref : Option (List Byte)) : (s.pgTrack l n ref).sk = s.sk := by simp [State.pgTrack]
@[simp] theorem State.pgCapStep_sk (s : State) (l : DLane) (n cap : ℕ) : (s.pgCapStep l n cap).sk = s.sk := by simp [State.pgCapStep]

@[simp] theorem State.pgStopStep_sk (s : State) (l : DLane) (n cap : ℕ) (ref : Option (List Byte)) : (s.pgStopStep l n cap ref).sk = s.sk := by
  simp [State.pgStopStep]

@[simp] theorem State.pgCmdStep_sk (s : State) (l : DLane) (n cap k : ℕ) (ref ref2 : Option (List Byte)) :
    (s.pgCmdStep l n cap k ref ref2).sk = s.sk := by
  unfold State.pgCmdStep; split <;> simp

@[simp] theorem State.pgCheckStep_sk (s : State) (l : DLane) (n : ℕ) : (s.pgCheckStep l n).sk = s.sk := by simp [State.pgCheckStep]

@[simp] theorem State.pgMoveStep_sk (s : State) (l : DLane) (n : ℕ) (ref : Option (List Byte)) : (s.pgMoveStep l n ref).sk = s.sk := by
  simp [State.pgMoveStep]

@[simp] theorem execPgStep_sk (l : DLane) (n : Fin 6) (s : State) : (nextOr s (execPgStep l n s)).sk = s.sk := by simp [execPgStep]
@[simp] theorem State.pgCmd_sk (s : State) (l : DLane) (n op : ℕ) : (s.pgCmd l n op).sk = s.sk := by simp [State.pgCmd]
@[simp] theorem execPgMoveCmd_sk (l : DLane) (n : Fin 6) (s : State) : (nextOr s (execPgMoveCmd l n s)).sk = s.sk := by simp [execPgMoveCmd]

@[simp] theorem execPgVelocityCmd_sk (l : DLane) (n : Fin 6) (s : State) : (nextOr s (execPgVelocityCmd l n s)).sk = s.sk := by
  simp [execPgVelocityCmd]

@[simp] theorem execPgStopCmd_sk (l : DLane) (n : Fin 6) (s : State) : (nextOr s (execPgStopCmd l n s)).sk = s.sk := by simp [execPgStopCmd]
@[simp] theorem execPgGearCmd_sk (l : DLane) (n : Fin 6) (s : State) : (nextOr s (execPgGearCmd l n s)).sk = s.sk := by simp [execPgGearCmd]
@[simp] theorem execPgCancelCmd_sk (l : DLane) (n : Fin 6) (s : State) : (nextOr s (execPgCancelCmd l n s)).sk = s.sk := by simp [execPgCancelCmd]
@[simp] theorem execSposLRead_sk (l : DLane) (n : Fin 6) (s : State) : (nextOr s (execSposLRead l n s)).sk = s.sk := by simp [execSposLRead]

@[simp] theorem execPgEnWrite_sk (l : DLane) (n : Fin 6) (v : Word) (s : State) : (nextOr s (execPgEnWrite l n v s)).sk = s.sk := by
  simp [execPgEnWrite]

@[simp] theorem State.pgJoin_sk (s : State) (x : Axo) : (s.pgJoin x).sk = s.sk := by
  dsimp only [State.pgJoin]; split <;> simp

/-! Pump ports -/

@[simp] theorem State.ppUnhold_sk (s : State) (l : DLane) (p : ℕ) : (s.ppUnhold l p).sk = s.sk := by simp [State.ppUnhold]
@[simp] theorem State.ppEnter_sk (s : State) (l : DLane) (p st : ℕ) : (s.ppEnter l p st).sk = s.sk := by simp [State.ppEnter]
@[simp] theorem State.ppShow_sk (s : State) (l : DLane) (p : ℕ) : (s.ppShow l p).sk = s.sk := by simp [State.ppShow]
@[simp] theorem State.ppKe_sk (s : State) (l : DLane) (p epk iv : ℕ) : (s.ppKe l p epk iv).sk = s.sk := by simp [State.ppKe]
@[simp] theorem State.ppCatch_sk (s : State) (l : DLane) (p : ℕ) : (s.ppCatch l p).sk = s.sk := by simp [State.ppCatch]
@[simp] theorem State.ppAlign_sk (s : State) (l : DLane) (p : ℕ) : (s.ppAlign l p).sk = s.sk := by simp [State.ppAlign]
@[simp] theorem State.ppStep_sk (s : State) (l : DLane) (p t : ℕ) : (s.ppStep l p t).sk = s.sk := by simp [State.ppStep]
@[simp] theorem State.ppCross_sk (s : State) (l : DLane) (p t : ℕ) : (s.ppCross l p t).sk = s.sk := by simp [State.ppCross]
@[simp] theorem State.rampCross_sk (s : State) (l : DLane) (p t : ℕ) : (s.rampCross l p t).sk = s.sk := by simp [State.rampCross]

@[simp] theorem State.ppSync_sk (s : State) (l : DLane) (p k vbus : ℕ) (neg rev : Bool) : (s.ppSync l p k vbus neg rev).sk = s.sk := by
  simp [State.ppSync]

@[simp] theorem State.catchCross_sk (s : State) (l : DLane) (p k t epk vbus : ℕ) : (s.catchCross l p k t epk vbus).sk = s.sk := by
  simp [State.catchCross]

@[simp] theorem State.neutralSample_sk (s : State) (l : DLane) (p ph : ℕ) (high : Bool) (t : ℕ) : (s.neutralSample l p ph high t).1.sk = s.sk := by
  dsimp only [State.neutralSample]; (repeat' split) <;> simp

@[simp] theorem execPumpZcSample_sk (l : DLane) (p : Fin 2) (ph : Fin 3) (high : Bool) (t epk : ℕ) (vbus : ℕ × ℕ) (s : State) :
    (nextOr s (execPumpZcSample l p ph high t epk vbus s)).sk = s.sk := by
  unfold execPumpZcSample; simp -implicitDefEqProofs; (repeat' split) <;> simp -implicitDefEqProofs

@[simp] theorem State.ppLost_sk (s : State) (l : DLane) (p : ℕ) : (s.ppLost l p).sk = s.sk := by simp [State.ppLost]

@[simp] theorem execPumpCommutate_sk (l : DLane) (p : Fin 2) (t : ℕ) (s : State) : (nextOr s (execPumpCommutate l p t s)).sk = s.sk := by
  dsimp only [execPumpCommutate]; (repeat' split) <;> simp -implicitDefEqProofs

@[simp] theorem State.ppRamp_sk (s : State) (l : DLane) (p : ℕ) : (s.ppRamp l p).sk = s.sk := by simp [State.ppRamp]
@[simp] theorem State.ppPi_sk (s : State) (l : DLane) (p : ℕ) : (s.ppPi l p).sk = s.sk := by simp [State.ppPi]
@[simp] theorem State.ppPeriod_sk (s : State) (l : DLane) (p vbus : ℕ) : (s.ppPeriod l p vbus).sk = s.sk := by simp [State.ppPeriod]
@[simp] theorem State.ppLatch_sk (s : State) (l : DLane) (p : ℕ) : (s.ppLatch l p).sk = s.sk := by simp [State.ppLatch]

@[simp] theorem execPumpPiUpdate_sk (l : DLane) (p : Fin 2) (vbus : ℕ × ℕ) (s : State) : (nextOr s (execPumpPiUpdate l p vbus s)).sk = s.sk := by
  simp [execPumpPiUpdate]

@[simp] theorem execPumpIlimTrip_sk (l : DLane) (p : Fin 2) (rising : Bool) (c uv : ℕ) (s : State) :
    (nextOr s (execPumpIlimTrip l p rising c uv s)).sk = s.sk := by simp [execPumpIlimTrip]

@[simp] theorem execPpIlimLong_sk (l : DLane) (p : Fin 2) (s : State) : (nextOr s (execPpIlimLong l p s)).sk = s.sk := by simp [execPpIlimLong]
@[simp] theorem execPpBusHold_sk (l : DLane) (p : Fin 2) (s : State) : (nextOr s (execPpBusHold l p s)).sk = s.sk := by simp [execPpBusHold]

@[simp] theorem execPumpCatchTimeout_sk (l : DLane) (p : Fin 2) (s : State) : (nextOr s (execPumpCatchTimeout l p s)).sk = s.sk := by
  simp [execPumpCatchTimeout]

@[simp] theorem execPumpAlignEnd_sk (l : DLane) (p : Fin 2) (t : ℕ) (s : State) : (nextOr s (execPumpAlignEnd l p t s)).sk = s.sk := by
  simp [execPumpAlignEnd]

@[simp] theorem execPumpStartTimeout_sk (l : DLane) (p : Fin 2) (s : State) : (nextOr s (execPumpStartTimeout l p s)).sk = s.sk := by
  simp [execPumpStartTimeout]

@[simp] theorem execPumpCoastEnd_sk (l : DLane) (p : Fin 2) (s : State) : (nextOr s (execPumpCoastEnd l p s)).sk = s.sk := by simp [execPumpCoastEnd]
@[simp] theorem execPumpBrakeEnd_sk (l : DLane) (p : Fin 2) (s : State) : (nextOr s (execPumpBrakeEnd l p s)).sk = s.sk := by simp [execPumpBrakeEnd]
@[simp] theorem execPpRecTimeout_sk (l : DLane) (p : Fin 2) (s : State) : (nextOr s (execPpRecTimeout l p s)).sk = s.sk := by simp [execPpRecTimeout]
@[simp] theorem execPumpStopped_sk (l : DLane) (p : Fin 2) (s : State) : (nextOr s (execPumpStopped l p s)).sk = s.sk := by simp [execPumpStopped]
@[simp] theorem State.ppTake_sk (s : State) (l : DLane) (p : ℕ) (r : OutRec) : (s.ppTake l p r).sk = s.sk := by simp [State.ppTake]
@[simp] theorem State.ppApply_sk (s : State) (l : DLane) (p : ℕ) (r : OutRec) : (s.ppApply l p r).sk = s.sk := by simp [State.ppApply]

@[simp] theorem State.ppKept_sk (s : State) (l : DLane) (p : ℕ) : (s.ppKept l p).sk = s.sk := by
  unfold State.ppKept; split <;> simp

@[simp] theorem execPumpRecordApply_sk (l : DLane) (p : Fin 2) (s : State) : (nextOr s (execPumpRecordApply l p s)).sk = s.sk := by
  dsimp only [execPumpRecordApply]; (repeat' split) <;> simp -implicitDefEqProofs

@[simp] theorem State.ppDisable_sk (s : State) (l : DLane) (p : ℕ) : (s.ppDisable l p).sk = s.sk := by simp [State.ppDisable]

@[simp] theorem execPpEnWrite_sk (l : DLane) (p : Fin 2) (v : Word) (s : State) : (nextOr s (execPpEnWrite l p v s)).sk = s.sk := by
  simp [execPpEnWrite]

@[simp] theorem execBemfTrimBit_sk (l : DLane) (p : Fin 2) (ph : Fin 3) (high : Bool) (s : State) :
    (nextOr s (execBemfTrimBit l p ph high s)).sk = s.sk := by simp [execBemfTrimBit]

@[simp] theorem execCalBemfStale_sk (l : DLane) (p : Fin 2) (ph : Fin 3) (s : State) : (nextOr s (execCalBemfStale l p ph s)).sk = s.sk := by
  simp [execCalBemfStale]

/-! The exchange -/

@[simp] theorem State.pgLatch_sk (s : State) (l : DLane) : (s.pgLatch l).sk = s.sk := by simp [State.pgLatch]

@[simp] theorem execInputRecordPost_sk (l : Lane) (contacts : BitVec 32) (s : State) : (nextOr s (execInputRecordPost l contacts s)).sk = s.sk := by
  simp [execInputRecordPost]

@[simp] theorem State.stillUpdate_locked (s : State) : s.stillUpdate.sk.locked = s.sk.locked := by simp [State.stillUpdate]
@[simp] theorem State.speedUpdate_locked (s : State) : s.speedUpdate.sk.locked = s.sk.locked := by simp [State.speedUpdate]
@[simp] theorem State.absUpdate_sk (s : State) (l : Lane) : (s.absUpdate l).sk = s.sk := by simp [State.absUpdate]

@[simp] theorem State.siUpdate_sk (s : State) (i : ℕ) : (s.siUpdate i).sk = s.sk := by
  unfold State.siUpdate; simp -implicitDefEqProofs; (repeat' split) <;> simp -implicitDefEqProofs

@[simp] theorem State.vectorChecks_locked (s : State) : s.vectorChecks.sk.locked = s.sk.locked := by simp [State.vectorChecks]
@[simp] theorem State.ringBegin_sk (s : State) (k : ℕ) (l : Lane) : (s.ringBegin k l).sk = s.sk := by simp [State.ringBegin]
@[simp] theorem State.publish_locked (s : State) (deadline : Bool) : (s.publish deadline).sk.locked = s.sk.locked := by simp [State.publish]
@[simp] theorem State.setRec_sk (s : State) (l : Lane) (r : List Byte) : (s.setRec l r).sk = s.sk := by simp [State.setRec]

@[simp] theorem execExchRecordReceive_locked (l : Lane) (skinkClocks : ℕ) (s : State) :
    (nextOr s (execExchRecordReceive l skinkClocks s)).sk.locked = s.sk.locked := by
  unfold execExchRecordReceive; split <;> simp

@[simp] theorem execExchDeadline_locked (s : State) : (nextOr s (execExchDeadline s)).sk.locked = s.sk.locked := by simp [execExchDeadline]
@[simp] theorem execExchAbsentRun_sk (l : Lane) (s : State) : (nextOr s (execExchAbsentRun l s)).sk = s.sk := by simp [execExchAbsentRun]
@[simp] theorem execVectorReady_sk (l : Lane) (s : State) : (nextOr s (execVectorReady l s)).sk = s.sk := by simp [execVectorReady]

@[simp] theorem execXchEnWrite_sk (l : Lane) (v : Word) (s : State) : (nextOr s (execXchEnWrite l v s)).sk = s.sk := by
  simp -implicitDefEqProofs [execXchEnWrite]

end Sys2Proof.Machine
end

section
/-! SUPPORT. What the networks, the beacon, the supplies and the self-test leave of Skink. -/

namespace Sys2Proof.Machine

open Sys2Proof

/-! Network channels -/

@[simp] theorem State.scnEvent_sk (s : State) (l : Lane) (c : ℕ) (f : Fld) (src : ℕ) (path : Bool) : (s.scnEvent l c f src path).sk = s.sk := by
  simp [State.scnEvent]

@[simp] theorem State.txCommit_sk (s : State) (l : Lane) (c e : ℕ) : (s.txCommit l c e).sk = s.sk := by simp [State.txCommit]

@[simp] theorem execScnTxCommit_sk (l : Lane) (c : Fin 2) (e : Fin 32) (v : Word) (s : State) : (nextOr s (execScnTxCommit l c e v s)).sk = s.sk := by
  simp [execScnTxCommit]

@[simp] theorem execScnTxDrop_sk (l : Lane) (c : Fin 2) (e : Fin 32) (s : State) : (nextOr s (execScnTxDrop l c e s)).sk = s.sk := by
  simp [execScnTxDrop]

@[simp] theorem execScnTxExpiry_sk (l : Lane) (c : Fin 2) (e : Fin 32) (s : State) : (nextOr s (execScnTxExpiry l c e s)).sk = s.sk := by
  simp [execScnTxExpiry]

@[simp] theorem State.scnPrep_sk (s : State) (l : Lane) (c : ℕ) (p : Option ScnPrep) : (s.scnPrep l c p).sk = s.sk := by simp [State.scnPrep]

@[simp] theorem State.prepSync_sk (s : State) (l : Lane) (c slot : ℕ) : (s.prepSync l c slot).sk = s.sk := by
  dsimp only [State.prepSync]; split <;> simp

@[simp] theorem execScnSlotPrepare_sk (l : Lane) (c : Fin 2) (slot : BitVec 10) (dynid : BitVec 8) (s : State) :
    (nextOr s (execScnSlotPrepare l c slot dynid s)).sk = s.sk := by
  dsimp only [execScnSlotPrepare]; (repeat' split) <;> simp

@[simp] theorem State.txSent_sk (s : State) (l : Lane) (c e : ℕ) : (s.txSent l c e).sk = s.sk := by simp [State.txSent]
@[simp] theorem State.guardCut_sk (s : State) (l : Lane) (c : ℕ) : (s.guardCut l c).sk = s.sk := by simp [State.guardCut]

@[simp] theorem execScnTransmitStart_sk (l : Lane) (c : Fin 2) (at_ : ℕ) (s : State) : (nextOr s (execScnTransmitStart l c at_ s)).sk = s.sk := by
  dsimp only [execScnTransmitStart]; (repeat' split) <;> simp

@[simp] theorem execGuardianViolation_sk (l : Lane) (c : Fin 2) (s : State) : (nextOr s (execGuardianViolation l c s)).sk = s.sk := by
  simp [execGuardianViolation]

@[simp] theorem execScnMinislotBoundary_sk (l : Lane) (c : Fin 2) (frameOnLine : Bool) (k : ℕ) (s : State) :
    (nextOr s (execScnMinislotBoundary l c frameOnLine k s)).sk = s.sk := by simp [execScnMinislotBoundary]

@[simp] theorem State.rxPutByte_sk (s : State) (l : Lane) (c ofs : ℕ) (b : Byte) : (s.rxPutByte l c ofs b).sk = s.sk := by simp [State.rxPutByte]

@[simp] theorem State.rxPut_sk (s : State) (l : Lane) (c ofs : ℕ) (xs : List Byte) : (s.rxPut l c ofs xs).sk = s.sk := by
  induction xs generalizing s l c ofs with
  | nil => rfl
  | cons x xs ih => simp -implicitDefEqProofs [State.rxPut, ih]

@[simp] theorem State.rxStore_sk (s : State) (l : Lane) (c e : ℕ) (f : ScnFrame) : (s.rxStore l c e f).sk = s.sk := by simp [State.rxStore]
@[simp] theorem State.scnAccept_sk (s : State) (l : Lane) (c : ℕ) (f : ScnFrame) : (s.scnAccept l c f).sk = s.sk := by simp [State.scnAccept]

@[simp] theorem State.scnSyncRx_sk (s : State) (l : Lane) (c : ℕ) (f : ScnFrame) (dev : ℤ) : (s.scnSyncRx l c f dev).sk = s.sk := by
  simp [State.scnSyncRx]

@[simp] theorem execScnFrameRx_sk (l : Lane) (c : Fin 2) (f : ScnFrame) (sfd : ℤ) (s : State) : (nextOr s (execScnFrameRx l c f sfd s)).sk = s.sk := by
  simp [execScnFrameRx]

@[simp] theorem execScnListenTimeout_sk (l : Lane) (c : Fin 2) (s : State) : (nextOr s (execScnListenTimeout l c s)).sk = s.sk := by
  simp [execScnListenTimeout]

@[simp] theorem execScnCycleStart_sk (l : Lane) (c : Fin 2) (guardDev : ℤ) (s : State) : (nextOr s (execScnCycleStart l c guardDev s)).sk = s.sk := by
  simp [execScnCycleStart]

@[simp] theorem State.oscUpdate_sk (s : State) (l : Lane) (c : ℕ) (d : ℤ) : (s.oscUpdate l c d).sk = s.sk := by simp [State.oscUpdate]

@[simp] theorem State.scnApply_sk (s : State) (l : Lane) (c : ℕ) : (s.scnApply l c).sk = s.sk := by
  dsimp only [State.scnApply]; (repeat' split) <;> simp

@[simp] theorem State.scnModes_sk (s : State) (l : Lane) (c : ℕ) : (s.scnModes l c).sk = s.sk := by
  dsimp only [State.scnModes]; (repeat' split) <;> simp

@[simp] theorem State.missUp_sk (s : State) (l : Lane) (c slot : ℕ) : (s.missUp l c slot).sk = s.sk := by simp [State.missUp]
@[simp] theorem State.scnMisses_sk (s : State) (l : Lane) (c : ℕ) : (s.scnMisses l c).sk = s.sk := by simp [State.scnMisses]
@[simp] theorem State.scnAge_sk (s : State) (l : Lane) (c : ℕ) : (s.scnAge l c).sk = s.sk := by simp [State.scnAge]

@[simp] theorem State.scnNext_sk (s : State) (l : Lane) (c : ℕ) (corrected far : Bool) (others : ℕ) (saw : Bool) :
    (s.scnNext l c corrected far others saw).sk = s.sk := by
  unfold State.scnNext; split <;> simp

@[simp] theorem execScnCycleEnd_sk (l : Lane) (c : Fin 2) (s : State) : (nextOr s (execScnCycleEnd l c s)).sk = s.sk := by simp [execScnCycleEnd]

@[simp] theorem execScnModeRequest_sk (l : Lane) (c : Fin 2) (v : Word) (s : State) : (nextOr s (execScnModeRequest l c v s)).sk = s.sk := by
  simp [execScnModeRequest]

@[simp] theorem execScnModeCancel_sk (l : Lane) (c : Fin 2) (s : State) : (nextOr s (execScnModeCancel l c s)).sk = s.sk := by
  simp [execScnModeCancel]

@[simp] theorem execScnSlotTrigger_sk (l : Lane) (n : Fin 16) (s : State) : (nextOr s (execScnSlotTrigger l n s)).sk = s.sk := by
  simp [execScnSlotTrigger]

@[simp] theorem execScnMissCounterRead_sk (l : Lane) (c : Fin 2) (w : Fin 512) (s : State) : (nextOr s (execScnMissCounterRead l c w s)).sk = s.sk := by
  simp [execScnMissCounterRead]

@[simp] theorem execScnEnWrite_sk (l : Lane) (c : Fin 2) (v : Word) (s : State) : (nextOr s (execScnEnWrite l c v s)).sk = s.sk := by
  simp [execScnEnWrite]

/-! Stars -/

@[simp] theorem State.starOos_sk (s : State) (n : DLane) (q : ℕ) : (s.starOos n q).sk = s.sk := by simp [State.starOos]
@[simp] theorem State.starDrop_sk (s : State) (n : DLane) (q : ℕ) : (s.starDrop n q).sk = s.sk := by simp [State.starDrop]
@[simp] theorem State.starForward_sk (s : State) (n : DLane) (q : ℕ) (f : ScnFrame) : (s.starForward n q f).sk = s.sk := by simp [State.starForward]
@[simp] theorem State.starSync_sk (s : State) (n : DLane) (f : ScnFrame) (sfd : ℤ) : (s.starSync n f sfd).sk = s.sk := by simp [State.starSync]
@[simp] theorem State.starClaim_sk (s : State) (n : DLane) (q : ℕ) (f : ScnFrame) : (s.starClaim n q f).sk = s.sk := by simp [State.starClaim]

@[simp] theorem State.starOpen_sk (s : State) (n : DLane) (q : ℕ) (f : ScnFrame) (sfd : ℤ) : (s.starOpen n q f sfd).sk = s.sk := by
  simp [State.starOpen]

@[simp] theorem State.starEnforce_sk (s : State) (n : DLane) (q : ℕ) (f : ScnFrame) (sfd : ℤ) : (s.starEnforce n q f sfd).sk = s.sk := by
  simp [State.starEnforce]

@[simp] theorem execStarFrameRx_sk (n : DLane) (port : Fin 7) (f : ScnFrame) (sfd : ℤ) (s : State) :
    (nextOr s (execStarFrameRx n port f sfd s)).sk = s.sk := by simp [execStarFrameRx]

@[simp] theorem execStarFrameEnd_sk (n : DLane) (endAt : ℤ) (s : State) : (nextOr s (execStarFrameEnd n endAt s)).sk = s.sk := by
  unfold execStarFrameEnd; split <;> simp

@[simp] theorem State.starGrants_sk (s : State) (n : DLane) (xs : List (ℕ × ℕ)) : (s.starGrants n xs).sk = s.sk := by
  induction xs generalizing s n with
  | nil => rfl
  | cons x xs ih => simp -implicitDefEqProofs [State.starGrants, ih]

@[simp] theorem State.starRefuse_sk (s : State) (n : DLane) (xs : List (ℕ × ℕ)) : (s.starRefuse n xs).sk = s.sk := by
  induction xs generalizing s n with
  | nil => rfl
  | cons x xs ih => dsimp only [State.starRefuse]; simp [ih]

@[simp] theorem State.starModes_sk (s : State) (n : DLane) : (s.starModes n).sk = s.sk := by
  dsimp only [State.starModes]; split <;> simp

@[simp] theorem State.starToOpen_sk (s : State) (n : DLane) : (s.starToOpen n).sk = s.sk := by simp [State.starToOpen]

@[simp] theorem execStarCycleEnd_sk (n : DLane) (s : State) : (nextOr s (execStarCycleEnd n s)).sk = s.sk := by
  simp -implicitDefEqProofs [execStarCycleEnd]

@[simp] theorem execStarGrantLapse_sk (n : DLane) (slot : BitVec 10) (s : State) : (nextOr s (execStarGrantLapse n slot s)).sk = s.sk := by
  dsimp only [execStarGrantLapse]; (repeat' split) <;> simp

@[simp] theorem execStarLinkLoss_sk (n : DLane) (port : Fin 4) (s : State) : (nextOr s (execStarLinkLoss n port s)).sk = s.sk := by
  simp [execStarLinkLoss]

@[simp] theorem execStarLinkUp_sk (n : DLane) (port : Fin 4) (s : State) : (nextOr s (execStarLinkUp n port s)).sk = s.sk := by simp [execStarLinkUp]
@[simp] theorem State.starPorts_sk (s : State) (n : DLane) : (s.starPorts n).sk = s.sk := by simp [State.starPorts]
@[simp] theorem State.starStop_sk (s : State) (n : DLane) : (s.starStop n).sk = s.sk := by simp -implicitDefEqProofs [State.starStop]

@[simp] theorem execStarEnWrite_sk (l : Lane) (v : Word) (s : State) : (nextOr s (execStarEnWrite l v s)).sk = s.sk := by
  unfold execStarEnWrite; split <;> simp

/-! The beacon -/

@[simp] theorem State.forDrives_sk (s : State) (n : ℕ) {f : State → DLane → ℕ → State} (hf : ∀ l, KeepsSk fun s i => f s l i) :
    (s.forDrives n f).sk = s.sk := foldl_sk (fun _ l => foldl_sk (hf l) _ _) _ _

@[simp] theorem State.forLanes_sk (s : State) {f : State → Lane → State} (hf : KeepsSk f) : (s.forLanes f).sk = s.sk := by
  rw [State.forLanes, hf, hf, hf]

@[simp] theorem State.rateCheck_sk (s : State) (pA pB pW : ℕ) : (s.rateCheck pA pB pW).sk = s.sk := by simp [State.rateCheck]
@[simp] theorem State.cycleStep_locked (s : State) : s.cycleStep.sk.locked = s.sk.locked := by simp [State.cycleStep]
@[simp] theorem State.cycleLatch_sk (s : State) : s.cycleLatch.sk = s.sk := by simp [State.cycleLatch]

@[simp] theorem State.pwmSync_sk (s : State) (changes : Bool) (slipped : List (DLane × Fin 6)) : (s.pwmSync changes slipped).sk = s.sk := by
  simp [State.pwmSync]

@[simp] theorem State.putShares_locked (s : State) (ps : List (ℕ × ℕ)) : (s.putShares ps).sk.locked = s.sk.locked := by simp [State.putShares]
@[simp] theorem State.keptAll_sk (s : State) : s.keptAll.sk = s.sk := by simp [State.keptAll]

@[simp] theorem State.holdStep_locked (s : State) : s.holdStep.sk.locked = s.sk.locked := by
  dsimp only [State.holdStep]; (repeat' split) <;> simp

@[simp] theorem State.linesStep_locked (s : State) : s.linesStep.sk.locked = s.sk.locked := by simp [State.linesStep]

@[simp] theorem State.benchStep_locked (s : State) : s.benchStep.sk.locked = s.sk.locked := by
  dsimp only [State.benchStep]; (repeat' split) <;> simp

@[simp] theorem State.ckptOpen_sk (s : State) : s.ckptOpen.sk = s.sk := by simp [State.ckptOpen]
@[simp] theorem State.injStep_sk (s : State) : s.injStep.sk = s.sk := by simp [State.injStep]
@[simp] theorem State.voteStep_sk (s : State) : s.voteStep.sk = s.sk := by simp [State.voteStep]
@[simp] theorem State.sinceStep_sk (s : State) : s.sinceStep.sk = s.sk := by simp [State.sinceStep]
@[simp] theorem State.tagVoid_sk (s : State) : s.tagVoid.sk = s.sk := by simp [State.tagVoid]
@[simp] theorem State.exchStep_sk (s : State) : s.exchStep.sk = s.sk := by simp [State.exchStep]
@[simp] theorem State.latchStep_sk (s : State) : s.latchStep.sk = s.sk := by simp [State.latchStep]
@[simp] theorem State.starStep_sk (s : State) : s.starStep.sk = s.sk := by simp [State.starStep]
@[simp] theorem State.cycleEdges_sk (s : State) : s.cycleEdges.sk = s.sk := by simp [State.cycleEdges]
@[simp] theorem State.cycleTriggers_sk (s : State) : s.cycleTriggers.sk = s.sk := by simp [State.cycleTriggers]

@[simp] theorem State.axoStep_locked (s : State) : s.axoStep.sk.locked = s.sk.locked := by
  dsimp only [State.axoStep]; (repeat' split) <;> simp

@[simp] theorem State.monStep_locked (s : State) : s.monStep.sk.locked = s.sk.locked := by simp [State.monStep]
@[simp] theorem State.sleepStep_locked (s : State) : s.sleepStep.sk.locked = s.sk.locked := by simp [State.sleepStep]

@[simp] theorem State.beacon_locked (s : State) (slipped : List (DLane × Fin 6)) : (s.beacon slipped).sk.locked = s.sk.locked := by
  simp [State.beacon]

@[simp] theorem execBeacon_locked (periodA periodB periodW : ℕ) (slipped : List (DLane × Fin 6)) (s : State) :
    (nextOr s (execBeacon periodA periodB periodW slipped s)).sk.locked = s.sk.locked := by simp [execBeacon]

/-! Supplies and resets -/

@[simp] theorem State.setFeed_locked (s : State) (f : DLane) (valid above : Bool) : (s.setFeed f valid above).sk.locked = s.sk.locked := by
  unfold State.setFeed; split <;> simp

@[simp] theorem execFeedStart_locked (f : DLane) (s : State) : (nextOr s (execFeedStart f s)).sk.locked = s.sk.locked := by simp [execFeedStart]

@[simp] theorem execFeedValidLost_locked (f : DLane) (s : State) : (nextOr s (execFeedValidLost f s)).sk.locked = s.sk.locked := by
  simp [execFeedValidLost]

@[simp] theorem execFeedFallsBelowReset_locked (f : DLane) (s : State) : (nextOr s (execFeedFallsBelowReset f s)).sk.locked = s.sk.locked := by
  simp [execFeedFallsBelowReset]

@[simp] theorem execLaneResetRelease_locked (l : Lane) (rail : Fin 7) (vhibLow : Bool) (s : State) :
    (nextOr s (execLaneResetRelease l rail vhibLow s)).sk.locked = s.sk.locked := by simp [execLaneResetRelease]

@[simp] theorem execRailFaultReset_sk (l : Lane) (rail : Fin 7) (s : State) : (nextOr s (execRailFaultReset l rail s)).sk = s.sk := by
  simp [execRailFaultReset]

@[simp] theorem State.loadImage_sk (s : State) (l : Lane) (bank : ℕ) : (s.loadImage l bank).sk = s.sk := by simp [State.loadImage]

@[simp] theorem execImageCheckDone_locked (l : Lane) (accepted : Bool) (version : Fin 65) (keySlot : Fin 4) (cfgDigest headerDigest : BitVec 256) (s : State) :
    (nextOr s (execImageCheckDone l accepted version keySlot cfgDigest headerDigest s)).sk.locked = s.sk.locked := by simp [execImageCheckDone]

@[simp] theorem execStartIncomplete_locked (s : State) : (nextOr s (execStartIncomplete s)).sk.locked = s.sk.locked := by simp [execStartIncomplete]
@[simp] theorem execChorusTimeout_locked (s : State) : (nextOr s (execChorusTimeout s)).sk.locked = s.sk.locked := by simp [execChorusTimeout]

@[simp] theorem execChorusCmpTestDone_locked (pass : Bool) (s : State) : (nextOr s (execChorusCmpTestDone pass s)).sk.locked = s.sk.locked := by
  simp [execChorusCmpTestDone]

@[simp] theorem State.sliceFail_sk (s : State) (l : Lane) (n : ℕ) : (s.sliceFail l n).sk = s.sk := by simp [State.sliceFail]

@[simp] theorem execStartSweepDone_locked (l : Lane) (failed : List (Fin 72)) (s : State) :
    (nextOr s (execStartSweepDone l failed s)).sk.locked = s.sk.locked := by
  dsimp only [execStartSweepDone]; (repeat' split) <;> simp -implicitDefEqProofs

@[simp] theorem execCfgStartWrite_locked (l : Lane) (v : Word) (s : State) : (nextOr s (execCfgStartWrite l v s)).sk.locked = s.sk.locked := by
  simp [execCfgStartWrite]

@[simp] theorem execCfgDataWrite_locked (l : Lane) (v : Word) (s : State) : (nextOr s (execCfgDataWrite l v s)).sk.locked = s.sk.locked := by
  simp [execCfgDataWrite]

@[simp] theorem execDigestWrite_locked (l : Lane) (n : Fin 8) (v : Word) (s : State) : (nextOr s (execDigestWrite l n v s)).sk.locked = s.sk.locked :=
  by
  dsimp only [execDigestWrite]; (repeat' split) <;> simp -implicitDefEqProofs

@[simp] theorem execCfgHashDone_locked (s : State) : (nextOr s (execCfgHashDone s)).sk.locked = s.sk.locked := by simp [execCfgHashDone]
@[simp] theorem execRegParityError_sk (s : State) : (nextOr s (execRegParityError s)).sk = s.sk := by simp [execRegParityError]
@[simp] theorem State.rtcWrite_sk (s : State) (v : Word) : (s.rtcWrite v).sk = s.sk := by simp [State.rtcWrite]
@[simp] theorem execWakePin_locked (n : Fin 4) (s : State) : (nextOr s (execWakePin n s)).sk.locked = s.sk.locked := by simp [execWakePin]
@[simp] theorem execRtcAlarm_locked (s : State) : (nextOr s (execRtcAlarm s)).sk.locked = s.sk.locked := by simp [execRtcAlarm]
@[simp] theorem State.zeroAxisArea_sk (s : State) (l : ℕ) : (s.zeroAxisArea l).sk = s.sk := by simp [State.zeroAxisArea]
@[simp] theorem State.zeroAreas_sk (s : State) : s.zeroAreas.sk = s.sk := by simp [State.zeroAreas]

@[simp] theorem execHibFeedSample_sk (belowA belowB : Bool) (s : State) : (nextOr s (execHibFeedSample belowA belowB s)).sk = s.sk := by
  simp [execHibFeedSample]

@[simp] theorem execVorLow_locked (s : State) : (nextOr s (execVorLow s)).sk.locked = s.sk.locked := by simp [execVorLow]
@[simp] theorem execHibPowerOnReset_sk (s : State) : (nextOr s (execHibPowerOnReset s)).sk = s.sk := by simp [execHibPowerOnReset]
@[simp] theorem execVorValid_locked (s : State) : (nextOr s (execVorValid s)).sk.locked = s.sk.locked := by simp [execVorValid]

@[simp] theorem execWakeOneFeedTimeout_locked (s : State) : (nextOr s (execWakeOneFeedTimeout s)).sk.locked = s.sk.locked := by
  simp [execWakeOneFeedTimeout]

@[simp] theorem execTemperatureThreshold_sk (l : Lane) (t : ℤ) (s : State) : (nextOr s (execTemperatureThreshold l t s)).sk = s.sk := by
  simp [execTemperatureThreshold]

@[simp] theorem execWakecfgWrite_sk (l : Lane) (v : Word) (s : State) : (nextOr s (execWakecfgWrite l v s)).sk = s.sk := by simp [execWakecfgWrite]
@[simp] theorem execRtcRead_sk (l : Lane) (s : State) : (nextOr s (execRtcRead l s)).sk = s.sk := by simp [execRtcRead]

/-! Self-test and crypto -/

@[simp] theorem State.calPaused_sk (s : State) (l : Lane) : (s.calPaused l).sk = s.sk := by
  unfold State.calPaused; split <;> simp

@[simp] theorem execBistSliceStart_sk (l : Lane) (slice : Fin 72) (s : State) : (nextOr s (execBistSliceStart l slice s)).sk = s.sk := by
  simp [execBistSliceStart]

@[simp] theorem State.sliceBroken_sk (s : State) (l : Lane) : (s.sliceBroken l).sk = s.sk := by simp [State.sliceBroken]

@[simp] theorem State.slicePassed_sk (s : State) (l : Lane) (n : ℕ) (keyOk : Bool) : (s.slicePassed l n keyOk).sk = s.sk := by
  simp [State.slicePassed]

@[simp] theorem execBistSliceEnd_sk (l : Lane) (slice : Fin 72) (sigOk restoreOk keyOk : Bool) (s : State) :
    (nextOr s (execBistSliceEnd l slice sigOk restoreOk keyOk s)).sk = s.sk := by simp [execBistSliceEnd]

@[simp] theorem execBistSweepLate_sk (l : Lane) (s : State) : (nextOr s (execBistSweepLate l s)).sk = s.sk := by
  unfold execBistSweepLate; split <;> simp

@[simp] theorem execBistEnWrite_sk (l : Lane) (v : Word) (s : State) : (nextOr s (execBistEnWrite l v s)).sk = s.sk := by simp [execBistEnWrite]
@[simp] theorem State.cryFail_sk (s : State) (l : Lane) (code : ℕ) : (s.cryFail l code).sk = s.sk := by simp [State.cryFail]
@[simp] theorem State.cryFailFree_sk (s : State) (l : Lane) : (s.cryFailFree l).sk = s.sk := by simp [State.cryFailFree]
@[simp] theorem State.cryStart_sk (s : State) (l : Lane) (op : ℕ) (ok : Bool) : (s.cryStart l op ok).sk = s.sk := by simp [State.cryStart]
@[simp] theorem execCryAttest_sk (l : Lane) (s : State) : (nextOr s (execCryAttest l s)).sk = s.sk := by simp [execCryAttest]
@[simp] theorem execCryInstall_sk (l : Lane) (s : State) : (nextOr s (execCryInstall l s)).sk = s.sk := by simp [execCryInstall]
@[simp] theorem execCryCommit_sk (l : Lane) (s : State) : (nextOr s (execCryCommit l s)).sk = s.sk := by simp [execCryCommit]
@[simp] theorem execCryAdvance_sk (l : Lane) (s : State) : (nextOr s (execCryAdvance l s)).sk = s.sk := by simp [execCryAdvance]
@[simp] theorem State.attest_sk (s : State) (l : Lane) (sig : List Byte) : (s.attest l sig).sk = s.sk := by simp [State.attest]
@[simp] theorem State.install_sk (s : State) (l : Lane) : (s.install l).sk = s.sk := by simp [State.install]
@[simp] theorem State.commitBank_sk (s : State) (l : Lane) : (s.commitBank l).sk = s.sk := by simp [State.commitBank]
@[simp] theorem State.advanceTo_sk (s : State) (l : Lane) (v : ℕ) : (s.advanceTo l v).sk = s.sk := by simp [State.advanceTo]

@[simp] theorem State.cryDone_sk (s : State) (l : Lane) (op : ℕ) (sig : List Byte) : (s.cryDone l op sig).sk = s.sk := by
  unfold State.cryDone; split <;> simp

@[simp] theorem State.cryHalf_sk (s : State) (l : Lane) (op : ℕ) : (s.cryHalf l op).sk = s.sk := by simp [State.cryHalf]

@[simp] theorem execCryCmdDone_sk (l : Lane) (code : Fin 16) (signature : List Byte) (s : State) :
    (nextOr s (execCryCmdDone l code signature s)).sk = s.sk := by simp [execCryCmdDone]

/-! CAN -/

@[simp] theorem State.canRaise_sk (s : State) (l : Lane) (k src : ℕ) : (s.canRaise l k src).sk = s.sk := by simp [State.canRaise]
@[simp] theorem State.canCounts_sk (s : State) (l : Lane) (k tec rec_ : ℕ) : (s.canCounts l k tec rec_).sk = s.sk := by simp [State.canCounts]

@[simp] theorem State.canFailed_sk (s : State) (l : Lane) (k : ℕ) (final : Bool) : (s.canFailed l k final).sk = s.sk := by
  dsimp only [State.canFailed]; split <;> simp

@[simp] theorem State.canSof_sk (s : State) (l : Lane) (k e : ℕ) (once : Bool) : (s.canSof l k e once).sk = s.sk := by simp [State.canSof]
@[simp] theorem State.canMeasure_sk (s : State) (l : Lane) (k e meas : ℕ) : (s.canMeasure l k e meas).sk = s.sk := by simp [State.canMeasure]

@[simp] theorem execCanTxStart_sk (l : Lane) (k : Fin 4) (meas : ℕ) (s : State) : (nextOr s (execCanTxStart l k meas s)).sk = s.sk := by
  unfold execCanTxStart; split <;> simp

@[simp] theorem State.canCommit_sk (s : State) (l : Lane) (k e : ℕ) : (s.canCommit l k e).sk = s.sk := by simp [State.canCommit]

@[simp] theorem execCanTxCommit_sk (l : Lane) (k : Fin 4) (e : Fin 32) (v : Word) (s : State) : (nextOr s (execCanTxCommit l k e v s)).sk = s.sk := by
  simp [execCanTxCommit]

@[simp] theorem execCanTxCancel_sk (l : Lane) (k : Fin 4) (e : Fin 32) (s : State) : (nextOr s (execCanTxCancel l k e s)).sk = s.sk := by
  simp [execCanTxCancel]

@[simp] theorem State.canPutByte_sk (s : State) (l : Lane) (k ofs : ℕ) (v : Byte) : (s.canPutByte l k ofs v).sk = s.sk := by simp [State.canPutByte]

@[simp] theorem State.canPut_sk (s : State) (l : Lane) (k ofs : ℕ) (xs : List Byte) : (s.canPut l k ofs xs).sk = s.sk := by
  induction xs generalizing s l k ofs with
  | nil => rfl
  | cons x xs ih => simp -implicitDefEqProofs [State.canPut, ih]

@[simp] theorem State.canStore_sk (s : State) (l : Lane) (k ofs : ℕ) (f : CanFrame) (d : CanDest) (ts : ℕ) : (s.canStore l k ofs f d ts).sk = s.sk := by
  simp [State.canStore]

@[simp] theorem State.canCount_sk (s : State) (l : Lane) (k q n : ℕ) : (s.canCount l k q n).sk = s.sk := by simp [State.canCount]

@[simp] theorem State.canFifo_sk (s : State) (l : Lane) (k q : ℕ) (f : CanFrame) (d : CanDest) (ts : ℕ) : (s.canFifo l k q f d ts).1.sk = s.sk := by
  dsimp only [State.canFifo]; (repeat' split) <;> simp -implicitDefEqProofs

@[simp] theorem State.canBuffer_sk (s : State) (l : Lane) (k : ℕ) (f : CanFrame) (d : CanDest) (ts : ℕ) : (s.canBuffer l k f d ts).sk = s.sk := by
  simp [State.canBuffer]

@[simp] theorem State.canAccept_sk (s : State) (l : Lane) (k : ℕ) (f : CanFrame) (ts : ℕ) : (s.canAccept l k f ts).sk = s.sk := by
  dsimp only [State.canAccept]; split <;> simp

@[simp] theorem State.canRef_sk (s : State) (l : Lane) (k c at_ : ℕ) (own : Bool) : (s.canRef l k c at_ own).sk = s.sk := by simp [State.canRef]
@[simp] theorem State.canRxCount_sk (s : State) (l : Lane) (k : ℕ) : (s.canRxCount l k).sk = s.sk := by simp [State.canRxCount]
@[simp] theorem State.canRxBad_sk (s : State) (l : Lane) (k n : ℕ) : (s.canRxBad l k n).sk = s.sk := by simp [State.canRxBad]

@[simp] theorem execCanRxFrame_sk (l : Lane) (k : Fin 4) (f : CanFrame) (sofAgo : ℕ) (s : State) :
    (nextOr s (execCanRxFrame l k f sofAgo s)).sk = s.sk := by
  dsimp only [execCanRxFrame]; (repeat' split) <;> simp

@[simp] theorem execCanRxError_sk (l : Lane) (k : Fin 4) (recAdd : ℕ) (s : State) : (nextOr s (execCanRxError l k recAdd s)).sk = s.sk := by
  simp [execCanRxError]

@[simp] theorem execCanReintegrate_sk (l : Lane) (k : Fin 4) (s : State) : (nextOr s (execCanReintegrate l k s)).sk = s.sk := by
  simp [execCanReintegrate]

@[simp] theorem State.canOwnRef_sk (s : State) (l : Lane) (k c : ℕ) : (s.canOwnRef l k c).2.sk = s.sk := by simp [State.canOwnRef]
@[simp] theorem State.canTxCount_sk (s : State) (l : Lane) (k : ℕ) : (s.canTxCount l k).sk = s.sk := by simp [State.canTxCount]

@[simp] theorem execCanTxSuccess_sk (l : Lane) (k : Fin 4) (s : State) : (nextOr s (execCanTxSuccess l k s)).sk = s.sk := by
  dsimp only [execCanTxSuccess]; (repeat' split) <;> simp -implicitDefEqProofs

@[simp] theorem State.canAckRun_sk (s : State) (l : Lane) (k : ℕ) : (s.canAckRun l k).sk = s.sk := by simp [State.canAckRun]

@[simp] theorem execCanTxError_sk (l : Lane) (k : Fin 4) (ack dominantSeen : Bool) (s : State) :
    (nextOr s (execCanTxError l k ack dominantSeen s)).sk = s.sk := by simp [execCanTxError]

@[simp] theorem execCanRecoverWrite_sk (l : Lane) (k : Fin 4) (v : Word) (s : State) : (nextOr s (execCanRecoverWrite l k v s)).sk = s.sk := by
  simp [execCanRecoverWrite]

@[simp] theorem execCanRecoveryDone_sk (l : Lane) (k : Fin 4) (s : State) : (nextOr s (execCanRecoveryDone l k s)).sk = s.sk := by
  simp [execCanRecoveryDone]

@[simp] theorem execCanFifoRelease_sk (l : Lane) (k : Fin 4) (q : Fin 2) (v : Word) (s : State) :
    (nextOr s (execCanFifoRelease l k q v s)).sk = s.sk := by simp -implicitDefEqProofs [execCanFifoRelease]

@[simp] theorem execCanTtRefSend_sk (l : Lane) (k : Fin 4) (s : State) : (nextOr s (execCanTtRefSend l k s)).sk = s.sk := by simp [execCanTtRefSend]

@[simp] theorem execCanTtWindowStart_sk (l : Lane) (k : Fin 4) (col : Fin 32) (s : State) : (nextOr s (execCanTtWindowStart l k col s)).sk = s.sk :=
  by
  dsimp only [execCanTtWindowStart]; (repeat' split) <;> simp

@[simp] theorem execCanTtRefLost_sk (l : Lane) (k : Fin 4) (s : State) : (nextOr s (execCanTtRefLost l k s)).sk = s.sk := by simp [execCanTtRefLost]

@[simp] theorem State.canOff_sk (s : State) (l : Lane) (k : ℕ) : (s.canOff l k).sk = s.sk := by
  unfold State.canOff; split <;> simp

@[simp] theorem execCanEnWrite_sk (l : Lane) (k : Fin 4) (v : Word) (s : State) : (nextOr s (execCanEnWrite l k v s)).sk = s.sk := by
  dsimp only [execCanEnWrite]; (repeat' split) <;> simp

end Sys2Proof.Machine
end

section
/-! SUPPORT. What the instructions of a job leave of Skink. -/

namespace Sys2Proof.Machine

open Sys2Proof

/-- The state that an instruction's result leaves; an exception leaves it as it was. -/
def Res.stateOr (s : State) : Res → State
  | .exc _ => s
  | .ok t _ => t

@[simp] theorem Res.stateOr_exc (s : State) (c : ℕ) : (Res.exc c).stateOr s = s := by rw [Res.stateOr]
@[simp] theorem Res.stateOr_ok (s t : State) (x : Job) : (Res.ok t x).stateOr s = t := by rw [Res.stateOr]
@[simp] theorem Res.stateOr_ite (c : Prop) [Decidable c] (s : State) (x y : Res) :
    (if c then x else y).stateOr s = if c then x.stateOr s else y.stateOr s := apply_ite _ c x y

/-- The instruction's body leaves Skink as it is. -/
def BodyKeepsSk (body : Ins → State → Job → Res) : Prop := ∀ i s x, ((body i s x).stateOr s).sk = s.sk

@[simp] theorem bodyKeepsSk_iff (body : Ins → State → Job → Res) :
    BodyKeepsSk body ↔ ∀ i s x, ((body i s x).stateOr s).sk = s.sk := ⟨fun h => h, fun h => h⟩

/-! Issue and control -/

@[simp] theorem State.issue_sk (s : State) (l : Lane) (j : ℕ) (w : DWord) (op lo : ℕ) {body : Ins → State → Job → Res}
    (hb : BodyKeepsSk body) : (nextOr s (s.issue l j w op lo body)).sk = s.sk := by
  unfold State.issue
  dsimp only
  split
  · simp
  split
  · simp -implicitDefEqProofs
  split
  · simp
  split
  · simp -implicitDefEqProofs
  next f _ _ _ =>
    have h := hb (insOf w) s { s.job l j with pc := (s.job l j).pc + 8 }
    split
    · simp -implicitDefEqProofs
    · simp -implicitDefEqProofs
    next t y hy =>
      rw [hy, Res.stateOr_ok] at h
      simp -implicitDefEqProofs [h]

@[simp] theorem goTo_sk (n : ℕ) (s : State) (x : Job) : ((goTo n s x).stateOr s).sk = s.sk := by simp [goTo]

@[simp] theorem brIf_sk (b : Bool) (i : Ins) (s : State) (x : Job) : ((brIf b i s x).stateOr s).sk = s.sk := by
  simp [brIf]

@[simp] theorem spawnJob_sk (l : Lane) (i : Ins) (a : Option Word) (s : State) (x : Job) : ((spawnJob l i a s x).stateOr s).sk = s.sk := by
  unfold spawnJob
  split <;> simp

@[simp] theorem setBlk_stateOr (i : Ins) (s : State) (x : Job) (xs : List Ex) : (setBlk i s x xs).stateOr s = s := by simp [setBlk]

@[simp] theorem bintOf_stateOr (i : Ins) (s : State) (x : Job) (lo hi : ℕ → ℤ) : (bintOf i s x lo hi).stateOr s = s := by
  simp [bintOf]

@[simp] theorem bfixOf_stateOr (l : Lane) (i : Ins) (w : ℕ) (s : State) (x : Job) : (bfixOf l i w s x).stateOr s = s := by
  dsimp only [bfixOf]
  split <;> simp

@[simp] theorem bfltOf_stateOr (l : Lane) (i : Ins) (w : ℕ) (s : State) (x : Job) : (bfltOf l i w s x).stateOr s = s := by
  dsimp only [bfltOf]
  split <;> simp

theorem tluAt_stateOr (l : Lane) (i : Ins) (s : State) (x : Job) (ha : ℕ) (h : Header) (p : ℤ) : (tluAt l i s x ha h p).stateOr s = s := by
  unfold tluAt
  split
  split <;> simp

theorem tluOf_stateOr (l : Lane) (i : Ins) (s : State) (x : Job) (pos : Res ⊕ ℤ) (hpos : ∀ r, pos = .inl r → r.stateOr s = s) :
    (tluOf l i s x pos).stateOr s = s := by
  dsimp only [tluOf]
  split
  · simp
  split
  · simp
  cases pos with
  | inl r => exact hpos r rfl
  | inr p => exact tluAt_stateOr l i s x _ _ _

@[simp] theorem execNop_sk (l : Lane) (j : Fin 256) (w : DWord) (s : State) : (nextOr s (execNop l j w s)).sk = s.sk := by simp [execNop]
@[simp] theorem execEnd_sk (l : Lane) (j : Fin 256) (w : DWord) (s : State) : (nextOr s (execEnd l j w s)).sk = s.sk := by simp [execEnd]
@[simp] theorem execWait_sk (l : Lane) (j : Fin 256) (w : DWord) (s : State) : (nextOr s (execWait l j w s)).sk = s.sk := by simp [execWait]
@[simp] theorem execSpawn_sk (l : Lane) (j : Fin 256) (w : DWord) (s : State) : (nextOr s (execSpawn l j w s)).sk = s.sk := by simp [execSpawn]

@[simp] theorem execSpawnArg_sk (l : Lane) (j : Fin 256) (w : DWord) (s : State) : (nextOr s (execSpawnArg l j w s)).sk = s.sk := by
  simp [execSpawnArg]

@[simp] theorem execHoldL_sk (l : Lane) (j : Fin 256) (w : DWord) (s : State) : (nextOr s (execHoldL l j w s)).sk = s.sk := by simp [execHoldL]
@[simp] theorem execHoldO_sk (l : Lane) (j : Fin 256) (w : DWord) (s : State) : (nextOr s (execHoldO l j w s)).sk = s.sk := by simp [execHoldO]
@[simp] theorem execHoldA_sk (l : Lane) (j : Fin 256) (w : DWord) (s : State) : (nextOr s (execHoldA l j w s)).sk = s.sk := by simp [execHoldA]
@[simp] theorem execTimeJ_sk (l : Lane) (j : Fin 256) (w : DWord) (s : State) : (nextOr s (execTimeJ l j w s)).sk = s.sk := by simp [execTimeJ]
@[simp] theorem execTimeL_sk (l : Lane) (j : Fin 256) (w : DWord) (s : State) : (nextOr s (execTimeL l j w s)).sk = s.sk := by simp [execTimeL]
@[simp] theorem execTimeH_sk (l : Lane) (j : Fin 256) (w : DWord) (s : State) : (nextOr s (execTimeH l j w s)).sk = s.sk := by simp [execTimeH]
@[simp] theorem execBrT_sk (l : Lane) (j : Fin 256) (w : DWord) (s : State) : (nextOr s (execBrT l j w s)).sk = s.sk := by simp [execBrT]
@[simp] theorem execBrF_sk (l : Lane) (j : Fin 256) (w : DWord) (s : State) : (nextOr s (execBrF l j w s)).sk = s.sk := by simp [execBrF]
@[simp] theorem execJmp_sk (l : Lane) (j : Fin 256) (w : DWord) (s : State) : (nextOr s (execJmp l j w s)).sk = s.sk := by simp [execJmp]
@[simp] theorem execPsetCc_sk (l : Lane) (j : Fin 256) (w : DWord) (s : State) : (nextOr s (execPsetCc l j w s)).sk = s.sk := by simp [execPsetCc]
@[simp] theorem execPsetCcz_sk (l : Lane) (j : Fin 256) (w : DWord) (s : State) : (nextOr s (execPsetCcz l j w s)).sk = s.sk := by simp [execPsetCcz]
@[simp] theorem execPsetaCc_sk (l : Lane) (j : Fin 256) (w : DWord) (s : State) : (nextOr s (execPsetaCc l j w s)).sk = s.sk := by simp [execPsetaCc]

@[simp] theorem execPsetaCcu_sk (l : Lane) (j : Fin 256) (w : DWord) (s : State) : (nextOr s (execPsetaCcu l j w s)).sk = s.sk := by
  simp [execPsetaCcu]

@[simp] theorem execPlog_sk (l : Lane) (j : Fin 256) (w : DWord) (s : State) : (nextOr s (execPlog l j w s)).sk = s.sk := by simp [execPlog]
@[simp] theorem execAopAddi_sk (l : Lane) (j : Fin 256) (w : DWord) (s : State) : (nextOr s (execAopAddi l j w s)).sk = s.sk := by simp [execAopAddi]
@[simp] theorem execAopAdd_sk (l : Lane) (j : Fin 256) (w : DWord) (s : State) : (nextOr s (execAopAdd l j w s)).sk = s.sk := by simp [execAopAdd]
@[simp] theorem execAopSub_sk (l : Lane) (j : Fin 256) (w : DWord) (s : State) : (nextOr s (execAopSub l j w s)).sk = s.sk := by simp [execAopSub]
@[simp] theorem execAopSet_sk (l : Lane) (j : Fin 256) (w : DWord) (s : State) : (nextOr s (execAopSet l j w s)).sk = s.sk := by simp [execAopSet]
@[simp] theorem execAopAndi_sk (l : Lane) (j : Fin 256) (w : DWord) (s : State) : (nextOr s (execAopAndi l j w s)).sk = s.sk := by simp [execAopAndi]
@[simp] theorem execAopShl_sk (l : Lane) (j : Fin 256) (w : DWord) (s : State) : (nextOr s (execAopShl l j w s)).sk = s.sk := by simp [execAopShl]
@[simp] theorem execAopSar_sk (l : Lane) (j : Fin 256) (w : DWord) (s : State) : (nextOr s (execAopSar l j w s)).sk = s.sk := by simp [execAopSar]

/-! Blocks -/

@[simp] theorem execBadd_sk (l : Lane) (j : Fin 256) (w : DWord) (s : State) : (nextOr s (execBadd l j w s)).sk = s.sk := by simp [execBadd]
@[simp] theorem execBsub_sk (l : Lane) (j : Fin 256) (w : DWord) (s : State) : (nextOr s (execBsub l j w s)).sk = s.sk := by simp [execBsub]
@[simp] theorem execBmul_sk (l : Lane) (j : Fin 256) (w : DWord) (s : State) : (nextOr s (execBmul l j w s)).sk = s.sk := by simp [execBmul]
@[simp] theorem execBmac_sk (l : Lane) (j : Fin 256) (w : DWord) (s : State) : (nextOr s (execBmac l j w s)).sk = s.sk := by simp [execBmac]

@[simp] theorem execBmsu_sk (l : Lane) (j : Fin 256) (w : DWord) (s : State) : (nextOr s (execBmsu l j w s)).sk = s.sk := by
  simp -implicitDefEqProofs [execBmsu]

@[simp] theorem execBdot_sk (l : Lane) (j : Fin 256) (w : DWord) (s : State) : (nextOr s (execBdot l j w s)).sk = s.sk := by simp [execBdot]
@[simp] theorem execBsum_sk (l : Lane) (j : Fin 256) (w : DWord) (s : State) : (nextOr s (execBsum l j w s)).sk = s.sk := by simp [execBsum]
@[simp] theorem execBmaxr_sk (l : Lane) (j : Fin 256) (w : DWord) (s : State) : (nextOr s (execBmaxr l j w s)).sk = s.sk := by simp [execBmaxr]
@[simp] theorem execBneg_sk (l : Lane) (j : Fin 256) (w : DWord) (s : State) : (nextOr s (execBneg l j w s)).sk = s.sk := by simp [execBneg]
@[simp] theorem execBabs_sk (l : Lane) (j : Fin 256) (w : DWord) (s : State) : (nextOr s (execBabs l j w s)).sk = s.sk := by simp [execBabs]
@[simp] theorem execBmin_sk (l : Lane) (j : Fin 256) (w : DWord) (s : State) : (nextOr s (execBmin l j w s)).sk = s.sk := by simp [execBmin]
@[simp] theorem execBmax_sk (l : Lane) (j : Fin 256) (w : DWord) (s : State) : (nextOr s (execBmax l j w s)).sk = s.sk := by simp [execBmax]

@[simp] theorem execBclamp_sk (l : Lane) (j : Fin 256) (w : DWord) (s : State) : (nextOr s (execBclamp l j w s)).sk = s.sk := by
  simp -implicitDefEqProofs [execBclamp]

@[simp] theorem execBlerp_sk (l : Lane) (j : Fin 256) (w : DWord) (s : State) : (nextOr s (execBlerp l j w s)).sk = s.sk := by simp [execBlerp]
@[simp] theorem execBrcp_sk (l : Lane) (j : Fin 256) (w : DWord) (s : State) : (nextOr s (execBrcp l j w s)).sk = s.sk := by simp [execBrcp]
@[simp] theorem execBrsq_sk (l : Lane) (j : Fin 256) (w : DWord) (s : State) : (nextOr s (execBrsq l j w s)).sk = s.sk := by simp [execBrsq]
@[simp] theorem execBnorm_sk (l : Lane) (j : Fin 256) (w : DWord) (s : State) : (nextOr s (execBnorm l j w s)).sk = s.sk := by simp [execBnorm]
@[simp] theorem execBexpE_sk (l : Lane) (j : Fin 256) (w : DWord) (s : State) : (nextOr s (execBexpE l j w s)).sk = s.sk := by simp [execBexpE]
@[simp] theorem execBexpC_sk (l : Lane) (j : Fin 256) (w : DWord) (s : State) : (nextOr s (execBexpC l j w s)).sk = s.sk := by simp [execBexpC]
@[simp] theorem execBexpS_sk (l : Lane) (j : Fin 256) (w : DWord) (s : State) : (nextOr s (execBexpS l j w s)).sk = s.sk := by simp [execBexpS]
@[simp] theorem execBperm_sk (l : Lane) (j : Fin 256) (w : DWord) (s : State) : (nextOr s (execBperm l j w s)).sk = s.sk := by simp [execBperm]
@[simp] theorem execBsplat_sk (l : Lane) (j : Fin 256) (w : DWord) (s : State) : (nextOr s (execBsplat l j w s)).sk = s.sk := by simp [execBsplat]
@[simp] theorem execBpick_sk (l : Lane) (j : Fin 256) (w : DWord) (s : State) : (nextOr s (execBpick l j w s)).sk = s.sk := by simp [execBpick]
@[simp] theorem execBins_sk (l : Lane) (j : Fin 256) (w : DWord) (s : State) : (nextOr s (execBins l j w s)).sk = s.sk := by simp [execBins]
@[simp] theorem execBsetc_sk (l : Lane) (j : Fin 256) (w : DWord) (s : State) : (nextOr s (execBsetc l j w s)).sk = s.sk := by simp [execBsetc]
@[simp] theorem execBsel_sk (l : Lane) (j : Fin 256) (w : DWord) (s : State) : (nextOr s (execBsel l j w s)).sk = s.sk := by simp [execBsel]
@[simp] theorem execBclarke_sk (l : Lane) (j : Fin 256) (w : DWord) (s : State) : (nextOr s (execBclarke l j w s)).sk = s.sk := by simp [execBclarke]

@[simp] theorem execBclarke2_sk (l : Lane) (j : Fin 256) (w : DWord) (s : State) : (nextOr s (execBclarke2 l j w s)).sk = s.sk := by
  simp [execBclarke2]

@[simp] theorem execBpark_sk (l : Lane) (j : Fin 256) (w : DWord) (s : State) : (nextOr s (execBpark l j w s)).sk = s.sk := by simp [execBpark]
@[simp] theorem execBipark_sk (l : Lane) (j : Fin 256) (w : DWord) (s : State) : (nextOr s (execBipark l j w s)).sk = s.sk := by simp [execBipark]
@[simp] theorem execBsvm_sk (l : Lane) (j : Fin 256) (w : DWord) (s : State) : (nextOr s (execBsvm l j w s)).sk = s.sk := by simp [execBsvm]
@[simp] theorem execBsincos_sk (l : Lane) (j : Fin 256) (w : DWord) (s : State) : (nextOr s (execBsincos l j w s)).sk = s.sk := by simp [execBsincos]
@[simp] theorem execBatan2_sk (l : Lane) (j : Fin 256) (w : DWord) (s : State) : (nextOr s (execBatan2 l j w s)).sk = s.sk := by simp [execBatan2]
@[simp] theorem execBint_sk (l : Lane) (j : Fin 256) (w : DWord) (s : State) : (nextOr s (execBint l j w s)).sk = s.sk := by simp [execBint]
@[simp] theorem execBintLu_sk (l : Lane) (j : Fin 256) (w : DWord) (s : State) : (nextOr s (execBintLu l j w s)).sk = s.sk := by simp [execBintLu]
@[simp] theorem execBfltA_sk (l : Lane) (j : Fin 256) (w : DWord) (s : State) : (nextOr s (execBfltA l j w s)).sk = s.sk := by simp [execBfltA]
@[simp] theorem execBconst_sk (l : Lane) (j : Fin 256) (w : DWord) (s : State) : (nextOr s (execBconst l j w s)).sk = s.sk := by simp [execBconst]

/-! Memory and output -/

@[simp] theorem execLdb_sk (l : Lane) (j : Fin 256) (w : DWord) (s : State) : (nextOr s (execLdb l j w s)).sk = s.sk := by
  rw [execLdb]
  refine State.issue_sk _ _ _ _ _ _ fun i s x => ?_
  split <;> simp

@[simp] theorem execStb_sk (l : Lane) (j : Fin 256) (w : DWord) (s : State) : (nextOr s (execStb l j w s)).sk = s.sk := by
  rw [execStb]
  refine State.issue_sk _ _ _ _ _ _ fun i s x => ?_
  split <;> simp

@[simp] theorem execLda_sk (l : Lane) (j : Fin 256) (w : DWord) (s : State) : (nextOr s (execLda l j w s)).sk = s.sk := by
  rw [execLda]
  refine State.issue_sk _ _ _ _ _ _ fun i s x => ?_
  split <;> simp

@[simp] theorem execSta_sk (l : Lane) (j : Fin 256) (w : DWord) (s : State) : (nextOr s (execSta l j w s)).sk = s.sk := by
  rw [execSta]
  refine State.issue_sk _ _ _ _ _ _ fun i s x => ?_
  split <;> simp

@[simp] theorem execBfixW_sk (l : Lane) (j : Fin 256) (w : DWord) (s : State) : (nextOr s (execBfixW l j w s)).sk = s.sk := by simp [execBfixW]
@[simp] theorem execBfixD_sk (l : Lane) (j : Fin 256) (w : DWord) (s : State) : (nextOr s (execBfixD l j w s)).sk = s.sk := by simp [execBfixD]
@[simp] theorem execBfltW_sk (l : Lane) (j : Fin 256) (w : DWord) (s : State) : (nextOr s (execBfltW l j w s)).sk = s.sk := by simp [execBfltW]
@[simp] theorem execBfltD_sk (l : Lane) (j : Fin 256) (w : DWord) (s : State) : (nextOr s (execBfltD l j w s)).sk = s.sk := by simp [execBfltD]

@[simp] theorem execIn_sk (l : Lane) (j : Fin 256) (w : DWord) (s : State) : (nextOr s (execIn l j w s)).sk = s.sk := by
  rw [execIn]
  refine State.issue_sk _ _ _ _ _ _ fun i s x => ?_
  dsimp only
  split <;> simp

@[simp] theorem execOut_sk (l : Lane) (j : Fin 256) (w : DWord) (s : State) : (nextOr s (execOut l j w s)).sk = s.sk := by simp [execOut]

@[simp] theorem execTlu_sk (l : Lane) (j : Fin 256) (w : DWord) (s : State) : (nextOr s (execTlu l j w s)).sk = s.sk := by
  rw [execTlu]
  refine State.issue_sk _ _ _ _ _ _ fun i s x => ?_
  dsimp only
  rw [tluOf_stateOr]
  intro r h
  split at h <;> cases h
  simp

@[simp] theorem execTluA_sk (l : Lane) (j : Fin 256) (w : DWord) (s : State) : (nextOr s (execTluA l j w s)).sk = s.sk := by
  rw [execTluA]
  exact State.issue_sk _ _ _ _ _ _ fun i s x => by rw [tluOf_stateOr l i s x _ fun _ h => by cases h]

end Sys2Proof.Machine
end

section
/-! SUPPORT. What interrupts, memory, registers and transfers leave of Skink. -/

namespace Sys2Proof.Machine

open Sys2Proof

/-! Interrupts -/

@[simp] theorem State.icArrive_sk (s : State) (l : Lane) (c src : ℕ) : (s.icArrive l c src).sk = s.sk := by simp [State.icArrive]

@[simp] theorem execIcArrival_sk (l : Lane) (i : Fin 384) (e : IcEdge) (s : State) : (nextOr s (execIcArrival l i e s)).sk = s.sk := by
  dsimp only [execIcArrival]; (repeat' split) <;> simp

@[simp] theorem execIcSwset_sk (l : Lane) (core : Fin 3) (hi : Bool) (v : Word) (s : State) : (nextOr s (execIcSwset l core hi v s)).sk = s.sk := by
  simp [execIcSwset]

@[simp] theorem execIcPresent_sk (l : Lane) (core : Fin 3) (s : State) : (nextOr s (execIcPresent l core s)).sk = s.sk := by simp [execIcPresent]

@[simp] theorem execIcTrapEntry_sk (l : Lane) (core : Fin 3) (s : State) : (nextOr s (execIcTrapEntry l core s)).sk = s.sk := by
  dsimp only [execIcTrapEntry]; split <;> simp

@[simp] theorem execIcEoi_sk (l : Lane) (core : Fin 3) (v : Word) (s : State) : (nextOr s (execIcEoi l core v s)).sk = s.sk := by simp [execIcEoi]

@[simp] theorem execIcSrcRead_sk (l : Lane) (core : Fin 3) (src : Fin 448) (s : State) : (nextOr s (execIcSrcRead l core src s)).sk = s.sk := by
  simp [execIcSrcRead]

@[simp] theorem State.icMaskWrite_sk (s : State) (l : Lane) (c w : ℕ) (v : Word) : (s.icMaskWrite l c w v).sk = s.sk := by
  dsimp only [State.icMaskWrite]; split <;> simp

/-! Memories, DMA and the recorder -/

@[simp] theorem execDramFillDone_sk (l : Lane) (s : State) : (nextOr s (execDramFillDone l s)).sk = s.sk := by simp [execDramFillDone]
@[simp] theorem execScrubRead_sk (l : Lane) (s : State) : (nextOr s (execScrubRead l s)).sk = s.sk := by simp [execScrubRead]

@[simp] theorem State.memcError_sk (s : State) (l : Lane) (m addr : ℕ) (unc : Bool) : (s.memcError l m addr unc).sk = s.sk := by
  simp [State.memcError]

@[simp] theorem State.memError_sk (s : State) (l : Lane) (m addr : ℕ) (unc : Bool) (corrSrc uncSrc : ℕ) :
    (s.memError l m addr unc corrSrc uncSrc).sk = s.sk := by simp [State.memError]

@[simp] theorem State.canEcc_sk (s : State) (l : Lane) (k addr : ℕ) : (s.canEcc l k addr).sk = s.sk := by
  dsimp only [State.canEcc]; (repeat' split) <;> simp

@[simp] theorem execMemoryEccError_sk (l : Lane) (m : EccMem) (addr : ℕ) (uncorrectable : Bool) (s : State) :
    (nextOr s (execMemoryEccError l m addr uncorrectable s)).sk = s.sk := by
  dsimp only [execMemoryEccError]; (repeat' split) <;> simp

@[simp] theorem execErraddrLRead_sk (l : Lane) (s : State) : (nextOr s (execErraddrLRead l s)).sk = s.sk := by simp [execErraddrLRead]

@[simp] theorem State.storesOut_sk (s : State) (l : Lane) (n : ℕ) : (s.storesOut l n).sk = s.sk := by
  induction n generalizing s with
  | zero => rfl
  | succ n ih => cases h : (s.lane l).stores <;> simp [State.storesOut, h, ih]

@[simp] theorem execXfence_sk (l : Lane) (core : Fin 3) (s : State) : (nextOr s (execXfence l core s)).sk = s.sk := by simp [execXfence]
@[simp] theorem execXfenceDone_sk (l : Lane) (core : Fin 3) (s : State) : (nextOr s (execXfenceDone l core s)).sk = s.sk := by simp [execXfenceDone]

@[simp] theorem execXfenceTimeout_sk (l : Lane) (core : Fin 3) (s : State) : (nextOr s (execXfenceTimeout l core s)).sk = s.sk := by
  dsimp only [execXfenceTimeout]; split <;> simp

@[simp] theorem execMachineTimer_sk (l : Lane) (core : Fin 3) (s : State) : (nextOr s (execMachineTimer l core s)).sk = s.sk := by
  simp [execMachineTimer]

@[simp] theorem execDmaGo_sk (l : Lane) (ch : Fin 16) (s : State) : (nextOr s (execDmaGo l ch s)).sk = s.sk := by simp [execDmaGo]
@[simp] theorem execDmaStop_sk (l : Lane) (ch : Fin 16) (s : State) : (nextOr s (execDmaStop l ch s)).sk = s.sk := by simp [execDmaStop]
@[simp] theorem State.setErPtr_sk (s : State) (l : Lane) (a : ℕ) : (s.setErPtr l a).sk = s.sk := by simp [State.setErPtr]

@[simp] theorem execErEnWrite_sk (l : Lane) (v : Word) (s : State) : (nextOr s (execErEnWrite l v s)).sk = s.sk := by
  simp -implicitDefEqProofs [execErEnWrite]

@[simp] theorem execErFreezeCmd_sk (l : Lane) (s : State) : (nextOr s (execErFreezeCmd l s)).sk = s.sk := by simp [execErFreezeCmd]
@[simp] theorem State.erFree_sk (s : State) (l : Lane) (n : ℕ) : (s.erFree l n).sk = s.sk := by simp [State.erFree]
@[simp] theorem execErReleaseCmd_sk (l : Lane) (v : Word) (s : State) : (nextOr s (execErReleaseCmd l v s)).sk = s.sk := by simp [execErReleaseCmd]

/-! Register reads -/

@[simp] theorem State.byRead_sk (s : State) (o : Host.Outcome State Fault Refusal) : (s.byRead o).2.sk = (nextOr s o).sk := rfl

@[simp] theorem State.openWord_sk (s : State) (v : Word) (xs : List Fld) : (s.openWord v xs).2.sk = s.sk := by
  induction xs generalizing s v with
  | nil => rfl
  | cons x xs ih => simp -implicitDefEqProofs [State.openWord, ih]

@[simp] theorem State.rowReadBy_sk (s : State) (l : Lane) (a : ℕ) : (s.rowReadBy l a).2.sk = s.sk := by
  unfold State.rowReadBy; split <;> simp

theorem State.latchRead_sk (s : State) (l : Lane) (a : ℕ) : ∀ r ∈ s.latchRead l a, r.2.sk = s.sk := by
  unfold State.latchRead
  (repeat' split) <;> simp -implicitDefEqProofs +contextual

@[simp] theorem State.readReg_sk (s : State) (l : Lane) (a : ℕ) : (s.readReg l a).2.sk = s.sk := by
  unfold State.readReg
  split
  case h_1 r h => exact s.latchRead_sk l a r h
  case h_2 => split <;> simp

@[simp] theorem State.busRead32_sk (s : State) (l : Lane) (a : ℕ) : (s.busRead32 l a).2.sk = s.sk := by
  dsimp only [State.busRead32]; (repeat' split) <;> simp

/-! Retention check -/

@[simp] theorem State.alignNone_sk (s : State) (l : DLane) (n : ℕ) : (s.alignNone l n).sk = s.sk := by simp [State.alignNone]

@[simp] theorem execFbEnWrite_sk (l : DLane) (n : Fin 6) (v : Word) (s : State) : (nextOr s (execFbEnWrite l n v s)).sk = s.sk := by
  dsimp only [execFbEnWrite]; (repeat' split) <;> simp

@[simp] theorem State.retConsume_sk (s : State) (l : DLane) (n : ℕ) : (s.retConsume l n).sk = s.sk := by simp [State.retConsume]

@[simp] theorem execRetentionCheckDone_sk (l : DLane) (n : Fin 6) (s : State) : (nextOr s (execRetentionCheckDone l n s)).sk = s.sk := by
  simp [execRetentionCheckDone]

/-! Register writes -/

@[simp] theorem State.plainWrite_sk (s : State) (l : Lane) (a : ℕ) (v : Word) : (s.plainWrite l a v).sk = s.sk := by simp [State.plainWrite]
@[simp] theorem State.wrLe_sk (s : State) (l : Lane) (a o : ℕ) (v : Word) : (s.wrLe l a o v).sk = s.sk := by simp [State.wrLe]

@[simp] theorem State.wrDrive_sk (s : State) (d : DLane) (a : ℕ) (v : Word) : (s.wrDrive d a v).sk = s.sk := by
  dsimp only [State.wrDrive]; (repeat' split) <;> simp

@[simp] theorem State.wrFb_sk (s : State) (l : Lane) (a : ℕ) (v : Word) : (s.wrFb l a v).sk = s.sk := by
  unfold State.wrFb; split <;> simp

@[simp] theorem State.wrScn_sk (s : State) (l : Lane) (a : ℕ) (v : Word) : (s.wrScn l a v).sk = s.sk := by simp [State.wrScn]
@[simp] theorem State.wrCanTx_sk (s : State) (l : Lane) (k : Fin 4) (a o : ℕ) (v : Word) : (s.wrCanTx l k a o v).sk = s.sk := by simp [State.wrCanTx]
@[simp] theorem State.wrCan_sk (s : State) (l : Lane) (a : ℕ) (v : Word) : (s.wrCan l a v).sk = s.sk := by simp [State.wrCan]
@[simp] theorem State.wrIc_sk (s : State) (l : Lane) (a : ℕ) (v : Word) : (s.wrIc l a v).sk = s.sk := by simp [State.wrIc]
@[simp] theorem State.wrFc_sk (s : State) (l : Lane) (a o : ℕ) (v : Word) : (s.wrFc l a o v).sk = s.sk := by simp [State.wrFc]
@[simp] theorem State.wrDma_sk (s : State) (l : Lane) (a o : ℕ) (v : Word) : (s.wrDma l a o v).sk = s.sk := by simp [State.wrDma]

@[simp] theorem State.wrCry_sk (s : State) (l : Lane) (a o : ℕ) (v : Word) : (s.wrCry l a o v).sk = s.sk := by
  dsimp only [State.wrCry]; (repeat' split) <;> simp

@[simp] theorem State.wrEr_sk (s : State) (l : Lane) (a o : ℕ) (v : Word) : (s.wrEr l a o v).sk = s.sk := by simp [State.wrEr]
@[simp] theorem State.wrUnit_locked (s : State) (l : Lane) (a : ℕ) (v : Word) : (s.wrUnit l a v).sk.locked = s.sk.locked := by simp [State.wrUnit]

@[simp] theorem State.wrBlock_sk (s : State) (l : Lane) (a : ℕ) (v : Word) : (s.wrBlock l a v).sk = s.sk := by
  dsimp only [State.wrBlock]; (repeat' split) <;> simp

@[simp] theorem State.writeReg_locked (s : State) (l : Lane) (a : ℕ) (v : Word) : (s.writeReg l a v).sk.locked = s.sk.locked := by
  unfold State.writeReg
  cases asDrive l <;> simp -implicitDefEqProofs

@[simp] theorem State.coreStore_sk (s : State) (l : Lane) (a : ℕ) (bs : List Byte) : (s.coreStore l a bs).sk = s.sk := by simp [State.coreStore]
@[simp] theorem State.busWrite_locked (s : State) (l : Lane) (a n v : ℕ) : (s.busWrite l a n v).sk.locked = s.sk.locked := by simp [State.busWrite]

@[simp] theorem execRegisterWrite_locked (l : Lane) (addr : BitVec 40) (v : Word) (size : Fin 4) (hi : Word) (s : State) :
    (nextOr s (execRegisterWrite l addr v size hi s)).sk.locked = s.sk.locked := by simp [execRegisterWrite]

/-! Transfers -/

@[simp] theorem State.dmaCode_sk (s : State) (l : Lane) (a c : ℕ) : (s.dmaCode l a c).sk = s.sk := by simp [State.dmaCode]
@[simp] theorem State.dmaError_sk (s : State) (l : Lane) (n a c src : ℕ) : (s.dmaError l n a c src).sk = s.sk := by simp [State.dmaError]

@[simp] theorem State.dmaRegs_sk (s : State) (l : Lane) (a n : ℕ) : (s.dmaRegs l a n).2.sk = s.sk := by
  induction n generalizing s l a with
  | zero => rfl
  | succ n ih => simp -implicitDefEqProofs [State.dmaRegs, ih]

@[simp] theorem State.dmaRead_sk (s : State) (l : Lane) (d : DmaDesc) : (s.dmaRead l d).2.sk = s.sk := by
  unfold State.dmaRead; split <;> simp

@[simp] theorem State.dmaPut_locked (s : State) (l : Lane) (n a : ℕ) (bs : List Byte) :
    (s.dmaPut l n a bs).sk.locked = s.sk.locked := by
  induction n generalizing s a bs with
  | zero => rfl
  | succ n ih => simp [State.dmaPut, ih]

@[simp] theorem State.dmaWrite_locked (s : State) (l : Lane) (d : DmaDesc) (bs : List Byte) : (s.dmaWrite l d bs).sk.locked = s.sk.locked := by
  simp [State.dmaWrite]

@[simp] theorem State.dmaMix_sk (s : State) (d : DmaDesc) (old new : List Byte) : (s.dmaMix d old new).2.sk = s.sk := by simp [State.dmaMix]

@[simp] theorem State.dmaEarly_locked (s : State) (l : Lane) (d : DmaDesc) : (s.dmaEarly l d).2.sk.locked = s.sk.locked := by
  dsimp only [State.dmaEarly]; (repeat' split) <;> simp

@[simp] theorem execDmaDescLoad_locked (l : Lane) (ch : Fin 16) (s : State) : (nextOr s (execDmaDescLoad l ch s)).sk.locked = s.sk.locked := by
  dsimp only [execDmaDescLoad]; (repeat' split) <;> simp

@[simp] theorem State.dmaFinish_locked (s : State) (l : Lane) (d : DmaDesc) : (s.dmaFinish l d).sk.locked = s.sk.locked := by
  dsimp only [State.dmaFinish]; (repeat' split) <;> simp

@[simp] theorem State.dmaPart_locked (s : State) (l : Lane) (d : DmaDesc) (n : ℕ) : (s.dmaPart l d n).sk.locked = s.sk.locked := by
  dsimp only [State.dmaPart]; (repeat' split) <;> simp

@[simp] theorem execDmaDescComplete_locked (l : Lane) (ch : Fin 16) (s : State) : (nextOr s (execDmaDescComplete l ch s)).sk.locked = s.sk.locked :=
  by
  dsimp only [execDmaDescComplete]; (repeat' split) <;> simp

@[simp] theorem execDmaAbort_locked (l : Lane) (ch : Fin 16) (written : ℕ) (s : State) :
    (nextOr s (execDmaAbort l ch written s)).sk.locked = s.sk.locked := by
  dsimp only [execDmaAbort]; (repeat' split) <;> simp

@[simp] theorem State.erReads_sk (s : State) (l : Lane) (c n : ℕ) : (s.erReads l c n).2.sk = s.sk := by
  induction n generalizing s l c with
  | zero => rfl
  | succ n ih => simp -implicitDefEqProofs [State.erReads, ih]

@[simp] theorem execErRowCapture_sk (l : Lane) (s : State) : (nextOr s (execErRowCapture l s)).sk = s.sk := by
  simp -implicitDefEqProofs [execErRowCapture]

@[simp] theorem execErRowSkipped_sk (l : Lane) (s : State) : (nextOr s (execErRowSkipped l s)).sk = s.sk := by simp [execErRowSkipped]

end Sys2Proof.Machine
end

section
/-! SUPPORT. Going down and starting anew: what Park, Hibernate and Tadpole leave of the lanes and of the hibernate domain (R40, R520). -/

namespace Sys2Proof.Machine

open Sys2Proof

theorem foldl_frame {α β : Type} {f : State → α → State} {g : State → β} (hf : ∀ s a, g (f s a) = g s) (l : List α) (s : State) :
    g (l.foldl f s) = g s := by
  induction l generalizing s with
  | nil => rfl
  | cons a l ih => exact (ih _).trans (hf s a)

@[simp] theorem State.cellCmd_lanes (s : State) (l : DLane) (c src : ℕ) (hs ls : Bool) : (s.cellCmd l c src hs ls).lanes = s.lanes := by
  unfold State.cellCmd
  dsimp only
  split <;> simp

@[simp] theorem State.cellsBack_lanes (s : State) (l : DLane) (n : ℕ) : (s.cellsBack l n).lanes = s.lanes :=
  foldl_frame (fun s i => by split <;> simp) _ s

@[simp] theorem State.holdsOff_lanes (s : State) : s.holdsOff.lanes = s.lanes :=
  foldl_frame (g := State.lanes) (fun s p => by split <;> simp) s.sf.regs s

@[simp] theorem State.cmpStop_lanes (s : State) : s.cmpStop.lanes = s.lanes := rfl

theorem State.lane_congr {s t : State} (h : t.lanes = s.lanes) (l : Lane) : t.lane l = s.lane l := by rw [State.lane, State.lane, h]

@[simp] theorem State.setSk_lane (s : State) (k : Skink) (l : Lane) : (s.setSk k).lane l = s.lane l := rfl
@[simp] theorem State.setSk_fg (s : State) (k : Skink) (b : ℕ) (f : Fld) : (s.setSk k).fg b f = s.fg b f := rfl

@[simp] theorem State.holdReset_lane_reset (s : State) (l : Lane) : ((s.holdReset l).lane l).reset = true := by
  simp [State.holdReset, LaneSt.afterReset]

/-- After the resets of the three lanes each of them is in reset. -/
theorem State.holdResets_lane_reset (s : State) (l : Lane) : ((((s.holdReset .W).holdReset .A).holdReset .B).lane l).reset = true := by
  cases l with
  | A => exact ((WindsDown.refl _).holdReset .B).held .A (by simp)
  | B => simp
  | W => exact (((WindsDown.refl _).holdReset .A).holdReset .B).held .W (by simp)

@[simp] theorem State.lanePowerOff_reset (s : State) (l m : Lane) (b : Bool) : ((s.lanePowerOff l b).lane m).reset = (s.lane m).reset := by
  rw [State.lanePowerOff, State.lane_setLane]
  split
  next h => rw [h]
  next => rfl

@[simp] theorem State.fg_lanePowerOff (s : State) (l : Lane) (b : Bool) (k : ℕ) (f : Fld) : (s.lanePowerOff l b).fg k f = s.fg k f := rfl

theorem State.goDown_lane_reset (s : State) (z : ℕ) (l : Lane) : ((s.goDown z).lane l).reset = true := by
  rw [State.goDown, State.lane_congr (State.holdsOff_lanes _), State.lane_congr (State.cmpStop_lanes _)]
  exact State.holdResets_lane_reset _ l

theorem State.enterPark_spec (s : State) : s.enterPark.sk.st = .park ∧ s.enterPark.fg hibB HIB.STATUS_SLEEP = 2 ∧
    ∀ l, (s.enterPark.lane l).reset = true := by
  refine ⟨by simp only [State.enterPark, State.setSk_sk], ?_, fun l => ?_⟩
  · simp only [State.enterPark, State.setSk_fg, State.fg_lanePowerOff]
    rw [State.fg_fs_apart _ _ (by decide) (by decide), State.fg_fs_fits _ _ (by decide) (by decide)]
  · simp only [State.enterPark, State.setSk_lane, State.lanePowerOff_reset, State.fs_lane]
    exact s.goDown_lane_reset 2 l

/-- The hibernate domain's registers outlast Skink's supply. -/
theorem State.fg_hib_skinkOff (s : State) {f : Fld} (hf : f.ofs < 0x1000) : s.skinkOff.fg hibB f = s.fg hibB f := by
  have : s.skinkOff.reg (hibB + f.ofs) = s.reg (hibB + f.ofs) := by
    simp only [State.reg, State.skinkOff, famGet_famClear]
    rw [if_neg]
    simp only [hibB, key]
    omega
  rw [State.fg, State.fg, this]

theorem State.enterHibernate_spec (s : State) : s.enterHibernate.sk.st = .hibernate ∧ s.enterHibernate.sk.keepOff = true ∧
    s.enterHibernate.fg hibB HIB.STATUS_SLEEP = 1 := by
  refine ⟨by simp only [State.enterHibernate, State.setSk_sk], by simp only [State.enterHibernate, State.setSk_sk], ?_⟩
  simp only [State.enterHibernate, State.setSk_fg]
  rw [State.fg_hib_skinkOff _ (by decide), State.fg_lanePowerOff, State.fg_lanePowerOff, State.fg_lanePowerOff,
    State.fg_fs_apart _ _ (by decide) (by decide), State.fg_fs_fits _ _ (by decide) (by decide)]

theorem State.enterTadpole_spec (s : State) : s.enterTadpole.sk.st = .tadpole ∧ ∀ l, (s.enterTadpole.lane l).reset = true := by
  refine ⟨by simp [State.enterTadpole], fun l => ?_⟩
  rw [State.lane_congr (s := s.resetAll)]
  · exact s.holdResets_lane_reset l
  · simp only [State.enterTadpole, State.holdsOff_lanes]
    rfl

end Sys2Proof.Machine
end

section
/-! SUPPORT. Requests that are taken: what a refusal leaves (R342). -/

namespace Sys2Proof.Machine

open Sys2Proof

theorem State.reqIs_of_req {s : State} {k n : ℕ} (h : s.sk.req = some ⟨k, n⟩) : s.reqIs k = true := by simp [State.reqIs, h]

/-- A request is taken and a Skink source raised, and nothing else changes (R342). -/
theorem State.reqDone_raiseS (s : State) {src c : ℕ} (hc : defaultClass .skink src = some c) : s.reqDone.raiseS src =
    { s with sk := { s.sk with req := none }, evq := s.evq ++ [s.stamp { coll := .skink, src := src }] } :=
  State.raise_of_skink _ rfl hc

end Sys2Proof.Machine
end

section
/-! PROOF. LOCKED: set by C4, kept by every command but the loss of both feeds. -/

namespace Sys2Proof.Machine

open Sys2Proof

/-! C4 sets LOCKED -/

/-- The reaction to class C4 sets LOCKED, whatever the state (R37). -/
theorem State.react_four_locked (s : State) (e : Event) : (s.react e 4).sk.locked = true := by simp [State.react]

theorem State.enterFresh_four_locked (s : State) (e : Event) (cfg : ℕ) : (s.enterFresh e cfg 4 false).sk.locked = true := by
  simp [State.enterFresh, State.react_four_locked]

theorem State.repeatOf_four_locked (s : State) (e : Event) : (s.repeatOf e 4).sk.locked = true :=
  State.react_four_locked _ e

theorem State.enter_four_locked {s : State} {e : Event} (hc : s.classOf e = 4) (hr : e.restoring = false) (hm : s.resRemoved e.res = false)
    (hx : s.resRestoring e.res = false) : (s.enter e).sk.locked = true := by
  simp only [State.enter, hc, hr, hm, hx]
  split_ifs <;> simp_all [State.repeatOf_four_locked, State.enterFresh_four_locked]

theorem execFaultEventEntry_of_one {s : State} {e : Event} (h : s.evq = [e]) :
    exec .faultEventEntry s = .next (({ s with evq := [] }).enter e) := by
  simp [execFaultEventEntry, h, pickEvent, bestEvent]

/-! While LOCKED is set -/

/-- LOCKED stays set through every command but the loss of both feeds. -/
theorem exec_locked {c : Instr} {s t : State} (h : s.sk.locked = true) (hc : c ≠ .feedsBelowReset) (ht : exec c s = .next t) :
    t.sk.locked = true := by
  rw [← nextOr_next s t, ← ht]
  cases c with
  | feedsBelowReset => exact absurd rfl hc
  | faultEventEntry => exact execFaultEventEntry_locked h
  | _ => simp [h]

theorem execStateReqRestart_of_locked {s : State} {n : ℕ} (hl : s.sk.locked = true) (h : s.sk.req = some ⟨4, n⟩) :
    exec .stateReqRestart s =
      .next { s with sk := { s.sk with req := none }, evq := s.evq ++ [s.stamp { coll := .skink, src := 0x13 }] } := by
  rw [exec_stateReqRestart, execStateReqRestart, State.reqIs_of_req h, ← State.reqDone_raiseS s (c := 1) (by decide)]
  simp [hl]

/-- Settles O6: C4 sets LOCKED, each command but the loss of both feeds keeps it, by the frame lemma of that command, and LOCKED
survives Hibernate and Park too (model's choice, assumption 38). -/
theorem lockedUntilBothFeedsLost : Obligations.LockedUntilBothFeedsLost := by
  unfold Obligations.LockedUntilBothFeedsLost
  refine ⟨fun e s he hc hr hm hx => ?_, fun n s hl hreq => ?_, fun c s t hl hc ht => exec_locked hl hc ht, fun s => ?_⟩
  · exact ⟨_, execFaultEventEntry_of_one he, State.enter_four_locked hc hr hm hx⟩
  · exact ⟨_, execStateReqRestart_of_locked hl hreq, rfl, hl, rfl, rfl⟩
  · exact ⟨_, exec_feedsBelowReset s, rfl⟩

end Sys2Proof.Machine
end

section
/-! PROOF. State requests. -/

namespace Sys2Proof.Machine

open Sys2Proof

@[simp] theorem State.reqDone_sk (s : State) : s.reqDone.sk = { s.sk with req := none } := rfl

/-- The lane that is to be restored is held in reset, its attempt begins, and the vote buffer is free again (R55). -/
theorem execStateReqAxolotl_of_removed {s : State} (h : s.sk.req = some ⟨3, 1⟩) (hst : s.sk.st = .singleA) (hs : s.sk.still = true)
    (hr : s.sk.removed = [.B]) (hf : s.feedOf .B = true) (hb : (s.lane .B).broken = false) (ha : (s.lane .B).attempts < 3) :
    Completes .stateReqAxolotl s fun t =>
      t.sk.st = .axolotl ∧ t.sk.req = none ∧ (t.lane .B).reset = true ∧ t.mem = s.mem ∧
      t.sk.axo = some { lane := .B, held := .singleA, at_ := s.now } ∧ t.cmp.frozen = false := by
  have hremoved : s.isRemoved .B = true := by simp [State.isRemoved, hr]
  have hmem : (s.holdReset .B).mem = s.mem := ((State.WindsDown.refl s).holdReset .B).mem
  have hlane : ((s.holdReset .B).lane .B).reset = true := s.holdReset_lane_reset .B
  refine ⟨_, by simp only [exec_stateReqAxolotl, execStateReqAxolotl, h, hst, hs, laneOf, hremoved, hf, hb, ha]; rfl, ?_⟩
  split
  next => exact ⟨rfl, rfl, (congrArg LaneSt.reset (State.lane_congr rfl .B)).trans hlane, hmem, rfl, rfl⟩
  next hc => exact ⟨rfl, rfl, (congrArg LaneSt.reset (State.lane_congr rfl .B)).trans hlane, hmem, rfl, by simpa using hc⟩

/-- Settles O17: each request that its conditions allow enters its state, and each other one leaves the refusal of R342. -/
theorem stateRequestsActOrAreRefused : Obligations.StateRequestsActOrAreRefused := by
  unfold Obligations.StateRequestsActOrAreRefused
  refine ⟨fun n s h hst hs hp => ?_, fun n s h hst hs hp => ?_, fun s h hst hs hr hf hb ha => execStateReqAxolotl_of_removed h hst hs hr hf hb ha,
    fun n s h hst hl hi => ?_, fun n s h hl => ?_, fun n s h => ?_, fun n s h hc => ?_⟩
  · refine ⟨s.reqDone.enterPark, ?_, State.enterPark_spec _⟩
    simp [execStateReqPark, State.reqIs_of_req h, hst, hs, hp, UState.serves]
  · refine ⟨s.reqDone.enterHibernate, ?_, State.enterHibernate_spec _⟩
    simp [execStateReqHibernate, State.reqIs_of_req h, hst, hs, hp]
  · refine ⟨s.reqDone.enterTadpole, ?_, State.enterTadpole_spec _⟩
    simp [execStateReqRestart, State.reqIs_of_req h, hst, hl, hi]
  · exact ⟨_, execStateReqRestart_of_locked hl h, rfl⟩
  · refine ⟨_, ?_, rfl⟩
    rw [exec_stateReqStop, execStateReqStop, State.reqIs_of_req h, if_pos rfl, State.reqDone_raiseS s (c := 3) (by decide)]
  · refine ⟨_, ?_, rfl⟩
    rw [exec_stateReqPark, execStateReqPark, State.reqIs_of_req h, State.reqDone_raiseS s (c := 1) (by decide)]
    rcases hc with h | h | h <;> simp [h, UState.serves]

end Sys2Proof.Machine
end

section
/-! PROOF. The state after reset. -/

namespace Sys2Proof.Machine

open Sys2Proof

/-- Settles O5: each value is that of assumption 1; no regulator is engaged in Off, so no cell may switch, and the empty lists are
canonical (assumptions 2 and 3). -/
theorem resetState : Obligations.ResetState := by
  unfold Obligations.ResetState
  have canonical : State.reset.canonical = true := (State.canonical_iff _).2 ⟨rfl, rfl⟩
  exact ⟨rfl, rfl, rfl, rfl, fun _ => rfl, rfl, rfl, rfl, State.unitGatesOff_of_inactive rfl rfl, rfl, rfl, canonical⟩

end Sys2Proof.Machine
end


section
/-! PROOF. The end of Safe Stop. -/

namespace Sys2Proof.Machine

open Sys2Proof

/-! Safe outputs -/

/-- No output is on after all have been turned off, whichever are listed. -/
theorem State.soAllOff_on (s : State) (i : Nat) : (s.soAllOff.so i).on = false := by
  suffices off : ∀ l : List (Nat × SafeOut), (famGet (fun _ => ({} : SafeOut))
      (l.map fun p => (p.1, { p.2 with on := false, inTest := false, req := false })) i).on = false from off s.sf.so
  intro l
  induction l with
  | nil => rfl
  | cons p l ih =>
    simp only [List.map_cons, famGet]
    split
    · rfl
    · exact ih

/-- An output that is not on and follows no ramp has level 0. -/
theorem State.soLevel_of_off {s : State} {i : Nat} (hr : s.ramping i = false) (ho : (s.so i).on = false) : s.soLevel i = false := by
  simp [State.soLevel, hr, ho]

/-! Safe Hold, entered from anywhere -/

@[simp] theorem State.axoDrop_still (s : State) : s.axoDrop.sk.still = s.sk.still := by
  unfold State.axoDrop
  split <;> simp

/-- What every entry to Safe Hold leaves (R53): memory, standstill and every event on its way, with each safe output off. -/
theorem State.enterSafeHold_off (s : State) :
    s.enterSafeHold.sk.st = .safeHold ∧ s.enterSafeHold.sk.still = s.sk.still ∧ (∀ i, s.enterSafeHold.soLevel i = false) ∧
      s.enterSafeHold.mem = s.mem ∧ ∀ e ∈ s.evq, e ∈ s.enterSafeHold.evq := by
  have stopped := (((WindsDown.ite (p := s.sk.st = .chorus) (WindsDown.refl s).lockAll (.refl s)).axoDrop).portsOff).cmpStop
  have still : ((if s.sk.st = .chorus then s.lockAll else s).axoDrop.portsOff.cmpStop).sk.still = s.sk.still := by simp
  unfold State.enterSafeHold
  dsimp only
  generalize State.cmpStop _ = w at stopped still ⊢
  have off := WindsDown.ite (p := w.sk.st = .safeStop) stopped stopped.holdsOff
  have same : (if w.sk.st = .safeStop then w else w.holdsOff).sk.still = s.sk.still := by simpa using still
  generalize (if w.sk.st = .safeStop then w else w.holdsOff) = u at off same ⊢
  exact ⟨rfl, same, fun i => State.soLevel_of_off rfl (State.soAllOff_on (u.setSk _) i), off.mem, off.evq⟩

/-- Safe Stop ends in Safe Hold where standstill holds and the ramp is complete (R40). -/
theorem State.stopDone_of_stopped {s : State} (hst : s.sk.st = .safeStop) (hs : s.sk.still = true) (hr : s.sf.rampDone = true) :
    s.stopDone = s.enterSafeHold :=
  if_pos ⟨hst, hs, hr⟩

theorem State.stamp_mem_raiseS {s : State} {src c : Nat} (hc : defaultClass .skink src = some c) :
    s.stamp { coll := .skink, src := src } ∈ (s.raiseS src).evq := by
  rw [s.raiseS_evq 255 0 0 hc]
  exact List.mem_append_right _ List.mem_cons_self

/-- Standstill that has lasted 200 ms is recorded, and may end Safe Stop (R38, R40). -/
theorem exec_standstillReached_of_run {s : State} (hrun : s.sk.stillRun = true) (on : s.skinkOn = true)
    (hpast : s.past s.sk.stillAt (200 * 10 ^ 6) = true) :
    exec .standstillReached s = .next (s.setSk { s.sk with still := true }).stopDone := by
  rw [exec_standstillReached, execStandstillReached, if_pos ⟨hrun, on, hpast⟩]

/-! The regulator's release -/

/-- Commanding a cell off raises nothing and stores nothing. -/
theorem State.cellCmd_off_mem_evq (s : State) (l : DLane) (c src : Nat) :
    (s.cellCmd l c src false false).mem = s.mem ∧ (s.cellCmd l c src false false).evq = s.evq := by
  rw [State.cellCmd_of_not_both s l c src rfl]
  exact ⟨rfl, rfl⟩

theorem State.cellsBack_mem_evq (s : State) (l : DLane) (m : Nat) :
    ((s.cellsBack l m).mem, (s.cellsBack l m).evq) = (s.mem, s.evq) := by
  refine foldl_frame (g := fun t : State => (t.mem, t.evq)) (fun t i => ?_) _ s
  obtain ⟨hmem, hevq⟩ := t.cellCmd_off_mem_evq l (3 * m + i) (if s.fb (axB l m) AX.CTRL_EN then 1 else 0)
  split
  · simp only [hmem, hevq]
  · rfl

/-- The regulators' release turns cells off; it raises nothing and stores nothing. -/
theorem State.holdsOff_mem_evq (s : State) : s.holdsOff.mem = s.mem ∧ s.holdsOff.evq = s.evq := by
  have back := foldl_frame (g := fun t : State => (t.mem, t.evq))
    (f := fun (t : State) (p : Nat × HoldReg) => if p.2.engaged then t.cellsBack p.2.lane (t.cfgHoldMotor p.1) else t)
    (fun t p => by
      split
      · exact t.cellsBack_mem_evq _ _
      · rfl) s.sf.regs s
  exact Prod.mk.inj back

/-- Settles O16: the ramp's last period, standstill and the time limit each end in the entry to Safe Hold, which turns every safe
output off; the regulator's release leaves a state in which nothing lets a cell switch. -/
theorem safeStopEndsInSafeHold : Obligations.SafeStopEndsInSafeHold := by
  unfold Obligations.SafeStopEndsInSafeHold
  refine ⟨fun s hst hon hdone hfull => ?_, fun s hst hon hdone hfull hstill => ?_, fun s hst hrun hpast hdone => ?_,
    fun s hst hrun hpast => ?_, fun s hst hpast hmiss => ?_, fun s hst hpark hpast => ?_⟩
  · refine ⟨_, ?_, rfl⟩
    rw [exec_rampPeriod]
    simp [execRampPeriod, hst, hon, hdone, hfull, State.stopDone]
  · obtain ⟨hold, -, off, hmem, -⟩ := State.enterSafeHold_off
      { s with sf := { s.sf with rampJ := s.sf.rampJ + 1, rampAt := s.now, rampDone := true } }
    refine ⟨_, ?_, hold, off, hmem⟩
    rw [exec_rampPeriod]
    simp [execRampPeriod, hst, hon, hdone, hfull, State.stopDone_of_stopped, hstill]
  · obtain ⟨hold, still, off, hmem, -⟩ := (s.setSk { s.sk with still := true }).enterSafeHold_off
    have on : s.skinkOn = true := by simp [State.skinkOn, hst]
    exact ⟨_, (exec_standstillReached_of_run hrun on hpast).trans (congrArg _ (State.stopDone_of_stopped hst rfl hdone)),
      hold, still, off, hmem⟩
  · have on : s.skinkOn = true := by simp [State.skinkOn, hst]
    refine ⟨_, (exec_standstillReached_of_run hrun on hpast).trans (congrArg _ (if_neg ?_)), rfl⟩
    exact fun h => by simp [State.setSk, hst] at h
  · obtain ⟨hold, -, off, hmem, hevq⟩ := (s.raiseS 0x62).enterSafeHold_off
    refine ⟨_, ?_, hold, off, ⟨_, hevq _ (State.stamp_mem_raiseS rfl), rfl, rfl, rfl⟩, hmem.trans (s.raiseS_mem ..)⟩
    have missing : ¬ (s.sk.still = true ∧ s.sf.rampDone = true) := by rcases hmiss with h | h <;> simp [h]
    rw [exec_ssTimeout, execSsTimeout, if_neg (fun h => h.elim (· hst) (· hpast)), if_neg missing]
  · obtain ⟨hmem, hevq⟩ := s.holdsOff_mem_evq
    refine ⟨s.holdsOff, ?_, State.unitGatesOff_of_inactive ?_ s.holdsOff_regs, s.holdsOff_regs, s.holdsOff_sk, hmem, hevq⟩
    · rw [exec_holdRelease, execHoldRelease, if_pos ⟨hst, by simpa using hpark, hpast⟩]
    · rw [State.holdsOff_sk, hst]
      rfl

end Sys2Proof.Machine
end

section
/-! PROOF. The position-hold regulator outside Safe Stop and Safe Hold. -/

namespace Sys2Proof.Machine

open Sys2Proof

/-- Regulator 0 engaged in lane A, whose cells are powered and whose gate supply is up, in a unit that is Off: neither Safe Stop nor
Safe Hold, where alone a regulator drives cells (R51, R53). -/
def engagedWhileOff : State :=
  ({ State.reset with sk := { State.reset.sk with feedA := true }, sf := { State.reset.sf with regs := [(0, { engaged := true })] } }).setLane
    .A { State.reset.lane .A with rails := true, vgdUp := true }

/-- Settles O19, in the negative: its last clause asks for low sides that turn on wherever a regulator is engaged, and says nothing of
the unit's state. In `engagedWhileOff` the period commands the low side of cell 0, and nothing lets it switch. -/
theorem not_monitorsAndPositionHold : ¬ Obligations.MonitorsAndPositionHold := by
  unfold Obligations.MonitorsAndPositionHold
  rintro ⟨-, -, -, -, -, lowSides⟩
  obtain ⟨t, run, turns, -⟩ := lowSides engagedWhileOff (by decide) (by decide) (by decide) (by decide) (by decide) (by decide)
    (by decide) (by decide) (by decide)
  have ends : t = (engagedWhileOff.holdPeriod 0).holdPeriod 1 := by
    rw [exec_holdRegPeriod, execHoldRegPeriod] at run
    exact (Host.Outcome.next.inj run).symm
  have stays : ((engagedWhileOff.holdPeriod 0).holdPeriod 1).gateTurns .A 0 false = false := by decide
  obtain ⟨turns, -⟩ := turns 0 (by decide)
  rw [ends] at turns
  exact absurd (turns.symm.trans stays) (by decide)

end Sys2Proof.Machine
end

section
/-! SUPPORT. Rounding to the nearest and clamping keep bounds. -/

namespace Sys2Proof.Machine

open Sys2Proof

/-- Rounding does not pass an integer that the quotient does not pass. -/
theorem roundDiv_le {n k : Int} {d : Nat} (hd : 0 < d) (h : n ≤ k * d) : roundDiv n d ≤ k := by
  have pos : (0 : Int) < d := by exact_mod_cast hd
  have floor : n / (d : Int) ≤ k := Int.ediv_le_of_le_mul pos h
  have low : n / (d : Int) * d ≤ n := Int.ediv_mul_le n pos.ne'
  rcases floor.lt_or_eq with lt | eq
  · unfold roundDiv
    dsimp only
    split_ifs <;> omega
  · have whole : 2 * (n - n / (d : Int) * d) < d := by rw [eq] at low ⊢; omega
    unfold roundDiv
    exact (if_pos whole).trans_le eq.le

theorem roundDiv_zero {d : Nat} (hd : 0 < d) : roundDiv 0 d = 0 := by
  simp [roundDiv, hd]

theorem abs_clampI_le {w : Int} (hw : 0 ≤ w) (x : Int) : |clampI (-w) w x| ≤ w := by
  rw [abs_le]
  unfold clampI
  split_ifs <;> omega

theorem clampI_zero {w : Int} (hw : 0 ≤ w) : clampI (-w) w 0 = 0 := by
  unfold clampI
  split_ifs <;> omega

theorem clampI_nonpos {w x : Int} (hw : 0 ≤ w) (hx : x ≤ 0) : clampI (-w) w x ≤ 0 := by
  unfold clampI
  split_ifs <;> omega

end Sys2Proof.Machine
end

section
/-! PROOF. Bounds of the winding references and of the compare values. -/

namespace Sys2Proof.Machine

open Sys2Proof

/-! Winding references -/

/-- The divisor of a share in percent; in Bench a quarter of it applies (R149). -/
def State.shareDen (s : State) : Nat := if s.sk.st = .bench then 400 else 100

theorem State.shareDen_pos (s : State) : 0 < s.shareDen := by
  unfold State.shareDen
  split_ifs <;> decide

/-- A reference is a share of what the record asks for, within the winding limit. -/
def State.windRef (s : State) (l : DLane) (n : Nat) (i : Int) : Int :=
  clampI (-(s.fg (axB l n) AX.ILIM_WIND * 2 ^ 60)) (s.fg (axB l n) AX.ILIM_WIND * 2 ^ 60) (roundDiv (s.ownShare l n * i) s.shareDen)

/-- The q current asked for, within the axis limit. -/
def State.iqAsked (s : State) (l : DLane) (n : Nat) (r : OutRec) : Int :=
  clampI (-roundDiv ((s.fg (axB l n) AX.ILIM_FULL : Int) * s.sk.capTq * 2 ^ 60) 100)
    (roundDiv ((s.fg (axB l n) AX.ILIM_FULL : Int) * s.sk.capTq * 2 ^ 60) 100) (recVal r 0 (s.fg (axB l n) AX.RECCFG_QI))

/-- The axis is above its speed cap, and the current asked for would drive it on (R44). -/
def State.runsAway (s : State) (l : DLane) (n : Nat) (r : OutRec) : Prop :=
  s.cfgMaxSpd n ≠ 0 ∧ s.sk.capSpd * s.cfgMaxSpd n * 2 ^ s.fg (fuB l n) FB.SPDCFG_SPDQ < (s.fbu l n).spdVal.natAbs * 100 * 2 ^ 8 ∧
    (s.iqAsked l n r).sign = (s.fbu l n).spdVal.sign

theorem State.windLimit_nonneg (s : State) (l : DLane) (n : Nat) : (0 : Int) ≤ s.fg (axB l n) AX.ILIM_WIND * 2 ^ 60 := by positivity

/-- Both references of R149 have that form; a runaway axis gets no q current. -/
theorem State.refsOf_eq (s : State) (l : DLane) (n : Nat) (r : OutRec) :
    ∃ id iq, s.refsOf l n r = (s.windRef l n id, s.windRef l n iq) ∧ (s.runsAway l n r → iq = 0) ∧
      (¬ s.runsAway l n r → iq = s.iqAsked l n r) := by
  classical
  exact ⟨_, _, rfl, fun h => if_pos h, fun h => if_neg h⟩

theorem State.windRef_bounded (s : State) (l : DLane) (n : Nat) (i : Int) : |s.windRef l n i| ≤ s.fg (axB l n) AX.ILIM_WIND * 2 ^ 60 :=
  abs_clampI_le (s.windLimit_nonneg l n) _

theorem State.windRef_of_no_share {s : State} {l : DLane} {n : Nat} (h : s.ownShare l n = 0) (i : Int) : s.windRef l n i = 0 := by
  rw [State.windRef, h, Nat.cast_zero, Int.zero_mul, roundDiv_zero s.shareDen_pos, clampI_zero (s.windLimit_nonneg l n)]

theorem State.windRef_nonpos (s : State) (l : DLane) (n : Nat) {i : Int} (hi : i ≤ 0) : s.windRef l n i ≤ 0 := by
  refine clampI_nonpos (s.windLimit_nonneg l n) (roundDiv_le s.shareDen_pos ?_)
  rw [Int.zero_mul]
  exact Int.mul_nonpos_of_nonneg_of_nonpos (Int.natCast_nonneg _) hi

/-- Forward above its speed cap, an axis is asked for no forward current: what asks for it runs away. -/
theorem State.iqAsked_nonpos_of_not_runsAway {s : State} {l : DLane} {n : Nat} {r : OutRec} (hm : s.cfgMaxSpd n ≠ 0)
    (hs : 0 < (s.fbu l n).spdVal)
    (hb : s.sk.capSpd * s.cfgMaxSpd n * 2 ^ s.fg (fuB l n) FB.SPDCFG_SPDQ < (s.fbu l n).spdVal.natAbs * 100 * 2 ^ 8)
    (h : ¬ s.runsAway l n r) : s.iqAsked l n r ≤ 0 := by
  by_contra hq
  exact h ⟨hm, hb, by rw [Int.sign_eq_one_of_pos hs, Int.sign_eq_one_of_pos (Int.not_le.mp hq)]⟩

/-! Compare values -/

theorem svmMin_le_of_mem {a b v : Int} (h : v ∈ svmPhases a b) : svmMin (svmPhases a b) ≤ v := by
  simp only [svmPhases, List.mem_cons, List.not_mem_nil, or_false] at h
  simp only [svmPhases, svmMin, List.headD_cons, List.foldl_cons, List.foldl_nil]
  omega

/-- A compare value is at most H + 1 where the divisor is positive and no less than the span: the duty of R116 is then 0 at the
least. -/
theorem svmCmp_phase_le {a b v den : Int} (h : Nat) (hv : v ∈ svmPhases a b) (pos : 0 < den)
    (span : svmMax (svmPhases a b) - svmMin (svmPhases a b) ≤ den) :
    (roundDiv ((den - (2 * v - svmMax (svmPhases a b) - svmMin (svmPhases a b))) * (h + 1)) (2 * den).toNat).toNat ≤ h + 1 := by
  have least := svmMin_le_of_mem hv
  have duty : den - (2 * v - svmMax (svmPhases a b) - svmMin (svmPhases a b)) ≤ ((2 * den).toNat : Int) := by omega
  have bound : roundDiv ((den - (2 * v - svmMax (svmPhases a b) - svmMin (svmPhases a b))) * (h + 1)) (2 * den).toNat ≤ h + 1 := by
    refine roundDiv_le (by omega) ?_
    rw [Int.mul_comm (h + 1 : Int)]
    exact Int.mul_le_mul_of_nonneg_right duty (by omega)
  omega

/-- Every compare value lies between 0 and H + 1 (R135); without a bus voltage each is the middle. -/
theorem svmCmp_le (a b b0 : Int) (h : Nat) : ∀ v ∈ svmCmp a b b0 h, v ≤ h + 1 := by
  intro c hc
  unfold svmCmp at hc
  dsimp only at hc
  split_ifs at hc with none narrow
  · have middle : roundDiv (h + 1) 2 ≤ h + 1 := roundDiv_le (by decide) (by push_cast; omega)
    obtain ⟨-, rfl⟩ := List.mem_replicate.mp hc
    omega
  · obtain ⟨v, hv, rfl⟩ := List.mem_map.mp hc
    exact svmCmp_phase_le h hv (by omega) le_rfl
  · obtain ⟨v, hv, rfl⟩ := List.mem_map.mp hc
    exact svmCmp_phase_le h hv (by omega) (by omega)

/-- Settles O27: a reference is clamped to the winding limit whatever it is a share of, a share of 0 of any current is 0, and a
compare value is a rounded share of H + 1 whose divisor is no less than the span of the phases. -/
theorem referencesAndCompareValuesAreBounded : Obligations.ReferencesAndCompareValuesAreBounded := by
  unfold Obligations.ReferencesAndCompareValuesAreBounded
  refine ⟨⟨fun l n r s => ?_, fun l n r s share => ?_, fun l n r s capped forward above => ?_⟩, svmCmp_le⟩
  · obtain ⟨id, iq, refs, -⟩ := s.refsOf_eq l n r
    rw [refs]
    exact ⟨s.windRef_bounded l n id, s.windRef_bounded l n iq⟩
  · obtain ⟨id, iq, refs, -⟩ := s.refsOf_eq l n r
    rw [refs, State.windRef_of_no_share share, State.windRef_of_no_share share]
  · obtain ⟨id, iq, refs, stopped, asked⟩ := s.refsOf_eq l n r
    rw [refs]
    refine s.windRef_nonpos l n ?_
    by_cases runs : s.runsAway l n r
    · exact (stopped runs).le
    · exact (asked runs).trans_le (State.iqAsked_nonpos_of_not_runsAway capped forward above runs)

end Sys2Proof.Machine
end

section
/-! SUPPORT. A lane held in reset: what it keeps, and its gates (R65, R271). -/

namespace Sys2Proof.Machine

open Sys2Proof

@[simp] theorem State.tapsLost_lanes (s : State) (l : Lane) : (s.tapsLost l).lanes = s.lanes := by
  unfold State.tapsLost
  split
  · split
    · exact foldl_frame (g := State.lanes) (fun s n => by simp) _ s
    · rfl
  · rfl

theorem State.holdReset_lane_same (s : State) (l : Lane) : (s.holdReset l).lane l = (s.lane l).afterReset := by
  rw [State.holdReset, State.lane_setLane, if_pos rfl]
  exact congrArg LaneSt.afterReset (State.lane_congr (s.tapsLost_lanes l) l)

theorem State.skinkReset_lane_same (s : State) (l : Lane) : (s.skinkReset l).lane l = (s.lane l).afterReset :=
  s.holdReset_lane_same l

/-- The cells of a lane held in reset are commanded by nothing. -/
theorem State.skinkReset_cell (s : State) (l : DLane) {i : Nat} (hi : i < 256) : (s.skinkReset l.lane).cell l i = {} := by
  have listed : (s.skinkReset l.lane).cells = famClear (s.tapsLost l.lane).cells (lk (laneNo l.lane) 0) (lk (laneNo l.lane) 256) := rfl
  have own : laneNo l.lane = dno l := by cases l <;> rfl
  rw [State.cell, listed, famGet_famClear, own, if_pos]
  constructor <;> simp only [lk] <;> omega

theorem State.gateOn_of_uncommanded {s : State} {l : DLane} {i : Nat} (h : (s.cell l i).cmdH = false) (h' : (s.cell l i).cmdL = false)
    (hs : Bool) : s.gateOn l i hs = false := by
  simp [State.gateOn, State.gateTurns, h, h']

/-- Skink's hold turns every gate of its lane off (R271). -/
theorem State.skinkReset_gatesAreOff (s : State) (l : DLane) : (s.skinkReset l.lane).gatesAreOff l 0 24 := by
  intro i _ hi hs
  have idle := s.skinkReset_cell l (i := i) (by omega)
  exact State.gateOn_of_uncommanded (by rw [idle]) (by rw [idle]) hs

/-- A halted lane drives none of its cells, and in a state in which no regulator drives any, its gates are off (R58). -/
theorem State.gatesAreOff_of_halted {s : State} {l : DLane} (hh : (s.lane l.lane).halted = true) (hst : s.sk.st = .bench) :
    s.gatesAreOff l 0 24 := by
  intro i _ _ hs
  have notHeld : s.heldCell l i = false := by simp [State.heldCell, State.holdOf, hst]
  have notFree : s.cellFree l i = false := by simp [State.cellFree, notHeld, State.axDrives, State.ppDrives, State.laneDrives, hh]
  simp [State.gateOn, State.gateTurns, notFree]

end Sys2Proof.Machine
end

section
/-! PROOF. The comparator's own checks, the targeted test and debug. -/

namespace Sys2Proof.Machine

open Sys2Proof

/-- Raising a Skink source adds its event and changes nothing else. -/
theorem State.raiseS_eq (s : State) {src c : Nat} (inst res d : Nat) (hc : defaultClass .skink src = some c) :
    s.raiseS src inst res d =
      { s with evq := s.evq ++ [s.stamp { coll := .skink, src := src, inst := inst, res := res, detail := d }] } :=
  s.raise_of_skink rfl hc

theorem State.laneEvent_raiseL (s : State) {l : Lane} {src c : Nat} (inst : Nat) (hc : defaultClass (.lane l) src = some c)
    (hr : (s.lane l).reset = false) : LaneEvent (s.raiseL l src inst) l src inst := by
  refine ⟨s.stamp { coll := .lane l, src := src, inst := inst, res := resLane l }, ?_, rfl, rfl, rfl⟩
  rw [s.raiseL_evq inst 0 hc hr]
  exact List.mem_append_right _ List.mem_cons_self

/-! The targeted test (R312) -/

/-- The removed lane after its test: `bad` marks it BROKEN. -/
def State.testEnds (s : State) (l : DLane) (bad : Bool) : State :=
  (s.setLane l.lane { s.lane l.lane with broken := (s.lane l.lane).broken || bad }).skinkReset l.lane

/-- The test leaves the lane in reset with its gates off, BROKEN where it was or the test was bad, and no byte changed. -/
theorem State.testEnds_spec (s : State) (l : DLane) (bad : Bool) :
    ((s.testEnds l bad).lane l.lane).broken = ((s.lane l.lane).broken || bad) ∧ ((s.testEnds l bad).lane l.lane).reset = true ∧
      (s.testEnds l bad).gatesAreOff l 0 24 ∧ (s.testEnds l bad).mem = s.mem := by
  refine ⟨?_, State.skinkReset_lane_reset _ _, State.skinkReset_gatesAreOff _ _, ((WindsDown.refl _).skinkReset l.lane).mem⟩
  rw [State.testEnds, State.skinkReset_lane_same, State.lane_setLane, if_pos rfl]
  rfl

/-- The test that is due decides no gate. -/
theorem State.gatesAreOff_setSk_targeted {s : State} {l : DLane} {c n : Nat} {x : Option (Lane × Nat × Nat)}
    (h : s.gatesAreOff l c n) : (s.setSk { s.sk with targeted := x }).gatesAreOff l c n := h

/-- The removed lane's test that finds nothing hands over to the survivor. -/
theorem exec_targetedTestDone_pass {s : State} {l : DLane} {k i : Nat} (ht : s.sk.targeted = some (l.lane, k, i))
    (hr : s.isRemoved l.lane = true) :
    exec (.targetedTestDone l []) s =
      .next ((s.testEnds l false).setSk { (s.testEnds l false).sk with targeted := some ((otherD l).lane, k, i) }) := by
  rw [exec_targetedTestDone]
  simp [execTargetedTestDone, ht, hr, State.testEnds]

theorem exec_targetedTestDone_fail {s : State} {l : DLane} {k i : Nat} {n : Fin 72} (ht : s.sk.targeted = some (l.lane, k, i))
    (hr : s.isRemoved l.lane = true) (hn : n.val ∈ targetSlices k i) :
    exec (.targetedTestDone l [n]) s =
      .next (((s.sliceFailQuiet l.lane n.val).testEnds l true).setSk
        { ((s.sliceFailQuiet l.lane n.val).testEnds l true).sk with targeted := none }) := by
  rw [exec_targetedTestDone]
  simp [execTargetedTestDone, ht, hr, hn, State.testEnds]

/-- The survivor's registers after its test: SET and SLICE name the targeted set (R500). -/
def State.survivorTested (s : State) (l : DLane) (k i : Nat) : State :=
  ((s.setSk { s.sk with targeted := none }).fs (bistB l.lane) BIST.STATUS_SET 3).fs (bistB l.lane) BIST.STATUS_SLICE
    ((targetSlices k i).getLastD 0)

theorem State.survivorTested_set (s : State) (l : DLane) (k i : Nat) :
    (s.survivorTested l k i).fg (bistB l.lane) BIST.STATUS_SET = 3 := by
  rw [State.survivorTested, State.fg_fs_apart _ _ (by decide) (by decide), State.fg_fs_fits _ _ (by decide) (by decide)]

/-- A slice that fails in the survivor sets its bit of BIST.FAIL and is raised as 0x150 (R312). -/
theorem exec_targetedTestDone_survivor {s : State} {l : DLane} {k i : Nat} {n : Fin 72} (ht : s.sk.targeted = some (l.lane, k, i))
    (hr : s.isRemoved l.lane = false) (hn : n.val ∈ targetSlices k i) :
    exec (.targetedTestDone l [n]) s =
      .next (((s.survivorTested l k i).sliceFailQuiet l.lane n.val).raiseL l.lane 0x150 n.val) := by
  rw [exec_targetedTestDone]
  simp [execTargetedTestDone, ht, hr, hn, State.survivorTested]

/-- The slice's bit of BIST.FAIL stands apart from BIST.STATUS. -/
theorem State.sliceFailQuiet_fg_status (s : State) (l : Lane) (n : Nat) {f : Fld} (hf : f.ofs = 4) :
    (s.sliceFailQuiet l n).fg (bistB l) f = s.fg (bistB l) f := by
  have apart : bistB l + f.ofs ≠ bistB l + 8 + 4 * (n / 32) := by omega
  unfold State.sliceFailQuiet State.fg
  exact congrArg (fun w : Word => w.toNat / 2 ^ f.lo % 2 ^ f.w) (State.reg_setReg_of_ne s _ apart)

/-! Debug (R58, R508) -/

/-- The lane once it has halted: in Bench it stays halted, elsewhere it has diverged alone. -/
def State.debugStop (s : State) (l : Lane) : State :=
  s.setLane l { s.lane l with halted := s.sk.st == .bench, diverged := true }

theorem State.debugStop_lane (s : State) (l : Lane) :
    (s.debugStop l).lane l = { s.lane l with halted := s.sk.st == .bench, diverged := true } :=
  (State.lane_setLane ..).trans (if_pos rfl)

theorem exec_debugHalt_of_running {s : State} {l : Lane} (h : s.running l = true) :
    exec (.debugHalt l) s = .next ((s.debugStop l).raiseS 0x35 255 (resLane l)) := by
  rw [exec_debugHalt]
  simp [execDebugHalt, h, State.debugStop]

theorem exec_debugActivate_of_running {s : State} {l : Lane} (h : s.running l = true) :
    exec (.debugActivate l) s = .next (s.setLane l { s.lane l with debugSeen := true }) := by
  rw [exec_debugActivate]
  simp [execDebugActivate, h]

/-- Settles O41: the removed lane's test ends in Skink's hold, which clears the commands of its cells; a lane halted in Bench drives
none of its own; the rest raises one event. -/
theorem comparatorTestsAndDebug : Obligations.ComparatorTestsAndDebug := by
  unfold Obligations.ComparatorTestsAndDebug
  refine ⟨fun s hcfg => ?_, fun d s hinj hlate => ?_, fun l k i n s ht hr hn => ?_, fun l k i s ht hr => ?_,
    fun l k i n s ht hr hrun hn => ?_, fun l s hrun => ?_, fun l s hrun => ?_⟩
  · refine ⟨_, ?_, s.raiseS_eq 255 8 0 rfl⟩
    rw [exec_cmpDlyFault, execCmpDlyFault, if_neg hcfg]
  · refine ⟨(s.setCmp { s.cmp with inj := none }).raiseS 0x3b, ?_, ?_⟩
    · rw [exec_cmpInjNoRecord]
      simp [execCmpInjNoRecord, hinj, hlate]
    · rw [State.raiseS_eq _ 255 0 0 rfl]
      exact ⟨rfl, rfl, rfl, rfl, rfl⟩
  · obtain ⟨broken, held, off, hmem⟩ := (s.sliceFailQuiet l.lane n.val).testEnds_spec l true
    exact ⟨_, exec_targetedTestDone_fail ht hr hn, broken.trans (Bool.or_true _), held, rfl, State.gatesAreOff_setSk_targeted off, hmem⟩
  · obtain ⟨broken, held, off, hmem⟩ := s.testEnds_spec l false
    exact ⟨_, exec_targetedTestDone_pass ht hr, broken.trans (Bool.or_false _), held, rfl, State.gatesAreOff_setSk_targeted off, hmem⟩
  · refine ⟨_, exec_targetedTestDone_survivor ht hr hn, ?_, ?_, State.laneEvent_raiseL _ _ rfl ?_, State.raiseL_mem ..⟩
    · rw [State.raiseL_sk]
      rfl
    · rw [State.raiseL_fg, State.sliceFailQuiet_fg_status _ _ _ rfl, s.survivorTested_set]
    · have up : (s.lane l.lane).reset = false := by simpa [State.running] using hrun
      exact up
  · refine ⟨_, exec_debugHalt_of_running hrun, ?_⟩
    rw [State.raiseS_eq _ 255 (resLane l) 0 rfl]
    have lane := s.debugStop_lane l
    refine ⟨congrArg LaneSt.diverged lane, congrArg LaneSt.halted lane, fun hb d hd => ?_, fun _ => rfl, rfl, rfl, rfl⟩
    subst hd
    exact State.gatesAreOff_of_halted (s := { s.debugStop d.lane with evq := _ }) ((congrArg LaneSt.halted lane).trans (by simp [hb])) hb
  · refine ⟨_, exec_debugActivate_of_running hrun, ?_, rfl, rfl, rfl, rfl⟩
    rw [State.lane_setLane, if_pos rfl]

end Sys2Proof.Machine
end

section
/-! SUPPORT. The comparator: what a record's arrival, a mismatch and a decision do (chapter 11). -/

namespace Sys2Proof.Machine

open Sys2Proof

/-! Replacing the comparator or Skink's variables -/

section

variable (s : State) (c : Comparator) (k : Skink)

@[simp] theorem State.setCmp_cmp : (s.setCmp c).cmp = c := rfl
@[simp] theorem State.setCmp_evq : (s.setCmp c).evq = s.evq := rfl
@[simp] theorem State.setCmp_mem : (s.setCmp c).mem = s.mem := rfl
@[simp] theorem State.setCmp_fg (b : Nat) (f : Fld) : (s.setCmp c).fg b f = s.fg b f := rfl
@[simp] theorem State.setCmp_stamp (e : Event) : (s.setCmp c).stamp e = s.stamp e := rfl
@[simp] theorem State.setSk_cmp : (s.setSk k).cmp = s.cmp := rfl
@[simp] theorem State.setSk_evq : (s.setSk k).evq = s.evq := rfl
@[simp] theorem State.setSk_stamp_hold (e : Event) : (s.setSk { s.sk with hold := none }).stamp e = s.stamp e := rfl
@[simp] theorem State.setSk_mem : (s.setSk k).mem = s.mem := rfl

end

/-! Arrival (R298, R299) -/

/-- Skink has taken the last record of bus i. -/
def State.busTaken (s : State) (i : Nat) : State :=
  { s with buses := famSet (fun _ => ({} : BusSt)) s.buses i { famGet (fun _ => ({} : BusSt)) s.buses i with skQ := [] } }

theorem exec_cmpRecordArrive_of_service {s : State} {l : DLane} {b : BusRec} (x y : Bool) (hst : s.sk.st = .service)
    (hstop : s.cmp.stopped = false) (hq : (famGet (fun _ => ({} : BusSt)) s.buses (dno l)).skQ = [b]) :
    exec (.cmpRecordArrive l x y) s = .next ((s.busTaken (dno l)).cmpArrive l b x y) := by
  rw [exec_cmpRecordArrive]
  simp [execCmpRecordArrive, hq, State.comparing, hst, hstop, State.busTaken]

theorem State.cmpArrive_of_stale {s : State} {b : BusRec} (l : DLane) (x y : Bool) (h : s.cmpStale b.r.tag = true) :
    s.cmpArrive l b x y = s.fInc cmpB CMPS.COUNT_STALE := if_pos h

/-- A record whose partner has not come waits, where fewer than 64 do (R300). -/
theorem State.cmpArrive_of_alone {s : State} {l : DLane} {b : BusRec} (x y : Bool) (hs : s.cmpStale b.r.tag = false)
    (hc : s.cmp.closed = []) (hp : ∀ p ∈ s.cmp.pend, p.lane = l) :
    s.cmpArrive l b x y =
      if 64 ≤ s.cmp.pend.length then (s.keyNext l b.r).raiseS 0x34
      else (s.keyNext l b.r).setCmp { (s.keyNext l b.r).cmp with pend := s.cmp.pend ++ [⟨l, s.keyCount l b.r, b, s.now⟩] } := by
  have closed : (s.keyNext l b.r).cmp.closed = [] := hc
  have pend : (s.keyNext l b.r).cmp.pend = s.cmp.pend := rfl
  have noPartner : s.cmp.pend.find? (fun p => p.lane != l && p.n == s.keyCount l b.r && p.b.r.kind == b.r.kind &&
      p.b.r.index == b.r.index && p.b.r.tag == b.r.tag) = none :=
    List.find?_eq_none.mpr fun p hmem => by simp [hp p hmem]
  simp only [State.cmpArrive, hs, closed, pend, noPartner, List.contains_nil, Bool.false_eq_true, if_false]
  rfl

/-- The key of lane B's record counted, and no record waiting any more. -/
def State.pairTaken (s : State) (b : BusRec) : State := (s.keyNext .B b.r).setCmp { (s.keyNext .B b.r).cmp with pend := [] }

/-- The record of A that waits under the key of B's record is its partner. -/
theorem State.cmpArrive_of_partner {s : State} {a b : BusRec} {w : Nat} (x y : Bool) (hs : s.cmpStale b.r.tag = false)
    (hc : s.cmp.closed = []) (hp : s.cmp.pend = [⟨.A, s.keyCount .B b.r, a, w⟩]) (hk : a.r.kind = b.r.kind)
    (hi : a.r.index = b.r.index) (ht : a.r.tag = b.r.tag) :
    s.cmpArrive .B b x y = (s.pairTaken b).comparePair (s.keyCount .B b.r) w a b x y := by
  have closed : (s.keyNext .B b.r).cmp.closed = [] := hc
  have pend : (s.keyNext .B b.r).cmp.pend = [⟨.A, s.keyCount .B b.r, a, w⟩] := hp
  simp [State.cmpArrive, hs, closed, pend, hk, hi, ht, State.pairTaken]

/-! Pairs (R301, R307) -/

theorem OutRec.same_self (r : OutRec) : r.same r = true := by simp [OutRec.same]

theorem OutRec.safety_of_kind {r : OutRec} (h : r.kind = 1 ∨ r.kind = 2) : r.safety = false := by
  rcases h with h | h <;> simp [OutRec.safety, h]

theorem State.injectTest_of_none {s : State} (h : s.cmp.inj = none) (a b : OutRec) (x y : Bool) : s.injectTest a b x y = s := by
  simp [State.injectTest, h]

/-- A matching pair of PUMP records releases the output that they name, and asks nothing of Skink. -/
theorem State.comparePair_of_pump {s : State} {a b : BusRec} (n w : Nat) (hi : s.cmp.inj = none) (hr : a.r = b.r) (hk : b.r.kind = 2) :
    s.comparePair n w a b false false = s.unholdOutput b.r := by
  have plain : b.r.safety = false := OutRec.safety_of_kind (.inr hk)
  have acts : (s.unholdOutput b.r).recordActs b.r = s.unholdOutput b.r := by simp [State.recordActs, hk]
  simp [State.comparePair, State.injectTest_of_none hi, hr, OutRec.same_self, plain, acts]

/-- The dispute over a pair of A and B. -/
def pairDispute (n w : Nat) (a b : BusRec) : Decision :=
  { what := .mismatch, kind := a.r.kind, index := a.r.index, tag := a.r.tag, n := n, recA := some a.r, recB := some b.r, at_ := w }

theorem State.comparePair_of_differ {s : State} {a b : BusRec} (n w : Nat) (hi : s.cmp.inj = none) (hk : a.r.kind = 1)
    (hd : a.r.pay ≠ b.r.pay) : s.comparePair n w a b false false = s.detect (pairDispute n w a b) a.r false := by
  have plain : a.r.safety = false := OutRec.safety_of_kind (.inl hk)
  have differ : a.r.same b.r = false := by simp [OutRec.same, hd]
  simp [State.comparePair, State.injectTest_of_none hi, plain, differ, pairDispute]

/-! Holding an output and asking for a decision (R301, R47, R49) -/

theorem State.kind_of_no_axo {s : State} (h : s.sk.axo = none) : s.kind = s.sk.st := by simp [State.kind, h]

/-- A decision waits for W's record. -/
def State.decisionWaits (s : State) (x : Decision) : State := s.setCmp { s.cmp with decisions := s.cmp.decisions ++ [x] }

theorem State.classNow_skink_congr {s t : State} (h : t.sk = s.sk) (i : Nat) : t.classNow .skink i = s.classNow .skink i := by
  unfold State.classNow State.cfgClass State.cfgF
  rw [h]

theorem State.noteMis_cmp (s : State) (kind index tag dec : Nat) : (s.noteMis kind index tag dec).cmp = s.cmp := by
  simp [State.noteMis]

theorem State.noteMis_evq (s : State) (kind index tag dec : Nat) : (s.noteMis kind index tag dec).evq = s.evq := by
  simp [State.noteMis]

theorem State.noteMis_mem (s : State) (kind index tag dec : Nat) : (s.noteMis kind index tag dec).mem = s.mem := by
  simp [State.noteMis]

/-- Without W's record a decision in Service waits. -/
theorem State.askVote_of_waiting {s : State} {x : Decision} (hk : s.kind = .service) (hv : s.cmp.votes = []) :
    s.askVote x false = s.decisionWaits x := by
  have noVote : s.voteRec x.kind x.index x.tag x.n = none := by simp [State.voteRec, hv]
  simp [State.askVote, hk, noVote, State.decisionWaits]

/-- The one held output is the motor of axis n. -/
def State.heldAlone (s : State) (n : Nat) : State := s.setCmp { s.cmp with held := [⟨1, n⟩] }

theorem State.heldAlone_sk (s : State) (n : Nat) : (s.heldAlone n).sk = s.sk := rfl

theorem State.holdOutput_of_axis {s : State} {r : OutRec} (hk : r.kind = 1) (hh : s.cmp.held = []) :
    s.holdOutput r = s.heldAlone r.index := by
  unfold State.holdOutput
  dsimp only
  rw [if_pos hk, hh, hk]
  rfl

/-- The motor of an AXIS record is held, and every other drive holds (R301, R47). -/
def State.motorHeld (s : State) (n : Nat) : State :=
  (s.heldAlone n).setSk { (s.heldAlone n).sk with hold := some { left := 2 }, req := none }

/-- It waits for W's record as it did before. -/
theorem State.askVote_motorHeld {s : State} {x : Decision} (n : Nat) (hst : s.sk.st = .service) (hax : s.sk.axo = none)
    (hv : s.cmp.votes = []) : (s.motorHeld n).askVote x false = (s.motorHeld n).decisionWaits x := by
  have kind : (s.motorHeld n).kind = .service := (State.kind_of_no_axo hax).trans hst
  exact State.askVote_of_waiting kind hv

/-- In Service a mismatch of AXIS records holds the motor and every other drive, and waits for W's record. -/
theorem State.detect_of_service {s : State} {x : Decision} {r : OutRec} (hst : s.sk.st = .service) (hax : s.sk.axo = none)
    (hk : r.kind = 1) (hheld : s.cmp.held = []) (hhold : s.sk.hold = none) (hv : s.cmp.votes = []) (hw : x.what = .mismatch)
    (hcl : s.classNow .skink 0x30 = 2) :
    s.detect x r false = ((s.noteMis x.kind x.index x.tag 0).motorHeld r.index).decisionWaits x := by
  unfold State.detect
  have note_sk := s.noteMis_sk x.kind x.index x.tag 0
  have note_cmp := s.noteMis_cmp x.kind x.index x.tag 0
  have note_cls := (State.classNow_skink_congr note_sk 0x30).trans hcl
  generalize s.noteMis x.kind x.index x.tag 0 = u at note_sk note_cmp note_cls ⊢
  have held := State.holdOutput_of_axis hk (s := u) (by rw [note_cmp, hheld])
  have holds : (u.heldAlone r.index).sk.st = .service ∧ (u.heldAlone r.index).sk.hold = none ∧
      (u.heldAlone r.index).classNow .skink 0x30 = 2 := by
    rw [State.heldAlone_sk, State.classNow_skink_congr (u.heldAlone_sk r.index), note_sk]
    exact ⟨hst, hhold, note_cls⟩
  simp only [hw, note_sk, hax, held, Bool.false_eq_true, reduceCtorEq, if_false]
  rw [if_pos holds]
  exact State.askVote_motorHeld r.index (by rw [note_sk, hst]) (by rw [note_sk, hax]) (by rw [note_cmp, hv])

/-- A held motor's cells are off in both lanes, where no regulator drives any (R301). -/
theorem State.gatesAreOff_of_held {s : State} {n : Nat} (hn : n < 6) (hst : s.sk.st = .service)
    (hh : s.cmp.held.contains ⟨1, n⟩ = true) (l : DLane) : s.gatesAreOff l (3 * n) 3 := by
  intro i lo hi hs
  have own : i / 3 = n := by omega
  have axisCell : i < 18 := by omega
  have notHeld : s.heldCell l i = false := by simp [State.heldCell, State.holdOf, hst]
  have blocked : s.axisBlocked l n = true := by
    unfold State.axisBlocked
    dsimp only
    rw [hh, Bool.or_true]
  have notFree : s.cellFree l i = false := by simp [State.cellFree, notHeld, axisCell, own, State.axDrives, blocked]
  simp [State.gateOn, State.gateTurns, notFree]

theorem State.noteMis_tag_index (s : State) (kind index tag dec : Nat) :
    (s.noteMis kind index tag dec).fg cmpB CMPS.LASTMIS_TAG = tag % 65536 ∧
      (s.noteMis kind index tag dec).fg cmpB CMPS.LASTMIS_INDEX = index % 256 := by
  unfold State.noteMis
  constructor
  · rw [State.fg_fs_apart _ _ (by decide) (by decide), State.fg_fs_apart _ _ (by decide) (by decide),
      State.fg_fs_apart _ _ (by decide) (by decide), State.fg_fs_same _ _ _ _ (by decide)]
    rfl
  · rw [State.fg_fs_apart _ _ (by decide) (by decide), State.fg_fs_same _ _ _ _ (by decide)]
    rfl

theorem State.noteMis_decided (s : State) (kind index tag : Nat) {dec : Nat} (h : dec < 4) :
    (s.noteMis kind index tag dec).fg cmpB CMPS.LASTMIS_DECIDED = dec :=
  State.fg_fs_fits _ _ (by decide) h

/-! W's record (R310) -/

/-- W's record is the one in the vote buffer, and the decisions ds wait. -/
def State.voteTaken (s : State) (w : BusRec) (ds : List Decision) : State :=
  (s.busTaken 2).setCmp { s.cmp with votes := [w.r], decisions := ds }

/-- The one vote is W's first record of its key. -/
theorem State.voteRec_voteTaken (s : State) (w : BusRec) (ds : List Decision) :
    (s.voteTaken w ds).voteRec w.r.kind w.r.index w.r.tag 0 = some w.r := by
  have votes : (s.voteTaken w ds).cmp.votes = [w.r] := rfl
  simp [State.voteRec, votes]

/-- W's record of the key of the one decision that waits makes it. -/
theorem exec_voteRecordStore_of_waiting {s : State} {x : Decision} {w : BusRec}
    (hq : (famGet (fun _ => ({} : BusSt)) s.buses 2).skQ = [w]) (hf : s.cmp.frozen = false) (hr : s.cmp.rearm = false)
    (hw : s.isRemoved .W = false) (hage : s.tagAge w.r.tag < 64) (hv : s.cmp.votes = []) (hst : s.sk.st = .service)
    (hax : s.sk.axo = none) (hd : s.cmp.decisions = [x]) (hn : x.n = 0) (hk : x.kind = w.r.kind) (hi : x.index = w.r.index)
    (ht : x.tag = w.r.tag) : exec .voteRecordStore s = .next ((s.voteTaken w []).decideVote x (some w.r)) := by
  have kept : ¬ (s.cmp.frozen = true ∨ s.cmp.rearm = true ∨ s.isRemoved .W = true ∨ 64 ≤ s.tagAge w.r.tag) := by
    simp [hf, hr, hw, hage]
  have free : ¬ 32 ≤ (s.cmp.votes.filter fun r => r.tag % 64 == w.r.tag % 64).length := by simp [hv]
  have stored : (s.busTaken 2).setCmp { (s.busTaken 2).cmp with votes := (s.busTaken 2).cmp.votes ++ [w.r] } = s.voteTaken w [x] := by
    simp only [State.voteTaken, State.busTaken, hv, hd, List.nil_append]
  have vote : (s.voteTaken w [x]).voteRec x.kind x.index x.tag x.n = some w.r := by rw [hk, hi, ht, hn, s.voteRec_voteTaken]
  have waiting : (s.voteTaken w [x]).cmp.decisions.find? (fun d => ((s.voteTaken w [x]).voteRec d.kind d.index d.tag d.n).isSome) = some x := by
    have one : (s.voteTaken w [x]).cmp.decisions = [x] := rfl
    simp [one, vote]
  have taken : (s.voteTaken w [x]).setCmp { (s.voteTaken w [x]).cmp with decisions := (s.voteTaken w [x]).cmp.decisions.erase x } =
      s.voteTaken w [] := by simp [State.voteTaken, State.setCmp]
  have made : (s.voteTaken w []).askVote x true = (s.voteTaken w []).decideVote x (some w.r) := by
    have service : (s.voteTaken w []).kind = .service := (State.kind_of_no_axo hax).trans hst
    have vote' : (s.voteTaken w []).voteRec x.kind x.index x.tag x.n = some w.r := vote
    simp [State.askVote, service, vote']
  rw [exec_voteRecordStore, execVoteRecordStore, hq]
  dsimp -zeta only
  extract_lets u slot c v d
  have full : v = s.voteTaken w [x] := stored
  clear_value v
  subst full
  refine (if_neg kept).trans ((if_neg free).trans ?_)
  rw [waiting]
  dsimp only
  rw [taken, made]

/-- What a decision against lane B in Service leaves: the vote buffer is frozen with its votes, no decision waits, the last mismatch
names B, and the event names the decision. -/
structure State.DecidedAgainstB (s t : State) (x : Decision) : Prop where
  frozen : t.cmp.frozen = true
  decisions : t.cmp.decisions = []
  votes : t.cmp.votes = s.cmp.votes
  decided : t.fg cmpB CMPS.LASTMIS_DECIDED = 2
  evq : t.evq = s.evq ++ [s.stamp { coll := .skink, src := 0x30, inst := x.index, res := 2 }]
  mem : t.mem = s.mem

/-- The state just before the event of a decision against lane B. -/
def State.noteAgainstB (s : State) (x : Decision) : State := (s.freezeVotes).noteMis x.kind x.index x.tag 2

theorem State.noteAgainstB_decided (s : State) (x : Decision) : (s.noteAgainstB x).fg cmpB CMPS.LASTMIS_DECIDED = 2 :=
  State.noteMis_decided _ _ _ _ (by decide)

theorem State.noteAgainstB_cmp (s : State) (x : Decision) : (s.noteAgainstB x).cmp = { s.cmp with frozen := true } :=
  State.noteMis_cmp ..

theorem State.noteAgainstB_sk (s : State) (x : Decision) : (s.noteAgainstB x).sk = s.sk := State.noteMis_sk ..

theorem State.noteAgainstB_evq (s : State) (x : Decision) : (s.noteAgainstB x).evq = s.evq := State.noteMis_evq ..

theorem State.noteAgainstB_mem (s : State) (x : Decision) : (s.noteAgainstB x).mem = s.mem := State.noteMis_mem ..

theorem State.noteAgainstB_stamp (s : State) (x : Decision) (e : Event) : (s.noteAgainstB x).stamp e = s.stamp e := by
  have now : (s.noteAgainstB x).now = s.now := by simp [State.noteAgainstB, State.noteMis, State.freezeVotes, State.setCmp]
  rw [State.stamp, State.stamp, s.noteAgainstB_sk x, now]

/-- Where the class removes the lane, the comparison stops; elsewhere the other drives go on. -/
theorem State.decideAgainst_B_eq {s : State} (x : Decision) (hst : s.sk.st = .service) :
    s.decideAgainst 0x30 .B false x =
      if s.classNow .skink 0x30 = 2 then
        ((s.noteAgainstB x).setCmp { (s.noteAgainstB x).cmp.abandon with stopped := true }).raiseS 0x30 x.index 2
      else ((s.noteAgainstB x).setSk { (s.noteAgainstB x).sk with hold := none }).raiseS 0x30 x.index 2 := by
  have sk := s.noteAgainstB_sk x
  have cls := State.classNow_skink_congr sk 0x30
  have note : s.freezeVotes.noteMis x.kind x.index x.tag (dno .B + 1) = s.noteAgainstB x := rfl
  unfold State.decideAgainst
  rw [note, ← cls]
  have service : (s.noteAgainstB x).sk.st = .service := by rw [sk, hst]
  generalize s.noteAgainstB x = u at service ⊢
  by_cases removes : u.classNow .skink 0x30 = 2
  · simp [service, removes, resLane, laneNo, DLane.lane]
  · simp [service, removes, resLane, laneNo, DLane.lane]

theorem State.DecidedAgainstB.of_raise {s u : State} {x : Decision} (frozen : u.cmp.frozen = true) (decisions : u.cmp.decisions = [])
    (votes : u.cmp.votes = s.cmp.votes) (decided : u.fg cmpB CMPS.LASTMIS_DECIDED = 2) (evq : u.evq = s.evq) (mem : u.mem = s.mem)
    (stamp : ∀ e, u.stamp e = s.stamp e) : s.DecidedAgainstB (u.raiseS 0x30 x.index 2) x where
  frozen := by rw [State.raiseS_cmp, frozen]
  decisions := by rw [State.raiseS_cmp, decisions]
  votes := by rw [State.raiseS_cmp, votes]
  decided := by rw [State.raiseS_fg, decided]
  evq := by rw [State.raiseS_evq _ x.index 2 0 rfl, evq, stamp]
  mem := by rw [State.raiseS_mem, mem]

theorem State.decideAgainst_B_of_service {s : State} (x : Decision) (hst : s.sk.st = .service) (hd : s.cmp.decisions = []) :
    s.DecidedAgainstB (s.decideAgainst 0x30 .B false x) x := by
  have frozen : (s.noteAgainstB x).cmp.frozen = true := by rw [s.noteAgainstB_cmp x]
  have decisions : (s.noteAgainstB x).cmp.decisions = [] := by rw [s.noteAgainstB_cmp x, ← hd]
  have votes : (s.noteAgainstB x).cmp.votes = s.cmp.votes := by rw [s.noteAgainstB_cmp x]
  have evq := s.noteAgainstB_evq x
  have mem := s.noteAgainstB_mem x
  have decided := s.noteAgainstB_decided x
  have stamp := s.noteAgainstB_stamp x
  rw [State.decideAgainst_B_eq x hst]
  generalize s.noteAgainstB x = u at frozen decisions votes evq mem decided stamp ⊢
  split
  · refine .of_raise ?_ ?_ ?_ ?_ ?_ ?_ fun e => ?_
    · rw [State.setCmp_cmp]
      exact frozen
    · rw [State.setCmp_cmp]
      rfl
    · rw [State.setCmp_cmp]
      exact votes
    · rw [State.setCmp_fg, decided]
    · rw [State.setCmp_evq, evq]
    · rw [State.setCmp_mem, mem]
    · rw [State.setCmp_stamp, stamp]
  · refine .of_raise ?_ ?_ ?_ ?_ ?_ ?_ fun e => ?_
    · rw [State.setSk_cmp, frozen]
    · rw [State.setSk_cmp, decisions]
    · rw [State.setSk_cmp, votes]
    · rw [State.setSk_fg, decided]
    · rw [State.setSk_evq, evq]
    · rw [State.setSk_mem, mem]
    · rw [State.setSk_stamp_hold, stamp]

/-- W's record that agrees with A's decides a mismatch against B. -/
theorem State.decideVote_of_agreeing {s : State} {x : Decision} {w : OutRec} (hm : x.what = .mismatch) (ha : x.recA = some w) :
    s.decideVote x (some w) = s.decideAgainst 0x30 .B false x := by
  simp [State.decideVote, hm, ha, OutRec.same_self]

/-- A decision that cannot be made freezes the vote buffer and is raised as 0x033 (R49). -/
theorem State.undecided_spec (s : State) (x : Decision) :
    (s.undecided x).cmp = { s.cmp with frozen := true } ∧ SkinkEvent (s.undecided x) 0x33 255 ∧ (s.undecided x).mem = s.mem := by
  refine ⟨?_, ⟨_, State.stamp_mem_raiseS rfl, rfl, rfl, rfl⟩, ?_⟩
  · rw [State.undecided, State.raiseS_cmp, State.noteMis_cmp, State.freezeVotes, State.setCmp_cmp]
  · rw [State.undecided, State.raiseS_mem, State.noteMis_mem, State.freezeVotes, State.setCmp_mem]

/-! A window that closes (R31, R298) -/

/-- The window of the one record that waits has closed, and its key takes no other. -/
def State.windowClosed (s : State) (p : CmpPend) : State :=
  s.setCmp { s.cmp with pend := [], closed := ⟨p.b.r.kind, p.b.r.index, p.b.r.tag, p.n⟩ :: s.cmp.closed }

/-- The dispute over a record whose partner stayed away. -/
def missingDispute (p : CmpPend) : Decision :=
  { what := .missing, kind := p.b.r.kind, index := p.b.r.index, tag := p.b.r.tag, n := p.n,
    recA := if p.lane = .A then some p.b.r else none, recB := if p.lane = .B then some p.b.r else none, at_ := p.at_ }

theorem exec_cmpWindowClose_of_missing {s : State} {p : CmpPend} {tag : BitVec 16} (hp : s.cmp.pend = [p]) (hk : p.b.r.kind = 1)
    (ht : p.b.r.tag = tag.toNat) (hw : s.windowOver p.at_ = true) :
    exec (.cmpWindowClose tag 1 p.b.r.index false false) s =
      .next ((s.windowClosed p).detect (missingDispute p) p.b.r false) := by
  have plain : p.b.r.safety = false := OutRec.safety_of_kind (.inl hk)
  rw [exec_cmpWindowClose]
  simp [execCmpWindowClose, hp, hk, ht, hw, plain, State.windowClosed, missingDispute]

/-- Without a witness a missing partner holds the motor and leaves the decision open (R49). -/
theorem State.detect_of_noWitness {s : State} {x : Decision} {r : OutRec} (hst : s.sk.st = .noWitness) (hax : s.sk.axo = none)
    (hk : r.kind = 1) (hheld : s.cmp.held = []) (hw : x.what = .missing) :
    s.detect x r false = ((s.noteMis x.kind x.index x.tag 0).heldAlone r.index).undecided x := by
  unfold State.detect
  have note_sk := s.noteMis_sk x.kind x.index x.tag 0
  have note_cmp := s.noteMis_cmp x.kind x.index x.tag 0
  generalize s.noteMis x.kind x.index x.tag 0 = u at note_sk note_cmp ⊢
  have held := State.holdOutput_of_axis hk (s := u) (by rw [note_cmp, hheld])
  have alone : (u.heldAlone r.index).sk.st = .noWitness := by rw [State.heldAlone_sk, note_sk, hst]
  have kind : (u.heldAlone r.index).kind = .noWitness :=
    (State.kind_of_no_axo (by rw [State.heldAlone_sk, note_sk, hax])).trans alone
  have open_ : (u.heldAlone r.index).askVote x false = (u.heldAlone r.index).undecided x := by
    simp [State.askVote, kind, State.decideVote, hw]
  simp only [hw, note_sk, hax, held, Bool.false_eq_true, if_false]
  rw [if_neg (by simp [alone]), open_]

end Sys2Proof.Machine
end

section
/-! PROOF. Records of the drive lanes in pairs. -/

namespace Sys2Proof.Machine

open Sys2Proof

/-- The dispute over two AXIS records in Service: the motor is held in both lanes, every other drive holds, and the decision waits. -/
theorem State.dispute_spec {s : State} {x : Decision} {n : Nat} (hn : n < 6) (hst : s.sk.st = .service) (hd : s.cmp.decisions = []) :
    ((s.motorHeld n).decisionWaits x).cmp.pend = s.cmp.pend ∧ ((s.motorHeld n).decisionWaits x).cmp.held = [⟨1, n⟩] ∧
      (∀ d, ((s.motorHeld n).decisionWaits x).gatesAreOff d (3 * n) 3) ∧
      ((s.motorHeld n).decisionWaits x).sk.hold = some { left := 2 } ∧ ((s.motorHeld n).decisionWaits x).sk.st = .service ∧
      ((s.motorHeld n).decisionWaits x).cmp.decisions.length = 1 ∧ (∀ b f, ((s.motorHeld n).decisionWaits x).fg b f = s.fg b f) ∧
      ((s.motorHeld n).decisionWaits x).evq = s.evq ∧ ((s.motorHeld n).decisionWaits x).mem = s.mem := by
  have st : ((s.motorHeld n).decisionWaits x).sk.st = .service := hst
  have held : ((s.motorHeld n).decisionWaits x).cmp.held = [⟨1, n⟩] := rfl
  have waits : ((s.motorHeld n).decisionWaits x).cmp.decisions = s.cmp.decisions ++ [x] := rfl
  refine ⟨rfl, held, State.gatesAreOff_of_held hn st ?_, rfl, st, ?_, fun b f => ?_, rfl, rfl⟩
  · rw [held]
    simp
  · rw [waits, hd]
    rfl
  · rw [State.decisionWaits, State.setCmp_fg, State.motorHeld, State.setSk_fg, State.heldAlone, State.setCmp_fg]

/-- Settles O40: a first record waits, a match releases its output, a mismatch holds the motor and waits for W, W's record decides,
a missing partner without a witness stays undecided, and what is stale or one too many enters no comparison. -/
theorem recordsAreComparedInPairs : Obligations.RecordsAreComparedInPairs := by
  unfold Obligations.RecordsAreComparedInPairs
  refine ⟨fun l b x y s hst hstop hq hs hc hp => ?_, fun a b n w s hst hstop hq hs hc hp hn hr hk hi hheld => ?_,
    fun a b n w s hst hstop hax hq hs hc hp hn hka hkb hix h6 htag hpay hi hv hhold hheld hdec hcls => ?_,
    fun x a b w s hq hf hre hrm hage hv hst hax hd hm ha hb hn hk hi ht haw _ => ?_,
    fun p tag s hst hax hp hk ht hw hheld => ?_, fun l b x y s hst hstop hq => ⟨fun hs => ?_, fun hs hc hfull hl => ?_⟩⟩
  · refine ⟨_, exec_cmpRecordArrive_of_service x y hst hstop hq, ?_⟩
    rw [State.cmpArrive_of_alone (s := s.busTaken (dno l)) x y hs hc (by simp [State.busTaken, hp]), if_neg (by simp [State.busTaken, hp])]
    exact ⟨congrArg (· ++ _) hp, rfl, rfl, rfl, rfl, rfl⟩
  · refine ⟨_, exec_cmpRecordArrive_of_service false false hst hstop hq, ?_⟩
    subst hn
    rw [State.cmpArrive_of_partner (s := s.busTaken (dno .B)) false false hs hc hp (by rw [hr]) (by rw [hr]) (by rw [hr]),
      State.comparePair_of_pump (s := (s.busTaken (dno .B)).pairTaken b) _ _ hi hr hk]
    have held : (((s.busTaken (dno .B)).pairTaken b).unholdOutput b.r).cmp.held = s.cmp.held.erase ⟨b.r.kind, b.r.index⟩ := rfl
    exact ⟨rfl, by rw [held, hheld, hk]; simp, rfl, rfl, rfl, rfl⟩
  · refine ⟨_, exec_cmpRecordArrive_of_service false false hst hstop hq, ?_⟩
    subst hn
    have cls : ((s.busTaken (dno .B)).pairTaken b).classNow .skink 0x30 = 2 := (State.classNow_skink_congr rfl _).trans hcls
    rw [State.cmpArrive_of_partner (s := s.busTaken (dno .B)) false false hs hc hp (hka.trans hkb.symm) hix htag,
      State.comparePair_of_differ (s := (s.busTaken (dno .B)).pairTaken b) _ _ hi hka hpay,
      State.detect_of_service (s := (s.busTaken (dno .B)).pairTaken b) hst hax hka hheld hhold hv rfl cls, hix]
    obtain ⟨htg, hidx⟩ := ((s.busTaken (dno .B)).pairTaken b).noteMis_tag_index a.r.kind a.r.index a.r.tag 0
    obtain ⟨pend, held, off, hold, st, one, fg, evq, mem⟩ := State.dispute_spec (n := b.r.index)
      (x := pairDispute ((s.busTaken (dno .B)).keyCount .B b.r) w a b)
      (s := ((s.busTaken (dno .B)).pairTaken b).noteMis a.r.kind a.r.index a.r.tag 0) h6
      (by rw [State.noteMis_sk]; exact hst) (by rw [State.noteMis_cmp]; exact hdec)
    refine ⟨pend.trans ?_, held, off, hold, st, one, (fg _ _).trans htg, (fg _ _).trans (hidx.trans (by rw [hix])), evq.trans ?_, mem.trans ?_⟩
    · rw [State.noteMis_cmp]
      rfl
    · rw [State.noteMis_evq]
      rfl
    · rw [State.noteMis_mem]
      rfl
  · refine ⟨_, exec_voteRecordStore_of_waiting hq hf hre hrm hage hv hst hax hd hn hk hi ht, ?_⟩
    rw [State.decideVote_of_agreeing hm (ha.trans (congrArg some haw))]
    obtain ⟨frozen, decisions, votes, decided, hevq, hmem⟩ := State.decideAgainst_B_of_service (s := s.voteTaken w []) x hst rfl
    exact ⟨frozen, decisions, votes, decided, hevq, hmem⟩
  · refine ⟨_, exec_cmpWindowClose_of_missing hp hk ht hw, ?_⟩
    rw [State.detect_of_noWitness (s := s.windowClosed p) hst hax hk hheld rfl]
    obtain ⟨cmp, event, mem⟩ := State.undecided_spec (((s.windowClosed p).noteMis (missingDispute p).kind (missingDispute p).index
      (missingDispute p).tag 0).heldAlone p.b.r.index) (missingDispute p)
    refine ⟨?_, ?_, ?_, event, mem.trans ?_⟩
    · rw [cmp, State.heldAlone, State.setCmp_cmp, State.noteMis_cmp]
      rfl
    · rw [cmp, State.heldAlone, State.setCmp_cmp]
    · rw [cmp]
    · rw [State.heldAlone, State.setCmp_mem, State.noteMis_mem, State.windowClosed, State.setCmp_mem]
  · refine ⟨_, exec_cmpRecordArrive_of_service x y hst hstop hq, ?_⟩
    rw [State.cmpArrive_of_stale (s := s.busTaken (dno l)) l x y hs]
    refine ⟨State.fInc_cmp .., ?_, State.fInc_evq .., State.fInc_mem .., State.fInc_sk ..⟩
    exact State.fg_fInc_same _ _ _ (by decide)
  · refine ⟨_, exec_cmpRecordArrive_of_service x y hst hstop hq, ?_⟩
    rw [State.cmpArrive_of_alone (s := s.busTaken (dno l)) x y hs hc hl, if_pos (show 64 ≤ (s.busTaken (dno l)).cmp.pend.length from hfull)]
    refine ⟨?_, ⟨_, State.stamp_mem_raiseS rfl, rfl, rfl, rfl⟩, ?_, ?_, ?_⟩
    · rw [State.raiseS_cmp]
      rfl
    · rw [State.raiseS_regs]
      rfl
    · rw [State.raiseS_mem]
      rfl
    · rw [State.raiseS_sk]
      rfl

end Sys2Proof.Machine
end

section
/-! SUPPORT. The hibernate domain outlasts a start of the unit (R40, R518, R520). -/

namespace Sys2Proof.Machine

open Sys2Proof

theorem foldl_frame_mem {α β : Type} {f : State → α → State} {g : State → β} (l : List α) (hf : ∀ s, ∀ a ∈ l, g (f s a) = g s)
    (s : State) : g (l.foldl f s) = g s := by
  induction l generalizing s with
  | nil => rfl
  | cons a l ih =>
    exact (ih (fun s b hb => hf s b (List.mem_cons_of_mem a hb)) _).trans (hf s a List.mem_cons_self)

/-- The shared registers, among them those of the hibernate domain, read in t as they do in s. -/
def State.SharedKept (s t : State) : Prop := ∀ k, key sharedHome 0 ≤ k → t.reg k = s.reg k

namespace State.SharedKept

variable {s t u : State}

theorem trans (h : s.SharedKept t) (g : t.SharedKept u) : s.SharedKept u := fun k hk => (g k hk).trans (h k hk)

theorem of_regs (h : t.regs = s.regs) : s.SharedKept t := fun k _ => by rw [State.reg, State.reg, h]

theorem fg_hib (h : s.SharedKept t) (f : Fld) : t.fg hibB f = s.fg hibB f := by
  have shared : key sharedHome 0 ≤ hibB + f.ofs := by
    simp only [hibB, key]
    omega
  rw [State.fg, State.fg, h _ shared]

end State.SharedKept

/-- Clearing ranges of a lane's own registers leaves those above. -/
theorem famGet_clearRanges_of_le (d : Nat → Word) {l k : Nat} (rs : List (Nat × Nat)) (m : List (Nat × Word))
    (h : ∀ r ∈ rs, key l r.2 ≤ k) : famGet d (clearRanges l rs m) k = famGet d m k := by
  unfold clearRanges
  induction rs generalizing m with
  | nil => rfl
  | cons r rs ih =>
    have above : ¬ (key l r.1 ≤ k ∧ k < key l r.2) := fun g => absurd (h r List.mem_cons_self) (Nat.not_le.mpr g.2)
    rw [List.foldl_cons, ih _ fun q hq => h q (List.mem_cons_of_mem r hq), famGet_famClear, if_neg above]

/-- A reset clears nothing outside its lane's map. -/
theorem resetRanges_le {l : Nat} (hl : l < 3) : ∀ r ∈ resetRanges l, r.2 ≤ 2 ^ 40 := by
  have small : l = 0 ∨ l = 1 ∨ l = 2 := by omega
  rcases small with rfl | rfl | rfl <;> decide

theorem State.tapsLost_regs (s : State) (l : Lane) : (s.tapsLost l).regs = s.regs := by
  unfold State.tapsLost
  split
  · split
    · exact foldl_frame (g := State.regs) (fun s n => State.raiseL_regs ..) _ s
    · rfl
  · rfl

theorem State.holdReset_sharedKept (s : State) (l : Lane) : s.SharedKept (s.holdReset l) := by
  intro k hk
  have own : laneNo l < 3 := by cases l <;> decide
  have cleared : (s.holdReset l).regs = clearRanges (laneNo l) (resetRanges (laneNo l)) (s.tapsLost l).regs := rfl
  rw [State.reg, State.reg, cleared, State.tapsLost_regs]
  refine famGet_clearRanges_of_le _ _ _ fun r hr => ?_
  have := resetRanges_le own r hr
  simp only [key, sharedHome] at hk ⊢
  omega

theorem State.cellCmd_off_sharedKept (s : State) (l : DLane) {c : Nat} (src : Nat) (hc : c < 2 ^ 20) :
    s.SharedKept (s.cellCmd l c src false false) := by
  intro k hk
  have own : dno l ≤ 1 := by cases l <;> decide
  rw [State.cellCmd_of_not_both s l c src rfl, State.reg_fs_of_ne, State.setCell_reg]
  simp only [cellB, pcB, key, sharedHome, PC.CELL_STATUS_SRC] at hk ⊢
  omega

theorem State.cfgHoldMotor_lt (s : State) (h : Nat) : s.cfgHoldMotor h < 8 := by
  have width : 4 * h + 2 - 4 * h + 1 = 3 := by omega
  unfold State.cfgHoldMotor State.cfgF blkField
  rw [width]
  exact Nat.mod_lt _ (by decide)

theorem State.cellsBack_sharedKept (s : State) (l : DLane) {m : Nat} (hm : m < 8) : s.SharedKept (s.cellsBack l m) := by
  intro k hk
  refine foldl_frame_mem (g := fun t : State => t.reg k) _ (fun t i hi => ?_) s
  have := List.mem_range.mp hi
  split
  · exact t.cellCmd_off_sharedKept l _ (by omega) k hk
  · rfl

/-- Releasing the regulators in turn, as `State.holdsOff` does. -/
theorem State.release_sharedKept (rs : List (Nat × HoldReg)) (s : State) : s.SharedKept
    (rs.foldl (fun (t : State) (p : Nat × HoldReg) => if p.2.engaged then t.cellsBack p.2.lane (t.cfgHoldMotor p.1) else t) s) := by
  induction rs generalizing s with
  | nil => exact fun _ _ => rfl
  | cons p rs ih =>
    rw [List.foldl_cons]
    refine State.SharedKept.trans ?_ (ih _)
    split
    · exact s.cellsBack_sharedKept _ (s.cfgHoldMotor_lt _)
    · exact fun _ _ => rfl

theorem State.holdsOff_sharedKept (s : State) : s.SharedKept s.holdsOff :=
  (State.release_sharedKept s.sf.regs s).trans (.of_regs rfl)

theorem State.resetAll_sharedKept (s : State) : s.SharedKept s.resetAll := by
  have resets := ((s.holdReset_sharedKept .W).trans (State.holdReset_sharedKept _ .A)).trans (State.holdReset_sharedKept _ .B)
  unfold State.resetAll
  generalize ((s.holdReset .W).holdReset .A).holdReset .B = u at resets ⊢
  exact resets.trans (.of_regs rfl)

theorem State.enterTadpole_regs (s : State) :
    ∃ k, s.enterTadpole.regs = (s.resetAll.cmpStop.setSk k).soAllOff.holdsOff.regs := by
  constructor
  simp only [State.enterTadpole]
  with_reducible rfl

theorem State.enterTadpole_sharedKept (s : State) : s.SharedKept s.enterTadpole := by
  obtain ⟨k, regs⟩ := s.enterTadpole_regs
  have stopped (u : State) : u.SharedKept (u.cmpStop.setSk k).soAllOff := .of_regs rfl
  exact ((s.resetAll_sharedKept.trans (stopped _)).trans (State.holdsOff_sharedKept _)).trans (.of_regs regs)

end Sys2Proof.Machine
end

section
/-! PROOF. Reset releases, wakes and supply starts. -/

namespace Sys2Proof.Machine

open Sys2Proof

/-! The release of a lane (R512, R516) -/

/-- The lane's rails have been checked: its enables are on, and the first release of the start is dated. -/
def State.railsChecked (s : State) (l : Lane) (rail : Fin 7) : State :=
  (s.setLane l { s.lane l with enMem := true, enRun := true, rails := rail.val == 0 }).setSk
    { s.sk with relAt := some (s.sk.relAt.getD s.now) }

/-- A lane out of reset: its boot bank chosen, a trial counted. -/
def LaneSt.released (x : LaneSt) : LaneSt :=
  { x with
    reset := false, bootPref := if x.trial && x.tries < 2 then 1 - x.active else x.active, bootBad := 0
    tries := if x.trial && x.tries < 2 then x.tries + 1 else x.tries
    trial := x.trial && x.tries < 2 }

/-- The lane leaves reset, with no entry of its collector open. -/
def State.leavesReset (s : State) (l : Lane) (low : Bool) : State :=
  ((s.setLane l (s.lane l).released).closeLane l).fs hibB HIB.STATUS_VHIBLOW (if low then 1 else 0)

/-- What the release of a lane may raise: a rail or the hibernate supply that failed before it. -/
def State.startEvents (s : State) (l : Lane) (low : Bool) : State :=
  let s := if s.fg (pwrB l) PWR.RSTCAUSE_RAIL ≠ 0 then s.raiseL l 0x20 255 else s
  let s := if s.fb hibB HIB.STATUS_VHIBLOSS then s.raiseL l 0x23 255 else s
  if low then s.raiseL l 0x24 255 else s

/-- The lane's own status and DRAM at its release. -/
def State.retentionNoted (s : State) (l : Lane) (kept : Bool) : State :=
  (s.fs (pwrB l) PWR.STATUS_SRKEPT (if kept && s.fg hibB HIB.STATUS_SLEEP == 2 then 1 else 0)).dramStart l kept

theorem State.startEvents_evq (s : State) (l : Lane) (low : Bool) : ∃ q, s.startEvents l low = { s with evq := q } := by
  have raises (p : Prop) [Decidable p] (u : State) (src : Nat) :
      ∃ q, (if p then u.raiseL l src 255 else u) = { u with evq := q } := by
    split
    · rcases u.raise_cases { coll := .lane l, src := src, inst := 255, res := resLane l } with h | h
      · exact ⟨_, h⟩
      · exact ⟨_, h⟩
    · exact ⟨_, rfl⟩
  obtain ⟨q, rail⟩ := raises (s.fg (pwrB l) PWR.RSTCAUSE_RAIL ≠ 0) s 0x20
  unfold State.startEvents
  dsimp only
  rw [rail]
  obtain ⟨r, loss⟩ := raises (State.fb { s with evq := q } hibB HIB.STATUS_VHIBLOSS = true) { s with evq := q } 0x23
  rw [loss]
  exact raises (low = true) { s with evq := r } 0x24

theorem State.mayRelease_of_tadpole {s : State} {l : Lane} (hr : (s.lane l).reset = true) (hv : s.sk.vor = true)
    (hf : s.feedOf l = true) (hw : s.sk.waitBoth = false) (hb : (s.lane l).broken = false) (hl : s.sk.leftOut = none)
    (hst : s.sk.st = .tadpole) : s.mayRelease l = true := by
  simp [State.mayRelease, hr, hv, hf, hw, hb, hl, hst]

theorem exec_laneResetRelease_bad {s : State} {l : Lane} {rail : Fin 7} (low : Bool) (hm : s.mayRelease l = true)
    (hp : s.past (famGet (fun _ => 0) s.sk.up (laneNo l)) (2 * 10 ^ 6) = true) (hr : rail.val ≠ 0) :
    exec (.laneResetRelease l rail low) s = .next ((s.railsChecked l rail).fs (pwrB l) PWR.RSTCAUSE_RAIL rail.val) := by
  have goes : ¬ (!s.mayRelease l || !s.past (famGet (fun _ => 0) s.sk.up (laneNo l)) (2 * 10 ^ 6)) = true := by rw [hm, hp]; decide
  rw [exec_laneResetRelease, execLaneResetRelease, if_neg goes]
  exact if_pos hr

theorem exec_laneResetRelease_good {s : State} {l : Lane} {rail : Fin 7} (low : Bool) (hm : s.mayRelease l = true)
    (hp : s.past (famGet (fun _ => 0) s.sk.up (laneNo l)) (2 * 10 ^ 6) = true) (hr : rail.val = 0) :
    exec (.laneResetRelease l rail low) s =
      .next ((((s.railsChecked l rail).leavesReset l low).startEvents l low).retentionNoted l (s.lane l).enMem) := by
  have goes : ¬ (!s.mayRelease l || !s.past (famGet (fun _ => 0) s.sk.up (laneNo l)) (2 * 10 ^ 6)) = true := by rw [hm, hp]; decide
  rw [exec_laneResetRelease, execLaneResetRelease, if_neg goes]
  exact if_neg (not_not.mpr hr)

/-! What the stages of a release leave alone -/

theorem State.dramStart_frame (s : State) (l : Lane) (kept : Bool) :
    (s.dramStart l kept).lanes = s.lanes ∧ (s.dramStart l kept).tab = s.tab ∧
      ∀ m f, (s.dramStart l kept).fg (key m 0x40900000) f = s.fg (key m 0x40900000) f ∨ 0x400000 ≤ f.ofs := by
  unfold State.dramStart
  split
  · refine ⟨rfl, rfl, fun m f => ?_⟩
    by_cases far : 0x400000 ≤ f.ofs
    · exact .inr far
    · refine .inl (State.fg_fs_of_ne _ _ ?_)
      simp only [memcB, key, MEMC.STATUS_INITDONE]
      omega
  · exact ⟨rfl, rfl, fun m f => .inl rfl⟩

/-- The power block and the hibernate domain read as before. -/
theorem State.fg_dramStart (s : State) (l : Lane) (kept : Bool) (m : Nat) {f : Fld} (hf : f.ofs < 0x1000) :
    (s.dramStart l kept).fg (key m 0x40900000) f = s.fg (key m 0x40900000) f :=
  ((s.dramStart_frame l kept).2.2 m f).resolve_right (by omega)

theorem State.retentionNoted_lanes (s : State) (l : Lane) (kept : Bool) : (s.retentionNoted l kept).lanes = s.lanes :=
  (State.dramStart_frame _ l kept).1

theorem State.retentionNoted_tab (s : State) (l : Lane) (kept : Bool) : (s.retentionNoted l kept).tab = s.tab :=
  (State.dramStart_frame _ l kept).2.1

theorem State.retentionNoted_kept (s : State) (l : Lane) (kept : Bool) :
    (s.retentionNoted l kept).fb (pwrB l) PWR.STATUS_SRKEPT = (kept && s.fg hibB HIB.STATUS_SLEEP == 2) := by
  rw [State.fb, State.retentionNoted, pwrB, State.fg_dramStart _ _ _ _ (by decide)]
  cases kept && s.fg hibB HIB.STATUS_SLEEP == 2
  · rw [State.fg_fs_fits _ _ (by decide) (by decide)]
    rfl
  · rw [State.fg_fs_fits _ _ (by decide) (by decide)]
    rfl

theorem State.retentionNoted_hib (s : State) (l : Lane) (kept : Bool) {f : Fld} (hf : f.ofs < 0x1000) :
    (s.retentionNoted l kept).fg hibB f = s.fg hibB f := by
  have own : laneNo l < 3 := by cases l <;> decide
  rw [State.retentionNoted, hibB, State.fg_dramStart _ _ _ _ hf]
  refine State.fg_fs_of_ne _ _ ?_
  simp only [pwrB, key, sharedHome, PWR.STATUS_SRKEPT]
  omega

/-- What a lane's release leaves, whatever events it raises (R512). -/
theorem State.release_spec (s : State) (l : Lane) (low : Bool) (kept : Bool) :
    (((s.leavesReset l low).startEvents l low).retentionNoted l kept).lane l = (s.lane l).released ∧
      (((s.leavesReset l low).startEvents l low).retentionNoted l kept).fb (pwrB l) PWR.STATUS_SRKEPT =
        (kept && s.fg hibB HIB.STATUS_SLEEP == 2) ∧
      (((s.leavesReset l low).startEvents l low).retentionNoted l kept).fb hibB HIB.STATUS_VHIBLOW = low ∧
      ∀ e ∈ (((s.leavesReset l low).startEvents l low).retentionNoted l kept).tab.open_, e.coll ≠ .lane l := by
  obtain ⟨q, raised⟩ := (s.leavesReset l low).startEvents_evq l low
  rw [raised]
  refine ⟨?_, ?_, ?_, fun e he => ?_⟩
  · rw [State.lane_congr (State.retentionNoted_lanes _ l kept)]
    exact (State.lane_setLane ..).trans (if_pos rfl)
  · rw [State.retentionNoted_kept]
    have sleep : (s.leavesReset l low).fg hibB HIB.STATUS_SLEEP = s.fg hibB HIB.STATUS_SLEEP :=
      State.fg_fs_apart _ _ (by decide) (by decide)
    exact congrArg (fun n => kept && n == 2) sleep
  · have set : (s.leavesReset l low).fb hibB HIB.STATUS_VHIBLOW = low := by
      cases low <;> exact State.fb_fs_same _ _ _ _ (by decide)
    rw [State.fb, State.retentionNoted_hib _ _ _ (by decide)]
    exact set
  · rw [State.retentionNoted_tab] at he
    obtain ⟨-, other⟩ := List.mem_filter.mp (show e ∈ s.tab.open_.filter fun e => e.coll != .lane l from he)
    exact bne_iff_ne.mp other

theorem State.railsChecked_lane (s : State) (l : Lane) (rail : Fin 7) :
    (s.railsChecked l rail).lane l = { s.lane l with enMem := true, enRun := true, rails := rail.val == 0 } :=
  (State.lane_setLane ..).trans (if_pos rfl)

/-! Wakes (R521) -/

/-- CAUSE records the cause of a wake. -/
def State.wakeNoted (s : State) (n : Nat) : State := s.fs hibB HIB.STATUS_CAUSE (s.fg hibB HIB.STATUS_CAUSE ||| 2 ^ n)

theorem State.wakeNoted_cause (s : State) {n : Nat} (hn : n < 6) :
    ((s.wakeNoted n).fg hibB HIB.STATUS_CAUSE).testBit n = true := by
  have fits : s.fg hibB HIB.STATUS_CAUSE ||| 2 ^ n < 2 ^ 6 :=
    Nat.or_lt_two_pow (s.fg_lt hibB HIB.STATUS_CAUSE) (Nat.pow_lt_pow_right (by decide) hn)
  rw [State.wakeNoted, State.fg_fs_fits _ _ (by decide) fits, Nat.testBit_or, Nat.testBit_two_pow_self, Bool.or_true]

theorem State.wake_of_park {s : State} (n : Nat) (h : s.sk.st = .park) :
    s.wake n = (s.wakeNoted n).enterTadpole.lanesUp [0, 1, 2] := if_pos h

theorem State.wake_of_hibernate {s : State} (n : Nat) (h : s.sk.st = .hibernate) :
    s.wake n = (s.wakeNoted n).setSk { (s.wakeNoted n).sk with keepOff := false, waitBoth := true, wakeAt := s.now } :=
  (if_neg (by simp [h])).trans (if_pos h)

theorem State.lanesUp_st (s : State) (ls : List Nat) : (s.lanesUp ls).sk.st = s.sk.st := rfl

/-- A wake in Park starts Skink's Tadpole, and the cause outlasts the start. -/
theorem State.wake_of_park_spec {s : State} {n : Nat} (hn : n < 6) (h : s.sk.st = .park) :
    (s.wake n).sk.st = .tadpole ∧ ((s.wake n).fg hibB HIB.STATUS_CAUSE).testBit n = true := by
  rw [State.wake_of_park n h]
  refine ⟨(State.lanesUp_st ..).trans (State.enterTadpole_spec _).1, ?_⟩
  rw [State.lanesUp, State.setSk_fg, (State.enterTadpole_sharedKept _).fg_hib, s.wakeNoted_cause hn]

/-! Supply starts (R40) -/

/-- Time 0 of R516 is the present clock for every lane that starts. -/
theorem State.lanesUp_up (s : State) {n : Nat} (hn : n < 3) : famGet (fun _ => 0) (s.lanesUp [0, 1, 2]).sk.up n = s.now := by
  have listed : (s.lanesUp [0, 1, 2]).sk.up = famIns (famIns (famIns s.sk.up 0 s.now) 1 s.now) 2 s.now := rfl
  rw [listed]
  have lanes : n = 2 ∨ n = 1 ∨ n = 0 := by omega
  rcases lanes with rfl | rfl | rfl
  · exact famGet_famIns_same ..
  · rw [famGet_famIns_of_ne _ _ _ (by decide), famGet_famIns_same]
  · rw [famGet_famIns_of_ne _ _ _ (by decide), famGet_famIns_of_ne _ _ _ (by decide), famGet_famIns_same]

theorem State.enterTadpole_vor (s : State) : s.enterTadpole.sk.vor = s.sk.vor := by
  have stopped : s.resetAll.cmpStop.sk = s.sk := by simp
  simp only [State.enterTadpole, State.holdsOff_sk, State.soAllOff_sk, State.setSk_sk, stopped]

/-- VOR is valid, and the lanes of the valid feeds start with W. -/
def State.vorUp (s : State) : State :=
  (s.setSk { s.sk with vor := true }).lanesUp ((if s.sk.feedA then [0] else []) ++ (if s.sk.feedB then [1] else []) ++ [2])

/-- In Hibernate with KEEPOFF low, VOR starts Skink in Tadpole (R40). -/
theorem exec_vorValid_of_hibernate {s : State} (hst : s.sk.st = .hibernate) (hk : s.sk.keepOff = false) :
    exec .vorValid s = .next (s.vorUp.enterTadpole.setSk
      { s.vorUp.enterTadpole.sk with waitBoth := s.vorUp.sk.waitBoth && !(s.vorUp.sk.feedA && s.vorUp.sk.feedB) }) := by
  have asleep : s.vorUp.sk.st = .hibernate ∧ ¬ s.vorUp.sk.keepOff = true := ⟨hst, by simp [State.vorUp, State.lanesUp, hk]⟩
  rw [exec_vorValid]
  unfold execVorValid
  extract_lets k u v
  have up : v = s.vorUp := rfl
  clear_value v
  subst up
  exact congrArg Host.Outcome.next (if_pos asleep)

/-- The wake's time limit starts the lanes of feed A alone (R40). -/
theorem exec_wakeOneFeedTimeout_of_feedA {s : State} (hst : s.sk.st = .tadpole) (hw : s.sk.waitBoth = true) (ha : s.sk.feedA = true)
    (hp : s.past s.sk.wakeAt (500 * 10 ^ 6) = true) :
    exec .wakeOneFeedTimeout s =
      .next ((s.lanesUp [0, 1, 2]).setSk { (s.lanesUp [0, 1, 2]).sk with waitBoth := false, leftOut := some .B }) := by
  rw [exec_wakeOneFeedTimeout, execWakeOneFeedTimeout, if_pos ⟨hst, hw, .inl ha, hp⟩, if_pos ha]

/-- Settles O8: a release with good rails takes the lane out of reset and one without leaves it there; a wake's CAUSE stands in the
hibernate domain, which a start of the unit leaves alone; VOR and the wake's time limit start Skink and the lanes. -/
theorem resetsAndWakesStartTheUnit : Obligations.ResetsAndWakesStartTheUnit := by
  unfold Obligations.ResetsAndWakesStartTheUnit
  refine ⟨fun l rail low s hr hv hf hw hb hl hst hp => ?_, fun n s hen hst => ?_, fun n s hen hst => ?_, fun s hal hsec hst => ?_,
    fun s hst hk => ?_, fun s hst hw ha _ hp => ?_⟩
  · have may := State.mayRelease_of_tadpole hr hv hf hw hb hl hst
    have checked := s.railsChecked_lane l rail
    by_cases good : rail.val = 0
    · obtain ⟨lane, kept, vhib, closed⟩ := (s.railsChecked l rail).release_spec l low (s.lane l).enMem
      refine ⟨_, exec_laneResetRelease_good low may hp good, ?_, ?_, fun _ => ⟨?_, ?_, kept, vhib, closed⟩, fun bad => absurd good bad⟩ <;>
        rw [lane, checked]
      · rfl
      · rfl
      · rfl
      · simp [LaneSt.released, good]
    · refine ⟨_, exec_laneResetRelease_bad low may hp good, ?_, ?_, fun h => absurd h good, fun _ => ⟨?_, ?_, rfl⟩⟩
      · exact congrArg LaneSt.enMem checked
      · exact congrArg LaneSt.enRun checked
      · exact (congrArg LaneSt.reset checked).trans hr
      · exact State.fg_fs_fits _ _ (by decide) (show rail.val < 2 ^ 3 by omega)
  · refine ⟨s.wake n, ?_, State.wake_of_park_spec (by omega) hst⟩
    rw [exec_wakePin, execWakePin, if_pos hen]
  · refine ⟨s.wake n, ?_, ?_⟩
    · rw [exec_wakePin, execWakePin, if_pos hen]
    · rw [State.wake_of_hibernate _ hst]
      exact ⟨rfl, hst, rfl, s.wakeNoted_cause (by omega)⟩
  · refine ⟨s.wake 4, ?_, State.wake_of_park_spec (by decide) hst⟩
    rw [exec_rtcAlarm, execRtcAlarm, if_pos ⟨hal, hsec⟩]
  · obtain ⟨st, held⟩ := s.vorUp.enterTadpole_spec
    refine ⟨_, exec_vorValid_of_hibernate hst hk, ?_, ?_, fun l => ?_⟩
    · rw [State.setSk_sk, st]
    · rw [State.setSk_sk, State.enterTadpole_vor]
      rfl
    · rw [State.setSk_lane, held]
  · exact ⟨_, exec_wakeOneFeedTimeout_of_feedA hst hw ha hp, rfl, fun n hn => s.lanesUp_up hn⟩

end Sys2Proof.Machine
end

section
/-! SUPPORT. The one rounding: a fraction at a unit, the exponent that values ask for, and the block they make (R66 to R70). -/

namespace Sys2Proof.Machine

open Sys2Proof

/-! Rounding at a unit (R68) -/

/-- A rounded quotient lies within half a unit, and a tie falls to the even integer. -/
theorem roundDiv_near (n : Int) {d : Nat} (hd : 0 < d) :
    2 * (n - roundDiv n d * d) ≤ d ∧ -d ≤ 2 * (n - roundDiv n d * d) ∧
      (2 * (n - roundDiv n d * d) = d ∨ 2 * (n - roundDiv n d * d) = -d → roundDiv n d % 2 = 0) := by
  have pos : (0 : Int) < d := by exact_mod_cast hd
  have low : n / (d : Int) * d ≤ n := Int.ediv_mul_le n pos.ne'
  have high : n < n / (d : Int) * d + d := by linarith [Int.lt_ediv_add_one_mul_self n pos]
  unfold roundDiv
  dsimp only
  have next : (n / (d : Int) + 1) * d = n / (d : Int) * d + d := by ring
  split_ifs <;> (try rw [next]) <;> omega

/-- A fraction in units of 2^u that is also N / D is rounded by rounding N / D. -/
theorem nearest_of_eq_div {n N u : Int} {d D : Nat} (hD : 0 < D) (h : (n : Rat) / d / (2 : Rat) ^ u = (N : Rat) / D) :
    Nearest n d u (roundDiv N D) := by
  have pos : (0 : Rat) < D := by exact_mod_cast hD
  obtain ⟨high, low, tie⟩ := roundDiv_near N hD
  have dist : (N : Rat) / D - roundDiv N D = (2 * (N - roundDiv N D * D) : Int) / (2 * D) := by
    push_cast
    field_simp
  unfold Nearest
  simp only [h, dist]
  generalize 2 * (N - roundDiv N D * D) = r at *
  constructor
  · rw [abs_le, div_le_iff₀ (by positivity), le_div_iff₀ (by positivity)]
    constructor <;> ring_nf <;> exact_mod_cast by assumption
  · intro half
    apply tie
    rcases abs_eq (by norm_num : (0 : Rat) ≤ 1 / 2) |>.mp half with e | e
    · left; field_simp at e; exact_mod_cast e
    · right; field_simp at e; exact_mod_cast e

/-- An exact fraction is rounded to the nearest at every unit. -/
theorem nearest_round (n : Int) {d : Nat} (hd : 0 < d) (u : Int) : Nearest n d u ((Ex.frac n d).round u) := by
  have pos : (0 : Rat) < d := by exact_mod_cast hd
  unfold Ex.round
  dsimp only
  split
  · next hu =>
    refine nearest_of_eq_div (Nat.mul_pos hd (Nat.two_pow_pos _)) ?_
    obtain ⟨k, rfl⟩ := Int.eq_ofNat_of_zero_le hu
    push_cast
    simp [div_div]
  · next hu =>
    refine nearest_of_eq_div hd ?_
    obtain ⟨k, rfl⟩ : ∃ k : Nat, u = -k := ⟨(-u).toNat, by omega⟩
    push_cast
    simp [div_mul_eq_mul_div]

/-! Magnitudes of rounded values, in units of 2^u -/

section

variable {n u m : Int} {d : Nat}

theorem Nearest.abs_sub_le (h : Nearest n d u m) : |(n : Rat) / d / 2 ^ u - m| ≤ 1 / 2 := h.1

/-- A value below an integer does not round above it. -/
theorem Nearest.natAbs_le (h : Nearest n d u m) {k : Nat} (hk : |(n : Rat) / d / 2 ^ u| < k + 1 / 2) : m.natAbs ≤ k := by
  have close := h.abs_sub_le
  have : |(m : Rat)| < k + 1 := by
    have := abs_sub_abs_le_abs_sub (m : Rat) ((n : Rat) / d / 2 ^ u)
    rw [abs_sub_comm] at this
    linarith
  rw [← Int.cast_abs, ← Nat.cast_natAbs] at this
  exact Nat.lt_succ_iff.mp (by exact_mod_cast this)

/-- A value not below an integer, but for less than half a unit, does not round below it. -/
theorem Nearest.le_natAbs (h : Nearest n d u m) {k : Nat} (hk : (k : Rat) - 1 / 2 < |(n : Rat) / d / 2 ^ u|) : k ≤ m.natAbs := by
  have close := h.abs_sub_le
  have : (k : Rat) - 1 < |(m : Rat)| := by
    have := abs_sub_abs_le_abs_sub ((n : Rat) / d / 2 ^ u) (m : Rat)
    linarith
  rw [← Int.cast_abs, ← Nat.cast_natAbs, sub_lt_iff_lt_add] at this
  exact Nat.lt_succ_iff.mp (by exact_mod_cast this)

/-- A whole value is its own rounding. -/
theorem Nearest.eq_of_eq (h : Nearest n d u m) {k : Int} (hk : (n : Rat) / d / 2 ^ u = k) : m = k := by
  have close := h.abs_sub_le
  rw [hk, ← Int.cast_sub, ← Int.cast_abs] at close
  have : |k - m| < 1 := by
    have : (|k - m| : Rat) < 1 := by push_cast at close ⊢; linarith
    exact_mod_cast this
  have := Int.abs_lt_one_iff.mp this
  omega

end

/-! The exponent a value asks for (R68) -/

/-- The comparison that log2Frac makes. -/
theorem two_zpow_le_div_iff {n d : Nat} (hd : 0 < d) (k : Int) : (2 : Rat) ^ k ≤ (n : Rat) / d ↔
    (if 0 ≤ k then d * 2 ^ k.toNat else d) ≤ (if 0 ≤ k then n else n * 2 ^ (-k).toNat) := by
  have dpos : (0 : Rat) < d := by exact_mod_cast hd
  rw [le_div_iff₀ dpos]
  split
  · next hk =>
    obtain ⟨j, rfl⟩ := Int.eq_ofNat_of_zero_le hk
    rw [Int.toNat_natCast, mul_comm, zpow_natCast]
    exact_mod_cast Iff.rfl
  · next hk =>
    obtain ⟨j, rfl⟩ : ∃ j : Nat, k = -j := ⟨(-k).toNat, by omega⟩
    rw [neg_neg, Int.toNat_natCast, zpow_neg, zpow_natCast, inv_mul_le_iff₀ (by positivity), mul_comm]
    exact_mod_cast Iff.rfl

/-- log2Frac is the floor of the binary logarithm. -/
theorem log2Frac_spec {n d : Nat} (hn : 0 < n) (hd : 0 < d) :
    (2 : Rat) ^ log2Frac n d ≤ (n : Rat) / d ∧ (n : Rat) / d < 2 ^ (log2Frac n d + 1) := by
  have dpos : (0 : Rat) < d := by exact_mod_cast hd
  have hn1 : (2 : Rat) ^ ((Nat.log2 n : Nat) : Int) ≤ n := by exact_mod_cast Nat.log2_self_le hn.ne'
  have hn2 : (n : Rat) < 2 ^ ((Nat.log2 n : Int) + 1) := by exact_mod_cast Nat.lt_log2_self (n := n)
  have hd1 : (2 : Rat) ^ ((Nat.log2 d : Nat) : Int) ≤ d := by exact_mod_cast Nat.log2_self_le hd.ne'
  have hd2 : (d : Rat) < 2 ^ ((Nat.log2 d : Int) + 1) := by exact_mod_cast Nat.lt_log2_self (n := d)
  have above : (n : Rat) / d < 2 ^ ((Nat.log2 n : Int) - Nat.log2 d + 1) := by
    rw [div_lt_iff₀ dpos]
    calc (n : Rat) < 2 ^ ((Nat.log2 n : Int) - Nat.log2 d + 1) * 2 ^ ((Nat.log2 d : Nat) : Int) := by
          rw [← zpow_add₀ two_ne_zero]; convert hn2 using 2; ring
      _ ≤ _ := by gcongr
  have below : (2 : Rat) ^ ((Nat.log2 n : Int) - Nat.log2 d - 1) ≤ (n : Rat) / d := by
    rw [le_div_iff₀ dpos]
    calc (2 : Rat) ^ ((Nat.log2 n : Int) - Nat.log2 d - 1) * d
        ≤ 2 ^ ((Nat.log2 n : Int) - Nat.log2 d - 1) * 2 ^ ((Nat.log2 d : Int) + 1) := by gcongr
      _ = 2 ^ ((Nat.log2 n : Nat) : Int) := by rw [← zpow_add₀ two_ne_zero]; congr 1; ring
      _ ≤ n := hn1
  unfold log2Frac
  dsimp only
  simp only [← two_zpow_le_div_iff hd]
  split
  · next h => exact ⟨h, above⟩
  · next h => exact ⟨below, by simpa using h⟩

/-- A value asks for the exponent of its binade. -/
theorem expo_frac_of_binade {n : Int} {d : Nat} {e : Int} (hd : 0 < d) (low : (2 : Rat) ^ (e - 1) ≤ |(n : Rat) / d|)
    (high : |(n : Rat) / d| < 2 ^ e) : (Ex.frac n d).expo = some e := by
  have hn : n ≠ 0 := by
    rintro rfl
    simp only [Int.cast_zero, zero_div, abs_zero] at low
    exact absurd low (not_le.mpr (by positivity))
  have mag : |(n : Rat) / d| = (n.natAbs : Rat) / d := by rw [abs_div, Nat.abs_cast, Nat.cast_natAbs, Int.cast_abs]
  obtain ⟨l, h⟩ := log2Frac_spec (Int.natAbs_pos.mpr hn) hd
  rw [← mag] at l h
  have h1 := (zpow_lt_zpow_iff_right₀ (by norm_num : (1 : Rat) < 2)).mp (l.trans_lt high)
  have h2 := (zpow_lt_zpow_iff_right₀ (by norm_num : (1 : Rat) < 2)).mp (low.trans_lt h)
  simp only [Ex.expo, hn, hd.ne', or_self, if_false, Option.some.injEq]
  omega

/-- The value lies in the binade of the exponent that it asks for. -/
theorem binade_of_expo_frac {n : Int} {d : Nat} {e : Int} (hd : 0 < d) (he : (Ex.frac n d).expo = some e) :
    (2 : Rat) ^ (e - 1) ≤ |(n : Rat) / d| ∧ |(n : Rat) / d| < 2 ^ e := by
  have mag : |(n : Rat) / d| = (n.natAbs : Rat) / d := by rw [abs_div, Nat.abs_cast, Nat.cast_natAbs, Int.cast_abs]
  simp only [Ex.expo, hd.ne', or_false] at he
  split at he
  · cases he
  · next hn =>
    cases he
    rw [mag, add_sub_cancel_right]
    exact log2Frac_spec (Int.natAbs_pos.mpr hn) hd

theorem expo_frac_eq_none {n : Int} {d : Nat} (hd : 0 < d) : (Ex.frac n d).expo = none ↔ n = 0 := by
  simp [Ex.expo, hd.ne']

theorem maxExpo_concat (xs : List Ex) (x : Ex) :
    maxExpo (xs ++ [x]) = (maxExpo xs).elim x.expo fun a => some (x.expo.elim a (max a)) := by
  rw [maxExpo, List.foldl_append, List.foldl_cons, List.foldl_nil, ← maxExpo]
  cases maxExpo xs <;> cases x.expo <;> rfl

/-- No exponent is asked for where no value asks for one. -/
theorem expo_of_maxExpo_none {xs : List Ex} (h : maxExpo xs = none) : ∀ x ∈ xs, x.expo = none := by
  induction xs using List.reverseRecOn with
  | nil => simp
  | append_singleton xs y ih =>
    rw [maxExpo_concat] at h
    rw [List.forall_mem_append, List.forall_mem_singleton]
    cases hx : maxExpo xs <;> cases hy : y.expo <;> simp only [hx, hy, Option.elim, reduceCtorEq] at h
    exact ⟨ih hx, rfl⟩

/-- The largest exponent is asked for, and no larger one. -/
theorem expo_of_maxExpo_some {xs : List Ex} {e : Int} (h : maxExpo xs = some e) :
    (∃ x ∈ xs, x.expo = some e) ∧ ∀ x ∈ xs, ∀ f, x.expo = some f → f ≤ e := by
  induction xs using List.reverseRecOn generalizing e with
  | nil => simp [maxExpo] at h
  | append_singleton xs y ih =>
    rw [maxExpo_concat] at h
    rw [List.forall_mem_append, List.forall_mem_singleton]
    simp only [List.mem_append, List.mem_singleton]
    cases hx : maxExpo xs with
    | none =>
      simp only [hx, Option.elim_none] at h
      refine ⟨⟨y, .inr rfl, h⟩, fun x hm f hf => ?_, fun f hf => ?_⟩
      · rw [expo_of_maxExpo_none hx x hm] at hf; cases hf
      · rw [h, Option.some.injEq] at hf; exact hf.ge
    | some a =>
      obtain ⟨⟨x, hm, hxe⟩, top⟩ := ih hx
      cases hy : y.expo with
      | none =>
        simp only [hx, hy, Option.elim_none, Option.elim_some, Option.some.injEq] at h
        exact ⟨⟨x, .inl hm, h ▸ hxe⟩, h ▸ top, by simp⟩
      | some b =>
        simp only [hx, hy, Option.elim_none, Option.elim_some, Option.some.injEq] at h
        subst h
        refine ⟨?_, fun z hz f hf => (top z hz f hf).trans (le_max_left ..), fun f hf => ?_⟩
        · rcases max_choice a b with m | m <;> rw [m]
          · exact ⟨x, .inl hm, hxe⟩
          · exact ⟨y, .inr rfl, hy⟩
        · rw [Option.some.injEq] at hf; exact hf ▸ le_max_right ..

/-! Blocks of mantissas (R66, R67) -/

theorem mkBlk_n (e : Int) (ms : List Int) : (mkBlk e ms).n = ms.length := by unfold mkBlk; split <;> rfl

/-- The elements of a block are its mantissas, then zeros. -/
theorem mkBlk_getD (e : Int) (ms : List Int) (k : Nat) : (mkBlk e ms).m.getD k 0 = ms.getD k 0 := by
  unfold mkBlk
  split
  · next h =>
    have zero : ms.getD k 0 = 0 := by
      by_cases hk : k < ms.length
      · rw [List.getD_eq_getElem _ _ hk]; simpa using List.all_eq_true.mp h _ (List.getElem_mem hk)
      · rw [List.getD_eq_default _ _ (by omega)]
    rw [zero]
    rcases k with _ | _ | _ | _ | _ | _ | _ | _ | k <;> rfl
  · by_cases hk : k < ms.length
    · rw [List.getD_append _ _ _ _ hk]
    · rw [List.getD_append_right _ _ _ _ (by omega), List.getD_eq_default ms _ (by omega), List.getD_eq_getElem?_getD,
        List.getElem?_replicate]
      split <;> rfl

theorem mkBlk_length (e : Int) {ms : List Int} (h : ms.length ≤ 8) : (mkBlk e ms).m.length = 8 := by
  unfold mkBlk
  split
  · rfl
  · rw [List.length_append, List.length_replicate]; omega

/-- A block that holds a mantissa other than 0 has the exponent it was made with. -/
theorem mkBlk_e {e m : Int} {ms : List Int} (hm : m ∈ ms) (h : m ≠ 0) : (mkBlk e ms).e = e := by
  unfold mkBlk
  rw [if_neg]
  simp only [List.all_eq_true, not_forall]
  exact ⟨m, hm, by simpa using h⟩

/-- A block made at exponent e is the zero block, or it has exponent e. -/
theorem mkBlk_zero_or (e : Int) (ms : List Int) : (mkBlk e ms = { n := ms.length } ∧ ∀ m ∈ ms, m = 0) ∨
    (mkBlk e ms).e = e ∧ ∃ m ∈ ms, m ≠ 0 := by
  unfold mkBlk
  split
  · next h => exact .inl ⟨rfl, by simpa using h⟩
  · next h => exact .inr ⟨rfl, by simpa using h⟩

/-! The one rounding (R68 to R70) -/

/-- The values are exact fractions. -/
def Fractions (xs : List Ex) : Prop := ∀ x ∈ xs, ∃ n d, x = .frac n d ∧ 0 < d

/-- The mantissas at exponent e. -/
theorem mem_mants {xs : List Ex} {e m : Int} : m ∈ mants xs e ↔ ∃ x ∈ xs, x.round (e - 23) = m := by simp [mants]

/-- A mantissa clamped to 24 bits with sign, which never is the least of them (R67, R69). -/
def clampM (m : Int) : Int := clampI (-(2 ^ 23 - 1)) (2 ^ 23 - 1) m

theorem clampM_eq (m : Int) : clampM m = max (-(2 ^ 23 - 1)) (min (2 ^ 23 - 1) m) := by
  unfold clampM clampI
  split_ifs <;> omega

theorem clampM_of_lt {m : Int} (h : m.natAbs < 2 ^ 23) : clampM m = m := by
  unfold clampM clampI
  split_ifs <;> omega

section

variable {xs : List Ex} {e : Int}

theorem abs_units (n : Int) (d : Nat) (u : Int) : |(n : Rat) / d / 2 ^ u| = |(n : Rat) / d| / 2 ^ u := by
  rw [abs_div, abs_of_pos (by positivity : (0 : Rat) < 2 ^ u)]

/-- Values below 2^(e - 23 + k) have mantissas of at most 2^k at exponent e. -/
theorem mants_le (hxs : Fractions xs) (k : Nat) (top : ∀ x ∈ xs, ∀ f, x.expo = some f → f ≤ e - 23 + k) :
    ∀ m ∈ mants xs e, m.natAbs ≤ 2 ^ k := by
  intro m hm
  obtain ⟨x, hx, rfl⟩ := mem_mants.mp hm
  obtain ⟨n, d, rfl, hd⟩ := hxs x hx
  have small : |(n : Rat) / d| < 2 ^ (e - 23 + k) := by
    cases hf : (Ex.frac n d).expo with
    | none => rw [(expo_frac_eq_none hd).mp hf, Int.cast_zero, zero_div, abs_zero]; positivity
    | some f => exact (binade_of_expo_frac hd hf).2.trans_le (zpow_le_zpow_right₀ (by norm_num) (top _ hx f hf))
  refine (nearest_round n hd (e - 23)).natAbs_le ?_
  rw [abs_units, div_lt_iff₀ (by positivity)]
  rw [zpow_add₀ two_ne_zero, mul_comm] at small
  have : (0 : Rat) < 2 ^ (e - 23) := by positivity
  push_cast
  rw [zpow_natCast] at small
  nlinarith

/-- A value that asks for an exponent above e - 23 + k has a mantissa of at least 2^k at exponent e. -/
theorem le_mants (hxs : Fractions xs) {k : Nat} {x : Ex} (hx : x ∈ xs) {f : Int} (hf : x.expo = some f) (h : e - 23 + k < f) :
    ∃ m ∈ mants xs e, 2 ^ k ≤ m.natAbs := by
  refine ⟨_, mem_mants.mpr ⟨x, hx, rfl⟩, ?_⟩
  obtain ⟨n, d, rfl, hd⟩ := hxs x hx
  have large : (2 : Rat) ^ (e - 23 + k) ≤ |(n : Rat) / d| :=
    (zpow_le_zpow_right₀ (by norm_num) (by omega)).trans (binade_of_expo_frac hd hf).1
  refine (nearest_round n hd (e - 23)).le_natAbs ?_
  rw [abs_units, lt_div_iff₀ (by positivity)]
  rw [zpow_add₀ two_ne_zero, mul_comm, zpow_natCast] at large
  have : (0 : Rat) < 2 ^ (e - 23) := by positivity
  push_cast
  nlinarith

/-- A mantissa that has been rounded up to 2^23 is 2^22 at the next exponent. -/
theorem le_mants_succ (hxs : Fractions xs) {m : Int} (hm : m ∈ mants xs e) (h : m.natAbs = 2 ^ 23) :
    ∃ m ∈ mants xs (e + 1), 2 ^ 22 ≤ m.natAbs := by
  obtain ⟨x, hx, rfl⟩ := mem_mants.mp hm
  refine ⟨_, mem_mants.mpr ⟨x, hx, rfl⟩, ?_⟩
  obtain ⟨n, d, rfl, hd⟩ := hxs x hx
  have close := (nearest_round n hd (e - 23)).abs_sub_le
  have size : |(((Ex.frac n d).round (e - 23) : Int) : Rat)| = 2 ^ 23 := by
    rw [← Int.cast_abs, ← Nat.cast_natAbs, h]; norm_num
  have large := abs_sub_abs_le_abs_sub (((Ex.frac n d).round (e - 23) : Int) : Rat) ((n : Rat) / d / 2 ^ (e - 23))
  rw [abs_sub_comm, size, abs_units] at large
  have half : |(n : Rat) / d| / 2 ^ (e + 1 - 23) = |(n : Rat) / d| / 2 ^ (e - 23) / 2 := by
    rw [show e + 1 - 23 = e - 23 + 1 by ring, zpow_add_one₀ two_ne_zero, div_div]
  refine (nearest_round n hd (e + 1 - 23)).le_natAbs ?_
  rw [abs_units, half]
  norm_num
  linarith

/-- The block r is the values xs rounded at exponent e, where their mantissas fit or are clamped at 127, and are as large as the
exponent allows (R68, R69). -/
structure RoundsAt (xs : List Ex) (r : Blk × Bool) (e : Int) : Prop where
  eq : r.1 = mkBlk e ((mants xs e).map clampM)
  low : -127 ≤ e
  high : e ≤ 127
  fits : r.2 = false → ∀ m ∈ mants xs e, m.natAbs < 2 ^ 23
  clamped : r.2 = true → e = 127 ∧ ∃ m ∈ mants xs e, 2 ^ 23 ≤ m.natAbs
  large : e = -127 ∨ ∃ m ∈ mants xs e, 2 ^ 22 ≤ m.natAbs

theorem map_clampM_of_lt {ms : List Int} (h : ∀ m ∈ ms, m.natAbs < 2 ^ 23) : ms.map clampM = ms :=
  (List.map_congr_left fun m hm => clampM_of_lt (h m hm)).trans (List.map_id' ms)

/-- Mantissas that fit are not clamped. -/
theorem RoundsAt.of_fits (low : -127 ≤ e) (high : e ≤ 127) (fits : ∀ m ∈ mants xs e, m.natAbs < 2 ^ 23)
    (large : e = -127 ∨ ∃ m ∈ mants xs e, 2 ^ 22 ≤ m.natAbs) : RoundsAt xs (mkBlk e (mants xs e), false) e :=
  ⟨by rw [map_clampM_of_lt fits], low, high, fun _ => fits, fun h => absurd h Bool.false_ne_true, large⟩

/-- Mantissas that do not fit at exponent 127 are clamped. -/
theorem RoundsAt.of_clamped (clamped : ∃ m ∈ mants xs 127, 2 ^ 23 ≤ m.natAbs) :
    RoundsAt xs (mkBlk 127 ((mants xs 127).map clampM), true) 127 := by
  obtain ⟨m, hm, h⟩ := clamped
  exact ⟨rfl, by decide, le_rfl, by simp, fun _ => ⟨rfl, m, hm, h⟩, .inr ⟨m, hm, by omega⟩⟩

theorem mants_zero (hxs : Fractions xs) (h : ∀ x ∈ xs, x.expo = none) : ∀ m ∈ mants xs e, m = 0 := by
  intro m hm
  obtain ⟨x, hx, rfl⟩ := mem_mants.mp hm
  obtain ⟨n, d, rfl, hd⟩ := hxs x hx
  have zero := (expo_frac_eq_none hd).mp (h _ hx)
  exact (nearest_round n hd _).eq_of_eq (by simp [zero])

/-- roundBlk rounds its values once, at one exponent. -/
theorem roundBlk_roundsAt (hxs : Fractions xs) : ∃ e, RoundsAt xs (roundBlk xs) e := by
  unfold roundBlk
  split
  · next none =>
    have zero : ∀ m ∈ mants xs (-127), m = 0 := mants_zero hxs (expo_of_maxExpo_none none)
    have blk : ({ n := xs.length } : Blk) = mkBlk (-127) (mants xs (-127)) := by
      rw [mkBlk, if_pos (by simpa using zero), mants, List.length_map]
    rw [blk]
    exact ⟨-127, .of_fits le_rfl (by decide) (fun m hm => by simp [zero m hm]) (.inl rfl)⟩
  · next e0 he0 =>
    obtain ⟨⟨x, hx, hxe⟩, top⟩ := expo_of_maxExpo_some he0
    have most : ∀ m ∈ mants xs e0, m.natAbs ≤ 2 ^ 23 := mants_le hxs 23 fun y hy f hf => by have := top y hy f hf; omega
    have some_large : ∃ m ∈ mants xs e0, 2 ^ 22 ≤ m.natAbs := le_mants hxs hx hxe (by omega)
    dsimp only
    split
    · next up =>
      obtain ⟨m, hm, full⟩ : ∃ m ∈ mants xs e0, m.natAbs = 2 ^ 23 := by simpa using up.2
      have most' : ∀ m ∈ mants xs (e0 + 1), m.natAbs ≤ 2 ^ 22 := mants_le hxs 22 fun y hy f hf => by have := top y hy f hf; omega
      split
      · next big =>
        refine ⟨127, .of_clamped ?_⟩
        rcases (by omega : e0 = 127 ∨ 127 < e0) with rfl | past
        · exact ⟨m, hm, full.ge⟩
        · exact le_mants hxs hx hxe (by omega)
      · rw [if_neg (by omega)]
        exact ⟨e0 + 1, .of_fits (by omega) (by omega) (fun m hm => by have := most' m hm; omega) (.inr (le_mants_succ hxs hm full))⟩
    · next stay =>
      split
      · exact ⟨127, .of_clamped (le_mants hxs hx hxe (by omega))⟩
      · split
        · have small : ∀ m ∈ mants xs (-127), m.natAbs ≤ 2 ^ 22 := mants_le hxs 22 fun y hy f hf => by have := top y hy f hf; omega
          exact ⟨-127, .of_fits le_rfl (by decide) (fun m hm => by have := small m hm; omega) (.inl rfl)⟩
        · have none_full : ∀ m ∈ mants xs e0, m.natAbs ≠ 2 ^ 23 := by simpa [show -127 ≤ e0 by omega] using stay
          exact ⟨e0, .of_fits (by omega) (by omega) (fun m hm => lt_of_le_of_ne (most m hm) (none_full m hm)) (.inr some_large)⟩

theorem RoundsAt.length {r : Blk × Bool} (h : RoundsAt xs r e) : r.1.n = xs.length := by
  rw [h.eq, mkBlk_n, List.length_map, mants, List.length_map]

theorem getD_mants_map {k : Nat} (hk : k < xs.length) (f : Int → Int) :
    ((mants xs e).map f).getD k 0 = f (xs[k].round (e - 23)) := by
  rw [mants, List.map_map, List.getD_eq_getElem _ _ (by simpa using hk), List.getElem_map, Function.comp_apply]

theorem RoundsAt.getD {r : Blk × Bool} (h : RoundsAt xs r e) {k : Nat} (hk : k < xs.length) :
    r.1.m.getD k 0 = clampM (xs[k].round (e - 23)) := by
  rw [h.eq, mkBlk_getD, getD_mants_map hk]

/-- The exponent at which the values are rounded: the block's, or the least one where the block is zero. -/
theorem RoundsAt.e_eq {r : Blk × Bool} (h : RoundsAt xs r e) : max r.1.e (-127) = e ∧
    (r.1.e = e ∨ e = -127 ∧ r.1 = { n := xs.length }) := by
  have low := h.low
  have len := h.length
  rcases mkBlk_zero_or e ((mants xs e).map clampM) with ⟨zero, none⟩ | ⟨he, -⟩
  · have least : e = -127 := by
      rcases h.large with least | ⟨m, hm, big⟩
      · exact least
      · have zero := none _ (List.mem_map_of_mem hm)
        rw [clampM_eq] at zero
        omega
    rw [h.eq, zero] at len ⊢
    exact ⟨by simp [least], .inr ⟨least, by rw [← len]⟩⟩
  · rw [← h.eq] at he
    exact ⟨by omega, .inl he⟩

theorem Blk.normal_zero {n : Nat} (h1 : 1 ≤ n) (h8 : n ≤ 8) : ({ n := n } : Blk).normal = true := by
  interval_cases n <;> decide

/-- Mantissas of 23 bits, one of them with its top bit set, make a normalised block. -/
theorem mkBlk_normal {ms : List Int} (h1 : 1 ≤ ms.length) (h8 : ms.length ≤ 8) (low : -127 ≤ e) (high : e ≤ 127)
    (fits : ∀ m ∈ ms, m.natAbs < 2 ^ 23) (large : ∃ m ∈ ms, 2 ^ 22 ≤ m.natAbs) : (mkBlk e ms).normal = true := by
  obtain ⟨m, hm, big⟩ := large
  have not_zero : ¬ ms.all (· == 0) := by
    simp only [List.all_eq_true, not_forall]
    exact ⟨m, hm, by rw [beq_iff_eq]; omega⟩
  have absent : ∀ z ∈ List.replicate (8 - ms.length) (0 : Int), z = 0 := fun z hz => List.eq_of_mem_replicate hz
  have fits_all : ∀ z ∈ ms ++ List.replicate (8 - ms.length) 0, z.natAbs < 2 ^ 23 := fun z hz => by
    rcases List.mem_append.mp hz with h | h
    · exact fits z h
    · rw [absent z h]; decide
  have large_all : ∃ z ∈ ms ++ List.replicate (8 - ms.length) 0, 2 ^ 22 ≤ z.natAbs := ⟨m, List.mem_append_left _ hm, big⟩
  rw [mkBlk, if_neg not_zero, Blk.normal]
  simp only [List.length_append, List.length_replicate, List.drop_left, Bool.and_eq_true, Bool.or_eq_true, decide_eq_true_eq,
    beq_iff_eq, List.all_eq_true, List.any_eq_true]
  exact ⟨⟨⟨⟨h1, h8⟩, by omega⟩, absent⟩, .inr ⟨⟨⟨low, high⟩, fits_all⟩, large_all⟩⟩

theorem clampM_natAbs (m : Int) : (clampM m).natAbs = min (2 ^ 23 - 1) m.natAbs := by
  rw [clampM_eq]
  omega

/-- The block is normalised, unless its exponent is the least. -/
theorem RoundsAt.normal {r : Blk × Bool} (h : RoundsAt xs r e) (h1 : 1 ≤ xs.length) (h8 : xs.length ≤ 8) :
    r.1.normal = true ∨ r.1.e = -127 := by
  rcases h.e_eq.2 with he | ⟨-, zero⟩
  · rcases h.large with least | ⟨m, hm, big⟩
    · exact .inr (he.trans least)
    · have len : ((mants xs e).map clampM).length = xs.length := by rw [List.length_map, mants, List.length_map]
      refine .inl (h.eq ▸ mkBlk_normal (by omega) (by omega) h.low h.high (fun z hz => ?_) ⟨_, List.mem_map_of_mem hm, ?_⟩)
      · obtain ⟨y, -, rfl⟩ := List.mem_map.mp hz
        rw [clampM_natAbs]; omega
      · rw [clampM_natAbs]; omega
  · exact .inl (zero ▸ Blk.normal_zero h1 h8)

/-- Where the block saturates, its exponent is 127 and some mantissa is clamped (R69). -/
theorem RoundsAt.saturated {r : Blk × Bool} (h : RoundsAt xs r e) (sat : r.2 = true) :
    r.1.e = 127 ∧ ∃ k < xs.length, (r.1.m.getD k 0).natAbs = 2 ^ 23 - 1 := by
  obtain ⟨rfl, m, hm, big⟩ := h.clamped sat
  have he : r.1.e = 127 := h.e_eq.2.resolve_right (by simp)
  obtain ⟨k, hk, rfl⟩ := List.getElem_of_mem hm
  have hk' : k < xs.length := by simpa [mants] using hk
  refine ⟨he, k, hk', ?_⟩
  rw [h.getD hk', clampM_natAbs]
  simp only [mants, List.getElem_map] at big
  omega

end

theorem fractions_map {xs : List (Int × Nat)} (h : ∀ x ∈ xs, 0 < x.2) : Fractions (xs.map fun x => .frac x.1 x.2) := by
  intro y hy
  obtain ⟨x, hx, rfl⟩ := List.mem_map.mp hy
  exact ⟨x.1, x.2, rfl, h x hx⟩

/-- What rounding a list of exact values gives, element by element. -/
theorem roundBlk_spec (xs : List (Int × Nat)) (h1 : 1 ≤ xs.length) (h8 : xs.length ≤ 8) (hd : ∀ x ∈ xs, 0 < x.2) :
    let r := roundBlk (xs.map fun x => .frac x.1 x.2)
    let u := max r.1.e (-127) - 23
    r.1.n = xs.length ∧ r.1.m.length = 8 ∧ (∀ k, xs.length ≤ k → r.1.m.getD k 0 = 0) ∧ r.1.e ≤ 127 ∧
    (∀ k < xs.length, ∃ m, Nearest (xs.getD k (0, 1)).1 (xs.getD k (0, 1)).2 u m ∧
      r.1.m.getD k 0 = max (-(2 ^ 23 - 1)) (min (2 ^ 23 - 1) m) ∧ (r.2 = false → r.1.m.getD k 0 = m)) ∧
    (r.2 = true → r.1.e = 127 ∧ ∃ k < xs.length, (r.1.m.getD k 0).natAbs = 2 ^ 23 - 1) ∧ (r.1.normal = true ∨ r.1.e = -127) := by
  intro r u
  obtain ⟨e, h⟩ := roundBlk_roundsAt (fractions_map hd)
  obtain ⟨unit, -⟩ := h.e_eq
  have low := h.low
  have high := h.high
  have len : (xs.map fun x => Ex.frac x.1 x.2).length = xs.length := List.length_map ..
  have hu : u = e - 23 := by simp only [u, r, unit]
  have mlen : ((mants (xs.map fun x => Ex.frac x.1 x.2) e).map clampM).length = xs.length := by
    rw [List.length_map, mants, List.length_map, len]
  refine ⟨h.length.trans len, ?_, fun k hk => ?_, by omega, fun k hk => ?_, fun sat => len ▸ h.saturated sat,
    h.normal (by omega) (by omega)⟩
  · rw [h.eq, mkBlk_length _ (by omega)]
  · rw [h.eq, mkBlk_getD, List.getD_eq_default _ _ (by omega)]
  · refine ⟨(Ex.frac xs[k].1 xs[k].2).round (e - 23), ?_, ?_, fun fits => ?_⟩
    · rw [hu, List.getD_eq_getElem _ _ hk]
      exact nearest_round _ (hd _ (List.getElem_mem hk)) _
    · rw [h.getD (by omega), clampM_eq, List.getElem_map]
    · rw [h.getD (by omega), List.getElem_map]
      exact clampM_of_lt (h.fits fits _ (mem_mants.mpr ⟨_, List.mem_map_of_mem (List.getElem_mem hk), rfl⟩))

end Sys2Proof.Machine
end

section
/-! SUPPORT. Square roots rounded to the nearest, numbers as bytes, and the bytes of a block (R72). -/

namespace Sys2Proof.Machine

open Sys2Proof

/-! Square roots rounded to the nearest -/

/-- The root before rounding is the floor of the square root. -/
theorem sqrt_div_spec (n : Nat) {d : Nat} (hd : 0 < d) :
    Nat.sqrt (n / d) ^ 2 * d ≤ n ∧ n < (Nat.sqrt (n / d) + 1) ^ 2 * d := by
  constructor
  · calc Nat.sqrt (n / d) ^ 2 * d ≤ n / d * d := by gcongr; exact Nat.sqrt_le' _
      _ ≤ n := Nat.div_mul_le_self n d
  · calc n < (n / d + 1) * d := by rw [mul_comm]; exact Nat.lt_mul_div_succ n hd
      _ ≤ (Nat.sqrt (n / d) + 1) ^ 2 * d := by gcongr; exact Nat.lt_succ_sqrt' _

/-- sqrtRound q of n / d: (2 q - 1)² d ≤ 4 n ≤ (2 q + 1)² d, and a tie falls to the even root. -/
theorem sqrtRound_spec (n : Nat) {d : Nat} (hd : 0 < d) :
    4 * n ≤ (2 * sqrtRound n d + 1) ^ 2 * d ∧ (0 < sqrtRound n d → (2 * sqrtRound n d - 1) ^ 2 * d ≤ 4 * n) ∧
      (4 * n = (2 * sqrtRound n d + 1) ^ 2 * d ∨ (0 < sqrtRound n d ∧ (2 * sqrtRound n d - 1) ^ 2 * d = 4 * n) →
        sqrtRound n d % 2 = 0) := by
  obtain ⟨low, high⟩ := sqrt_div_spec n hd
  unfold sqrtRound
  dsimp only
  generalize Nat.sqrt (n / d) = q at *
  have mid : (4 * q * q + 4 * q + 1) * d = 4 * (q ^ 2 * d) + 4 * (q * d) + d := by ring
  have next : (q + 1) ^ 2 * d = q ^ 2 * d + 2 * (q * d) + d := by ring
  have here : (2 * q + 1) ^ 2 * d = 4 * (q ^ 2 * d) + 4 * (q * d) + d := by ring
  have above : (2 * (q + 1) + 1) ^ 2 * d = 4 * (q ^ 2 * d) + 12 * (q * d) + 9 * d := by ring
  have step : 2 * (q + 1) - 1 = 2 * q + 1 := by omega
  have below : 0 < q → (2 * q - 1) ^ 2 * d + 4 * (q * d) = 4 * (q ^ 2 * d) + d ∧ d ≤ q * d := by
    intro pos
    obtain ⟨p, rfl⟩ : ∃ p, q = p + 1 := ⟨q - 1, by omega⟩
    exact ⟨by rw [show 2 * (p + 1) - 1 = 2 * p + 1 by omega]; ring, Nat.le_mul_of_pos_left d pos⟩
  rw [mid]
  rw [next] at high
  split_ifs with less tie
  · rw [step, above, here]; omega
  · rw [step, above, here]; omega
  · rw [here]; omega

/-! The bytes of a block (R72) -/

theorem leNat_lt (bs : List Byte) : leNat bs < 256 ^ bs.length := by
  induction bs with
  | nil => simp [leNat]
  | cons b bs ih => rw [leNat, List.length_cons, pow_succ]; have := b.isLt; omega

theorem leNat_drop (bs : List Byte) (i : Nat) : leNat (bs.drop i) = leNat bs / 256 ^ i := by
  induction i generalizing bs with
  | zero => simp
  | succ i ih =>
    cases bs with
    | nil => simp [leNat]
    | cons b bs =>
      have := b.isLt
      rw [List.drop_succ_cons, ih, leNat, pow_succ', ← Nat.div_div_eq_div_mul]
      congr 1
      omega

theorem leNat_take (bs : List Byte) (n : Nat) : leNat (bs.take n) = leNat bs % 256 ^ n := by
  induction n generalizing bs with
  | zero => simp [leNat, Nat.mod_one]
  | succ n ih =>
    cases bs with
    | nil => simp [leNat]
    | cons b bs =>
      have := b.isLt
      have first : (b.toNat + 256 * leNat bs) % 256 = b.toNat := by omega
      have rest : (b.toNat + 256 * leNat bs) / 256 = leNat bs := by omega
      rw [List.take_succ_cons, leNat, leNat, ih, pow_succ', Nat.mod_mul, first, rest]

/-- The number that n bytes from byte i up spell. -/
theorem leNat_slice (bs : List Byte) (i n : Nat) : leNat bs / 256 ^ i % 256 ^ n = leNat ((bs.drop i).take n) := by
  rw [leNat_take, leNat_drop]

theorem unsigned_lt (w : Nat) (i : Int) : unsigned w i < 2 ^ w := by
  have := Int.emod_lt_of_pos i (by positivity : (0 : Int) < 2 ^ w)
  have := Int.emod_nonneg i (by positivity : (2 : Int) ^ w ≠ 0)
  unfold unsigned
  zify
  omega

/-- Two's complement of w + 1 bits holds the integers from -2^w to 2^w - 1. -/
theorem signed_unsigned {w : Nat} {i : Int} (low : -2 ^ w ≤ i) (high : i < 2 ^ w) : signed (w + 1) (unsigned (w + 1) i) = i := by
  have double : (2 : Int) ^ (w + 1) = 2 * 2 ^ w := by ring
  have cast : ((2 ^ w : Nat) : Int) = 2 ^ w := by push_cast; rfl
  unfold signed unsigned
  rw [Nat.add_sub_cancel, double]
  rcases le_or_gt 0 i with pos | neg
  · rw [Int.emod_eq_of_lt pos (by omega), if_pos (by omega)]; omega
  · rw [← Int.add_emod_right, Int.emod_eq_of_lt (by omega) (by omega), if_neg (by omega)]; omega

/-- The mantissa field of element k. -/
theorem Blk.bytes_mantissa (b : Blk) {k : Nat} (hk : k < 8) :
    leNat b.bytes / 2 ^ (24 * k) % 2 ^ 24 = unsigned 24 (if k < b.n then b.m.getD k 0 else 0) := by
  have slice := leNat_slice b.bytes (3 * k) 3
  have pos : (256 : Nat) ^ (3 * k) = 2 ^ (24 * k) := by rw [show 256 = 2 ^ 8 by rfl, ← pow_mul]; congr 1; ring
  have field : (b.bytes.drop (3 * k)).take 3 = natLe 3 (unsigned 24 (if k < b.n then b.m.getD k 0 else 0)) := by
    interval_cases k <;> rfl
  rw [pos, field, leNat_natLe] at slice
  exact slice.trans (Nat.mod_eq_of_lt (unsigned_lt 24 _))

theorem Blk.bytes_exponent (b : Blk) : leNat b.bytes / 2 ^ 192 % 2 ^ 8 = unsigned 8 b.e := by
  have field : (b.bytes.drop 24).take 1 = natLe 1 (unsigned 8 b.e) := rfl
  have slice := leNat_slice b.bytes 24 1
  rw [field, leNat_natLe] at slice
  exact slice.trans (Nat.mod_eq_of_lt (unsigned_lt 8 _))

theorem Blk.bytes_count (b : Blk) : leNat b.bytes / 2 ^ 200 % 8 = b.n % 8 := by
  have field : (b.bytes.drop 25).take 1 = natLe 1 (b.n % 8) := rfl
  have slice := leNat_slice b.bytes 25 1
  rw [field, leNat_natLe] at slice
  norm_num at slice ⊢
  omega

end Sys2Proof.Machine
end

section
/-! PROOF. Blocks rounded once: normalised blocks, stored and loaded. -/

namespace Sys2Proof.Machine

open Sys2Proof

/-! A normalised block stored and loaded (R66, R67, R72) -/

/-- What R66 and R67 say of a normalised block, element by element. -/
structure Blk.Normal (b : Blk) : Prop where
  pos : 1 ≤ b.n
  le : b.n ≤ 8
  length : b.m.length = 8
  absent : ∀ k, b.n ≤ k → b.m.getD k 0 = 0
  low : -128 ≤ b.e
  high : b.e ≤ 127
  fits : ∀ k, (b.m.getD k 0).natAbs < 2 ^ 23
  zero_or : b = { n := b.n } ∨ -127 ≤ b.e ∧ ∃ k < b.n, 2 ^ 22 ≤ (b.m.getD k 0).natAbs

theorem getD_of_forall_mem {P : Int → Prop} {xs : List Int} (zero : P 0) (h : ∀ x ∈ xs, P x) (k : Nat) : P (xs.getD k 0) := by
  by_cases hk : k < xs.length
  · rw [List.getD_eq_getElem _ _ hk]; exact h _ (List.getElem_mem hk)
  · rw [List.getD_eq_default _ _ (by omega)]; exact zero

theorem Blk.normal_spec {b : Blk} (h : b.normal = true) : b.Normal := by
  simp only [Blk.normal, Bool.and_eq_true, Bool.or_eq_true, decide_eq_true_eq, beq_iff_eq, List.all_eq_true, List.any_eq_true] at h
  obtain ⟨⟨⟨⟨pos, le⟩, len⟩, absent⟩, form⟩ := h
  have absent' : ∀ k, b.n ≤ k → b.m.getD k 0 = 0 := fun k hk => by
    have := getD_of_forall_mem (P := (· = 0)) rfl absent (k - b.n)
    simp only [List.getD_eq_getElem?_getD, List.getElem?_drop] at this
    rwa [Nat.add_sub_cancel' hk, ← List.getD_eq_getElem?_getD] at this
  rcases form with ⟨zero, he⟩ | ⟨⟨⟨low, high⟩, fits⟩, z, hz, large⟩
  · refine ⟨pos, le, len, absent', by omega, by omega,
      getD_of_forall_mem (P := fun m => m.natAbs < 2 ^ 23) (by decide) fun m hm => by simp [zero m hm], .inl ?_⟩
    have hm : b.m = List.replicate 8 0 := List.eq_replicate_iff.mpr ⟨len, zero⟩
    obtain ⟨n, e, m⟩ := b
    simp only at hm he
    rw [hm, he]
    rfl
  · refine ⟨pos, le, len, absent', by omega, high, getD_of_forall_mem (P := fun m => m.natAbs < 2 ^ 23) (by decide) fits, .inr ⟨low, ?_⟩⟩
    obtain ⟨k, hk, rfl⟩ := List.getElem_of_mem hz
    refine ⟨k, ?_, by rwa [List.getD_eq_getElem _ _ hk]⟩
    by_contra out
    have := absent' k (by omega)
    rw [List.getD_eq_getElem _ _ hk] at this
    rw [this] at large
    exact absurd large (by decide)

/-- A mantissa at exponent e, as a value in units of 2^-160. -/
theorem mantissa_value (m : Int) {e : Int} (h : -137 ≤ e) :
    ((m * 2 ^ (e + 137).toNat : Int) : Rat) / ((2 ^ 160 : Nat) : Rat) = m * 2 ^ (e - 23) := by
  obtain ⟨k, rfl⟩ : ∃ k : Nat, e = k - 137 := ⟨(e + 137).toNat, by omega⟩
  rw [show (k : Int) - 137 - 23 = (k : Int) - 160 by ring, zpow_sub₀ two_ne_zero, sub_add_cancel, Int.toNat_natCast, zpow_natCast]
  push_cast
  rw [mul_div_assoc]

/-- The exact values of a block's elements. -/
def Blk.exact (b : Blk) : List Ex := ratios b.n (2 ^ 160) fun k => b.m.getD k 0 * 2 ^ (b.e + 137).toNat

theorem Blk.mem_exact {b : Blk} {x : Ex} : x ∈ b.exact ↔ ∃ k < b.n, x = .frac (b.m.getD k 0 * 2 ^ (b.e + 137).toNat) (2 ^ 160) := by
  simp [Blk.exact, ratios, eq_comm]

theorem count8_of_mod {n k : Nat} (h : n % 8 = k % 8) (h1 : 1 ≤ k) (h8 : k ≤ 8) : count8 n = k := by
  unfold count8
  split <;> omega

/-- The bytes of a normalised block hold its elements exactly (R72). -/
theorem blkVals_bytes {b : Blk} (h : b.Normal) : blkVals (leNat b.bytes) = b.exact := by
  have count : count8 (leNat b.bytes / 2 ^ 200) = b.n := count8_of_mod b.bytes_count h.pos h.le
  have expo : signed 8 (leNat b.bytes / 2 ^ 192 % 2 ^ 8) = b.e := by
    rw [b.bytes_exponent, signed_unsigned (w := 7) h.low (by have := h.high; omega)]
  unfold blkVals
  simp only [count, expo]
  refine List.map_congr_left fun k hk => ?_
  rw [List.mem_range] at hk
  have fits := h.fits k
  dsimp only
  rw [b.bytes_mantissa (by have := h.le; omega), if_pos hk, signed_unsigned (w := 23) (by omega) (by omega)]
  rfl

namespace Blk.Normal

variable {b : Blk} (h : b.Normal)
include h

/-- Each element is a whole mantissa at the block's own exponent. -/
theorem mants_exact : mants b.exact b.e = (List.range b.n).map fun k => b.m.getD k 0 := by
  unfold mants Blk.exact ratios
  rw [List.map_map]
  refine List.map_congr_left fun k _ => ?_
  refine (nearest_round _ (by positivity) _).eq_of_eq ?_
  rw [mantissa_value _ (by have := h.low; omega), mul_div_assoc, div_self (by positivity), mul_one]

/-- An element's value. -/
theorem abs_value (k : Nat) : |((b.m.getD k 0 * 2 ^ (b.e + 137).toNat : Int) : Rat) / ((2 ^ 160 : Nat) : Rat)| =
    ((b.m.getD k 0).natAbs : Rat) * 2 ^ (b.e - 23) := by
  rw [mantissa_value _ (by have := h.low; omega), abs_mul, abs_of_pos (by positivity : (0 : Rat) < 2 ^ (b.e - 23)),
    Nat.cast_natAbs, Int.cast_abs]

/-- The largest element asks for the block's exponent, and no element asks for a larger one. -/
theorem maxExpo_exact {k : Nat} (hk : k < b.n) (large : 2 ^ 22 ≤ (b.m.getD k 0).natAbs) : maxExpo b.exact = some b.e := by
  have unit : (0 : Rat) < 2 ^ (b.e - 23) := by positivity
  have split (j : Nat) : (2 : Rat) ^ (b.e - 23 + j) = 2 ^ j * 2 ^ (b.e - 23) := by
    rw [zpow_add₀ two_ne_zero, zpow_natCast, mul_comm]
  have below (j : Nat) : |((b.m.getD j 0 * 2 ^ (b.e + 137).toNat : Int) : Rat) / ((2 ^ 160 : Nat) : Rat)| < 2 ^ b.e := by
    rw [h.abs_value, show b.e = b.e - 23 + (23 : Nat) by omega, split, show b.e - 23 + (23 : Nat) - 23 = b.e - 23 by omega]
    exact mul_lt_mul_of_pos_right (by exact_mod_cast h.fits j) unit
  have asks : (Ex.frac (b.m.getD k 0 * 2 ^ (b.e + 137).toNat) (2 ^ 160)).expo = some b.e := by
    refine expo_frac_of_binade (by positivity) ?_ (below k)
    rw [h.abs_value, show b.e - 1 = b.e - 23 + (22 : Nat) by omega, split]
    exact mul_le_mul_of_nonneg_right (by exact_mod_cast large) unit.le
  cases hmax : maxExpo b.exact with
  | none =>
    rw [expo_of_maxExpo_none hmax _ (Blk.mem_exact.mpr ⟨k, hk, rfl⟩)] at asks
    cases asks
  | some f =>
    obtain ⟨⟨x, hx, hf⟩, top⟩ := expo_of_maxExpo_some hmax
    have atLeast := top _ (Blk.mem_exact.mpr ⟨k, hk, rfl⟩) _ asks
    obtain ⟨j, -, rfl⟩ := Blk.mem_exact.mp hx
    have atMost := (binade_of_expo_frac (by positivity) hf).1.trans_lt (below j)
    have := (zpow_lt_zpow_iff_right₀ (by norm_num : (1 : Rat) < 2)).mp atMost
    rw [Option.some.injEq]
    omega

/-- A block that is not zero is made of its own mantissas at its own exponent. -/
theorem mkBlk_self {k : Nat} (hk : k < b.n) (large : 2 ^ 22 ≤ (b.m.getD k 0).natAbs) :
    mkBlk b.e ((List.range b.n).map fun k => b.m.getD k 0) = b := by
  have mem : b.m.getD k 0 ∈ (List.range b.n).map fun k => b.m.getD k 0 := List.mem_map.mpr ⟨k, List.mem_range.mpr hk, rfl⟩
  have len : ((List.range b.n).map fun k => b.m.getD k 0).length = b.n := by simp
  have he := mkBlk_e (e := b.e) mem (by omega)
  have hn := (mkBlk_n b.e ((List.range b.n).map fun k => b.m.getD k 0)).trans len
  have hm : (mkBlk b.e ((List.range b.n).map fun k => b.m.getD k 0)).m = b.m := by
    have hl : (mkBlk b.e ((List.range b.n).map fun k => b.m.getD k 0)).m.length = 8 := mkBlk_length _ (by rw [len]; exact h.le)
    refine List.ext_getElem (hl.trans h.length.symm) fun i h1 h2 => ?_
    rw [← List.getD_eq_getElem _ 0 h1, ← List.getD_eq_getElem _ 0 h2, mkBlk_getD]
    by_cases hi : i < b.n
    · rw [List.getD_eq_getElem _ _ (by rwa [len]), List.getElem_map, List.getElem_range]
    · rw [List.getD_eq_default _ _ (by omega), h.absent i (by omega)]
  generalize mkBlk b.e ((List.range b.n).map fun k => b.m.getD k 0) = c at *
  obtain ⟨n, e, m⟩ := c
  obtain ⟨n', e', m'⟩ := b
  simp_all

/-- Rounding the exact values of a normalised block gives it back. -/
theorem roundBlk_exact : roundBlk b.exact = (b, false) := by
  have len : b.exact.length = b.n := by simp [Blk.exact, ratios]
  rcases h.zero_or with zero | ⟨low, k, hk, large⟩
  · have none : maxExpo b.exact = none := by
      cases hmax : maxExpo b.exact with
      | none => rfl
      | some f =>
        obtain ⟨⟨x, hx, hf⟩, -⟩ := expo_of_maxExpo_some hmax
        obtain ⟨j, -, rfl⟩ := Blk.mem_exact.mp hx
        have element : b.m.getD j 0 = 0 := by
          rw [zero]
          exact getD_of_forall_mem (P := (· = 0)) rfl (by simp) j
        rw [element, zero_mul, (expo_frac_eq_none (by positivity)).mpr rfl] at hf
        cases hf
    rw [roundBlk, none]
    simp only [len]
    rw [← zero]
  · have fits : ¬ ((mants b.exact b.e).any fun m => m.natAbs == 2 ^ 23) = true := by
      rw [h.mants_exact]
      simp only [List.any_map, List.any_eq_true, not_exists, not_and, Function.comp_apply, beq_iff_eq]
      exact fun j _ => (h.fits j).ne
    have high := h.high
    rw [roundBlk, h.maxExpo_exact hk large]
    simp only [fits, and_false, if_false, Bool.false_eq_true]
    rw [if_neg (by omega), if_neg (by omega), h.mants_exact, h.mkBlk_self hk large]

end Blk.Normal

/-- A normalised block stored and loaded again is the same block, and saturates nothing. -/
theorem roundBlk_blkVals_bytes {b : Blk} (h : b.normal = true) : roundBlk (blkVals (leNat b.bytes)) = (b, false) := by
  have spec := Blk.normal_spec h
  rw [blkVals_bytes spec, spec.roundBlk_exact]

/-- Settles O50: rounding happens at one exponent, which RoundsAt describes; a stored block holds its elements exactly, and those are
whole mantissas at its exponent; a square root is compared with the squares of the halves beside it. -/
theorem blocksAreRoundedOnce : Obligations.BlocksAreRoundedOnce := by
  unfold Obligations.BlocksAreRoundedOnce
  exact ⟨roundBlk_spec, fun b => roundBlk_blkVals_bytes, fun n d => sqrtRound_spec n⟩

end Sys2Proof.Machine
end

section
/-! SUPPORT. Job slots: what a job has in flight, what becomes visible of it, and what the issue of an instruction leaves. -/

namespace Sys2Proof.Machine

open Sys2Proof

/-! Slots -/

/-- Another slot holds the job it held. -/
theorem State.job_setJob_other (s : State) {l l' : Lane} {j n : Nat} (x : Job) (h : laneNo l' * 256 + n ≠ laneNo l * 256 + j) :
    (s.setJob l j x).job l' n = s.job l' n := famGet_famSet_of_ne _ _ _ h

theorem SameJobsBut.of_jobs {s t : State} (h : t.jobs = s.jobs) (l : Lane) (j : Nat) : SameJobsBut s t l j :=
  fun l' n _ => by rw [State.job, State.job, h]

theorem SameJobsBut.setJob {s t : State} {l : Lane} {j : Nat} (h : SameJobsBut s t l j) (x : Job) : SameJobsBut s (t.setJob l j x) l j :=
  fun l' n hn => (t.job_setJob_other x hn).trans (h l' n hn)

/-! What becomes visible of a job's stores and records -/

/-- t is s but for memory, its reservations and marks, and the free values taken. -/
def State.Lands (s t : State) : Prop := ∃ m ls es n, t = { s with mem := m, lanes := ls, les := es, free := n }

namespace State.Lands

variable {s t u : State}

theorem refl (s : State) : s.Lands s := ⟨_, _, _, _, rfl⟩

theorem trans (h : s.Lands t) (g : t.Lands u) : s.Lands u := by
  obtain ⟨_, _, _, _, rfl⟩ := h
  obtain ⟨_, _, _, _, rfl⟩ := g
  exact ⟨_, _, _, _, rfl⟩

theorem jobs (h : s.Lands t) : t.jobs = s.jobs := by obtain ⟨_, _, _, _, rfl⟩ := h; rfl
theorem regs (h : s.Lands t) : t.regs = s.regs := by obtain ⟨_, _, _, _, rfl⟩ := h; rfl
theorem sk (h : s.Lands t) : t.sk = s.sk := by obtain ⟨_, _, _, _, rfl⟩ := h; rfl
theorem evq (h : s.Lands t) : t.evq = s.evq := by obtain ⟨_, _, _, _, rfl⟩ := h; rfl
theorem buses (h : s.Lands t) : t.buses = s.buses := by obtain ⟨_, _, _, _, rfl⟩ := h; rfl

end State.Lands

theorem State.breakResv_lands (s : State) (l : Lane) (a n : Nat) : s.Lands (s.breakResv l a n) := by
  unfold State.breakResv
  dsimp only
  split
  · exact .refl s
  · exact ⟨_, _, _, _, rfl⟩

theorem State.memPut_lands (s : State) (l : Lane) (a : Nat) (bs : List Byte) : s.Lands (s.memPut l a bs) := by
  obtain ⟨m, hm⟩ := s.wrBytes_only_mem (laneNo l) a bs
  have written : s.Lands (s.wrBytes (laneNo l) a bs) := hm ▸ ⟨_, _, _, _, rfl⟩
  refine written.trans ((State.breakResv_lands _ l a bs.length).trans ?_)
  unfold State.memPut
  dsimp only
  split
  · exact .refl _
  · exact ⟨_, _, _, _, rfl⟩

theorem State.setLe_lands (s : State) (l : Lane) (x : LeSt) : s.Lands (s.setLe l x) := ⟨_, _, _, _, rfl⟩

theorem State.mirrorPut_lands (s : State) (l : Lane) (r : OutRec) : s.Lands (s.mirrorPut l r) := by
  unfold State.mirrorPut
  dsimp only
  split
  · split
    · exact .refl s
    · exact (s.memPut_lands ..).trans (State.setLe_lands ..)
  · exact (s.memPut_lands ..).trans (State.setLe_lands ..)

theorem State.land_lands (s : State) (l : Lane) (f : Fly) : s.Lands (s.land l f) := by
  cases f with
  | store a bs => exact s.memPut_lands l (lmA a) bs
  | mirror r => exact s.mirrorPut_lands l r

theorem State.landAll_lands (s : State) (l : Lane) (fs : List Fly) : s.Lands (s.landAll l fs) := by
  unfold State.landAll
  induction fs generalizing s with
  | nil => exact .refl s
  | cons f fs ih => exact (s.land_lands l f).trans (ih _)

@[simp] theorem State.landAll_nil (s : State) (l : Lane) : s.landAll l [] = s := rfl

/-! Bytes of local memory -/

/-- Bytes written read as they were written; every other byte of the lane reads as before. -/
theorem State.rd8_wrBytes (s : State) (l a : Nat) (bs : List Byte) (b : Nat) :
    (s.wrBytes l a bs).rd8 l b = if a ≤ b ∧ b < a + bs.length then bs.getD (b - a) 0 else s.rd8 l b := by
  induction bs generalizing s a with
  | nil => simp [State.wrBytes]
  | cons c cs ih =>
    rw [State.wrBytes, ih, List.length_cons]
    rcases lt_trichotomy b a with h | rfl | h
    · rw [if_neg (by omega), if_neg (by omega), State.rd8_wr8_of_ne _ _ (by simp only [key]; omega)]
    · rw [if_neg (by omega), if_pos (by omega), State.rd8_wr8_same, Nat.sub_self]
      rfl
    · rw [State.rd8_wr8_of_ne _ _ (by simp only [key]; omega), show b - a = b - (a + 1) + 1 by omega, List.getD_cons_succ]
      exact if_congr (by omega) rfl rfl

theorem State.rd8_memPut (s : State) (l : Lane) (a : Nat) (bs : List Byte) (m b : Nat) :
    (s.memPut l a bs).rd8 m b = (s.wrBytes (laneNo l) a bs).rd8 m b := State.rd8_congr (s.memPut_frame l a bs).1 m b

/-- The byte at an offset once this is visible, where v was the byte before. -/
def Fly.over (ofs : Nat) (v : Byte) : Fly → Byte
  | .store a bs => if a ≤ ofs then bs.getD (ofs - a) v else v
  | .mirror _ => v

/-- A job sees memory under all that it has in flight (R91). -/
theorem State.jobByte_eq (s : State) (l : Lane) (x : Job) (ofs : Nat) :
    s.jobByte l x ofs = x.fly.foldl (Fly.over ofs) (s.rd8 (laneNo l) (lmA ofs)) := rfl

/-- A job sees the same bytes with the same memory and the same in flight. -/
theorem State.jobByte_congr {s t : State} (l : Lane) {x y : Job} (hm : t.mem = s.mem) (h : y.fly = x.fly) :
    t.jobByte l y = s.jobByte l x := by
  funext b
  rw [State.jobByte_eq, State.jobByte_eq, h, State.rd8_congr hm]

@[simp] theorem Fly.over_mirror (r : OutRec) (b : Nat) (v : Byte) : (Fly.mirror r).over b v = v := rfl

/-- A store covers its own bytes, and no others. -/
theorem Fly.over_store (a : Nat) (bs : List Byte) (b : Nat) (v : Byte) :
    (Fly.store a bs).over b v = if a ≤ b ∧ b < a + bs.length then bs.getD (b - a) 0 else v := by
  unfold Fly.over
  dsimp only
  by_cases ha : a ≤ b
  · rw [if_pos ha]
    split
    · rw [List.getD_eq_getElem _ _ (by omega), List.getD_eq_getElem _ _ (by omega)]
    · rw [List.getD_eq_default _ _ (by omega)]
  · rw [if_neg ha, if_neg (by omega)]

/-- Below the mirror, what becomes visible is what the job saw. -/
theorem State.rd8_land (s : State) (l : Lane) (f : Fly) {b : Nat} (hb : b < 0xf8000) :
    (s.land l f).rd8 (laneNo l) (lmA b) = f.over b (s.rd8 (laneNo l) (lmA b)) := by
  cases f with
  | store a bs =>
    rw [State.land, State.lmWrite, State.rd8_memPut, State.rd8_wrBytes, Fly.over_store]
    unfold lmA
    rw [show 0x21000000 + b - (0x21000000 + a) = b - a by omega]
    exact if_congr (by omega) rfl rfl
  | mirror r =>
    have put (k : Nat) (bs : List Byte) : ((s.lmWrite l (0xf8000 + k) bs).rd8 (laneNo l) (lmA b)) = s.rd8 (laneNo l) (lmA b) := by
      rw [State.lmWrite, State.rd8_memPut, State.rd8_wrBytes, if_neg (by unfold lmA; omega)]
    unfold State.land State.mirrorPut
    dsimp only
    rw [Fly.over]
    split
    · split
      · rfl
      · rw [State.setLe_rd8, put]
    · rw [State.setLe_rd8, put]

/-- What does not meet may become visible in either order. -/
theorem Fly.over_comm {f g : Fly} (h : f.meets g = false) (b : Nat) (v : Byte) : g.over b (f.over b v) = f.over b (g.over b v) := by
  cases f with
  | mirror r => rfl
  | store a bs =>
    cases g with
    | mirror r => rfl
    | store a' bs' =>
      simp only [Fly.meets, decide_eq_false_iff_not, not_and, not_lt] at h
      simp only [Fly.over_store]
      by_cases h1 : a ≤ b ∧ b < a + bs.length
      · rw [if_neg (c := a' ≤ b ∧ b < a' + bs'.length) (by omega), if_neg (c := a' ≤ b ∧ b < a' + bs'.length) (by omega)]
      · rw [if_neg h1, if_neg h1]

theorem Fly.foldl_over_comm {f : Fly} {fs : List Fly} (h : ∀ g ∈ fs, f.meets g = false) (b : Nat) (v : Byte) :
    fs.foldl (Fly.over b) (f.over b v) = f.over b (fs.foldl (Fly.over b) v) := by
  induction fs generalizing v with
  | nil => rfl
  | cons g fs ih =>
    rw [List.foldl_cons, List.foldl_cons, Fly.over_comm (h g List.mem_cons_self), ih fun g' hg' => h g' (List.mem_cons_of_mem _ hg')]

/-- What drifts into memory was the job's, which goes on seeing the same bytes, and changes in nothing else (R91, R92). -/
theorem State.drift_spec (s : State) (l : Lane) (x : Job) :
    s.Lands (s.drift l x).1 ∧ (∃ fs, (s.drift l x).2 = { x with fly := fs }) ∧
      (∀ b < 0xf8000, (s.drift l x).1.jobByte l (s.drift l x).2 b = s.jobByte l x b) ∧ (x.fly = [] → s.drift l x = (s, x)) := by
  unfold State.drift
  split
  · exact ⟨.refl s, ⟨_, rfl⟩, fun _ _ => rfl, fun _ => rfl⟩
  · next some_fly =>
    have took : s.Lands s.takeNat.2 := ⟨_, _, _, _, rfl⟩
    have same : s.takeNat.2.jobByte l x = s.jobByte l x := State.jobByte_congr l rfl rfl
    dsimp only
    generalize s.takeNat.1 % (x.fly.length + 1) = i
    split
    · exact ⟨took, ⟨_, rfl⟩, fun b _ => congrFun same b, fun h => absurd h some_fly⟩
    · next f hf =>
      split
      · exact ⟨took, ⟨_, rfl⟩, fun b _ => congrFun same b, fun h => absurd h some_fly⟩
      · next free =>
        refine ⟨took.trans (State.land_lands _ l f), ⟨_, rfl⟩, fun b hb => ?_, fun h => absurd h some_fly⟩
        have apart : ∀ g ∈ x.fly.take i, f.meets g = false := by simpa using free
        obtain ⟨hi, rfl⟩ := List.getElem?_eq_some_iff.mp hf
        have order : x.fly = x.fly.take i ++ x.fly[i] :: x.fly.drop (i + 1) := by
          rw [← List.drop_eq_getElem_cons hi, List.take_append_drop]
        rw [← same, State.jobByte_eq, State.jobByte_eq, State.rd8_land _ l _ hb]
        conv_rhs => rw [order]
        rw [List.foldl_append, List.foldl_append, Fly.foldl_over_comm apart, List.foldl_cons]

end Sys2Proof.Machine
end

section
/-! SUPPORT. The issue of an instruction: a legal word does what its body says, and the job goes on, waits or faults. -/

namespace Sys2Proof.Machine

open Sys2Proof

/-- A word is of one form and sets none of its reserved bits. -/
theorem legalWord_spec {w : DWord} {op lo : Nat} (h : legalWord w op lo = true) :
    ∃ f, formOf (insOf w) = some f ∧ f.op = op ∧ f.lo = lo ∧ f.legal (insOf w) = true := by
  unfold legalWord at h
  cases hf : formOf (insOf w) with
  | none => rw [hf] at h; cases h
  | some f =>
    rw [hf, Option.any_some, Bool.and_eq_true, Bool.and_eq_true, beq_iff_eq, beq_iff_eq] at h
    exact ⟨f, rfl, h.1.1, h.1.2, h.2⟩

section

variable {s s' : State} {l : Lane} {j : Nat} {w : DWord} {op lo code : Nat} {body : Ins → State → Job → Res} {y : Job}

/-- The job as the body of an instruction sees it: its pc stands behind the word. -/
def State.issued (s : State) (l : Lane) (j : Nat) : Job := { s.job l j with pc := (s.job l j).pc + 8 }

/-- What a body's result makes of the state in which the word was issued. -/
def Res.leave (s : State) (l : Lane) (j : Nat) : Res → State
  | .exc c => State.jobFault (if c = 4 then s.raiseL l 0x85 255 else s) l j (s.job l j) c (s.job l j).pc
  | .ok t y =>
    if (t.drift l y).2.st = .running then (t.drift l y).1.jobRun l j (t.drift l y).2 else (t.drift l y).1.setJob l j (t.drift l y).2

/-- A legal word of a running job is issued: its body decides what follows. -/
theorem State.issue_of_legal (hst : (s.job l j).st = .running) (hl : legalWord w op lo = true) :
    s.issue l j w op lo body = .next ((body (insOf w) s (s.issued l j)).leave s l j) := by
  obtain ⟨f, hf, hop, hlo, legal⟩ := legalWord_spec hl
  unfold State.issue
  dsimp only
  rw [if_neg (not_not.mpr hst), hf]
  dsimp only
  rw [if_neg (by simp [hop, hlo]), if_neg (by simp [legal]), ← State.issued]
  generalize body (insOf w) s (s.issued l j) = r
  unfold Res.leave
  rcases r with c | ⟨t, y⟩
  · by_cases hc : c = 4
    · subst hc; rfl
    · simp [hc]
  · rfl

/-- A legal word of a running job: what in flight drifts, the job stays in its slot. -/
theorem State.issue_of_ok (hst : (s.job l j).st = .running) (hl : legalWord w op lo = true)
    (hb : body (insOf w) s (s.issued l j) = .ok s' y) (hpc : y.st = .running → y.pc < 0xf6000) :
    s.issue l j w op lo body = .next ((s'.drift l y).1.setJob l j (s'.drift l y).2) := by
  obtain ⟨-, ⟨fs, hfs⟩, -, -⟩ := s'.drift_spec l y
  rw [State.issue_of_legal hst hl, hb, Res.leave, hfs]
  split
  · next run =>
    have run : y.st = .running := run
    rw [State.jobRun, if_pos (hpc run), ← run]
  · rfl

/-- A legal word whose body meets an exception other than LM_ECC ends the job with its code, at its own offset (R97, R105). -/
theorem State.issue_of_exc (hst : (s.job l j).st = .running) (hl : legalWord w op lo = true)
    (hb : body (insOf w) s (s.issued l j) = .exc code) (hc : code ≠ 4) :
    s.issue l j w op lo body = .next (s.jobFault l j (s.job l j) code (s.job l j).pc) := by
  rw [State.issue_of_legal hst hl, hb, Res.leave, if_neg hc]

/-- What an instruction that meets no exception leaves, from what its body leaves. -/
theorem leaves_of_ok {c : Instr} {f : Nat → Byte} {es : List Event} (he : exec c s = s.issue l j w op lo body)
    (hst : (s.job l j).st = .running) (hl : legalWord w op lo = true)
    (hb : body (insOf w) s (s.issued l j) = .ok s' y) (hpc : y.st = .running → y.pc < 0xf6000)
    (hf : ∀ b < 0xf8000, s'.jobByte l y b = f b) (hjobs : SameJobsBut s s' l j) (hregs : s'.regs = s.regs) (hsk : s'.sk = s.sk)
    (hevq : s'.evq = s.evq ++ es) (hmem : s'.mem = s.mem) : Leaves c s l j y f es := by
  obtain ⟨lands, ⟨fs, hfs⟩, sees, calm⟩ := s'.drift_spec l y
  refine ⟨_, he.trans (State.issue_of_ok hst hl hb hpc), ?_, fun b hlt => ?_, ?_, ?_, ?_, ?_, fun none => ?_⟩
  · rw [State.job_setJob_same, hfs]
  · rw [State.job_setJob_same, ← hf b hlt, ← sees b hlt, State.jobByte_congr l (State.setJob_mem ..) rfl]
  · exact SameJobsBut.setJob (fun l' n hn => by rw [State.job, lands.jobs]; exact hjobs l' n hn) _
  · rw [State.setJob_regs, lands.regs, hregs]
  · rw [State.setJob_sk, lands.sk, hsk]
  · rw [State.setJob_evq, lands.evq, hevq]
  · rw [State.setJob_mem, calm none, hmem]

/-- An instruction that changes the job alone. -/
theorem leaves_of_job {c : Instr} {f : Nat → Byte} (he : exec c s = s.issue l j w op lo body)
    (hst : (s.job l j).st = .running) (hl : legalWord w op lo = true)
    (hb : body (insOf w) s (s.issued l j) = .ok s y) (hpc : y.st = .running → y.pc < 0xf6000)
    (hf : ∀ b < 0xf8000, s.jobByte l y b = f b) : Leaves c s l j y f [] :=
  leaves_of_ok he hst hl hb hpc hf (SameJobsBut.of_jobs rfl l j) rfl rfl (List.append_nil _).symm rfl

/-- An instruction that changes registers of the job: it goes on with the next word. -/
theorem goesOn_of_ok {c : Instr} {x : Job} (he : exec c s = s.issue l j w op lo body)
    (hst : (s.job l j).st = .running) (hpc : (s.job l j).pc + 8 < 0xf6000) (hl : legalWord w op lo = true)
    (hb : body (insOf w) s (s.issued l j) = .ok s { x with st := .running, pc := (s.job l j).pc + 8 })
    (hfly : x.fly = (s.job l j).fly) : GoesOn c s l j x :=
  leaves_of_job he hst hl hb (fun _ => hpc) fun b _ => congrFun (State.jobByte_congr l rfl hfly) b

/-- The job as a fault leaves it, with nothing in flight (R85, R97). -/
def Job.faulted (x : Job) (code faddr : Nat) : Job := { x with st := .faulted, code := code, faddr := faddr, out := none }

/-- A fault with nothing in flight: the job stays in its slot, FAULTED, and 0x082 is raised. -/
theorem State.jobFault_of_calm (s : State) (l : Lane) (j : Nat) {x : Job} (code faddr : Nat) (h : x.fly = []) :
    s.jobFault l j x code faddr = (s.setJob l j (x.faulted code faddr)).raiseL l 0x82 255 := by
  unfold State.jobFault Job.faulted
  dsimp only
  rw [h, State.landAll_nil]

/-- The event of a fault. -/
theorem State.raise_fault_evq {s : State} {l : Lane} (hr : (s.lane l).reset = false) (x : Job) (j : Nat) :
    ((s.setJob l j x).raiseL l 0x82 255).evq = s.evq ++ [s.stamp { coll := .lane l, src := 0x82, res := resLane l }] :=
  State.raiseL_evq _ 255 0 (c := 2) (by cases l <;> rfl) hr

/-- An instruction that meets an exception with nothing in flight (R97, R105). -/
theorem leaves_of_exc {c : Instr} (he : exec c s = s.issue l j w op lo body) (hst : (s.job l j).st = .running)
    (hl : legalWord w op lo = true) (hb : body (insOf w) s (s.issued l j) = .exc code) (hc : code ≠ 4)
    (hfly : (s.job l j).fly = []) (hr : (s.lane l).reset = false) :
    Leaves c s l j { s.job l j with st := .faulted, code := code, faddr := (s.job l j).pc, out := none } (s.jobByte l (s.job l j))
      [s.stamp { coll := .lane l, src := 0x82, res := resLane l }] := by
  refine ⟨_, (he.trans (State.issue_of_exc hst hl hb hc)).trans (by rw [State.jobFault_of_calm _ _ _ _ _ hfly]), ?_⟩
  refine ⟨?_, fun b _ => ?_, ?_, ?_, ?_, State.raise_fault_evq hr _ _, fun _ => ?_⟩
  · rw [State.raiseL_job, State.job_setJob_same]; rfl
  · rw [State.raiseL_job, State.job_setJob_same]
    exact congrFun (State.jobByte_congr l (by simp) rfl) b
  · exact fun l' n hn => (State.raiseL_job ..).trans (s.job_setJob_other _ hn)
  · simp
  · simp
  · simp

end

end Sys2Proof.Machine
end

section
/-! SUPPORT. Starting a job from its descriptor, in the lowest free slot (R76, R80, R82). -/

namespace Sys2Proof.Machine

open Sys2Proof

variable (s : State) (l : Lane)

/-- The job that starts from descriptor d (R76, R82). -/
def State.newJob (s : State) (l : Lane) (d src trigT tag vec : Nat) (spawned : Bool) (arg : Option Word) : Job := {
  st := .running, desc := d, prio := (s.descWord l d 1).toNat % 8, notify := (s.descWord l d 1).toNat / 2 ^ 8 % 2 == 1
  ovfRaise := (s.descWord l d 1).toNat / 2 ^ 9 % 2 == 1, budget := (s.descWord l d 1).toNat / 2 ^ 16, pc := (s.descWord l d 0).toNat
  a := [arg.getD (s.descWord l d 2), s.descWord l d 3, s.descWord l d 4, s.descWord l d 5, s.descWord l d 6, s.descWord l d 7,
        BitVec.ofNat 32 (0xfc000 + 0x1000 * (vec % 4)), BitVec.ofNat 32 (tag + src * 2 ^ 16 + (if spawned then 2 ^ 22 else 0))]
  tag := tag, vec := vec, src := src, trigT := trigT, startT := s.now }

variable {l} {j d src trigT tag vec : Nat} {spawned : Bool} {arg : Option Word}

/-- A good ENTRY: the job is in its slot. -/
theorem State.startJob_of_good (h : (s.descWord l d 0).toNat < 0xf6000) (h8 : (s.descWord l d 0).toNat % 8 = 0) :
    s.startJob l j d src trigT tag vec spawned arg = s.setJob l j (s.newJob l d src trigT tag vec spawned arg) := by
  unfold State.startJob
  dsimp only
  rw [if_neg (by omega), if_neg (by omega)]
  rfl

/-- An ENTRY at 0xF_6000 or above is LM_BOUNDS (R76). -/
theorem State.startJob_of_high (h : 0xf6000 ≤ (s.descWord l d 0).toNat) : s.startJob l j d src trigT tag vec spawned arg =
    s.jobFault l j (s.newJob l d src trigT tag vec spawned arg) 1 ((s.descWord l d 0).toNat % 2 ^ 20) := by
  unfold State.startJob
  dsimp only
  rw [if_pos h]
  rfl

/-- A misaligned ENTRY is LM_ALIGN (R76). -/
theorem State.startJob_of_misaligned (h : (s.descWord l d 0).toNat < 0xf6000) (h8 : (s.descWord l d 0).toNat % 8 ≠ 0) :
    s.startJob l j d src trigT tag vec spawned arg =
      s.jobFault l j (s.newJob l d src trigT tag vec spawned arg) 2 ((s.descWord l d 0).toNat % 2 ^ 20) := by
  unfold State.startJob
  dsimp only
  rw [if_neg (by omega), if_pos h8]
  rfl

/-- The slot offered is free. -/
theorem State.free_of_freeSlots {js : List Nat} (h : s.freeSlots l = j :: js) : j < 256 ∧ (s.job l j).st = .free := by
  have mem : j ∈ s.freeSlots l := h ▸ List.mem_cons_self
  simpa [State.freeSlots] using mem

end Sys2Proof.Machine
end

section
/-! PROOF. Flow and job control. -/

namespace Sys2Proof.Machine

open Sys2Proof

/-- Bits of imm from bit 0 up. -/
theorem Ins.im_zero (i : Ins) (w : Nat) : i.im 0 w = i.imm % 2 ^ w := by rw [Ins.im, Nat.pow_zero, Nat.div_one]

section

variable {s : State} {l : Lane} {j : Nat} {w : DWord}

/-- A taken branch or a jump to an offset below 0xF_6000 (R125). -/
theorem leaves_goTo {c : Instr} {op lo tgt : Nat} {body : Ins → State → Job → Res} (he : exec c s = s.issue l j w op lo body)
    (hst : (s.job l j).st = .running) (hl : legalWord w op lo = true)
    (hb : body (insOf w) s (s.issued l j) = goTo tgt s (s.issued l j)) (ht : tgt < 0xf6000) :
    Leaves c s l j { s.job l j with pc := tgt } (s.jobByte l (s.job l j)) [] :=
  leaves_of_job he hst hl (hb.trans (by rw [goTo, if_neg (by omega)]; rfl)) (fun _ => ht) fun _ _ => rfl

/-- An instruction that takes the job to another state, its registers kept. -/
theorem leaves_state {c : Instr} {op lo : Nat} {body : Ins → State → Job → Res} {y : Job} (he : exec c s = s.issue l j w op lo body)
    (hst : (s.job l j).st = .running) (hl : legalWord w op lo = true)
    (hb : body (insOf w) s (s.issued l j) = .ok s y) (hy : y.st ≠ .running) (hfly : y.fly = (s.job l j).fly) :
    Leaves c s l j y (s.jobByte l (s.job l j)) [] :=
  leaves_of_job he hst hl hb (fun h => absurd h hy) fun b _ => congrFun (State.jobByte_congr l rfl hfly) b

theorem brIf_of_false {taken : Bool} (h : taken = false) (i : Ins) (x : Job) : brIf taken i s x = .ok s x := by rw [h]; rfl

/-- A taken branch counts from its own offset, behind which the job's pc already stands (R125). -/
theorem brIf_of_true {taken : Bool} (h : taken = true) (i : Ins) : brIf taken i s (s.issued l j) =
    goTo ((((s.job l j).pc : Int) + 8 * i.ims 0 20) % 2 ^ 32).toNat s (s.issued l j) := by
  have back : ((s.issued l j).pc : Int) - 8 = (s.job l j).pc := by simp [State.issued]
  rw [h, brIf, back, if_pos rfl]

@[simp] theorem Job.putP_fly (x : Job) (i : Nat) (v : Bool) : (x.putP i v).fly = x.fly := rfl

/-- A job is issued running, and its registers are as they were. -/
theorem State.issued_eq (hst : (s.job l j).st = .running) : s.issued l j = { s.job l j with st := .running, pc := (s.job l j).pc + 8 } := by
  rw [State.issued, ← hst]

/-- A SPAWN that starts no job clears its predicate (R81). -/
theorem spawnJob_of_none {i : Ins} {arg : Option Word} {x : Job} (h : s.freeSlots l = [] ∨ s.descFull l (i.imm % 256) = true) :
    spawnJob l i arg s x = .ok s (x.putP i.d false) := by
  unfold spawnJob
  rw [show i.im 0 8 = i.imm % 256 from i.im_zero 8]
  split
  · rfl
  · next k ks hk => rw [if_pos (h.resolve_left (by simp [hk]))]

/-- A SPAWN that starts a job sets its predicate (R81). -/
theorem spawnJob_of_free {i : Ins} {arg : Option Word} {x : Job} {k : Nat} {ks : List Nat} (h : s.freeSlots l = k :: ks)
    (hd : s.descFull l (i.imm % 256) = false) :
    spawnJob l i arg s x = .ok (s.startJob l k (i.imm % 256) x.src x.trigT x.tag x.vec true arg) (x.putP i.d true) := by
  unfold spawnJob
  rw [h, show i.im 0 8 = i.imm % 256 from i.im_zero 8]
  dsimp only
  rw [if_neg (by simp [hd])]

/-- What a SPAWN does, whatever gives the child's A0. -/
theorem spawn_completes {c : Instr} {lo : Nat} {arg : Ins → Job → Option Word} {a0 : Option Word}
    (he : exec c s = s.issue l j w 0x04 lo fun i s x => spawnJob l i (arg i x) s x) (ha : arg (insOf w) (s.issued l j) = a0)
    (hst : (s.job l j).st = .running) (hpc : (s.job l j).pc + 8 < 0xf6000) (hl : legalWord w 0x04 lo = true) (hj : j < 256) :
    let x := s.job l j
    let i := insOf w
    let d := i.imm % 256
    ((s.freeSlots l = [] ∨ s.descFull l d = true) → GoesOn c s l j (x.putP i.d false)) ∧
    (∀ k ks, s.freeSlots l = k :: ks → s.descFull l d = false → (s.descWord l d 0).toNat < 0xf6000 →
      (s.descWord l d 0).toNat % 8 = 0 → x.fly = [] → Completes c s fun t =>
        t.job l j = { x.putP i.d true with pc := x.pc + 8 } ∧
        (let y := t.job l k
         y.st = .running ∧ y.desc = d ∧ y.pc = (s.descWord l d 0).toNat ∧ y.ar 0 = a0.getD (s.descWord l d 2) ∧
         y.ar 1 = s.descWord l d 3 ∧ y.ar 6 = BitVec.ofNat 32 (0xfc000 + 0x1000 * (x.vec % 4)) ∧
         y.ar 7 = BitVec.ofNat 32 (x.tag + x.src * 2 ^ 16 + 2 ^ 22) ∧ y.src = x.src ∧ y.tag = x.tag ∧ y.vec = x.vec ∧
         y.trigT = x.trigT ∧ y.v = [] ∧ y.ovf = false) ∧
        (∀ n < 256, n ≠ j → n ≠ k → t.job l n = s.job l n) ∧ t.regs = s.regs ∧ t.evq = s.evq ∧ t.mem = s.mem ∧ t.sk = s.sk) := by
  dsimp only
  constructor
  · intro none
    exact goesOn_of_ok he hst hpc hl ((spawnJob_of_none none).trans (by rw [State.issued_eq hst]; rfl)) rfl
  · intro k ks hk hd hlow h8 hfly
    obtain ⟨-, free⟩ := s.free_of_freeSlots hk
    have apart : k ≠ j := by rintro rfl; rw [hst] at free; cases free
    have hb := spawnJob_of_free (x := s.issued l j) (arg := arg (insOf w) (s.issued l j)) hk hd
    have calm := (State.drift_spec (s.startJob l k ((insOf w).imm % 256) (s.issued l j).src (s.issued l j).trigT (s.issued l j).tag
      (s.issued l j).vec true (arg (insOf w) (s.issued l j))) l ((s.issued l j).putP (insOf w).d true)).2.2.2 hfly
    refine ⟨_, he.trans ((State.issue_of_ok hst hl hb fun _ => hpc).trans (by rw [calm, s.startJob_of_good hlow h8, ha])), ?_⟩
    refine ⟨?_, ?_, fun n hn hnj hnk => ?_, rfl, rfl, rfl, rfl⟩
    · rw [State.job_setJob_same]; rfl
    · rw [State.job_setJob_other _ _ (by omega), State.job_setJob_same]
      exact ⟨rfl, rfl, rfl, rfl, rfl, rfl, rfl, rfl, rfl, rfl, rfl, rfl, rfl⟩
    · rw [State.job_setJob_other _ _ (by omega), State.job_setJob_other _ _ (by omega)]

/-- END raises an OVF that is set where the descriptor asks for it (R97, R126). -/
theorem end_leaves {j : Fin 256} (hst : (s.job l j.val).st = .running) (hl : legalWord w 0x02 0 = true) (hr : (s.lane l).reset = false) :
    let x := s.job l j.val
    Leaves (.end_ l j w) s l j.val { x with st := .ending, pc := x.pc + 8 } (s.jobByte l x)
      (if x.ovf && x.ovfRaise then [s.stamp { coll := .lane l, src := 0x83, res := resLane l }] else []) := by
  have sees {t : State} (ht : t.mem = s.mem) (b : Nat) :
      t.jobByte l { s.job l j.val with st := .ending, pc := (s.job l j.val).pc + 8 } b = s.jobByte l (s.job l j.val) b :=
    congrFun (State.jobByte_congr l ht rfl) b
  dsimp only
  by_cases h : (s.job l j.val).ovf && (s.job l j.val).ovfRaise
  · rw [if_pos h]
    exact leaves_of_ok (exec_end_ ..) hst hl (congrArg (Res.ok · _) (if_pos h)) nofun (fun b _ => sees (State.raiseL_mem ..) b)
      (SameJobsBut.of_jobs (State.raiseL_jobs ..) l j) (State.raiseL_regs ..) (State.raiseL_sk ..)
      (s.raiseL_evq 255 0 (c := 1) (by cases l <;> rfl) hr) (State.raiseL_mem ..)
  · rw [if_neg h]
    exact leaves_of_job (exec_end_ ..) hst hl (congrArg (Res.ok · _) (if_neg h)) nofun fun b _ => sees rfl b

end

/-- Settles O47: each clause from what the body of its instruction does with the issued job; a SPAWN once, for both of its forms. -/
theorem flowAndJobControl : Obligations.FlowAndJobControl := by
  unfold Obligations.FlowAndJobControl
  intro l j w s hst hpc
  dsimp only
  refine ⟨fun hl => ?_, fun hl => ⟨fun hp => ?_, fun hp ht => ?_⟩, fun hl => ⟨fun hp => ?_, fun hp ht => ?_⟩, fun hl ht => ?_,
    fun hl ht hfly hr => ?_, fun hl => ?_, fun hl => ?_, fun hl => ?_, fun hl => ?_, fun hl hr => ?_, fun c a0 hc hl => ?_⟩
  · exact goesOn_of_ok (exec_nop ..) hst hpc hl (by rw [State.issued_eq hst]) rfl
  · exact goesOn_of_ok (exec_brT ..) hst hpc hl ((brIf_of_false hp ..).trans (by rw [State.issued_eq hst])) rfl
  · exact leaves_goTo (exec_brT ..) hst hl (brIf_of_true hp _) ht
  · exact goesOn_of_ok (exec_brF ..) hst hpc hl ((brIf_of_false (congrArg not hp) ..).trans (by rw [State.issued_eq hst])) rfl
  · exact leaves_goTo (exec_brF ..) hst hl (brIf_of_true (congrArg not hp) _) ht
  · exact leaves_goTo (exec_jmp ..) hst hl rfl ht
  · exact leaves_of_exc (exec_jmp ..) hst hl (if_pos ht) (by decide) hfly hr
  · exact leaves_state (exec_wait ..) hst hl
      (by rw [show (insOf w).imm % 64 = (insOf w).im 0 6 from ((insOf w).im_zero 6).symm]; rfl) (by simp) rfl
  · exact leaves_state (exec_holdL ..) hst hl rfl (by simp) rfl
  · exact leaves_state (exec_holdO ..) hst hl rfl (by simp) rfl
  · exact leaves_state (exec_holdA ..) hst hl rfl (by simp) rfl
  · exact end_leaves hst hl hr
  · simp only [List.mem_cons, Prod.mk.injEq, List.not_mem_nil, or_false] at hc
    rcases hc with ⟨rfl, rfl⟩ | ⟨rfl, rfl⟩
    · exact spawn_completes (arg := fun _ _ => none) (exec_spawn ..) rfl hst hpc hl j.isLt
    · exact spawn_completes (arg := fun i x => some (x.ar i.a)) (exec_spawnArg ..) rfl hst hpc hl j.isLt

end Sys2Proof.Machine
end

section
/-! PROOF. How jobs leave their states, end and post. -/

namespace Sys2Proof.Machine

open Sys2Proof

/-! The output bus -/

@[simp] theorem State.bus_setBus_same (s : State) (l : Lane) (b : BusSt) : (s.setBus l b).bus l = b := famGet_famSet_same ..

theorem State.bus_setBus_of_ne (s : State) {l m : Lane} (b : BusSt) (h : m ≠ l) : (s.setBus l b).bus m = s.bus m :=
  famGet_famSet_of_ne _ _ _ fun e => h (laneNo_inj e)

/-- The bus takes a record to each of its destinations (R89, R90). -/
theorem State.busPut_bus (s : State) (l : Lane) (r : OutRec) :
    ((s.busPut l r).bus l).drvQ = (s.bus l).drvQ ++ (if r.toDrive l then [r] else []) ∧
      ((s.busPut l r).bus l).skQ = (s.bus l).skQ ++ (if r.toSkink then [{ r := r }] else []) := by
  unfold State.busPut
  dsimp only
  rw [State.bus_setBus_same]
  dsimp only
  constructor <;> split <;> simp

section

variable {s : State} {l : Lane} {j : Nat} {x : Job}

theorem State.jobRun_of_low (s : State) (l : Lane) (j : Nat) {x : Job} (h : x.pc < 0xf6000) :
    s.jobRun l j x = s.setJob l j { x with st := .running } := if_pos h

/-! Stalls and holds -/

theorem execJobStallEnd_eq {j : Fin 256} {r : OutRec} (hst : (s.job l j.val).st = .stallOut) (hout : (s.job l j.val).out = some r) :
    execJobStallEnd l j s = if s.busRoom l r then
      .next ((s.busPut l r).jobRun l j.val { s.job l j.val with out := none, fly := (s.job l j.val).fly ++ [.mirror r] }) else .next s := by
  unfold execJobStallEnd
  dsimp only
  simp only [hst, hout]

/-- A stalled OUT whose record the bus takes (R90). -/
theorem jobStallEnd_completes {j : Fin 256} {r : OutRec} (hst : (s.job l j.val).st = .stallOut) (hout : (s.job l j.val).out = some r)
    (hpc : (s.job l j.val).pc < 0xf6000) (room : s.busRoom l r = true) : Completes (.jobStallEnd l j) s fun t =>
      t.job l j.val = { s.job l j.val with st := .running, out := none, fly := (s.job l j.val).fly ++ [.mirror r] } ∧
      (t.bus l).drvQ = (s.bus l).drvQ ++ (if r.toDrive l then [r] else []) ∧
      (t.bus l).skQ = (s.bus l).skQ ++ (if r.toSkink then [{ r := r }] else []) ∧
      (∀ l' n, laneNo l' * 256 + n ≠ laneNo l * 256 + j.val → t.job l' n = s.job l' n) ∧
      t.regs = s.regs ∧ t.evq = s.evq ∧ t.mem = s.mem ∧ t.sk = s.sk := by
  obtain ⟨hd, hs⟩ := s.busPut_bus l r
  refine ⟨_, (exec_jobStallEnd ..).trans ((execJobStallEnd_eq hst hout).trans ((if_pos room).trans
    (congrArg _ (State.jobRun_of_low _ _ _ hpc)))), ?_, hd, hs, fun l' n hn => State.job_setJob_other _ _ hn, rfl, rfl, rfl, rfl⟩
  exact State.job_setJob_same ..

/-- A HOLD that waits for one store, which lands (R93). -/
theorem holdDone_store_eq {j : Fin 256} {a : Nat} {bs : List Byte} (hfly : (s.job l j.val).fly = [.store a bs])
    (hst : (s.job l j.val).st = .holdL ∨ (s.job l j.val).st = .holdA ∧ s.busHas l j.val = false) :
    execHoldDone l j s = .next ((s.lmWrite l a bs).jobRun l j.val { s.job l j.val with fly := [] }) := by
  unfold execHoldDone
  dsimp only
  rcases hst with hst | ⟨hst, bus⟩
  · simp only [hst, hfly]; rfl
  · simp only [hst, hfly, bus]; rfl

/-- A store made visible reads back. -/
theorem State.rd8_lmWrite (s : State) (l : Lane) (a : Nat) (bs : List Byte) {k : Nat} (hk : k < bs.length) :
    (s.lmWrite l a bs).rd8 (laneNo l) (lmA (a + k)) = bs.getD k 0 := by
  rw [State.lmWrite, State.rd8_memPut, State.rd8_wrBytes]
  unfold lmA
  rw [if_pos (by omega), show 0x21000000 + (a + k) - (0x21000000 + a) = k by omega]

/-- Bytes becoming visible leave every other byte of every lane. -/
theorem State.rd8_memPut_outside (s : State) (l : Lane) {a : Nat} (bs : List Byte) {n b : Nat}
    (out : ¬ (n = laneNo l ∧ a ≤ b ∧ b < a + bs.length)) (hb : b < 2 ^ 40) (ha : a + bs.length ≤ 2 ^ 40) : (s.memPut l a bs).rd8 n b = s.rd8 n b := by
  rw [State.rd8_memPut, State.rd8_wrBytes_outside]
  unfold key
  rcases Nat.lt_trichotomy n (laneNo l) with h | h | h <;> omega

theorem holdDone_completes {j : Fin 256} {a : Nat} {bs : List Byte} (hfly : (s.job l j.val).fly = [.store a bs])
    (hst : (s.job l j.val).st = .holdL ∨ (s.job l j.val).st = .holdA ∧ s.busHas l j.val = false) (hpc : (s.job l j.val).pc < 0xf6000) :
    Completes (.holdDone l j) s fun t =>
      t.job l j.val = { s.job l j.val with st := .running, fly := [] } ∧
      (∀ k < bs.length, t.rd8 (laneNo l) (lmA (a + k)) = bs.getD k 0) ∧
      (∀ n b, ¬ (n = laneNo l ∧ lmA a ≤ b ∧ b < lmA a + bs.length) → b < 2 ^ 40 → lmA a + bs.length ≤ 2 ^ 40 → t.rd8 n b = s.rd8 n b) ∧
      t.regs = s.regs ∧ t.evq = s.evq ∧ t.sk = s.sk := by
  have lands := s.memPut_lands l (lmA a) bs
  refine ⟨_, (exec_holdDone ..).trans ((holdDone_store_eq hfly hst).trans (congrArg _ (State.jobRun_of_low _ _ _ hpc))), ?_,
    fun k hk => s.rd8_lmWrite l a bs hk, fun n b out hb ha => s.rd8_memPut_outside l bs out hb ha, lands.regs, lands.evq, lands.sk⟩
  exact State.job_setJob_same ..

/-- A HOLD.O or HOLD.A goes on waiting while a record is on its way (R93). -/
theorem execHoldDone_of_busHas {j : Fin 256} (hst : (s.job l j.val).st = .holdO ∨ (s.job l j.val).st = .holdA)
    (bus : s.busHas l j.val = true) : execHoldDone l j s = .next s := by
  unfold execHoldDone
  rcases hst with hst | hst <;> simp only [hst, bus, if_true]

/-! Ends, faults and the completion queue -/

/-- A job that is posted frees its slot, where the queue has room or nothing is to be posted (R85, R97). -/
theorem State.jobPost_spec (s : State) (l : Lane) (j : Nat) (x : Job) {post : Bool} (code faddr : Nat)
    (room : post = false ∨ (s.le l).cq.length < 64) :
    let t := s.jobPost l j x post code faddr
    t.job l j = {} ∧ (t.le l).cq = (s.le l).cq ++ (if post then [⟨j, x.desc, x.tag, code, x.ovf, faddr⟩] else []) ∧
      (∀ l' n, laneNo l' * 256 + n ≠ laneNo l * 256 + j → t.job l' n = s.job l' n) ∧
      t.regs = s.regs ∧ t.evq = s.evq ∧ t.mem = s.mem ∧ t.sk = s.sk := by
  intro t
  cases post with
  | false => exact ⟨s.job_setJob_same .., (List.append_nil _).symm, fun l' n hn => s.job_setJob_other _ hn, rfl, rfl, rfl, rfl⟩
  | true =>
    have posted : t = (s.setLe l { s.le l with cq := (s.le l).cq ++ [⟨j, x.desc, x.tag, code, x.ovf, faddr⟩] }).setJob l j {} :=
      if_neg (by simpa using room)
    rw [posted]
    refine ⟨State.job_setJob_same .., ?_, fun l' n hn => State.job_setJob_other _ _ hn, rfl, rfl, rfl, rfl⟩
    rw [State.setJob_le, State.le_setLe_same]
    rfl

theorem State.jobPost_of_full (s : State) (l : Lane) (j : Nat) (x : Job) (code faddr : Nat) (full : 64 ≤ (s.le l).cq.length) :
    s.jobPost l j x true code faddr = s := if_pos full

theorem execJobEndComplete_of_ending {j : Fin 256} (hst : (s.job l j.val).st = .ending) (bus : s.busHas l j.val = false)
    (hfly : (s.job l j.val).fly = []) : execJobEndComplete l j s = .next ((s.setJob l j.val (s.job l j.val)).jobPost l j.val
      (s.job l j.val) (s.job l j.val).notify 0 0) := by
  unfold execJobEndComplete
  dsimp only
  generalize s.job l j.val = x at *
  obtain ⟨st, _, _, _, _, _, _, _, _, _, _, _, _, _, _, _, _, _, _, fly, _, _, _⟩ := x
  simp only at hst hfly
  subst hst hfly
  exact if_neg (by simp [bus])

theorem execJobEndComplete_of_faulted {j : Fin 256} (hst : (s.job l j.val).st = .faulted) : execJobEndComplete l j s =
    .next (s.jobPost l j.val (s.job l j.val) true (s.job l j.val).code (s.job l j.val).faddr) := by
  unfold execJobEndComplete
  simp only [hst]

/-- The states in which BUDGET can end a job (R85). -/
theorem execJobBudgetExpiry_of_spent {j : Fin 256} (hb : (s.job l j.val).budget ≠ 0)
    (ht : 64 * (s.job l j.val).budget ≤ leClk (s.now - (s.job l j.val).startT))
    (hst : (s.job l j.val).st ∈ [JobState.running, .stallOut, .holdL, .holdO, .holdA, .waiting]) :
    execJobBudgetExpiry l j s = .next (s.jobFault l j.val (s.job l j.val) 6 ((s.job l j.val).pc % 2 ^ 20)) := by
  unfold execJobBudgetExpiry
  dsimp only
  rw [if_neg (by omega)]
  simp only [List.mem_cons, List.not_mem_nil, or_false] at hst
  rcases hst with h | h | h | h | h | h <;> rw [h]

end

/-- Settles O44: what each command leaves of its slot, of the queues and of memory. -/
theorem jobsEndAndPost : Obligations.JobsEndAndPost := by
  unfold Obligations.JobsEndAndPost
  refine ⟨fun l j r s hst hout hpc => ⟨fun full => ?_, jobStallEnd_completes hst hout hpc⟩,
    fun l j a bs s hfly hst hpc => holdDone_completes hfly hst hpc,
    fun l j s hst bus => (exec_holdDone ..).trans (execHoldDone_of_busHas hst bus),
    fun l j s hst bus hfly room => ?_, fun l j s hst => ?_, fun l j s hb ht hfly hr hst => ?_, fun l c cs s hcq => ?_⟩
  · rw [exec_jobStallEnd, execJobStallEnd_eq hst hout, full]; rfl
  · obtain ⟨free, cq, others, rest⟩ := (s.setJob l j.val (s.job l j.val)).jobPost_spec l j.val (s.job l j.val) 0 0 room
    exact ⟨_, (exec_jobEndComplete ..).trans (execJobEndComplete_of_ending hst bus hfly), free, cq,
      fun l' n hn => (others l' n hn).trans (s.job_setJob_other _ hn), rest⟩
  · refine ⟨_, (exec_jobEndComplete ..).trans (execJobEndComplete_of_faulted hst), s.jobPost_of_full l j.val _ _ _, fun room => ?_⟩
    obtain ⟨free, cq, -, rest⟩ := s.jobPost_spec l j.val (s.job l j.val) (s.job l j.val).code (s.job l j.val).faddr (post := true)
      (.inr room)
    exact ⟨free, cq, rest⟩
  · refine ⟨_, (exec_jobBudgetExpiry ..).trans ((execJobBudgetExpiry_of_spent hb ht hst).trans
      (by rw [s.jobFault_of_calm _ _ _ _ hfly])), ?_, fun l' n hn => ?_, State.raise_fault_evq hr _ _, by simp, by simp, by simp⟩
    · rw [State.raiseL_job, State.job_setJob_same]; rfl
    · rw [State.raiseL_job, State.job_setJob_other _ _ hn]
  · refine ⟨_, exec_cqHiRead .., rfl, ?_, rfl, rfl, rfl, rfl, rfl⟩
    rw [State.le_setLe_same]
    exact congrArg (List.drop 1) hcq

end Sys2Proof.Machine
end

section
/-! PROOF. Triggers start jobs. -/

namespace Sys2Proof.Machine

open Sys2Proof

theorem lookup_famIns_same {α : Type} (m : List (Nat × α)) (k : Nat) (v : α) : (famIns m k v).lookup k = some v := by
  induction m with
  | nil => simp [famIns]
  | cons e m ih =>
    obtain ⟨a, w⟩ := e
    unfold famIns
    split
    · next h => rw [List.lookup_cons, beq_false_of_ne (by omega), ih]
    · split <;> simp

/-! The event of a source (R77, R78) -/

section

variable {s : State} {l : Lane} {i : Nat}

/-- The sources of a lane whose events have come. -/
def State.firedIn (s : State) (l : Lane) : List Nat := famGet (fun _ => []) s.fired (laneNo l)

/-- The state once the event of source i is taken, and counted (R78). -/
def State.taken (s : State) (l : Lane) (i : Nat) : State :=
  (State.eventNo { s with fired := famSet (fun _ => []) s.fired (laneNo l) ((s.firedIn l).erase i) } l i).2

/-- The state with the event of source i off its list, and the loop engines as es says. -/
def State.withTaken (s : State) (l : Lane) (i : Nat) (es : List (Nat × LeSt)) : State :=
  { s with fired := famSet (fun _ => []) s.fired (laneNo l) ((s.firedIn l).erase i), les := es }

/-- Taking an event leaves all but the list of events and their numbers. -/
theorem State.taken_eq (s : State) (l : Lane) (i : Nat) : ∃ es, s.taken l i = s.withTaken l i es ∧
    ((s.withTaken l i es).le l).pend = (s.le l).pend ∧ ((s.withTaken l i es).le l).newest = (s.le l).newest := by
  unfold State.taken State.eventNo
  split
  · exact ⟨s.les, rfl, rfl, rfl⟩
  · refine ⟨_, rfl, ?_, ?_⟩
    · rw [State.le, State.withTaken, famGet_famSet_same]; rfl
    · rw [State.le, State.withTaken, famGet_famSet_same]; rfl

@[simp] theorem State.withTaken_fb (s : State) (l : Lane) (i : Nat) (es : List (Nat × LeSt)) (b : Nat) (f : Fld) :
    (s.withTaken l i es).fb b f = s.fb b f := rfl

/-- The event at the front is off its list. -/
theorem State.withTaken_firedIn {r : List Nat} (h : s.firedIn l = i :: r) (es : List (Nat × LeSt)) :
    (s.withTaken l i es).firedIn l = r := by
  rw [State.firedIn, State.withTaken, famGet_famSet_same, h, List.erase_cons_head]

/-- The number of an event does not depend on the other events that have come. -/
theorem State.eventNo_withFired (s : State) (l : Lane) (i : Nat) (f : List (Nat × List Nat)) :
    (State.eventNo { s with fired := f } l i).1 = (s.eventNo l i).1 := by
  unfold State.eventNo
  split <;> rfl

theorem execTriggerFire_eq {i : Fin 64} (hf : i.val ∈ s.firedIn l) : execTriggerFire l i s = .next (
    if s.fb (leB l) LE.CTRL_EN then
      if (s.taken l i.val).trigHit l i.val (s.eventNo l i.val).1 then
        if ((s.taken l i.val).wakeAll l i.val).fb (trigB l i.val) LE.TRIGCFG_EN then ((s.taken l i.val).wakeAll l i.val).serveFire l i.val
        else (s.taken l i.val).wakeAll l i.val
      else s.taken l i.val
    else { s with fired := famSet (fun _ => []) s.fired (laneNo l) ((s.firedIn l).erase i.val) }) := by
  unfold execTriggerFire
  dsimp only
  refine (if_pos (List.contains_iff_mem.mpr hf)).trans ?_
  rw [← s.eventNo_withFired l i.val (famSet (fun _ => []) s.fired (laneNo l) ((s.firedIn l).erase i.val)), ← apply_ite Host.Outcome.next,
    ← apply_ite Host.Outcome.next]
  rfl

/-- An event that the filter passes wakes the jobs that wait for it, and is served where the source is enabled (R78, R127). -/
theorem execTriggerFire_of_hit {i : Fin 64} (hf : i.val ∈ s.firedIn l) (hen : s.fb (leB l) LE.CTRL_EN = true)
    (hit : s.trigHit l i.val (s.eventNo l i.val).1 = true) : execTriggerFire l i s = .next (
      if ((s.taken l i.val).wakeAll l i.val).fb (trigB l i.val) LE.TRIGCFG_EN then ((s.taken l i.val).wakeAll l i.val).serveFire l i.val
      else (s.taken l i.val).wakeAll l i.val) := by
  obtain ⟨es, taken, -⟩ := s.taken_eq l i.val
  have hit' : (s.taken l i.val).trigHit l i.val (s.eventNo l i.val).1 = true := by rw [taken]; exact hit
  rw [execTriggerFire_eq hf, if_pos hen, if_pos hit']

/-! Jobs that wait (R127) -/

/-- A job that waits for source i goes on. -/
def State.wakeJob (s : State) (l : Lane) (i j : Nat) : State :=
  if (s.job l j).st = .waiting ∧ (s.job l j).wait = i ∧ leClk (s.job l j).waitT < leClk s.now then s.jobRun l j (s.job l j) else s

theorem State.wakeAll_eq (s : State) (l : Lane) (i : Nat) : s.wakeAll l i = (List.range 256).foldl (fun s j => s.wakeJob l i j) s := rfl

theorem State.wakeJob_of_not_waiting {j : Nat} (h : (s.job l j).st ≠ .waiting) (i : Nat) : s.wakeJob l i j = s := if_neg fun w => h w.1

theorem State.foldl_wakeJob_of_none {js : List Nat} (h : ∀ n ∈ js, (s.job l n).st ≠ .waiting) (i : Nat) :
    js.foldl (fun s j => s.wakeJob l i j) s = s := by
  induction js with
  | nil => rfl
  | cons j js ih =>
    rw [List.foldl_cons, State.wakeJob_of_not_waiting (h j List.mem_cons_self)]
    exact ih fun n hn => h n (List.mem_cons_of_mem _ hn)

/-- With no job waiting, nothing wakes. -/
theorem State.wakeAll_of_none (h : ∀ n < 256, (s.job l n).st ≠ .waiting) (i : Nat) : s.wakeAll l i = s := by
  rw [State.wakeAll_eq, State.foldl_wakeJob_of_none fun n hn => h n (List.mem_range.mp hn)]

/-- With one job waiting, that one goes on. -/
theorem State.wakeAll_of_one {j : Nat} (hj : j < 256) (others : ∀ n < 256, n ≠ j → (s.job l n).st ≠ .waiting)
    (hst : (s.job l j).st = .waiting) (hw : (s.job l j).wait = i) (ht : leClk (s.job l j).waitT < leClk s.now)
    (hpc : (s.job l j).pc < 0xf6000) : s.wakeAll l i = s.setJob l j { s.job l j with st := .running } := by
  obtain ⟨before, after, split⟩ := List.append_of_mem (List.mem_range.mpr hj)
  have nodup : (before ++ j :: after).Nodup := split ▸ List.nodup_range
  have small : ∀ n ∈ before ++ j :: after, n < 256 := fun n hn => List.mem_range.mp (split ▸ hn)
  have wakes : s.wakeJob l i j = s.setJob l j { s.job l j with st := .running } :=
    (if_pos ⟨hst, hw, ht⟩).trans (State.jobRun_of_low _ _ _ hpc)
  have quiet_before : ∀ n ∈ before, (s.job l n).st ≠ .waiting := fun n hn =>
    others n (small n (List.mem_append_left _ hn)) (by rintro rfl; exact (List.nodup_append.mp nodup).2.2 _ hn _ List.mem_cons_self rfl)
  have quiet_after : ∀ n ∈ after, ((s.setJob l j { s.job l j with st := .running }).job l n).st ≠ .waiting := fun n hn => by
    have apart : n ≠ j := by rintro rfl; exact (List.nodup_cons.mp (List.nodup_append.mp nodup).2.1).1 hn
    rw [State.job_setJob_other _ _ (by omega)]
    exact others n (small n (by simp [hn])) apart
  rw [State.wakeAll_eq, split, List.foldl_append, State.foldl_wakeJob_of_none quiet_before, List.foldl_cons, wakes,
    State.foldl_wakeJob_of_none quiet_after]

/-! Firings served (R80) -/

/-- A firing whose pending latch is taken is lost. -/
theorem State.serveFire_of_held {h : HeldFire} (hp : (s.le l).pend.lookup i = some h) :
    s.serveFire l i = (s.fInc (leB l) LE.LOST_LOST).raiseL l 0x80 255 := by
  unfold State.serveFire
  dsimp only
  rw [hp]

/-- A firing of one descriptor that is at MAXINST starts nothing. -/
theorem State.serveFire_of_full {d : Nat} (hp : (s.le l).pend.lookup i = none) (hd : s.trigDescs l i = [d])
    (full : s.descFull l d = true) : s.serveFire l i = (s.fInc (leB l) LE.LOST_OVERRUN).raiseL l 0x81 255 := by
  unfold State.serveFire
  dsimp only
  rw [hp, hd]
  simp only [State.skipFull, full, if_true, List.length_nil, Nat.zero_le]
  rfl

/-- A firing of one descriptor is held where no slot is free. -/
theorem State.serveFire_of_none {d : Nat} (hp : (s.le l).pend.lookup i = none) (hd : s.trigDescs l i = [d])
    (room : s.descFull l d = false) (none : s.freeSlots l = []) :
    s.serveFire l i = s.setLe l { s.le l with pend := famIns (s.le l).pend i ⟨s.now, [d]⟩ } := by
  unfold State.serveFire
  dsimp only
  rw [hp, hd]
  simp only [State.skipFull, room, Bool.false_eq_true, if_false, none]
  rfl

/-- A firing of one descriptor starts it in the lowest free slot. -/
theorem State.serveFire_of_free {d k j : Nat} {js : List Nat} (hp : (s.le l).pend.lookup i = none) (hd : s.trigDescs l i = [d])
    (room : s.descFull l d = false) (free : s.freeSlots l = j :: js) (hk : (s.le l).newest = some k) :
    s.serveFire l i = s.startJob l j d i s.now (k % 2 ^ 16) k false none := by
  unfold State.serveFire
  dsimp only
  rw [hp, hd]
  simp only [State.skipFull, room, Bool.false_eq_true, if_false, free, List.length_cons, List.length_nil, State.newestVec, hk,
    List.cons_ne_nil, State.startAll]
  exact if_pos (by omega)

/-- An event that the filter of an enabled source passes, with no job waiting, is served (R78, R80). -/
theorem execTriggerFire_serves {i : Fin 64} (hf : i.val ∈ s.firedIn l) (hen : s.fb (leB l) LE.CTRL_EN = true)
    (htr : s.fb (trigB l i.val) LE.TRIGCFG_EN = true) (hit : s.trigHit l i.val (s.eventNo l i.val).1 = true)
    (hw : ∀ n < 256, (s.job l n).st ≠ .waiting) : ∃ es, execTriggerFire l i s = .next ((s.withTaken l i.val es).serveFire l i.val) ∧
      ((s.withTaken l i.val es).le l).pend = (s.le l).pend ∧ ((s.withTaken l i.val es).le l).newest = (s.le l).newest := by
  obtain ⟨es, taken, kept⟩ := s.taken_eq l i.val
  have quiet : (s.taken l i.val).wakeAll l i.val = s.taken l i.val := State.wakeAll_of_none (taken ▸ hw) _
  refine ⟨es, ?_, kept⟩
  rw [execTriggerFire_of_hit hf hen hit, quiet, taken]
  exact congrArg _ (if_pos htr)

/-! What serving a firing leaves of the events that have come -/

theorem State.Lands.fired {t : State} (h : s.Lands t) : t.fired = s.fired := by obtain ⟨_, _, _, _, rfl⟩ := h; rfl

theorem State.jobFault_fired (s : State) (l : Lane) (j : Nat) (x : Job) (code faddr : Nat) :
    (s.jobFault l j x code faddr).fired = s.fired := by
  unfold State.jobFault
  dsimp only
  rw [State.raiseL_fired, State.setJob_fired, (s.landAll_lands l x.fly).fired]

theorem State.startJob_fired (s : State) (l : Lane) (j d src trigT tag vec : Nat) (spawned : Bool) (arg : Option Word) :
    (s.startJob l j d src trigT tag vec spawned arg).fired = s.fired := by
  by_cases low : (s.descWord l d 0).toNat < 0xf6000
  · by_cases h8 : (s.descWord l d 0).toNat % 8 = 0
    · rw [s.startJob_of_good low h8, State.setJob_fired]
    · rw [s.startJob_of_misaligned low h8, State.jobFault_fired]
  · rw [s.startJob_of_high (by omega), State.jobFault_fired]

/-- Serving a firing of one descriptor fires nothing. -/
theorem State.serveFire_fired {d k : Nat} (hp : (s.le l).pend.lookup i = none) (hd : s.trigDescs l i = [d])
    (hk : (s.le l).newest = some k) : (s.serveFire l i).fired = s.fired := by
  cases full : s.descFull l d with
  | true => rw [State.serveFire_of_full hp hd full, State.raiseL_fired, State.fInc_fired]
  | false =>
    cases free : s.freeSlots l with
    | nil => rw [State.serveFire_of_none hp hd full free, State.setLe_fired]
    | cons j js => rw [State.serveFire_of_free hp hd full free hk, State.startJob_fired]

/-! The commands -/

theorem toNat_div_mod_beq (w : Word) (i : Nat) : (w.toNat / 2 ^ i % 2 == 1) = w.getLsbD i := by
  rw [BitVec.getLsbD, Nat.testBit_eq_decide_div_mod_eq]
  rfl

/-- A fault raises 0x082 with INST 255. -/
theorem State.jobFault_event {x : Job} (j code faddr : Nat) (hfly : x.fly = []) (hr : (s.lane l).reset = false) :
    LaneEvent (s.jobFault l j x code faddr) l 0x82 255 := by
  rw [State.jobFault_of_calm _ _ _ _ _ hfly]
  exact ⟨_, State.raise_fault_evq hr _ _ ▸ List.mem_append_right _ List.mem_cons_self, rfl, rfl, rfl⟩

theorem State.jobFault_job {x : Job} (j code faddr : Nat) (hfly : x.fly = []) :
    (s.jobFault l j x code faddr).job l j = x.faulted code faddr := by
  rw [State.jobFault_of_calm _ _ _ _ _ hfly, State.raiseL_job, State.job_setJob_same]

theorem State.trig_firedIn (hr : (s.lane l).reset = false) (i : Nat) : (s.trig l i).firedIn l = s.firedIn l ++ [i] := by
  unfold State.trig
  rw [hr]
  exact famGet_famSet_same ..

theorem State.icEdge_frame (s : State) (l : Lane) (i : Nat) : ∃ x, s.icEdge l i = { s with ics := x } := by
  unfold State.icEdge
  split
  · exact ⟨_, rfl⟩
  · exact ⟨s.ics, rfl⟩

/-- A firing that is skipped or lost is counted and raised (R80). -/
theorem State.fInc_raiseL_spec (s : State) {l : Lane} {b src c : Nat} {f : Fld} (hf : f.lo + f.w ≤ 32)
    (hc : defaultClass (.lane l) src = some c) (hr : (s.lane l).reset = false) :
    let t := (s.fInc b f).raiseL l src 255
    t.jobs = s.jobs ∧ t.fg b f = min (2 ^ f.w - 1) (s.fg b f + 1) ∧
      t.evq = s.evq ++ [s.stamp { coll := .lane l, src := src, res := resLane l }] ∧ t.mem = s.mem ∧ t.sk = s.sk := by
  intro t
  refine ⟨by simp [t], ?_, ?_, by simp [t], by simp [t]⟩
  · rw [State.raiseL_fg, s.fg_fInc_same _ _ hf]
  · rw [State.raiseL_evq _ 255 0 hc (by rw [State.fInc_lane]; exact hr), State.fInc_evq]
    simp [State.stamp]

/-- The doorbell's sources fire, in the order of their bits. -/
theorem State.firedIn_foldl_trig (hr : (s.lane l).reset = false) (v : Word) (bs : List Nat) :
    (bs.foldl (fun s b => if v.getLsbD b then s.trig l (48 + b) else s) s).firedIn l =
      s.firedIn l ++ (bs.filter v.getLsbD).map (48 + ·) := by
  induction bs generalizing s with
  | nil => exact (List.append_nil _).symm
  | cons b bs ih =>
    rw [List.foldl_cons]
    cases hb : v.getLsbD b with
    | false => rw [if_neg (by simp), ih hr, List.filter_cons_of_neg (by simp [hb])]
    | true =>
      rw [if_pos rfl, ih (by rw [State.trig_lane]; exact hr), State.trig_firedIn hr, List.filter_cons_of_pos hb, List.map_cons,
        List.append_assoc]
      rfl

/-- A held firing of one descriptor starts it, once a slot is free (R80). -/
theorem execPendingTriggerStart_of_free {i : Fin 64} {h : HeldFire} {d k j : Nat} {js : List Nat} (hp : (s.le l).pend.lookup i.val = some h)
    (hd : h.descs = [d]) (free : s.freeSlots l = j :: js) (hk : (s.le l).newest = some k) : execPendingTriggerStart l i s =
      .next (State.startJob (s.setLe l { s.le l with pend := famDel (s.le l).pend i.val }) l j d i.val h.t (k % 2 ^ 16) k false none) := by
  unfold execPendingTriggerStart
  rw [hp]
  dsimp only
  rw [hd, free]
  simp only [List.length_cons, List.length_nil, State.newestVec, hk, State.startAll]
  exact if_pos (by omega)

end

/-- Settles O43: a firing is served once its event is taken and no waiting job is woken by it; what serving does depends on the latch,
on MAXINST, on a free slot and on ENTRY. -/
theorem triggersStartJobs : Obligations.TriggersStartJobs := by
  unfold Obligations.TriggersStartJobs
  refine ⟨fun l i r j d k js s hf hen htr hit hw hp hd hk hr => ?_, fun l i r h s hf hen htr hit hw hp hr => ?_, fun l i r s hf off => ?_,
    fun l i j s hf hen htr hit hw hst hwait ht hpc => ?_, fun l i h d j k js s hp hd free hk low h8 => ?_, fun l n s hr => ?_,
    fun l v s hr => ?_⟩
  · have here : i.val ∈ s.firedIn l := by rw [State.firedIn, hf]; exact List.mem_cons_self
    obtain ⟨es, served, pend, newest⟩ := execTriggerFire_serves here hen htr hit hw
    rw [← pend] at hp
    rw [← newest] at hk
    refine ⟨_, served, ?_, State.serveFire_sk .., fun full => ?_, fun room none => ?_, fun room free low h8 => ?_,
      fun room free => ⟨fun high => ?_, fun low h8 => ?_⟩⟩
    · rw [State.serveFire_fired hp hd hk]
      exact State.withTaken_firedIn hf es
    · rw [State.serveFire_of_full hp hd full]
      obtain ⟨jobs, count, raised, mem, -⟩ := (s.withTaken l i.val es).fInc_raiseL_spec (b := leB l) (f := LE.LOST_OVERRUN) (src := 0x81)
        (c := 2) (by decide) (by cases l <;> rfl) hr
      exact ⟨jobs, count, raised, mem⟩
    · rw [State.serveFire_of_none hp hd room none]
      refine ⟨?_, rfl, rfl, rfl, rfl⟩
      rw [State.le_setLe_same]
      exact lookup_famIns_same ..
    · rw [State.serveFire_of_free hp hd room free hk, (s.withTaken l i.val es).startJob_of_good low h8]
      refine ⟨?_, fun l' n hn => State.job_setJob_other _ _ hn, rfl, rfl, rfl⟩
      rw [State.job_setJob_same, ← toNat_div_mod_beq, ← toNat_div_mod_beq]
      rfl
    · rw [State.serveFire_of_free hp hd room free hk, (s.withTaken l i.val es).startJob_of_high high, State.jobFault_job _ _ _ rfl]
      exact ⟨rfl, rfl, State.jobFault_event _ _ _ rfl hr, rfl⟩
    · rw [State.serveFire_of_free hp hd room free hk, (s.withTaken l i.val es).startJob_of_misaligned low h8, State.jobFault_job _ _ _ rfl]
      exact ⟨rfl, rfl, State.jobFault_event _ _ _ rfl hr, Nat.mod_eq_of_lt (low.trans (by decide))⟩
  · have here : i.val ∈ s.firedIn l := by rw [State.firedIn, hf]; exact List.mem_cons_self
    obtain ⟨es, served, pend, -⟩ := execTriggerFire_serves here hen htr hit hw
    rw [← pend] at hp
    exact ⟨_, served.trans (by rw [State.serveFire_of_held hp]), (s.withTaken l i.val es).fInc_raiseL_spec (c := 2) (by decide)
      (by cases l <;> rfl) hr⟩
  · have here : i.val ∈ s.firedIn l := by rw [State.firedIn, hf]; exact List.mem_cons_self
    obtain ⟨es, taken, -⟩ := s.taken_eq l i.val
    by_cases hen : s.fb (leB l) LE.CTRL_EN = true
    · have miss := off.resolve_left (by simp [hen])
      refine ⟨_, (execTriggerFire_eq here).trans (by rw [if_pos hen, taken]; exact congrArg _ (if_neg (ne_true_of_eq_false miss))),
        State.withTaken_firedIn hf es, rfl, rfl, rfl, rfl, rfl⟩
    · exact ⟨_, (execTriggerFire_eq here).trans (congrArg _ (if_neg hen)), State.withTaken_firedIn hf s.les, rfl, rfl, rfl, rfl, rfl⟩
  · obtain ⟨es, taken, -⟩ := s.taken_eq l i.val
    have woken : (s.taken l i.val).wakeAll l i.val = (s.taken l i.val).setJob l j.val { s.job l j.val with st := .running } := by
      rw [taken]
      exact State.wakeAll_of_one j.isLt hw hst hwait ht hpc
    refine ⟨(s.withTaken l i.val es).setJob l j.val { s.job l j.val with st := .running },
      (execTriggerFire_of_hit hf hen hit).trans (by rw [woken, taken, State.setJob_fb, State.withTaken_fb, htr]; rfl),
      State.job_setJob_same .., fun l' n hn => State.job_setJob_other _ _ hn, rfl, rfl, rfl, rfl⟩
  · refine ⟨_, (exec_pendingTriggerStart ..).trans ((execPendingTriggerStart_of_free hp hd free hk).trans
      (congrArg _ (State.startJob_of_good _ low h8))), ?_⟩
    dsimp only
    rw [State.job_setJob_same]
    exact ⟨rfl, rfl, rfl, rfl, rfl, rfl, rfl, rfl, fun l' n hn => State.job_setJob_other _ _ hn, rfl, rfl, rfl, rfl⟩
  · obtain ⟨x, hx⟩ := (s.trig l (32 + n.val)).icEdge_frame l (48 + n.val)
    refine ⟨_, (exec_laneTimerExpiry ..).trans (congrArg Host.Outcome.next hx), State.trig_firedIn hr _, by simp, by simp, by simp,
      by simp, by simp⟩
  · have kept {β : Type} (g : State → β) (hg : ∀ s k, g (s.trig l k) = g s) :
        g ((List.range 12).foldl (fun s b => if v.getLsbD b then s.trig l (48 + b) else s) s) = g s :=
      foldl_frame_mem _ (fun u b _ => by split; exact hg u _; rfl) s
    exact ⟨_, exec_doorbellWrite .., State.firedIn_foldl_trig hr v _, kept State.jobs (fun u k => u.trig_jobs l k),
      kept State.regs (fun u k => u.trig_regs l k), kept State.evq (fun u k => u.trig_evq l k), kept State.mem (fun u k => u.trig_mem l k),
      kept State.sk (fun u k => u.trig_sk l k)⟩

end Sys2Proof.Machine
end

section
/-! PROOF. Block results are exact values rounded once. -/

namespace Sys2Proof.Machine

open Sys2Proof

/-! Fields as two's complement -/

/-- A number of w bits read as two's complement is the bit vector's integer. -/
theorem signed_mod (w n : Nat) (hw : 0 < w) : signed w (n % 2 ^ w) = (BitVec.ofNat w n).toInt := by
  obtain ⟨v, rfl⟩ : ∃ v, w = v + 1 := ⟨w - 1, by omega⟩
  rw [BitVec.toInt_eq_toNat_cond, BitVec.toNat_ofNat]
  unfold signed
  rw [Nat.add_sub_cancel, pow_succ]
  have hn := Nat.mod_lt n (Nat.two_pow_pos v)
  split_ifs with h₁ h₂ h₂
  · omega
  · omega
  · omega
  · push_cast
    ring

theorem Ins.ims_eq (i : Ins) (lo w : Nat) (hw : 0 < w) : i.ims lo w = (BitVec.ofNat w (i.imm / 2 ^ lo)).toInt := signed_mod w _ hw

theorem count8_three (n : Nat) : count8 (n % 2 ^ 3) = if n % 8 = 0 then 8 else n % 8 := by
  rw [count8, show n % 2 ^ 3 % 8 = n % 8 by omega]

/-! Sums and largest elements of eight -/

theorem sum8_eq (f : Nat → Int) : sum8 f = ∑ k ∈ Finset.range 8, f k := by
  simp only [Finset.sum_range_succ, Finset.sum_range_zero]
  rfl

/-- The largest of eight magnitudes, as a fold and as a tree. -/
theorem foldl_max_abs (f : Nat → Int) : (List.range 8).foldl (fun m k => max m |f k|) 0 =
    max (max (max |f 0| |f 1|) (max |f 2| |f 3|)) (max (max |f 4| |f 5|) (max |f 6| |f 7|)) := by
  have unrolled : (List.range 8).foldl (fun m k => max m |f k|) 0 =
    max (max (max (max (max (max (max (max 0 |f 0|) |f 1|) |f 2|) |f 3|) |f 4|) |f 5|) |f 6|) |f 7| := rfl
  rw [unrolled, max_eq_right (abs_nonneg (f 0))]
  simp only [max_assoc]

section

variable {s : State} {l : Lane} {j : Nat} {w : DWord} {c : Instr} {op lo : Nat} {body : Ins → State → Job → Res}

/-- An instruction whose body gives a block of these exact values. -/
theorem goesOn_setBlk {xs : List Ex} (he : exec c s = s.issue l j w op lo body)
    (hb : body (insOf w) s (s.issued l j) = setBlk (insOf w) s (s.issued l j) xs) (hst : (s.job l j).st = .running)
    (hpc : (s.job l j).pc + 8 < 0xf6000) (hl : legalWord w op lo = true) :
    GoesOn c s l j ((s.job l j).putBlk (insOf w).d (roundBlk xs)) :=
  goesOn_of_ok he hst hpc hl (hb.trans (by rw [State.issued_eq hst]; rfl)) rfl

/-- Some element differs, over a list and as a statement. -/
theorem any_ne_eq_decide (n : Nat) (f g : Nat → Int) :
    (List.range n).any (fun k => f k != g k) = decide (∃ k < n, f k ≠ g k) := by
  rw [Bool.eq_iff_iff, List.any_eq_true, decide_eq_true_iff]
  simp only [List.mem_range, bne_iff_ne]

/-- An instruction whose body integrates between these limits. -/
theorem goesOn_of_bintOf {lo' hi' : Nat → Int} (he : exec c s = s.issue l j w op lo body)
    (hb : body (insOf w) s (s.issued l j) = bintOf (insOf w) s (s.issued l j) lo' hi') (hst : (s.job l j).st = .running)
    (hpc : (s.job l j).pc + 8 < 0xf6000) (hl : legalWord w op lo = true) :
    let x := s.job l j
    let i := insOf w
    let n := max (x.blk i.a).n (x.blk i.b).n
    let raw := fun k => (x.blk i.a).val k + (x.blk i.b).val k
    let out := fun k => if hi' k < lo' k then hi' k else max (lo' k) (min (raw k) (hi' k))
    let y := x.putBlk i.d (roundBlk (ratios n (2 ^ 160) out))
    GoesOn c s l j (if i.imm / 8 % 2 = 1 then y.putP (i.imm % 8) (decide (∃ k < n, raw k ≠ out k)) else y) := by
  intro x i n raw out y
  rw [← any_ne_eq_decide]
  refine goesOn_of_ok he hst hpc hl (hb.trans ?_) ?_
  · rw [State.issued_eq hst]
    dsimp only [bintOf]
    rw [Ins.im_zero, show (insOf w).im 3 1 = (insOf w).imm / 8 % 2 from rfl]
    split_ifs <;> rfl
  · split_ifs <;> rfl

end

/-- Settles O48: each instruction's body is a block of exact values, which the step lemma for such bodies rounds once. -/
theorem blockResults : Obligations.BlockResults := by
  unfold Obligations.BlockResults
  intro l j w s hst hpc
  dsimp only
  refine ⟨goesOn_setBlk (exec_badd ..) rfl hst hpc,
    goesOn_setBlk (exec_bsub ..) rfl hst hpc,
    goesOn_setBlk (exec_bmul ..) rfl hst hpc,
    goesOn_setBlk (exec_bmac ..) rfl hst hpc,
    goesOn_setBlk (exec_bmsu ..) rfl hst hpc,
    goesOn_setBlk (exec_bdot ..) (by rw [← sum8_eq]; rfl) hst hpc,
    goesOn_setBlk (exec_bsum ..) (by rw [← sum8_eq]; rfl) hst hpc,
    goesOn_setBlk (exec_bmaxr ..) (by rw [← foldl_max_abs]; rfl) hst hpc,
    goesOn_setBlk (exec_bneg ..) rfl hst hpc,
    goesOn_setBlk (exec_babs ..) rfl hst hpc,
    goesOn_setBlk (exec_bmin ..) rfl hst hpc,
    goesOn_setBlk (exec_bmax ..) rfl hst hpc,
    goesOn_setBlk (exec_bclamp ..) rfl hst hpc,
    goesOn_setBlk (exec_blerp ..) rfl hst hpc,
    goesOn_setBlk (exec_brcp ..) rfl hst hpc,
    ?brsq,
    goesOn_setBlk (exec_bnorm ..) (by simp only [← sum8_eq]; rfl) hst hpc,
    goesOn_setBlk (exec_bexpS ..) ?bexpS hst hpc,
    goesOn_setBlk (exec_bperm ..) rfl hst hpc,
    goesOn_setBlk (exec_bsplat ..) ?bsplat hst hpc,
    goesOn_setBlk (exec_bpick ..) ?bpick hst hpc,
    goesOn_setBlk (exec_bins ..) ?bins hst hpc,
    goesOn_setBlk (exec_bsetc ..) ?bsetc hst hpc,
    goesOn_setBlk (exec_bsel ..) ?bsel hst hpc,
    goesOn_setBlk (exec_bclarke ..) rfl hst hpc,
    goesOn_setBlk (exec_bclarke2 ..) rfl hst hpc,
    goesOn_setBlk (exec_bpark ..) rfl hst hpc,
    goesOn_setBlk (exec_bipark ..) rfl hst hpc,
    ?bsvm, ?duties,
    goesOn_setBlk (exec_bsincos ..) rfl hst hpc,
    goesOn_setBlk (exec_batan2 ..) rfl hst hpc,
    ?exact, ?bint,
    goesOn_setBlk (exec_bfltA ..) ?bfltA hst hpc,
    goesOn_setBlk (exec_bconst ..) ?bconst hst hpc⟩
  case brsq =>
    intro hl
    refine goesOn_of_ok (exec_brsq ..) hst hpc hl ?_ rfl
    rw [State.issued_eq hst]
    dsimp only [setBlk, Job.putBlk]
    rw [Bool.or_right_comm]
    rfl
  case bexpS => simp only [Ins.ims_eq _ _ _ (by decide : 0 < 8), pow_zero, Nat.div_one]; rfl
  case bsplat => simp only [Ins.im_zero, show (insOf w).im 3 3 = (insOf w).imm / 8 % 2 ^ 3 from rfl, count8_three]; rfl
  case bpick => simp only [Ins.im_zero]; rfl
  case bins => simp only [Ins.im_zero]; rfl
  case bsetc => simp only [Ins.im_zero]; rw [count8_three]; rfl
  case bsel =>
    dsimp only
    rw [show (s.issued l j).pr (insOf w).c = (s.job l j).pr (insOf w).c from rfl]
    split_ifs <;> rfl
  case bfltA => simp only [Ins.ims_eq _ _ _ (by decide : 0 < 8)]; rfl
  case bconst =>
    simp only [Ins.ims_eq _ _ _ (by decide : 0 < 8), Ins.ims_eq _ _ _ (by decide : 0 < 24), pow_zero, Nat.div_one]
    rfl
  case bsvm => exact fun hl => goesOn_of_ok (exec_bsvm ..) hst hpc hl (by rw [State.issued_eq hst]; rfl) rfl
  case duties => exact fun hb => if_pos hb
  case exact =>
    refine ⟨rfl, ?_, fun v => ?_⟩
    · simp [cosSinT]
    · unfold cosSinT
      rw [Int.add_emod_right]
  case bint =>
    rintro m hi lo (⟨rfl, hl, rfl, rfl⟩ | ⟨rfl, hl, rfl, rfl⟩)
    · exact goesOn_of_bintOf (exec_bint ..) rfl hst hpc hl
    · exact goesOn_of_bintOf (exec_bintLu ..) rfl hst hpc hl

end Sys2Proof.Machine
end

section
/-! SUPPORT. Accesses of a job to local memory that meet no exception, and the stores of consecutive bytes. -/

namespace Sys2Proof.Machine

open Sys2Proof

/-! Access checks -/

section

variable {s : State} {l : Lane} {x : Job} {ofs n align : Nat}

/-- A load within local memory, of a vector the ring still holds, meets nothing (R105). -/
theorem State.lmCheck_load (hbad : (s.le l).bad = []) (hend : ofs + n ≤ 0x100000) (hvec : ofs + n ≤ 0xfc000 ∨ s.vecGone l x = false)
    (halign : ofs % align = 0) : s.lmCheck l x false ofs n align = none := by
  have clean : s.lmBad l x ofs n = false := by rw [State.lmBad, hbad]; rfl
  have there : (decide (0xfc000 < ofs + n) && s.vecGone l x) = false := by
    rcases hvec with h | h
    · rw [decide_eq_false (by omega), Bool.false_and]
    · rw [h, Bool.and_false]
  simp [State.lmCheck, clean, halign, there, Nat.not_lt.mpr hend]

/-- A store where jobs may write meets nothing (R105). -/
theorem State.lmCheck_store (hend : ofs + n ≤ 0xf6000) (halign : ofs % align = 0) : s.lmCheck l x true ofs n align = none := by
  have inside : ofs + n ≤ 0x100000 := by omega
  simp [State.lmCheck, halign, Nat.not_lt.mpr hend, Nat.not_lt.mpr inside]

end

/-- The pieces of an access lie within it. -/
theorem mem_pieces {f ofs n : Nat} {p : Nat × Nat} (h : p ∈ pieces f ofs n) : ofs ≤ p.1 ∧ p.1 + p.2 ≤ ofs + n := by
  induction f generalizing ofs n with
  | zero => cases h
  | succ f ih =>
    rw [pieces] at h
    split_ifs at h with none whole
    · cases h
    · obtain rfl := List.mem_singleton.mp h
      exact ⟨le_rfl, le_rfl⟩
    · rcases List.mem_cons.mp h with rfl | h
      · exact ⟨le_rfl, by dsimp only; omega⟩
      · have := ih h
        omega

section

variable {s : State} {l : Lane} {x : Job} {ofs n align : Nat}

/-- Pieces of an aligned access are aligned as the check asks. -/
theorem piece_aligned (halign : ofs % align = 0) (p : Nat × Nat) : p.1 % (if p.1 = ofs then align else 1) = 0 := by
  split_ifs with h
  · rw [h, halign]
  · exact Nat.mod_one _

theorem State.lmCheckAll_load (hbad : (s.le l).bad = []) (hend : ofs + n ≤ 0x100000)
    (hvec : ofs + n ≤ 0xfc000 ∨ s.vecGone l x = false) (halign : ofs % align = 0) : s.lmCheckAll l x false ofs n align = none :=
  List.findSome?_eq_none_iff.mpr fun p hp => by
    have within := mem_pieces hp
    exact State.lmCheck_load hbad (by omega) (hvec.imp_left fun h => by omega) (piece_aligned halign p)

theorem State.lmCheckAll_store (hend : ofs + n ≤ 0xf6000) (halign : ofs % align = 0) : s.lmCheckAll l x true ofs n align = none :=
  List.findSome?_eq_none_iff.mpr fun p hp => by
    have within := mem_pieces hp
    exact State.lmCheck_store (by omega) (piece_aligned halign p)

end

/-! Stores of consecutive bytes -/

/-- The store of bytes k to k + n - 1 of a list covers those bytes, and no others. -/
theorem over_piece (ofs : Nat) (bs : List Byte) (b : Nat) (v : Byte) {k n : Nat} (hk : k + n ≤ bs.length) :
    (Fly.store (ofs + k) ((bs.drop (ofs + k - ofs)).take n)).over b v =
      if ofs + k ≤ b ∧ b < ofs + k + n then bs.getD (b - ofs) 0 else v := by
  rw [Fly.over_store, Nat.add_sub_cancel_left, List.length_take, List.length_drop, min_eq_left (by omega)]
  split_ifs with h
  · rw [List.getD_eq_getElem?_getD, List.getElem?_take_of_lt (by omega), List.getElem?_drop, ← List.getD_eq_getElem?_getD,
      show k + (b - (ofs + k)) = b - ofs by omega]
  · rfl

/-- So do the stores of its pieces. -/
theorem over_pieces (ofs : Nat) (bs : List Byte) (b : Nat) (v : Byte) {f k n : Nat} (hk : k + n ≤ bs.length)
    (hf : (ofs + k) % 32 + n ≤ 32 * f) :
    ((pieces f (ofs + k) n).map fun p => Fly.store p.1 ((bs.drop (p.1 - ofs)).take p.2)).foldl (Fly.over b) v =
      if ofs + k ≤ b ∧ b < ofs + k + n then bs.getD (b - ofs) 0 else v := by
  induction f generalizing k n v with
  | zero => rw [if_neg (by omega)]; rfl
  | succ f ih =>
    rw [pieces]
    by_cases none : n = 0
    · rw [if_pos none, if_neg (by omega)]; rfl
    by_cases whole : n ≤ 32 - (ofs + k) % 32
    · rw [if_neg none, if_pos whole]
      exact over_piece ofs bs b v hk
    · rw [if_neg none, if_neg whole, List.map_cons, List.foldl_cons, over_piece ofs bs b v (by omega), Nat.add_assoc ofs k,
        ih _ (by omega) (by omega), ← ite_or]
      exact if_congr (by omega) rfl rfl

/-- A job sees its own stores of consecutive bytes at once (R91). -/
theorem State.jobByte_append_flyStores (s : State) (l : Lane) (x : Job) {ofs : Nat} {bs : List Byte} (h : ofs % 32 + bs.length ≤ 128)
    (b : Nat) : s.jobByte l { x with fly := x.fly ++ flyStores ofs bs } b =
      if ofs ≤ b ∧ b < ofs + bs.length then bs.getD (b - ofs) 0 else s.jobByte l x b := by
  rw [State.jobByte_eq, State.jobByte_eq, List.foldl_append]
  exact over_pieces ofs bs b _ (k := 0) (Nat.zero_add _).le h

/-- Bytes of one 32-byte block are one store. -/
theorem flyStores_single {ofs : Nat} {bs : List Byte} (hne : bs.length ≠ 0) (h : ofs % 32 + bs.length ≤ 32) :
    flyStores ofs bs = [.store ofs bs] := by
  rw [flyStores, pieces, if_neg hne, if_pos (by omega), List.map_singleton, Nat.sub_self, List.drop_zero, List.take_length]

end Sys2Proof.Machine
end

section
/-! PROOF. Loads, stores, conversions, outputs and lookups of a job. -/

namespace Sys2Proof.Machine

open Sys2Proof

/-! Numbers -/

theorem Blk.length_bytes (b : Blk) : b.bytes.length = 32 := by simp [Blk.bytes, List.length_flatMap]

theorem signed_eq_toInt {w n : Nat} (hw : 0 < w) (h : n < 2 ^ w) : signed w n = (BitVec.ofNat w n).toInt := by
  rw [← signed_mod w n hw, Nat.mod_eq_of_lt h]

theorem clampI_eq_max_min {lo hi : Int} (h : lo ≤ hi) (x : Int) : clampI lo hi x = max lo (min hi x) := by
  unfold clampI
  split_ifs <;> omega

/-- The integer of w bits that an element is at the binary point q, clamped to the signed range (R120, R124). -/
def Blk.fixed (b : Blk) (q : Int) (w e : Nat) : Int :=
  max (-(2 ^ (w - 1))) (min (2 ^ (w - 1) - 1) (roundDiv (b.val e * 2 ^ (q + 128).toNat) (2 ^ 288)))

theorem fixOf_val (b : Blk) (q : Int) {w : Nat} (e : Nat) :
    fixOf (b.val e) q w = (b.fixed q w e, roundDiv (b.val e * 2 ^ (q + 128).toNat) (2 ^ 288) != b.fixed q w e) := by
  have positive : (0 : Int) < 2 ^ (w - 1) := by positivity
  dsimp only [fixOf]
  rw [clampI_eq_max_min (by omega)]
  rfl

/-- A number a job reads has as many bits as it reads. -/
theorem State.jobRead_lt (s : State) (l : Lane) (x : Job) (ofs n : Nat) : s.jobRead l x ofs n < 256 ^ n := by
  have := leNat_lt ((List.range n).map fun k => s.jobByte l x (ofs + k))
  rwa [List.length_map, List.length_range] at this

theorem foldl_add_range (n : Nat) (f : Nat → Nat) : (List.range n).foldl (fun acc k => acc + f k) 0 = ∑ k ∈ Finset.range n, f k := by
  induction n with
  | zero => rfl
  | succ n ih => rw [List.range_succ, List.foldl_append, ih, Finset.sum_range_succ]; rfl

section

variable {s : State} {l : Lane} {j : Nat} {w : DWord} {c : Instr} {op lo : Nat} {body : Ins → State → Job → Res}

/-- An instruction that stores consecutive bytes: the job sees them at once (R91). -/
theorem leaves_of_stores {y : Job} {bs : List Byte} {ofs : Nat} (he : exec c s = s.issue l j w op lo body)
    (hst : (s.job l j).st = .running) (hl : legalWord w op lo = true)
    (hb : body (insOf w) s (s.issued l j) = .ok s { y with fly := y.fly ++ flyStores ofs bs, pc := (s.job l j).pc + 8 })
    (hpc : (s.job l j).pc + 8 < 0xf6000) (hfly : y.fly = (s.job l j).fly) (hlen : ofs % 32 + bs.length ≤ 128) :
    Leaves c s l j { y with fly := y.fly ++ flyStores ofs bs, pc := (s.job l j).pc + 8 }
      (fun b => if ofs ≤ b ∧ b < ofs + bs.length then bs.getD (b - ofs) 0 else s.jobByte l (s.job l j) b) [] :=
  leaves_of_job he hst hl hb (fun _ => hpc) fun b _ => by
    rw [← State.jobByte_congr (y := y) l rfl hfly]
    exact State.jobByte_append_flyStores s l { y with pc := (s.job l j).pc + 8 } hlen b

/-- The bytes of n numbers of w bits. -/
theorem length_flatMap_natLe (n m : Nat) (f : Nat → Nat) : ((List.range n).flatMap fun e => natLe m (f e)).length = n * m := by
  simp [List.length_flatMap]

theorem bfixOf_eq {i : Ins} {wd : Nat} {y : Job} (hend : i.ea y + (y.blk i.b).n * (wd / 8) ≤ 0xf6000)
    (halign : i.ea y % (wd / 8) = 0) :
    let b := y.blk i.b
    let q := (BitVec.ofNat 8 (i.imm / 2 ^ 20)).toInt
    bfixOf l i wd s y = .ok s { y with
      ovf := y.ovf || (List.range b.n).any fun e => roundDiv (b.val e * 2 ^ (q + 128).toNat) (2 ^ 288) != b.fixed q wd e
      fly := y.fly ++ flyStores (i.ea y) ((List.range b.n).flatMap fun e => natLe (wd / 8) (b.fixed q wd e % 2 ^ wd).toNat) } := by
  intro b q
  have check := State.lmCheckAll_store (s := s) (l := l) (x := y) hend halign
  rw [← length_flatMap_natLe (f := fun e => unsigned wd (b.fixed q wd e))] at check
  unfold bfixOf
  simp only [fixOf_val, List.flatMap_map, List.any_map, Function.comp_def, Ins.ims_eq i 20 8 (by decide)]
  rw [check]
  rfl

theorem bfltOf_eq {i : Ins} {wd : Nat} {y : Job} (hw : 0 < wd) (hbytes : 8 * (wd / 8) = wd) (hbad : (s.le l).bad = []) :
    let n := if i.imm / 2 ^ 28 % 8 = 0 then 8 else i.imm / 2 ^ 28 % 8
    let q := (BitVec.ofNat 8 (i.imm / 2 ^ 20)).toInt
    i.ea y + n * (wd / 8) ≤ 0xfc000 → i.ea y % (wd / 8) = 0 →
    bfltOf l i wd s y = setBlk i s y (ratios n (2 ^ 160) fun e =>
      (BitVec.ofNat wd (s.jobRead l y (i.ea y + e * (wd / 8)) (wd / 8))).toInt * 2 ^ (160 - q).toNat) := by
  intro n q hend halign
  have count : count8 (i.im 28 3) = n := count8_three _
  unfold bfltOf
  dsimp only
  rw [count, State.lmCheckAll_load (x := y) hbad (by omega) (.inl hend) halign]
  have range (e : Nat) : s.jobRead l y (i.ea y + e * (wd / 8)) (wd / 8) < 2 ^ wd := by
    have := s.jobRead_lt l y (i.ea y + e * (wd / 8)) (wd / 8)
    rwa [show 256 = 2 ^ 8 from rfl, ← pow_mul, hbytes] at this
  simp only [signed_eq_toInt hw (range _), Ins.ims_eq i 20 8 (by decide)]
  rfl

/-- The elements that IN reads, and their provenance, two bits each (R122, R123). -/
theorem exec_in_issues (l : Lane) (j : Fin 256) (w : DWord) (s : State) (hbad : (s.le l).bad = []) :
    ∃ body, exec (.in_ l j w) s = s.issue l j.val w 0x18 0 body ∧ ∀ i y,
    let n := if i.imm / 2 ^ 28 % 8 = 0 then 8 else i.imm / 2 ^ 28 % 8
    let e := fun k => s.jobRead l y (i.ea y + 8 * k) 8
    i.ea y + 8 * n ≤ 0x100000 → i.ea y % 8 = 0 → s.vecGone l y = false →
    body i s y = setBlk i s (y.putA i.c (BitVec.ofNat 32 (∑ k ∈ Finset.range n, e k / 2 ^ 40 % 4 * 4 ^ k)))
      (ratios n (2 ^ 160) fun k => if e k / 2 ^ 40 % 4 = 3 then 0
        else (BitVec.ofNat 32 (e k)).toInt * 2 ^ (160 - (BitVec.ofNat 8 (e k / 2 ^ 32)).toInt).toNat) := by
  refine ⟨_, exec_in_ .., ?_⟩
  intro i y n e hend halign hvec
  dsimp only
  have count : count8 (i.im 28 3) = n := count8_three _
  have elements : ((List.range n).map e).map (fun e => Ex.ofVal (sampleVal160 e)) = ratios n (2 ^ 160) fun k =>
      if e k / 2 ^ 40 % 4 = 3 then 0
      else (BitVec.ofNat 32 (e k)).toInt * 2 ^ (160 - (BitVec.ofNat 8 (e k / 2 ^ 32)).toInt).toNat := by
    simp only [List.map_map, sampleVal160, signed_mod _ _ (by decide : 0 < 32), signed_mod _ _ (by decide : 0 < 8)]
    rfl
  have provenance : (List.range n).foldl (fun acc k => acc + ((List.range n).map e).getD k 0 / 2 ^ 40 % 4 * 4 ^ k) 0 =
      ∑ k ∈ Finset.range n, e k / 2 ^ 40 % 4 * 4 ^ k := by
    rw [foldl_add_range]
    refine Finset.sum_congr rfl fun k hk => ?_
    rw [List.getD_eq_getElem _ _ (by simpa using hk), List.getElem_map, List.getElem_range]
  rw [count, State.lmCheckAll_load hbad hend (.inr hvec) halign]
  dsimp only
  rw [elements, provenance]

/-- OUT's record, with its TAG, LATENCY and SLOT (R124), is taken, or the job waits with it. -/
theorem exec_out_issues (l : Lane) (j : Fin 256) (w : DWord) (s : State) :
    ∃ body, exec (.out l j w) s = s.issue l j.val w 0x19 0 body ∧ ∀ i y, i.imm / 2 ^ 8 % 2 ^ 8 < kindRange (i.imm % 16) →
    let q := (BitVec.ofNat 8 (i.imm / 2 ^ 16)).toInt
    let v := fun e => roundDiv ((y.blk i.a).val e * 2 ^ (q + 128).toNat) (2 ^ 288)
    let f := fun e => max (-(2 ^ 31)) (min (2 ^ 31 - 1) (v e))
    let r : OutRec := {
      kind := i.imm % 16, index := i.imm / 2 ^ 8 % 2 ^ 8, tag := y.tag, word1 := min ((s.now - y.trigT) * 4 / 5) 65535 + j.val * 2 ^ 16
      pay := [BitVec.ofInt 32 (f 0), BitVec.ofInt 32 (f 1), BitVec.ofInt 32 (f 2), BitVec.ofInt 32 (f 3), y.ar i.b, y.ar i.c] }
    let o := y.ovf || v 0 != f 0 || v 1 != f 1 || v 2 != f 2 || v 3 != f 3
    body i s y = if s.busRoom l r then .ok (s.busPut l r) { y with ovf := o, fly := y.fly ++ [.mirror r] }
      else .ok s { y with ovf := o, st := .stallOut, out := some r } := by
  refine ⟨_, exec_out .., ?_⟩
  intro i y hk q v f r o
  dsimp only
  have four (g : Nat → Int × Bool) : (List.range 4).map g = [g 0, g 1, g 2, g 3] := rfl
  rw [show i.im 8 8 = i.imm / 2 ^ 8 % 2 ^ 8 from rfl, show i.im 0 4 = i.imm % 16 from i.im_zero 4, if_neg (by omega)]
  simp only [four, fixOf_val, Ins.ims_eq i 16 8 (by decide), List.any_cons, List.any_nil, Bool.or_false, ← Bool.or_assoc]
  rfl

/-- A lookup reads its header first. -/
theorem tluOf_eq {i : Ins} {y : Job} {p : Int} (hbad : (s.le l).bad = []) :
    let ha := (((y.ar i.a).toNat + (BitVec.ofNat 16 i.imm).toInt) % 2 ^ 32).toNat
    ha + 32 ≤ 0xfc000 → ha % 32 = 0 →
    tluOf l i s y (.inr p) = (headerOf (s.jobRead l y ha 32)).elim (.exc 8) fun h => tluAt l i s y ha h p := by
  intro ha hend halign
  have hea : (((y.ar i.a).toNat + i.ims 0 16) % 2 ^ 32).toNat = ha := by
    rw [Ins.ims_eq i 0 16 (by decide), pow_zero, Nat.div_one]
  unfold tluOf
  dsimp only
  rw [hea, State.lmCheck_load hbad (by omega) (.inl hend) halign]
  cases headerOf (s.jobRead l y ha 32) <;> rfl

/-- What a header that lies in the ranges of R75 says. -/
theorem headerOf_ranges {b : Nat} {h : Header} (hb : headerOf b = some h) :
    2 ≤ h.n ∧ h.w1 < 2 ^ 32 ∧ (h.kind = 0 → 1 ≤ h.w1) ∧ (h.kind = 1 → 1 ≤ h.step) := by
  unfold headerOf at hb
  dsimp only at hb
  obtain ⟨ranges, hb⟩ := Option.ite_none_right_eq_some.mp hb
  obtain rfl := Option.some.inj hb
  obtain ⟨-, -, hn, -, harg, -, -, -⟩ := ranges
  dsimp only
  refine ⟨?_, Nat.mod_lt _ (by decide), fun hk => ?_, fun hk => ?_⟩
  · split_ifs at hn <;> omega
  · rwa [if_pos hk] at harg
  · rwa [if_neg (by omega)] at harg

/-- The place of a position in a table of one period (R75). -/
theorem Header.place_periodic {h : Header} (p : Int) (hk : h.kind = 0) :
    let u := (p % h.w1).toNat * h.n
    h.place p = (u / h.w1, (u / h.w1 + 1) % h.n, u % h.w1, h.w1) := if_pos hk

/-- The place of a position in a table with ends (R75). -/
theorem Header.place_clamped {h : Header} (p : Int) (hk : h.kind ≠ 0) (hw : h.w1 < 2 ^ 32) :
    let z := (max 0 (min (((h.n - 1) * h.step : Nat) : Int) (p - (BitVec.ofNat 32 h.w1).toInt))).toNat
    h.place p = (z / h.step, min (z / h.step + 1) (h.n - 1), z % h.step, h.step) := by
  dsimp only [Header.place]
  rw [if_neg hk, clampI_eq_max_min (Int.natCast_nonneg _), signed_eq_toInt (by decide) hw]

/-- An entry of the table before the one of the number n lies within the table. -/
theorem lmCheck_entry {y : Job} {ha n k : Nat} (hbad : (s.le l).bad = []) (halign : ha % 32 = 0) (htab : ha + 32 + 4 * n ≤ 0xfc000)
    (hk : k < n) : s.lmCheck l y false (ha + 32 + 4 * k) 4 4 = none :=
  State.lmCheck_load hbad (by omega) (.inl (by omega)) (by omega)

/-- A lookup between two entries of the table (R75). -/
theorem tluAt_eq {i : Ins} {y : Job} {ha a b fn fd : Nat} {h : Header} {p : Int} (hbad : (s.le l).bad = []) (halign : ha % 32 = 0)
    (htab : ha + 32 + 4 * h.n ≤ 0xfc000) (hp : h.place p = (a, b, fn, fd)) (hlt : a < h.n ∧ b < h.n) :
    let v := fun e => (BitVec.ofNat 24 (s.jobRead l y (ha + 32 + 4 * e) 4)).toInt * 2 ^ (h.texp + 137).toNat
    tluAt l i s y ha h p = setBlk i s y [.frac (v a * fd + fn * (v b - v a)) (fd * 2 ^ 160)] := by
  intro v
  unfold tluAt
  simp only [hp, lmCheck_entry hbad halign htab hlt.1, lmCheck_entry hbad halign htab hlt.2, Option.orElse_none,
    signed_mod 24 _ (by decide)]
  rfl

/-- TLU's position is a doubleword in memory (R117). -/
theorem exec_tlu_issues (l : Lane) (j : Fin 256) (w : DWord) (s : State) (hbad : (s.le l).bad = []) :
    ∃ body, exec (.tlu l j w) s = s.issue l j.val w 0x48 0 body ∧ ∀ i y,
    let pa := (((y.ar i.b).toNat + (BitVec.ofNat 16 (i.imm / 2 ^ 16)).toInt) % 2 ^ 32).toNat
    pa + 8 ≤ 0xfc000 → pa % 8 = 0 → body i s y = tluOf l i s y (.inr (BitVec.ofNat 64 (s.jobRead l y pa 8)).toInt) := by
  refine ⟨_, exec_tlu .., ?_⟩
  intro i y pa hend halign
  dsimp only
  have hpa : (((y.ar i.b).toNat + i.ims 16 16) % 2 ^ 32).toNat = pa := by rw [Ins.ims_eq i 16 16 (by decide)]
  rw [hpa, State.lmCheck_load hbad (by omega) (.inl hend) halign, signed_eq_toInt (by decide) (s.jobRead_lt l y pa 8)]

/-- A lookup whose header lies in the ranges of R75 interpolates; any other ends the job as TABLE (R117). -/
theorem lookup_spec {p : Int} (he : exec c s = s.issue l j w op lo body) (hst : (s.job l j).st = .running)
    (hpc : (s.job l j).pc + 8 < 0xf6000) (hl : legalWord w op lo = true) (hbad : (s.le l).bad = [])
    (hb : body (insOf w) s (s.issued l j) = tluOf l (insOf w) s (s.issued l j) (.inr p)) :
    let x := s.job l j
    let i := insOf w
    let ha := (((x.ar i.a).toNat + (BitVec.ofNat 16 i.imm).toInt) % 2 ^ 32).toNat
    ha + 32 ≤ 0xfc000 → ha % 32 = 0 →
    (headerOf (s.jobRead l x ha 32) = none → x.fly = [] → (s.lane l).reset = false → Leaves c s l j
      { x with st := .faulted, code := 8, faddr := x.pc, out := none } (s.jobByte l x)
      [s.stamp { coll := .lane l, src := 0x82, res := resLane l }]) ∧
    (∀ h, headerOf (s.jobRead l x ha 32) = some h → ha + 32 + 4 * h.n ≤ 0xfc000 →
      let v := fun e => (BitVec.ofNat 24 (s.jobRead l x (ha + 32 + 4 * e) 4)).toInt * 2 ^ (h.texp + 137).toNat
      let u := (p % h.w1).toNat * h.n
      let z := (max 0 (min (((h.n - 1) * h.step : Nat) : Int) (p - (BitVec.ofNat 32 h.w1).toInt))).toNat
      (h.kind = 0 → GoesOn c s l j (x.putBlk i.d (roundBlk [.frac
        (v (u / h.w1) * h.w1 + (u % h.w1 : Nat) * (v ((u / h.w1 + 1) % h.n) - v (u / h.w1))) (h.w1 * 2 ^ 160)]))) ∧
      (h.kind = 1 → GoesOn c s l j (x.putBlk i.d (roundBlk [.frac
        (v (z / h.step) * h.step + (z % h.step : Nat) * (v (min (z / h.step + 1) (h.n - 1)) - v (z / h.step)))
        (h.step * 2 ^ 160)])))) := by
  intro x i ha hend halign
  have headed : body i s (s.issued l j) = (headerOf (s.jobRead l x ha 32)).elim (.exc 8) fun h => tluAt l i s (s.issued l j) ha h p :=
    hb.trans (tluOf_eq (y := s.issued l j) hbad hend halign)
  refine ⟨fun none hfly hr => ?_, fun h hh htab => ?_⟩
  · rw [none] at headed
    exact leaves_of_exc he hst hl headed (by decide) hfly hr
  · rw [hh] at headed
    obtain ⟨hn, hw, hperiod, hstep⟩ := headerOf_ranges hh
    intro v u z
    refine ⟨fun hk => ?_, fun hk => ?_⟩
    · have turn : (p % h.w1).toNat < h.w1 := by
        have := Int.emod_lt_of_pos p (show (0 : Int) < h.w1 by have := hperiod hk; omega)
        omega
      have first : u / h.w1 < h.n := Nat.div_lt_of_lt_mul (Nat.mul_lt_mul_of_pos_right turn (by omega))
      exact goesOn_setBlk he (headed.trans (tluAt_eq (y := s.issued l j) hbad halign htab (Header.place_periodic p hk)
        ⟨first, Nat.mod_lt _ (by omega)⟩)) hst hpc hl
    · have top : z ≤ (h.n - 1) * h.step := by omega
      have first : z / h.step ≤ h.n - 1 := Nat.div_le_of_le_mul (by rwa [Nat.mul_comm])
      exact goesOn_setBlk he (headed.trans (tluAt_eq (y := s.issued l j) hbad halign htab (Header.place_clamped p (by omega) hw)
        ⟨by omega, by omega⟩)) hst hpc hl

end

/-- Settles O49: each body meets no exception under the stated bounds, and the step lemmas for bodies that set registers, store, or
fault say what it leaves. -/
theorem memoryAndOutput : Obligations.MemoryAndOutput := by
  unfold Obligations.MemoryAndOutput
  intro l j w s hst hpc hbad x i ea stores
  refine ⟨fun hl hend halign => ?ldb, fun hl hend halign hvec => ?lda, fun hl hend halign => ?stb, fun hl hend halign => ?sta, ?bfix, ?bflt,
    fun hl => ?input, fun hl hk => ?out, ?tlu⟩
  case ldb =>
    refine goesOn_setBlk (exec_ldb ..) ?_ hst hpc hl
    rw [show (insOf w).ea (s.issued l j) = ea from rfl, State.lmCheck_load hbad (by omega) (.inl hend) halign]
    rfl
  case lda =>
    refine goesOn_of_ok (exec_lda ..) hst hpc hl ?_ rfl
    rw [show (insOf w).ea (s.issued l j) = ea from rfl, State.lmCheck_load (x := s.issued l j) hbad hend (.inr hvec) halign,
      State.issued_eq hst]
    rfl
  case stb =>
    have hlen : (x.blk i.b).bytes.length = 32 := Blk.length_bytes _
    refine leaves_of_stores (exec_stb ..) hst hl ?_ hpc rfl (by omega)
    rw [show (insOf w).ea (s.issued l j) = ea from rfl, State.lmCheck_store hend halign, flyStores_single (by omega) (by omega)]
    rfl
  case sta =>
    have hlen : (natLe 4 (x.ar i.b).toNat).length = 4 := length_natLe ..
    refine leaves_of_stores (exec_sta ..) hst hl ?_ hpc rfl (by omega)
    rw [show (insOf w).ea (s.issued l j) = ea from rfl, State.lmCheck_store hend halign, flyStores_single (by omega) (by omega)]
    rfl
  case bfix =>
    intro k wd fl hk hl hend halign hn
    simp only [List.mem_cons, List.not_mem_nil, or_false, Prod.mk.injEq] at hk
    rcases hk with ⟨rfl, rfl, rfl⟩ | ⟨rfl, rfl, rfl⟩
    · exact leaves_of_stores (exec_bfixW ..) hst hl (bfixOf_eq (y := s.issued l j) hend halign) hpc rfl
        (by rw [length_flatMap_natLe]; omega)
    · exact leaves_of_stores (exec_bfixD ..) hst hl (bfixOf_eq (y := s.issued l j) hend halign) hpc rfl
        (by rw [length_flatMap_natLe]; omega)
  case bflt =>
    intro k wd fl hk hl n hend halign
    simp only [List.mem_cons, List.not_mem_nil, or_false, Prod.mk.injEq] at hk
    rcases hk with ⟨rfl, rfl, rfl⟩ | ⟨rfl, rfl, rfl⟩
    · exact goesOn_setBlk (exec_bfltW ..) (bfltOf_eq (y := s.issued l j) (by decide) (by decide) hbad hend halign) hst hpc hl
    · exact goesOn_setBlk (exec_bfltD ..) (bfltOf_eq (y := s.issued l j) (by decide) (by decide) hbad hend halign) hst hpc hl
  case input =>
    intro n hend halign hvec e
    obtain ⟨body, he, hb⟩ := exec_in_issues l j w s hbad
    exact goesOn_of_ok he hst hpc hl ((hb i (s.issued l j) hend halign hvec).trans (by rw [State.issued_eq hst]; rfl)) rfl
  case out =>
    intro q v f r o
    obtain ⟨body, he, hb⟩ := exec_out_issues l j w s
    have hb : body i s (s.issued l j) = if s.busRoom l r then
        .ok (s.busPut l r) { s.issued l j with ovf := o, fly := x.fly ++ [.mirror r] }
      else .ok s { s.issued l j with ovf := o, st := .stallOut, out := some r } := hb i (s.issued l j) hk
    refine ⟨fun room => ?_, fun full => ?_⟩
    · rw [if_pos room] at hb
      obtain ⟨lands, ⟨fs, hfs⟩, -, -⟩ := (s.busPut l r).drift_spec l { s.issued l j with ovf := o, fly := x.fly ++ [.mirror r] }
      refine ⟨_, he.trans (State.issue_of_ok hst hl hb fun _ => hpc), ?_⟩
      generalize (s.busPut l r).drift l { s.issued l j with ovf := o, fly := x.fly ++ [.mirror r] } = d at lands hfs
      obtain ⟨t, z⟩ := d
      dsimp only at lands hfs ⊢
      obtain ⟨hdrv, hsk⟩ := s.busPut_bus l r
      have bus (l' : Lane) : (t.setJob l j.val z).bus l' = (s.busPut l r).bus l' := by
        rw [State.bus, State.setJob_buses, lands.buses]; rfl
      have other : SameJobsBut s (t.setJob l j.val z) l j.val := SameJobsBut.setJob (SameJobsBut.of_jobs lands.jobs l j.val) _
      rw [State.job_setJob_same, bus, hdrv, hsk, hfs]
      refine ⟨hst, rfl, rfl, rfl, rfl, rfl, ?_, ?_, fun l' hl' => ?_, hfs ▸ other, lands.regs, lands.sk, lands.evq⟩
      · by_cases h : r.kind = 5 <;> simp [OutRec.toSkink, h]
      · simp [OutRec.toDrive]
      · exact (hfs ▸ bus l').trans (State.bus_setBus_of_ne _ _ hl')
    · rw [if_neg (by simp [full])] at hb
      exact leaves_of_job he hst hl hb nofun fun b _ => rfl
  case tlu =>
    intro k p hk ha hend halign
    rcases hk with ⟨rfl, hl, hpos⟩ | ⟨rfl, hl, rfl⟩
    · obtain ⟨hpend, hpalign, hp⟩ := hpos
      obtain ⟨body, he, hb⟩ := exec_tlu_issues l j w s hbad
      exact lookup_spec he hst hpc hl hbad (hp ▸ hb i (s.issued l j) hpend hpalign) hend halign
    · exact lookup_spec (exec_tluA ..) hst hpc hl hbad rfl hend halign

end Sys2Proof.Machine
end

section
/-! PROOF. Memory errors, scrubbing and fences. -/

namespace Sys2Proof.Machine

open Sys2Proof

/-! Memory errors -/

theorem SameRegistersBut.fInc {s t : State} {ks : List Nat} {b : Nat} {f : Fld} (h : SameRegistersBut s t ks) (hk : b + f.ofs ∈ ks) :
    SameRegistersBut s (t.fInc b f) ks := by
  unfold State.fInc
  split <;> exact h.fs _ hk

section

variable {s : State} {l : Lane} {m a : Nat}

/-- An uncorrectable error is counted, and its address latched (R478). -/
theorem State.memcError_unc (s : State) (l : Lane) (m a : Nat) : s.memcError l m a true =
    ((s.fInc (memcB l) MEMC.COUNT_UNCORR).fs (memcB l) MEMC.ERRADDR_L_ADDR a).setLane l
      { s.lane l with errH := a / 2 ^ 32 % 2 ^ 8 + m * 2 ^ 8 + 2 ^ 11 } := by
  simp [State.memcError]

/-- Behind an uncorrectable error a corrected one is counted alone (R478). -/
theorem State.memcError_corr_behind (h : (s.lane l).errH.testBit 11 = true) :
    s.memcError l m a false = s.fInc (memcB l) MEMC.COUNT_CORR := by
  rw [Nat.testBit_eq_decide_div_mod_eq, decide_eq_true_iff] at h
  simp [State.memcError, h]

/-- Any other corrected error is counted, and its address latched (R478). -/
theorem State.memcError_corr (h : (s.lane l).errH.testBit 11 = false) : s.memcError l m a false =
    ((s.fInc (memcB l) MEMC.COUNT_CORR).fs (memcB l) MEMC.ERRADDR_L_ADDR a).setLane l
      { s.lane l with errH := a / 2 ^ 32 % 2 ^ 8 + m * 2 ^ 8 } := by
  rw [Nat.testBit_eq_decide_div_mod_eq, decide_eq_false_iff_not] at h
  simp [State.memcError, h]

/-- An uncorrectable error: its count, its address, and its source (R476, R478). -/
theorem State.memError_unc {c u k : Nat} (hu : defaultClass (.lane l) u = some k) (hr : (s.lane l).reset = false) (ha : a < 2 ^ 40) :
    let t := s.memError l m a true c u
    t.fg (memcB l) MEMC.COUNT_UNCORR = min (2 ^ MEMC.COUNT_UNCORR.w - 1) (s.fg (memcB l) MEMC.COUNT_UNCORR + 1) ∧
      t.fg (memcB l) MEMC.ERRADDR_L_ADDR = a % 2 ^ 32 ∧ (t.lane l).errH = a / 2 ^ 32 + m * 2 ^ 8 + 2 ^ 11 ∧ t.mem = s.mem ∧ t.sk = s.sk ∧
      SameRegistersBut s t [memcB l + MEMC.COUNT_UNCORR.ofs, memcB l + MEMC.ERRADDR_L_ADDR.ofs] ∧
      t.evq = s.evq ++ [s.stamp { coll := .lane l, src := u, res := resLane l, detail := a % 2 ^ 32 }] := by
  unfold State.memError
  rw [State.memcError_unc]
  dsimp only
  refine ⟨?_, ?_, ?_, by simp, by simp, ?_, ?_⟩
  · rw [State.raiseL_fg, State.setLane_fg, State.fg_fs_apart _ _ (by decide) (by decide), State.fg_fInc_same _ _ _ (by decide)]
  · rw [State.raiseL_fg, State.setLane_fg, State.fg_fs_same _ _ _ _ (by decide)]
    rfl
  · rw [State.raiseL_lane, State.lane_setLane_same, Nat.mod_eq_of_lt (by omega)]
  · have counted : SameRegistersBut s ((s.fInc (memcB l) MEMC.COUNT_UNCORR).fs (memcB l) MEMC.ERRADDR_L_ADDR a)
      [memcB l + MEMC.COUNT_UNCORR.ofs, memcB l + MEMC.ERRADDR_L_ADDR.ofs] :=
      ((SameRegistersBut.refl s _).fInc (by simp)).fs _ (by simp)
    exact counted.of_regs (by simp)
  · rw [if_pos rfl, State.raiseL_evq _ _ _ hu (by simpa using hr)]
    simp [State.stamp]

/-- A corrected error: its count, its address, and its source (R476, R478). -/
theorem State.memError_corr {c u k : Nat} (hc : defaultClass (.lane l) c = some k) (hr : (s.lane l).reset = false) :
    let t := s.memError l m a false c u
    t.fg (memcB l) MEMC.COUNT_CORR = min (2 ^ MEMC.COUNT_CORR.w - 1) (s.fg (memcB l) MEMC.COUNT_CORR + 1) ∧
      ((s.lane l).errH.testBit 11 = false → t.fg (memcB l) MEMC.ERRADDR_L_ADDR = a % 2 ^ 32) ∧
      ((s.lane l).errH.testBit 11 = true → t.fg (memcB l) MEMC.ERRADDR_L_ADDR = s.fg (memcB l) MEMC.ERRADDR_L_ADDR) ∧
      t.mem = s.mem ∧ t.sk = s.sk ∧
      t.evq = s.evq ++ [s.stamp { coll := .lane l, src := c, res := resLane l, detail := a % 2 ^ 32 }] := by
  unfold State.memError
  cases h : (s.lane l).errH.testBit 11 with
  | true =>
    rw [State.memcError_corr_behind h]
    dsimp only
    refine ⟨?_, nofun, fun _ => ?_, by simp, by simp, ?_⟩
    · rw [State.raiseL_fg, State.fg_fInc_same _ _ _ (by decide)]
    · rw [State.raiseL_fg, State.fg_fInc_apart _ (by decide) (by decide)]
    · rw [if_neg nofun, State.raiseL_evq _ _ _ hc (by simpa using hr)]
      simp [State.stamp]
  | false =>
    rw [State.memcError_corr h]
    dsimp only
    refine ⟨?_, fun _ => ?_, nofun, by simp, by simp, ?_⟩
    · rw [State.raiseL_fg, State.setLane_fg, State.fg_fs_apart _ _ (by decide) (by decide), State.fg_fInc_same _ _ _ (by decide)]
    · rw [State.raiseL_fg, State.setLane_fg, State.fg_fs_same _ _ _ _ (by decide)]
      rfl
    · rw [if_neg nofun, State.raiseL_evq _ _ _ hc (by simpa using hr)]
      simp [State.stamp]

/-- A failed attempt changes the controller and its registers alone. -/
theorem State.canFailed_changes (s : State) (l : Lane) (k : Nat) (final : Bool) :
    ∃ rs cs, s.canFailed l k final = { s with regs := rs, cans := cs } := by
  unfold State.canFailed
  dsimp only
  split
  · exact ⟨_, _, rfl⟩
  · split <;> exact ⟨_, _, rfl⟩

/-- So does an error in its message RAM (R446). -/
theorem State.canEcc_changes (s : State) (l : Lane) (k a : Nat) : ∃ rs cs, s.canEcc l k a = { s with regs := rs, cans := cs } := by
  unfold State.canEcc
  dsimp only
  split_ifs
  · exact ⟨_, _, rfl⟩
  · exact ⟨_, _, rfl⟩
  · split
    · split_ifs
      · exact s.canFailed_changes l k true
      · exact ⟨_, _, rfl⟩
    · exact ⟨_, _, rfl⟩

/-! Fences -/

theorem State.memPut_lane (s : State) (l : Lane) (a : Nat) (bs : List Byte) :
    ∃ r, (s.memPut l a bs).lane l = { s.lane l with resv := r } := by
  obtain ⟨m, hm⟩ := s.wrBytes_only_mem (laneNo l) a bs
  have broken : ∃ r, (((s.wrBytes (laneNo l) a bs).breakResv l a bs.length)).lane l = { s.lane l with resv := r } := by
    rw [hm]
    unfold State.breakResv
    dsimp only
    split
    · exact ⟨_, rfl⟩
    · exact ⟨_, State.lane_setLane_same ..⟩
  unfold State.memPut
  dsimp only
  split
  · exact broken
  · exact broken

/-- The lane as a fence leaves it: no core waits, and no store. -/
def State.unfenced (s : State) (l : Lane) (c : Nat) : State :=
  let t := s.setLane l { s.lane l with fence := [], fenceAt := famDel (s.lane l).fenceAt c }
  t.setLane l { t.lane l with stores := [] }

theorem State.unfenced_lane (s : State) (l : Lane) (c : Nat) :
    ((s.unfenced l c).lane l).fence = [] ∧ ((s.unfenced l c).lane l).stores = [] := by
  simp [State.unfenced]

/-- A fence of the one core that waits, behind the one store that is not yet visible (R467). -/
theorem execXfenceDone_of_one {c : Fin 3} {bs : List Byte} (hrun : s.running l = true) (hfence : (s.lane l).fence = [c.val])
    (hstores : (s.lane l).stores = [(a, bs)]) : execXfenceDone l c s = .next ((s.unfenced l c.val).memPut l a bs) := by
  have waits : (s.running l && (s.lane l).fence.contains c.val) = true := by simp [hrun, hfence]
  unfold execXfenceDone
  dsimp only
  rw [if_pos waits, hfence, List.erase_cons_head, hstores]
  simp only [List.length_singleton, State.storesOut, State.lane_setLane_same, hstores, State.unfenced]

theorem execXfenceTimeout_of_late {c : Fin 3} {u : Nat} (hat : (s.lane l).fenceAt.lookup c.val = some u)
    (waits : (s.running l && (s.lane l).fence.contains c.val && decide (u + 20000 ≤ s.now)) = true) : execXfenceTimeout l c s =
      .next ((s.setLane l { s.lane l with fenceAt := famDel (s.lane l).fenceAt c.val }).raiseL l 0x109 c.val) := by
  unfold execXfenceTimeout
  dsimp only
  rw [hat]
  exact if_pos waits

end

/-- Settles O56: each command's case, over what it does to the lane, the controller's registers and memory. -/
theorem memoryErrorsAndFences : Obligations.MemoryErrorsAndFences := by
  unfold Obligations.MemoryErrorsAndFences
  refine ⟨fun l s hrun => ⟨_, exec_dramFillDone .., if_pos hrun⟩, fun l s hrun hscrub => ?_, fun l a s m k c u hrun hm ha => ?_,
    fun l a s hrun => ?_, fun l k a s hrun hhas => ?_, fun l s hrun herr => ?_, fun l c s hrun hc => ?_,
    fun l c a bs s hrun hfence hstores hend => ?_, fun l c u s hrun hc hat hlate => ?_, fun l c s hrun hc hdue => ?_⟩
  · refine ⟨_, (exec_scrubRead ..).trans (if_pos (by simp [hrun, hscrub])), ?_, rfl, rfl, rfl, rfl⟩
    rw [State.lane_setLane_same]
    rfl
  · have up : (!s.running l) ≠ true := by simp [hrun]
    have hr := State.reset_of_running hrun
    simp only [List.mem_cons, List.not_mem_nil, or_false, Prod.mk.injEq] at hm
    rcases hm with ⟨rfl, rfl, rfl, rfl⟩ | ⟨rfl, rfl, rfl, rfl⟩ | ⟨rfl, rfl, rfl, rfl⟩
    all_goals
      exact ⟨⟨_, (exec_memoryEccError ..).trans (if_neg up), State.memError_unc (k := 2) rfl hr ha⟩,
        ⟨_, (exec_memoryEccError ..).trans (if_neg up), State.memError_corr (k := 0) rfl hr⟩⟩
  · have up : (!s.running l) ≠ true := by simp [hrun]
    have hr := State.reset_of_running hrun
    refine ⟨⟨_, (exec_memoryEccError ..).trans (if_neg up), ?_, by simp, by simp, by simp, ?_⟩,
      ⟨_, (exec_memoryEccError ..).trans (if_neg up), s.raise_of_lane (l := l) (c := 0) rfl rfl hr⟩,
      ⟨_, (exec_memoryEccError ..).trans (if_neg up), s.raise_of_lane (l := l) (c := 0) rfl rfl hr⟩⟩
    · rw [State.raiseL_le, State.le_setLe_same]
      dsimp only
      split_ifs with h
      · exact List.contains_iff_mem.mp h
      · exact List.mem_cons_self
    · exact State.raiseL_evq (c := 2) _ _ _ rfl hr
  · have up : (!s.running l) ≠ true := by simp [hrun]
    have has : (!canHas l k.val) ≠ true := by simp [hhas]
    have hr := State.reset_of_running hrun
    refine ⟨⟨_, (exec_memoryEccError ..).trans ((if_neg up).trans ((if_neg has).trans (if_neg nofun))),
      s.raise_of_lane (l := l) (c := 0) rfl rfl hr⟩,
      ⟨_, (exec_memoryEccError ..).trans ((if_neg up).trans ((if_neg has).trans (if_pos rfl))), ?_⟩⟩
    obtain ⟨rs, cs, same⟩ := s.canEcc_changes l k.val a
    rw [same, State.raise_of_lane { s with regs := rs, cans := cs } (l := l) (c := 2) rfl rfl hr]
    exact ⟨rfl, rfl, rfl⟩
  · refine ⟨_, (exec_erraddrLRead ..).trans (if_pos hrun), rfl, ?_, fun q hq => ?_, rfl, rfl, rfl⟩
    · rw [State.reg_setReg_same, BitVec.toNat_ofNat, Nat.mod_eq_of_lt herr]
    · exact State.reg_setReg_of_ne _ _ (by simpa using hq)
  · refine ⟨_, (exec_xfence ..).trans (if_pos (by simp [hrun, hc])), ?_, rfl, rfl, rfl, rfl⟩
    rw [State.lane_setLane_same]
    exact List.mem_cons_self
  · obtain ⟨r, lane⟩ := (s.unfenced l c.val).memPut_lane l a bs
    obtain ⟨mem, regs, evq, sk, -⟩ := (s.unfenced l c.val).memPut_frame l a bs
    obtain ⟨fence, stores⟩ := s.unfenced_lane l c.val
    refine ⟨_, (exec_xfenceDone ..).trans (execXfenceDone_of_one hrun hfence hstores), ?_, ?_, fun i hi => ?_,
      fun n b hb out => ?_, regs, evq, sk⟩
    · rw [lane, ← fence]
    · rw [lane, ← stores]
    · rw [State.rd8_memPut, State.rd8_wrBytes, if_pos (by omega), Nat.add_sub_cancel_left]
    · exact State.rd8_memPut_outside _ l bs out hb hend
  · have waits : (s.running l && (s.lane l).fence.contains c.val && decide (u + 20000 ≤ s.now)) = true := by simp [hrun, hc, hlate]
    refine ⟨_, (exec_xfenceTimeout ..).trans (execXfenceTimeout_of_late hat waits), ?_, by simp, by simp, by simp, ?_⟩
    · rw [State.raiseL_lane, State.lane_setLane_same]
      exact hc
    · rw [State.raiseL_evq (c := 2) _ _ _ rfl (by simpa using State.reset_of_running hrun)]
      rfl
  · refine ⟨_, (exec_machineTimer ..).trans (if_pos (by rw [hrun, decide_eq_true hdue]; simp [hc])), ?_, rfl, rfl, rfl, rfl⟩
    rw [State.lane_setLane_same]
    exact List.mem_cons_self

end Sys2Proof.Machine
end

section
/-! PROOF. Results in address registers and predicates. -/

namespace Sys2Proof.Machine

open Sys2Proof

section

variable {s : State} {l : Lane} {j : Nat} {w : DWord} {c : Instr} {op lo : Nat} {body : Ins → State → Job → Res}

/-- An instruction whose body writes an address register, and nothing else. -/
theorem goesOn_putA {d : Nat} {v : Word} (he : exec c s = s.issue l j w op lo body)
    (hb : body (insOf w) s (s.issued l j) = .ok s ((s.issued l j).putA d v)) (hst : (s.job l j).st = .running)
    (hpc : (s.job l j).pc + 8 < 0xf6000) (hl : legalWord w op lo = true) : GoesOn c s l j ((s.job l j).putA d v) :=
  goesOn_of_ok he hst hpc hl (hb.trans (by rw [State.issued_eq hst]; rfl)) rfl

/-- An instruction whose body writes a predicate, and nothing else. -/
theorem goesOn_putP {d : Nat} {v : Bool} (he : exec c s = s.issue l j w op lo body)
    (hb : body (insOf w) s (s.issued l j) = .ok s ((s.issued l j).putP d v)) (hst : (s.job l j).st = .running)
    (hpc : (s.job l j).pc + 8 < 0xf6000) (hl : legalWord w op lo = true) : GoesOn c s l j ((s.job l j).putP d v) :=
  goesOn_of_ok he hst hpc hl (hb.trans (by rw [State.issued_eq hst]; rfl)) rfl

end

/-- The clocks since the trigger are the whole ones (assumption 128), until their count fills a word, where TIME.J saturates (R126). -/
theorem Job.min_clocks {x : Job} {s : State} (h : s.now < x.trigT + 5 * 2 ^ 30) :
    min (x.clocks s) (2 ^ 32 - 1) = (s.now - x.trigT) * 4 / 5 := by
  unfold Job.clocks leClk
  omega

/-- The comparisons by their numbers (R125). -/
theorem condHolds_spec (a b : Int) :
    (condHolds 0 a b = true ↔ a = b) ∧ (condHolds 1 a b = true ↔ a ≠ b) ∧ (condHolds 2 a b = true ↔ a < b) ∧
      (condHolds 3 a b = true ↔ a ≤ b) ∧ (condHolds 4 a b = true ↔ b < a) ∧ (condHolds 5 a b = true ↔ b ≤ a) :=
  ⟨decide_eq_true_iff, decide_eq_true_iff, decide_eq_true_iff, decide_eq_true_iff, decide_eq_true_iff, decide_eq_true_iff⟩

/-- Settles O46: the body of each instruction writes one address register or one predicate, and the step lemmas for such bodies say
what it leaves. -/
theorem addressAndPredicateResults : Obligations.AddressAndPredicateResults := by
  unfold Obligations.AddressAndPredicateResults
  intro l j w s hst hpc
  dsimp only
  refine ⟨goesOn_putA (exec_aopAddi ..) rfl hst hpc,
    goesOn_putA (exec_aopAdd ..) rfl hst hpc,
    goesOn_putA (exec_aopSub ..) rfl hst hpc,
    goesOn_putA (exec_aopSet ..) rfl hst hpc,
    goesOn_putA (exec_aopAndi ..) rfl hst hpc,
    goesOn_putA (exec_aopShl ..) ?shl hst hpc,
    goesOn_putA (exec_aopSar ..) ?sar hst hpc,
    fun hl early => goesOn_putA (exec_timeJ ..) (by rw [Job.min_clocks (x := s.issued l j.val) early]; rfl) hst hpc hl,
    fun hl => goesOn_of_ok (exec_timeL ..) hst hpc hl (by rw [State.issued_eq hst]; rfl) rfl,
    goesOn_putA (exec_timeH ..) rfl hst hpc,
    goesOn_putA (exec_bexpE ..) rfl hst hpc,
    goesOn_putA (exec_bexpC ..) rfl hst hpc,
    goesOn_putP (exec_psetCc ..) ?psetCc hst hpc,
    goesOn_putP (exec_psetCcz ..) ?psetCcz hst hpc,
    goesOn_putP (exec_psetaCc ..) ?psetaCc hst hpc,
    goesOn_putP (exec_psetaCcu ..) rfl hst hpc,
    goesOn_putP (exec_plog ..) rfl hst hpc,
    condHolds_spec,
    fun a b => ⟨rfl, rfl, rfl, rfl, rfl, rfl, rfl⟩⟩
  case shl => rw [Ins.im_zero]; rfl
  case sar => rw [Ins.im_zero]; rfl
  case psetCc => rw [Ins.im_zero]; rfl
  case psetCcz => rw [Ins.im_zero]; rfl
  case psetaCc =>
    have word := Ins.ims_eq (insOf w) 0 32 (by decide)
    rw [pow_zero, Nat.div_one] at word
    rw [← word]
    rfl

end Sys2Proof.Machine
end

section
/-! SUPPORT. What lies outside a lane's jobs and local memory, and the operations on jobs that leave it alone. -/

namespace Sys2Proof.Machine

open Sys2Proof

/-- t has the registers of s, its unit, the jobs of every lane but l, and every byte outside the local memory of l. -/
structure State.KeepsOutside (s : State) (l : Lane) (t : State) : Prop where
  regs : t.regs = s.regs
  sk : t.sk = s.sk
  jobs : ∀ l', l' ≠ l → ∀ n < 256, t.job l' n = s.job l' n
  mem : ∀ n b, b < 2 ^ 40 → ¬ (n = laneNo l ∧ 0x21000000 ≤ b ∧ b < 0x21100000) → t.rd8 n b = s.rd8 n b

/-- All that the job has in flight lies where jobs may write it. -/
def Job.InBounds (x : Job) : Prop := ∀ f ∈ x.fly, f.inBounds = true

namespace State.KeepsOutside

variable {s t u : State} {l : Lane}

theorem refl (s : State) (l : Lane) : s.KeepsOutside l s := ⟨rfl, rfl, fun _ _ _ _ => rfl, fun _ _ _ _ => rfl⟩

theorem trans (h : s.KeepsOutside l t) (g : t.KeepsOutside l u) : s.KeepsOutside l u where
  regs := g.regs.trans h.regs
  sk := g.sk.trans h.sk
  jobs l' hl n hn := (g.jobs l' hl n hn).trans (h.jobs l' hl n hn)
  mem n b hb out := (g.mem n b hb out).trans (h.mem n b hb out)

theorem of_eq (regs : t.regs = s.regs) (sk : t.sk = s.sk) (jobs : t.jobs = s.jobs) (mem : t.mem = s.mem) : s.KeepsOutside l t where
  regs := regs
  sk := sk
  jobs l' _ n _ := by rw [State.job, State.job, jobs]
  mem n b _ _ := State.rd8_congr mem n b

/-- What becomes visible of the job's stores and records, where it leaves the bytes outside local memory. -/
theorem of_lands (lands : s.Lands t)
    (mem : ∀ n b, b < 2 ^ 40 → ¬ (n = laneNo l ∧ 0x21000000 ≤ b ∧ b < 0x21100000) → t.rd8 n b = s.rd8 n b) :
    s.KeepsOutside l t where
  regs := lands.regs
  sk := lands.sk
  jobs l' _ n _ := by rw [State.job, State.job, lands.jobs]
  mem := mem

end State.KeepsOutside

section

variable (s : State) {l : Lane}

theorem State.setJob_keepsOutside {j : Nat} (hj : j < 256) (x : Job) : s.KeepsOutside l (s.setJob l j x) where
  regs := rfl
  sk := rfl
  jobs l' hl n hn := s.job_setJob_other x fun e => hl (laneNo_inj (by omega))
  mem _ _ _ _ := rfl

theorem State.raiseL_keepsOutside (src inst d : Nat) : s.KeepsOutside l (s.raiseL l src inst d) :=
  .of_eq (State.raiseL_regs ..) (State.raiseL_sk ..) (State.raiseL_jobs ..) (State.raiseL_mem ..)

theorem State.setLe_keepsOutside (e : LeSt) : s.KeepsOutside l (s.setLe l e) := .of_eq rfl rfl rfl rfl

theorem State.lmWrite_keepsOutside {a : Nat} {bs : List Byte} (h : a + bs.length ≤ 0x100000) :
    s.KeepsOutside l (s.lmWrite l a bs) :=
  .of_lands (s.memPut_lands l (lmA a) bs) fun n b hb out =>
    s.rd8_memPut_outside l bs (by unfold lmA; omega) hb (by unfold lmA; omega)

/-- A record of at most six words lies in its entry of the mirror (R71). -/
theorem State.mirrorPut_keepsOutside {r : OutRec} (hi : r.kind * 64 + r.index < 512) (hp : r.pay.length ≤ 6) :
    s.KeepsOutside l (s.mirrorPut l r) := by
  have len : (r.words.flatMap (natLe 4)).length = 4 + (4 + r.pay.length * 4) := by
    simp [OutRec.words, List.length_flatMap, Function.comp_def]
  have put (e : LeSt) := (s.lmWrite_keepsOutside (l := l) (a := 0xf8000 + (r.kind * 64 + r.index) * 32)
    (bs := r.words.flatMap (natLe 4)) (by omega)).trans (State.setLe_keepsOutside _ e)
  unfold State.mirrorPut
  dsimp only
  split
  · split
    · exact .refl s l
    · exact put _
  · exact put _

theorem State.land_keepsOutside {f : Fly} (h : f.inBounds = true) : s.KeepsOutside l (s.land l f) := by
  cases f with
  | store a bs =>
    have : a + bs.length ≤ 0xf6000 := by simpa [Fly.inBounds] using h
    exact s.lmWrite_keepsOutside (by omega)
  | mirror r =>
    have : r.kind * 64 + r.index < 512 ∧ r.pay.length ≤ 6 := by simpa [Fly.inBounds] using h
    exact s.mirrorPut_keepsOutside this.1 this.2

theorem State.landAll_keepsOutside {fs : List Fly} (h : ∀ f ∈ fs, f.inBounds = true) : s.KeepsOutside l (s.landAll l fs) := by
  unfold State.landAll
  induction fs generalizing s with
  | nil => exact .refl s l
  | cons f fs ih =>
    rw [List.forall_mem_cons] at h
    exact (s.land_keepsOutside h.1).trans (ih _ h.2)

/-- Of what a job has in flight within bounds, what becomes visible lies within local memory, and what stays is within bounds. -/
theorem State.drift_keepsOutside {x : Job} (h : x.InBounds) :
    s.KeepsOutside l (s.drift l x).1 ∧ (s.drift l x).2.InBounds := by
  have took : s.KeepsOutside l s.takeNat.2 := .of_eq rfl rfl rfl rfl
  unfold State.drift
  dsimp only
  split
  · exact ⟨.refl s l, h⟩
  split
  · exact ⟨took, h⟩
  next f hf =>
    split
    · exact ⟨took, h⟩
    · refine ⟨took.trans (State.land_keepsOutside _ (h f (List.mem_of_getElem? hf))), fun g hg => ?_⟩
      exact h g ((List.mem_append.mp hg).elim List.mem_of_mem_take List.mem_of_mem_drop)

section

variable {j : Nat} (hj : j < 256)
include hj

theorem State.jobFault_keepsOutside {x : Job} (h : x.InBounds) (code faddr : Nat) :
    s.KeepsOutside l (s.jobFault l j x code faddr) :=
  ((s.landAll_keepsOutside h).trans (State.setJob_keepsOutside _ hj _)).trans (State.raiseL_keepsOutside ..)

theorem State.jobRun_keepsOutside {x : Job} (h : x.InBounds) : s.KeepsOutside l (s.jobRun l j x) := by
  unfold State.jobRun
  split
  · exact s.setJob_keepsOutside hj _
  · exact s.jobFault_keepsOutside hj h _ _

/-- A job that starts has nothing in flight. -/
theorem State.startJob_keepsOutside (d src trigT tag vec : Nat) (spawned : Bool) (arg : Option Word) :
    s.KeepsOutside l (s.startJob l j d src trigT tag vec spawned arg) := by
  have calm : (s.newJob l d src trigT tag vec spawned arg).InBounds := nofun
  unfold State.startJob
  dsimp only
  split
  · exact s.jobFault_keepsOutside hj calm _ _
  split
  · exact s.jobFault_keepsOutside hj calm _ _
  · exact s.setJob_keepsOutside hj _

end

end

end Sys2Proof.Machine
end

section
/-! SUPPORT. Every outcome of an issue; what the bodies of the instructions keep. -/

namespace Sys2Proof.Machine

open Sys2Proof

section

variable {s : State} {l : Lane} {j : Nat} {w : DWord} {op lo : Nat} {body : Ins → State → Job → Res}

/-- A slot that does not run issues nothing. -/
theorem State.issue_of_not_running (hst : (s.job l j).st ≠ .running) : s.issue l j w op lo body = .next s := if_pos hst

/-- A word of no form, or one of this form that is not legal, is ILLEGAL (R101). -/
theorem State.issue_of_illegal (hst : (s.job l j).st = .running)
    (h : formOf (insOf w) = none ∨ (formOf (insOf w)).any (fun f => f.op == op && f.lo == lo) = true ∧ legalWord w op lo = false) :
    s.issue l j w op lo body = .next (s.jobFault l j (s.job l j) 3 (s.job l j).pc) := by
  unfold State.issue
  dsimp only
  rw [if_neg (not_not.mpr hst)]
  unfold legalWord at h
  cases hf : formOf (insOf w) with
  | none => rfl
  | some f =>
    simp only [hf, reduceCtorEq, false_or, Option.any_some, Bool.and_eq_true, beq_iff_eq] at h
    obtain ⟨⟨hop, hlo⟩, illegal⟩ := h
    simp only [hop, hlo, beq_self_eq_true, Bool.true_and] at illegal
    simp [hop, hlo, illegal]

/-- A word of another form is not this command's. -/
theorem State.issue_of_other_form {f : Form} (hst : (s.job l j).st = .running) (hf : formOf (insOf w) = some f)
    (other : f.op ≠ op ∨ f.lo ≠ lo) : s.issue l j w op lo body = .next s := by
  unfold State.issue
  dsimp only
  rw [if_neg (not_not.mpr hst), hf]
  exact if_pos other

/-- What an issue can do: nothing, a fault as ILLEGAL, or what the body says. -/
theorem State.issue_cases (s : State) (l : Lane) (j : Nat) (w : DWord) (op lo : Nat) (body : Ins → State → Job → Res) :
    s.issue l j w op lo body = .next s ∨ s.issue l j w op lo body = .next (s.jobFault l j (s.job l j) 3 (s.job l j).pc) ∨
      s.issue l j w op lo body = .next ((body (insOf w) s (s.issued l j)).leave s l j) := by
  by_cases hst : (s.job l j).st = .running
  · by_cases hl : legalWord w op lo = true
    · exact .inr (.inr (State.issue_of_legal hst hl))
    cases hf : formOf (insOf w) with
    | none => exact .inr (.inl (State.issue_of_illegal hst (.inl hf)))
    | some f =>
      by_cases same : f.op = op ∧ f.lo = lo
      · exact .inr (.inl (State.issue_of_illegal hst (.inr ⟨by simp [hf, same], by simpa using hl⟩)))
      · exact .inl (State.issue_of_other_form hst hf (not_and_or.mp same))
  · exact .inl (State.issue_of_not_running hst)

/-- The result leaves what lies outside lane l as it was in s, and has in flight only what lies where jobs may write it. -/
def Res.KeepsOutside (s : State) (l : Lane) : Res → Prop
  | .exc _ => True
  | .ok t y => s.KeepsOutside l t ∧ y.InBounds

theorem Res.leave_keepsOutside {r : Res} (hj : j < 256) (hfly : (s.job l j).InBounds) (h : r.KeepsOutside s l) :
    s.KeepsOutside l (r.leave s l j) := by
  cases r with
  | exc c =>
    refine State.KeepsOutside.trans ?_ (State.jobFault_keepsOutside _ hj hfly _ _)
    split
    · exact s.raiseL_keepsOutside ..
    · exact .refl s l
  | ok t y =>
    obtain ⟨kept, bounds⟩ := h
    obtain ⟨drifted, bounds⟩ := t.drift_keepsOutside (l := l) bounds
    refine (kept.trans drifted).trans ?_
    rw [Res.leave]
    split
    · exact State.jobRun_keepsOutside _ hj bounds
    · exact State.setJob_keepsOutside _ hj _

/-- The body keeps what lies outside lane l, and the job's stores and records where jobs may write them. -/
def BodyKeepsOutside (l : Lane) (body : Ins → State → Job → Res) : Prop :=
  ∀ i s x, x.InBounds → (body i s x).KeepsOutside s l

theorem State.issue_keepsOutside (hj : j < 256) (hfly : (s.job l j).InBounds) (hb : BodyKeepsOutside l body) :
    ∃ t, s.issue l j w op lo body = .next t ∧ s.KeepsOutside l t := by
  rcases s.issue_cases l j w op lo body with h | h | h
  · exact ⟨_, h, .refl s l⟩
  · exact ⟨_, h, s.jobFault_keepsOutside hj hfly _ _⟩
  · exact ⟨_, h, Res.leave_keepsOutside hj hfly (hb (insOf w) s (s.issued l j) hfly)⟩

end

/-! Bodies that change the job's registers alone -/

/-- The result is an exception, or leaves the state, and the job with what it had in flight. -/
def Res.RegistersOnly (s : State) (x : Job) : Res → Prop
  | .exc _ => True
  | .ok t y => t = s ∧ y.fly = x.fly

theorem Res.RegistersOnly.keepsOutside {s : State} {x : Job} {r : Res} (l : Lane) (h : r.RegistersOnly s x) (hx : x.InBounds) :
    r.KeepsOutside s l := by
  cases r with
  | exc c => trivial
  | ok t y =>
    obtain ⟨rfl, hfly⟩ := h
    exact ⟨.refl t l, fun f hf => hx f (hfly ▸ hf)⟩

section

variable (i : Ins) (s : State) (x : Job) (l : Lane)

theorem registersOnly_goTo (t : Nat) : (goTo t s x).RegistersOnly s x := by
  unfold goTo
  split
  · trivial
  · exact ⟨rfl, rfl⟩

theorem registersOnly_brIf (taken : Bool) : (brIf taken i s x).RegistersOnly s x := by
  unfold brIf
  split
  · exact registersOnly_goTo ..
  · exact ⟨rfl, rfl⟩

theorem registersOnly_bintOf (lo hi : Nat → Int) : (bintOf i s x lo hi).RegistersOnly s x := by
  refine ⟨rfl, ?_⟩
  split <;> rfl

theorem registersOnly_bfltOf (n : Nat) : (bfltOf l i n s x).RegistersOnly s x := by
  unfold bfltOf
  dsimp only
  split
  · trivial
  · exact ⟨rfl, rfl⟩

theorem registersOnly_tluAt (ha : Nat) (h : Header) (p : Int) : (tluAt l i s x ha h p).RegistersOnly s x := by
  unfold tluAt
  dsimp only
  split
  · trivial
  · exact ⟨rfl, rfl⟩

theorem registersOnly_tluOf (pos : Res ⊕ Int) (h : ∀ r, pos = .inl r → r.RegistersOnly s x) :
    (tluOf l i s x pos).RegistersOnly s x := by
  unfold tluOf
  dsimp only
  split
  · trivial
  split
  · trivial
  cases pos with
  | inl r => exact h r rfl
  | inr p => exact registersOnly_tluAt ..

end

/-! Bodies that store, put out a record, or start a job -/

theorem Job.InBounds.append {x y : Job} {fs : List Fly} (hx : x.InBounds) (hy : y.fly = x.fly ++ fs)
    (h : ∀ f ∈ fs, f.inBounds = true) : y.InBounds :=
  fun f hf => (List.mem_append.mp (hy ▸ hf)).elim (hx f) (h f)

/-- A store that meets no exception lies where jobs may write (R105). -/
theorem State.end_le_of_lmCheck {s : State} {l : Lane} {x : Job} {ofs n align : Nat} (h : s.lmCheck l x true ofs n align = none) :
    ofs + n ≤ 0xf6000 := by
  by_contra high
  unfold State.lmCheck at h
  split at h
  · cases h
  · rw [if_pos (by simpa using high)] at h
    cases h

/-- So does a store of consecutive bytes, in each of its pieces (R109). -/
theorem flyStores_inBounds {s : State} {l : Lane} {x : Job} {ofs align : Nat} {bs : List Byte}
    (h : s.lmCheckAll l x true ofs bs.length align = none) : ∀ f ∈ flyStores ofs bs, f.inBounds = true := by
  intro f hf
  obtain ⟨p, hp, rfl⟩ := List.mem_map.mp hf
  have fits := State.end_le_of_lmCheck (List.findSome?_eq_none_iff.mp h p hp)
  have short := List.length_take_le p.2 (bs.drop (p.1 - ofs))
  exact decide_eq_true (by omega)

theorem bfixOf_keepsOutside (l : Lane) (n : Nat) : BodyKeepsOutside l fun i s x => bfixOf l i n s x := by
  intro i s x hx
  unfold bfixOf
  dsimp only
  split
  · trivial
  · next fits => exact ⟨.refl s l, hx.append rfl (flyStores_inBounds fits)⟩

theorem spawnJob_keepsOutside (l : Lane) (arg : Ins → Job → Option Word) :
    BodyKeepsOutside l fun i s x => spawnJob l i (arg i x) s x := by
  intro i s x hx
  unfold spawnJob
  dsimp only
  split
  · exact ⟨.refl s l, hx⟩
  next k ks hk =>
    split
    · exact ⟨.refl s l, hx⟩
    · exact ⟨s.startJob_keepsOutside (s.free_of_freeSlots hk).1 .., hx⟩

/-- The records of a KIND are fewer than its entries in the mirror (R71, R89). -/
theorem entry_of_kindRange {k i : Nat} (h : i < kindRange k) : k * 64 + i < 512 := by
  unfold kindRange at h
  split at h <;> omega

end Sys2Proof.Machine
end

section
/-! PROOF. An instruction stays in its lane's jobs and local memory, and faults before any effect. -/

namespace Sys2Proof.Machine

open Sys2Proof

/-! Every form -/

/-- The command issues its word as the form of its opcode and flags, and the form's body keeps what lies outside lane l. -/
def IssuesWithin (l : Lane) (j : Fin 256) (w : DWord) (p : Instr × Nat × Nat) : Prop :=
  ∃ body, (∀ s, exec p.1 s = s.issue l j.val w p.2.1 p.2.2 body) ∧ BodyKeepsOutside l body

section

variable {l : Lane} {j : Fin 256} {w : DWord} {c : Instr} {op lo : Nat}

theorem IssuesWithin.of_registers {body : Ins → State → Job → Res} (he : ∀ s, exec c s = s.issue l j.val w op lo body)
    (h : ∀ i s x, (body i s x).RegistersOnly s x) : IssuesWithin l j w (c, op, lo) :=
  ⟨body, he, fun i s x hx => (h i s x).keepsOutside l hx⟩

/-- A form that meets no exception and writes registers of the job alone. -/
theorem IssuesWithin.of_ok {f : Ins → State → Job → Job}
    (he : ∀ s, exec c s = s.issue l j.val w op lo fun i s x => .ok s (f i s x))
    (h : ∀ i s x, (f i s x).fly = x.fly := by exact fun _ _ _ => rfl) : IssuesWithin l j w (c, op, lo) :=
  .of_registers he fun i s x => ⟨rfl, h i s x⟩

end

/-- Each form keeps what lies outside its lane's jobs and local memory: most change registers of the job alone. -/
theorem dollithForms_issueWithin (l : Lane) (j : Fin 256) (w : DWord) : ∀ p ∈ dollithForms l j w, IssuesWithin l j w p := by
  simp only [dollithForms, List.forall_mem_cons, List.not_mem_nil, false_imp_iff, implies_true, and_true]
  refine ⟨
    .of_ok (exec_nop · l j w),
    ⟨_, (exec_end_ · l j w), ?end_⟩,
    .of_ok (exec_wait · l j w),
    ⟨_, (exec_spawn · l j w), spawnJob_keepsOutside l fun _ _ => none⟩,
    ⟨_, (exec_spawnArg · l j w), spawnJob_keepsOutside l fun i x => some (x.ar i.a)⟩,
    .of_ok (exec_holdL · l j w), .of_ok (exec_holdO · l j w), .of_ok (exec_holdA · l j w), .of_ok (exec_timeJ · l j w),
    .of_ok (exec_timeL · l j w), .of_ok (exec_timeH · l j w),
    .of_registers (exec_brT · l j w) fun i s x => registersOnly_brIf i s x _,
    .of_registers (exec_brF · l j w) fun i s x => registersOnly_brIf i s x _,
    .of_registers (exec_jmp · l j w) fun _ s x => registersOnly_goTo s x _,
    .of_ok (exec_psetCc · l j w), .of_ok (exec_psetCcz · l j w), .of_ok (exec_psetaCc · l j w), .of_ok (exec_psetaCcu · l j w),
    .of_ok (exec_plog · l j w),
    .of_registers (exec_ldb · l j w) ?ldb,
    ⟨_, (exec_stb · l j w), ?stb⟩,
    .of_registers (exec_lda · l j w) ?lda,
    ⟨_, (exec_sta · l j w), ?sta⟩,
    .of_ok (exec_aopAddi · l j w), .of_ok (exec_aopAdd · l j w), .of_ok (exec_aopSub · l j w), .of_ok (exec_aopSet · l j w),
    .of_ok (exec_aopAndi · l j w), .of_ok (exec_aopShl · l j w), .of_ok (exec_aopSar · l j w),
    .of_registers (exec_in_ · l j w) ?in_,
    ⟨_, (exec_out · l j w), ?out⟩,
    .of_ok (exec_badd · l j w), .of_ok (exec_bsub · l j w), .of_ok (exec_bmul · l j w), .of_ok (exec_bmac · l j w),
    .of_ok (exec_bmsu · l j w), .of_ok (exec_bdot · l j w), .of_ok (exec_bsum · l j w), .of_ok (exec_bmaxr · l j w),
    .of_ok (exec_bneg · l j w), .of_ok (exec_babs · l j w), .of_ok (exec_bmin · l j w), .of_ok (exec_bmax · l j w),
    .of_ok (exec_bclamp · l j w), .of_ok (exec_blerp · l j w), .of_ok (exec_brcp · l j w), .of_ok (exec_brsq · l j w),
    .of_ok (exec_bnorm · l j w), .of_ok (exec_bexpE · l j w), .of_ok (exec_bexpC · l j w), .of_ok (exec_bexpS · l j w),
    .of_ok (exec_bperm · l j w), .of_ok (exec_bsplat · l j w), .of_ok (exec_bpick · l j w), .of_ok (exec_bins · l j w),
    .of_ok (exec_bsetc · l j w), .of_ok (exec_bsel · l j w), .of_ok (exec_bclarke · l j w), .of_ok (exec_bclarke2 · l j w),
    .of_ok (exec_bpark · l j w), .of_ok (exec_bipark · l j w), .of_ok (exec_bsvm · l j w), .of_ok (exec_bsincos · l j w),
    .of_ok (exec_batan2 · l j w),
    .of_registers (exec_tlu · l j w) ?tlu,
    .of_registers (exec_tluA · l j w) ?tluA,
    .of_registers (exec_bint · l j w) fun i s x => registersOnly_bintOf i s x _ _,
    .of_registers (exec_bintLu · l j w) fun i s x => registersOnly_bintOf i s x _ _,
    ⟨_, (exec_bfixW · l j w), bfixOf_keepsOutside l 32⟩,
    ⟨_, (exec_bfixD · l j w), bfixOf_keepsOutside l 64⟩,
    .of_registers (exec_bfltW · l j w) fun i s x => registersOnly_bfltOf i s x l 32,
    .of_registers (exec_bfltD · l j w) fun i s x => registersOnly_bfltOf i s x l 64,
    .of_ok (exec_bfltA · l j w), .of_ok (exec_bconst · l j w)⟩
  case end_ =>
    refine fun i s x hx => ⟨?_, hx⟩
    split
    · exact s.raiseL_keepsOutside ..
    · exact .refl s l
  case ldb | lda =>
    intro i s x
    split
    · trivial
    · exact ⟨rfl, rfl⟩
  case in_ =>
    intro i s x
    dsimp only
    split
    · trivial
    · exact ⟨rfl, rfl⟩
  case stb | sta =>
    intro i s x hx
    dsimp only
    split
    · trivial
    · next fits =>
      refine ⟨.refl s l, hx.append rfl (List.forall_mem_singleton.mpr ?_)⟩
      simp [Fly.inBounds, Blk.length_bytes, State.end_le_of_lmCheck fits]
  case out =>
    intro i s x hx
    dsimp only
    split
    · trivial
    next known =>
      split
      · refine ⟨.of_eq rfl rfl rfl rfl, hx.append rfl (List.forall_mem_singleton.mpr ?_)⟩
        simp [Fly.inBounds, entry_of_kindRange (not_le.mp known)]
      · exact ⟨.refl s l, hx⟩
  case tlu =>
    refine fun i s x => registersOnly_tluOf i s x l _ fun r hr => ?_
    split at hr
    · obtain rfl := Sum.inl.inj hr
      trivial
    · cases hr
  case tluA => exact fun i s x => registersOnly_tluOf i s x l _ fun _ h => by cases h

/-! Faults -/

section

variable {s : State} {l : Lane} {j : Nat} {c : Instr}

/-- What becomes visible leaves the lane in reset or out of it. -/
theorem State.lmWrite_reset (s : State) (l : Lane) (a : Nat) (bs : List Byte) :
    ((s.lmWrite l a bs).lane l).reset = (s.lane l).reset := by
  obtain ⟨r, hr⟩ := s.memPut_lane l (lmA a) bs
  rw [State.lmWrite, hr]

theorem State.land_reset (s : State) (l : Lane) (f : Fly) : ((s.land l f).lane l).reset = (s.lane l).reset := by
  cases f with
  | store a bs => exact s.lmWrite_reset l a bs
  | mirror r =>
    unfold State.land State.mirrorPut
    dsimp only
    split
    · split
      · rfl
      · rw [State.setLe_lane, State.lmWrite_reset]
    · rw [State.setLe_lane, State.lmWrite_reset]

theorem State.landAll_reset (s : State) (l : Lane) (fs : List Fly) : ((s.landAll l fs).lane l).reset = (s.lane l).reset := by
  unfold State.landAll
  induction fs generalizing s with
  | nil => rfl
  | cons f fs ih => exact (ih _).trans (s.land_reset l f)

/-- A fault of a job out of reset (R85, R97). What it had in flight lands at once (assumption 72). -/
theorem jobFault_completes {code faddr : Nat} {x : Job} (he : exec c s = .next (s.jobFault l j x code faddr))
    (hr : (s.lane l).reset = false) : Completes c s fun t =>
      t.job l j = { x with st := .faulted, code := code, faddr := faddr, fly := [], out := none } ∧
      t.evq = s.evq ++ [s.stamp { coll := .lane l, src := 0x82, res := resLane l }] ∧ SameJobsBut s t l j ∧
      t.buses = s.buses ∧ t.regs = s.regs ∧ t.sk = s.sk ∧ (x.fly = [] → t.mem = s.mem) := by
  have reset := s.landAll_reset l x.fly
  have lands := s.landAll_lands l x.fly
  have calm : x.fly = [] → s.landAll l x.fly = s := fun h => by rw [h, State.landAll_nil]
  refine ⟨_, he, ?_⟩
  unfold State.jobFault
  dsimp only
  generalize s.landAll l x.fly = u at reset lands calm
  refine ⟨by rw [State.raiseL_job, State.job_setJob_same], ?_, ?_, ?_, ?_, ?_, fun h => ?_⟩
  · rw [State.raise_fault_evq (reset.trans hr), lands.evq]
    obtain ⟨_, _, _, _, rfl⟩ := lands
    rfl
  · have others := (SameJobsBut.of_jobs lands.jobs l j).setJob
      { x with st := .faulted, code := code, faddr := faddr, fly := [], out := none }
    exact fun l' n hn => (State.raiseL_job ..).trans (others l' n hn)
  · rw [State.raiseL_buses, State.setJob_buses, lands.buses]
  · rw [State.raiseL_regs, State.setJob_regs, lands.regs]
  · rw [State.raiseL_sk, State.setJob_sk, lands.sk]
  · rw [State.raiseL_mem, State.setJob_mem, calm h]

/-- An instruction that meets an exception, with nothing in flight, ends its job before any effect (R97, R105). -/
theorem exception_completes {w : DWord} {op lo code : Nat} {body : Ins → State → Job → Res}
    (he : exec c s = s.issue l j w op lo body) (hb : body (insOf w) s (s.issued l j) = .exc code) (hc : code ≠ 4)
    (hst : (s.job l j).st = .running) (hr : (s.lane l).reset = false) (hfly : (s.job l j).fly = []) (hl : legalWord w op lo = true) :
    Completes c s fun t =>
      t.job l j = { s.job l j with st := .faulted, code := code, faddr := (s.job l j).pc, out := none } ∧
      t.evq = s.evq ++ [s.stamp { coll := .lane l, src := 0x82, res := resLane l }] ∧ SameJobsBut s t l j ∧
      t.buses = s.buses ∧ t.regs = s.regs ∧ t.mem = s.mem ∧ t.sk = s.sk := by
  obtain ⟨t, ht, job, evq, others, buses, regs, sk, mem⟩ := jobFault_completes (he.trans (State.issue_of_exc hst hl hb hc)) hr
  exact ⟨t, ht, by rw [job, ← hfly], evq, others, buses, regs, mem hfly, sk⟩

/-- The exception of the first check that an access fails (R105): LM_BOUNDS, LM_ALIGN or VEC_GONE. -/
theorem State.lmCheck_eq_some {x : Job} {ofs n code : Nat} {wr : Bool} (hn : 0 < n)
    (h : (0x100000 < ofs + n ∧ code = 1) ∨ (wr = true ∧ 0xf6000 < ofs + n ∧ code = 1) ∨
      (ofs + n ≤ (if wr then 0xf6000 else 0x100000) ∧ ofs % n ≠ 0 ∧ code = 2) ∨
      (wr = false ∧ 0xfc000 ≤ ofs ∧ ofs + n ≤ 0x100000 ∧ ofs % n = 0 ∧ s.vecGone l x = true ∧ code = 5)) :
    s.lmCheck l x wr ofs n n = some code ∧ code ≠ 4 := by
  unfold State.lmCheck
  rcases h with ⟨high, rfl⟩ | ⟨rfl, high, rfl⟩ | ⟨inside, halign, rfl⟩ | ⟨rfl, vec, inside, halign, gone, rfl⟩
  · simp [high]
  · simp [high]
  · cases wr
    · simp only [Bool.false_eq_true, if_false] at inside
      simp [halign, Nat.not_lt.mpr inside]
    · simp only [if_true] at inside
      have below : ofs + n ≤ 0x100000 := by omega
      simp [halign, Nat.not_lt.mpr inside, Nat.not_lt.mpr below]
  · have high : 0xfc000 < ofs + n := by omega
    simp [halign, gone, high, Nat.not_lt.mpr inside]

end

/-- Settles O45: a form's outcomes are those of the issue, its body keeps what lies outside the lane's jobs and local memory, and an
exception is a fault of the job as it was before the word. -/
theorem jobInstructionsStayInTheirJob : Obligations.JobInstructionsStayInTheirJob := by
  unfold Obligations.JobInstructionsStayInTheirJob
  refine ⟨fun l j w c op lo s hc hst => ?idle, fun l j w c op lo s hc hst hr illegal => ?illegal,
    fun l j w s hst hr hfly hl hk => ?out, fun l j w c op n k wr s hc hst hr hfly hl => ?access, fun l j w c op lo s hc hfly => ?frame⟩
  case idle =>
    obtain ⟨body, he, -⟩ := dollithForms_issueWithin l j w _ hc
    exact (he s).trans (State.issue_of_not_running hst)
  case illegal =>
    obtain ⟨body, he, -⟩ := dollithForms_issueWithin l j w _ hc
    exact jobFault_completes ((he s).trans (State.issue_of_illegal hst illegal)) hr
  case out => exact exception_completes (exec_out ..) (if_pos hk) (by decide) hst hr hfly hl
  case access =>
    intro ea h
    simp only [List.mem_cons, List.not_mem_nil, or_false, Prod.mk.injEq] at hc
    obtain ⟨check, hk⟩ := State.lmCheck_eq_some (x := s.issued l j.val) (ofs := (insOf w).ea (s.issued l j.val)) (by omega) h
    rcases hc with ⟨rfl, rfl, rfl, rfl⟩ | ⟨rfl, rfl, rfl, rfl⟩ | ⟨rfl, rfl, rfl, rfl⟩ | ⟨rfl, rfl, rfl, rfl⟩
    · exact exception_completes (exec_ldb ..) (by rw [check]) hk hst hr hfly hl
    · exact exception_completes (exec_stb ..) (by rw [check]) hk hst hr hfly hl
    · exact exception_completes (exec_lda ..) (by rw [check]) hk hst hr hfly hl
    · exact exception_completes (exec_sta ..) (by rw [check]) hk hst hr hfly hl
  case frame =>
    obtain ⟨body, he, hb⟩ := dollithForms_issueWithin l j w _ hc
    obtain ⟨t, ht, kept⟩ := State.issue_keepsOutside (w := w) (op := op) (lo := lo) j.isLt hfly hb
    exact ⟨t, (he s).trans ht, kept.regs, kept.sk, kept.jobs, kept.mem⟩

end Sys2Proof.Machine
end

section
/-! SUPPORT. What a drive changes of its own: registers, cells, axes and their live calibration; and the gates of an axis that may not
drive. -/

namespace Sys2Proof.Machine

open Sys2Proof

/-! Changes within a drive -/

/-- t is s but for registers, cells, axes and their live calibration. -/
def State.WithinDrive (s t : State) : Prop := ∃ rs cs xs ks, t = { s with regs := rs, cells := cs, axes := xs, cals := ks }

namespace State.WithinDrive

variable {s t u : State}

theorem refl (s : State) : s.WithinDrive s := ⟨_, _, _, _, rfl⟩

theorem trans (h : s.WithinDrive t) (g : t.WithinDrive u) : s.WithinDrive u := by
  obtain ⟨_, _, _, _, rfl⟩ := h
  obtain ⟨_, _, _, _, rfl⟩ := g
  exact ⟨_, _, _, _, rfl⟩

theorem mem (h : s.WithinDrive t) : t.mem = s.mem := by obtain ⟨_, _, _, _, rfl⟩ := h; rfl
theorem evq (h : s.WithinDrive t) : t.evq = s.evq := by obtain ⟨_, _, _, _, rfl⟩ := h; rfl
theorem sk (h : s.WithinDrive t) : t.sk = s.sk := by obtain ⟨_, _, _, _, rfl⟩ := h; rfl
theorem running (h : s.WithinDrive t) (l : Lane) : t.running l = s.running l := by obtain ⟨_, _, _, _, rfl⟩ := h; rfl
theorem stamp (h : s.WithinDrive t) (e : Event) : t.stamp e = s.stamp e := by obtain ⟨_, _, _, _, rfl⟩ := h; rfl

/-- The position-hold regulator drives the cells that it drove. -/
theorem heldCell (h : s.WithinDrive t) (l : DLane) (c : Nat) : t.heldCell l c = s.heldCell l c := by
  obtain ⟨_, _, _, _, rfl⟩ := h; rfl

theorem ite {p : Prop} [Decidable p] (ht : s.WithinDrive t) (hu : s.WithinDrive u) : s.WithinDrive (if p then t else u) := by
  split
  · exact ht
  · exact hu

theorem fs (h : s.WithinDrive t) (b : Nat) (f : Fld) (n : Nat) : s.WithinDrive (t.fs b f n) := h.trans ⟨_, _, _, _, rfl⟩

theorem fInc (h : s.WithinDrive t) (b : Nat) (f : Fld) : s.WithinDrive (t.fInc b f) := ite (h.fs b f _) (h.fs b f _)

theorem setAxis (h : s.WithinDrive t) (l : DLane) (n : Nat) (x : AxisSt) : s.WithinDrive (t.setAxis l n x) :=
  h.trans ⟨_, _, _, _, rfl⟩

theorem setCal (h : s.WithinDrive t) (l : DLane) (n : Nat) (x : CalSt) : s.WithinDrive (t.setCal l n x) :=
  h.trans ⟨_, _, _, _, rfl⟩

theorem cellCmd (h : s.WithinDrive t) (l : DLane) (c src : Nat) {hs ls : Bool} (hb : (hs && ls) = false) :
    s.WithinDrive (t.cellCmd l c src hs ls) := by
  rw [State.cellCmd_of_not_both _ _ _ _ hb]
  exact h.trans ⟨_, _, _, _, rfl⟩

theorem axGate (h : s.WithinDrive t) (l : DLane) (n ph : Nat) : s.WithinDrive (t.axGate l n ph) := by
  have complements (on h : Bool) : ((on && h) && (on && !h)) = false := by cases on <;> cases h <;> rfl
  exact ite h ((ite h (h.setAxis l n _)).cellCmd l _ 1 (complements _ _))

theorem axGates (h : s.WithinDrive t) (l : DLane) (n : Nat) : s.WithinDrive (t.axGates l n) :=
  ((h.axGate l n 0).axGate l n 1).axGate l n 2

end State.WithinDrive

/-! Gates of an axis that may not drive -/

variable {s : State} {l : DLane} {n : Nat}

/-- A cell that its source may not switch keeps its gates off (R271). -/
theorem State.gateOn_of_not_cellFree {i : Nat} (h : s.cellFree l i = false) (hs : Bool) : s.gateOn l i hs = false := by
  simp [State.gateOn, State.gateTurns, h]

/-- An axis that may not drive has its gates off where no position-hold regulator drives its cells (R271). -/
theorem State.gatesAreOff_of_not_axDrives (hn : n < 6) (held : s.heldCell l (3 * n) = false) (h : s.axDrives l n = false) :
    s.gatesAreOff l (3 * n) 3 := by
  intro i lo hi
  have own : i / 3 = n := by omega
  have axisCell : i < 18 := by omega
  have first : 3 * n < 18 ∧ 3 * n / 3 = n := by omega
  have notHeld : s.heldCell l i = false := by simpa [State.heldCell, axisCell, own, first] using held
  exact State.gateOn_of_not_cellFree (by simp [State.cellFree, notHeld, axisCell, own, h])

theorem State.axDrives_of_blocked (h : s.axisBlocked l n = true) : s.axDrives l n = false := by simp [State.axDrives, h]

theorem State.axisBlocked_of_tripped (h : (s.axis l n).tripped = true) : s.axisBlocked l n = true := by simp [State.axisBlocked, h]

/-- A peak trip turns the gates of its axis off, whoever drives them (R142). -/
theorem State.gatesAreOff_of_tripped (hn : n < 6) (h : (s.axis l n).tripped = true) : s.gatesAreOff l (3 * n) 3 := by
  intro i lo hi
  have own : i / 3 = n := by omega
  have axisCell : i < 18 := by omega
  have blocked := State.axDrives_of_blocked (State.axisBlocked_of_tripped h)
  exact State.gateOn_of_not_cellFree (by simp [State.cellFree, own, axisCell, h, blocked])

theorem State.running_of_axOn (hon : s.axOn l n = true) : s.running l.lane = true := by
  simp only [State.axOn, Bool.and_eq_true] at hon
  exact hon.1

/-- The cells of an enabled axis are enabled (R270). -/
theorem State.cellEn_of_axOn (hn : n < 6) (hon : s.axOn l n = true) : s.cellEn l (3 * n) = true := by
  have first : 3 * n < 18 ∧ 3 * n / 3 = n := by omega
  simp only [State.axOn, Bool.and_eq_true] at hon
  simp [State.cellEn, State.ownerEn, first, hon]

end Sys2Proof.Machine
end

section
/-! PROOF. Faults of a drive, and its enable. -/

namespace Sys2Proof.Machine

open Sys2Proof

section

variable {s : State} {l : DLane}

/-! PEAK_TRIP (R142) -/

/-- A counter seen while no trip stands moves the axis's counter, and commands no gate. -/
theorem State.axTurn_of_untripped {n : Nat} (h : (s.axis l n).tripped = false) (rising : Bool) (c : Nat) :
    ∃ x, s.axTurn l n rising c = s.setAxis l n x ∧ x.tripped = false ∧
      x.pwm = (s.axis l n).pwm.moveTo (s.halfClocks l n) rising c := by
  unfold State.axTurn
  dsimp only
  split
  · exact ⟨_, rfl, h, rfl⟩
  · rw [h]
    exact ⟨_, rfl, rfl, rfl⟩

/-- The axis with a trip: all its gates off until the next half-period, and one more half-period with a trip in a row (R142, R143). -/
def AxisSt.trip (x : AxisSt) : AxisSt :=
  { x with tripped := true, ocpRun := x.ocpRun + 1, pwm := { x.pwm with hs := [false, false, false] } }

/-- A voltage above the threshold, outside the blanking, trips the axis: its gates follow, and the trip is shown and counted. -/
theorem execPeakTrip_of_above {n : Fin 6} {ph : Fin 3} {rising : Bool} {c uv : Nat} (hon : s.axOn l n.val = true)
    (htrip : (s.axis l n.val).tripped = false) (hcount : pwmCount (s.halfClocks l n.val) rising c = true)
    (habove : s.fg (axB l n.val) AX.OCP_THR * 1250 < uv)
    (hblank : ∀ e, (s.axis l n.val).pwm.edges.getD ph.val none = some e →
      e + s.fg (axB l n.val) AX.OCP_BLANK ≤ ((s.axis l n.val).pwm.moveTo (s.halfClocks l n.val) rising c).clk) :
    ∃ w, s.WithinDrive w ∧ w.regs = s.regs ∧ (w.axis l n.val).tripped = true ∧
      execPeakTrip l n ph rising c uv s =
        .next (((w.axGates l n.val).fs (axB l n.val) AX.EVT_OCP 1).fInc (axB l n.val) AX.COUNT_OCP) := by
  obtain ⟨x, turned, clear, moved⟩ := State.axTurn_of_untripped htrip rising c
  have edges : x.pwm.edges = (s.axis l n.val).pwm.edges := by rw [moved]; rfl
  have unblanked : (s.setAxis l n.val x).blanked l n.val ph.val x.pwm.clk = false := by
    unfold State.blanked
    rw [State.axis_setAxis_same, State.setAxis_fg, edges, moved]
    split
    · rfl
    · next e he => exact decide_eq_false (Nat.not_lt.mpr (hblank e he))
  have trips : ¬ (x.tripped || decide (uv ≤ s.fg (axB l n.val) AX.OCP_THR * 1250) ||
      (s.setAxis l n.val x).blanked l n.val ph.val x.pwm.clk) = true := by
    simp [clear, unblanked, habove]
  have within := ((State.WithinDrive.refl s).setAxis l n.val x).setAxis l n.val x.trip
  have runs := ((within.axGates l n.val).running l.lane).trans (State.running_of_axOn hon)
  refine ⟨_, within, rfl, by rw [State.axis_setAxis_same]; rfl, ?_⟩
  simp only [execPeakTrip, State.cellEn_of_axOn n.isLt hon, hon, hcount, turned, State.axis_setAxis_same, State.setAxis_fg,
    Bool.not_true, Bool.false_eq_true, Bool.and_self, if_true, if_false, if_neg trips]
  exact congrArg _ (if_pos runs)

/-- What the trip leaves: the axis is tripped, EVT.OCP is set, COUNT.OCP has counted, and nothing outside the drive has changed. -/
theorem State.trip_spec {w : State} {n : Nat} (hn : n < 6) (within : s.WithinDrive w) (regs : w.regs = s.regs)
    (tripped : (w.axis l n).tripped = true) {t : State}
    (ht : t = ((w.axGates l n).fs (axB l n) AX.EVT_OCP 1).fInc (axB l n) AX.COUNT_OCP) :
    s.WithinDrive t ∧ (t.axis l n).tripped = true ∧ t.fb (axB l n) AX.EVT_OCP = true ∧
      t.fg (axB l n) AX.COUNT_OCP = min (2 ^ AX.COUNT_OCP.w - 1) (s.fg (axB l n) AX.COUNT_OCP + 1) := by
  obtain ⟨-, -, -, same, e, axis⟩ := w.axGates_follows l n
  subst ht
  refine ⟨((within.axGates l n).fs _ _ _).fInc _ _, ?_, ?_, ?_⟩
  · rw [State.fInc_axis, State.fs_axis, axis]
    exact tripped
  · rw [State.fb, State.fg_fInc_apart _ (by decide) (by decide), ← State.fb, State.fb_fs_one _ _ (by decide) (by decide)]
  · rw [State.fg_fInc_same _ _ _ (by decide), State.fg_fs_apart _ _ (by decide) (by decide),
      same.fg (axB_not_mem_axisSources l n hn _ (by decide)), State.fg, State.reg, regs]
    rfl

/-- A voltage not above the threshold leaves registers and cells, and trips nothing. -/
theorem execPeakTrip_of_below {n : Fin 6} {uv : Nat} (ph : Fin 3) (rising : Bool) (c : Nat)
    (hbelow : uv ≤ s.fg (axB l n.val) AX.OCP_THR * 1250) (htrip : (s.axis l n.val).tripped = false) :
    ∃ t, execPeakTrip l n ph rising c uv s = .next t ∧ t.regs = s.regs ∧ t.cells = s.cells ∧ (t.axis l n.val).tripped = false := by
  obtain ⟨x, turned, clear, -⟩ := State.axTurn_of_untripped htrip rising c
  unfold execPeakTrip
  dsimp only
  rw [turned]
  split
  · exact ⟨s, rfl, rfl, rfl, htrip⟩
  · split
    · exact ⟨s.setAxis l n.val x, by simp [hbelow], rfl, rfl, by rw [State.axis_setAxis_same, clear]⟩
    · exact ⟨s, by simp [hbelow], rfl, rfl, htrip⟩

/-! Faults that an axis raises (R138, R143, R144, R152) -/

/-- A known source of a running lane that names its lane is raised. -/
theorem State.raiseL_of_running (s : State) {l : Lane} {src c : Nat} (inst : Nat) (hrun : s.running l = true)
    (hc : defaultClass (.lane l) src = some c) :
    s.raiseL l src inst = { s with evq := s.evq ++ [s.stamp { coll := .lane l, src := src, inst := inst, res := resLane l }] } :=
  s.raise_of_lane rfl hc (State.reset_of_running hrun)

/-- A fault shown in a flag of the axis and raised changes that flag and the events. -/
theorem State.flagAndRaise_completes {i : Instr} {n src c : Nat} {f : Fld} (hrun : s.running l.lane = true)
    (he : exec i s = .next ((s.fs (axB l n) f 1).raiseL l.lane src n)) (hc : defaultClass (.lane l.lane) src = some c)
    (hf : f.lo + f.w ≤ 32) (hw : f.w ≠ 0) :
    Completes i s fun t => t.fb (axB l n) f = true ∧ SameRegistersBut s t [axB l n + f.ofs] ∧ t.mem = s.mem ∧
      t.evq = s.evq ++ [s.stamp { coll := .lane l.lane, src := src, inst := n, res := resLane l.lane }] := by
  refine ⟨_, he, ?_, ?_, ?_, ?_⟩
  · rw [State.raiseL_fb, State.fb_fs_one _ _ hf hw]
  · exact ((SameRegistersBut.refl s _).fs 1 (List.mem_singleton.mpr rfl)).of_regs (State.raiseL_regs ..)
  · rw [State.raiseL_mem, State.fs_mem]
  · exact congrArg State.evq (State.raiseL_of_running (s.fs (axB l n) f 1) n hrun hc)

/-- The axis whose cells LIMIT trips in a row keep off (R143). -/
def AxisSt.limited (x : AxisSt) : AxisSt := { x with ocOff := true }

theorem execAxOvercurrent_of_limit {n : Fin 6} (hon : s.axOn l n.val = true) (hoff : (s.axis l n.val).ocOff = false)
    (hrun : 1 ≤ (s.axis l n.val).ocpRun) (hlimit : s.fg (axB l n.val) AX.OCP_LIMIT ≤ (s.axis l n.val).ocpRun) :
    execAxOvercurrent l n s = .next ((s.setAxis l n.val (s.axis l n.val).limited).raiseL l.lane 0xa0 n.val) := by
  simp [execAxOvercurrent, AxisSt.limited, hon, hoff, Nat.ne_of_gt hrun, Nat.not_lt.mpr hlimit]

/-! AX_EN_WRITE (R131, R144) -/

/-- CTRL.EN of an axis lies in another register than the phase of its calibration. -/
theorem ctrl_ne_mapPhase {n : Nat} (hn : n < 6) : axB l n + AX.CTRL_EN.ofs ≠ calB l.lane + 16 * n + CAL.MAP_PHASE.ofs := by
  cases l <;> simp only [axB, calB, key, dno, DLane.lane, laneNo, AX.CTRL_EN, CAL.MAP_PHASE] <;> omega

/-- What starting the alignment and the calibration of an axis leaves: all outside its drive, CTRL.EN and the integrators. -/
structure State.StartsAxis (s t : State) (l : DLane) (n : Nat) : Prop where
  within : s.WithinDrive t
  en : t.fb (axB l n) AX.CTRL_EN = s.fb (axB l n) AX.CTRL_EN
  intD : (t.axis l n).intD = (s.axis l n).intD
  intQ : (t.axis l n).intQ = (s.axis l n).intQ

namespace State.StartsAxis

variable {t u : State} {n : Nat}

theorem refl (s : State) (l : DLane) (n : Nat) : s.StartsAxis s l n := ⟨.refl s, rfl, rfl, rfl⟩

theorem trans (h : s.StartsAxis t l n) (g : t.StartsAxis u l n) : s.StartsAxis u l n :=
  ⟨h.within.trans g.within, g.en.trans h.en, g.intD.trans h.intD, g.intQ.trans h.intQ⟩

theorem ite {p : Prop} [Decidable p] (ht : s.StartsAxis t l n) (hu : s.StartsAxis u l n) : s.StartsAxis (if p then t else u) l n := by
  split
  · exact ht
  · exact hu

theorem setAlign (h : s.StartsAxis t l n) (a : Nat) : s.StartsAxis (t.setAlign l n a) l n :=
  h.trans ⟨(WithinDrive.refl t).fs _ _ _, State.fb_fs_apart _ _ (by decide) (by decide), rfl, rfl⟩

/-- The axis is replaced by one with its integrators. -/
theorem setAxis (h : s.StartsAxis t l n) {x : AxisSt} (hd : x.intD = (t.axis l n).intD) (hq : x.intQ = (t.axis l n).intQ) :
    s.StartsAxis (t.setAxis l n x) l n :=
  h.trans ⟨(WithinDrive.refl t).setAxis l n x, rfl, by rw [State.axis_setAxis_same, hd], by rw [State.axis_setAxis_same, hq]⟩

theorem alignKeep (h : s.StartsAxis t l n) : s.StartsAxis (t.alignKeep l n) l n := by
  unfold State.alignKeep
  dsimp only
  split
  · split
    · exact (h.setAxis (by rfl) (by rfl)).setAlign 2
    · exact h.setAxis (by rfl) (by rfl)
  · exact h

theorem alignStart (h : s.StartsAxis t l n) : s.StartsAxis (t.alignStart l n) l n := by
  have kept := ite (p := t.fbOn l n = true) h.alignKeep h
  exact ite (kept.setAlign 1) kept

theorem calBegin (h : s.StartsAxis t l n) (hn : n < 6) : s.StartsAxis (t.calBegin l n) l n := by
  refine ite (h.trans ⟨((WithinDrive.refl t).setCal _ _ _).fs _ _ _, ?_, rfl, rfl⟩) h
  rw [State.fb, State.fg_fs_of_ne _ _ (ctrl_ne_mapPhase hn)]
  rfl

end State.StartsAxis

theorem State.axDisable_within (s : State) (l : DLane) (n : Nat) : s.WithinDrive (s.axDisable l n) :=
  ((((State.WithinDrive.refl s).setAxis l n _).axGates l n).fs _ _ _).setCal l n _ |>.fs _ _ _

theorem State.axDisable_en (s : State) (l : DLane) {n : Nat} (hn : n < 6) : (s.axDisable l n).fb (axB l n) AX.CTRL_EN = false := by
  rw [State.axDisable, State.calEnd, State.fb, State.fg_fs_of_ne _ _ (ctrl_ne_mapPhase hn), State.setCal_fg,
    State.fg_fs_fits _ _ (by decide) (by decide)]
  rfl

/-- A disabled axis has its gates off where no position-hold regulator drives its cells (R131). -/
theorem State.axDisable_gatesAreOff {n : Nat} (hn : n < 6) (held : s.heldCell l (3 * n) = false) :
    (s.axDisable l n).gatesAreOff l (3 * n) 3 :=
  State.gatesAreOff_of_not_axDrives hn (((s.axDisable_within l n).heldCell l _).trans held)
    (by simp [State.axDrives, State.axOn, State.axDisable_en s l hn])

/-- The axis as it is enabled: its integrators 0, and no record or update yet (R131, R144). -/
def AxisSt.enabled (x : AxisSt) : AxisSt := { x with intD := 0, intQ := 0, since := 0, upd := 1 }

section

variable {n : Fin 6} {v : Word} (hrun : s.running l.lane = true) (hlock : (s.lane l.lane).locked = false)

include hrun hlock

theorem execAxEnWrite_of_zero (hv : v.getLsbD 0 = false) : execAxEnWrite l n v s = .next (s.axDisable l n.val) := by
  simp only [execAxEnWrite, hrun, hlock, hv, Bool.not_true, Bool.or_false, Bool.false_eq_true, Bool.not_false, if_false, if_true]

theorem execAxEnWrite_of_bad (hv : v.getLsbD 0 = true) (hcfg : s.axCfgOk l n.val = false) :
    execAxEnWrite l n v s =
      .next ((if s.fb (axB l n.val) AX.CTRL_EN then s.axDisable l n.val else s).raiseL l.lane 0xa7 n.val) := by
  simp [execAxEnWrite, hrun, hlock, hv, hcfg]

theorem execAxEnWrite_of_ok (hv : v.getLsbD 0 = true) (hen : s.fb (axB l n.val) AX.CTRL_EN = false)
    (hcfg : s.axCfgOk l n.val = true) :
    execAxEnWrite l n v s =
      .next ((((s.fs (axB l n.val) AX.CTRL_EN 1).setAxis l n.val (s.axis l n.val).enabled).alignStart l n.val).calBegin l n.val) := by
  simp [execAxEnWrite, hrun, hlock, hv, hen, hcfg, AxisSt.enabled]

end

/-- Each condition of R131 refuses the enable. -/
theorem State.axCfgOk_of_condition {n : Nat} (h : s.fg (axB l n) AX.COMM_PP = 0 ∨ s.fg (axB l n) AX.CPR_CPR = 0 ∨
      s.fg (axB l n) AX.ISCALE_ISCALE = 0 ∨ s.fg (axB l n) AX.ILIM_WIND = 0 ∨ s.fg (axB l n) AX.ILIM_FULL = 0 ∨
      s.fg (axB l n) AX.SENSCFG_OSR < 8 ∨ 256 < s.fg (axB l n) AX.SENSCFG_OSR ∨
      s.sk.t < 25 * 2 ^ s.fg (axB l n) AX.PWMCFG_DIV) : s.axCfgOk l n = false := by
  unfold State.axCfgOk within
  rcases h with h | h | h | h | h | h | h | h <;> simp [h]

end

/-! The obligation -/

/-- Settles O29: a trip blocks its axis whoever drives it, each fault sets its flag and raises its event, and a write of EN either
disables the axis, refuses the enable or starts the axis anew. A refused write over EN = 1 disables the axis (model's choice,
assumption 134; R131 speaks of EN = 0). -/
theorem driveFaultsAndEnable : Obligations.DriveFaultsAndEnable := by
  unfold Obligations.DriveFaultsAndEnable
  refine ⟨⟨?trip, ?below, ?limit, ?saturated, ?range, ?timeout⟩, ?enables, ?refused, ?refusedOver, ?disables, ?conditions⟩
  case trip =>
    intro l n ph rising c uv s hon htrip hcount habove hblank
    obtain ⟨w, inW, regs, tripped, he⟩ := execPeakTrip_of_above hon htrip hcount habove hblank
    obtain ⟨within, tripped, evt, count⟩ := State.trip_spec n.isLt inW regs tripped rfl
    exact ⟨_, (exec_peakTrip ..).trans he, State.gatesAreOff_of_tripped n.isLt tripped, tripped, evt, count,
      State.axisBlocked_of_tripped tripped, within.evq, within.mem, within.sk⟩
  case below =>
    intro l n ph rising c uv s hbelow htrip
    exact execPeakTrip_of_below ph rising c hbelow htrip
  case limit =>
    intro l n s hon hoff hone hlimit held
    have he := execAxOvercurrent_of_limit hon hoff hone hlimit
    rw [State.raiseL_of_running (s.setAxis ..) _ (State.running_of_axOn hon) rfl] at he
    have blocked : (s.setAxis l n.val (s.axis l n.val).limited).axisBlocked l n.val = true := by
      simp [State.axisBlocked, AxisSt.limited]
    exact ⟨_, (exec_axOvercurrent ..).trans he,
      State.gatesAreOff_of_not_axDrives n.isLt held (State.axDrives_of_blocked blocked), blocked, rfl, rfl, rfl⟩
  case saturated =>
    intro l n s hon hsat
    exact State.flagAndRaise_completes (State.running_of_axOn hon) (by simp [execAxSatLong, hon, hsat]) rfl (by decide) (by decide)
  case range =>
    intro l n s hon hrng
    exact State.flagAndRaise_completes (State.running_of_axOn hon) (by simp [execAxSenseRange, hon, hrng]) rfl (by decide) (by decide)
  case timeout =>
    intro l n s hon hlim hsince
    exact State.flagAndRaise_completes (State.running_of_axOn hon) (by simp [execAxRecTimeout, hon, hlim, hsince]) rfl (by decide)
      (by decide)
  case enables =>
    intro l n v s hrun hlock hv hen hcfg
    set u := (s.fs (axB l n.val) AX.CTRL_EN 1).setAxis l n.val (s.axis l n.val).enabled
    have started := ((State.StartsAxis.refl u l n.val).alignStart).calBegin n.isLt
    have within := (((State.WithinDrive.refl s).fs _ _ _).setAxis _ _ _).trans started.within
    have on : u.fb (axB l n.val) AX.CTRL_EN = true := State.fb_fs_one s _ (by decide) (by decide)
    have axis : u.axis l n.val = (s.axis l n.val).enabled := State.axis_setAxis_same ..
    exact ⟨_, (exec_axEnWrite ..).trans (execAxEnWrite_of_ok hrun hlock hv hen hcfg), started.en.trans on,
      started.intD.trans (by rw [axis]; rfl), started.intQ.trans (by rw [axis]; rfl), within.evq, within.mem, within.sk⟩
  case refused =>
    intro l n v s hrun hlock hv hen hcfg
    have he := execAxEnWrite_of_bad (n := n) hrun hlock hv hcfg
    rw [hen, if_neg Bool.false_ne_true] at he
    exact ⟨_, (exec_axEnWrite ..).trans he, State.raiseL_of_running _ _ hrun rfl⟩
  case refusedOver =>
    intro l n v s hrun hlock hv hen hcfg
    have he := execAxEnWrite_of_bad (n := n) hrun hlock hv hcfg
    have within := s.axDisable_within l n.val
    rw [hen, if_pos rfl, State.raiseL_of_running _ _ ((within.running _).trans hrun) rfl, within.evq, within.stamp] at he
    exact ⟨_, (exec_axEnWrite ..).trans he, State.axDisable_en s l n.isLt, within.mem, within.sk, rfl⟩
  case disables =>
    intro l n v s hrun hlock hv held
    have within := s.axDisable_within l n.val
    exact ⟨_, (exec_axEnWrite ..).trans (execAxEnWrite_of_zero hrun hlock hv), State.axDisable_en s l n.isLt,
      State.axDisable_gatesAreOff n.isLt held, within.evq, within.mem, within.sk⟩
  case conditions => exact fun l n s h => State.axCfgOk_of_condition h

end Sys2Proof.Machine
end

section
/-! SUPPORT. What follows a change of a feedback unit: its compare units, its speed, its latch and the angle of its axis; and what a
move of its position leaves (R164, R165, R183 to R191). -/

namespace Sys2Proof.Machine

open Sys2Proof

/-! Registers of a feedback unit -/

/-- The registers of feedback unit n that its compare units write: EVT and each CMPj_CFG. -/
def compareRegs (l : DLane) (n : Nat) : List Nat :=
  (fuB l n + FB.EVT_CMP.ofs) :: (List.range 8).map fun j => fuB l n + 16 * j + FB.CMP_CFG_ARM.ofs

/-- The registers that show what follows a change of feedback unit n. -/
def followRegs (l : DLane) (n : Nat) : List Nat :=
  (axB l n + AX.STATUS_ALIGN.ofs) :: (fuB l n + FB.SPEED_VALUE.ofs) :: compareRegs l n

theorem mem_compareRegs (l : DLane) (n : Nat) {j : Nat} (hj : j < 8) :
    fuB l n + 16 * j + FB.CMP_CFG_ARM.ofs ∈ compareRegs l n :=
  List.mem_cons_of_mem _ (List.mem_map.mpr ⟨j, List.mem_range.mpr hj, rfl⟩)

theorem compareRegs_subset_followRegs (l : DLane) (n : Nat) : compareRegs l n ⊆ followRegs l n := fun _ h => by simp [followRegs, h]

/-- A register below the compare units is one of theirs only as EVT. -/
theorem not_mem_compareRegs (l : DLane) (n : Nat) {i : Nat} (hi : i < 0x100) (he : i ≠ FB.EVT_CMP.ofs) : fuB l n + i ∉ compareRegs l n := by
  simp only [compareRegs, List.mem_cons, List.mem_map, List.mem_range, FB.CMP_CFG_ARM, not_or, not_exists, not_and]
  exact ⟨by omega, fun j hj => by omega⟩

theorem laneNo_lane (l : DLane) : laneNo l.lane = dno l := by cases l <;> rfl

/-- The blocks of feedback units and of axes lie apart. -/
theorem fuB_ne_axB (l : DLane) {n m i j : Nat} (hm : m < 6) (hj : j < 0x1000) : fuB l n + i ≠ axB l m + j := by
  simp only [fuB, fbB, axB, key, laneNo_lane]
  omega

theorem axB_not_mem_compareRegs (l : DLane) {n m j : Nat} (hm : m < 6) (hj : j < 0x1000) : axB l m + j ∉ compareRegs l n := by
  simp only [compareRegs, List.mem_cons, List.mem_map, List.mem_range, not_or, not_exists, not_and, Nat.add_assoc]
  exact ⟨(fuB_ne_axB l hm hj).symm, fun j' _ => fuB_ne_axB l hm hj⟩

/-! The quality of the position (R166) -/

section

variable (s : State) (b : Nat)

theorem State.doubt_only_regs : ∃ rs, s.doubt b = { s with regs := rs } := by
  unfold State.doubt
  split
  · exact ⟨_, rfl⟩
  · exact ⟨_, rfl⟩

@[simp] theorem State.doubt_evq : (s.doubt b).evq = s.evq := by obtain ⟨_, h⟩ := s.doubt_only_regs b; rw [h]
@[simp] theorem State.doubt_mem : (s.doubt b).mem = s.mem := by obtain ⟨_, h⟩ := s.doubt_only_regs b; rw [h]
@[simp] theorem State.doubt_fbu (l : DLane) (n : Nat) : (s.doubt b).fbu l n = s.fbu l n := by obtain ⟨_, h⟩ := s.doubt_only_regs b; rw [h]; rfl
@[simp] theorem State.doubt_running (l : Lane) : (s.doubt b).running l = s.running l := by obtain ⟨_, h⟩ := s.doubt_only_regs b; rw [h]; rfl
@[simp] theorem State.doubt_stamp (e : Event) : (s.doubt b).stamp e = s.stamp e := by obtain ⟨_, h⟩ := s.doubt_only_regs b; rw [h]; rfl

theorem State.doubt_posq : (s.doubt b).fg b FB.STATUS_POSQ = if s.fg b FB.STATUS_POSQ = 1 then 2 else s.fg b FB.STATUS_POSQ := by
  unfold State.doubt
  split
  · exact s.fg_fs_fits b (by decide) (by decide)
  · rfl

theorem State.fg_doubt_apart {f : Fld} (h : FB.STATUS_POSQ.apart f = true) : (s.doubt b).fg b f = s.fg b f := by
  unfold State.doubt
  split
  · exact s.fg_fs_apart 2 (by decide) h
  · rfl

theorem SameRegistersBut.doubt {t : State} {ks : List Nat} (h : SameRegistersBut s t ks) (hk : b + FB.STATUS_POSQ.ofs ∈ ks) :
    SameRegistersBut s (t.doubt b) ks := by
  unfold State.doubt
  split
  · exact h.fs 2 hk
  · exact h

end

/-! What follows a change -/

/-- x with the history, the speed, the latch and the compare units of y. -/
def FbSt.sampled (x y : FbSt) : FbSt :=
  { x with
    hist := y.hist, spdNum := y.spdNum, spdDen := y.spdDen, spdVal := y.spdVal, spdProv := y.spdProv, cmpAt := y.cmpAt
    cmpFired := y.cmpFired, latT := y.latT, latPos := y.latPos, latStatus := y.latStatus, latSpd := y.latSpd, latProv := y.latProv }

section

variable (x y : FbSt)

@[simp] theorem FbSt.sampled_t : (x.sampled y).t = x.t := rfl
@[simp] theorem FbSt.sampled_pos : (x.sampled y).pos = x.pos := rfl
@[simp] theorem FbSt.sampled_nc : (x.sampled y).nc = x.nc := rfl
@[simp] theorem FbSt.sampled_retPend : (x.sampled y).retPend = x.retPend := rfl

end

/-- What follows from a change of unit n leaves: all but registers, axes, feedback units and fired triggers; the unit but for its history,
its speed, its latch and its compare units; the registers but those listed; and of EVT all but CMP. -/
structure State.FbFollows (s t : State) (l : DLane) (n : Nat) (ks : List Nat) : Prop where
  rest : ∃ rs xs us fr, t = { s with regs := rs, axes := xs, fbs := us, fired := fr }
  unit : ∃ y, t.fbu l n = (s.fbu l n).sampled y
  regs : SameRegistersBut s t ks
  evt : ∀ f : Fld, f.ofs = FB.EVT_CMP.ofs → FB.EVT_CMP.apart f = true → t.fg (fuB l n) f = s.fg (fuB l n) f

namespace State.FbFollows

variable {s t u : State} {l : DLane} {n : Nat} {ks : List Nat}

theorem refl (s : State) (l : DLane) (n : Nat) (ks : List Nat) : s.FbFollows s l n ks :=
  ⟨⟨_, _, _, _, rfl⟩, ⟨s.fbu l n, rfl⟩, .refl _ _, fun _ _ _ => rfl⟩

theorem trans (h : s.FbFollows t l n ks) (g : t.FbFollows u l n ks) : s.FbFollows u l n ks := by
  refine ⟨?_, ?_, h.regs.trans g.regs, fun f hf ha => (g.evt f hf ha).trans (h.evt f hf ha)⟩
  · obtain ⟨_, _, _, _, rfl⟩ := h.rest
    obtain ⟨_, _, _, _, rfl⟩ := g.rest
    exact ⟨_, _, _, _, rfl⟩
  · obtain ⟨y, hy⟩ := h.unit
    obtain ⟨z, hz⟩ := g.unit
    exact ⟨z, hz.trans (by rw [hy]; rfl)⟩

theorem mono {js : List Nat} (h : s.FbFollows t l n ks) (hjk : ks ⊆ js) : s.FbFollows t l n js :=
  ⟨h.rest, h.unit, h.regs.mono hjk, h.evt⟩

theorem mem (h : s.FbFollows t l n ks) : t.mem = s.mem := by obtain ⟨_, _, _, _, rfl⟩ := h.rest; rfl
theorem evq (h : s.FbFollows t l n ks) : t.evq = s.evq := by obtain ⟨_, _, _, _, rfl⟩ := h.rest; rfl
theorem sk (h : s.FbFollows t l n ks) : t.sk = s.sk := by obtain ⟨_, _, _, _, rfl⟩ := h.rest; rfl

theorem position (h : s.FbFollows t l n ks) : (t.fbu l n).t = (s.fbu l n).t := by obtain ⟨_, hy⟩ := h.unit; rw [hy, FbSt.sampled_t]

/-- A field below the compare units reads as before, unless it is EVT.CMP or the speed. -/
theorem fg (h : s.FbFollows t l n (followRegs l n)) (hn : n < 6) {f : Fld} (hofs : f.ofs < 0x100) (hc : FB.EVT_CMP.apart f = true)
    (hs : f.ofs ≠ FB.SPEED_VALUE.ofs) : t.fg (fuB l n) f = s.fg (fuB l n) f := by
  by_cases he : f.ofs = FB.EVT_CMP.ofs
  · exact h.evt f he hc
  · refine h.regs.fg ?_
    simp only [followRegs, List.mem_cons, not_or]
    exact ⟨fuB_ne_axB l hn (by decide), by omega, not_mem_compareRegs l n hofs he⟩

theorem fb (h : s.FbFollows t l n (followRegs l n)) (hn : n < 6) {f : Fld} (hofs : f.ofs < 0x100) (hc : FB.EVT_CMP.apart f = true)
    (hs : f.ofs ≠ FB.SPEED_VALUE.ofs) : t.fb (fuB l n) f = s.fb (fuB l n) f := by
  rw [State.fb, State.fb, h.fg hn hofs hc hs]

/-- A field of a register that the list names is set. -/
theorem fs (h : s.FbFollows t l n ks) {b : Nat} {f : Fld} (v : Nat) (hk : b + f.ofs ∈ ks) (he : b + f.ofs ≠ fuB l n + FB.EVT_CMP.ofs) :
    s.FbFollows (t.fs b f v) l n ks :=
  h.trans ⟨⟨_, _, _, _, rfl⟩, ⟨t.fbu l n, rfl⟩, (SameRegistersBut.refl _ _).fs v hk,
    fun g hg _ => t.fg_fs_of_ne v (by rw [hg]; exact he.symm)⟩

theorem setAxis (h : s.FbFollows t l n ks) (d : DLane) (m : Nat) (x : AxisSt) : s.FbFollows (t.setAxis d m x) l n ks :=
  h.trans ⟨⟨_, _, _, _, rfl⟩, ⟨t.fbu l n, rfl⟩, fun _ _ => rfl, fun _ _ _ => rfl⟩

/-- The unit takes another history, speed or latch, or other compare units. -/
theorem setFbu (h : s.FbFollows t l n ks) {x : FbSt} (hx : x = (t.fbu l n).sampled x) : s.FbFollows (t.setFbu l n x) l n ks :=
  h.trans ⟨⟨_, _, _, _, rfl⟩, ⟨x, by rw [State.fbu_setFbu_same]; exact hx⟩, fun _ _ => rfl, fun _ _ _ => rfl⟩

theorem trig (h : s.FbFollows t l n ks) (d : Lane) (i : Nat) : s.FbFollows (t.trig d i) l n ks :=
  h.trans ⟨⟨_, _, _, _, t.trig_eq d i⟩, ⟨t.fbu l n, t.trig_fbu d i l n⟩, fun k _ => t.trig_reg d i k, fun f _ _ => t.trig_fg d i _ f⟩

theorem ite {p : Prop} [Decidable p] (ht : s.FbFollows t l n ks) (hu : s.FbFollows u l n ks) :
    s.FbFollows (if p then t else u) l n ks := by
  split
  · exact ht
  · exact hu

end State.FbFollows

/-! Compare units (R189 to R191) -/

section

variable {s t : State} {l : DLane} {n j : Nat}

/-- A field of a CMPj_CFG is set. -/
theorem State.FbFollows.fsCmp (h : s.FbFollows t l n (compareRegs l n)) {f : Fld} (hj : j < 8) (hf : f.ofs = FB.CMP_CFG_ARM.ofs) (v : Nat) :
    s.FbFollows (t.fs (fuB l n + 16 * j) f v) l n (compareRegs l n) := by
  refine h.fs v (hf ▸ mem_compareRegs l n hj) ?_
  rw [hf]
  simp only [FB.CMP_CFG_ARM, FB.EVT_CMP]
  omega

theorem State.FbFollows.fsEvtCmp (h : s.FbFollows t l n (compareRegs l n)) (v : Nat) :
    s.FbFollows (t.fs (fuB l n) FB.EVT_CMP v) l n (compareRegs l n) :=
  h.trans ⟨⟨_, _, _, _, rfl⟩, ⟨t.fbu l n, rfl⟩, (SameRegistersBut.refl _ _).fs v List.mem_cons_self,
    fun _ _ ha => t.fg_fs_apart v (by decide) ha⟩

theorem State.FbFollows.fIncCmp (h : s.FbFollows t l n (compareRegs l n)) {f : Fld} (hj : j < 8) (hf : f.ofs = FB.CMP_CFG_ARM.ofs) :
    s.FbFollows (t.fInc (fuB l n + 16 * j) f) l n (compareRegs l n) :=
  .ite (h.fsCmp hj hf _) (h.fsCmp hj hf _)

/-- The unit once its compare unit j has fired. -/
def FbSt.hit (x : FbSt) (j : Nat) : FbSt := { x with cmpFired := x.cmpFired ||| 2 ^ j }

/-- Compare unit j has fired; it is still armed. -/
def State.cmpHit (s : State) (l : DLane) (n j : Nat) : State :=
  let k := fuB l n + 16 * j
  let s := s.fs (fuB l n) FB.EVT_CMP (s.fg (fuB l n) FB.EVT_CMP ||| 2 ^ j)
  let s := ((s.fs k FB.CMP_CFG_FIRED 1).fInc k FB.CMP_CFG_FIRES).trig l.lane (8 + n)
  s.setFbu l n ((s.fbu l n).hit j)

/-- The next value of a compare unit that repeats (R191). -/
def State.cmpNext (s : State) (l : DLane) (n j : Nat) (v : Int) : State :=
  s.setFbu l n { s.fbu l n with cmpAt := famSet (fun _ => (0 : Int)) (s.fbu l n).cmpAt j v }

theorem State.cmpFire_succ (s : State) (l : DLane) (n j : Nat) (p q : Int) (k : Nat) : s.cmpFire l n j p q (k + 1) =
    if s.fb (fuB l n + 16 * j) FB.CMP_CFG_ARM && crosses (s.fg (fuB l n + 16 * j) FB.CMP_CFG_DIR) p q
        (famGet (fun _ => (0 : Int)) (s.fbu l n).cmpAt j) then
      if (s.cmpHit l n j).fb (fuB l n + 16 * j) FB.CMP_CFG_REPEAT then
        let step := (s.cmpHit l n j).fi (fuB l n + 16 * j) FB.CMP_STEP_STEP
        let next := (s.cmpHit l n j).cmpNext l n j (famGet (fun _ => (0 : Int)) (s.fbu l n).cmpAt j + step)
        if step = 0 then next else next.cmpFire l n j p q k
      else (s.cmpHit l n j).fs (fuB l n + 16 * j) FB.CMP_CFG_ARM 0
    else s := rfl

theorem State.FbFollows.hit (h : s.FbFollows t l n (compareRegs l n)) (j : Nat) :
    s.FbFollows (t.setFbu l n ((t.fbu l n).hit j)) l n (compareRegs l n) := h.setFbu rfl

theorem State.FbFollows.cmpNext (h : s.FbFollows t l n (compareRegs l n)) (v : Int) :
    s.FbFollows (t.cmpNext l n j v) l n (compareRegs l n) := h.setFbu rfl

theorem State.cmpHit_follows (hj : j < 8) : s.FbFollows (s.cmpHit l n j) l n (compareRegs l n) := by
  have shown := ((State.FbFollows.refl s l n _).fsEvtCmp (s.fg (fuB l n) FB.EVT_CMP ||| 2 ^ j)).fsCmp (f := FB.CMP_CFG_FIRED) hj rfl 1
  have fired := (shown.fIncCmp (f := FB.CMP_CFG_FIRES) hj rfl).trig l.lane (8 + n)
  exact fired.hit j

theorem State.cmpFire_follows (hj : j < 8) (p q : Int) (k : Nat) (s : State) :
    s.FbFollows (s.cmpFire l n j p q k) l n (compareRegs l n) := by
  induction k generalizing s with
  | zero => exact .refl ..
  | succ k ih =>
    rw [State.cmpFire_succ]
    have hit := s.cmpHit_follows (l := l) (n := n) hj
    refine State.FbFollows.ite ?_ (.refl ..)
    refine State.FbFollows.ite ?_ ?_
    · refine State.FbFollows.ite ?_ ?_
      · exact hit.cmpNext _
      · exact (hit.cmpNext _).trans (ih _)
    · exact hit.fsCmp hj rfl 0

theorem State.cmpMove_follows (s : State) (l : DLane) (n : Nat) (p q : Int) :
    s.FbFollows (s.cmpMove l n p q) l n (compareRegs l n) := by
  have all (js : List Nat) (hjs : ∀ j ∈ js, j < 8) (k : Nat) (s : State) :
      s.FbFollows (js.foldl (fun s j => s.cmpFire l n j p q k) s) l n (compareRegs l n) := by
    induction js generalizing s with
    | nil => exact .refl ..
    | cons j js ih =>
      exact (State.cmpFire_follows (hjs j List.mem_cons_self) p q k s).trans (ih (fun i hi => hjs i (List.mem_cons_of_mem _ hi)) _)
  exact .ite (.refl ..) (all _ (fun j hj => List.mem_range.mp hj) _ s)

theorem State.cmpMove_self (s : State) (l : DLane) (n : Nat) (p : Int) : s.cmpMove l n p p = s := if_pos rfl

/-- A compare unit that is not armed does nothing. -/
theorem State.cmpFire_of_unarmed (h : s.fb (fuB l n + 16 * j) FB.CMP_CFG_ARM = false) (p q : Int) (k : Nat) :
    s.cmpFire l n j p q k = s := by
  cases k <;> simp [State.cmpFire, h]

theorem State.foldl_cmpFire_of_unarmed {js : List Nat} (h : ∀ i ∈ js, s.fb (fuB l n + 16 * i) FB.CMP_CFG_ARM = false) (p q : Int) (k : Nat) :
    js.foldl (fun s j => s.cmpFire l n j p q k) s = s := by
  induction js with
  | nil => rfl
  | cons j js ih =>
    rw [List.foldl_cons, State.cmpFire_of_unarmed (h j List.mem_cons_self)]
    exact ih fun i hi => h i (List.mem_cons_of_mem _ hi)

theorem State.cmpMove_of_unarmed (h : ∀ i < 8, s.fb (fuB l n + 16 * i) FB.CMP_CFG_ARM = false) (p q : Int) : s.cmpMove l n p q = s := by
  unfold State.cmpMove
  split
  · rfl
  · exact State.foldl_cmpFire_of_unarmed (fun i hi => h i (List.mem_range.mp hi)) p q _

end

/-! The position (R164, R165) -/

theorem clampI_of_mem {lo hi x : Int} (h : lo ≤ x) (h' : x ≤ hi) : clampI lo hi x = x := by
  rw [clampI, if_neg (by omega), if_neg (by omega)]

section

variable {s : State} {l : DLane} {n : Nat} {p : Int}

theorem State.counterOf_of_mem {b : Nat} (h : s.softMin b ≤ p) (h' : p ≤ s.softMax b) : s.counterOf b p = p := clampI_of_mem h h'

theorem State.holdExcess_of_inside {b : Nat} (h : (p - s.counterOf b p).natAbs ≤ 32767) : s.holdExcess b p = p := by
  rw [State.holdExcess]
  rw [clampI_of_mem (by omega) (by omega)]
  omega

theorem State.holdExcess_of_mem {b : Nat} (h : s.softMin b ≤ p) (h' : p ≤ s.softMax b) : s.holdExcess b p = p :=
  State.holdExcess_of_inside (by rw [State.counterOf_of_mem h h']; omega)

/-- The soft limits of the unit at b read in t as in s. -/
def State.LimitsKept (s t : State) (b : Nat) : Prop := ∀ f : Fld, 0x10 ≤ f.ofs → f.ofs ≤ 0x1c → t.fg b f = s.fg b f

namespace State.LimitsKept

variable {t : State} {b : Nat}

theorem of_regs (h : t.regs = s.regs) : s.LimitsKept t b := fun f _ _ => by rw [State.fg, State.fg, State.reg, State.reg, h]

theorem fs (h : s.LimitsKept t b) {f : Fld} (hf : f.ofs < 0x10 ∨ 0x1c < f.ofs) (v : Nat) : s.LimitsKept (t.fs b f v) b :=
  fun g lo hi => (t.fg_fs_of_ne v (by omega)).trans (h g lo hi)

theorem fInc (h : s.LimitsKept t b) {f : Fld} (hf : f.ofs < 0x10 ∨ 0x1c < f.ofs) : s.LimitsKept (t.fInc b f) b := by
  unfold State.fInc
  split
  · exact h.fs hf _
  · exact h.fs hf _

theorem softMin (h : s.LimitsKept t b) : t.softMin b = s.softMin b := by
  rw [State.softMin, State.softMin, h _ (by decide) (by decide), h _ (by decide) (by decide)]

theorem softMax (h : s.LimitsKept t b) : t.softMax b = s.softMax b := by
  rw [State.softMax, State.softMax, h _ (by decide) (by decide), h _ (by decide) (by decide)]

theorem counterOf (h : s.LimitsKept t b) (p : Int) : t.counterOf b p = s.counterOf b p := by
  rw [State.counterOf, State.counterOf, h.softMin, h.softMax]

theorem holdExcess (h : s.LimitsKept t b) (p : Int) : t.holdExcess b p = s.holdExcess b p := by
  rw [State.holdExcess, State.holdExcess, h.counterOf]

end State.LimitsKept

/-- The soft limits are no registers of the compare units. -/
theorem State.LimitsKept.of_compareRegs {t : State} {n : Nat} (h : SameRegistersBut s t (compareRegs l n)) : s.LimitsKept t (fuB l n) :=
  fun f _ hi => h.fg (not_mem_compareRegs l n (by omega) (fun he => by rw [he] at hi; exact absurd hi (by decide)))

/-- The unit at true position t and counter c. -/
def FbSt.at (x : FbSt) (t c : Int) (full : Bool) : FbSt := { x with t := t, pos := c, full := full }

/-- Unit n with its position at p: its excess held, and the condition of R164. -/
def State.unitAt (s : State) (l : DLane) (n : Nat) (p : Int) : FbSt :=
  let c := s.counterOf (fuB l n) p
  let held := s.holdExcess (fuB l n) p
  (s.fbu l n).at held c (decide (32767 < (p - c).natAbs) || ((s.fbu l n).full && decide ((held - c).natAbs = 32767)))

section

variable (s : State) (l : DLane) (n : Nat) (p : Int) (x : FbSt) (t c : Int) (full : Bool)

@[simp] theorem FbSt.at_full : (x.at t c full).full = full := rfl
@[simp] theorem FbSt.at_nc : (x.at t c full).nc = x.nc := rfl
@[simp] theorem FbSt.at_retPend : (x.at t c full).retPend = x.retPend := rfl

@[simp] theorem State.unitAt_t : (s.unitAt l n p).t = s.holdExcess (fuB l n) p := rfl
@[simp] theorem State.unitAt_pos : (s.unitAt l n p).pos = s.counterOf (fuB l n) p := rfl
@[simp] theorem State.unitAt_nc : (s.unitAt l n p).nc = (s.fbu l n).nc := FbSt.at_nc ..
@[simp] theorem State.unitAt_retPend : (s.unitAt l n p).retPend = (s.fbu l n).retPend := FbSt.at_retPend ..

end

/-- The position is p and its limits have been watched; the compare units have yet to see the move. -/
def State.placed (s : State) (l : DLane) (n : Nat) (p : Int) : State :=
  let b := fuB l n
  let x := s.fbu l n
  let c := s.counterOf b p
  let s' := s.setFbu l n (s.unitAt l n p)
  let s' := if x.t = x.pos ∧ s.holdExcess b p ≠ c then (s'.fs b FB.EVT_SOFT 1).raiseL l.lane 0x43 n else s'
  if decide (32767 < (p - c).natAbs) && !x.full then ((s'.doubt b).fs b FB.EVT_EXCESS_FULL 1).raiseL l.lane 0x44 n else s'

theorem State.moveTo_eq_placed (s : State) (l : DLane) (n : Nat) (p : Int) :
    s.moveTo l n p = (s.placed l n p).cmpMove l n (s.fbu l n).pos (s.counterOf (fuB l n) p) := rfl

/-- Within the excess that can be held, leaving the range is all that is told. -/
theorem State.placed_of_inside (h : (p - s.counterOf (fuB l n) p).natAbs ≤ 32767) : s.placed l n p =
    if (s.fbu l n).t = (s.fbu l n).pos ∧ p ≠ s.counterOf (fuB l n) p then
      ((s.setFbu l n (s.unitAt l n p)).fs (fuB l n) FB.EVT_SOFT 1).raiseL l.lane 0x43 n
    else s.setFbu l n (s.unitAt l n p) := by
  simp [State.placed, State.holdExcess_of_inside h, Nat.not_lt.mpr h]

/-- A move within the soft limits is seen by the compare units alone. -/
theorem State.moveTo_of_mem (h : s.softMin (fuB l n) ≤ p) (h' : p ≤ s.softMax (fuB l n)) :
    s.moveTo l n p = (s.setFbu l n (s.unitAt l n p)).cmpMove l n (s.fbu l n).pos p := by
  have hc := State.counterOf_of_mem h h'
  rw [State.moveTo_eq_placed, State.placed_of_inside (by rw [hc]; omega), hc, if_neg fun h => h.2 rfl]

/-! What a move tells (R164, R166) -/

/-- The fields of a unit that tell of a move besides the compare units: POSQ, EVT.SOFT and EVT.EXCESS_FULL. -/
def moveFields : List Fld := [FB.STATUS_POSQ, FB.EVT_SOFT, FB.EVT_EXCESS_FULL]

/-- What telling of a move leaves: all but registers and events; the registers but STATUS and EVT; the unit's fields but those that
tell of the move; and POSQ unless it was VALID. -/
structure State.Tells (s t : State) (l : DLane) (n : Nat) : Prop where
  rest : ∃ rs es, t = { s with regs := rs, evq := es }
  regs : SameRegistersBut s t [fuB l n + FB.STATUS_POSQ.ofs, fuB l n + FB.EVT_CMP.ofs]
  field : ∀ f, (∀ g ∈ moveFields, g.apart f = true) → t.fg (fuB l n) f = s.fg (fuB l n) f
  posq : s.fg (fuB l n) FB.STATUS_POSQ ≠ 1 → t.fg (fuB l n) FB.STATUS_POSQ = s.fg (fuB l n) FB.STATUS_POSQ

namespace State.Tells

variable {t u : State}

theorem refl (s : State) (l : DLane) (n : Nat) : s.Tells s l n := ⟨⟨_, _, rfl⟩, .refl _ _, fun _ _ => rfl, fun _ => rfl⟩

theorem trans (h : s.Tells t l n) (g : t.Tells u l n) : s.Tells u l n := by
  refine ⟨?_, h.regs.trans g.regs, fun f hf => (g.field f hf).trans (h.field f hf), fun hq => ?_⟩
  · obtain ⟨_, _, rfl⟩ := h.rest
    obtain ⟨_, _, rfl⟩ := g.rest
    exact ⟨_, _, rfl⟩
  · exact (g.posq (by rwa [h.posq hq])).trans (h.posq hq)

theorem ite {c : Prop} [Decidable c] (ht : s.Tells t l n) (hu : s.Tells u l n) : s.Tells (if c then t else u) l n := by
  split
  · exact ht
  · exact hu

/-- An event of the move is shown in EVT and raised. -/
theorem flag (h : s.Tells t l n) {f : Fld} (hf : f = FB.EVT_SOFT ∨ f = FB.EVT_EXCESS_FULL) (src : Nat) :
    s.Tells ((t.fs (fuB l n) f 1).raiseL l.lane src n) l n := by
  have hofs : f.ofs = FB.EVT_CMP.ofs ∧ f.lo + f.w ≤ 32 ∧ f.apart FB.STATUS_POSQ = true ∧ f ∈ moveFields := by
    rcases hf with rfl | rfl <;> decide
  obtain ⟨evt, fits, posq, mem⟩ := hofs
  refine h.trans ⟨?_, ?_, fun g hg => ?_, fun _ => ?_⟩
  · rcases (t.fs (fuB l n) f 1).raise_cases { coll := .lane l.lane, src := src, inst := n, res := resLane l.lane } with he | he
    · exact ⟨_, _, he⟩
    · exact ⟨_, _, he⟩
  · exact ((SameRegistersBut.refl t _).fs 1 (by simp [evt])).of_regs (State.raiseL_regs ..)
  · rw [State.raiseL_fg, State.fg_fs_apart _ _ fits (hg f mem)]
  · rw [State.raiseL_fg, State.fg_fs_apart _ _ fits posq]

theorem doubt (h : s.Tells t l n) : s.Tells (t.doubt (fuB l n)) l n := by
  by_cases hq : t.fg (fuB l n) FB.STATUS_POSQ = 1
  · rw [State.doubt, if_pos hq]
    exact h.trans ⟨⟨_, _, rfl⟩, (SameRegistersBut.refl t _).fs 2 (by simp), fun g hg => t.fg_fs_apart 2 (by decide) (hg _ (by decide)),
      fun hv => absurd hq hv⟩
  · rw [State.doubt, if_neg hq]
    exact h

end State.Tells

theorem State.placed_tells (s : State) (l : DLane) (n : Nat) (p : Int) : (s.setFbu l n (s.unitAt l n p)).Tells (s.placed l n p) l n := by
  have soft := State.Tells.ite (c := (s.fbu l n).t = (s.fbu l n).pos ∧ s.holdExcess (fuB l n) p ≠ s.counterOf (fuB l n) p)
    ((State.Tells.refl (s.setFbu l n (s.unitAt l n p)) l n).flag (.inl rfl) 0x43) (.refl ..)
  exact .ite (soft.doubt.flag (.inr rfl) 0x44) soft

/-- What a move to p leaves: the unit at p with its excess held, the unit's fields that do not tell of it, POSQ unless it was VALID. -/
structure State.MovesTo (s t : State) (l : DLane) (n : Nat) (p : Int) : Prop where
  unit : ∃ y, t.fbu l n = (s.unitAt l n p).sampled y
  mem : t.mem = s.mem
  sk : t.sk = s.sk
  axis : ∀ f : Fld, f.ofs < 0x1000 → t.fg (axB l n) f = s.fg (axB l n) f
  field : ∀ f : Fld, f.ofs < 0x100 → f.ofs ≠ FB.SPEED_VALUE.ofs → (∀ g ∈ FB.EVT_CMP :: moveFields, g.apart f = true) →
    t.fg (fuB l n) f = s.fg (fuB l n) f
  posq : s.fg (fuB l n) FB.STATUS_POSQ ≠ 1 → t.fg (fuB l n) FB.STATUS_POSQ = s.fg (fuB l n) FB.STATUS_POSQ

section

variable {t : State} (h : s.MovesTo t l n p)

include h

theorem State.MovesTo.position : (t.fbu l n).t = s.holdExcess (fuB l n) p := by
  obtain ⟨y, hy⟩ := h.unit
  rw [hy, FbSt.sampled_t, State.unitAt_t]

theorem State.MovesTo.counter : (t.fbu l n).pos = s.counterOf (fuB l n) p := by
  obtain ⟨y, hy⟩ := h.unit
  rw [hy, FbSt.sampled_pos, State.unitAt_pos]

theorem State.MovesTo.nc : (t.fbu l n).nc = (s.fbu l n).nc := by
  obtain ⟨y, hy⟩ := h.unit
  rw [hy, FbSt.sampled_nc, State.unitAt_nc]

theorem State.MovesTo.retPend : (t.fbu l n).retPend = (s.fbu l n).retPend := by
  obtain ⟨y, hy⟩ := h.unit
  rw [hy, FbSt.sampled_retPend, State.unitAt_retPend]

end

theorem State.moveTo_spec (s : State) (l : DLane) (hn : n < 6) (p : Int) : s.MovesTo (s.moveTo l n p) l n p := by
  obtain ⟨⟨rs, es, hrest⟩, hregs, hfield, hposq⟩ := s.placed_tells l n p
  have after := (s.placed l n p).cmpMove_follows l n (s.fbu l n).pos (s.counterOf (fuB l n) p)
  have wide := after.mono (compareRegs_subset_followRegs l n)
  rw [← State.moveTo_eq_placed] at after wide
  obtain ⟨y, hy⟩ := after.unit
  refine ⟨⟨y, ?_⟩, ?_, ?_, fun f hf => ?_, fun f hofs hs hf => ?_, fun hq => ?_⟩
  · rw [hy, hrest]
    exact congrArg (·.sampled y) (s.fbu_setFbu_same ..)
  · rw [after.mem, hrest]; rfl
  · rw [after.sk, hrest]; rfl
  · rw [after.regs.fg (axB_not_mem_compareRegs l hn hf), hregs.fg]
    · rfl
    · simp only [List.mem_cons, List.not_mem_nil, or_false, not_or]
      exact ⟨(fuB_ne_axB l hn hf).symm, (fuB_ne_axB l hn hf).symm⟩
  · rw [wide.fg hn hofs (hf _ List.mem_cons_self) hs, hfield f fun g hg => hf g (List.mem_cons_of_mem _ hg)]
    rfl
  · rw [wide.fg hn (by decide) (by decide) (by decide), hposq hq]
    rfl

end

end Sys2Proof.Machine
end

section
/-! PROOF. The position of a feedback unit follows its edges and its index. -/

namespace Sys2Proof.Machine

open Sys2Proof

section

variable {s : State} {l : DLane} {n : Nat}

/-! Moves of the position -/

theorem State.running_of_fbOn (hon : s.fbOn l n = true) : s.running l.lane = true := by
  simp only [State.fbOn, Bool.and_eq_true] at hon
  exact hon.1

/-- A move that stays within the excess puts t there; it raises 0x043 alone, where t leaves the counter. -/
theorem State.moveTo_of_inside (hn : n < 6) (hrun : s.running l.lane = true) {p : Int} (h : (p - s.counterOf (fuB l n) p).natAbs ≤ 32767) :
    let t := s.moveTo l n p
    (t.fbu l n).t = p ∧ (t.fbu l n).pos = s.counterOf (fuB l n) p ∧
      ((s.fbu l n).t = (s.fbu l n).pos → p = s.counterOf (fuB l n) p → t.evq = s.evq) ∧
      ((s.fbu l n).t = (s.fbu l n).pos → p ≠ s.counterOf (fuB l n) p → t.fb (fuB l n) FB.EVT_SOFT = true ∧
        t.evq = s.evq ++ [s.stamp { coll := .lane l.lane, src := 0x43, inst := n, res := resLane l.lane }]) := by
  have hplaced := State.placed_of_inside h
  have after := ((s.placed l n p).cmpMove_follows l n (s.fbu l n).pos (s.counterOf (fuB l n) p)).mono (compareRegs_subset_followRegs l n)
  rw [← State.moveTo_eq_placed] at after
  have moves := s.moveTo_spec l hn p
  refine ⟨moves.position.trans (State.holdExcess_of_inside h), moves.counter, fun _ heq => ?_, fun ht hne => ⟨?_, ?_⟩⟩
  · rw [after.evq, hplaced, if_neg fun h => h.2 heq]
    rfl
  · rw [after.fb hn (by decide) (by decide) (by decide), hplaced, if_pos ⟨ht, hne⟩, State.raiseL_fb, State.fb_fs_one _ _ (by decide) (by decide)]
  · rw [after.evq, hplaced, if_pos ⟨ht, hne⟩, State.raiseL_of_running ((s.setFbu l n (s.unitAt l n p)).fs (fuB l n) FB.EVT_SOFT 1) n hrun rfl]
    rfl

/-- A count beyond the excess that can be held is lost, and 0x044 tells of the first (R164). -/
theorem State.moveTo_of_full (hrun : s.running l.lane = true) (hle : s.softMin (fuB l n) ≤ s.softMax (fuB l n))
    (ht : (s.fbu l n).t = s.softMax (fuB l n) + 32767) (hpos : (s.fbu l n).pos = s.softMax (fuB l n)) :
    let t := s.moveTo l n ((s.fbu l n).t + 1)
    (t.fbu l n).t = (s.fbu l n).t ∧ (t.fbu l n).full = true ∧ ((s.fbu l n).full = true → t.evq = s.evq) ∧
      ((s.fbu l n).full = false → LaneEvent t l.lane 0x44 n) := by
  have hc : s.counterOf (fuB l n) ((s.fbu l n).t + 1) = s.softMax (fuB l n) := by
    rw [State.counterOf, clampI, if_neg (by omega), if_pos (by omega)]
  have hheld : s.holdExcess (fuB l n) ((s.fbu l n).t + 1) = (s.fbu l n).t := by
    rw [State.holdExcess, hc, clampI, if_neg (by omega), if_pos (by omega)]
    omega
  have past : 32767 < ((s.fbu l n).t + 1 - s.softMax (fuB l n)).natAbs := by omega
  have away : ¬ ((s.fbu l n).t = (s.fbu l n).pos ∧ (s.fbu l n).t ≠ s.softMax (fuB l n)) := fun h => by omega
  have unit : (s.unitAt l n ((s.fbu l n).t + 1)).t = (s.fbu l n).t ∧ (s.unitAt l n ((s.fbu l n).t + 1)).full = true := by
    refine ⟨hheld, ?_⟩
    rw [State.unitAt, FbSt.at_full, hc, decide_eq_true past, Bool.true_or]
  have placed : s.moveTo l n ((s.fbu l n).t + 1) = if !(s.fbu l n).full then
      (((s.setFbu l n (s.unitAt l n ((s.fbu l n).t + 1))).doubt (fuB l n)).fs (fuB l n) FB.EVT_EXCESS_FULL 1).raiseL l.lane 0x44 n
      else s.setFbu l n (s.unitAt l n ((s.fbu l n).t + 1)) := by
    rw [State.moveTo_eq_placed, hc, hpos, State.cmpMove_self]
    simp only [State.placed, hc, hheld, past, if_neg away, decide_true, Bool.true_and]
  dsimp only
  rw [placed]
  cases hfull : (s.fbu l n).full with
  | true => simpa [hfull] using unit
  | false =>
    refine ⟨?_, ?_, fun h => absurd h Bool.false_ne_true, fun _ => ?_⟩
    · simpa using hheld
    · simpa using unit.2
    · exact State.laneEvent_raiseL _ n rfl (State.reset_of_running (by simpa using hrun))

/-! QUAD_EDGE (R162) -/

/-- The unit with its travel. -/
def FbSt.travelled (x : FbSt) (n : Nat) : FbSt := { x with travel := n }

/-- t is s but for its feedback units. -/
def State.SameButUnits (s t : State) : Prop := ∃ us, t = { s with fbs := us }

namespace State.SameButUnits

variable {t : State}

theorem setFbu (h : s.SameButUnits t) (d : DLane) (m : Nat) (x : FbSt) : s.SameButUnits (t.setFbu d m x) := by
  obtain ⟨_, rfl⟩ := h
  exact ⟨_, rfl⟩

theorem mem (h : s.SameButUnits t) : t.mem = s.mem := by obtain ⟨_, rfl⟩ := h; rfl
theorem sk (h : s.SameButUnits t) : t.sk = s.sk := by obtain ⟨_, rfl⟩ := h; rfl
theorem evq (h : s.SameButUnits t) : t.evq = s.evq := by obtain ⟨_, rfl⟩ := h; rfl
theorem fired (h : s.SameButUnits t) : t.fired = s.fired := by obtain ⟨_, rfl⟩ := h; rfl
theorem fg (h : s.SameButUnits t) (b : Nat) (f : Fld) : t.fg b f = s.fg b f := by obtain ⟨_, rfl⟩ := h; rfl
theorem fb (h : s.SameButUnits t) (b : Nat) (f : Fld) : t.fb b f = s.fb b f := by obtain ⟨_, rfl⟩ := h; rfl

end State.SameButUnits

/-- Counting travel changes nothing else. -/
theorem State.addTravel_spec (s : State) (l : DLane) (n k : Nat) :
    s.SameButUnits (s.addTravel l n k) ∧ ∃ travel, (s.addTravel l n k).fbu l n = (s.fbu l n).travelled travel := by
  unfold State.addTravel
  dsimp only
  split
  · exact ⟨⟨_, rfl⟩, (s.fbu l n).travel + k, s.fbu_setFbu_same ..⟩
  · exact ⟨⟨_, rfl⟩, (s.fbu l n).travel, rfl⟩

/-- The unit once it has counted an edge d at a clock: its count since EN, and the last edge (R187). -/
def FbSt.edged (x : FbSt) (d : Int) (clock : Nat) : FbSt := { x with nc := x.nc + d, edge := some (x.nc + d, clock) }

section

variable {n : Fin 6} {up : Bool} {clock : Nat} (hon : s.fbOn l n.val = true) (hquad : s.fb (fuB l n.val) FB.CTRL_QUAD = true)

include hon hquad

/-- An accepted edge moves the position; besides, the unit counts it for a home and for the speed. -/
theorem execQuadEdge_of_edge (hpsrc : s.fb (fuB l n.val) FB.CTRL_PSRC = false) {d : Int}
    (hd : d = if up = s.fb (fuB l n.val) FB.CTRL_DIR then -1 else 1) :
    ∃ t travel, execQuadEdge l n false up clock s = .next t ∧ (s.moveTo l n.val ((s.fbu l n.val).t + d)).SameButUnits t ∧
      t.fbu l n.val = (((s.moveTo l n.val ((s.fbu l n.val).t + d)).fbu l n.val).travelled travel).edged d clock := by
  obtain ⟨rest, travel, unit⟩ := (s.moveTo l n.val ((s.fbu l n.val).t + d)).addTravel_spec l n.val 1
  have edge : execQuadEdge l n false up clock s =
      .next (let t := (s.moveTo l n.val ((s.fbu l n.val).t + d)).addTravel l n.val 1
        t.setFbu l n.val ((t.fbu l n.val).edged d clock)) := by
    simp [execQuadEdge, hon, hquad, hpsrc, ← hd, FbSt.edged]
  exact ⟨_, travel, edge, rest.setFbu .., by rw [State.fbu_setFbu_same, unit]⟩

/-- Edges of A and B in one clock count nothing (R162). -/
theorem execQuadEdge_of_both : execQuadEdge l n true up clock s =
    .next (let t := (((s.doubt (fuB l n.val)).fInc (fuB l n.val) FB.ERRCNT_QUAD).fs (fuB l n.val) FB.EVT_QUAD_ILL 1).raiseL l.lane 0x40 n.val
      t.setFbu l n.val { t.fbu l n.val with ill := true }) := by
  simp [execQuadEdge, hon, hquad]

end

/-! INDEX_PULSE and FB_INDEX_MISSING (R169 to R171) -/

/-- The unit once it has accepted an index. -/
def FbSt.indexed (x : FbSt) : FbSt := { x with idxSeen := true, idxAny := true, missRaised := false, tIdx := x.t }

/-- The state once an index of unit n has been accepted with a slip. -/
def State.slipped (s : State) (l : DLane) (n : Nat) (sl : Int) : State :=
  (s.setFbu l n (s.fbu l n).indexed).fsSat (fuB l n) FB.SLIP_LAST sl

section

variable {n : Fin 6} {ba : Fin 4} {rested : Bool} (hon : s.fbOn l n.val = true) (hquad : s.fb (fuB l n.val) FB.CTRL_QUAD = true)
  (hrest : (s.fbu l n.val).idxAny = true → rested = true) (hen : s.fb (fuB l n.val) FB.IDXCFG_IDXEN = true)
  (hgate : s.fb (fuB l n.val) FB.IDXCFG_IDXGATE = true → s.fg (fuB l n.val) FB.IDXCFG_IDXSTATE = ba.val)
  (hhome : (s.fbu l n.val).homeSt = 0)

include hon hquad hrest hen hgate hhome

/-- The index is accepted, and no home waits for it. -/
theorem indexPulse_accepted : ¬ (!s.fbOn l n.val || !s.fb (fuB l n.val) FB.CTRL_QUAD || !s.fb (fuB l n.val) FB.IDXCFG_IDXEN ||
      ((s.fbu l n.val).idxAny && !rested) || (s.fb (fuB l n.val) FB.IDXCFG_IDXGATE && s.fg (fuB l n.val) FB.IDXCFG_IDXSTATE != ba.val)) = true ∧
    ¬ ((s.fbu l n.val).homeSt = 2 ∧ ¬ s.fb (fuB l n.val) FB.CTRL_PSRC) := by
  have fresh : ((s.fbu l n.val).idxAny && !rested) = false := by simpa using hrest
  have state : (s.fb (fuB l n.val) FB.IDXCFG_IDXGATE && s.fg (fuB l n.val) FB.IDXCFG_IDXSTATE != ba.val) = false := by simpa using hgate
  simp [hon, hquad, hen, fresh, state, hhome]

theorem execIndexPulse_of_first (href : s.fb (fuB l n.val) FB.STATUS_IDXREF = false) : execIndexPulse l n ba rested s =
    .next ((s.setFbu l n.val { (s.fbu l n.val).indexed with idxRef := (s.fbu l n.val).t }).fs (fuB l n.val) FB.STATUS_IDXREF 1) := by
  obtain ⟨accepted, free⟩ := indexPulse_accepted hon hquad hrest hen hgate hhome
  have first : ¬ s.fb (fuB l n.val) FB.STATUS_IDXREF = true := by simp [href]
  exact (if_neg accepted).trans ((if_neg free).trans ((if_pos first).trans (if_pos hhome)))

theorem execIndexPulse_of_slip (href : s.fb (fuB l n.val) FB.STATUS_IDXREF = true) {r sl : Int} (hcpr : s.fg (axB l n.val) AX.CPR_CPR ≠ 0)
    (hr : r = ((s.fbu l n.val).pos - (s.fbu l n.val).idxRef) % s.fg (axB l n.val) AX.CPR_CPR)
    (hsl : sl = if (s.fg (axB l n.val) AX.CPR_CPR : Int) ≤ 2 * r then r - s.fg (axB l n.val) AX.CPR_CPR else r) (hne : sl ≠ 0) :
    (sl.natAbs ≤ s.fg (fuB l n.val) FB.IDXCFG_SLIPTOL → execIndexPulse l n ba rested s =
      .next ((((s.slipped l n.val sl).fInc (fuB l n.val) FB.SLIP_CORR).fs (fuB l n.val) FB.EVT_SLIP_CORR 1).moveTo l n.val
        ((s.fbu l n.val).t - sl))) ∧
    (s.fg (fuB l n.val) FB.IDXCFG_SLIPTOL < sl.natAbs → execIndexPulse l n ba rested s =
      .next (((((s.slipped l n.val sl).doubt (fuB l n.val)).fInc (fuB l n.val) FB.ERRCNT_SLIP).fs (fuB l n.val) FB.EVT_SLIP_BIG 1).raiseL
        l.lane 0x42 n.val)) := by
  obtain ⟨accepted, free⟩ := indexPulse_accepted hon hquad hrest hen hgate hhome
  have slip : sl = if s.fg (axB l n.val) AX.CPR_CPR = 0 then 0 else
      slipOf (s.fbu l n.val).pos (s.fbu l n.val).idxRef (s.fg (axB l n.val) AX.CPR_CPR) := by
    rw [if_neg hcpr, hsl, hr]
    rfl
  have tol : (s.slipped l n.val sl).fg (fuB l n.val) FB.IDXCFG_SLIPTOL = s.fg (fuB l n.val) FB.IDXCFG_SLIPTOL :=
    State.fg_fs_apart _ _ (by decide) (by decide)
  have unit : ((((s.slipped l n.val sl).fInc (fuB l n.val) FB.SLIP_CORR).fs (fuB l n.val) FB.EVT_SLIP_CORR 1).fbu l n.val).t =
      (s.fbu l n.val).t := by
    simp [State.slipped, FbSt.indexed]
  clear hsl hr
  subst slip
  refine ⟨fun hle => ?_, fun hlt => ?_⟩
  · refine (if_neg accepted).trans ((if_neg free).trans ((if_neg (not_not.mpr href)).trans ((if_neg hne).trans
      ((if_pos (tol ▸ hle)).trans ?_))))
    exact congrArg (fun q => Host.Outcome.next (State.moveTo _ l n.val (q - _))) unit
  · exact (if_neg accepted).trans ((if_neg free).trans ((if_neg (not_not.mpr href)).trans ((if_neg hne).trans
      (if_neg (tol ▸ Nat.not_le.mpr hlt)))))

end

theorem clampI_mem {lo hi : Int} (h : lo ≤ hi) (x : Int) : lo ≤ clampI lo hi x ∧ clampI lo hi x ≤ hi := by
  unfold clampI
  split
  · exact ⟨le_rfl, h⟩
  · split <;> omega

/-- A state that keeps SLIP.LAST of a slip shows it, saturated (R170). -/
theorem State.fi_slipLast {t : State} {sl : Int}
    (h : t.fg (fuB l n) FB.SLIP_LAST = (s.slipped l n sl).fg (fuB l n) FB.SLIP_LAST) :
    t.fi (fuB l n) FB.SLIP_LAST = clampI (-32768) 32767 sl := by
  have bounds := clampI_mem (by decide : (-32768 : Int) ≤ 32767) sl
  rw [State.fi, h, State.slipped, State.fsSat, State.fsi, State.fg_fs_fits _ _ (by decide) (unsigned_lt _ _)]
  exact signed_unsigned (w := 15) (i := clampI (-32768) 32767 sl) (by omega) (by omega)

theorem State.limitsKept_slipped (s : State) (l : DLane) (n : Nat) (sl : Int) : s.LimitsKept (s.slipped l n sl) (fuB l n) :=
  (State.LimitsKept.of_regs (t := s.setFbu l n (s.fbu l n).indexed) rfl).fs (.inr (by decide)) _

/-- A slip within the tolerance is corrected, shown and counted (R170). -/
theorem State.slipCorrected_spec (s : State) (l : DLane) (hn : n < 6) (sl : Int)
    (hinside : ((s.fbu l n).t - sl - s.counterOf (fuB l n) ((s.fbu l n).t - sl)).natAbs ≤ 32767) :
    let t := (((s.slipped l n sl).fInc (fuB l n) FB.SLIP_CORR).fs (fuB l n) FB.EVT_SLIP_CORR 1).moveTo l n ((s.fbu l n).t - sl)
    (t.fbu l n).t = (s.fbu l n).t - sl ∧ t.fi (fuB l n) FB.SLIP_LAST = clampI (-32768) 32767 sl ∧
      t.fg (fuB l n) FB.SLIP_CORR = min 65535 (s.fg (fuB l n) FB.SLIP_CORR + 1) ∧ t.fb (fuB l n) FB.EVT_SLIP_CORR = true ∧
      t.mem = s.mem ∧ t.sk = s.sk := by
  dsimp only
  have limits := ((s.limitsKept_slipped l n sl).fInc (f := FB.SLIP_CORR) (.inr (by decide))).fs (f := FB.EVT_SLIP_CORR) (.inr (by decide)) 1
  have corr : (s.slipped l n sl).fg (fuB l n) FB.SLIP_CORR = s.fg (fuB l n) FB.SLIP_CORR := State.fg_fs_apart _ _ (by decide) (by decide)
  have top : 2 ^ FB.SLIP_CORR.w - 1 = 65535 := rfl
  set u := (((s.slipped l n sl).fInc (fuB l n) FB.SLIP_CORR).fs (fuB l n) FB.EVT_SLIP_CORR 1) with hu
  have moves := u.moveTo_spec l hn ((s.fbu l n).t - sl)
  refine ⟨?_, State.fi_slipLast (s := s) ?_, ?_, ?_, ?_, ?_⟩
  · rw [moves.position]
    exact (limits.holdExcess _).trans (State.holdExcess_of_inside hinside)
  · rw [moves.field _ (by decide) (by decide) (by decide), hu, State.fg_fs_apart _ _ (by decide) (by decide),
      State.fg_fInc_apart _ (by decide) (by decide)]
  · rw [moves.field _ (by decide) (by decide) (by decide), hu, State.fg_fs_apart _ _ (by decide) (by decide),
      State.fg_fInc_same _ _ _ (by decide), corr, top]
  · rw [State.fb, moves.field _ (by decide) (by decide) (by decide), hu, ← State.fb, State.fb_fs_one _ _ (by decide) (by decide)]
  · rw [moves.mem, hu]
    simp [State.slipped]
  · rw [moves.sk, hu]
    simp [State.slipped]

/-- A count of unit n's error: the position is in doubt, the error is counted, shown and raised. -/
theorem State.doubtCounted_spec (s : State) (l : DLane) (n : Nat) {cnt evt : Fld} {src c : Nat} (hrun : s.running l.lane = true)
    (hc : defaultClass (.lane l.lane) src = some c)
    (hcnt : cnt.lo + cnt.w ≤ 32 ∧ FB.STATUS_POSQ.apart cnt = true ∧ cnt.apart FB.STATUS_POSQ = true)
    (hevt : evt.lo + evt.w ≤ 32 ∧ evt.w ≠ 0 ∧ evt.apart cnt = true ∧ evt.apart FB.STATUS_POSQ = true) :
    let t := (((s.doubt (fuB l n)).fInc (fuB l n) cnt).fs (fuB l n) evt 1).raiseL l.lane src n
    t.fb (fuB l n) evt = true ∧ t.fg (fuB l n) cnt = min (2 ^ cnt.w - 1) (s.fg (fuB l n) cnt + 1) ∧
      t.fg (fuB l n) FB.STATUS_POSQ = (if s.fg (fuB l n) FB.STATUS_POSQ = 1 then 2 else s.fg (fuB l n) FB.STATUS_POSQ) ∧
      t.mem = s.mem ∧ t.sk = s.sk ∧ (∀ d i, t.fbu d i = s.fbu d i) ∧
      t.evq = s.evq ++ [s.stamp { coll := .lane l.lane, src := src, inst := n, res := resLane l.lane }] := by
  obtain ⟨cntFits, posqCnt, cntPosq⟩ := hcnt
  obtain ⟨evtFits, evtW, evtCnt, evtPosq⟩ := hevt
  refine ⟨?_, ?_, ?_, by simp, by simp, by simp, ?_⟩
  · rw [State.raiseL_fb, State.fb_fs_one _ _ evtFits evtW]
  · rw [State.raiseL_fg, State.fg_fs_apart _ _ evtFits evtCnt, State.fg_fInc_same _ _ _ cntFits, State.fg_doubt_apart _ _ posqCnt]
  · rw [State.raiseL_fg, State.fg_fs_apart _ _ evtFits evtPosq, State.fg_fInc_apart _ cntFits cntPosq, State.doubt_posq]
  · rw [State.raiseL_evq _ n 0 hc (State.reset_of_running (by simpa using hrun))]
    simp

/-- The unit once a missing index has been told (R171). -/
def FbSt.indexMissed (x : FbSt) : FbSt := { x with missRaised := true }

theorem execFbIndexMissing_of_far {n : Fin 6} (hon : s.fbOn l n.val = true) (href : s.fb (fuB l n.val) FB.STATUS_IDXREF = true)
    (hraised : (s.fbu l n.val).missRaised = false)
    (hfar : s.fg (axB l n.val) AX.CPR_CPR + s.fg (fuB l n.val) FB.IDXCFG_SLIPTOL < ((s.fbu l n.val).t - (s.fbu l n.val).tIdx).natAbs) :
    execFbIndexMissing l n s =
      .next (((s.setFbu l n.val (s.fbu l n.val).indexMissed).fs (fuB l n.val) FB.EVT_IDX_MISS 1).raiseL l.lane 0x49 n.val) := by
  have due : (s.fbOn l n.val && s.fb (fuB l n.val) FB.STATUS_IDXREF && !(s.fbu l n.val).missRaised && decide
      (s.fg (axB l n.val) AX.CPR_CPR + s.fg (fuB l n.val) FB.IDXCFG_SLIPTOL < ((s.fbu l n.val).t - (s.fbu l n.val).tIdx).natAbs)) = true := by
    simp [hon, href, hraised, hfar]
  exact if_pos due

end

/-! The obligation -/

/-- Settles O30: an edge moves the position by one and tells where it leaves its range; an index sets the reference, corrects a slip or
shows it. -/
theorem positionFollowsEdgesAndIndex : Obligations.PositionFollowsEdgesAndIndex := by
  unfold Obligations.PositionFollowsEdgesAndIndex
  refine ⟨?edge, ?excess, ?both, ?off, ?first, ?unrested, ?slip, ?missing⟩
  case edge =>
    intro l n up clock d s hon hquad hpsrc hd hinside
    obtain ⟨t, travel, he, rest, unit⟩ := execQuadEdge_of_edge (clock := clock) hon hquad hpsrc hd
    obtain ⟨ht, hpos, quiet, soft⟩ := State.moveTo_of_inside n.isLt (State.running_of_fbOn hon) hinside
    have moves := s.moveTo_spec l n.isLt ((s.fbu l n.val).t + d)
    refine ⟨t, (exec_quadEdge ..).trans he, ?_, ?_, ?_, ?_, ?_, ?_, ?_⟩
    · rw [unit]; exact ht
    · rw [unit, FbSt.edged, FbSt.travelled, moves.nc]
    · rw [unit]; exact hpos
    · exact rest.mem.trans moves.mem
    · exact rest.sk.trans moves.sk
    · rw [rest.evq]; exact quiet
    · rw [rest.evq, rest.fb]; exact soft
  case excess =>
    intro l n clock s hon hquad hpsrc hdir hle ht hpos
    obtain ⟨t, travel, he, rest, unit⟩ := execQuadEdge_of_edge (d := 1) (up := true) (clock := clock) hon hquad hpsrc (by simp [hdir])
    obtain ⟨ht', hfull, quiet, lost⟩ := State.moveTo_of_full (State.running_of_fbOn hon) hle ht hpos
    have moves := s.moveTo_spec l n.isLt ((s.fbu l n.val).t + 1)
    refine ⟨t, (exec_quadEdge ..).trans he, ?_, ?_, ?_, ?_, ?_, ?_⟩
    · rw [unit]; exact ht'
    · rw [unit]; exact hfull
    · exact rest.mem.trans moves.mem
    · exact rest.sk.trans moves.sk
    · rw [rest.evq]; exact quiet
    · rw [LaneEvent, rest.evq]; exact lost
  case both =>
    intro l n up clock s hon hquad
    obtain ⟨evt, count, posq, mem, sk, unit, evq⟩ := s.doubtCounted_spec l n.val (cnt := FB.ERRCNT_QUAD) (evt := FB.EVT_QUAD_ILL)
      (src := 0x40) (State.running_of_fbOn hon) rfl (by decide) (by decide)
    refine ⟨_, (exec_quadEdge ..).trans (execQuadEdge_of_both hon hquad), ?_, evt, count, posq, mem, sk, evq⟩
    rw [State.fbu_setFbu_same, unit]
  case off =>
    intro l n both up clock s hoff
    simp [execQuadEdge, hoff]
  case first =>
    intro l n ba rested s hon hquad hrest hen hgate href hhome
    refine ⟨_, (exec_indexPulse ..).trans
      (execIndexPulse_of_first hon hquad hrest hen (fun h => absurd (hgate.symm.trans h) Bool.false_ne_true) hhome href), ?_⟩
    refine ⟨State.fb_fs_one _ _ (by decide) (by decide), ?_, ?_, ?_, rfl, rfl, rfl⟩
    · simp
    · simp [FbSt.indexed]
    · exact SameRegistersBut.fs (fun _ _ => rfl) 1 (List.mem_singleton.mpr rfl)
  case unrested =>
    intro l n ba s hany
    simp [execIndexPulse, hany]
  case slip =>
    intro l n ba rested r sl s hon hrest hquad hen hgate href hhome hcpr hr hsl hne
    obtain ⟨small, big⟩ := execIndexPulse_of_slip hon hquad hrest hen hgate hhome href hcpr hr hsl hne
    refine ⟨fun hle hinside => ?_, fun hlt => ?_⟩
    · exact ⟨_, (exec_indexPulse ..).trans (small hle), s.slipCorrected_spec l n.isLt sl hinside⟩
    · have hrun : (s.slipped l n.val sl).running l.lane = true := State.running_of_fbOn (s := s) hon
      obtain ⟨evt, -, posq, mem, sk, unit, evq⟩ := (s.slipped l n.val sl).doubtCounted_spec l n.val (cnt := FB.ERRCNT_SLIP)
        (evt := FB.EVT_SLIP_BIG) (src := 0x42) hrun rfl (by decide) (by decide)
      refine ⟨_, (exec_indexPulse ..).trans (big hlt), ?_, State.fi_slipLast (s := s) ?_, evt, ?_, mem, sk, evq⟩
      · rw [unit]
        simp [State.slipped, FbSt.indexed]
      · rw [State.raiseL_fg, State.fg_fs_apart _ _ (by decide) (by decide), State.fg_fInc_apart _ (by decide) (by decide),
          State.fg_doubt_apart _ _ (by decide)]
      · have kept : (s.slipped l n.val sl).fg (fuB l n.val) FB.STATUS_POSQ = s.fg (fuB l n.val) FB.STATUS_POSQ :=
          State.fg_fs_apart _ _ (by decide) (by decide)
        rw [posq, kept]
  case missing =>
    intro l n s hon href hraised hfar
    refine ⟨_, (exec_fbIndexMissing ..).trans (execFbIndexMissing_of_far hon href hraised hfar), ?_, ?_, ?_, ?_, ?_, ?_⟩
    · simp [FbSt.indexMissed]
    · rw [State.raiseL_fb, State.fb_fs_one _ _ (by decide) (by decide)]
    · exact (SameRegistersBut.fs (fun _ _ => rfl) 1 (List.mem_singleton.mpr rfl)).of_regs (State.raiseL_regs ..)
    · simp
    · simp
    · exact congrArg State.evq (State.raiseL_of_running
        ((s.setFbu l n.val (s.fbu l n.val).indexMissed).fs (fuB l n.val) FB.EVT_IDX_MISS 1) n.val (State.running_of_fbOn (s := s) hon) rfl)

end Sys2Proof.Machine
end

section
/-! SUPPORT. The sample point of a feedback unit (R168, R182 to R187). -/

namespace Sys2Proof.Machine

open Sys2Proof

section

variable (s : State) (l : DLane) (n : Nat)

theorem State.fbSpeed_follows : s.FbFollows (s.fbSpeed l n) l n (followRegs l n) := by
  unfold State.fbSpeed
  dsimp only
  split
  · exact .refl ..
  · exact ((State.FbFollows.refl s l n _).setFbu rfl).fs (f := FB.SPEED_VALUE) _ (by simp [followRegs]) (by simp [FB.SPEED_VALUE, FB.EVT_CMP])

theorem State.sampleSpeed_follows : s.FbFollows (s.sampleSpeed l n) l n (followRegs l n) := (State.FbFollows.refl ..).setAxis ..

theorem State.sampleAngle_follows (t : Int) (p : Option (Int × Nat)) : s.FbFollows (s.sampleAngle l n t p) l n (followRegs l n) :=
  ((State.FbFollows.refl ..).setAxis ..).setAxis ..

end

/-- The unit once a sample point has begun. -/
def FbSt.sampling (x : FbSt) (hist : List FbSample) (reading atBeacon : Bool) : FbSt :=
  { x with hist := hist, ill := false, reading := reading, smpB := atBeacon }

/-- The unit with its latch at a beacon (R184, R185). -/
def FbSt.latched (x : FbSt) (status : Nat) : FbSt :=
  { x with
    latT := x.t, latPos := x.pos, latStatus := status, latSpd := x.spdVal, latProv := x.spdProv
    idxSeen := false, cmpFired := 0 }

/-- The unit whose home waits from the beacon of its HOMECYC (R168). -/
def FbSt.awaiting (x : FbSt) (due : Bool) : FbSt := { x with homeSt := 2, travel := 0, homeDue := due }

section

variable (x y : FbSt) (hist : List FbSample) (reading atBeacon due : Bool) (status : Nat)

@[simp] theorem FbSt.sampled_sampled (z : FbSt) : (x.sampled y).sampled z = x.sampled z := rfl
@[simp] theorem FbSt.sampled_homeSt : (x.sampled y).homeSt = x.homeSt := rfl
@[simp] theorem FbSt.sampling_t : (x.sampling hist reading atBeacon).t = x.t := rfl
@[simp] theorem FbSt.sampling_pos : (x.sampling hist reading atBeacon).pos = x.pos := rfl
@[simp] theorem FbSt.sampling_homeSt : (x.sampling hist reading atBeacon).homeSt = x.homeSt := rfl
@[simp] theorem FbSt.latched_t : (x.latched status).t = x.t := rfl
@[simp] theorem FbSt.latched_homeSt : (x.latched status).homeSt = x.homeSt := rfl
@[simp] theorem FbSt.latched_latT : (x.latched status).latT = x.t := rfl
@[simp] theorem FbSt.latched_latPos : (x.latched status).latPos = x.pos := rfl
@[simp] theorem FbSt.latched_latStatus : (x.latched status).latStatus = status := rfl
@[simp] theorem FbSt.latched_latSpd : (x.latched status).latSpd = x.spdVal := rfl
@[simp] theorem FbSt.latched_spdVal : (x.latched status).spdVal = x.spdVal := rfl
@[simp] theorem FbSt.latched_cmpFired : (x.latched status).cmpFired = 0 := rfl
@[simp] theorem FbSt.latched_idxSeen : (x.latched status).idxSeen = false := rfl
@[simp] theorem FbSt.awaiting_homeSt : (x.awaiting due).homeSt = 2 := rfl
@[simp] theorem FbSt.awaiting_travel : (x.awaiting due).travel = 0 := rfl
@[simp] theorem FbSt.awaiting_homeDue : (x.awaiting due).homeDue = due := rfl

end

/-- The serial read of a SENT unit is valid at its sample point. -/
def State.sentValid (s : State) (l : DLane) (n : Nat) : Bool := s.fg (fuB l n) FB.CTRL_SER == 2 && !(s.fbu l n).frames.isEmpty

/-- The unit's sample point has begun. -/
def State.fbSampling (s : State) (l : DLane) (n : Nat) (atBeacon : Bool) (clock : Nat) : State :=
  let x := s.fbu l n
  let smp : FbSample := { edge := x.edge, t := x.t, clock := clock, serOk := s.sentValid l n, ill := x.ill }
  s.setFbu l n (x.sampling ((smp :: x.hist).take 17) (s.fg (fuB l n) FB.CTRL_SER == 1 && !s.fb (fuB l n) FB.SSICFG_LISTEN) atBeacon)

/-- The speed at a sample point; an SSI unit that moves by its reads has it when the read ends. -/
def State.fbTimed (s : State) (l : DLane) (n : Nat) : State :=
  if s.fg (fuB l n) FB.CTRL_SER == 1 && s.fb (fuB l n) FB.CTRL_PSRC then s else s.fbSpeed l n

/-- The age of the serial read. -/
def State.fbAged (s : State) (l : DLane) (n clock : Nat) : State := s.fs (fuB l n) FB.STATUS_SERAGE (s.serAge l n clock)

/-- The axis has its angle at a sample point with the position at t. -/
def State.fbAngled (s : State) (l : DLane) (n : Nat) (t : Int) (clock : Nat) : State :=
  (s.sampleAngle l n t (s.sentPos l n clock)).trig .W ((if l = .A then 2 else 8) + n)

/-- The unit has its speed and its axis the angle at the sample point. -/
def State.fbSampled (s : State) (l : DLane) (n : Nat) (atBeacon : Bool) (clock : Nat) : State :=
  (((s.fbSampling l n atBeacon clock).fbTimed l n).fbAged l n clock).fbAngled l n (s.fbu l n).t clock

/-- The unit has latched for the input record. -/
def State.fbLatched (s : State) (l : DLane) (n : Nat) (clock : Nat) : State :=
  let u := s.fbSampled l n true clock
  u.setFbu l n ((u.fbu l n).latched (u.fbStatusWord l n (s.sentValid l n) clock))

section

variable {s : State} {l : DLane} {n : Fin 6}

theorem execFbSamplePoint_of_home {clock : Nat} (hon : s.fbOn l n.val = true) (h : ((s.fbLatched l n.val clock).fbu l n.val).homeSt = 1)
    (h' : (s.fbLatched l n.val clock).sk.cycle = (s.fbLatched l n.val clock).fg (fuB l n.val) FB.HOMECYC_HOMECYC) :
    execFbSamplePoint l n true clock s = .next (let t := s.fbLatched l n.val clock
      t.setFbu l n.val ((t.fbu l n.val).awaiting
        (!(!t.fb (fuB l n.val) FB.CTRL_PSRC && t.fb (fuB l n.val) FB.IDXCFG_IDXEN)))) :=
  (if_neg (by simp [hon])).trans ((if_neg (by decide)).trans (if_pos ⟨h, h'⟩))

theorem execFbSamplePoint_of_latch {clock : Nat} (hon : s.fbOn l n.val = true) (h : ((s.fbLatched l n.val clock).fbu l n.val).homeSt ≠ 1) :
    execFbSamplePoint l n true clock s = .next (s.fbLatched l n.val clock) :=
  (if_neg (by simp [hon])).trans ((if_neg (by decide)).trans (if_neg fun hh => h hh.1))

end

/-- What a sample point leaves: the unit but for its sample, its speed and its latch, and its fields but SERAGE and the speed. -/
structure State.Samples (s t : State) (l : DLane) (n : Nat) : Prop where
  unit : ∃ y hist reading atBeacon, t.fbu l n = ((s.fbu l n).sampling hist reading atBeacon).sampled y
  mem : t.mem = s.mem
  evq : t.evq = s.evq
  sk : t.sk = s.sk
  field : ∀ f : Fld, f.ofs < 0x100 → f.ofs ≠ FB.SPEED_VALUE.ofs → FB.EVT_CMP.apart f = true → FB.STATUS_SERAGE.apart f = true →
    t.fg (fuB l n) f = s.fg (fuB l n) f

theorem State.fbSampled_spec (s : State) (l : DLane) {n : Nat} (hn : n < 6) (atBeacon : Bool) (clock : Nat) :
    s.Samples (s.fbSampled l n atBeacon clock) l n := by
  have speed : (s.fbSampling l n atBeacon clock).FbFollows ((s.fbSampling l n atBeacon clock).fbTimed l n) l n (followRegs l n) :=
    .ite (.refl ..) (State.fbSpeed_follows ..)
  have angle : (((s.fbSampling l n atBeacon clock).fbTimed l n).fbAged l n clock).FbFollows (s.fbSampled l n atBeacon clock) l n
      (followRegs l n) := (State.sampleAngle_follows ..).trig ..
  obtain ⟨y, hy⟩ := speed.unit
  obtain ⟨z, hz⟩ := angle.unit
  refine ⟨⟨z, ?hist, ?reading, atBeacon, hz.trans ?unit⟩, angle.mem.trans speed.mem, angle.evq.trans speed.evq, angle.sk.trans speed.sk,
    fun f hofs hs hc ha => ?_⟩
  case unit =>
    rw [State.fbAged, State.fs_fbu, hy, State.fbSampling, State.fbu_setFbu_same, FbSt.sampled_sampled]
  · rw [angle.fg hn hofs hc hs, State.fbAged, State.fg_fs_apart _ _ (by decide) ha, speed.fg hn hofs hc hs]
    rfl

theorem State.Samples.homeSt {s t : State} {l : DLane} {n : Nat} (h : s.Samples t l n) : (t.fbu l n).homeSt = (s.fbu l n).homeSt := by
  obtain ⟨y, _, _, _, hy⟩ := h.unit
  rw [hy, FbSt.sampled_homeSt, FbSt.sampling_homeSt]

theorem State.Samples.position {s t : State} {l : DLane} {n : Nat} (h : s.Samples t l n) : (t.fbu l n).t = (s.fbu l n).t := by
  obtain ⟨y, _, _, _, hy⟩ := h.unit
  rw [hy, FbSt.sampled_t, FbSt.sampling_t]

theorem State.Samples.counter {s t : State} {l : DLane} {n : Nat} (h : s.Samples t l n) : (t.fbu l n).pos = (s.fbu l n).pos := by
  obtain ⟨y, _, _, _, hy⟩ := h.unit
  rw [hy, FbSt.sampled_pos, FbSt.sampling_pos]

end Sys2Proof.Machine
end

section
/-! PROOF. Homes and compare units of a feedback unit. -/

namespace Sys2Proof.Machine

open Sys2Proof

/-- The distance to HOMECYC that HOME_WRITE forms (R167). -/
theorem homeDistance (h c : Nat) : (((h + 2 ^ 32 - c % 2 ^ 32) % 2 ^ 32 : Nat) : Int) = ((h : Int) - c) % 2 ^ 32 := by omega

/-! Homes (R167, R168) -/

/-- The unit without a home. -/
def FbSt.unhomed (x : FbSt) : FbSt := { x with homeSt := 0, homeDue := false }

/-- The unit whose home waits for its beacon. -/
def FbSt.homing (x : FbSt) : FbSt := { x with homeSt := 1, homeDue := false, travel := 0 }

/-- The unit with its index reference at p, from which its travel counts. -/
def FbSt.referred (x : FbSt) (p : Int) : FbSt := { x with idxRef := p, tIdx := p }

section

variable (x : FbSt) (p t c : Int) (full : Bool)

@[simp] theorem FbSt.unhomed_t : x.unhomed.t = x.t := rfl
@[simp] theorem FbSt.unhomed_homeSt : x.unhomed.homeSt = 0 := rfl
@[simp] theorem FbSt.homing_t : x.homing.t = x.t := rfl
@[simp] theorem FbSt.homing_homeSt : x.homing.homeSt = 1 := rfl
@[simp] theorem FbSt.referred_t : (x.referred p).t = x.t := rfl
@[simp] theorem FbSt.referred_idxRef : (x.referred p).idxRef = p := rfl
@[simp] theorem FbSt.referred_homeSt : (x.referred p).homeSt = x.homeSt := rfl
@[simp] theorem FbSt.at_homeSt : (x.at t c full).homeSt = x.homeSt := rfl

@[simp] theorem State.unitAt_homeSt (s : State) (l : DLane) (n : Nat) : (s.unitAt l n p).homeSt = (s.fbu l n).homeSt := FbSt.at_homeSt ..

end

section

variable (s : State) (l : DLane) (n : Nat)

/-- What the unit's STATUS shows of its home. -/
def State.showHome (x : FbSt) (v : Nat) : State := (s.setFbu l n x).fs (fuB l n) FB.STATUS_HOMEARM v

theorem State.showHome_spec (x : FbSt) (v : Nat) :
    let t := s.showHome l n x v
    t.fbu l n = x ∧ SameRegistersBut s t [fuB l n + FB.STATUS_HOMEARM.ofs] ∧ t.mem = s.mem ∧ t.evq = s.evq ∧ t.sk = s.sk :=
  ⟨by simp [State.showHome], SameRegistersBut.fs (fun _ _ => rfl) v (List.mem_singleton.mpr rfl), rfl, rfl, rfl⟩

theorem State.showHome_on (x : FbSt) : (s.showHome l n x 1).fb (fuB l n) FB.STATUS_HOMEARM = true := State.fb_fs_one _ _ (by decide) (by decide)

theorem State.showHome_off (x : FbSt) : (s.showHome l n x 0).fb (fuB l n) FB.STATUS_HOMEARM = false := State.fb_fs_same _ _ _ _ (by decide)

/-- A home that is dropped or cancelled leaves the position. -/
theorem State.unhomed_spec :
    let t := s.showHome l n (s.fbu l n).unhomed 0
    t.fb (fuB l n) FB.STATUS_HOMEARM = false ∧ (t.fbu l n).homeSt = 0 ∧ (t.fbu l n).t = (s.fbu l n).t ∧
      SameRegistersBut s t [fuB l n + FB.STATUS_HOMEARM.ofs] ∧ t.mem = s.mem ∧ t.evq = s.evq ∧ t.sk = s.sk := by
  obtain ⟨unit, rest⟩ := s.showHome_spec l n (s.fbu l n).unhomed 0
  exact ⟨s.showHome_off .., by rw [unit, FbSt.unhomed_homeSt], by rw [unit, FbSt.unhomed_t], rest⟩

/-! Every compare unit disarmed (R168) -/

theorem State.foldl_disarm_arm {j : Nat} (js : List Nat) (s : State) (h : j ∈ js ∨ s.fb (fuB l n + 16 * j) FB.CMP_CFG_ARM = false) :
    (js.foldl (fun s j => s.fs (fuB l n + 16 * j) FB.CMP_CFG_ARM 0) s).fb (fuB l n + 16 * j) FB.CMP_CFG_ARM = false := by
  induction js generalizing s with
  | nil => simpa using h
  | cons i js ih =>
    by_cases hij : i = j
    · exact ih _ (.inr (by rw [hij]; exact State.fb_fs_same _ _ _ _ (by decide)))
    · refine ih _ (h.imp (fun hm => (List.mem_cons.mp hm).resolve_left fun e => hij e.symm) fun hf => ?_)
      rw [State.fb, State.fg_fs_of_ne _ _ (by omega), ← State.fb, hf]

theorem State.foldl_disarm_follows (js : List Nat) (hjs : ∀ j ∈ js, j < 8) (s : State) :
    s.FbFollows (js.foldl (fun s j => s.fs (fuB l n + 16 * j) FB.CMP_CFG_ARM 0) s) l n (compareRegs l n) := by
  induction js generalizing s with
  | nil => exact .refl ..
  | cons j js ih =>
    exact ((State.FbFollows.refl s l n _).fsCmp (hjs j List.mem_cons_self) rfl 0).trans
      (ih (fun i hi => hjs i (List.mem_cons_of_mem _ hi)) _)

theorem State.disarmAll_arm {j : Nat} (hj : j < 8) : (s.disarmAll l n).fb (fuB l n + 16 * j) FB.CMP_CFG_ARM = false :=
  State.foldl_disarm_arm l n _ s (.inl (List.mem_range.mpr hj))

theorem State.disarmAll_follows : s.FbFollows (s.disarmAll l n) l n (compareRegs l n) :=
  State.foldl_disarm_follows l n _ (fun _ => List.mem_range.mp) s

/-! A home completes (R168) -/

/-- The home is over, and no compare unit is armed. -/
def State.homeEnded (s : State) (l : DLane) (n : Nat) : State := (s.disarmAll l n).setFbu l n ((s.disarmAll l n).fbu l n).unhomed

/-- The unit stands at its home. -/
def State.homedAt (s : State) (l : DLane) (n : Nat) (p : Int) : State :=
  let t := s.homeEnded l n
  (t.setFbu l n (t.unitAt l n p)).setFbu l n ((t.unitAt l n p).referred p)

theorem State.homeEnded_limitsKept (s : State) (l : DLane) (n : Nat) : s.LimitsKept (s.homeEnded l n) (fuB l n) :=
  .of_compareRegs ((s.disarmAll_follows l n).regs.of_regs (State.setFbu_regs ..))

theorem State.homeEnded_moveTo (s : State) (l : DLane) (n : Nat) {p : Int} (lo : s.softMin (fuB l n) ≤ p) (hi : p ≤ s.softMax (fuB l n)) :
    (s.homeEnded l n).moveTo l n p = (s.homeEnded l n).setFbu l n ((s.homeEnded l n).unitAt l n p) := by
  have limits := s.homeEnded_limitsKept l n
  rw [State.moveTo_of_mem (limits.softMin.symm ▸ lo) (limits.softMax.symm ▸ hi)]
  refine State.cmpMove_of_unarmed (fun j hj => ?_) _ _
  rw [State.setFbu_fb, State.homeEnded, State.setFbu_fb, s.disarmAll_arm l n hj]

/-- STATUS and EVT show that the home has completed. -/
def State.showHomed (s : State) (b : Nat) : State :=
  (((s.fs b FB.STATUS_HOMEARM 0).fs b FB.STATUS_POSQ 1).fs b FB.EVT_HOMED 1).fs b FB.STATUS_IDXREF 1

end

section

variable {s : State} {l : DLane} {n : Fin 6}

theorem execHomeWrite_of_refused (hrun : s.running l.lane = true)
    (h : ((s.fg (fuB l n.val) FB.HOMECYC_HOMECYC : Int) - s.sk.cycle) % 2 ^ 32 = 0 ∨
      2 ^ 31 ≤ ((s.fg (fuB l n.val) FB.HOMECYC_HOMECYC : Int) - s.sk.cycle) % 2 ^ 32) :
    execHomeWrite l n s = .next (s.fs (fuB l n.val) FB.EVT_HOME_REFUSED 1) := by
  rw [← homeDistance] at h
  exact (if_neg (by simp [hrun])).trans (if_pos (by omega))

theorem execHomeWrite_of_ahead (hrun : s.running l.lane = true)
    (h : 0 < ((s.fg (fuB l n.val) FB.HOMECYC_HOMECYC : Int) - s.sk.cycle) % 2 ^ 32)
    (h' : ((s.fg (fuB l n.val) FB.HOMECYC_HOMECYC : Int) - s.sk.cycle) % 2 ^ 32 < 2 ^ 31) :
    execHomeWrite l n s = .next (s.showHome l n.val (s.fbu l n.val).homing 1) := by
  rw [← homeDistance] at h h'
  exact (if_neg (by simp [hrun])).trans (if_neg (by omega))

theorem execHomeComplete_of_due (hon : s.fbOn l n.val = true) (hst : (s.fbu l n.val).homeSt = 2) (hdue : (s.fbu l n.val).homeDue = true)
    (lo : s.softMin (fuB l n.val) ≤ s.fi (fuB l n.val) FB.HOMEOFS_HOMEOFS)
    (hi : s.fi (fuB l n.val) FB.HOMEOFS_HOMEOFS ≤ s.softMax (fuB l n.val)) :
    execHomeComplete l n s = .next ((s.homedAt l n.val (s.fi (fuB l n.val) FB.HOMEOFS_HOMEOFS)).showHomed (fuB l n.val)) := by
  have complete : execHomeComplete l n s = .next
      (let t := (s.homeEnded l n.val).moveTo l n.val (s.fi (fuB l n.val) FB.HOMEOFS_HOMEOFS)
       (t.setFbu l n.val ((t.fbu l n.val).referred (s.fi (fuB l n.val) FB.HOMEOFS_HOMEOFS))).showHomed (fuB l n.val)) :=
    if_neg (by simp [hon, hst, hdue])
  rw [complete, State.homeEnded_moveTo s l n.val lo hi]
  simp only [State.homedAt, State.fbu_setFbu_same]

end


section

variable (s : State) (l : DLane) (n : Nat)

theorem State.showHomed_spec (b : Nat) :
    let t := s.showHomed b
    (∀ d i, t.fbu d i = s.fbu d i) ∧ t.evq = s.evq ∧ t.mem = s.mem ∧ t.sk = s.sk ∧ t.fg b FB.STATUS_POSQ = 1 ∧
      t.fb b FB.EVT_HOMED = true ∧ t.fb b FB.STATUS_HOMEARM = false ∧
      SameRegistersBut s t [b + FB.STATUS_POSQ.ofs, b + FB.EVT_HOMED.ofs] := by
  refine ⟨fun _ _ => rfl, rfl, rfl, rfl, ?_, ?_, ?_, ?_⟩
  · simp (disch := decide) only [State.showHomed, State.fg_fs_apart, State.fg_fs_fits]
  · rw [State.showHomed, State.fb_fs_apart _ _ (by decide) (by decide), State.fb_fs_one _ _ (by decide) (by decide)]
  · simp (disch := decide) only [State.showHomed, State.fb_fs_apart, State.fb_fs_same]
    rfl
  · exact ((((SameRegistersBut.refl s _).fs (f := FB.STATUS_HOMEARM) 0 (by simp [FB.STATUS_HOMEARM, FB.STATUS_POSQ])).fs
      (f := FB.STATUS_POSQ) 1 (by simp)).fs (f := FB.EVT_HOMED) 1 (by simp)).fs (f := FB.STATUS_IDXREF) 1
      (by simp [FB.STATUS_IDXREF, FB.STATUS_POSQ])

theorem State.homedAt_spec {p : Int} (lo : s.softMin (fuB l n) ≤ p) (hi : p ≤ s.softMax (fuB l n)) :
    let t := (s.homedAt l n p).showHomed (fuB l n)
    (t.fbu l n).t = p ∧ (t.fbu l n).idxRef = p ∧ (t.fbu l n).homeSt = 0 ∧ t.fg (fuB l n) FB.STATUS_POSQ = 1 ∧
      t.fb (fuB l n) FB.EVT_HOMED = true ∧ t.fb (fuB l n) FB.STATUS_HOMEARM = false ∧
      (∀ j < 8, t.fb (fuB l n + 16 * j) FB.CMP_CFG_ARM = false) ∧ t.evq = s.evq ∧ t.mem = s.mem ∧ t.sk = s.sk := by
  obtain ⟨fbu, evq, mem, sk, posq, homed, arm, regs⟩ := (s.homedAt l n p).showHomed_spec (fuB l n)
  have ended := s.disarmAll_follows l n
  have inside : s.holdExcess (fuB l n) p = p := State.holdExcess_of_mem lo hi
  have unit : (((s.homedAt l n p).showHomed (fuB l n)).fbu l n) = ((s.homeEnded l n).unitAt l n p).referred p := by
    rw [fbu, State.homedAt, State.fbu_setFbu_same]
  refine ⟨?_, ?_, ?_, posq, homed, arm, fun j hj => ?_, ?_, ?_, ?_⟩
  · rw [unit, FbSt.referred_t, State.unitAt_t, (s.homeEnded_limitsKept l n).holdExcess, inside]
  · rw [unit, FbSt.referred_idxRef]
  · rw [unit, FbSt.referred_homeSt, State.unitAt_homeSt, State.homeEnded, State.fbu_setFbu_same, FbSt.unhomed_homeSt]
  · have other : fuB l n + 16 * j + FB.CMP_CFG_ARM.ofs ∉ [fuB l n + FB.STATUS_POSQ.ofs, fuB l n + FB.EVT_HOMED.ofs] := by
      simp only [FB.CMP_CFG_ARM, FB.STATUS_POSQ, FB.EVT_HOMED, List.mem_cons, List.not_mem_nil, or_false, not_or]
      omega
    rw [State.fb, regs.fg other, State.homedAt, State.setFbu_fg, State.setFbu_fg, State.homeEnded, State.setFbu_fg, ← State.fb,
      s.disarmAll_arm l n hj]
  · rw [evq, State.homedAt, State.setFbu_evq, State.setFbu_evq, State.homeEnded, State.setFbu_evq, ended.evq]
  · rw [mem, State.homedAt, State.setFbu_mem, State.setFbu_mem, State.homeEnded, State.setFbu_mem, ended.mem]
  · rw [sk, State.homedAt, State.setFbu_sk, State.setFbu_sk, State.homeEnded, State.setFbu_sk, ended.sk]

end

/-! COMPARE_ARM (R189, R190) -/

/-- The unit with compare unit j at the value v. -/
def FbSt.comparing (x : FbSt) (j : Nat) (v : Int) : FbSt := { x with cmpAt := famSet (fun _ => (0 : Int)) x.cmpAt j v }

section

variable (s : State) (l : DLane) (n : Nat)

/-- The value that CMPj_L and CMPj_H hold. -/
def State.cmpValue (s : State) (b : Nat) : Int := signed 40 (s.fg b FB.CMP_L_VLO + s.fg b FB.CMP_H_VHI * 2 ^ 32)

/-- CMPj_CFG with its direction and REPEAT as written, and FIRED cleared where the word clears it. -/
def State.cmpConfigured (s : State) (b : Nat) (v : Word) : State :=
  let s := (s.fs b FB.CMP_CFG_DIR (v.toNat % 4)).fs b FB.CMP_CFG_REPEAT (v.toNat / 4)
  if v.getLsbD 5 then s.fs b FB.CMP_CFG_FIRED 0 else s

/-- Compare unit j of unit n is armed at the value of its registers. -/
def State.cmpArmed (s : State) (l : DLane) (n j : Nat) (behind : Bool) : State :=
  let k := fuB l n + 16 * j
  let s := s.setFbu l n ((s.fbu l n).comparing j (s.cmpValue k))
  ((s.fs k FB.CMP_CFG_ARM 1).fs k FB.CMP_CFG_BEHIND_AT_ARM (if behind then 1 else 0)).fs k FB.CMP_CFG_FIRES 0

theorem State.cmpConfigured_spec (b : Nat) (v : Word) :
    (∃ rs, s.cmpConfigured b v = { s with regs := rs }) ∧ SameRegistersBut s (s.cmpConfigured b v) [b + FB.CMP_CFG_ARM.ofs] := by
  have regs : SameRegistersBut s ((s.fs b FB.CMP_CFG_DIR (v.toNat % 4)).fs b FB.CMP_CFG_REPEAT (v.toNat / 4)) [b + FB.CMP_CFG_ARM.ofs] :=
    ((SameRegistersBut.refl s _).fs (f := FB.CMP_CFG_DIR) _ (List.mem_singleton.mpr rfl)).fs (f := FB.CMP_CFG_REPEAT) _
      (List.mem_singleton.mpr rfl)
  unfold State.cmpConfigured
  dsimp only
  split
  · exact ⟨⟨_, rfl⟩, regs.fs (f := FB.CMP_CFG_FIRED) 0 (List.mem_singleton.mpr rfl)⟩
  · exact ⟨⟨_, rfl⟩, regs⟩

theorem State.cmpArmed_spec (j : Nat) (behind : Bool) :
    let k := fuB l n + 16 * j
    let t := s.cmpArmed l n j behind
    t.fb k FB.CMP_CFG_ARM = true ∧ t.fg k FB.CMP_CFG_FIRES = 0 ∧ famGet (fun _ => (0 : Int)) (t.fbu l n).cmpAt j = s.cmpValue k ∧
      t.fb k FB.CMP_CFG_BEHIND_AT_ARM = behind ∧ SameRegistersBut s t [k + FB.CMP_CFG_ARM.ofs] ∧ t.mem = s.mem ∧ t.evq = s.evq ∧
      t.sk = s.sk := by
  refine ⟨?_, ?_, ?_, ?_, ?_, rfl, rfl, rfl⟩
  · rw [State.cmpArmed, State.fb_fs_apart _ _ (by decide) (by decide), State.fb_fs_apart _ _ (by decide) (by decide),
      State.fb_fs_one _ _ (by decide) (by decide)]
  · exact State.fg_fs_fits _ _ (by decide) (by decide)
  · rw [State.cmpArmed, State.fs_fbu, State.fs_fbu, State.fs_fbu, State.fbu_setFbu_same, FbSt.comparing, famGet_famSet_same]
  · rw [State.cmpArmed, State.fb_fs_apart _ _ (by decide) (by decide), State.fb_fs_same _ _ _ _ (by decide)]
    cases behind <;> rfl
  · exact (((SameRegistersBut.refl (s.setFbu l n _) _).fs (f := FB.CMP_CFG_ARM) 1 (List.mem_singleton.mpr rfl)).fs
      (f := FB.CMP_CFG_BEHIND_AT_ARM) _ (List.mem_singleton.mpr rfl)).fs (f := FB.CMP_CFG_FIRES) 0 (List.mem_singleton.mpr rfl)

theorem State.cmpValue_of_same {t : State} {b : Nat} (h : SameRegistersBut s t [b + FB.CMP_CFG_ARM.ofs]) : t.cmpValue b = s.cmpValue b := by
  have other {f : Fld} (hf : f.ofs ≠ FB.CMP_CFG_ARM.ofs) : b + f.ofs ∉ [b + FB.CMP_CFG_ARM.ofs] := by simpa using hf
  rw [State.cmpValue, State.cmpValue, h.fg (other (by decide)), h.fg (other (by decide))]

end

/-- A counter at c has passed, or stands at, the value v in the upward direction. -/
theorem behind_up {dir : Nat} (hdir : dir = 1) (v c num : Int) : ((dir == 1 && decide (v ≤ c)) || (dir == 2 && decide (c ≤ v)) ||
    (dir == 3 && (decide (v = c) || decide (0 < num ∧ v < c) || decide (num < 0 ∧ c < v)))) = decide (v ≤ c) := by
  simp [hdir]

/-- A compare unit of the upward direction is armed; it is behind where the counter has reached its value. -/
theorem execCompareArm_of_up {s : State} {l : DLane} {n : Fin 6} {j : Fin 8} {v : Word} (hrun : s.running l.lane = true)
    (harm : v.getLsbD 3 = true) (hdir : v.toNat % 4 = 1) :
    execCompareArm l n j v s = .next (let u := s.cmpConfigured (fuB l n.val + 16 * j.val) v
      u.cmpArmed l n.val j.val (decide (u.cmpValue (fuB l n.val + 16 * j.val) ≤ (u.fbu l n.val).pos))) := by
  refine (if_neg (by simp [hrun])).trans ((if_neg (by simp [harm])).trans ?_)
  exact congrArg (fun behind => Host.Outcome.next ((s.cmpConfigured (fuB l n.val + 16 * j.val) v).cmpArmed l n.val j.val behind))
    (behind_up hdir ..)

/-! A compare unit fires (R189 to R191) -/

@[simp] theorem FbSt.hit_cmpFired (x : FbSt) (j : Nat) : (x.hit j).cmpFired = x.cmpFired ||| 2 ^ j := rfl
@[simp] theorem FbSt.at_cmpAt (x : FbSt) (t c : Int) (full : Bool) : (x.at t c full).cmpAt = x.cmpAt := rfl
@[simp] theorem FbSt.edged_cmpFired (x : FbSt) (d : Int) (clock : Nat) : (x.edged d clock).cmpFired = x.cmpFired := rfl
@[simp] theorem FbSt.travelled_cmpFired (x : FbSt) (k : Nat) : (x.travelled k).cmpFired = x.cmpFired := rfl

section

variable {s : State} {l : DLane} {n j : Nat}

/-- What a fire of compare unit j shows; it leaves the other compare units. -/
theorem State.cmpHit_spec (hj : j < 8) (hr : (s.lane l.lane).reset = false) :
    let k := fuB l n + 16 * j
    let t := s.cmpHit l n j
    t.fb k FB.CMP_CFG_FIRED = true ∧ t.fg k FB.CMP_CFG_FIRES = min 65535 (s.fg k FB.CMP_CFG_FIRES + 1) ∧
      t.fb k FB.CMP_CFG_REPEAT = s.fb k FB.CMP_CFG_REPEAT ∧ (t.fg (fuB l n) FB.EVT_CMP).testBit j = true ∧
      (t.fbu l n).cmpFired.testBit j = true ∧ 8 + n ∈ t.firedIn l.lane ∧
      SameRegistersBut s t [fuB l n + FB.EVT_CMP.ofs, k + FB.CMP_CFG_ARM.ofs] := by
  have far {f : Fld} (hf : f.ofs = FB.CMP_CFG_ARM.ofs) : fuB l n + 16 * j + f.ofs ≠ fuB l n + FB.EVT_CMP.ofs := by
    rw [hf]
    simp only [FB.CMP_CFG_ARM, FB.EVT_CMP]
    omega
  have top : 2 ^ FB.CMP_CFG_FIRES.w - 1 = 65535 := rfl
  have evt : s.fg (fuB l n) FB.EVT_CMP ||| 2 ^ j < 2 ^ FB.EVT_CMP.w :=
    Nat.or_lt_two_pow (s.fg_lt ..) (Nat.pow_lt_pow_right (by decide) hj)
  unfold State.cmpHit
  set u := s.fs (fuB l n) FB.EVT_CMP (s.fg (fuB l n) FB.EVT_CMP ||| 2 ^ j) with hu
  have kept {f : Fld} (hf : f.ofs = FB.CMP_CFG_ARM.ofs) : u.fg (fuB l n + 16 * j) f = s.fg (fuB l n + 16 * j) f :=
    s.fg_fs_of_ne _ (far hf)
  have counted : SameRegistersBut u ((u.fs (fuB l n + 16 * j) FB.CMP_CFG_FIRED 1).fInc (fuB l n + 16 * j) FB.CMP_CFG_FIRES)
      [fuB l n + 16 * j + FB.CMP_CFG_ARM.ofs] :=
    ((SameRegistersBut.refl u _).fs (f := FB.CMP_CFG_FIRED) 1 (List.mem_singleton.mpr rfl)).fInc (f := FB.CMP_CFG_FIRES)
      (List.mem_singleton.mpr rfl)
  have shown : ((u.fs (fuB l n + 16 * j) FB.CMP_CFG_FIRED 1).fInc (fuB l n + 16 * j) FB.CMP_CFG_FIRES).fg (fuB l n) FB.EVT_CMP =
      s.fg (fuB l n) FB.EVT_CMP ||| 2 ^ j := by
    rw [counted.fg (by simpa using (far rfl).symm), hu, s.fg_fs_fits _ (by decide) evt]
  refine ⟨?_, ?_, ?_, ?_, ?_, ?_, ?_⟩
  · rw [State.setFbu_fb, State.trig_fb, State.fb, State.fg_fInc_apart _ (by decide) (by decide), ← State.fb,
      State.fb_fs_one _ _ (by decide) (by decide)]
  · rw [State.setFbu_fg, State.trig_fg, State.fg_fInc_same _ _ _ (by decide), State.fg_fs_apart _ _ (by decide) (by decide),
      kept (f := FB.CMP_CFG_FIRES) rfl, top]
  · rw [State.setFbu_fb, State.trig_fb, State.fb, State.fg_fInc_apart _ (by decide) (by decide),
      State.fg_fs_apart _ _ (by decide) (by decide), kept (f := FB.CMP_CFG_REPEAT) rfl, ← State.fb]
  · rw [State.setFbu_fg, State.trig_fg, shown, Nat.testBit_or, Nat.testBit_two_pow_self, Bool.or_true]
  · rw [State.fbu_setFbu_same, FbSt.hit_cmpFired, Nat.testBit_or, Nat.testBit_two_pow_self, Bool.or_true]
  · rw [State.firedIn, State.setFbu_fired, ← State.firedIn, State.trig_firedIn (by simpa [hu] using hr)]
    exact List.mem_append_right _ List.mem_cons_self
  · have regs := ((SameRegistersBut.refl s _).fs (f := FB.EVT_CMP) (s.fg (fuB l n) FB.EVT_CMP ||| 2 ^ j)
      (List.mem_cons_self (l := [fuB l n + 16 * j + FB.CMP_CFG_ARM.ofs]))).trans (counted.mono (List.subset_cons_self _ _))
    exact fun k hk => (State.trig_reg ..).trans (regs k hk)

/-- Where it alone is armed and does not repeat, compare unit j fires once for a move that crosses its value. -/
theorem State.cmpMove_of_crossed {p q : Int} (hj : j < 8) (harm : s.fb (fuB l n + 16 * j) FB.CMP_CFG_ARM = true)
    (hcross : crosses (s.fg (fuB l n + 16 * j) FB.CMP_CFG_DIR) p q (famGet (fun _ => (0 : Int)) (s.fbu l n).cmpAt j) = true)
    (hr : (s.lane l.lane).reset = false) (hrep : s.fb (fuB l n + 16 * j) FB.CMP_CFG_REPEAT = false) (hpq : p ≠ q)
    (others : ∀ i < 8, i ≠ j → s.fb (fuB l n + 16 * i) FB.CMP_CFG_ARM = false) :
    s.cmpMove l n p q = (s.cmpHit l n j).fs (fuB l n + 16 * j) FB.CMP_CFG_ARM 0 := by
  obtain ⟨-, -, rep, -, -, -, regs⟩ := s.cmpHit_spec (l := l) (n := n) hj hr
  have fires (k : Nat) : s.cmpFire l n j p q (k + 1) = (s.cmpHit l n j).fs (fuB l n + 16 * j) FB.CMP_CFG_ARM 0 := by
    rw [State.cmpFire_succ, harm, hcross, rep, hrep]
    rfl
  obtain ⟨pre, post, split⟩ := List.append_of_mem (List.mem_range.mpr hj)
  have distinct : (pre ++ j :: post).Nodup := split ▸ List.nodup_range
  have other {i : Nat} (hi : i ∈ pre ∨ i ∈ post) : i < 8 ∧ i ≠ j := by
    refine ⟨List.mem_range.mp (split ▸ ?_), ?_⟩
    · simp only [List.mem_append, List.mem_cons]
      tauto
    · rintro rfl
      simp only [List.nodup_append, List.nodup_cons] at distinct
      obtain ⟨-, ⟨notPost, -⟩, apart⟩ := distinct
      exact hi.elim (fun h => apart _ h _ List.mem_cons_self rfl) notPost
  have unarmed {i : Nat} (hi : i < 8 ∧ i ≠ j) :
      ((s.cmpHit l n j).fs (fuB l n + 16 * j) FB.CMP_CFG_ARM 0).fb (fuB l n + 16 * i) FB.CMP_CFG_ARM = false := by
    have apart : fuB l n + 16 * i + FB.CMP_CFG_ARM.ofs ∉ [fuB l n + FB.EVT_CMP.ofs, fuB l n + 16 * j + FB.CMP_CFG_ARM.ofs] := by
      simp only [FB.CMP_CFG_ARM, FB.EVT_CMP, List.mem_cons, List.not_mem_nil, or_false, not_or]
      omega
    rw [State.fb, State.fg_fs_of_ne _ _ (by omega), regs.fg apart, ← State.fb, others i hi.1 hi.2]
  rw [State.cmpMove, if_neg hpq, split, List.foldl_append, List.foldl_cons,
    State.foldl_cmpFire_of_unarmed fun i hi => others i (other (.inl hi)).1 (other (.inl hi)).2, fires,
    State.foldl_cmpFire_of_unarmed fun i hi => unarmed (other (.inr hi))]

end

/-- The counter of a unit that moves up by one crosses the value it reaches. -/
theorem crosses_up (p : Int) : crosses 1 p (p + 1) (p + 1) = true := by
  simp [crosses]

/-- An upward edge of the unit that reaches the value of its compare unit j fires it (R189 to R191). -/
theorem execQuadEdge_fires {s : State} {l : DLane} {n : Fin 6} {j clock : Nat} (hj : j < 8) (hon : s.fbOn l n.val = true)
    (hquad : s.fb (fuB l n.val) FB.CTRL_QUAD = true) (hpsrc : s.fb (fuB l n.val) FB.CTRL_PSRC = false)
    (hdir : s.fb (fuB l n.val) FB.CTRL_DIR = false) (lo : s.softMin (fuB l n.val) ≤ (s.fbu l n.val).t)
    (hi : (s.fbu l n.val).t < s.softMax (fuB l n.val)) (harm : s.fb (fuB l n.val + 16 * j) FB.CMP_CFG_ARM = true)
    (hup : s.fg (fuB l n.val + 16 * j) FB.CMP_CFG_DIR = 1) (hrep : s.fb (fuB l n.val + 16 * j) FB.CMP_CFG_REPEAT = false)
    (hat : famGet (fun _ => (0 : Int)) (s.fbu l n.val).cmpAt j = (s.fbu l n.val).t + 1) (hpos : (s.fbu l n.val).pos = (s.fbu l n.val).t)
    (others : ∀ i < 8, i ≠ j → s.fb (fuB l n.val + 16 * i) FB.CMP_CFG_ARM = false) :
    let u := s.setFbu l n.val (s.unitAt l n.val ((s.fbu l n.val).t + 1))
    let f := (u.cmpHit l n.val j).fs (fuB l n.val + 16 * j) FB.CMP_CFG_ARM 0
    ∃ t, execQuadEdge l n false true clock s = .next t ∧ f.SameButUnits t ∧ (t.fbu l n.val).cmpFired = (f.fbu l n.val).cmpFired := by
  dsimp only
  obtain ⟨t, travel, he, rest, unit⟩ := execQuadEdge_of_edge (d := 1) (up := true) (clock := clock) hon hquad hpsrc (by simp [hdir])
  have cross : crosses ((s.setFbu l n.val (s.unitAt l n.val ((s.fbu l n.val).t + 1))).fg (fuB l n.val + 16 * j) FB.CMP_CFG_DIR)
      (s.fbu l n.val).pos ((s.fbu l n.val).t + 1) (famGet (fun _ => (0 : Int))
        ((s.setFbu l n.val (s.unitAt l n.val ((s.fbu l n.val).t + 1))).fbu l n.val).cmpAt j) = true := by
    rw [State.setFbu_fg, hup, hpos, State.fbu_setFbu_same, State.unitAt, FbSt.at_cmpAt, hat, crosses_up]
  have moved := State.moveTo_of_mem (s := s) (l := l) (n := n.val) (p := (s.fbu l n.val).t + 1) (by omega) (by omega)
  rw [State.cmpMove_of_crossed (s := s.setFbu l n.val (s.unitAt l n.val ((s.fbu l n.val).t + 1))) hj (by simpa using harm) cross
    (State.reset_of_running (State.running_of_fbOn hon)) (by simpa using hrep) (by omega) (by simpa using others)] at moved
  rw [moved] at rest unit
  exact ⟨t, he, rest, by rw [unit, FbSt.edged_cmpFired, FbSt.travelled_cmpFired]⟩

/-! The obligation -/

/-- Settles O31: a home is armed, waits, completes or is dropped; a compare unit is armed, and fires where the counter reaches its value. -/
theorem homesAndCompareUnits : Obligations.HomesAndCompareUnits := by
  unfold Obligations.HomesAndCompareUnits
  refine ⟨?homeWrite, ?cancel, ?waits, ?completes, ?drops, ?armed, ?fires⟩
  case homeWrite =>
    intro l n s hrun
    refine ⟨fun h => ⟨_, (exec_homeWrite ..).trans (execHomeWrite_of_refused hrun h), rfl⟩, fun h h' => ?_⟩
    obtain ⟨unit, regs⟩ := s.showHome_spec l n.val (s.fbu l n.val).homing 1
    refine ⟨_, (exec_homeWrite ..).trans (execHomeWrite_of_ahead hrun h h'), s.showHome_on .., ?_, ?_, regs⟩
    · rw [unit, FbSt.homing_homeSt]
    · rw [unit, FbSt.homing_t]
  case cancel =>
    intro l n s hrun
    exact ⟨_, congrArg Host.Outcome.next (if_pos hrun), s.unhomed_spec l n.val⟩
  case waits =>
    intro l n clock s hon hst hcyc
    have samples := s.fbSampled_spec l n.isLt true clock
    have cyc : (s.fbLatched l n.val clock).sk.cycle = (s.fbLatched l n.val clock).fg (fuB l n.val) FB.HOMECYC_HOMECYC := by
      rw [State.fbLatched, State.setFbu_sk, State.setFbu_fg, samples.sk, samples.field _ (by decide) (by decide) (by decide) (by decide), hcyc]
    have st : ((s.fbLatched l n.val clock).fbu l n.val).homeSt = 1 := by
      rw [State.fbLatched, State.fbu_setFbu_same, FbSt.latched_homeSt, samples.homeSt, hst]
    have psrc : (s.fbLatched l n.val clock).fb (fuB l n.val) FB.CTRL_PSRC = s.fb (fuB l n.val) FB.CTRL_PSRC := by
      rw [State.fbLatched, State.setFbu_fb, State.fb, samples.field _ (by decide) (by decide) (by decide) (by decide), ← State.fb]
    have idxen : (s.fbLatched l n.val clock).fb (fuB l n.val) FB.IDXCFG_IDXEN = s.fb (fuB l n.val) FB.IDXCFG_IDXEN := by
      rw [State.fbLatched, State.setFbu_fb, State.fb, samples.field _ (by decide) (by decide) (by decide) (by decide), ← State.fb]
    refine ⟨_, (exec_fbSamplePoint ..).trans (execFbSamplePoint_of_home hon st cyc), ?_, ?_, ?_⟩
    · rw [State.fbu_setFbu_same, FbSt.awaiting_homeSt]
    · rw [State.fbu_setFbu_same, FbSt.awaiting_travel]
    · rw [State.fbu_setFbu_same, FbSt.awaiting_homeDue, psrc, idxen]
  case completes =>
    intro l n s hon hst hdue lo hi
    exact ⟨_, (exec_homeComplete ..).trans (execHomeComplete_of_due hon hst hdue lo hi), s.homedAt_spec l n.val lo hi⟩
  case drops =>
    intro l n s hon hst htravel
    exact ⟨_, congrArg Host.Outcome.next (if_pos (by simp [hon, hst, htravel])), s.unhomed_spec l n.val⟩
  case armed =>
    intro l n j v s hrun harm hdir
    obtain ⟨⟨rs, rest⟩, kept⟩ := s.cmpConfigured_spec (fuB l n.val + 16 * j.val) v
    have value := State.cmpValue_of_same _ kept
    obtain ⟨arm, fires, at_, behind, regs, mem, evq, sk⟩ := (s.cmpConfigured (fuB l n.val + 16 * j.val) v).cmpArmed_spec l n.val j.val
      (decide ((s.cmpConfigured (fuB l n.val + 16 * j.val) v).cmpValue (fuB l n.val + 16 * j.val) ≤
        ((s.cmpConfigured (fuB l n.val + 16 * j.val) v).fbu l n.val).pos))
    refine ⟨_, (exec_compareArm ..).trans (execCompareArm_of_up hrun harm hdir), arm, fires, at_.trans value, ?_, kept.trans regs, ?_, ?_, ?_⟩
    · rw [behind, value, rest]
      rfl
    · rw [mem, rest]
    · rw [evq, rest]
    · rw [sk, rest]
  case fires =>
    intro l n j clock s hon hquad hpsrc hdir lo hi harm hup hrep hat hpos others
    obtain ⟨t, he, rest, unit⟩ := execQuadEdge_fires (clock := clock) j.isLt hon hquad hpsrc hdir lo hi harm hup hrep hat hpos others
    have hr : ((s.setFbu l n.val (s.unitAt l n.val ((s.fbu l n.val).t + 1))).lane l.lane).reset = false :=
      State.reset_of_running (State.running_of_fbOn hon)
    obtain ⟨fired, count, -, evt, bit, trigger, -⟩ := State.cmpHit_spec (n := n.val) j.isLt hr
    have follows := State.cmpHit_follows (s := s.setFbu l n.val (s.unitAt l n.val ((s.fbu l n.val).t + 1))) (l := l) (n := n.val) j.isLt
    refine ⟨t, (exec_quadEdge ..).trans he, ?_, ?_, ?_, ?_, ?_, ?_, ?_, ?_, ?_⟩
    · rw [rest.fb, State.fb_fs_apart _ _ (by decide) (by decide), fired]
    · rw [rest.fb, State.fb_fs_same _ _ _ _ (by decide)]
      rfl
    · rw [rest.fg, State.fg_fs_apart _ _ (by decide) (by decide), count, State.setFbu_fg]
    · rw [rest.fg, State.fg_fs_of_ne, evt]
      simp only [FB.CMP_CFG_ARM, FB.EVT_CMP]
      omega
    · rw [unit, State.fs_fbu, bit]
    · rw [rest.fired]
      exact trigger
    · rw [rest.evq, State.fs_evq, follows.evq, State.setFbu_evq]
    · rw [rest.mem, State.fs_mem, follows.mem, State.setFbu_mem]
    · rw [rest.sk, State.fs_sk, follows.sk, State.setFbu_sk]

end Sys2Proof.Machine
end

section
/-! SUPPORT. What a Hall code and a serial read of a feedback unit do (R155, R157, R172 to R181). -/

namespace Sys2Proof.Machine

open Sys2Proof

/-- The unit with its samples. -/
def FbSt.withHist (x : FbSt) (h : List FbSample) : FbSt := { x with hist := h }

/-! What the axis and the sample make of a read -/

section

variable (s : State) (l : DLane) (n : Nat)

theorem alignReg_mem_followRegs : axB l n + AX.STATUS_ALIGN.ofs ∈ followRegs l n := List.mem_cons_self

variable {s l n} in
/-- The axis's alignment changes. -/
theorem State.FbFollows.setAlign {t : State} (h : s.FbFollows t l n (followRegs l n)) (hn : n < 6) (a : Nat) :
    s.FbFollows (t.setAlign l n a) l n (followRegs l n) :=
  h.fs a (alignReg_mem_followRegs l n) (fuB_ne_axB l hn (by decide)).symm

theorem State.axisRead_follows (hn : n < 6) (valid : Bool) : s.FbFollows (s.axisRead l n valid) l n (followRegs l n) := by
  unfold State.axisRead
  refine .ite (.refl ..) ?_
  dsimp only
  split
  · exact ((State.FbFollows.refl ..).setAxis ..).setAlign hn 2
  · exact .ite ((State.FbFollows.refl ..).setAxis ..) (((State.FbFollows.refl ..).setAxis ..).setAlign hn 0)

theorem State.axisSsi_follows (p : Option Int) (ns : Nat) : s.FbFollows (s.axisSsi l n p ns) l n (followRegs l n) :=
  .ite (.refl ..) ((State.FbFollows.refl ..).setAxis ..)

theorem State.ssiSample_follows (old : FbSt) (posq : Nat) : s.FbFollows (s.ssiSample l n old posq) l n (followRegs l n) := by
  have speed (h : List FbSample) :
      s.FbFollows (((s.setFbu l n ((s.fbu l n).withHist h)).fbSpeed l n).sampleSpeed l n) l n (followRegs l n) :=
    (((State.FbFollows.refl ..).setFbu rfl).trans (State.fbSpeed_follows ..)).trans (State.sampleSpeed_follows ..)
  unfold State.ssiSample
  dsimp only
  split
  · exact .refl ..
  · exact .ite (speed _) ((speed _).setFbu rfl)

/-- A Hall code that is no step from the one before aligns the axis to its sector, or to none. -/
theorem State.axisHall_follows (hn : n < 6) {old : Option Nat} {code : Nat} (t : Int)
    (h : ∀ k ∈ hallSector code, (old.bind hallSector).bind (fun j => hallStep j k) = none) :
    s.FbFollows (s.axisHall l n old code t) l n (followRegs l n) := by
  have quiet := State.FbFollows.refl s l n (followRegs l n)
  unfold State.axisHall
  dsimp only
  split
  · split
    · exact .ite quiet (quiet.setAlign hn 0)
    · next k hk =>
      rw [h k hk]
      exact .ite (quiet.setAlign hn 1) quiet
  · refine .ite quiet ?_
    split
    · next edge hedge =>
      obtain ⟨k, hk, step⟩ := Option.bind_eq_some_iff.mp hedge
      rw [h k hk] at step
      exact absurd step (by simp)
    · exact quiet
  · exact quiet.setAlign hn _

end

/-! A Hall code (R173) -/

/-- The unit with a Hall code accepted. -/
def FbSt.hallAt (x : FbSt) (code : Nat) : FbSt := { x with hall := some code, hall1 := x.hall1.orElse (fun _ => some code) }

@[simp] theorem FbSt.hallAt_t (x : FbSt) (code : Nat) : (x.hallAt code).t = x.t := rfl

/-- A Hall code of the unit is accepted and shown. -/
def State.hallShown (s : State) (l : DLane) (n code : Nat) : State :=
  (s.setFbu l n ((s.fbu l n).hallAt code)).fs (fuB l n) FB.STATUS_HALL code

section

variable {s : State} {l : DLane} {n code : Nat}

/-- A code of no sector is counted and raises 0x041. -/
theorem State.hallTo_of_illegal (hnew : (s.fbu l n).hall ≠ some code) (hill : hallSector code = none) :
    s.hallTo l n code = let u := (((s.hallShown l n code).fInc (fuB l n) FB.ERRCNT_HALL).fs (fuB l n) FB.EVT_HALL_ILL 1).raiseL l.lane 0x41 n
      u.axisHall l n (s.fbu l n).hall code (u.fbu l n).t := by
  unfold State.hallTo
  dsimp only
  rw [if_neg hnew, hill]
  rfl

/-- A step between codes that are not neighbours raises 0x047. -/
theorem State.hallTo_of_skip {j k : Nat} (hnew : (s.fbu l n).hall ≠ some code) (hk : hallSector code = some k)
    (hj : (s.fbu l n).hall.bind hallSector = some j) (hskip : hallStep j k = none) :
    s.hallTo l n code = let u := ((s.hallShown l n code).fs (fuB l n) FB.EVT_HALL_SKIP 1).raiseL l.lane 0x47 n
      u.axisHall l n (s.fbu l n).hall code (u.fbu l n).t := by
  unfold State.hallTo
  dsimp only
  rw [if_neg hnew, hk, hj]
  dsimp only
  rw [hskip]
  rfl

end

/-! A serial read (R174 to R176) -/

/-- The unit once a read has failed. -/
def FbSt.missedRead (x : FbSt) : FbSt := { x with missed := x.missed + 1 }

/-- The unit at its first read. -/
def FbSt.firstRead (x : FbSt) (v : Nat) (first : Int) : FbSt :=
  { x with vPrev := some v, ser1 := x.ser1.orElse (fun _ => some v), ser := first, missed := 0, lostRaised := false }

section

variable (x y : FbSt) (v : Nat) (first t c : Int) (full : Bool)

@[simp] theorem FbSt.missedRead_t : x.missedRead.t = x.t := rfl
@[simp] theorem FbSt.missedRead_missed : x.missedRead.missed = x.missed + 1 := rfl
@[simp] theorem FbSt.missedRead_frames : x.missedRead.frames = x.frames := rfl
@[simp] theorem FbSt.sampled_missed : (x.sampled y).missed = x.missed := rfl
@[simp] theorem FbSt.sampled_frames : (x.sampled y).frames = x.frames := rfl
@[simp] theorem FbSt.at_missed : (x.at t c full).missed = x.missed := rfl
@[simp] theorem FbSt.firstRead_missed : (x.firstRead v first).missed = 0 := rfl

end

section

variable (s : State) (l : DLane) (n : Nat)

/-- The state once a read has failed its checks, before the axis follows. -/
def State.readFailed (s : State) (l : DLane) (n : Nat) : State :=
  let u := ((s.fInc (fuB l n) FB.ERRCNT_SER).fs (fuB l n) FB.EVT_SER_ERR 1).raiseL l.lane 0x45 n
  (u.setFbu l n (u.fbu l n).missedRead).fs (fuB l n) FB.STATUS_SERVALID 0

theorem State.serBad_eq : s.serBad l n false = (s.readFailed l n).axisRead l n false := rfl

theorem State.readFailed_spec (hrun : s.running l.lane = true) :
    let t := s.readFailed l n
    t.fbu l n = (s.fbu l n).missedRead ∧ t.fb (fuB l n) FB.STATUS_SERVALID = false ∧ t.fb (fuB l n) FB.EVT_SER_ERR = true ∧
      t.fg (fuB l n) FB.ERRCNT_SER = min 255 (s.fg (fuB l n) FB.ERRCNT_SER + 1) ∧ LaneEvent t l.lane 0x45 n ∧ t.mem = s.mem ∧
      t.sk = s.sk := by
  have top : 2 ^ FB.ERRCNT_SER.w - 1 = 255 := rfl
  refine ⟨?_, ?_, ?_, ?_, ?_, ?_, ?_⟩
  · rw [State.readFailed, State.fs_fbu, State.fbu_setFbu_same, State.raiseL_fbu, State.fs_fbu, State.fInc_fbu]
  · exact State.fb_fs_same _ _ _ _ (by decide)
  · rw [State.readFailed, State.fb_fs_apart _ _ (by decide) (by decide), State.setFbu_fb, State.raiseL_fb,
      State.fb_fs_one _ _ (by decide) (by decide)]
  · rw [State.readFailed, State.fg_fs_apart _ _ (by decide) (by decide), State.setFbu_fg, State.raiseL_fg,
      State.fg_fs_apart _ _ (by decide) (by decide), State.fg_fInc_same _ _ _ (by decide), top]
  · exact State.laneEvent_raiseL ((s.fInc (fuB l n) FB.ERRCNT_SER).fs (fuB l n) FB.EVT_SER_ERR 1) n rfl
      (State.reset_of_running (by simpa using hrun))
  · simp [State.readFailed]
  · simp [State.readFailed]

/-- The unit has its first read, which STATUS and SERRAW show. -/
def State.readValid (s : State) (l : DLane) (n v : Nat) (first : Int) : State :=
  ((s.setFbu l n ((s.fbu l n).firstRead v first)).fs (fuB l n) FB.SERRAW_V v).fs (fuB l n) FB.STATUS_SERVALID 1

/-- The first read of an absolute encoder makes a lost position valid, unless the retention check runs. -/
def State.readShown (s : State) (l : DLane) (n v : Nat) (first : Int) : State :=
  let u := s.readValid l n v first
  if u.fb (fuB l n) FB.CTRL_SERABS ∧ u.fg (fuB l n) FB.STATUS_POSQ = 0 ∧ ¬ (s.fbu l n).retPend then u.fs (fuB l n) FB.STATUS_POSQ 1 else u

/-- The state once the first read is shown and has set the position, before the axis follows. -/
def State.readTaken (s : State) (l : DLane) (n v : Nat) (first : Int) : State := (s.readShown l n v first).moveTo l n first

/-- The first read sets the position. -/
theorem State.serValue_of_first (hfirst : (s.fbu l n).vPrev = none) (v w : Nat) :
    s.serValue l n v w false = (s.readTaken l n v v).axisRead l n true := by
  unfold State.serValue
  simp only [hfirst, Option.isSome_none, Option.isNone_none, Bool.false_eq_true, false_and, if_false, if_true, true_and]
  rfl

end

end Sys2Proof.Machine
end

section
/-! PROOF. Hall codes, serial reads and the sample point of a feedback unit. -/

namespace Sys2Proof.Machine

open Sys2Proof

/-! A Hall code (R173) -/

/-- A fault of the Hall code is shown and raised; the axis that follows is aligned at most. -/
theorem State.hallTold_spec (s : State) (l : DLane) {n src c code : Nat} {evt : Fld} {old : Option Nat} (hn : n < 6)
    (hrun : s.running l.lane = true) (hc : defaultClass (.lane l.lane) src = some c)
    (hevt : evt.lo + evt.w ≤ 32 ∧ evt.w ≠ 0 ∧ evt.apart FB.STATUS_HALL = true ∧ evt.apart FB.ERRCNT_HALL = true)
    (hread : evt.ofs < 0x100 ∧ FB.EVT_CMP.apart evt = true ∧ evt.ofs ≠ FB.SPEED_VALUE.ofs)
    (hquiet : ∀ k ∈ hallSector code, (old.bind hallSector).bind (fun j => hallStep j k) = none) :
    let u := (s.fs (fuB l n) evt 1).raiseL l.lane src n
    let t := u.axisHall l n old code (u.fbu l n).t
    t.fg (fuB l n) FB.STATUS_HALL = s.fg (fuB l n) FB.STATUS_HALL ∧ t.fb (fuB l n) evt = true ∧
      t.fg (fuB l n) FB.ERRCNT_HALL = s.fg (fuB l n) FB.ERRCNT_HALL ∧ LaneEvent t l.lane src n ∧ (t.fbu l n).t = (s.fbu l n).t ∧
      t.mem = s.mem ∧ t.sk = s.sk := by
  dsimp only
  obtain ⟨fits, wide, hall, count⟩ := hevt
  obtain ⟨low, cmp, speed⟩ := hread
  have follows := ((s.fs (fuB l n) evt 1).raiseL l.lane src n).axisHall_follows l n hn
    (((s.fs (fuB l n) evt 1).raiseL l.lane src n).fbu l n).t hquiet
  refine ⟨?_, ?_, ?_, ?_, ?_, ?_, ?_⟩
  · rw [follows.fg hn (by decide) (by decide) (by decide), State.raiseL_fg, State.fg_fs_apart _ _ fits hall]
  · rw [follows.fb hn low cmp speed, State.raiseL_fb, State.fb_fs_one _ _ fits wide]
  · rw [follows.fg hn (by decide) (by decide) (by decide), State.raiseL_fg, State.fg_fs_apart _ _ fits count]
  · rw [LaneEvent, follows.evq]
    exact State.laneEvent_raiseL _ n hc (State.reset_of_running (by simpa using hrun))
  · rw [follows.position, State.raiseL_fbu, State.fs_fbu]
  · rw [follows.mem, State.raiseL_mem, State.fs_mem]
  · rw [follows.sk, State.raiseL_sk, State.fs_sk]

section

variable {s : State} {l : DLane} {n : Nat}

/-! The first read -/

theorem State.readValid_spec (s : State) (l : DLane) (n v : Nat) (first : Int) :
    let t := s.readValid l n v first
    t.fbu l n = (s.fbu l n).firstRead v first ∧ t.fb (fuB l n) FB.STATUS_SERVALID = true ∧
      (v < 2 ^ 32 → t.fg (fuB l n) FB.SERRAW_V = v) ∧ t.fb (fuB l n) FB.CTRL_SERABS = s.fb (fuB l n) FB.CTRL_SERABS ∧
      t.fg (fuB l n) FB.STATUS_POSQ = s.fg (fuB l n) FB.STATUS_POSQ ∧ s.LimitsKept t (fuB l n) ∧ t.evq = s.evq ∧ t.mem = s.mem ∧
      t.sk = s.sk := by
  refine ⟨?_, State.fb_fs_one _ _ (by decide) (by decide), fun h => ?_, ?_, ?_, ?_, rfl, rfl, rfl⟩
  · rw [State.readValid, State.fs_fbu, State.fs_fbu, State.fbu_setFbu_same]
  · rw [State.readValid, State.fg_fs_apart _ _ (by decide) (by decide), State.fg_fs_fits _ _ (by decide) h]
  · rw [State.readValid, State.fb_fs_apart _ _ (by decide) (by decide), State.fb_fs_apart _ _ (by decide) (by decide), State.setFbu_fb]
  · rw [State.readValid, State.fg_fs_apart _ _ (by decide) (by decide), State.fg_fs_apart _ _ (by decide) (by decide), State.setFbu_fg]
  · exact ((State.LimitsKept.of_regs (State.setFbu_regs ..)).fs (.inr (by decide)) v).fs (.inr (by decide)) 1

theorem State.readShown_spec (s : State) (l : DLane) (n v : Nat) (first : Int) :
    let t := s.readShown l n v first
    t.fbu l n = (s.fbu l n).firstRead v first ∧ t.fb (fuB l n) FB.STATUS_SERVALID = true ∧
      (v < 2 ^ 32 → t.fg (fuB l n) FB.SERRAW_V = v) ∧
      (s.fb (fuB l n) FB.CTRL_SERABS = true → s.fg (fuB l n) FB.STATUS_POSQ = 0 → (s.fbu l n).retPend = false →
        t.fg (fuB l n) FB.STATUS_POSQ = 1) ∧
      s.LimitsKept t (fuB l n) ∧ t.evq = s.evq ∧ t.mem = s.mem ∧ t.sk = s.sk := by
  obtain ⟨unit, valid, raw, abs, posq, limits, evq, mem, sk⟩ := s.readValid_spec l n v first
  unfold State.readShown
  dsimp only
  rw [abs, posq]
  split
  · refine ⟨unit, ?_, fun h => ?_, fun _ _ _ => State.fg_fs_fits _ _ (by decide) (by decide), limits.fs (.inr (by decide)) 1, evq, mem, sk⟩
    · rw [State.fb_fs_apart _ _ (by decide) (by decide), valid]
    · rw [State.fg_fs_apart _ _ (by decide) (by decide), raw h]
  · next hnot => exact ⟨unit, valid, raw, fun h h' h'' => absurd ⟨h, h', by simp [h'']⟩ hnot, limits, evq, mem, sk⟩

/-- A read sets the position and is shown as valid. -/
theorem State.readTaken_spec (s : State) (l : DLane) (hn : n < 6) {v : Nat} {first : Int} (lo : s.softMin (fuB l n) ≤ first)
    (hi : first ≤ s.softMax (fuB l n)) :
    let t := s.readTaken l n v first
    (t.fbu l n).t = first ∧ (t.fbu l n).missed = 0 ∧ t.fb (fuB l n) FB.STATUS_SERVALID = true ∧
      (v < 2 ^ 32 → t.fg (fuB l n) FB.SERRAW_V = v) ∧
      (s.fb (fuB l n) FB.CTRL_SERABS = true → s.fg (fuB l n) FB.STATUS_POSQ = 0 → (s.fbu l n).retPend = false →
        t.fg (fuB l n) FB.STATUS_POSQ = 1) ∧ t.evq = s.evq ∧ t.mem = s.mem ∧ t.sk = s.sk := by
  obtain ⟨unit, valid, raw, posq, limits, evq, mem, sk⟩ := s.readShown_spec l n v first
  dsimp only
  rw [State.readTaken]
  set u := s.readShown l n v first
  have moved := State.moveTo_of_mem (s := u) (l := l) (n := n) (p := first) (limits.softMin.symm ▸ lo) (limits.softMax.symm ▸ hi)
  have follows := ((u.setFbu l n (u.unitAt l n first)).cmpMove_follows l n (u.fbu l n).pos first).mono (compareRegs_subset_followRegs l n)
  rw [← moved] at follows
  have inside : u.holdExcess (fuB l n) first = first := by
    rw [limits.holdExcess, State.holdExcess_of_mem lo hi]
  obtain ⟨y, hy⟩ := follows.unit
  refine ⟨?_, ?_, ?_, fun h => ?_, fun h h' h'' => ?_, ?_, ?_, ?_⟩
  · rw [hy, State.fbu_setFbu_same, FbSt.sampled_t, State.unitAt_t, inside]
  · rw [hy, State.fbu_setFbu_same, FbSt.sampled_missed, State.unitAt, FbSt.at_missed, unit, FbSt.firstRead_missed]
  · rw [follows.fb hn (by decide) (by decide) (by decide), State.setFbu_fb, valid]
  · rw [follows.fg hn (by decide) (by decide) (by decide), State.setFbu_fg, raw h]
  · rw [follows.fg hn (by decide) (by decide) (by decide), State.setFbu_fg, posq h h' h'']
  · rw [follows.evq, State.setFbu_evq, evq]
  · rw [follows.mem, State.setFbu_mem, mem]
  · rw [follows.sk, State.setFbu_sk, sk]

end

/-! SSI_READ_DONE (R174 to R177) -/

/-- The unit whose SSI read has ended. -/
def FbSt.idle (x : FbSt) : FbSt := { x with reading := false }

section

variable (x : FbSt)

@[simp] theorem FbSt.idle_t : x.idle.t = x.t := rfl
@[simp] theorem FbSt.idle_missed : x.idle.missed = x.missed := rfl
@[simp] theorem FbSt.idle_vPrev : x.idle.vPrev = x.vPrev := rfl
@[simp] theorem FbSt.idle_retPend : x.idle.retPend = x.retPend := rfl

end

/-- The read of the state s is judged, and the axis and the sample follow it. -/
def State.ssiFollow (s : State) (l : DLane) (n : Nat) (old : FbSt) (posq : Nat) : State :=
  let p := if s.fb (fuB l n) FB.STATUS_SERVALID then some (s.fbu l n).ser else none
  (s.axisSsi l n p (5 * s.sampleClocks l n)).ssiSample l n old posq

theorem State.ssiFollow_follows (s : State) (l : DLane) (n : Nat) (old : FbSt) (posq : Nat) :
    s.FbFollows (s.ssiFollow l n old posq) l n (followRegs l n) := (State.axisSsi_follows ..).trans (State.ssiSample_follows ..)

section

variable {s : State} {l : DLane} {n : Fin 6} (hon : s.fbOn l n.val = true) (hser : s.fg (fuB l n.val) FB.CTRL_SER = 1)
  (hread : (s.fbu l n.val).reading = true)

include hon hser hread

theorem execSsiReadDone_of_failed (data : Word) (st : BitVec 4) : execSsiReadDone l n false data st s =
    .next (((s.setFbu l n.val (s.fbu l n.val).idle).serBad l n.val false).ssiFollow l n.val (s.fbu l n.val)
      (s.fg (fuB l n.val) FB.STATUS_POSQ)) :=
  (if_neg (by simp [hon, hser, hread])).trans
    (congrArg (fun u => Host.Outcome.next (State.ssiFollow u l n.val (s.fbu l n.val) (s.fg (fuB l n.val) FB.STATUS_POSQ))) (if_pos rfl))

theorem execSsiReadDone_of_passed (data : Word) (st : BitVec 4) (hstat : s.fg (fuB l n.val) FB.SSICFG_STAT = 0)
    (hgray : s.fb (fuB l n.val) FB.SSICFG_GRAY = false) (hinit : s.fb (fuB l n.val) FB.SSICFG_INIT = false) :
    execSsiReadDone l n true data st s =
      .next (((s.setFbu l n.val (s.fbu l n.val).idle).serValue l n.val (data.toNat % 2 ^ s.fg (fuB l n.val) FB.SSICFG_BITS)
        (s.fg (fuB l n.val) FB.SSICFG_BITS) false).ssiFollow l n.val (s.fbu l n.val) (s.fg (fuB l n.val) FB.STATUS_POSQ)) := by
  have clean (p : Nat → Bool) : ¬ (!true || (List.range (min 4 (s.fg (fuB l n.val) FB.SSICFG_STAT))).any p) = true := by simp [hstat]
  have plain (v g : Nat) : (if s.fb (fuB l n.val) FB.SSICFG_GRAY then g else v) = v := by simp [hgray]
  refine (if_neg (by simp [hon, hser, hread])).trans (congrArg (fun u => Host.Outcome.next (State.ssiFollow u l n.val (s.fbu l n.val)
    (s.fg (fuB l n.val) FB.STATUS_POSQ))) ((if_neg (clean _)).trans ?_))
  exact (congrArg₂ (fun v i => (s.setFbu l n.val (s.fbu l n.val).idle).serValue l n.val v (s.fg (fuB l n.val) FB.SSICFG_BITS) i)
    (plain ..) hinit)

end

/-! SENT_FRAME (R179 to R182) -/

/-- The unit that has heard a frame. -/
def FbSt.heard (x : FbSt) (cal : Nat) (stat : List Nat) : FbSt := { x with calPrev := some cal, stat := stat }

/-- The unit with its latest frames. -/
def FbSt.framed (x : FbSt) (g : SentSt) : FbSt := { x with frames := (g :: x.frames).take 2 }

section

variable (x : FbSt) (cal : Nat) (stat : List Nat) (g : SentSt)

@[simp] theorem FbSt.heard_t : (x.heard cal stat).t = x.t := rfl
@[simp] theorem FbSt.heard_missed : (x.heard cal stat).missed = x.missed := rfl
@[simp] theorem FbSt.heard_frames : (x.heard cal stat).frames = x.frames := rfl
@[simp] theorem FbSt.heard_vPrev : (x.heard cal stat).vPrev = x.vPrev := rfl
@[simp] theorem FbSt.framed_t : (x.framed g).t = x.t := rfl
@[simp] theorem FbSt.framed_missed : (x.framed g).missed = x.missed := rfl
@[simp] theorem FbSt.framed_head : (x.framed g).frames.head? = some g := rfl

end

/-- The status nibbles of the valid frames in a row, after the frame f. -/
def State.sentStat (s : State) (l : DLane) (n : Nat) (f : SentIn) : List Nat :=
  if s.sentOk (fuB l n) (s.fbu l n).calPrev f then (f.status :: (s.fbu l n).stat).take 18 else []

/-- Unit n has heard the frame f. -/
def State.sentHeard (s : State) (l : DLane) (n : Nat) (f : SentIn) : State :=
  s.setFbu l n ((s.fbu l n).heard f.calNs (s.sentStat l n f))

/-- A serial message is stored (R181). -/
def State.sentStored (s : State) (b : Nat) (m : Option (Nat × Nat × Nat)) : State :=
  match m with
  | none => s
  | some (k, id, d) =>
    (((s.fs b FB.SENTMSG_DATA d).fs b FB.SENTMSG_ID id).fs b FB.SENTMSG_KIND k).fs b FB.EVT_SENT_MSG 1

/-- A valid frame gives the serial value v, kept as the latest. -/
def State.sentValue (s : State) (l : DLane) (n v w : Nat) (init : Bool) (clock : Nat) : State :=
  let u := s.serValue l n v w init
  if u.fb (fuB l n) FB.STATUS_SERVALID then
    u.setFbu l n ((u.fbu l n).framed ({ v := v, clock := clock, pos := (u.fbu l n).ser } : SentSt))
  else u

/-- Storing a message leaves what is configured. -/
theorem State.sentStored_spec (s : State) (b : Nat) (m : Option (Nat × Nat × Nat)) :
    (∃ rs, s.sentStored b m = { s with regs := rs }) ∧ ∀ f : Fld, f.ofs < 0x50 → (s.sentStored b m).fg b f = s.fg b f := by
  unfold State.sentStored
  split
  · exact ⟨⟨_, rfl⟩, fun _ _ => rfl⟩
  · refine ⟨⟨_, rfl⟩, fun f hf => ?_⟩
    have far {g : Fld} (hg : 0x50 ≤ g.ofs) : b + f.ofs ≠ b + g.ofs := by omega
    rw [State.fg_fs_of_ne _ _ (far (by decide)), State.fg_fs_of_ne _ _ (far (by decide)), State.fg_fs_of_ne _ _ (far (by decide)),
      State.fg_fs_of_ne _ _ (far (by decide))]

section

variable {s : State} {l : DLane} {n : Fin 6} {f : SentIn} {clock : Nat} (hon : s.fbOn l n.val = true)
  (hser : s.fg (fuB l n.val) FB.CTRL_SER = 2)

include hon hser

theorem execSentFrame_of_bad (hok : s.sentOk (fuB l n.val) (s.fbu l n.val).calPrev f = false) :
    execSentFrame l n f clock s = .next ((s.sentHeard l n.val f).serBad l n.val false) :=
  (if_neg (by simp [hon, hser])).trans (if_pos (by simp [hok]))

theorem execSentFrame_of_ok (hok : s.sentOk (fuB l n.val) (s.fbu l n.val).calPrev f = true) :
    execSentFrame l n f clock s =
      .next (let u := (s.sentHeard l n.val f).sentStored (fuB l n.val) (sentMessage (s.fb (fuB l n.val) FB.SENTCFG_CRCLEG) (s.sentStat l n.val f))
        u.sentValue l n.val (nibbleVal (f.nibbles.take (u.fg (fuB l n.val) FB.SENTCFG_PNIB))) (4 * u.fg (fuB l n.val) FB.SENTCFG_PNIB)
          (u.fb (fuB l n.val) FB.SENTCFG_INIT) clock) :=
  (if_neg (by simp [hon, hser])).trans (if_neg (by simp [hok]))

end

/-- The first frame sets the position and is kept as the latest. -/
theorem State.sentValue_of_first (s : State) (l : DLane) {n : Nat} (hn : n < 6) (hfirst : (s.fbu l n).vPrev = none) {v : Nat}
    (lo : s.softMin (fuB l n) ≤ v) (hi : v ≤ s.softMax (fuB l n)) (w clock : Nat) :
    let t := s.sentValue l n v w false clock
    (t.fbu l n).t = v ∧ (t.fbu l n).missed = 0 ∧ ((t.fbu l n).frames.head?.map fun g => (g.v, g.clock)) = some (v, clock) ∧
      t.fb (fuB l n) FB.STATUS_SERVALID = true ∧ t.evq = s.evq ∧ t.mem = s.mem ∧ t.sk = s.sk := by
  obtain ⟨pos, missed, valid, -, -, evq, mem, sk⟩ := s.readTaken_spec l hn (v := v) lo hi
  have follows := (s.readTaken l n v v).axisRead_follows l n hn true
  have shown : ((s.readTaken l n v v).axisRead l n true).fb (fuB l n) FB.STATUS_SERVALID = true := by
    rw [follows.fb hn (by decide) (by decide) (by decide), valid]
  obtain ⟨y, hy⟩ := follows.unit
  dsimp only
  rw [State.sentValue, State.serValue_of_first _ _ _ hfirst, if_pos shown, State.fbu_setFbu_same]
  refine ⟨?_, ?_, ?_, shown, ?_, ?_, ?_⟩
  · rw [FbSt.framed_t, follows.position, pos]
  · rw [FbSt.framed_missed, hy, FbSt.sampled_missed, missed]
  · rw [FbSt.framed_head]
    rfl
  · rw [State.setFbu_evq, follows.evq, evq]
  · rw [State.setFbu_mem, follows.mem, mem]
  · rw [State.setFbu_sk, follows.sk, sk]

/-- Nibbles spell a number of as many hexadecimal digits. -/
theorem nibbleVal_lt {ns : List Nat} (h : ∀ x ∈ ns, x < 16) : nibbleVal ns < 16 ^ ns.length := by
  have fromStart (a : Nat) : ns.foldl (fun a x => a * 16 + x) a < (a + 1) * 16 ^ ns.length := by
    induction ns generalizing a with
    | nil => simp
    | cons x ns ih =>
      have hx := h x List.mem_cons_self
      calc ns.foldl (fun a x => a * 16 + x) (a * 16 + x)
        _ < (a * 16 + x + 1) * 16 ^ ns.length := ih (fun y hy => h y (List.mem_cons_of_mem _ hy)) _
        _ ≤ ((a + 1) * 16) * 16 ^ ns.length := Nat.mul_le_mul_right _ (by omega)
        _ = (a + 1) * 16 ^ (x :: ns).length := by rw [List.length_cons, Nat.pow_succ, Nat.mul_assoc, Nat.mul_comm 16]
  simpa [nibbleVal] using fromStart 0

theorem State.sentOk_nibbles {s : State} {b : Nat} {p : Option Nat} {f : SentIn} (h : s.sentOk b p f = true) : ∀ x ∈ f.nibbles, x < 16 := by
  simp only [State.sentOk, Bool.and_eq_true, List.all_eq_true, decide_eq_true_eq] at h
  obtain ⟨⟨⟨-, nibbles⟩, -⟩, -⟩ := h
  exact fun x hx => nibbles x (List.mem_cons_of_mem _ (List.mem_cons_of_mem _ hx))

/-- The position nibbles of a valid frame spell a number of at most 24 bits. -/
theorem State.sentOk_value {s : State} {b : Nat} {p : Option Nat} {f : SentIn} (h : s.sentOk b p f = true) {k : Nat} (hk : k ≤ 6) :
    nibbleVal (f.nibbles.take k) < 2 ^ 24 :=
  calc nibbleVal (f.nibbles.take k)
    _ < 16 ^ (f.nibbles.take k).length := nibbleVal_lt fun x hx => State.sentOk_nibbles h x (List.mem_of_mem_take hx)
    _ ≤ 16 ^ 6 := Nat.pow_le_pow_right (by decide) (le_trans (List.length_take_le ..) hk)
    _ = 2 ^ 24 := rfl

theorem State.sentOk_false {s : State} {b : Nat} {p : Option Nat} {f : SentIn}
    (h : f.crc ≠ sentCrc4 (s.fb b FB.SENTCFG_CRCLEG) f.nibbles ∨ 15 < f.status ∨ (∃ x ∈ f.nibbles, 15 < x) ∨
      f.nibbles.length ≠ s.fg b FB.SENTCFG_NIB) : s.sentOk b p f = false := by
  rw [Bool.eq_false_iff]
  intro hok
  have small := State.sentOk_nibbles hok
  simp only [State.sentOk, Bool.and_eq_true, List.all_eq_true, decide_eq_true_eq, beq_iff_eq] at hok
  obtain ⟨⟨⟨⟨-, length⟩, nibbles⟩, crc⟩, -⟩ := hok
  rcases h with hcrc | hstatus | ⟨x, hx, hbig⟩ | hlength
  · exact hcrc crc
  · have := nibbles f.status List.mem_cons_self
    omega
  · have := small x hx
    omega
  · exact hlength length

theorem State.sentOk_of_checks {s : State} {b : Nat} {f : SentIn} (hcrc : f.crc = sentCrc4 (s.fb b FB.SENTCFG_CRCLEG) f.nibbles)
    (hnib : ∀ x ∈ f.status :: f.crc :: f.nibbles, x < 16) (hlen : f.nibbles.length = s.fg b FB.SENTCFG_NIB)
    (hcal : f.calNs = 14000 * s.fg b FB.SENTCFG_TICK) (hpause : s.fb b FB.SENTCFG_PAUSE = false) : s.sentOk b none f = true := by
  have tick : 80 * (56 * 250 * s.fg b FB.SENTCFG_TICK) ≤ 100 * f.calNs ∧ 100 * f.calNs ≤ 120 * (56 * 250 * s.fg b FB.SENTCFG_TICK) := by omega
  have nibbles : (f.status :: f.crc :: f.nibbles).all (fun v => decide (v < 16)) = true := by simpa using hnib
  simp [State.sentOk, tick, nibbles, hlen, hpause, ← hcrc]

/-! The latch at a beacon (R184, R185) -/

/-- The status word holds the excess in its low half, POSQ above it, and the rest above that (R185). -/
theorem State.fbStatusWord_eq (s : State) (l : DLane) (n : Nat) (ok : Bool) (clock : Nat) : ∃ k, s.fbStatusWord l n ok clock =
    unsigned 16 ((s.fbu l n).t - (s.fbu l n).pos) + s.fg (fuB l n) FB.STATUS_POSQ * 2 ^ 16 + 2 ^ 18 * k := by
  refine ⟨(s.fbu l n).hall.getD 0 + (if (s.fbu l n).idxSeen then 8 else 0) + (if ok then 16 else 0) + (s.fbu l n).cmpFired * 64 +
    s.fg (fuB l n) FB.SLIP_LAST * 2 ^ 14 + s.serAge l n clock * 2 ^ 30, ?_⟩
  unfold State.fbStatusWord
  dsimp only
  split
  · split
    · omega
    · omega
  · split
    · omega
    · omega

theorem State.fbStatusWord_low (s : State) (l : DLane) (n : Nat) (ok : Bool) (clock : Nat) :
    s.fbStatusWord l n ok clock % 2 ^ 16 = unsigned 16 ((s.fbu l n).t - (s.fbu l n).pos) ∧
      s.fbStatusWord l n ok clock / 2 ^ 16 % 4 = s.fg (fuB l n) FB.STATUS_POSQ := by
  obtain ⟨k, hk⟩ := s.fbStatusWord_eq l n ok clock
  have excess : unsigned 16 ((s.fbu l n).t - (s.fbu l n).pos) < 2 ^ 16 := unsigned_lt _ _
  have posq : s.fg (fuB l n) FB.STATUS_POSQ < 4 := s.fg_lt ..
  omega

/-- What a beacon's sample point latches. -/
theorem State.fbLatched_spec (s : State) (l : DLane) {n : Nat} (hn : n < 6) (clock : Nat) :
    let t := s.fbLatched l n clock
    (t.fbu l n).t = (s.fbu l n).t ∧ (t.fbu l n).latT = (s.fbu l n).t ∧ (t.fbu l n).latPos = (s.fbu l n).pos ∧
      (t.fbu l n).latStatus % 2 ^ 16 = unsigned 16 ((s.fbu l n).t - (s.fbu l n).pos) ∧
      (t.fbu l n).latStatus / 2 ^ 16 % 4 = s.fg (fuB l n) FB.STATUS_POSQ ∧ (t.fbu l n).latSpd = (t.fbu l n).spdVal ∧
      (t.fbu l n).cmpFired = 0 ∧ (t.fbu l n).idxSeen = false ∧ (t.fbu l n).homeSt = (s.fbu l n).homeSt ∧ t.evq = s.evq ∧
      t.mem = s.mem ∧ t.sk = s.sk := by
  have samples := s.fbSampled_spec l hn true clock
  have unit : (s.fbLatched l n clock).fbu l n =
      ((s.fbSampled l n true clock).fbu l n).latched ((s.fbSampled l n true clock).fbStatusWord l n (s.sentValid l n) clock) :=
    State.fbu_setFbu_same ..
  obtain ⟨excess, posq⟩ := (s.fbSampled l n true clock).fbStatusWord_low l n (s.sentValid l n) clock
  rw [samples.position, samples.counter] at excess
  rw [samples.field _ (by decide) (by decide) (by decide) (by decide)] at posq
  dsimp only
  rw [unit]
  refine ⟨?_, ?_, ?_, ?_, ?_, ?_, ?_, ?_, ?_, ?_, ?_, ?_⟩
  · rw [FbSt.latched_t, samples.position]
  · rw [FbSt.latched_latT, samples.position]
  · rw [FbSt.latched_latPos, samples.counter]
  · rw [FbSt.latched_latStatus, excess]
  · rw [FbSt.latched_latStatus, posq]
  · rw [FbSt.latched_latSpd, FbSt.latched_spdVal]
  · exact FbSt.latched_cmpFired ..
  · exact FbSt.latched_idxSeen ..
  · rw [FbSt.latched_homeSt, samples.homeSt]
  · rw [State.fbLatched, State.setFbu_evq, samples.evq]
  · rw [State.fbLatched, State.setFbu_mem, samples.mem]
  · rw [State.fbLatched, State.setFbu_sk, samples.sk]

/-! FB_SERIAL_LOST (R175) -/

/-- The unit whose serial input is lost. -/
def FbSt.serialLost (x : FbSt) : FbSt := { x with lostRaised := true }

@[simp] theorem FbSt.serialLost_lostRaised (x : FbSt) : x.serialLost.lostRaised = true := rfl

/-! The obligation -/

/-- The codes of no sector (R173). -/
theorem hallSector_of_illegal {code : Nat} (h : code = 0 ∨ code = 7) : hallSector code = none := by
  rcases h with rfl | rfl
  · rfl
  · rfl

/-- Settles O32: a Hall code is judged, a serial read sets the position or is counted as missed, a beacon's sample point latches. -/
theorem hallSerialAndSamplePoint : Obligations.HallSerialAndSamplePoint := by
  unfold Obligations.HallSerialAndSamplePoint
  refine ⟨?illegal, ?skip, ?ssiBad, ?ssiFirst, ?sentBad, ?sentFirst, ?fails, ?passes, ?lost, ?latch⟩
  case illegal =>
    intro l n code s hon hhall hnew hcode
    have hill := hallSector_of_illegal hcode
    have top : 2 ^ FB.ERRCNT_HALL.w - 1 = 255 := rfl
    have done : execHallChange l n code s = .next (s.hallTo l n.val code.val) := congrArg Host.Outcome.next (if_pos (by simp [hon, hhall]))
    rw [State.hallTo_of_illegal hnew hill] at done
    have hrun := State.running_of_fbOn hon
    obtain ⟨hall, evt, count, told, pos, mem, sk⟩ := ((s.hallShown l n.val code.val).fInc (fuB l n.val) FB.ERRCNT_HALL).hallTold_spec l
      n.isLt (evt := FB.EVT_HALL_ILL) (src := 0x41) (old := (s.fbu l n.val).hall) (code := code.val)
      (by simpa [State.hallShown] using hrun) rfl (by decide) (by decide) (by simp [hill])
    refine ⟨_, (exec_hallChange ..).trans done, ?_, evt, ?_, told, ?_, ?_, ?_⟩
    · rw [hall, State.fg_fInc_apart _ (by decide) (by decide), State.hallShown, State.fg_fs_fits _ _ (by decide) code.isLt]
    · rw [count, State.fg_fInc_same _ _ _ (by decide), State.hallShown, State.fg_fs_apart _ _ (by decide) (by decide), State.setFbu_fg, top]
    · rw [pos]
      simp [State.hallShown]
    · rw [mem]
      simp [State.hallShown]
    · rw [sk]
      simp [State.hallShown]
  case skip =>
    intro l n code h j k s hon hhall hold hj hk hjk hskip
    have old : (s.fbu l n.val).hall.bind hallSector = some j := by rw [hold]; exact hj
    have hnew : (s.fbu l n.val).hall ≠ some code.val := by
      rw [hold]
      intro he
      rw [Option.some.inj he, hk] at hj
      exact hjk (Option.some.inj hj).symm
    have done : execHallChange l n code s = .next (s.hallTo l n.val code.val) := congrArg Host.Outcome.next (if_pos (by simp [hon, hhall]))
    rw [State.hallTo_of_skip hnew hk old hskip] at done
    have hrun := State.running_of_fbOn hon
    obtain ⟨hall, evt, -, told, pos, mem, sk⟩ := (s.hallShown l n.val code.val).hallTold_spec l n.isLt (evt := FB.EVT_HALL_SKIP)
      (src := 0x47) (old := (s.fbu l n.val).hall) (code := code.val) (by simpa [State.hallShown] using hrun) rfl (by decide) (by decide)
      (by simp [old, hk, hskip])
    refine ⟨_, (exec_hallChange ..).trans done, ?_, evt, told, ?_, ?_, ?_⟩
    · rw [hall, State.hallShown, State.fg_fs_fits _ _ (by decide) code.isLt]
    · rw [pos]
      simp [State.hallShown]
    · rw [mem]
      simp [State.hallShown]
    · rw [sk]
      simp [State.hallShown]
  case ssiBad =>
    intro l n data st s hon hser hread
    obtain ⟨unit, valid, evt, count, told, mem, sk⟩ :=
      (s.setFbu l n.val (s.fbu l n.val).idle).readFailed_spec l n.val (State.running_of_fbOn (s := s) hon)
    have follows := ((s.setFbu l n.val (s.fbu l n.val).idle).readFailed l n.val).axisRead_follows l n.val n.isLt false
    rw [← State.serBad_eq] at follows
    replace follows := follows.trans (State.ssiFollow_follows _ l n.val (s.fbu l n.val) (s.fg (fuB l n.val) FB.STATUS_POSQ))
    rw [State.fbu_setFbu_same] at unit
    obtain ⟨y, hy⟩ := follows.unit
    refine ⟨_, (exec_ssiReadDone ..).trans (execSsiReadDone_of_failed hon hser hread data st), ?_, ?_, ?_, ?_, ?_, ?_, ?_, ?_⟩
    · rw [hy, unit, FbSt.sampled_t, FbSt.missedRead_t, FbSt.idle_t]
    · rw [hy, unit, FbSt.sampled_missed, FbSt.missedRead_missed, FbSt.idle_missed]
    · rw [follows.fb n.isLt (by decide) (by decide) (by decide), valid]
    · rw [follows.fb n.isLt (by decide) (by decide) (by decide), evt]
    · rw [follows.fg n.isLt (by decide) (by decide) (by decide), count, State.setFbu_fg]
    · rw [LaneEvent, follows.evq]
      exact told
    · rw [follows.mem, mem, State.setFbu_mem]
    · rw [follows.sk, sk, State.setFbu_sk]
  case ssiFirst =>
    intro l n data st v s hon hser hread hstat hgray hinit hfirst hv lo hi
    set raw := data.toNat % 2 ^ s.fg (fuB l n.val) FB.SSICFG_BITS
    have small : raw < 2 ^ 32 := lt_of_le_of_lt (Nat.mod_le ..) data.isLt
    subst hv
    obtain ⟨pos, missed, valid, shown, posq, evq, mem, sk⟩ :=
      (s.setFbu l n.val (s.fbu l n.val).idle).readTaken_spec l n.isLt (v := raw) (first := raw) lo hi
    have follows := ((s.setFbu l n.val (s.fbu l n.val).idle).readTaken l n.val raw raw).axisRead_follows l n.val n.isLt true
    have first : ((s.setFbu l n.val (s.fbu l n.val).idle).fbu l n.val).vPrev = none := by
      rw [State.fbu_setFbu_same, FbSt.idle_vPrev, hfirst]
    rw [← State.serValue_of_first _ _ _ first _ (s.fg (fuB l n.val) FB.SSICFG_BITS)] at follows
    replace follows := follows.trans (State.ssiFollow_follows _ l n.val (s.fbu l n.val) (s.fg (fuB l n.val) FB.STATUS_POSQ))
    obtain ⟨y, hy⟩ := follows.unit
    refine ⟨_, (exec_ssiReadDone ..).trans (execSsiReadDone_of_passed hon hser hread data st hstat hgray hinit), ?_, ?_, ?_, ?_, ?_, ?_, ?_, ?_⟩
    · rw [follows.position, pos]
    · rw [hy, FbSt.sampled_missed, missed]
    · rw [follows.fb n.isLt (by decide) (by decide) (by decide), valid]
    · rw [follows.fg n.isLt (by decide) (by decide) (by decide), shown small]
    · intro habs hlost hret
      rw [follows.fg n.isLt (by decide) (by decide) (by decide)]
      exact posq habs hlost (by rw [State.fbu_setFbu_same, FbSt.idle_retPend, hret])
    · rw [follows.evq, evq, State.setFbu_evq]
    · rw [follows.mem, mem, State.setFbu_mem]
    · rw [follows.sk, sk, State.setFbu_sk]
  case sentBad =>
    intro l n f clock s hon hser hok
    obtain ⟨unit, -, evt, -, told, mem, sk⟩ := (s.sentHeard l n.val f).readFailed_spec l n.val (State.running_of_fbOn (s := s) hon)
    have follows := ((s.sentHeard l n.val f).readFailed l n.val).axisRead_follows l n.val n.isLt false
    rw [← State.serBad_eq] at follows
    rw [State.sentHeard, State.fbu_setFbu_same] at unit
    obtain ⟨y, hy⟩ := follows.unit
    refine ⟨_, (exec_sentFrame ..).trans (execSentFrame_of_bad hon hser hok), ?_, ?_, ?_, ?_, ?_, ?_, ?_⟩
    · rw [hy, State.sentHeard, unit, FbSt.sampled_t, FbSt.missedRead_t, FbSt.heard_t]
    · rw [hy, State.sentHeard, unit, FbSt.sampled_missed, FbSt.missedRead_missed, FbSt.heard_missed]
    · rw [hy, State.sentHeard, unit, FbSt.sampled_frames, FbSt.missedRead_frames, FbSt.heard_frames]
    · rw [follows.fb n.isLt (by decide) (by decide) (by decide), evt]
    · rw [LaneEvent, follows.evq]
      exact told
    · rw [follows.mem, mem, State.sentHeard, State.setFbu_mem]
    · rw [follows.sk, sk, State.sentHeard, State.setFbu_sk]
  case sentFirst =>
    intro l n f clock s hon hser hok hinit hfirst lo hi hpn
    obtain ⟨⟨rs, rest⟩, kept⟩ := (s.sentHeard l n.val f).sentStored_spec (fuB l n.val)
      (sentMessage (s.fb (fuB l n.val) FB.SENTCFG_CRCLEG) (s.sentStat l n.val f))
    have done := execSentFrame_of_ok (clock := clock) hon hser hok
    set u := (s.sentHeard l n.val f).sentStored (fuB l n.val) (sentMessage (s.fb (fuB l n.val) FB.SENTCFG_CRCLEG) (s.sentStat l n.val f))
    have field {g : Fld} (hg : g.ofs < 0x50) : u.fg (fuB l n.val) g = s.fg (fuB l n.val) g := (kept g hg).trans (State.setFbu_fg ..)
    have limits : s.LimitsKept u (fuB l n.val) := fun g _ hi => field (by omega)
    have init : u.fb (fuB l n.val) FB.SENTCFG_INIT = false := by rw [State.fb, field (by decide), ← State.fb, hinit]
    have unheard : (u.fbu l n.val).vPrev = none := by
      rw [rest]
      exact (congrArg FbSt.vPrev (s.fbu_setFbu_same ..)).trans hfirst
    have value := State.sentOk_value hok hpn
    dsimp only at done
    rw [init, field (g := FB.SENTCFG_PNIB) (by decide)] at done
    obtain ⟨pos, missed, frame, valid, evq, mem, sk⟩ := u.sentValue_of_first l n.isLt unheard
      (v := nibbleVal (f.nibbles.take (s.fg (fuB l n.val) FB.SENTCFG_PNIB))) (by rw [limits.softMin]; omega) (by rw [limits.softMax]; omega)
      (4 * s.fg (fuB l n.val) FB.SENTCFG_PNIB) clock
    refine ⟨_, (exec_sentFrame ..).trans done, pos, missed, frame, valid, ?_, ?_, ?_⟩
    · rw [evq, rest, State.sentHeard, State.setFbu_evq]
    · rw [mem, rest, State.sentHeard, State.setFbu_mem]
    · rw [sk, rest, State.sentHeard, State.setFbu_sk]
  case fails =>
    intro b p f s h
    exact State.sentOk_false h
  case passes =>
    intro b f s hcrc hnib hlen hcal hpause
    exact State.sentOk_of_checks hcrc hnib hlen hcal hpause
  case lost =>
    intro l n s hon hmissed hraised
    have hrun : (s.setFbu l n.val (s.fbu l n.val).serialLost).running l.lane = true := State.running_of_fbOn (s := s) hon
    have done : execFbSerialLost l n s =
        .next ((((s.setFbu l n.val (s.fbu l n.val).serialLost).doubt (fuB l n.val)).fs (fuB l n.val) FB.EVT_SER_LOST 1).raiseL l.lane 0x48 n.val) :=
      if_pos (by simp [hon, hmissed, hraised])
    refine ⟨_, (exec_fbSerialLost ..).trans done, ?_, ?_, ?_, ?_, ?_, ?_, ?_⟩
    · rw [State.raiseL_fbu, State.fs_fbu, State.doubt_fbu, State.fbu_setFbu_same, FbSt.serialLost_lostRaised]
    · rw [State.raiseL_fb, State.fb_fs_one _ _ (by decide) (by decide)]
    · rw [State.raiseL_fg, State.fg_fs_apart _ _ (by decide) (by decide), State.doubt_posq, State.setFbu_fg]
    · have doubted : SameRegistersBut s ((s.setFbu l n.val (s.fbu l n.val).serialLost).doubt (fuB l n.val))
          [fuB l n.val + FB.EVT_SER_LOST.ofs, fuB l n.val + FB.STATUS_POSQ.ofs] :=
        SameRegistersBut.doubt _ _ ((SameRegistersBut.refl s _).of_regs (State.setFbu_regs ..)) (by simp)
      exact (doubted.fs (f := FB.EVT_SER_LOST) 1 (by simp)).of_regs (State.raiseL_regs ..)
    · simp
    · simp
    · rw [State.raiseL_evq _ n.val 0 (src := 0x48) rfl (State.reset_of_running (by simpa using hrun)), State.fs_evq, State.doubt_evq,
        State.setFbu_evq, State.fs_stamp, State.doubt_stamp]
      rfl
  case latch =>
    intro l n clock s hon hst
    obtain ⟨pos, latT, latPos, excess, posq, speed, fired, seen, home, rest⟩ := s.fbLatched_spec l n.isLt clock
    exact ⟨_, (exec_fbSamplePoint ..).trans (execFbSamplePoint_of_latch hon (by rw [home, hst]; decide)), pos, latT, latPos, excess, posq,
      speed, fired, seen, rest⟩

end Sys2Proof.Machine
end

section
/-! PROOF. The enable of a feedback unit, its position read and its retention check. -/

namespace Sys2Proof.Machine

open Sys2Proof

/-! A write of FBn.CTRL -/

/-- The row of FBn.CTRL (R196). -/
def fbCtrlRow : RegRow := rowsFBa.head (by decide)

theorem rowAt_fbCtrl : ∀ (l : DLane) (n : Fin 6), rowAt (laneNo l.lane) (0x40200000 + 0x1000 * n.val) = some fbCtrlRow := by
  intro l n
  cases l
  · revert n; decide
  · revert n; decide

theorem homeOf_fbCtrl (l : Lane) {n : Nat} (hn : n < 6) : homeOf (laneNo l) (0x40200000 + 0x1000 * n) = laneNo l := by
  simp only [homeOf, Bool.and_eq_true, decide_eq_true_eq]
  rw [if_neg (by omega), if_neg (by omega), if_neg (by omega), if_neg (by omega), if_neg (by omega)]

section

variable (s : State) (l : DLane) (n : Fin 6) (v : Word)

/-- FBn.CTRL written by its own lane. -/
def State.fbCtrlPut (s : State) (l : DLane) (n : Fin 6) (v : Word) : State := s.rowPut l.lane false (0x40200000 + 0x1000 * n.val) v

theorem State.fbCtrlPut_eq : s.fbCtrlPut l n v = s.setReg (fuB l n.val) (rowWrite fbCtrlRow false (s.reg (fuB l n.val)) v) := by
  rw [State.fbCtrlPut, State.rowPut, rowAt_fbCtrl]
  simp only [homeOf_fbCtrl l.lane n.isLt]
  rfl

/-- A field of CTRL reads as it was written. -/
theorem State.fbCtrlPut_fg {f : Fld} (hofs : f.ofs = 0) (hf : ⟨f.lo, f.w, .rw, true, 0⟩ ∈ fbCtrlRow.fields) :
    (s.fbCtrlPut l n v).fg (fuB l n.val) f = v.toNat / 2 ^ f.lo % 2 ^ f.w := by
  rw [State.fbCtrlPut_eq, State.fg, hofs, Nat.add_zero, State.reg_setReg_same]
  exact read_rowWrite_rw (rowAt_fbCtrl l n) hf false _ v rfl

theorem State.fbCtrlPut_same : SameRegistersBut s (s.fbCtrlPut l n v) [fuB l n.val + FB.CTRL_EN.ofs] := by
  intro k hk
  rw [State.fbCtrlPut_eq]
  exact State.reg_setReg_of_ne _ _ (by simpa [FB.CTRL_EN] using hk)

theorem State.fbCtrlPut_only_regs : ∃ rs, s.fbCtrlPut l n v = { s with regs := rs } := by
  rw [State.fbCtrlPut_eq]
  exact ⟨_, rfl⟩

end

/-! The axis starts anew (R186) -/

section

variable (s : State) (l : DLane) (n : Nat)

/-- The axis without a restored angle. -/
def AxisSt.unrestored (x : AxisSt) : AxisSt := { x with ret := none }

theorem State.alignNone_eq : s.alignNone l n = (s.setAxis l n (s.axis l n).unrestored).fs (axB l n) AX.STATUS_ALIGN 0 := rfl

theorem State.alignNone_fg {b : Nat} {f : Fld} (h : b + f.ofs ≠ axB l n + AX.STATUS_ALIGN.ofs) : (s.alignNone l n).fg b f = s.fg b f := by
  rw [State.alignNone_eq, State.fg_fs_of_ne _ _ h, State.setAxis_fg]

theorem State.alignNone_same : SameRegistersBut s (s.alignNone l n) [axB l n + AX.STATUS_ALIGN.ofs] :=
  ((SameRegistersBut.refl s _).of_regs (State.setAxis_regs ..)).fs 0 (List.mem_singleton.mpr rfl)

theorem State.alignNone_rest : (s.alignNone l n).mem = s.mem ∧ (s.alignNone l n).sk = s.sk ∧ (s.alignNone l n).evq = s.evq ∧
    (s.alignNone l n).fbu l n = s.fbu l n ∧ (s.alignNone l n).running l.lane = s.running l.lane := ⟨rfl, rfl, rfl, rfl, rfl⟩

variable {n} (hn : n < 6)

include hn

/-- The alignment of the axis is no field of a feedback unit. -/
theorem State.alignNone_fuB (f : Fld) : (s.alignNone l n).fg (fuB l n) f = s.fg (fuB l n) f :=
  s.alignNone_fg l n (fuB_ne_axB l hn (by decide))

theorem State.alignNone_fbCfgOk : (s.alignNone l n).fbCfgOk l n = s.fbCfgOk l n := by
  have osr : (s.alignNone l n).fg (axB l n) AX.SENSCFG_OSR = s.fg (axB l n) AX.SENSCFG_OSR :=
    s.alignNone_fg l n (by simp [AX.SENSCFG_OSR, AX.STATUS_ALIGN])
  have unit : (fun f => (s.alignNone l n).fg (fuB l n) f) = fun f => s.fg (fuB l n) f := funext (s.alignNone_fuB l hn)
  have limits : s.LimitsKept (s.alignNone l n) (fuB l n) := fun f _ _ => s.alignNone_fuB l hn f
  unfold State.fbCfgOk
  rw [unit, osr, limits.softMin, limits.softMax]

theorem State.alignNone_fbClaim : (s.alignNone l n).fbClaim l n = s.fbClaim l n := by
  have can (k : Nat) : (s.alignNone l n).fb (canB l.lane k) CAN.CTRL_EN = s.fb (canB l.lane k) CAN.CTRL_EN := by
    rw [State.fb, s.alignNone_fg, ← State.fb]
    simp only [canB, axB, key, laneNo_lane, CAN.CTRL_EN, AX.STATUS_ALIGN]
    omega
  simp only [State.fbClaim, State.alignNone_fuB s l hn, can]

end

/-! The unit starts (R166, R195) -/

/-- The unit as it starts: its position, its home and its compare units stay. -/
def FbSt.started (x : FbSt) : FbSt :=
  { t := x.t, pos := x.pos, full := x.full, retPend := true, homeSt := x.homeSt, homeDue := x.homeDue
    travel := x.travel, cmpAt := x.cmpAt, cmpFired := x.cmpFired }

section

variable (x : FbSt)

@[simp] theorem FbSt.started_t : x.started.t = x.t := rfl
@[simp] theorem FbSt.started_retPend : x.started.retPend = true := rfl

end

/-- Unit n starts with POSQ LOST. -/
def State.fbStarted (s : State) (l : DLane) (n : Nat) : State :=
  let b := fuB l n
  let s := (s.fs b FB.STATUS_POSQ 0).fs b FB.STATUS_IDXREF 0
  let s := (s.fs b FB.STATUS_HALL 0).fs b FB.STATUS_SERVALID 0
  s.setFbu l n (s.fbu l n).started

theorem State.fbStarted_spec (s : State) (l : DLane) (n : Nat) :
    let t := s.fbStarted l n
    t.fbu l n = (s.fbu l n).started ∧ t.fg (fuB l n) FB.STATUS_POSQ = 0 ∧ SameRegistersBut s t [fuB l n + FB.STATUS_POSQ.ofs] ∧
      t.mem = s.mem ∧ t.sk = s.sk ∧ t.evq = s.evq := by
  refine ⟨?_, ?_, ?_, rfl, rfl, rfl⟩
  · rw [State.fbStarted, State.fbu_setFbu_same, State.fs_fbu, State.fs_fbu, State.fs_fbu, State.fs_fbu]
  · simp (disch := decide) only [State.fbStarted, State.setFbu_fg, State.fg_fs_apart, State.fg_fs_fits]
  · exact (((((SameRegistersBut.refl s _).fs (f := FB.STATUS_POSQ) 0 (List.mem_singleton.mpr rfl)).fs (f := FB.STATUS_IDXREF) 0
      (List.mem_singleton.mpr rfl)).fs (f := FB.STATUS_HALL) 0 (List.mem_singleton.mpr rfl)).fs (f := FB.STATUS_SERVALID) 0
      (List.mem_singleton.mpr rfl)).of_regs (State.setFbu_regs ..)

section

variable {s : State} {l : DLane} {n : Fin 6} {v : Word} (hrun : s.running l.lane = true) (hlock : (s.lane l.lane).locked = false)
  (hen : v.getLsbD 0 = true)

include hrun hlock hen

theorem execFbEnWrite_of_refused (hcfg : (s.fbCtrlPut l n v).fbCfgOk l n.val = false) : execFbEnWrite l n v s =
    .next ((((s.fbCtrlPut l n v).alignNone l n.val).fs (fuB l n.val) FB.CTRL_EN 0).raiseL l.lane 0x4a n.val) := by
  have bad : (!((s.fbCtrlPut l n v).alignNone l n.val).fbCfgOk l n.val) = true := by
    rw [State.alignNone_fbCfgOk _ _ n.isLt, hcfg]
    rfl
  exact (if_neg (by simp [hrun, hlock])).trans ((if_neg (by simp [hen])).trans (if_pos bad))

theorem execFbEnWrite_of_ok (hcfg : (s.fbCtrlPut l n v).fbCfgOk l n.val = true) (hclaim : (s.fbCtrlPut l n v).fbClaim l n.val = none) :
    execFbEnWrite l n v s = .next (let u := ((s.fbCtrlPut l n v).alignNone l n.val).fbStarted l n.val
      if u.fb (fuB l n.val) FB.CTRL_PSRC then u else u.moveTo l n.val 0) := by
  have good : ¬ (!((s.fbCtrlPut l n v).alignNone l n.val).fbCfgOk l n.val) = true := by
    rw [State.alignNone_fbCfgOk _ _ n.isLt, hcfg]
    decide
  have free : ((s.fbCtrlPut l n v).alignNone l n.val).fbClaim l n.val = none := by rw [State.alignNone_fbClaim _ _ n.isLt, hclaim]
  refine (if_neg (by simp [hrun, hlock])).trans ((if_neg (by simp [hen])).trans ((if_neg good).trans ?_))
  change (match ((s.fbCtrlPut l n v).alignNone l n.val).fbClaim l n.val with
    | some m => _
    | none => _) = _
  rw [free]
  rfl

end

/-- What the start of unit n leaves, before the position is set. -/
structure State.FbStarts (s t : State) (l : DLane) (n : Nat) (v : Word) : Prop where
  unit : t.fbu l n = (s.fbu l n).started
  en : t.fg (fuB l n) FB.CTRL_EN = v.toNat % 2
  psrc : t.fg (fuB l n) FB.CTRL_PSRC = v.toNat / 2 ^ FB.CTRL_PSRC.lo % 2
  posq : t.fg (fuB l n) FB.STATUS_POSQ = 0
  align : t.fg (axB l n) AX.STATUS_ALIGN = 0
  regs : SameRegistersBut s t [fuB l n + FB.CTRL_EN.ofs, fuB l n + FB.STATUS_POSQ.ofs, axB l n + AX.STATUS_ALIGN.ofs]
  mem : t.mem = s.mem
  sk : t.sk = s.sk
  evq : t.evq = s.evq

theorem State.FbStarts.limits {s t : State} {l : DLane} {n : Nat} {v : Word} (h : s.FbStarts t l n v) (hn : n < 6) :
    s.LimitsKept t (fuB l n) := by
  intro f lo hi
  refine h.regs.fg ?_
  simp only [FB.CTRL_EN, FB.STATUS_POSQ, List.mem_cons, List.not_mem_nil, or_false, not_or]
  exact ⟨by omega, by omega, fuB_ne_axB l hn (by decide)⟩

theorem State.fbStarts (s : State) (l : DLane) (n : Fin 6) (v : Word) :
    s.FbStarts (((s.fbCtrlPut l n v).alignNone l n.val).fbStarted l n.val) l n.val v := by
  obtain ⟨unit, posq, regs, mem, sk, evq⟩ := ((s.fbCtrlPut l n v).alignNone l n.val).fbStarted_spec l n.val
  obtain ⟨rs, put⟩ := s.fbCtrlPut_only_regs l n v
  obtain ⟨mem', sk', evq', unit', -⟩ := (s.fbCtrlPut l n v).alignNone_rest l n.val
  have ctrl {f : Fld} (hofs : f.ofs = 0) (hf : ⟨f.lo, f.w, .rw, true, 0⟩ ∈ fbCtrlRow.fields) :
      (((s.fbCtrlPut l n v).alignNone l n.val).fbStarted l n.val).fg (fuB l n.val) f = v.toNat / 2 ^ f.lo % 2 ^ f.w := by
    rw [regs.fg (by simp [hofs, FB.STATUS_POSQ]), State.alignNone_fuB _ _ n.isLt, State.fbCtrlPut_fg _ _ _ _ hofs hf]
  refine ⟨?_, ?_, ctrl (f := FB.CTRL_PSRC) rfl (by decide), posq, ?_, ?_, ?_, ?_, ?_⟩
  · rw [unit, unit', put]
    rfl
  · rw [ctrl (f := FB.CTRL_EN) rfl (by decide)]
    simp [FB.CTRL_EN]
  · rw [regs.fg (by simpa using (fuB_ne_axB l n.isLt (by decide)).symm), State.alignNone_eq, State.fg_fs_fits _ _ (by decide) (by decide)]
  · have step := (s.fbCtrlPut_same l n v).mono (ks := [fuB l n.val + FB.CTRL_EN.ofs, fuB l n.val + FB.STATUS_POSQ.ofs,
      axB l n.val + AX.STATUS_ALIGN.ofs]) (by simp)
    exact (step.trans (((s.fbCtrlPut l n v).alignNone_same l n.val).mono (by simp))).trans (regs.mono (by simp))
  · rw [mem, mem', put]
  · rw [sk, sk', put]
  · rw [evq, evq', put]

/-- Where 0 lies between the soft limits, the unit that starts for quadrature stands at 0 (R166). -/
theorem State.FbStarts.moveTo_zero {s t : State} {l : DLane} {n : Nat} {v : Word} (h : s.FbStarts t l n v) (hn : n < 6)
    (lo : s.softMin (fuB l n) ≤ 0) (hi : 0 ≤ s.softMax (fuB l n)) :
    ((t.moveTo l n 0).fbu l n).t = 0 ∧ (t.moveTo l n 0).evq = s.evq ∧
      ((∀ j < 8, s.fb (fuB l n + 16 * j) FB.CMP_CFG_ARM = false) → SameRegistersBut s (t.moveTo l n 0)
        [fuB l n + FB.CTRL_EN.ofs, fuB l n + FB.STATUS_POSQ.ofs, axB l n + AX.STATUS_ALIGN.ofs]) := by
  have limits := h.limits hn
  have moved := State.moveTo_of_mem (s := t) (l := l) (n := n) (p := 0) (limits.softMin.symm ▸ lo) (limits.softMax.symm ▸ hi)
  have follows := (t.setFbu l n (t.unitAt l n 0)).cmpMove_follows l n (t.fbu l n).pos 0
  refine ⟨?_, ?_, fun unarmed => ?_⟩
  · rw [(t.moveTo_spec l hn 0).position, limits.holdExcess, State.holdExcess_of_mem lo hi]
  · rw [moved, follows.evq, State.setFbu_evq, h.evq]
  · have still (j : Nat) (hj : j < 8) : (t.setFbu l n (t.unitAt l n 0)).fb (fuB l n + 16 * j) FB.CMP_CFG_ARM = false := by
      rw [State.setFbu_fb, State.fb, h.regs.fg, ← State.fb, unarmed j hj]
      simp only [FB.CTRL_EN, FB.STATUS_POSQ, FB.CMP_CFG_ARM, List.mem_cons, List.not_mem_nil, or_false, not_or, Nat.add_assoc]
      exact ⟨by omega, by omega, fuB_ne_axB l hn (by decide)⟩
    rw [moved, State.cmpMove_of_unarmed still]
    exact h.regs.of_regs (State.setFbu_regs ..)

/-! POS_L_READ (R196) -/

/-- The low word of a number. -/
theorem ofNat_unsigned (c : Int) : BitVec.ofNat 32 (unsigned 32 c) = BitVec.ofInt 32 c := by
  refine BitVec.eq_of_toNat_eq ?_
  rw [BitVec.toNat_ofNat, BitVec.toNat_ofInt, Nat.mod_eq_of_lt (unsigned_lt 32 c)]
  rfl

/-- The low word of unit n's counter has been read by lane d's map. -/
def State.posRead (s : State) (d : DLane) (n : Nat) : State := { s with readData := BitVec.ofNat 32 (unsigned 32 (s.fbu d n).pos) }

/-- The unit's own lane has read its counter: the high byte and the excess are latched. -/
def State.posLatched (s : State) (l : DLane) (n : Nat) : State :=
  ((s.posRead l n).fsi (fuB l n) FB.POS_H_POSH ((s.fbu l n).pos / 2 ^ 32)).fsi (fuB l n) FB.POS_H_EXCESS ((s.fbu l n).t - (s.fbu l n).pos)

theorem execPosLRead_of_own {s : State} {l : DLane} {n : Fin 12} (hn : n.val < 6) (hrun : s.running l.lane = true) :
    execPosLRead l.lane n s = .next (s.posLatched l n.val) := by
  cases l with
  | A => simp only [execPosLRead, DLane.lane, hrun, hn, Bool.not_true, Bool.false_eq_true, if_false, if_true] at *; rfl
  | B => simp only [execPosLRead, DLane.lane, hrun, hn, Bool.not_true, Bool.false_eq_true, if_false, if_true] at *; rfl

theorem execPosLRead_of_tap {s : State} {d : DLane} {n : Fin 12} (hW : s.running .W = true) (hrun : s.running d.lane = true)
    (hd : d = .A ↔ n.val < 6) : execPosLRead .W n s = .next (s.posRead d (n.val % 6)) := by
  have here {e : DLane} (he : s.running e.lane = true) : ¬ (!s.running e.lane) = true := by simp [he]
  have up : ¬ (!s.running .W) = true := by simp [hW]
  by_cases hn : n.val < 6
  · obtain rfl := hd.mpr hn
    rw [Nat.mod_eq_of_lt hn]
    simp only [execPosLRead, if_neg up, if_pos hn, if_neg (here hrun)]
    rfl
  · have hB : d = .B := by
      cases d with
      | A => exact absurd (hd.mp rfl) hn
      | B => rfl
    subst hB
    rw [show n.val % 6 = n.val - 6 by omega]
    simp only [execPosLRead, if_neg up, if_neg hn, if_neg (here hrun)]
    rfl

theorem State.posLatched_spec (s : State) (l : DLane) (n : Nat) :
    let t := s.posLatched l n
    t.readData = BitVec.ofInt 32 (s.fbu l n).pos ∧ t.fi (fuB l n) FB.POS_H_EXCESS = signed 16 (unsigned 16 ((s.fbu l n).t - (s.fbu l n).pos)) ∧
      SameRegistersBut s t [fuB l n + FB.POS_H_EXCESS.ofs] ∧ t.evq = s.evq ∧ t.mem = s.mem ∧ t.sk = s.sk := by
  refine ⟨ofNat_unsigned _, ?_, ?_, rfl, rfl, rfl⟩
  · rw [State.posLatched, State.fi, State.fsi, State.fg_fs_fits _ _ (by decide) (unsigned_lt _ _)]
    rfl
  · exact ((SameRegistersBut.refl (s.posRead l n) _).fs (f := FB.POS_H_POSH) _ (List.mem_singleton.mpr rfl)).fs (f := FB.POS_H_EXCESS) _
      (List.mem_singleton.mpr rfl)

/-! The retention check (R218, R219) -/

theorem State.rdBytes_drop (s : State) (l a k n : Nat) : (s.rdBytes l a (k + n)).drop k = s.rdBytes l (a + k) n := by
  induction k generalizing a with
  | zero => simp
  | succ k ih =>
    rw [Nat.add_right_comm, State.rdBytes, List.drop_succ_cons, ih, Nat.add_assoc, Nat.add_comm 1]

theorem State.rdBytes_take (s : State) (l a n k : Nat) : (s.rdBytes l a (n + k)).take n = s.rdBytes l a n := by
  induction n generalizing a with
  | zero => rfl
  | succ n ih => rw [Nat.add_right_comm, State.rdBytes, List.take_succ_cons, ih, State.rdBytes]

/-- A field of bytes that were read is the bytes read there. -/
theorem State.byteF_rdBytes (s : State) (l a i n k : Nat) : byteF (s.rdBytes l a (i + (n + k))) i n = leNat (s.rdBytes l (a + i) n) := by
  rw [byteF, State.rdBytes_drop, State.rdBytes_take]

/-- Consuming an entry changes memory alone. -/
theorem State.retConsume_only_mem (s : State) (l : DLane) (n : Nat) : ∃ m, s.retConsume l n = { s with mem := m } := by
  unfold State.retConsume
  dsimp only
  obtain ⟨m, hm⟩ := ((s.wr8 (dno l) (retAddr n + 7) (s.rd8 (dno l) (retAddr n + 7) &&& 0xfe))).wrBytes_only_mem (dno l) (retBase + 28)
    (natLe 4 (BitVec.ofNat 32 (leNat (s.rdBytes (dno l) (retBase + 28) 4)) ^^^ s.retCrc (dno l) ^^^
      ((s.wr8 (dno l) (retAddr n + 7) (s.rd8 (dno l) (retAddr n + 7) &&& 0xfe))).retCrc (dno l)).toNat)
  exact ⟨m, hm⟩

/-- The unit whose retention check is over. -/
def FbSt.checked (x : FbSt) : FbSt := { x with retPend := false }

/-- The unit at a restored position, with its index reference. -/
def FbSt.restored (x : FbSt) (idx p : Int) : FbSt := { x with idxRef := idx, tIdx := p }

section

variable (x : FbSt) (idx p : Int)

@[simp] theorem FbSt.checked_t : x.checked.t = x.t := rfl
@[simp] theorem FbSt.checked_retPend : x.checked.retPend = false := rfl
@[simp] theorem FbSt.restored_t : (x.restored idx p).t = x.t := rfl
@[simp] theorem FbSt.restored_retPend : (x.restored idx p).retPend = x.retPend := rfl

end

/-- The axis with a restored angle for the position p. -/
def AxisSt.withRet (x : AxisSt) (th p : Int) : AxisSt := { x with ret := some (th, p) }

/-- The retention check of unit n is over, and its entry consumed. -/
def State.retChecked (s : State) (l : DLane) (n : Nat) : State := (s.setFbu l n (s.fbu l n).checked).retConsume l n

theorem State.retChecked_spec (s : State) (l : DLane) (n : Nat) :
    let t := s.retChecked l n
    t.fbu l n = (s.fbu l n).checked ∧ t.regs = s.regs ∧ t.sk = s.sk ∧ ∀ k, t.running k = s.running k := by
  obtain ⟨m, hm⟩ := (s.setFbu l n (s.fbu l n).checked).retConsume_only_mem l n
  dsimp only
  rw [State.retChecked, hm]
  exact ⟨s.fbu_setFbu_same .., rfl, rfl, fun _ => rfl⟩

/-- The position that the entry of unit n holds. -/
def State.retPosition (s : State) (l : DLane) (n : Nat) : Int :=
  let e := s.rdBytes (dno l) (retAddr n) 32
  signed 40 (byteF e 0 5) + signed 16 (byteF e 5 2)

theorem State.retPosition_eq (s : State) (l : DLane) (n : Nat) : s.retPosition l n =
    signed 40 (leNat (s.rdBytes (dno l) (retAddr n) 5)) + signed 16 (leNat (s.rdBytes (dno l) (retAddr n + 5) 2)) := by
  rw [State.retPosition, s.byteF_rdBytes (dno l) (retAddr n) 0 5 27, s.byteF_rdBytes (dno l) (retAddr n) 5 2 25, Nat.add_zero]

/-- VALID of the entry is bit 0 of its byte 7. -/
theorem State.retValid {s : State} {l : DLane} {n : Nat} (h : (s.rd8 (dno l) (retAddr n + 7)).getLsbD 0 = true) :
    (byteF (s.rdBytes (dno l) (retAddr n) 32) 7 1 % 2 == 1) = true := by
  rw [s.byteF_rdBytes (dno l) (retAddr n) 7 1 24]
  simp only [State.rdBytes, leNat, BitVec.getLsbD, Nat.testBit_zero, decide_eq_true_eq] at h ⊢
  simpa using h

/-- The unit stands at the position p of its entry, VALID, and its axis has the entry's angle. -/
def State.retRestored (s : State) (l : DLane) (n : Nat) (p : Int) (idx : Bool) (ref th : Int) : State :=
  let b := fuB l n
  let s := s.moveTo l n p
  let s := s.setFbu l n ((s.fbu l n).restored (if idx then ref else (s.fbu l n).idxRef) p)
  let s := (s.fs b FB.STATUS_POSQ 1).fs b FB.STATUS_IDXREF (if idx then 1 else s.fg b FB.STATUS_IDXREF)
  s.setAxis l n ((s.axis l n).withRet th p)

theorem State.retRestored_spec (s : State) (l : DLane) {n : Nat} (hn : n < 6) (p : Int) (idx : Bool) (ref th : Int) :
    let t := s.retRestored l n p idx ref th
    (t.fbu l n).retPend = (s.fbu l n).retPend ∧ t.fg (fuB l n) FB.STATUS_POSQ = 1 ∧ (t.fbu l n).t = s.holdExcess (fuB l n) p ∧
      t.sk = s.sk := by
  have moves := s.moveTo_spec l hn p
  refine ⟨?_, ?_, ?_, ?_⟩
  · rw [State.retRestored, State.setAxis_fbu, State.fs_fbu, State.fs_fbu, State.fbu_setFbu_same, FbSt.restored_retPend, moves.retPend]
  · rw [State.retRestored, State.setAxis_fg, State.fg_fs_apart _ _ (by decide) (by decide), State.fg_fs_fits _ _ (by decide) (by decide)]
  · rw [State.retRestored, State.setAxis_fbu, State.fs_fbu, State.fs_fbu, State.fbu_setFbu_same, FbSt.restored_t, moves.position]
  · rw [State.retRestored, State.setAxis_sk, State.fs_sk, State.fs_sk, State.setFbu_sk, moves.sk]

theorem State.alignKeep_follows (s : State) (l : DLane) {n : Nat} (hn : n < 6) : s.FbFollows (s.alignKeep l n) l n (followRegs l n) := by
  unfold State.alignKeep
  dsimp only
  split
  · exact .ite (((State.FbFollows.refl ..).setAxis ..).setAlign hn 2) ((State.FbFollows.refl ..).setAxis ..)
  · exact .refl ..

section

variable {s : State} {l : DLane} {n : Fin 6} (hon : s.fbOn l n.val = true) (hpend : (s.fbu l n.val).retPend = true)
  (hhall : s.fb (fuB l n.val) FB.CTRL_HALL = false) (hpsrc : s.fb (fuB l n.val) FB.CTRL_PSRC = false)

include hon hpend hhall hpsrc

theorem execRetentionCheckDone_of_mismatch (hvalid : (byteF (s.rdBytes (dno l) (retAddr n.val) 32) 7 1 % 2 == 1) = true)
    (hok : s.retOk l n.val = false) :
    execRetentionCheckDone l n s = .next (((s.retChecked l n.val).pgEv l n.val PG.EVT_RET_MISMATCH).raiseL l.lane 0xb8 n.val) :=
  (if_neg (by simp [hon, hpend, hhall, hpsrc])).trans ((if_neg fun h => by simp [hok] at h).trans ((if_neg (by simp [hok])).trans
    (if_pos hvalid)))

theorem execRetentionCheckDone_of_ok (hok : s.retOk l n.val = true) (hlost : (s.retChecked l n.val).fg (fuB l n.val) FB.STATUS_POSQ = 0) :
    ∃ idx ref th, execRetentionCheckDone l n s =
      .next (let t := (s.retChecked l n.val).retRestored l n.val (s.retPosition l n.val) idx ref th
        if t.fb (axB l n.val) AX.CTRL_EN then t.alignKeep l n.val else t) :=
  ⟨_, _, _, (if_neg (by simp [hon, hpend, hhall, hpsrc])).trans ((if_neg fun h => h.2 hlost).trans (if_pos hok))⟩

end

/-! The obligation -/

/-- Settles O33: EN starts the unit or is refused, a read of POS_L latches, and the retention check restores the position or tells. A write
of CTRL returns the axis to NONE also where EN was 1 (log entry 139). -/
theorem feedbackEnableReadAndRetention : Obligations.FeedbackEnableReadAndRetention := by
  unfold Obligations.FeedbackEnableReadAndRetention
  refine ⟨?enabled, ?refused, ?conditions, ?own, ?tap, ?mismatch, ?restored⟩
  case enabled =>
    intro l n v s hrun hlock hen hcfg hclaim
    have starts := s.fbStarts l n v
    have done := execFbEnWrite_of_ok hrun hlock hen hcfg hclaim
    dsimp only at done
    set u := ((s.fbCtrlPut l n v).alignNone l n.val).fbStarted l n.val
    have bit : v.toNat % 2 ≠ 0 := by
      simp only [BitVec.getLsbD, Nat.testBit_zero, decide_eq_true_eq] at hen
      omega
    have en : u.fb (fuB l n.val) FB.CTRL_EN = true := by
      rw [State.fb, starts.en]
      simpa using bit
    by_cases hpsrc : v.toNat / 2 ^ FB.CTRL_PSRC.lo % 2 = 1
    · have own : u.fb (fuB l n.val) FB.CTRL_PSRC = true := by rw [State.fb, starts.psrc, hpsrc]; rfl
      rw [if_pos own] at done
      refine ⟨u, (exec_fbEnWrite ..).trans done, en, starts.posq, ?_, starts.align, starts.mem, starts.sk, fun _ => ⟨?_, starts.evq⟩,
        fun h => absurd (h.symm.trans hpsrc) (by decide)⟩
      · rw [starts.unit, FbSt.started_retPend]
      · rw [starts.unit, FbSt.started_t]
    · have quad : ¬ u.fb (fuB l n.val) FB.CTRL_PSRC = true := by
        rw [State.fb, starts.psrc, Nat.mod_two_ne_one.mp hpsrc]
        decide
      rw [if_neg quad] at done
      have moves := u.moveTo_spec l n.isLt 0
      refine ⟨_, (exec_fbEnWrite ..).trans done, ?_, ?_, ?_, ?_, moves.mem.trans starts.mem, moves.sk.trans starts.sk,
        fun h => absurd h hpsrc, fun _ lo hi => starts.moveTo_zero n.isLt lo hi⟩
      · rw [State.fb, moves.field _ (by decide) (by decide) (by decide), ← State.fb, en]
      · rw [moves.posq (by rw [starts.posq]; decide), starts.posq]
      · rw [moves.retPend, starts.unit, FbSt.started_retPend]
      · rw [moves.axis _ (by decide), starts.align]
  case refused =>
    intro l n v s hrun hlock hen hcfg
    obtain ⟨rs, put⟩ := s.fbCtrlPut_only_regs l n v
    obtain ⟨mem, sk, evq, -, running⟩ := (s.fbCtrlPut l n v).alignNone_rest l n.val
    have hrun' : ((s.fbCtrlPut l n v).alignNone l n.val).running l.lane = true := by
      rw [running, put]
      exact hrun
    refine ⟨_, (exec_fbEnWrite ..).trans (execFbEnWrite_of_refused hrun hlock hen hcfg), ?_, ?_, ?_, ?_, ?_⟩
    · rw [State.raiseL_fb, State.fb_fs_same _ _ _ _ (by decide)]
      rfl
    · have step := (s.fbCtrlPut_same l n v).mono (ks := [fuB l n.val + FB.CTRL_EN.ofs, axB l n.val + AX.STATUS_ALIGN.ofs]) (by simp)
      have kept := step.trans (((s.fbCtrlPut l n v).alignNone_same l n.val).mono (by simp))
      exact (kept.fs (f := FB.CTRL_EN) 0 (by simp)).of_regs (State.raiseL_regs ..)
    · rw [State.raiseL_mem, State.fs_mem, mem, put]
    · rw [State.raiseL_sk, State.fs_sk, sk, put]
    · rw [State.raiseL_evq _ n.val 0 (src := 0x4a) rfl (State.reset_of_running (by simpa using hrun')), State.fs_evq, State.fs_stamp, evq, put]
      rfl
  case conditions =>
    intro l n s h
    rcases h with h | h | h | ⟨h, h'⟩
    · simp [State.fbCfgOk, h]
    · simp [State.fbCfgOk, not_le.mpr h]
    · simp [State.fbCfgOk, Nat.not_le.mpr h]
    · simp [State.fbCfgOk, h, h']
  case own =>
    intro l n s hn hrun
    exact ⟨_, (exec_posLRead ..).trans (execPosLRead_of_own hn hrun), s.posLatched_spec l n.val⟩
  case tap =>
    intro n d s hW hrun hd
    refine ⟨_, (exec_posLRead ..).trans (execPosLRead_of_tap hW hrun hd), ?_⟩
    rw [State.posRead, ofNat_unsigned]
  case mismatch =>
    intro l n s hon hpend hhall hpsrc hvalid hok
    obtain ⟨unit, regs, sk, running⟩ := s.retChecked_spec l n.val
    have done := execRetentionCheckDone_of_mismatch hon hpend hhall hpsrc (State.retValid hvalid) hok
    have hrun : (s.retChecked l n.val).running l.lane = true := (running _).trans (State.running_of_fbOn hon)
    refine ⟨_, (exec_retentionCheckDone ..).trans done, ?_, ?_, ?_, ?_, ?_⟩
    · rw [State.raiseL_fbu, State.pgEv, State.trig_fbu, State.fs_fbu, unit, FbSt.checked_retPend]
    · rw [State.raiseL_fbu, State.pgEv, State.trig_fbu, State.fs_fbu, unit, FbSt.checked_t]
    · rw [State.raiseL_fg, State.pgEv, State.trig_fg, State.fg_fs_of_ne, State.fg, State.reg, regs]
      · rfl
      · simp only [fuB, fbB, pgB, key, laneNo_lane, FB.STATUS_POSQ, PG.EVT_RET_MISMATCH]
        omega
    · exact State.laneEvent_raiseL _ n.val rfl (State.reset_of_running (by simpa [State.pgEv] using hrun))
    · rw [State.raiseL_sk, State.pgEv_sk, sk]
  case restored =>
    intro l n s hon hpend hhall hpsrc hok hlost
    obtain ⟨unit, regs, sk, -⟩ := s.retChecked_spec l n.val
    have lost : (s.retChecked l n.val).fg (fuB l n.val) FB.STATUS_POSQ = 0 := by
      rw [State.fg, State.reg, regs]
      exact hlost
    obtain ⟨idx, ref, th, done⟩ := execRetentionCheckDone_of_ok hon hpend hhall hpsrc hok lost
    obtain ⟨pend, posq, pos, sk'⟩ := (s.retChecked l n.val).retRestored_spec l n.isLt (s.retPosition l n.val) idx ref th
    have follows := State.FbFollows.ite
      (p := ((s.retChecked l n.val).retRestored l n.val (s.retPosition l n.val) idx ref th).fb (axB l n.val) AX.CTRL_EN)
      (((s.retChecked l n.val).retRestored l n.val (s.retPosition l n.val) idx ref th).alignKeep_follows l n.isLt) (.refl ..)
    obtain ⟨y, hy⟩ := follows.unit
    refine ⟨_, (exec_retentionCheckDone ..).trans done, ?_, ?_, ?_, ?_⟩
    · rw [hy, FbSt.sampled_retPend, pend, unit, FbSt.checked_retPend]
    · rw [follows.fg n.isLt (by decide) (by decide) (by decide), posq]
    · rw [follows.position, pos, (State.LimitsKept.of_regs regs).holdExcess, State.retPosition_eq]
    · rw [follows.sk, sk', sk]

end Sys2Proof.Machine
end

section
/-! PROOF. The commands of a profile generator, its enable and its set-point read (R202, R203, R222, R223). -/

namespace Sys2Proof.Machine

open Sys2Proof

/-! The pending command (R202, R203) -/

/-- The generator with c as its pending command. -/
def PgSt.withCmd (x : PgSt) (c : Option (Nat × Nat)) : PgSt := { x with cmd := c }

section

variable (x : PgSt) (c : Option (Nat × Nat))

@[simp] theorem PgSt.withCmd_cmd : (x.withCmd c).cmd = c := rfl
@[simp] theorem PgSt.withCmd_p : (x.withCmd c).p = x.p := rfl

end

section

variable (s : State) (l : DLane) (n : Nat) (c : Option (Nat × Nat))

/-- Generator n has c as its pending command, and STATUS.PEND shows it. -/
def State.stage (s : State) (l : DLane) (n : Nat) (c : Option (Nat × Nat)) : State :=
  (s.setPg l n ((s.pg l n).withCmd c)).fs (pgB l n) PG.STATUS_PEND c.isSome.toNat

theorem State.stage_pg : (s.stage l n c).pg l n = (s.pg l n).withCmd c := by rw [State.stage, State.fs_pg, State.pg_setPg_same]

theorem State.stage_pend : (s.stage l n c).fb (pgB l n) PG.STATUS_PEND = c.isSome := by
  rw [State.stage, State.fb_fs_same _ _ _ _ (by decide)]
  cases c <;> rfl

theorem State.stage_same : SameRegistersBut s (s.stage l n c) [pgB l n + PG.STATUS_PEND.ofs] :=
  ((SameRegistersBut.refl s _).of_regs (State.setPg_regs ..)).fs _ (List.mem_singleton.mpr rfl)

theorem State.stage_rest : (s.stage l n c).evq = s.evq ∧ (s.stage l n c).mem = s.mem ∧ (s.stage l n c).sk = s.sk := ⟨rfl, rfl, rfl⟩

/-- A refused command leaves the generator, and shows and raises the refusal. -/
theorem State.cmdRefuse_spec (hrun : s.running l.lane = true) :
    let t := s.cmdRefuse l n
    t.pg l n = s.pg l n ∧ t.fb (pgB l n) PG.EVT_CMD_REFUSED = true ∧ SameRegistersBut s t [pgB l n + PG.EVT_CMD_REFUSED.ofs] ∧
      t.mem = s.mem ∧ t.sk = s.sk ∧
      t.evq = s.evq ++ [s.stamp { coll := .lane l.lane, src := 0xb0, inst := n, res := resLane l.lane }] := by
  dsimp only [State.cmdRefuse, State.pgEv]
  refine ⟨by simp, ?_, ?_, by simp, by simp, ?_⟩
  · rw [State.raiseL_fb, State.trig_fb, State.fb_fs_one _ _ (by decide) (by decide)]
  · exact (((SameRegistersBut.refl s _).fs 1 (List.mem_singleton.mpr rfl)).of_regs (State.trig_regs ..)).of_regs (State.raiseL_regs ..)
  · rw [State.raiseL_evq _ n 0 (src := 0xb0) rfl (State.reset_of_running (by simpa using hrun)), State.trig_evq, State.fs_evq]
    simp [State.stamp]

end

section

variable {s : State} {l : DLane} {n : Nat} (hrun : s.running l.lane = true)

include hrun

theorem State.pgCmd_of_ahead {op : Nat} (hop : 1 ≤ op ∧ op ≤ 4) (h : 0 < ((s.fg (pgB l n) PG.CMDCYC_CMDCYC : Int) - s.sk.cycle) % 2 ^ 32)
    (h' : ((s.fg (pgB l n) PG.CMDCYC_CMDCYC : Int) - s.sk.cycle) % 2 ^ 32 < 2 ^ 31) :
    s.pgCmd l n op = s.stage l n (some (op, s.fg (pgB l n) PG.CMDCYC_CMDCYC)) := by
  rw [← homeDistance] at h h'
  exact (if_neg (by simp [hrun])).trans ((if_neg (by omega)).trans ((if_neg (by omega)).trans (if_neg (by omega))))

theorem State.pgCmd_of_refused {op : Nat} (hop : 1 ≤ op ∧ op ≤ 4) (h : ((s.fg (pgB l n) PG.CMDCYC_CMDCYC : Int) - s.sk.cycle) % 2 ^ 32 = 0 ∨
      2 ^ 31 ≤ ((s.fg (pgB l n) PG.CMDCYC_CMDCYC : Int) - s.sk.cycle) % 2 ^ 32) :
    s.pgCmd l n op = s.cmdRefuse l n := by
  rw [← homeDistance] at h
  exact (if_neg (by simp [hrun])).trans ((if_neg (by omega)).trans ((if_neg (by omega)).trans (if_pos (by omega))))

theorem State.pgCmd_cancel : s.pgCmd l n 5 = s.stage l n none :=
  (if_neg (by simp [hrun])).trans ((if_neg (by decide)).trans (if_pos rfl))

end

theorem execPgCancelCmd_of_ahead {s : State} {l : DLane} {n : Fin 6} (hrun : s.running l.lane = true)
    (h : 0 < ((s.fg (pgB l n.val) PG.CMDCYC_CMDCYC : Int) - s.sk.cycle) % 2 ^ 32)
    (h' : ((s.fg (pgB l n.val) PG.CMDCYC_CMDCYC : Int) - s.sk.cycle) % 2 ^ 32 < 2 ^ 31) :
    execPgCancelCmd l n s = .next (s.stage l n.val none) := by
  rw [← homeDistance] at h h'
  rw [← State.pgCmd_cancel hrun]
  exact congrArg _ ((if_neg (by simp [hrun])).trans (if_neg (by omega)))

/-- MOVE, VELOCITY, STOP and GEAR are the operations 1 to 4 of one command. -/
theorem exec_of_staged {l : DLane} {n : Fin 6} {c : Instr} {op : Nat}
    (hc : (c, op) ∈ [(.pgMoveCmd l n, 1), (.pgVelocityCmd l n, 2), (.pgStopCmd l n, 3), (Instr.pgGearCmd l n, 4)]) (s : State) :
    (1 ≤ op ∧ op ≤ 4) ∧ exec c s = .next (s.pgCmd l n.val op) := by
  simp only [List.mem_cons, Prod.mk.injEq, List.not_mem_nil, or_false] at hc
  obtain ⟨rfl, rfl⟩ | ⟨rfl, rfl⟩ | ⟨rfl, rfl⟩ | ⟨rfl, rfl⟩ := hc
  · exact ⟨by decide, exec_pgMoveCmd ..⟩
  · exact ⟨by decide, exec_pgVelocityCmd ..⟩
  · exact ⟨by decide, exec_pgStopCmd ..⟩
  · exact ⟨by decide, exec_pgGearCmd ..⟩

/-! A write of PGn.CTRL (R222) -/

/-- The row of PGn.CTRL (R223). -/
def pgCtrlRow : RegRow := rowsPGa.head (by decide)

theorem rowAt_pgCtrl : ∀ (l : DLane) (n : Fin 6), rowAt (laneNo l.lane) (0x40140000 + 0x1000 * n.val) = some pgCtrlRow := by
  intro l n
  cases l
  · revert n; decide
  · revert n; decide

theorem homeOf_pgCtrl (l : Lane) {n : Nat} (hn : n < 6) : homeOf (laneNo l) (0x40140000 + 0x1000 * n) = laneNo l := by
  simp only [homeOf, Bool.and_eq_true, decide_eq_true_eq]
  rw [if_neg (by omega), if_neg (by omega), if_neg (by omega), if_neg (by omega), if_neg (by omega)]

/-- The blocks of feedback units and of generators lie apart. -/
theorem fuB_ne_pgB (l : DLane) {n m i j : Nat} (hm : m < 6) (hj : j < 0x1000) : fuB l n + i ≠ pgB l m + j := by
  simp only [fuB, fbB, pgB, key, laneNo_lane]
  omega

section

variable (s : State) (l : DLane) (n : Fin 6) (v : Word)

/-- PGn.CTRL written by its own lane. -/
def State.pgCtrlPut (s : State) (l : DLane) (n : Fin 6) (v : Word) : State := s.rowPut l.lane false (0x40140000 + 0x1000 * n.val) v

theorem State.pgCtrlPut_eq : s.pgCtrlPut l n v = s.setReg (pgB l n.val) (rowWrite pgCtrlRow false (s.reg (pgB l n.val)) v) := by
  rw [State.pgCtrlPut, State.rowPut, rowAt_pgCtrl]
  simp only [homeOf_pgCtrl l.lane n.isLt]
  rw [laneNo_lane]
  rfl

/-- EN reads as it was written. -/
theorem State.pgCtrlPut_en : (s.pgCtrlPut l n v).fb (pgB l n.val) PG.CTRL_EN = v.getLsbD 0 := by
  have read : (s.pgCtrlPut l n v).fg (pgB l n.val) PG.CTRL_EN = v.toNat / 2 ^ 0 % 2 ^ 1 := by
    rw [State.pgCtrlPut_eq, State.fg, PG.CTRL_EN, Nat.add_zero, State.reg_setReg_same]
    exact read_rowWrite_rw (f := ⟨0, 1, .rw, true, 0⟩) (rowAt_pgCtrl l n) (by decide) false _ v rfl
  rw [State.fb, read, BitVec.getLsbD, Nat.testBit]
  simp

theorem State.pgCtrlPut_same : SameRegistersBut s (s.pgCtrlPut l n v) [pgB l n.val + PG.CTRL_EN.ofs] := by
  intro k hk
  rw [State.pgCtrlPut_eq]
  exact State.reg_setReg_of_ne _ _ (by simpa [PG.CTRL_EN] using hk)

theorem State.pgCtrlPut_only_regs : ∃ rs, s.pgCtrlPut l n v = { s with regs := rs } := by
  rw [State.pgCtrlPut_eq]
  exact ⟨_, rfl⟩

variable {s l n}

/-- CTRL holds none of the limits that R222 asks for, nor the feedback unit's enable. -/
theorem State.pgCtrlPut_not_cfgOk (h : s.fg (pgB l n.val) PG.VLIM_LIM = 0 ∨ s.fg (pgB l n.val) PG.ALIM_LIM = 0 ∨
      s.fg (pgB l n.val) PG.DLIMAX_LIM < s.fg (pgB l n.val) PG.ALIM_LIM ∨ s.fb (fuB l n.val) FB.CTRL_EN = false) :
    (s.pgCtrlPut l n v).pgCfgOk l n.val = false := by
  have limit {f : Fld} (hf : f.ofs ≠ 0) : (s.pgCtrlPut l n v).fg (pgB l n.val) f = s.fg (pgB l n.val) f :=
    (s.pgCtrlPut_same l n v).fg (by simpa [PG.CTRL_EN] using hf)
  have unit : (s.pgCtrlPut l n v).fb (fuB l n.val) FB.CTRL_EN = s.fb (fuB l n.val) FB.CTRL_EN := by
    rw [State.fb, (s.pgCtrlPut_same l n v).fg (by simpa using fuB_ne_pgB l n.isLt (by decide)), ← State.fb]
  rw [← limit (f := PG.VLIM_LIM) (by decide), ← limit (f := PG.ALIM_LIM) (by decide), ← limit (f := PG.DLIMAX_LIM) (by decide), ← unit] at h
  rcases h with h | h | h | h
  · simp [State.pgCfgOk, within, h]
  · simp [State.pgCfgOk, h]
  · simp [State.pgCfgOk, Nat.not_le.mpr h]
  · simp [State.pgCfgOk, h]

end

section

variable {s : State} {l : DLane} {n : Fin 6} {v : Word} (hrun : s.running l.lane = true) (hlock : (s.lane l.lane).locked = false)

include hrun hlock

theorem execPgEnWrite_of_ok (hcfg : (s.pgCtrlPut l n v).pgCfgOk l n.val = true) : execPgEnWrite l n v s = .next (s.pgCtrlPut l n v) := by
  have good : ¬ (v.getLsbD 0 && !(s.pgCtrlPut l n v).pgCfgOk l n.val) = true := by simp [hcfg]
  exact (if_neg (by simp [hrun, hlock])).trans (if_neg good)

theorem execPgEnWrite_of_refused (hen : v.getLsbD 0 = true) (hcfg : (s.pgCtrlPut l n v).pgCfgOk l n.val = false) :
    execPgEnWrite l n v s = .next (((s.pgCtrlPut l n v).fs (pgB l n.val) PG.CTRL_EN 0).raiseL l.lane 0xb7 n.val) := by
  have bad : (v.getLsbD 0 && !(s.pgCtrlPut l n v).pgCfgOk l n.val) = true := by rw [hen, hcfg]; rfl
  exact (if_neg (by simp [hrun, hlock])).trans (if_pos bad)

end

/-! SPOS_L_READ (R223) -/

/-- The low word of the set-point has been read, and its high byte is latched. -/
def State.sposLatched (s : State) (l : DLane) (n : Nat) : State :=
  let p := ratRound (s.pg l n).p
  { s with readData := BitVec.ofNat 32 (unsigned 32 p) }.fsi (pgB l n) PG.SPOS_H_SHI (p / 2 ^ 32)

theorem execSposLRead_of_running {s : State} {l : DLane} {n : Fin 6} (hrun : s.running l.lane = true) :
    execSposLRead l n s = .next (s.sposLatched l n.val) := if_neg (by simp [hrun])

theorem State.sposLatched_spec (s : State) (l : DLane) (n : Nat) :
    let t := s.sposLatched l n
    t.readData = BitVec.ofInt 32 (ratRound (s.pg l n).p) ∧
      t.fg (pgB l n) PG.SPOS_H_SHI = unsigned PG.SPOS_H_SHI.w (ratRound (s.pg l n).p / 2 ^ 32) ∧
      SameRegistersBut s t [pgB l n + PG.SPOS_H_SHI.ofs] ∧ t.pg l n = s.pg l n ∧ t.evq = s.evq ∧ t.mem = s.mem ∧ t.sk = s.sk := by
  refine ⟨ofNat_unsigned _, State.fg_fs_fits _ _ (by decide) (unsigned_lt _ _), ?_, rfl, rfl, rfl, rfl⟩
  exact SameRegistersBut.fs (fun _ _ => rfl) _ (List.mem_singleton.mpr rfl)

/-! The obligation -/

/-- Settles O34: MOVE, VELOCITY, STOP and GEAR are one command, staged where CMDCYC lies ahead and refused elsewhere; a write of
EN keeps the limits that R222 compares, so it starts the generator or is refused; a read of SPOS_L latches SPOS_H. -/
theorem profileCommandsAreStaged : Obligations.ProfileCommandsAreStaged := by
  unfold Obligations.ProfileCommandsAreStaged
  refine ⟨?staged, ?cancelled, ?enabled, ?refused, ?read⟩
  case staged =>
    intro l n c op s hc hrun
    obtain ⟨hop, done⟩ := exec_of_staged hc s
    constructor
    · intro h h'
      rw [State.pgCmd_of_ahead hrun hop h h'] at done
      refine ⟨_, done, ?_, ?_, s.stage_pend .., s.stage_same _ _ _, s.stage_rest ..⟩
      · rw [State.stage_pg, PgSt.withCmd_cmd]
      · rw [State.stage_pg, PgSt.withCmd_p]
    · intro h
      exact ⟨_, done.trans (congrArg _ (State.pgCmd_of_refused hrun hop h)), s.cmdRefuse_spec l n.val hrun⟩
  case cancelled =>
    intro l n s hrun h h'
    refine ⟨_, (exec_pgCancelCmd ..).trans (execPgCancelCmd_of_ahead hrun h h'), ?_, s.stage_pend .., s.stage_same _ _ _, s.stage_rest ..⟩
    rw [State.stage_pg, PgSt.withCmd_cmd]
  case enabled =>
    intro l n v s hrun hlock hen hcfg
    obtain ⟨rs, put⟩ := s.pgCtrlPut_only_regs l n v
    refine ⟨_, (exec_pgEnWrite ..).trans (execPgEnWrite_of_ok hrun hlock hcfg), ?_, s.pgCtrlPut_same l n v, ?_, ?_, ?_⟩
    · rw [State.pgCtrlPut_en, hen]
    all_goals rw [put]
  case refused =>
    intro l n v s hrun hlock hen hcond
    obtain ⟨rs, put⟩ := s.pgCtrlPut_only_regs l n v
    have hrun' : (s.pgCtrlPut l n v).running l.lane = true := by rw [put]; exact hrun
    refine ⟨_, (exec_pgEnWrite ..).trans (execPgEnWrite_of_refused hrun hlock hen (State.pgCtrlPut_not_cfgOk v hcond)), ?_, ?_, ?_, ?_, ?_⟩
    · rw [State.raiseL_fb, State.fb_fs_same _ _ _ _ (by decide)]
      rfl
    · exact ((s.pgCtrlPut_same l n v).fs (f := PG.CTRL_EN) 0 (List.mem_singleton.mpr rfl)).of_regs (State.raiseL_regs ..)
    · rw [State.raiseL_mem, State.fs_mem, put]
    · rw [State.raiseL_sk, State.fs_sk, put]
    · rw [State.raiseL_evq _ n.val 0 (src := 0xb7) rfl (State.reset_of_running (by simpa using hrun')), State.fs_evq, State.fs_stamp, put]
      rfl
  case read =>
    intro l n s hrun
    exact ⟨_, (exec_sposLRead ..).trans (execSposLRead_of_running hrun), s.sposLatched_spec l n.val⟩

end Sys2Proof.Machine
end

section
/-! SUPPORT. The registers of the calibration block: which writes leave which fields alone. -/

namespace Sys2Proof.Machine

open Sys2Proof

section

variable {s : State} {l : DLane} {n : Nat}

theorem State.running_of_calRuns (h : s.calRuns l n = true) : s.running l.lane = true := by
  simp only [State.calRuns, Bool.and_eq_true] at h
  obtain ⟨⟨hrun, -⟩, -⟩ := h
  exact hrun

theorem State.WithinDrive.setReg {t : State} (h : s.WithinDrive t) (k : Nat) (v : Word) : s.WithinDrive (t.setReg k v) :=
  h.trans ⟨_, _, _, _, rfl⟩

/-- The fields of the block lie below those of its axes (R245). -/
theorem calB_ne_calA {i j : Nat} (hi : i < 0x40) (hj : 0x40 ≤ j) : calB l.lane + i ≠ calA l n + j := by
  unfold calA
  omega

/-- A field of an axis is set: the block's own fields read as before. -/
theorem State.fg_calB_fs_calA {f g : Fld} (v : Nat) (hf : 0x40 ≤ f.ofs) (hg : g.ofs < 0x40) :
    (s.fs (calA l n) f v).fg (calB l.lane) g = s.fg (calB l.lane) g :=
  s.fg_fs_of_ne v (calB_ne_calA hg hf)

theorem State.fb_calB_fs_calA {f g : Fld} (v : Nat) (hf : 0x40 ≤ f.ofs) (hg : g.ofs < 0x40) :
    (s.fs (calA l n) f v).fb (calB l.lane) g = s.fb (calB l.lane) g := by
  rw [State.fb, State.fg_calB_fs_calA v hf hg, State.fb]

/-- A field of the block is set: those of its axes read as before. -/
theorem State.fg_calA_fs_calB {f g : Fld} (v : Nat) (hf : f.ofs < 0x40) (hg : 0x40 ≤ g.ofs) :
    (s.fs (calB l.lane) f v).fg (calA l n) g = s.fg (calA l n) g :=
  s.fg_fs_of_ne v (calB_ne_calA hf hg).symm

theorem State.fg_calA_fInc_calB {f g : Fld} (hf : f.ofs < 0x40) (hg : 0x40 ≤ g.ofs) :
    (s.fInc (calB l.lane) f).fg (calA l n) g = s.fg (calA l n) g := by
  rw [State.fg, State.reg_fInc_of_ne _ (calB_ne_calA hf hg).symm, State.fg]

theorem State.fb_calA_fs_calB {f g : Fld} (v : Nat) (hf : f.ofs < 0x40) (hg : 0x40 ≤ g.ofs) :
    (s.fs (calB l.lane) f v).fb (calA l n) g = s.fb (calA l n) g := by
  rw [State.fb, State.fg_calA_fs_calB v hf hg, State.fb]

end

/-- The fields of a register that holds 0 are 0. -/
theorem State.fi_of_reg_zero {s : State} {b : Nat} {f : Fld} (h : s.reg (b + f.ofs) = 0) : s.fi b f = 0 := by
  simp [State.fi, State.fg, h, signed]

/-! Consecutive registers -/

section

variable (s : State) (a k : Nat) (c : Nat → Word)

/-- k registers from a up are set, number m to c m. -/
def State.setRegs (s : State) (a k : Nat) (c : Nat → Word) : State :=
  (List.range k).foldl (fun s m => s.setReg (a + 4 * m) (c m)) s

theorem State.setRegs_succ : s.setRegs a (k + 1) c = (s.setRegs a k c).setReg (a + 4 * k) (c k) := by
  simp [State.setRegs, List.range_succ]

theorem State.setRegs_only_regs : ∃ rs, s.setRegs a k c = { s with regs := rs } := by
  induction k with
  | zero => exact ⟨s.regs, rfl⟩
  | succ k ih =>
    obtain ⟨rs, h⟩ := ih
    rw [State.setRegs_succ, h]
    exact ⟨_, rfl⟩

variable {a k}

theorem State.WithinDrive.setRegs {s t : State} (h : s.WithinDrive t) : s.WithinDrive (t.setRegs a k c) := by
  obtain ⟨_, hrs⟩ := t.setRegs_only_regs a k c
  rw [hrs]
  exact h.trans ⟨_, _, _, _, rfl⟩

theorem State.reg_setRegs_of_outside {j : Nat} (h : j < a ∨ a + 4 * k ≤ j) : (s.setRegs a k c).reg j = s.reg j := by
  induction k with
  | zero => rfl
  | succ k ih => rw [State.setRegs_succ, State.reg_setReg_of_ne _ _ (by omega), ih (by omega)]

theorem State.reg_setRegs {m : Nat} (h : m < k) : (s.setRegs a k c).reg (a + 4 * m) = c m := by
  induction k with
  | zero => cases h
  | succ k ih =>
    rw [State.setRegs_succ]
    by_cases hm : m = k
    · rw [hm, State.reg_setReg_same]
    · rw [State.reg_setReg_of_ne _ _ (by omega), ih (by omega)]

theorem State.fg_setRegs_of_outside {b : Nat} {f : Fld} (h : b + f.ofs < a ∨ a + 4 * k ≤ b + f.ofs) :
    (s.setRegs a k c).fg b f = s.fg b f := by
  rw [State.fg, State.reg_setRegs_of_outside s c h, State.fg]

end

end Sys2Proof.Machine
end

section
/-! PROOF. The start calibration and the references of the spare (R226, R227, R230, R240). -/

namespace Sys2Proof.Machine

open Sys2Proof

/-! The start calibration (R226) -/

section

variable (s : State) (l : DLane) (n : Nat)

/-- M0 to M2 serve the phases and M3 is the spare, u is the next target, and the axis waits for its first handover. -/
def State.calMapped (s : State) (l : DLane) (n : Nat) : State :=
  (((((s.fs (calA l n) CAL.MAP_U 0).fs (calA l n) CAL.MAP_V 1).fs (calA l n) CAL.MAP_W 2).fs (calA l n) CAL.MAP_SPARE 3).fs
    (calA l n) CAL.MAP_PHASE 4).fs (calA l n) CAL.MAP_NEXT 0

theorem State.calMapped_spec :
    (s.calMapped l n).fg (calA l n) CAL.MAP_U = 0 ∧ (s.calMapped l n).fg (calA l n) CAL.MAP_V = 1 ∧
      (s.calMapped l n).fg (calA l n) CAL.MAP_W = 2 ∧ (s.calMapped l n).fg (calA l n) CAL.MAP_SPARE = 3 ∧
      (s.calMapped l n).fg (calA l n) CAL.MAP_NEXT = 0 ∧ (s.calMapped l n).fg (calA l n) CAL.MAP_PHASE = 4 := by
  simp (disch := decide) only [State.calMapped, State.fg_fs_apart, State.fg_fs_fits, and_self]

/-- The live modulators have their coefficients, c (R226). -/
def State.calServes (s : State) (l : DLane) (n : Nat) (c : Nat → Word) : State := (s.calMapped l n).setRegs (calA l n + 0x44) 3 c

/-- The state after the start calibration that measured the references c: they settle, and stand in the modulators' registers. -/
def State.calStarted (s : State) (l : DLane) (n : Nat) (c : Nat → Word) : State :=
  let t := s.calServes l n c
  (t.setCal l n { settle := some (t.now + t.calSettle l.lane * t.calTau l.lane) }).setRegs (calA l n + 0x100) 4 c

theorem State.calStarted_within (c : Nat → Word) : s.WithinDrive (s.calStarted l n c) := by
  have mapped : s.WithinDrive (s.calMapped l n) := ((((((State.WithinDrive.refl s).fs _ _ _).fs _ _ _).fs _ _ _).fs _ _ _).fs _ _ _).fs _ _ _
  exact ((mapped.setRegs c).setCal l n _).setRegs c

/-- The coefficients and references leave MAP alone. -/
theorem State.calStarted_fg (c : Nat → Word) {f : Fld} (hf : f.ofs = 0x40) :
    (s.calStarted l n c).fg (calA l n) f = (s.calMapped l n).fg (calA l n) f := by
  rw [State.calStarted, State.fg_setRegs_of_outside _ _ (by omega), State.setCal_fg, State.calServes, State.fg_setRegs_of_outside _ _ (by omega)]

theorem State.calStarted_ref (c : Nat → Word) {m : Nat} (hm : m < 4) : (s.calStarted l n c).reg (calA l n + 0x100 + 4 * m) = c m :=
  State.reg_setRegs _ c hm

theorem State.calStarted_coef (c : Nat → Word) {m : Nat} (hm : m < 3) : (s.calStarted l n c).reg (calA l n + 0x44 + 4 * m) = c m := by
  rw [State.calStarted, State.reg_setRegs_of_outside _ _ (by omega), State.setCal_reg, State.calServes, State.reg_setRegs _ _ hm]

end

/-- The reference coefficients of modulator m in the samples of a start calibration. -/
def State.calStartRef (s : State) (l : DLane) (zero ref : List (List Int)) (m : Nat) : Word :=
  (s.calRef l.lane (zero.getD m []) (ref.getD m [])).1

theorem execCalStartDone_of_good {s : State} {l : DLane} {n : Fin 6} {zero ref : List (List Int)} (hrun : s.calRuns l n.val = true)
    (hphase : s.fg (calA l n.val) CAL.MAP_PHASE = 1) (hover : s.refOver l n.val = true)
    (hlen : ∀ x ∈ zero ++ ref, x.length = s.calNref l.lane)
    (hgood : ∀ m < 4, (s.calRef l.lane (zero.getD m []) (ref.getD m [])).2 = true) :
    execCalStartDone l n zero ref s = .next (s.calStarted l n.val (s.calStartRef l zero ref)) := by
  have full : (zero ++ ref).all (·.length == s.calNref l.lane) = true := by
    rw [List.all_eq_true]
    exact fun x hx => beq_iff_eq.mpr (hlen x hx)
  have guard : ¬ (!s.calRuns l n.val || s.fg (calA l n.val) CAL.MAP_PHASE != 1 || !s.refOver l n.val ||
      !(zero ++ ref).all (·.length == s.calNref l.lane)) = true := by
    rw [hrun, hphase, hover, full]
    decide
  refine (if_neg guard).trans (congrArg Host.Outcome.next ?_)
  exact List.foldl_ext _ _ _ fun t m hm => if_pos (hgood m (List.mem_range.mp hm))

/-! The range of a reference (R230) -/

theorem refCoef_good_iff (z r : Int) (d : Nat) : (refCoef z r d).2 = true ↔
    z < r ∧ 950 * (8 * (r - z)) ≤ 5000 * d ∧ 5000 * d ≤ 1050 * (8 * (r - z)) ∧ |z| * 10000 ≤ 78 * d := by
  unfold refCoef
  dsimp only
  split
  · next h => exact iff_of_false Bool.false_ne_true (by omega)
  · next h => simp only [Bool.and_eq_true, decide_eq_true_eq, Int.abs_eq_natAbs]; omega

/-! Drift (R240) -/

section

variable (s : State) (l : DLane) (n m : Nat) (w : Word)

theorem State.calDrift_cases : (∃ x, s.calDrift l n m w = s.setCal l n x) ∨ s.calDrift l n m w = s ∨
    s.calDrift l n m w = (s.fs (calB l.lane) CAL.EVT_DRIFT 1).raiseL l.lane 0xc3 n m := by
  unfold State.calDrift
  dsimp only
  split
  · exact .inl ⟨_, rfl⟩
  · split
    · exact .inr (.inr rfl)
    · exact .inr (.inl rfl)

theorem State.calDrift_keeps : (s.calDrift l n m w).mem = s.mem ∧ (s.calDrift l n m w).sk = s.sk ∧
    (s.calDrift l n m w).running l.lane = s.running l.lane := by
  rcases s.calDrift_cases l n m w with ⟨x, h⟩ | h | h <;> rw [h] <;> simp

variable {s l n m w}

/-- The modulator's first reference since the start calibration is kept. -/
theorem State.calDrift_of_first (h : ∀ p ∈ (s.calx l n).first, p.1 ≠ m) :
    s.calDrift l n m w = s.setCal l n { s.calx l n with first := (m, w) :: (s.calx l n).first } := by
  have unseen : (s.calx l n).first.find? (fun p => p.1 == m) = none :=
    List.find?_eq_none.mpr fun p hp => by simpa using h p hp
  simp only [State.calDrift, unseen]

/-- An offset that has moved further than ODRIFT is shown and raised. -/
theorem State.calDrift_of_moved {f : Word} (hfirst : (s.calx l n).first = [(m, f)])
    (hmoved : s.fg (calB l.lane) CAL.DRIFT_ODRIFT < (coefOfs w - coefOfs f).natAbs) (hrun : s.running l.lane = true) :
    (s.calDrift l n m w).fb (calB l.lane) CAL.EVT_DRIFT = true ∧ LaneEvent (s.calDrift l n m w) l.lane 0xc3 n := by
  have raised : s.calDrift l n m w = (s.fs (calB l.lane) CAL.EVT_DRIFT 1).raiseL l.lane 0xc3 n m := by
    simp only [State.calDrift, hfirst, List.find?_cons, beq_self_eq_true, hmoved, decide_true, Bool.or_true, if_true]
  have hreset : (s.lane l.lane).reset = false := State.reset_of_running hrun
  rw [raised, State.raiseL_fb, State.fb_fs_one _ _ (by decide) (by decide)]
  refine ⟨rfl, s.stamp { coll := .lane l.lane, src := 0xc3, inst := n, res := resLane l.lane, detail := m }, ?_, rfl, rfl, rfl⟩
  rw [State.raiseL_evq (s.fs (calB l.lane) CAL.EVT_DRIFT 1) n m (src := 0xc3) rfl hreset]
  exact List.mem_append_right _ List.mem_cons_self

end

/-! A modulator that fails (R230) -/

section

variable (s : State) (l : DLane) (n m : Nat)

theorem State.refFail_spec :
    (s.refFail l n m).fg (calA l n) CAL.MAP_PHASE = 7 ∧ (s.refFail l n m).fb (calB l.lane) CAL.EVT_REF_FAIL = true ∧
      (s.refFail l n m).fb (calB l.lane) CAL.EVT_DRIFT = s.fb (calB l.lane) CAL.EVT_DRIFT ∧
      (s.refFail l n m).mem = s.mem ∧ (s.refFail l n m).sk = s.sk := by
  refine ⟨?_, ?_, ?_, by simp [State.refFail], by simp [State.refFail]⟩
  · rw [State.refFail, State.raiseL_fg, State.fg_calA_fs_calB _ (by decide) (by decide), State.fg_fs_fits _ _ (by decide) (by decide)]
  · rw [State.refFail, State.raiseL_fb, State.fb_fs_one _ _ (by decide) (by decide)]
  · rw [State.refFail, State.raiseL_fb, State.fb_fs_apart _ _ (by decide) (by decide), State.fb_calB_fs_calA _ (by decide) (by decide)]

variable {s l}

theorem State.refFail_evq (hrun : s.running l.lane = true) : (s.refFail l n m).evq =
    s.evq ++ [s.stamp { coll := .lane l.lane, src := 0xc0, inst := n, res := resLane l.lane, detail := m }] := by
  have hreset : (s.lane l.lane).reset = false := State.reset_of_running hrun
  rw [State.refFail, State.raiseL_evq _ n m (src := 0xc0) rfl (by simpa using hreset)]
  rfl

end

/-! The spare's references (R227, R230) -/

section

variable (s : State) (l : DLane) (n : Nat) (z r : List Int)

/-- The reference coefficients of the spare stand in its register. -/
def State.calRefPut (s : State) (l : DLane) (n : Nat) (z r : List Int) : State :=
  s.putRef l n (s.fg (calA l n) CAL.MAP_SPARE) (s.calRef l.lane z r).1

/-- The axis waits for its overlap, and the reference is compared with the modulator's first. -/
def State.calRefKept (s : State) (l : DLane) (n : Nat) (z r : List Int) : State :=
  ((s.calRefPut l n z r).fs (calA l n) CAL.MAP_PHASE 4).calDrift l n (s.fg (calA l n) CAL.MAP_SPARE) (s.calRef l.lane z r).1

/-- The reference is compared with the modulator's first. -/
def State.calRefCompared (s : State) (l : DLane) (n : Nat) (z r : List Int) : State :=
  (s.calRefPut l n z r).calDrift l n (s.fg (calA l n) CAL.MAP_SPARE) (s.calRef l.lane z r).1

/-- The reference is compared, and the modulator fails. -/
def State.calRefFailed (s : State) (l : DLane) (n : Nat) (z r : List Int) : State :=
  (s.calRefCompared l n z r).refFail l n (s.fg (calA l n) CAL.MAP_SPARE)

theorem State.calRefFailed_spec (hrun : s.running l.lane = true) :
    (s.calRefFailed l n z r).fg (calA l n) CAL.MAP_PHASE = 7 ∧ (s.calRefFailed l n z r).fb (calB l.lane) CAL.EVT_REF_FAIL = true ∧
      (s.calRefFailed l n z r).fb (calB l.lane) CAL.EVT_DRIFT = (s.calRefCompared l n z r).fb (calB l.lane) CAL.EVT_DRIFT ∧
      (∃ e : Event, (s.calRefFailed l n z r).evq = (s.calRefCompared l n z r).evq ++ [e] ∧ e.coll = .lane l.lane ∧ e.src = 0xc0 ∧
        e.inst = n ∧ e.detail = s.fg (calA l n) CAL.MAP_SPARE) ∧
      (s.calRefFailed l n z r).mem = s.mem ∧ (s.calRefFailed l n z r).sk = s.sk := by
  obtain ⟨dmem, dsk, drun⟩ := (s.calRefPut l n z r).calDrift_keeps l n (s.fg (calA l n) CAL.MAP_SPARE) (s.calRef l.lane z r).1
  obtain ⟨phase, flag, drift, mem, sk⟩ := (s.calRefCompared l n z r).refFail_spec l n (s.fg (calA l n) CAL.MAP_SPARE)
  exact ⟨phase, flag, drift, ⟨_, State.refFail_evq _ _ (drun.trans hrun), rfl, rfl, rfl, rfl⟩, mem.trans dmem, sk.trans dsk⟩

theorem State.calRefPut_fg_calB {f : Fld} (hf : f.ofs < 0x40) : (s.calRefPut l n z r).fg (calB l.lane) f = s.fg (calB l.lane) f := by
  rw [State.fg, State.calRefPut, State.putRef, State.reg_setReg_of_ne, State.fg]
  unfold calA
  omega

/-- This step's references of the spare are measured. -/
def CalSt.measured (x : CalSt) : CalSt := { x with refDone := true }

end

section

variable {s : State} {l : DLane} {n : Fin 6} {z r : List Int} (hrun : s.calRuns l n.val = true)
  (hphase : s.fg (calA l n.val) CAL.MAP_PHASE = 2) (hover : s.refOver l n.val = true) (hz : z.length = s.calNref l.lane)
  (hr : r.length = s.calNref l.lane)

include hrun hphase hover hz hr

theorem execCalRefDone_eq : execCalRefDone l n z r s = .next (if (s.calRef l.lane z r).2 then
    (s.calRefKept l n.val z r).setCal l n.val ((s.calRefKept l n.val z r).calx l n.val).measured else s.calRefFailed l n.val z r) := by
  refine (if_neg (by simp [hrun, hphase, hover, hz, hr])).trans ?_
  exact (apply_ite Host.Outcome.next ..).symm

/-- A reference in range, the modulator's first, is kept, and the axis waits for its overlap. -/
theorem calRefDone_of_first (hok : (s.calRef l.lane z r).2 = true)
    (hfirst : ∀ p ∈ (s.calx l n.val).first, p.1 ≠ s.fg (calA l n.val) CAL.MAP_SPARE) : Completes (.calRefDone l n z r) s fun t =>
      t.fg (calA l n.val) CAL.MAP_PHASE = 4 ∧ (t.calx l n.val).refDone = true ∧
      t.reg (calA l n.val + 0x100 + 4 * s.fg (calA l n.val) CAL.MAP_SPARE) = (s.calRef l.lane z r).1 ∧
      SameRegistersBut s t [calA l n.val + 0x100 + 4 * s.fg (calA l n.val) CAL.MAP_SPARE, calA l n.val + CAL.MAP_PHASE.ofs] ∧
      t.evq = s.evq ∧ t.mem = s.mem ∧ t.sk = s.sk := by
  have done := execCalRefDone_eq hrun hphase hover hz hr
  rw [if_pos hok, State.calRefKept, State.calDrift_of_first (s := (s.calRefPut l n.val z r).fs _ _ _) hfirst] at done
  have put : SameRegistersBut s (s.calRefPut l n.val z r) [calA l n.val + 0x100 + 4 * s.fg (calA l n.val) CAL.MAP_SPARE,
      calA l n.val + CAL.MAP_PHASE.ofs] := fun k hk => State.reg_setReg_of_ne _ _ fun e => hk (by simp [e])
  refine ⟨_, (exec_calRefDone ..).trans done, ?_, ?_, ?_, ?_, rfl, rfl, rfl⟩
  · exact State.fg_fs_fits _ _ (by decide) (by decide)
  · rw [State.calx_setCal_same, CalSt.measured]
  · have apart : calA l n.val + 0x100 + 4 * s.fg (calA l n.val) CAL.MAP_SPARE ≠ calA l n.val + CAL.MAP_PHASE.ofs := by
      simp only [CAL.MAP_PHASE]
      omega
    exact (State.reg_fs_of_ne _ _ apart).trans (State.reg_setReg_same ..)
  · exact put.fs (f := CAL.MAP_PHASE) 4 (by simp)

/-- A reference out of range stops the steps and names the modulator. -/
theorem calRefDone_of_bad (hbad : (s.calRef l.lane z r).2 = false) : Completes (.calRefDone l n z r) s fun t =>
      t.fg (calA l n.val) CAL.MAP_PHASE = 7 ∧ t.fb (calB l.lane) CAL.EVT_REF_FAIL = true ∧
      (∃ e ∈ t.evq, e.coll = .lane l.lane ∧ e.src = 0xc0 ∧ e.inst = n.val ∧ e.detail = s.fg (calA l n.val) CAL.MAP_SPARE) ∧
      t.mem = s.mem ∧ t.sk = s.sk := by
  have done := execCalRefDone_eq hrun hphase hover hz hr
  rw [if_neg (by rw [hbad]; decide)] at done
  obtain ⟨phase, flag, -, ⟨e, evq, source⟩, mem, sk⟩ := s.calRefFailed_spec l n.val z r (State.running_of_calRuns hrun)
  exact ⟨_, (exec_calRefDone ..).trans done, phase, flag, ⟨e, evq ▸ List.mem_append_right _ List.mem_cons_self, source⟩, mem, sk⟩

/-- A reference whose offset has drifted is raised, whether it lies in its range or not. -/
theorem calRefDone_of_moved {f : Word} (hfirst : (s.calx l n.val).first = [(s.fg (calA l n.val) CAL.MAP_SPARE, f)])
    (hmoved : s.fg (calB l.lane) CAL.DRIFT_ODRIFT < (coefOfs (s.calRef l.lane z r).1 - coefOfs f).natAbs) :
    Completes (.calRefDone l n z r) s fun t =>
      t.fb (calB l.lane) CAL.EVT_DRIFT = true ∧ LaneEvent t l.lane 0xc3 n.val ∧ t.mem = s.mem ∧ t.sk = s.sk := by
  have done := (exec_calRefDone s l n z r).trans (execCalRefDone_eq hrun hphase hover hz hr)
  have hdrift := s.calRefPut_fg_calB l n.val z r (f := CAL.DRIFT_ODRIFT) (by decide)
  have runs := State.running_of_calRuns hrun
  cases hc : (s.calRef l.lane z r).2 with
  | true =>
    rw [hc, if_pos rfl] at done
    have hdrift' : ((s.calRefPut l n.val z r).fs (calA l n.val) CAL.MAP_PHASE 4).fg (calB l.lane) CAL.DRIFT_ODRIFT =
        s.fg (calB l.lane) CAL.DRIFT_ODRIFT := (State.fg_calB_fs_calA _ (by decide) (by decide)).trans hdrift
    obtain ⟨flag, event⟩ := State.calDrift_of_moved (s := (s.calRefPut l n.val z r).fs (calA l n.val) CAL.MAP_PHASE 4) hfirst
      (hdrift'.symm ▸ hmoved) runs
    obtain ⟨mem, sk, -⟩ := ((s.calRefPut l n.val z r).fs (calA l n.val) CAL.MAP_PHASE 4).calDrift_keeps l n.val
      (s.fg (calA l n.val) CAL.MAP_SPARE) (s.calRef l.lane z r).1
    exact ⟨_, done, flag, event, mem, sk⟩
  | false =>
    rw [hc, if_neg Bool.false_ne_true] at done
    obtain ⟨flag, e, he, source⟩ := State.calDrift_of_moved (s := s.calRefPut l n.val z r) hfirst (hdrift.symm ▸ hmoved) runs
    obtain ⟨-, -, kept, ⟨e', evq, -⟩, mem, sk⟩ := s.calRefFailed_spec l n.val z r runs
    exact ⟨_, done, kept.trans flag, ⟨e, evq ▸ List.mem_append_left _ he, source⟩, mem, sk⟩

end

end Sys2Proof.Machine
end

section
/-! PROOF. The overlap of an axis: CONNECT, the candidate of two modulators that read alike, and SWITCH (R227, R231 to R233). -/

namespace Sys2Proof.Machine

open Sys2Proof

section

variable {s : State} {l : DLane} {n : Fin 6} (hrun : s.calRuns l n.val = true)

include hrun

/-! CONNECT (R227) -/

/-- The spare is connected now. -/
def CalSt.connected (x : CalSt) (now : Nat) : CalSt := { x with conn := now, at_ := now }

theorem execCalConnect_of_due (hphase : s.fg (calA l n.val) CAL.MAP_PHASE = 4) (href : (s.calx l n.val).refDone = true)
    (hstep : (s.calx l n.val).inStep = true) (hnext : s.calNext l.lane = s.fg (calB l.lane) CAL.CTRL_OVLCYC)
    (hwin : s.windowDue l n.val 0 = true) (hbist : s.bistIn l.lane 66 = false) : execCalConnect l n s =
      .next ((s.setCal l n.val ((s.calx l n.val).connected s.now)).fs (calA l n.val) CAL.MAP_PHASE 5) :=
  (if_pos (by simp [hrun, hphase, href, hstep, hnext, hwin])).trans (if_neg (by rw [hbist]; decide))

/-! SWITCH (R229, R233) -/

/-- The phase's window source has moved away from modulator m. -/
def CalSt.switchedFrom (x : CalSt) (m : Nat) : CalSt := { x with switched := some m }

theorem execCalSwitch_of_due {w : Word} (hcand : (s.calx l n.val).cand = some w) (hsw : (s.calx l n.val).switched = none)
    (htarget : s.fg (calA l n.val) CAL.MAP_NEXT = 0) (hnext : s.calNext l.lane = 1)
    (hwin : s.windowDue l n.val (s.windows l n.val - 1) = true) : execCalSwitch l n s =
      .next ((s.setCal l n.val ((s.calx l n.val).switchedFrom (s.fg (calA l n.val) CAL.MAP_U))).fs (calA l n.val) CAL.MAP_U
        (s.fg (calA l n.val) CAL.MAP_SPARE)) := by
  refine (if_pos (by simp [hrun, hcand, hsw, hnext, hwin])).trans ?_
  simp only [htarget, calMapOf, if_true]
  rfl

end

/-! The estimate of two modulators that read alike (R231, R232) -/

theorem ofsField_zero (d : Nat) : ofsField 0 d = 0 := by
  obtain rfl | hd := Nat.eq_zero_or_pos d
  · rfl
  · rw [ofsField, Int.zero_mul, roundDiv_zero hd]
    rfl

/-- Scaled readings span the scaled span. -/
theorem span_map_mul {c : Int} (hc : 0 ≤ c) (z : List Int) :
    (z.map (· * c)).foldl max ((z.map (· * c)).headD 0) - (z.map (· * c)).foldl min ((z.map (· * c)).headD 0) =
      (z.foldl max (z.headD 0) - z.foldl min (z.headD 0)) * c := by
  have head : (z.map (· * c)).headD 0 = z.headD 0 * c := by cases z <;> simp
  rw [head, List.foldl_map, List.foldl_map, List.foldl_hom (g₁ := max) (· * c) fun x y => (max_mul_of_nonneg x y hc).symm,
    List.foldl_hom (g₁ := min) (· * c) fun x y => (min_mul_of_nonneg x y hc).symm, Int.sub_mul]

theorem overRange_eq_false_iff {o3 : Nat} {z : List Int} : overRange o3 z = false ↔ ∀ x ∈ z, 320 * |x| ≤ 250 * (o3 : Int) := by
  simp only [overRange, List.any_eq_false, decide_eq_true_eq, Int.abs_eq_natAbs]
  exact forall₂_congr fun x _ => by omega

/-- A difference of 0 lies within every tolerance. -/
theorem not_beyond_tolerance (g o : Nat) :
    ¬ (decide ((g : Int) * 2 ^ 18 * 2 ^ 18 < ((Int.natAbs 0 * 10000 : Nat) : Int)) || decide (o < Int.natAbs 0)) = true := by
  simp only [Bool.or_eq_true, decide_eq_true_eq]
  omega

@[simp] theorem coefOfs_zero : coefOfs 0 = 0 := rfl

@[simp] theorem coefGain_zero : coefGain 0 = 0 := rfl

/-- The overlap's readings span too little: the gain stays the reference's. -/
def State.spanLow (s : State) (l : DLane) (n : Nat) : State :=
  ((s.fs (calA l n) CAL.MAP_PHASE 6).fs (calA l n) CAL.MAP_SPAN_LOW 1).fs (calB l.lane) CAL.EVT_SPAN_LOW 1

theorem State.spanLow_spec (s : State) (l : DLane) (n : Nat) : s.WithinDrive (s.spanLow l n) ∧
    (s.spanLow l n).fg (calA l n) CAL.MAP_PHASE = 6 ∧ (s.spanLow l n).fb (calA l n) CAL.MAP_SPAN_LOW = true ∧
      (s.spanLow l n).fb (calB l.lane) CAL.EVT_SPAN_LOW = true := by
  refine ⟨(((State.WithinDrive.refl s).fs _ _ _).fs _ _ _).fs _ _ _, ?_, ?_, State.fb_fs_one _ _ (by decide) (by decide)⟩
  · rw [State.spanLow, State.fg_calA_fs_calB _ (by decide) (by decide), State.fg_fs_apart _ _ (by decide) (by decide),
      State.fg_fs_fits _ _ (by decide) (by decide)]
  · rw [State.spanLow, State.fb_calA_fs_calB _ (by decide) (by decide), State.fb_fs_one _ _ (by decide) (by decide)]

/-- The step is cancelled, and its candidate dropped. -/
def CalSt.cancelledFor (x : CalSt) (why : Nat) : CalSt := { x with cancel := why, lastCancel := true, cand := none }

/-- A step cancelled for its range raises nothing: its flag is set, and the block's other flags and the axis's phase stay (R232). -/
theorem State.calCancel_range_spec (s : State) (l : DLane) (n : Nat) : s.WithinDrive (s.calCancel l n 2) ∧
    ((s.calCancel l n 2).calx l n).cand = none ∧ ((s.calCancel l n 2).calx l n).cancel = 2 ∧
      (s.calCancel l n 2).fb (calB l.lane) CAL.EVT_CANCEL = true ∧
      (s.calCancel l n 2).fb (calB l.lane) CAL.EVT_SPAN_LOW = s.fb (calB l.lane) CAL.EVT_SPAN_LOW ∧
      (s.calCancel l n 2).fg (calA l n) CAL.MAP_PHASE = s.fg (calA l n) CAL.MAP_PHASE ∧
      (s.calCancel l n 2).fb (calA l n) CAL.MAP_SPAN_LOW = s.fb (calA l n) CAL.MAP_SPAN_LOW := by
  have cancelled : s.calCancel l n 2 = (((s.setCal l n ((s.calx l n).cancelledFor 2)).fs (calB l.lane) CAL.EVT_CANCEL 1).fInc (calB l.lane)
      CAL.CANCEL_MISMATCH).fs (calA l n) CAL.MAP_CANCELRUN 0 := rfl
  refine ⟨?_, ?_, ?_, ?_, ?_, ?_, ?_⟩
  · exact ((((State.WithinDrive.refl s).setCal l n _).fs _ _ _).fInc _ _).fs _ _ _
  · rw [cancelled, State.fs_calx, State.fInc_calx, State.fs_calx, State.calx_setCal_same, CalSt.cancelledFor]
  · rw [cancelled, State.fs_calx, State.fInc_calx, State.fs_calx, State.calx_setCal_same, CalSt.cancelledFor]
  · simp (disch := decide) only [cancelled, State.fb, State.fg_calB_fs_calA, State.fg_fInc_apart, State.fg_fs_fits]
    rfl
  all_goals simp (disch := decide) only [cancelled, State.fb, State.fg_calB_fs_calA, State.fg_calA_fInc_calB, State.fg_calA_fs_calB,
    State.fg_fInc_apart, State.fg_fs_apart, State.setCal_fg]

/-- A candidate for the spare. -/
def CalSt.candidate (x : CalSt) (w : Word) : CalSt := { x with cand := some w }

section

variable {s : State} {l : DLane} {n : Fin 6} {z : List Int} (hrun : s.calRuns l n.val = true) (hphase : s.fg (calA l n.val) CAL.MAP_PHASE = 5)
  (hcand : (s.calx l n.val).cand = none) (hcancel : (s.calx l n.val).cancel = 0) (hz : z ≠ [])
  (hlen : z.length = s.fg (calB l.lane) CAL.CFG_OVL)
  (hover : (s.calx l n.val).conn + (s.calSettle l.lane + z.length) * s.calTau l.lane + 320 ≤ s.now)
  (href : s.reg (calA l n.val + 0x100 + 4 * s.fg (calA l n.val) CAL.MAP_SPARE) = 0)
  (hcoef : s.reg (calA l n.val + 0x44 + 4 * s.fg (calA l n.val) CAL.MAP_NEXT) = 0)
  (hspan : (z.foldl max (z.headD 0) - z.foldl min (z.headD 0)) * 2 ^ 8 <
    s.fg (calB l.lane) CAL.TOL_MINSPAN * s.fg (calB l.lane) CAL.CFG_CALOSR ^ 3)

include hrun hphase hcand hcancel hz hlen hover href hcoef hspan

theorem execCalOverlapDone_of_alike :
    execCalOverlapDone l n z z s = .next (if overRange (s.fg (calB l.lane) CAL.CFG_CALOSR ^ 3) z then
      (s.spanLow l n.val).calCancel l n.val 2 else (s.spanLow l n.val).setCal l n.val ((s.calx l n.val).candidate 0)) := by
  have guard : ¬ (!s.calRuns l n.val || (s.fg (calA l n.val) CAL.MAP_PHASE != 5 && s.fg (calA l n.val) CAL.MAP_PHASE != 6) ||
      (s.calx l n.val).cand.isSome || (s.calx l n.val).cancel != 0 ||
      !decide ((s.calx l n.val).conn + (s.calSettle l.lane + s.fg (calB l.lane) CAL.CFG_OVL) * s.calTau l.lane + 320 ≤ s.now) ||
      z.isEmpty || z.length != s.fg (calB l.lane) CAL.CFG_OVL || z.length != s.fg (calB l.lane) CAL.CFG_OVL) = true := by
    rw [hlen] at hover
    simp [hrun, hphase, hcand, hcancel, hlen, hover, hz]
  rw [Nat.add_right_comm] at hcoef
  have narrow : ¬ (s.fg (calB l.lane) CAL.TOL_MINSPAN : Int) * ((s.fg (calB l.lane) CAL.CFG_CALOSR ^ 3 : Nat) : Int) * 2 ^ 32 ≤
      (z.foldl max (z.headD 0) - z.foldl min (z.headD 0)) * 2 ^ 40 := by
    rw [Nat.cast_pow]
    omega
  have scaled (o : Int) : (fun r : Int => (r * 2 ^ 22 - 0 * o) * (2 ^ 18 + 0)) = (· * 2 ^ 40) := by
    funext r
    omega
  have twice : overRange (s.fg (calB l.lane) CAL.CFG_CALOSR ^ 3) (z ++ z) = overRange (s.fg (calB l.lane) CAL.CFG_CALOSR ^ 3) z := by
    rw [overRange, List.any_append, Bool.or_self, overRange]
  refine (if_neg guard).trans ?_
  simp only [State.fi_of_reg_zero (f := CAL.COEFU_OFS) hcoef, State.fi_of_reg_zero (f := CAL.COEFU_GAIN) hcoef, href, scaled,
    span_map_mul (show (0 : Int) ≤ 2 ^ 40 by decide), narrow, coefGain_zero, coefOfs_zero, twice, decide_false, Bool.false_eq_true, if_false]
  simp only [Int.add_zero, Int.sub_self, Int.zero_mul, ofsField_zero]
  rw [if_neg (by decide), if_neg (not_beyond_tolerance _ _)]
  exact (apply_ite Host.Outcome.next ..).symm

/-- Two modulators of one reference that read alike give the neutral candidate, unless a reading lies out of range. -/
theorem calOverlapDone_of_alike : Completes (.calOverlapDone l n z z) s fun t =>
      t.fg (calA l n.val) CAL.MAP_PHASE = 6 ∧ t.fb (calA l n.val) CAL.MAP_SPAN_LOW = true ∧
      t.fb (calB l.lane) CAL.EVT_SPAN_LOW = true ∧ t.mem = s.mem ∧ t.sk = s.sk ∧ t.evq = s.evq ∧
      ((∀ x ∈ z, 320 * |x| ≤ 250 * s.fg (calB l.lane) CAL.CFG_CALOSR ^ 3) →
        (t.calx l n.val).cand = some 0 ∧ (t.calx l n.val).cancel = 0) ∧
      ((∃ x ∈ z, 250 * s.fg (calB l.lane) CAL.CFG_CALOSR ^ 3 < 320 * |x|) → (t.calx l n.val).cand = none ∧
        (t.calx l n.val).cancel = 2 ∧ t.fb (calB l.lane) CAL.EVT_CANCEL = true) := by
  have done := (exec_calOverlapDone ..).trans (execCalOverlapDone_of_alike hrun hphase hcand hcancel hz hlen hover href hcoef hspan)
  obtain ⟨within, phase, flag, event⟩ := s.spanLow_spec l n.val
  cases hrange : overRange (s.fg (calB l.lane) CAL.CFG_CALOSR ^ 3) z with
  | true =>
    rw [hrange, if_pos rfl] at done
    obtain ⟨cwithin, cand, cancel, cevent, span, cphase, cflag⟩ := (s.spanLow l n.val).calCancel_range_spec l n.val
    have changed := within.trans cwithin
    refine ⟨_, done, cphase.trans phase, cflag.trans flag, span.trans event, changed.mem, changed.sk, changed.evq, fun low => ?_,
      fun _ => ⟨cand, cancel, cevent⟩⟩
    have inRange : overRange (s.fg (calB l.lane) CAL.CFG_CALOSR ^ 3) z = false := overRange_eq_false_iff.mpr (by simpa using low)
    exact absurd (inRange.symm.trans hrange) Bool.false_ne_true
  | false =>
    rw [hrange, if_neg Bool.false_ne_true] at done
    have changed := within.setCal l n.val ((s.calx l n.val).candidate 0)
    refine ⟨_, done, (State.setCal_fg ..).trans phase, (State.setCal_fb ..).trans flag, (State.setCal_fb ..).trans event,
      changed.mem, changed.sk, changed.evq, fun _ => ?_, fun ⟨x, hx, high⟩ => ?_⟩
    · rw [State.calx_setCal_same]
      exact ⟨rfl, hcancel⟩
    · have low := overRange_eq_false_iff.mp hrange x hx
      rw [Nat.cast_pow] at low
      omega

end

end Sys2Proof.Machine
end

section
/-! PROOF. The enable of live calibration (R226, R228, R237). -/

namespace Sys2Proof.Machine

open Sys2Proof

/-! A write of CAL.CTRL -/

/-- The row of CAL.CTRL (R245). -/
def calCtrlRow : RegRow := rowsCALa.head (by decide)

theorem rowAt_calCtrl : ∀ l : Lane, rowAt (laneNo l) 0x40800000 = some calCtrlRow := by
  intro l
  cases l <;> decide

theorem homeOf_calCtrl (l : Lane) : homeOf (laneNo l) 0x40800000 = laneNo l := by
  cases l <;> decide

section

variable (s : State) (l : Lane) (v : Word)

/-- CAL.CTRL written by its own lane. -/
def State.calCtrlPut (s : State) (l : Lane) (v : Word) : State := s.rowPut l false 0x40800000 v

theorem State.calCtrlPut_eq : s.calCtrlPut l v = s.setReg (calB l) (rowWrite calCtrlRow false (s.reg (calB l)) v) := by
  rw [State.calCtrlPut, State.rowPut, rowAt_calCtrl, homeOf_calCtrl]
  rfl

/-- EN reads as it was written. -/
theorem State.calCtrlPut_en : (s.calCtrlPut l v).fb (calB l) CAL.CTRL_EN = v.getLsbD 0 := by
  have read : (s.calCtrlPut l v).fg (calB l) CAL.CTRL_EN = v.toNat / 2 ^ 0 % 2 ^ 1 := by
    rw [State.calCtrlPut_eq, State.fg, CAL.CTRL_EN, Nat.add_zero, State.reg_setReg_same]
    exact read_rowWrite_rw (f := ⟨0, 1, .rw, true, 0⟩) (rowAt_calCtrl l) (by decide) false _ v rfl
  rw [State.fb, read, BitVec.getLsbD, Nat.testBit]
  simp

theorem State.calCtrlPut_within : s.WithinDrive (s.calCtrlPut l v) := by
  rw [State.calCtrlPut_eq]
  exact (State.WithinDrive.refl s).setReg _ _

end

/-! The axes of a lane begin, or stop -/

/-- t is s but for registers, cells, axes and their live calibration, with the lane's CAL.CTRL.EN as in s. -/
structure State.CalSwitched (s t : State) (l : Lane) : Prop where
  within : s.WithinDrive t
  en : t.fb (calB l) CAL.CTRL_EN = s.fb (calB l) CAL.CTRL_EN

namespace State.CalSwitched

variable {s t u : State} {d : DLane}

theorem refl (s : State) (l : Lane) : s.CalSwitched s l := ⟨.refl s, rfl⟩

theorem trans {l : Lane} (h : s.CalSwitched t l) (g : t.CalSwitched u l) : s.CalSwitched u l :=
  ⟨h.within.trans g.within, g.en.trans h.en⟩

/-- The calibration of an axis is replaced, and its phase set. -/
theorem setPhase (s : State) (d : DLane) (n : Nat) (x : CalSt) (p : Nat) :
    s.CalSwitched ((s.setCal d n x).fs (calA d n) CAL.MAP_PHASE p) d.lane :=
  ⟨((State.WithinDrive.refl s).setCal d n x).fs _ _ _, State.fb_calB_fs_calA (s := s.setCal d n x) p (by decide) (by decide)⟩

theorem calEnd (s : State) (d : DLane) (n : Nat) : s.CalSwitched (s.calEnd d n) d.lane := setPhase s d n {} 0

theorem calBegin (s : State) (d : DLane) (n : Nat) : s.CalSwitched (s.calBegin d n) d.lane := by
  unfold State.calBegin
  dsimp only
  split
  · exact setPhase s d n _ 1
  · exact refl s _

theorem foldl {f : State → Nat → State} {l : Lane} (hf : ∀ (s : State) n, s.CalSwitched (f s n) l) (s : State) (ns : List Nat) :
    s.CalSwitched (ns.foldl f s) l := by
  induction ns generalizing s with
  | nil => exact refl s l
  | cons n ns ih => exact (hf s n).trans (ih _)

end State.CalSwitched

/-- What a write of EN does to every axis of a drive lane. -/
def State.allAxes (s : State) (l : Lane) (f : State → DLane → Nat → State) : State :=
  match asDrive l with
  | some d => (List.range 6).foldl (fun s n => f s d n) s
  | none => s

theorem State.allAxes_switched {f : State → DLane → Nat → State}
    (hf : ∀ (s : State) d n, s.CalSwitched (f s d n) d.lane) (s : State) (l : Lane) :
    s.CalSwitched (s.allAxes l f) l := by
  cases l with
  | A => exact .foldl (fun s n => hf s .A n) s _
  | B => exact .foldl (fun s n => hf s .B n) s _
  | W => exact .refl s _

section

variable {s : State} {l : Lane} {v : Word} (hrun : s.running l = true) (hlock : (s.lane l).locked = false) (hen : v.getLsbD 0 = true)

include hrun hlock hen

theorem execCalEnWrite_of_refused (hcfg : (s.calCtrlPut l v).calCfgOk l = false) : execCalEnWrite l v s =
    .next ((((s.calCtrlPut l v).fs (calB l) CAL.CTRL_EN 0).raiseL l 0xc7 255).allAxes l State.calEnd) := by
  refine (if_neg (by simp [hrun, hlock])).trans ((if_neg (by simp [hen])).trans (if_neg ?_))
  rw [← State.calCtrlPut, hcfg]
  decide

theorem execCalEnWrite_of_ok (hcfg : (s.calCtrlPut l v).calCfgOk l = true) : execCalEnWrite l v s =
    .next (if s.fb (calB l) CAL.CTRL_EN then s.calCtrlPut l v else (s.calCtrlPut l v).allAxes l State.calBegin) :=
  (if_neg (by simp [hrun, hlock])).trans ((if_neg (by simp [hen])).trans (if_pos hcfg))

/-- A refused write leaves the lane without live calibration, and raises 0x0C7. -/
theorem calEnWrite_of_refused (hcfg : (s.calCtrlPut l v).calCfgOk l = false) : Completes (.calEnWrite l v) s fun t =>
    t.fb (calB l) CAL.CTRL_EN = false ∧ LaneEvent t l 0xc7 255 ∧ t.mem = s.mem ∧ t.sk = s.sk := by
  have put := s.calCtrlPut_within l v
  have hreset : (((s.calCtrlPut l v).fs (calB l) CAL.CTRL_EN 0).lane l).reset = false := by
    rw [State.fs_lane]
    exact State.reset_of_running ((put.running l).trans hrun)
  have ended := State.allAxes_switched State.CalSwitched.calEnd (((s.calCtrlPut l v).fs (calB l) CAL.CTRL_EN 0).raiseL l 0xc7 255) l
  refine ⟨_, (exec_calEnWrite ..).trans (execCalEnWrite_of_refused hrun hlock hen hcfg), ?_, ?_, ?_, ?_⟩
  · rw [ended.en, State.raiseL_fb, State.fb_fs_same _ _ _ _ (by decide)]
    rfl
  · obtain ⟨e, he, source⟩ := State.laneEvent_raiseL ((s.calCtrlPut l v).fs (calB l) CAL.CTRL_EN 0) 255 (src := 0xc7) rfl hreset
    exact ⟨e, by rw [ended.within.evq]; exact he, source⟩
  · rw [ended.within.mem, State.raiseL_mem, State.fs_mem, put.mem]
  · rw [ended.within.sk, State.raiseL_sk, State.fs_sk, put.sk]

/-- An allowed write enables live calibration, and raises nothing. -/
theorem calEnWrite_of_ok (hcfg : (s.calCtrlPut l v).calCfgOk l = true) : Completes (.calEnWrite l v) s fun t =>
    t.fb (calB l) CAL.CTRL_EN = true ∧ t.evq = s.evq ∧ t.mem = s.mem ∧ t.sk = s.sk := by
  have begun : (s.calCtrlPut l v).CalSwitched
      (if s.fb (calB l) CAL.CTRL_EN then s.calCtrlPut l v else (s.calCtrlPut l v).allAxes l State.calBegin) l := by
    split
    · exact .refl ..
    · exact State.allAxes_switched State.CalSwitched.calBegin _ l
  have within := (s.calCtrlPut_within l v).trans begun.within
  refine ⟨_, (exec_calEnWrite ..).trans (execCalEnWrite_of_ok hrun hlock hen hcfg), ?_, within.evq, within.mem, within.sk⟩
  rw [begun.en, State.calCtrlPut_en, hen]

end

end Sys2Proof.Machine
end

section
/-! PROOF. The trims of a pump port's comparators (R241, R242). -/

namespace Sys2Proof.Machine

open Sys2Proof

/-! Bits of STALE -/

/-- The stale comparators of port p, one bit each (R245). -/
def State.stale (s : State) (l : DLane) (p : Nat) : Nat := s.fg (calB l.lane + 4 * p) CAL.TRIM_STALE

theorem State.testBit_stale_fs (s : State) (l : DLane) (p v : Nat) (ph : Fin 3) :
    ((s.fs (calB l.lane + 4 * p) CAL.TRIM_STALE v).stale l p).testBit ph.val = v.testBit ph.val := by
  have hph : ph.val < CAL.TRIM_STALE.w := ph.isLt
  rw [State.stale, State.fg_fs_same _ _ _ _ (by decide), Nat.testBit_mod_two_pow, decide_eq_true hph, Bool.true_and]

/-! An off-pulse window (R241) -/

/-- The trim of phase ph's comparator. -/
def PpSt.trim (x : PpSt) (ph : Nat) : TrimSt := famGet (fun _ => ({} : TrimSt)) x.trims ph

/-- The port with the trim of a comparator replaced. -/
def PpSt.withTrim (x : PpSt) (ph : Nat) (t : TrimSt) : PpSt := { x with trims := famSet (fun _ => ({} : TrimSt)) x.trims ph t }

@[simp] theorem PpSt.trim_withTrim (x : PpSt) (ph : Nat) (t : TrimSt) : (x.withTrim ph t).trim ph = t := famGet_famSet_same ..

/-- The trial word with one more bit, the bits before it being the more significant. -/
def TrimSt.next (t : TrimSt) (high : Bool) : Nat := 2 * t.v + (if high then 1 else 0)

/-- One more bit is decided. -/
def TrimSt.grown (t : TrimSt) (high : Bool) : TrimSt := { t with n := t.n + 1, v := t.next high }

/-- The last bit is decided: the result is the word in offset binary (log 66). -/
def TrimSt.done (t : TrimSt) (high : Bool) : TrimSt := { t with n := 0, v := 0, res := some ((t.next high : Int) - 128) }

section

variable {s : State} {l : DLane} {p : Fin 2} {ph : Fin 3} (high : Bool)

/-- The trim of phase ph of port p has one more bit. -/
def State.trimGrown (s : State) (l : DLane) (p ph : Nat) (high : Bool) : State :=
  s.setPp l p ((s.pp l p).withTrim ph (((s.pp l p).trim ph).grown high))

theorem State.trimGrown_trim :
    ((s.trimGrown l p.val ph.val high).pp l p.val).trim ph.val = ((s.pp l p.val).trim ph.val).grown high := by
  rw [State.trimGrown, State.pp_setPp_same, PpSt.trim_withTrim]

/-- The trim of phase ph of port p is complete, and its comparator stale no more. -/
def State.trimDone (s : State) (l : DLane) (p ph : Nat) (high : Bool) : State :=
  (s.setPp l p ((s.pp l p).withTrim ph (((s.pp l p).trim ph).done high))).fs (calB l.lane + 4 * p) CAL.TRIM_STALE
    (Nat.bitwise (fun a b => a && !b) (s.stale l p) (2 ^ ph))

theorem State.trimDone_spec :
    ((s.trimDone l p.val ph.val high).pp l p.val).trim ph.val = (((s.pp l p.val).trim ph.val).done high) ∧
      ((s.trimDone l p.val ph.val high).stale l p.val).testBit ph.val = false ∧
      (s.trimDone l p.val ph.val high).evq = s.evq ∧ (s.trimDone l p.val ph.val high).mem = s.mem ∧
      (s.trimDone l p.val ph.val high).sk = s.sk := by
  refine ⟨?_, ?_, rfl, rfl, rfl⟩
  · rw [State.trimDone, State.fs_pp, State.pp_setPp_same, PpSt.trim_withTrim]
  · rw [State.trimDone, State.testBit_stale_fs, Nat.testBit_bitwise rfl, Nat.testBit_two_pow_self, Bool.not_true, Bool.and_false]

theorem execBemfTrimBit_of_window (hen : s.fb (calB l.lane) CAL.CTRL_PPEN = true) (hdrives : s.ppDrives l p.val = true)
    (hswitches : s.ppSwitches l p.val = true) (hfloats : s.ppFloats l p.val ph.val = false)
    (hcmp : 0 < (s.pp l p.val).pwm.cmpV.getD 0 0)
    (hwin : s.fg (calB l.lane) CAL.PPCFG_TRIMWIN ≤ (s.pp l p.val).pwm.cmpV.getD 0 0) : execBemfTrimBit l p ph high s =
      .next (if ((s.pp l p.val).trim ph.val).n + 1 < 8 then s.trimGrown l p.val ph.val high else s.trimDone l p.val ph.val high) := by
  have guard : ¬ ((!(s.fb (calB l.lane) CAL.CTRL_PPEN && (s.ppDrives l p.val && s.ppSwitches l p.val && !s.ppFloats l p.val ph.val)) ||
      (s.pp l p.val).pwm.cmpV.getD 0 0 = 0 : Bool) ||
      decide ((s.pp l p.val).pwm.cmpV.getD 0 0 < s.fg (calB l.lane) CAL.PPCFG_TRIMWIN)) = true := by
    simp only [hen, hdrives, hswitches, hfloats, hcmp.ne', Nat.not_lt.mpr hwin]
    decide
  refine (if_neg guard).trans ?_
  exact (apply_ite Host.Outcome.next ..).symm

end

/-! A comparator without a trim (R242) -/

section

variable {s : State} {l : DLane} {p : Fin 2} {ph : Fin 3}

/-- The comparator of phase ph is marked stale and raised. -/
def State.trimAged (s : State) (l : DLane) (p : Fin 2) (ph : Fin 3) : State :=
  ((s.fs (calB l.lane + 4 * p.val) CAL.TRIM_STALE (s.stale l p.val ||| 2 ^ ph.val)).fs (calB l.lane) CAL.EVT_BEMF_STALE 1).raiseR
    l.lane 0xc4 p.val (ppRes p.val) ph.val

theorem execCalBemfStale_of_aged (hon : s.ppOn l p.val = true) (hen : s.fb (calB l.lane) CAL.CTRL_PPEN = true)
    (hst : s.ppState l p.val = 4) (hstale : (s.stale l p.val).testBit ph.val = false) :
    execCalBemfStale l p ph s = .next (s.trimAged l p ph) := by
  rw [State.stale] at hstale
  exact if_neg (by simp [hon, hen, hst, hstale])

theorem State.running_of_ppOn (hon : s.ppOn l p.val = true) : s.running l.lane = true := by
  simp only [State.ppOn, Bool.and_eq_true] at hon
  exact hon.1

theorem State.trimAged_spec (hrun : s.running l.lane = true) :
    ((s.trimAged l p ph).stale l p.val).testBit ph.val = true ∧ (s.trimAged l p ph).fb (calB l.lane) CAL.EVT_BEMF_STALE = true ∧
      (s.trimAged l p ph).mem = s.mem ∧ (s.trimAged l p ph).sk = s.sk ∧ (s.trimAged l p ph).evq = s.evq ++
        [s.stamp { coll := .lane l.lane, src := 0xc4, inst := p.val, res := 0x10 + p.val, detail := ph.val }] := by
  have hreset := State.reset_of_running hrun
  have apart : calB l.lane + 4 * p.val + CAL.TRIM_STALE.ofs ≠ calB l.lane + CAL.EVT_BEMF_STALE.ofs := by
    simp only [CAL.TRIM_STALE, CAL.EVT_BEMF_STALE]
    omega
  refine ⟨?_, ?_, ?_, ?_, ?_⟩
  · rw [State.trimAged, State.stale, State.raiseR_fg, State.fg_fs_of_ne _ _ apart, ← State.stale, State.testBit_stale_fs, Nat.testBit_or,
      Nat.testBit_two_pow_self, Bool.or_true]
  · rw [State.trimAged, State.raiseR_fb, State.fb_fs_one _ _ (by decide) (by decide)]
  · rw [State.trimAged, State.raiseR_mem, State.fs_mem, State.fs_mem]
  · rw [State.trimAged, State.raiseR_sk, State.fs_sk, State.fs_sk]
  · rw [State.trimAged, State.raiseR_evq _ p.val _ _ (src := 0xc4) rfl (by simpa using hreset), State.fs_evq, State.fs_evq, State.fs_stamp,
      State.fs_stamp, ppRes]

end

end Sys2Proof.Machine
end

section
/-! PROOF. Live calibration runs its steps. -/

namespace Sys2Proof.Machine

open Sys2Proof

/-- Settles O36, by what each command leaves: one lemma per step of a live calibration. The trim's offset binary is the model's choice
of log 66, the phase as DETAIL of 0x0C4 that of log 64. -/
theorem calibrationStepsRun : Obligations.CalibrationStepsRun := by
  unfold Obligations.CalibrationStepsRun
  refine ⟨?started, refCoef_good_iff, ?kept, ?failed, ?drifted, ?connected, ?overlapped, ?switched, ?refused, ?enabled, ?trimmed, ?stale⟩
  case started =>
    intro l n zero ref s hrun hphase hover hlen hgood
    obtain ⟨u, v, w, spare, next, phase⟩ := s.calMapped_spec l n.val
    have within := s.calStarted_within l n.val (s.calStartRef l zero ref)
    have map {f : Fld} (hf : f.ofs = 0x40) := s.calStarted_fg l n.val (s.calStartRef l zero ref) hf
    exact ⟨_, (exec_calStartDone ..).trans (execCalStartDone_of_good hrun hphase hover hlen hgood), (map rfl).trans u, (map rfl).trans v,
      (map rfl).trans w, (map rfl).trans spare, (map rfl).trans next, (map rfl).trans phase,
      fun m hm => s.calStarted_ref l n.val _ hm, fun m hm => s.calStarted_coef l n.val _ hm, within.evq, within.mem, within.sk⟩
  case kept => exact fun _ _ _ _ _ => calRefDone_of_first
  case failed => exact fun _ _ _ _ _ => calRefDone_of_bad
  case drifted => exact fun _ _ _ _ _ _ hrun hphase hover hz hr => calRefDone_of_moved hrun hphase hover hz hr
  case connected =>
    intro l n s hrun hphase href hstep hnext hwin hbist
    refine ⟨_, (exec_calConnect ..).trans (execCalConnect_of_due hrun hphase href hstep hnext hwin hbist), ?_, ?_, ?_, rfl, rfl, rfl⟩
    · exact State.fg_fs_fits _ _ (by decide) (by decide)
    · rw [State.fs_calx, State.calx_setCal_same, CalSt.connected]
    · exact SameRegistersBut.fs (fun _ _ => rfl) _ (List.mem_singleton.mpr rfl)
  case overlapped => exact fun _ _ _ _ => calOverlapDone_of_alike
  case switched =>
    intro l n w s hrun hcand hsw htarget hnext hwin
    refine ⟨_, (exec_calSwitch ..).trans (execCalSwitch_of_due hrun hcand hsw htarget hnext hwin), ?_, ?_, ?_, rfl, rfl, rfl⟩
    · exact State.fg_fs_fits _ _ (by decide) (State.fg_lt ..)
    · rw [State.fs_calx, State.calx_setCal_same, CalSt.switchedFrom]
    · exact SameRegistersBut.fs (fun _ _ => rfl) _ (List.mem_singleton.mpr rfl)
  case refused => exact fun _ _ _ => calEnWrite_of_refused
  case enabled => exact fun _ _ _ => calEnWrite_of_ok
  case trimmed =>
    intro l p ph high s hen hdrives hswitches hfloats hcmp hwin
    have run := (exec_bemfTrimBit ..).trans (execBemfTrimBit_of_window high hen hdrives hswitches hfloats hcmp hwin)
    by_cases more : ((s.pp l p.val).trim ph.val).n + 1 < 8
    · rw [if_pos more] at run
      have grown := State.trimGrown_trim (s := s) (l := l) (p := p) (ph := ph) high
      exact ⟨_, run, fun _ => ⟨congrArg TrimSt.n grown, congrArg TrimSt.v grown, rfl⟩, fun last => absurd more (Nat.not_lt.mpr last),
        rfl, rfl, rfl⟩
    · rw [if_neg more] at run
      obtain ⟨done, fresh, rest⟩ := State.trimDone_spec (s := s) (l := l) (p := p) (ph := ph) high
      exact ⟨_, run, fun first => absurd first more, fun _ => ⟨congrArg TrimSt.n done, congrArg TrimSt.res done, fresh⟩, rest⟩
  case stale =>
    exact fun l p ph s hon hen hst hstale => ⟨_, (exec_calBemfStale ..).trans (execCalBemfStale_of_aged hon hen hst hstale),
      State.trimAged_spec (State.running_of_ppOn hon)⟩

end Sys2Proof.Machine
end
